-- ==== Sys2Proof/Word.lean ====
section
/-! DEFINITION. The machine word and byte, and the plainest arithmetic on them. -/
namespace Sys2Proof

/-- A register and a data word of the register space: 64 bits (R4). -/
abbrev Word := BitVec 64

/-- A byte of a store, a frame or a message. -/
abbrev Byte := BitVec 8

end Sys2Proof
end

