-- ==== Sys2Proof/Machine/Data.lean ====
section
/-! DEFINITION. The data that commands carry and that the part sends out: frames, protocol messages, images, outputs. -/
namespace Sys2Proof.Machine

/-- The way a host access reaches the register space: through BAR0 of a function, or through SVC_SPI (R22, R368, R379). -/
inductive Path where
  | pf (n : Fin 6)
  | spi
  deriving DecidableEq, Repr

/-- A tick source, or the RTC oscillator where the frequency monitor compares it (R40, R44). -/
inductive Source where
  | xo | ocxo | atom | rtc
  deriving DecidableEq, Repr

/-- The encoding of a source in TB_SRC_CFG and TB_STAT (R60). -/
def Source.code : Source → Nat
  | .xo => 0 | .ocxo => 1 | .atom => 2 | .rtc => 3

/-- The source a two-bit field names; 0b11 acts as XO where R60 says so. -/
def Source.ofCode : Nat → Source
  | 1 => .ocxo | 2 => .atom | _ => .xo

/-- Where a message of the time protocols goes to or comes from (R250, R256): transport 0 IEEE 802.3, 1 UDP/IPv4, 2 UDP/IPv6. -/
structure Peer where
  transport : Nat := 1
  mac : List Byte := []
  ip : List Byte := []
  udp : Nat := 0
  vlan : Option Nat := none
  deriving DecidableEq, Repr

/-- What a port sends: with a peer, the message the transport carries to it; without one, an Ethernet frame from the destination address
up to the FCS, which the MAC appends (R202). -/
structure Msg where
  peer : Option Peer := none
  bytes : List Byte := []
  deriving DecidableEq, Repr

/-- Frame length L of a message, from the destination address to the FCS, before padding (R199, R208). -/
def Msg.frameLen (m : Msg) : Nat :=
  match m.peer with
  | none => m.bytes.length + 4
  | some p => 14 + (if p.vlan.isSome then 4 else 0) + (match p.transport with | 0 => 0 | 1 => 28 | _ => 48) + m.bytes.length + 4

/-- An ingress stamp (R217): time in State.now units. -/
structure TStamp where
  time : Nat := 0
  valid : Bool := false
  held : Bool := false
  deriving DecidableEq, Repr

/-! ## Protocol messages received (R250 to R277) -/

/-- The AUTHENTICATION TLV of a received message (R260, R261): whether it is the last TLV, its parameters, its ICV and the bytes that the ICV
covers. -/
structure AuthTlv where
  last : Bool
  indicator : Nat
  spp : Nat
  keyId : Nat
  icv : List Byte
  covered : List Byte
  deriving DecidableEq, Repr

/-- What every received PTP message carries. src is the ten bytes of sourcePortIdentity; corr is the correctionField, 2^-16 ns. -/
structure PtpHead where
  peer : Peer
  domain : Nat
  src : List Byte
  seq : Nat
  corr : Int
  auth : Option AuthTlv := none
  deriving DecidableEq, Repr

/-- A Sync: origin timestamp, twoStepFlag, and UNB and bound of its Bursis TLV (R258, R259, R271). -/
structure PtpSync where
  head : PtpHead
  twoStep : Bool
  sec : Nat
  ns : Nat
  bursis : Option (Bool × Nat) := none
  deriving DecidableEq, Repr

/-- A Delay_Resp: requestingPortIdentity and receive timestamp. -/
structure PtpDelayResp where
  head : PtpHead
  requester : List Byte
  sec : Nat
  ns : Nat
  deriving DecidableEq, Repr

/-- An Announce (R252, R258, R259, R274). -/
structure PtpAnnounce where
  head : PtpHead
  gmId : List Byte
  gmClass : Nat
  accuracy : Nat
  variance : Nat
  prio1 : Nat
  prio2 : Nat
  steps : Nat
  utcOffset : Int
  utcValid : Bool
  leap61 : Bool
  leap59 : Bool
  timeTraceable : Bool
  deriving DecidableEq, Repr

/-- A unicast negotiation TLV in a Signaling message: messageType, logInterMessagePeriod, durationField (R255, R257, R258). -/
structure PtpUnicast where
  head : PtpHead
  msgType : Nat
  logPeriod : Int
  duration : Nat
  deriving DecidableEq, Repr

/-- The NTS extension fields of an NTP request (R269): Unique Identifier, cookies, placeholders, and the authenticator with its nonce, text
and associated data. -/
structure NtsFields where
  uid : List Byte
  cookies : List (List Byte)
  placeholders : Nat
  auth : Option (List Byte × List Byte × List Byte)
  deriving DecidableEq, Repr

/-- An NTP packet received (R263, R264, R272). -/
structure NtpRequest where
  peer : Peer
  mode : Nat
  version : Nat
  length : Nat
  poll : Nat
  transmit : List Byte
  legacyMac : Bool
  bursis : Bool
  nts : Option NtsFields
  deriving DecidableEq, Repr

/-- An NTP response but for what depends on its appointed time (R264, R269). rx is t_in; nts holds the Unique Identifier, the
server-to-client key, the nonce and the plain text that the authenticator encrypts. -/
structure NtpReply where
  peer : Peer
  version : Nat
  poll : Nat
  origin : List Byte
  rx : Nat
  held : Bool
  cls : Nat
  bursis : Bool
  nts : Option (List Byte × List Byte × List Byte × List Byte) := none
  deriving DecidableEq, Repr

/-! ## GNSS (R131 to R146) -/

/-- One satellite of a solution epoch as the channels and the solver give it. C/N0 in 0.01 dB-Hz, elevation in degrees, the smoothed post-fit
residual and the broadcast accuracy in ps; eph is the TAI second of its ephemeris, compact what the record keeps of it. -/
structure GnSat where
  pair : Nat
  sys : Nat
  prn : Nat
  cn0A : Nat
  bandB : Bool := false
  cn0B : Nat := 0
  elev : Nat := 0
  healthy : Bool := true
  eph : Option Nat := none
  resid : Int := 0
  accuracy : Nat := 0
  compact : List Byte := []
  deriving DecidableEq, Repr

/-- What the solver finds at a solution epoch or in a snapshot: the solved system time as a broadcast week of some bits, the time of week and
its sub-second part in ps; the position in mm where it is solved; the broadcast UTC parameters (polynomial in ps, current leap offset as of
GPS); AGC gains in 0.01 dB; and navigation data decoded since the last epoch, by its place in the GNSS record. -/
structure GnEpoch where
  week : Nat
  weekBits : Nat := 10
  tow : Nat
  ps : Nat
  sats : List GnSat
  position : Option (Int × Int × Int) := none
  posUnc : Nat := 0
  utcPoly : Int := 0
  utcLeap : Int := 18
  agcA : Int := 0
  agcB : Int := 0
  nav : List (Nat × Byte) := []
  deriving DecidableEq, Repr

/-! ## Fodra images (R225 to R242) -/

/-- A traffic class of the ports section: what it matches, its number, whether it is a time class, and its host queue (R231, R278). -/
structure ClassRule where
  ether : Nat
  proto : Option Nat
  udp : Option Nat
  cls : Nat
  timed : Bool
  queue : Nat
  deriving DecidableEq, Repr

/-- A Glacier memory partition (R236, R304): kind 0 table, 1 journal ring, 2 buffer. -/
structure PartRec where
  id : Nat
  base : Nat
  size : Nat
  kind : Nat
  deriving DecidableEq, Repr

/-- The operation of a compute cell (R229). -/
inductive AluOp where
  | add | sub | mul | shl | shr | and | or | xor | cmp | timeAdd | byteWrite
  deriving DecidableEq, Repr

/-- Where a table cell's entries lie (R229). -/
inductive TableSpace where
  | sram (base size : Nat)
  | glacier (part : Nat)
  deriving DecidableEq, Repr

/-- What a table cell does. -/
inductive TableAct where
  | read | write | cas
  deriving DecidableEq, Repr

/-- The operation of a crypto call (R232). -/
inductive CxOp where
  | sivSeal | sivOpen | cmacGen | cmacVerify | sha | hmacGen | hmacVerify | hmacGen128 | hmacVerify128 | sign | verify
  deriving DecidableEq, Repr

/-- What a stamp cell does (R229). -/
inductive StampAct where
  | appoint (notBefore : Option Nat) | fetch | sample
  deriving DecidableEq, Repr

/-- Where an emit cell hands its message (R229). -/
inductive EmitTarget where
  | port | queue (q : Nat) | floe (f : Nat) | drop
  deriving DecidableEq, Repr

/-- A cell's operation with its operands; the spec gives an 18-byte operand block and no layout of it (log entry 7). -/
inductive CellOp where
  /-- byte fields (buffer offset, V register, byte of it); outputs by 2 * class + tag -/
  | parse (fields : List (Nat × Nat × Nat)) (outs : List Nat)
  /-- V register, mask, constants with their outputs -/
  | compare (v mask : Nat) (arms : List (Nat × Nat))
  /-- operation, first V register, second V register or else the constant, destination: V0 to V4, or 5 for the deadline word -/
  | compute (op : AluOp) (a : Nat) (b : Option Nat) (imm dst : Nat)
  /-- entry length, V register of the index, action, buffer offsets of the data and of the expected bytes of a compare-and-swap -/
  | table (space : TableSpace) (len index : Nat) (act : TableAct) (buf expect : Nat)
  /-- crypto port of the Floe, operation, slot, and buffer ranges: associated data, input, authenticator or nonce, output offset -/
  | crypto (port : Nat) (op : CxOp) (slot adOff adLen inOff inLen tagOff outOff : Nat)
  /-- action and first of the two V registers it writes -/
  | stamp (act : StampAct) (v : Nat)
  | emit (target : EmitTarget)
  deriving DecidableEq, Repr

/-- A cell record (R236). -/
structure CellRec where
  op : CellOp
  inputs : List Nat
  outputs : List Nat
  deriving DecidableEq, Repr

/-- A channel record: number, and the Floes it passes; one Floe for a channel between cells of one Floe (R225, R236). -/
structure ChanRec where
  id : Nat
  route : List Nat
  deriving DecidableEq, Repr

/-- A Floe graph section (R236). -/
structure Graph where
  floe : Nat
  sram : Nat
  cells : List CellRec
  chans : List ChanRec
  deriving DecidableEq, Repr

/-- A Fodra image as staged: its bytes, and what its sections hold where the spec gives no byte layout (R235, R236; log entry 7). -/
structure Image where
  bytes : List Byte
  /-- multiplexing code of GPIO0 to GPIO15 -/
  pins : List Nat := []
  /-- MODE, FEC, TRAIN of each lane -/
  lanes : List (Nat × Nat × Nat) := []
  macs : List (Nat × Nat) := []
  classes : List ClassRule := []
  bufSize : Nat := 2048
  presets : List (Nat × Nat) := []
  parts : List PartRec := []
  graphs : List Graph := []
  dist : List Nat := []
  ttl : Option Nat := none
  gnssWeek : Nat := 0
  leaps : List (Nat × Int) := []
  /-- partitions of the session table, the session index and the rate-limiter buckets -/
  sessions : Nat := 0
  index : Nat := 0
  buckets : Nat := 0
  /-- partition of the GNSS snapshot area (R142) -/
  snapshot : Nat := 0
  /-- OM, entry, value of the band tables -/
  bands : List (Nat × Nat × Nat) := []
  /-- SPI words of the two front-end scripts -/
  scripts : List (List Nat) := [[], []]
  /-- GPIOs assigned as wake inputs -/
  wakeGpios : List Nat := []
  ranks : List Nat := []
  deriving DecidableEq, Repr

/-! ## Starts, repair and the Rime pass -/

/-- A firmware object whose signature the boot ROM has verified (R380). -/
structure Firmware where
  version : Nat
  rollback : Nat
  deriving DecidableEq, Repr

/-- What a start meets: attempts at the root with their corrected bits, or none (R283); the level of GPIO15 (R380); the firmware of slots A and
B, none where its signature fails; the retained firmware passes its CRC (R354). -/
structure Boot where
  puf : List (Option Nat) := []
  host : Bool := false
  fwA : Option Firmware := none
  fwB : Option Firmware := none
  retained : Bool := true
  deriving DecidableEq, Repr

/-- What a Rime pass finds (R337 to R339): failing lanes of each kind as masks, failing spares as (bank, spare), failing channel pairs, an update
deadline that the shadow core missed, band entries refitted as (OM, entry, MIN, MAX), and a refit that found no code. -/
structure RimeFound where
  lanes : List Nat := [0, 0, 0]
  spares : List (Nat × Nat) := []
  pairs : List Nat := []
  missed : Bool := false
  bands : List (Nat × Nat × Nat × Nat) := []
  bandFail : Bool := false
  deriving DecidableEq, Repr

/-- An uncorrectable byte that the SRAM scrubber meets (R309, R311). -/
inductive SramHit where
  | floe (floe off : Nat)
  | mailbox (fn : Fin 6)
  | slot (k : Fin 128)
  | core
  | firn (off : Nat) (v : Byte)
  | other (mem off : Nat)
  deriving DecidableEq, Repr

end Sys2Proof.Machine
end

