-- ==== Sys2Proof/Syntax.lean ====
section
/-! DEFINITION. The commands the block takes: one constructor per row of spec/opcode_table.json, with the row's operands. -/
namespace Sys2Proof

open Machine

/-- A command of the block: those with operands in the order of the table, then those without. -/
inductive Instr where
  /-- REGISTER_WRITE (R5): A write to a register that has no row of its own, applied under its access codes, with reserved bits ignored and RWL fields refused after the seal. -/
  | registerWrite (path : Path) (off : BitVec 25) (width : BitVec 4) (v : Word)
  /-- RC_FIELD_READ (R5): A read of a register holding RC fields returns their values and clears them, with events in the same access counted after the clear. -/
  | rcFieldRead (path : Path) (off : BitVec 25) (width : BitVec 4)
  /-- FOREIGN_ACCESS (R368): An access by a function to a block it does not own returns all-ones on a read, drops a write and writes event 0x0B02. -/
  | foreignAccess (path : Path) (off : BitVec 25) (write : Bool)
  /-- TIME_WORD_SEC_READ (R25): A read of a SEC register latches its NSF partner for the next NSF read. -/
  | timeWordSecRead (path : Path) (off : BitVec 25)
  /-- MONITOR_WINDOW_END (R44): At the end of each 1 ms window the frequency monitor judges every running source and updates failure and eligibility. -/
  | monitorWindowEnd (xo ocxo atom rtc : Option Int)
  /-- SOURCE_MISSING_EDGE (R44): No edge of a source arrives within TB_LIMITS.MISS, so the source fails its monitor. -/
  | sourceMissingEdge (src : Source)
  /-- ATOM_LOCK_CHANGE (R45): ATOM_LOCK changes level, changing ATOM eligibility and failing ATOM if it is active. -/
  | atomLockChange (level : Bool)
  /-- OCXO_WARM_CHANGE (R46): OCXO_WARM changes level, completing warm-up or making the OCXO ineligible under WARM_MODE. -/
  | ocxoWarmChange (level : Bool)
  /-- TB_SRC_REQ_GO (R51): A write of TB_SRC_REQ with GO = 1 requests a migration to TARGET, or is rejected with event 0x0206. -/
  | tbSrcReqGo (path : Path) (v : Word)
  /-- MIG_COMPARE_END (R49): The MIG_CMP window ends and the ratio r of the new tick against the old is stored in TB_MIG_RATIO. -/
  | migCompareEnd (ratio : Int) (newTicks oldTicks : Nat)
  /-- THERM_SAMPLE (R59): The XO_THERM ADC takes a sample at 256 Hz, updating CODE, AVG and the OPEN detection. -/
  | thermSample (microvolts : Nat)
  /-- IE_EDGE (R64): A qualifying edge on an interval-engine channel is stamped, converted and delivered to the buffer, owner and statistics engines. -/
  | ieEdge (ch : Fin 32) (rising : Bool) (back : Nat) (code : Nat)
  /-- INTERVAL_START_TIMEOUT (R69): A start still pending 140 s after its stamp is discarded and counted in UNPAIRED. -/
  | intervalStartTimeout (ch : Fin 32)
  /-- GATE_TRANSITION (R75): A gate input transition takes effect and opens or closes the window of its channels. -/
  | gateTransition (gate : Fin 2) (level : Bool)
  /-- IE_RES_RAW_READ (R74): A read of IE_CHn_RES_RAW removes the oldest result and latches its companion registers. -/
  | ieResRawRead (path : Path) (ch : Fin 32)
  /-- IE_ST_CFG_WRITE (R79): A write of IE_STm_CFG with EN = 1 clears the accumulators and starts a block, and EN = 0 stops without latching. -/
  | ieStCfgWrite (path : Path) (m : Fin 8) (v : Word)
  /-- IE_ST_STAT_READ (R80): A read of IE_STm_STAT latches the engine's result registers. -/
  | ieStStatRead (path : Path) (m : Fin 8)
  /-- IE_CAL_REQ_GO (R82): A write of IE_CAL_REQ with GO = 1 queues channel CH for calibration. -/
  | ieCalReqGo (path : Path) (ch : BitVec 5)
  /-- IE_CAL_REQ_ALL (R82): A write of IE_CAL_REQ with ALL = 1 queues every enabled channel for calibration. -/
  | ieCalReqAll (path : Path) (ch : BitVec 5)
  /-- CAL_PERIOD_EXPIRY (R82): A channel's calibration becomes older than PERIOD and is queued for automatic calibration. -/
  | calPeriodExpiry (ch : Fin 32)
  /-- CAL_TEMP_TRIGGER (R82): The die temperature moves by more than TEMP_DELTA from a channel's calibration value and the channel is queued or marked stale. -/
  | calTempTrigger (ch : Fin 32)
  /-- CAL_COMPLETE (R81): The calibration sequence ends and the new table and UNC take effect, or the calibration is rejected with event 0x0211. -/
  | calComplete (distinct : Nat) (below : List Nat) (known : List (List (Nat × Nat)))
  /-- CAL_AGE_STALE (R85): A channel's calibration age exceeds twice PERIOD and it becomes stale, with event 0x0212 the first time. -/
  | calAgeStale (ch : Fin 32)
  /-- REF_PRESENCE_TIMEOUT (R89): 1.5 × P (or 2 × P) passes after a reference's last stamped edge and its presence test fails. -/
  | refPresenceTimeout (ch : Fin 32) (two : Bool)
  /-- RS_WINDOW_END (R92): A slot's observation window ends, forming y, d, the slope flag, the excess and the bandwidth adaptation. -/
  | rsWindowEnd (n : Fin 16)
  /-- RS_SEL_WRITE (R97): A write of RS_SEL is judged against slot states and accepted, or rejected with event 0x0227. -/
  | rsSelWrite (path : Path) (v : Word)
  /-- RS_REF_CFG_WRITE (R93): A write of RS_REFn_CFG that changes TYPE loads the new type's default limits. -/
  | rsRefCfgWrite (path : Path) (n : Fin 16) (v : Word)
  /-- TK_MODE_WRITE (R121): A write of TK_CTL.MODE moves the core between MANUAL and AUTO and writes event 0x0408. -/
  | tkModeWrite (path : Path) (v : Word)
  /-- TK_MAN_PHASE_WRITE (R121): A write of TK_MAN_PHASE in MANUAL adds to TK_SLEW_LEFT, or is dropped outside MANUAL. -/
  | tkManPhaseWrite (path : Path) (v : Word)
  /-- TK_SET_NSF_WRITE (R25): A write of TK_SET_NSF is held until TK_SET_SEC is written. -/
  | tkSetNsfWrite (path : Path) (v : Word)
  /-- TK_SET_SEC_WRITE (R121): A write of TK_SET_SEC in MANUAL completes the pair for setting at the next update, or is dropped outside MANUAL. -/
  | tkSetSecWrite (path : Path) (v : Word)
  /-- CHECKPOINT_WRITE (R122): At every second schedule point the active core writes a checkpoint to the alternate Firn slot. -/
  | checkpointWrite (sealed : Bool)
  /-- GN_RATE_CHECK (R129): Once per second each enabled band's sample clock is measured and the band is put in or out of use. Of band A's and band
  B's window: the edges between its first and its last that came without an IE_EDGE of their own. -/
  | gnRateCheck (a b : Nat)
  /-- GN_FE_SPI_TRANSFER (R130): A write of GN_FE_SPI with GO = 1 starts an SPI transfer, or is dropped while busy. -/
  | gnFeSpiTransfer (path : Path) (v : Word)
  /-- GN_FE_SPI_DONE (R130): An SPI transfer completes, clearing BUSY and returning the received bits. -/
  | gnFeSpiDone (bits : BitVec 32)
  /-- GN_CFG_WRITE (R146): A write of GN_CFG that changes EN from 0 to 1 runs the front-end script and makes a start. -/
  | gnCfgWrite (path : Path) (v : Word)
  /-- GN_SOLUTION_EPOCH (R133): At each solution epoch the baseband forms a timing solution, its offset and uncertainty, and applies exclusion and the spoof guard. -/
  | gnSolutionEpoch (e : GnEpoch)
  /-- GN_CHANNEL_SEARCH_TIMEOUT (R147): A channel pair that lost lock returns to acquisition after 30 s of local search. -/
  | gnChannelSearchTimeout (p : Fin 128)
  /-- GN_EVIDENCE_EXPIRY (R140): A spoof evidence flag clears 60 s after its last cause. -/
  | gnEvidenceExpiry (which : Fin 2)
  /-- GN_FLAKE_WRITE (R142): A write of GN_FLAKE.EN enters or leaves Flake mode, with event 0x030A. -/
  | gnFlakeWrite (path : Path) (v : Word)
  /-- GN_CAPTURE_END (R143): A snapshot capture ends and is handed to the batch solver and export, or dropped with event 0x030B. -/
  | gnCaptureEnd (a b : List Byte) (agcA agcB : Int)
  /-- GN_SNAPSHOT_SOLVED (R143): The batch correlator finishes solving a snapshot and delivers one solution. -/
  | gnSnapshotSolved (e : GnEpoch)
  /-- GN_POS_WRITE (R138): A write of GN_POS_X, Y or Z is taken in fixed mode and dropped otherwise. -/
  | gnPosWrite (path : Path) (axis : Fin 3) (v : Word)
  /-- GN_POS_MODE_WRITE (R138): A write of GN_POS_CFG.MODE enters survey-in, fixed or dynamic positioning. -/
  | gnPosModeWrite (path : Path) (v : Word)
  /-- GN_LEAP_DATA_DECODED (R137): Leap-second data of LEAP_SRC is decoded, offered to the leap table and checked against Δ. -/
  | gnLeapDataDecoded (sys : BitVec 2) (current future : Int) (week day : Nat)
  /-- ATTESTATION_COMPLETE (R169): The signed attestation replaces MB_ATT0 to MB_ATT19, or fails with event 0x0417. -/
  | attestationComplete (ok : Bool)
  /-- MB_ATT_STAT_READ (R173): A read of MB_ATT_STAT latches MB_ATT0 to MB_ATT19. -/
  | mbAttStatRead (path : Path)
  /-- MB_REF_CAL_WRITE (R168): A write of MB_REFn_CAL of the active slot produces a trace record and takes effect at the next publication. -/
  | mbRefCalWrite (path : Path) (n : Fin 16) (v : Word)
  /-- OM_CFG_WRITE (R177): A write of OS_OMn_CFG stops the OM's outputs, checks the configuration and looks up a band. -/
  | omCfgWrite (path : Path) (n : Fin 4) (v : Word)
  /-- OM_LOCK_DECLARED (R177): LOCKTIME passes after the band was applied and the OM declares lock, with event 0x0501. -/
  | omLockDeclared (n : Fin 4)
  /-- CLK_CFG_WRITE (R182): A write of OS_CLKk_CFG enables, disables or restarts a clock output. -/
  | clkCfgWrite (path : Path) (k : Fin 8) (v : Word)
  /-- CLK_OUT_START (R180): A clock output starts at its start point with a full-width high phase. -/
  | clkOutStart (k : Fin 8)
  /-- CLK_OUT_STOP (R182): A clock output stops at its next divider boundary after a disable or reconfiguration. -/
  | clkOutStop (k : Fin 8)
  /-- CLK_DLY_WRITE (R181): A write of OS_CLKk_DLY sets the delay, ramps FINE while enabled, or rejects COARSE with event 0x0506. -/
  | clkDlyWrite (path : Path) (k : Fin 8) (v : Word)
  /-- PPS_CFG_WRITE (R183): A write of OS_PPSk_CFG enables or disables a pulse output and sets its grid. -/
  | ppsCfgWrite (path : Path) (k : Fin 4) (v : Word)
  /-- PPS_PULSE (R183): A pulse output emits a pulse at a grid point. -/
  | ppsPulse (k : Fin 4)
  /-- PPS_ALIGN_MISS (R184): Three consecutive alignment edges are missing in track mode, with event 0x0507. -/
  | ppsAlignMiss (k : Fin 4)
  /-- TOD_IN_MESSAGE (R187): A message received on TOD_IN is checked and accepted or counted as bad. -/
  | todInMessage (l : List Byte)
  /-- LN_LANE_CFG_WRITE (R194): A write of LN_LANEn_CFG.EN turns a lane on or off. -/
  | lnLaneCfgWrite (path : Path) (n : Fin 6) (v : Word)
  /-- LN_SIGNAL_PRESENT (R194): Signal appears on a DOWN lane, which moves to HUNT once training is done or abandoned. -/
  | lnSignalPresent (n : Fin 6)
  /-- LN_SIGNAL_LOSS (R194): The signal detector reports a loss of signal and the lane stops judging headers. -/
  | lnSignalLoss (n : Fin 6)
  /-- LN_SIGNAL_ABSENT_TIMEOUT (R194): Signal stays absent for more than 1 µs and the lane goes DOWN with LINK cause 1. -/
  | lnSignalAbsentTimeout (n : Fin 6)
  /-- LN_BLOCK_LOCK (R194): LOCK_CNT consecutive valid headers bring a lane to LOCKED. -/
  | lnBlockLock (n : Fin 6) (headers : List Bool)
  /-- LN_BLOCK_LOCK_LOSS (R194): UNLOCK_BAD invalid headers within UNLOCK_WIN return a lane to HUNT. -/
  | lnBlockLockLoss (n : Fin 6) (headers : List Bool)
  /-- LN_FEC_LOCK_CHANGE (R194): FEC lock is gained or lost, changing LINK. -/
  | lnFecLockChange (n : Fin 6) (held : Bool)
  /-- LN_FAULT_RECEIVED (R190): Local or remote fault is received or ends, changing LINK. -/
  | lnFaultReceived (n : Fin 6) (fault : Bool)
  /-- LN_TRAINING_COMPLETE (R193): Start-up training completes and the lane moves towards HUNT. -/
  | lnTrainingComplete (n : Fin 6) (pre : BitVec 4) (main : BitVec 6) (post : BitVec 5)
  /-- LN_TRAINING_TIMEOUT (R193): Training does not complete within 500 ms, writing event 0x0603 and retrying or falling back to static coefficients. -/
  | lnTrainingTimeout (n : Fin 6)
  /-- LN_EQ_WRITE (R192): A write of LN_LANEn_EQ sets the static taps, or is dropped with event 0x0605 when their sum exceeds 63. -/
  | lnEqWrite (path : Path) (n : Fin 6) (v : Word)
  /-- LN_FEC_UNCORRECTABLE (R195): An uncorrectable FEC block or codeword is counted and its frame marked bad. The blocks or
  codewords: corrected, and uncorrectable. -/
  | lnFecUncorrectable (n : Fin 6) (blocks : Nat × Nat)
  /-- LN_IDLE_ENTER (R197): A write of IDLE = 1 squelches the transmitter after the frame in transmission. -/
  | lnIdleEnter (path : Path) (n : Fin 6)
  /-- LN_IDLE_EXIT (R197): A write of IDLE = 0 unsquelches the transmitter and leaves electrical idle by the fast-exit sequence. -/
  | lnIdleExit (path : Path) (n : Fin 6)
  /-- LPI_RECEIVED (R196): Received LPI is treated as idle, with event 0x0606 the first time after link-up. -/
  | lpiReceived (n : Fin 6) (on : Bool)
  /-- WAKE_PATTERN_MATCH (R198): A frame on LN4 in Névé matches the wake pattern and begins Névé exit. -/
  | wakePatternMatch (bytes : List Byte) (b : Boot)
  /-- MAC_RX_FRAME (R199): A received frame is classified, filtered, stamped and delivered, dropped or acted on. -/
  | macRxFrame (p : Fin 6) (bytes : List Byte) (back ui : Nat)
  /-- PAUSE_EXPIRY (R201): A pause interval ends and the transmitter may start frames. -/
  | pauseExpiry (p : Fin 6)
  /-- AP_SLOT_RELEASE (R209): A program releases a booked slot, which becomes free at once. -/
  | apSlotRelease (p : Fin 6) (handle : Nat)
  /-- AP_ARRIVAL_DEADLINE (R210): A slot not loaded at its arrival deadline becomes a miss with reason late from the fabric. -/
  | apArrivalDeadline (p : Fin 6) (handle : Nat)
  /-- AP_GRID_POINT (R212): At a booked grid point the frame starts, or the appointment is a miss by reason. -/
  | apGridPoint (p : Fin 6)
  /-- NA_FRAME_START (R215): A non-appointed frame starts when it fits before the next booked slot. -/
  | naFrameStart (p : Fin 6)
  /-- NA_WAIT_EXPIRY (R215): A non-appointed frame that has waited NA_WAIT is discarded and counted. -/
  | naWaitExpiry (p : Fin 6)
  /-- AP_CAL_REQUEST (R219): A write of AP_CAL_REQ with GO = 1 starts latency calibration of a lane in DOWN or IDLE. -/
  | apCalRequest (path : Path) (v : Word)
  /-- LAT_CAL_COMPLETE (R220): Latency calibration ends and writes the latencies with CAL_OK, or is rejected with event 0x0711. -/
  | latCalComplete (p : Fin 6) (txLat rxLat : BitVec 32) (txSd rxSd : Nat)
  /-- DISTRIBUTOR_INGRESS (R231): The ingress distributor takes a delivered frame and makes a token for a Floe or passes it to the host queues. -/
  | distributorIngress (p : Fin 6)
  /-- PARSE_CELL (R229): A parse cell copies byte fields into V registers and routes the token. -/
  | parseCell (f : Fin 48) (c : Fin 64)
  /-- MATCH_CELL (R229): A match cell compares a masked V register with constants and routes the token. -/
  | matchCell (f : Fin 48) (c : Fin 64)
  /-- COMPUTE_CELL (R229): A compute cell performs one 64-bit operation and routes the token. -/
  | computeCell (f : Fin 48) (c : Fin 64) (input : Fin 2)
  /-- TABLE_CELL (R230): A table cell reads, writes or compare-and-swaps a table entry and routes the token to hit, miss or fault. -/
  | tableCell (f : Fin 48) (c : Fin 64)
  /-- CRYPTO_CALL (R232): A crypto call cell issues an operation on a crypto port and waits for a lane. -/
  | cryptoCall (f : Fin 48) (c : Fin 64)
  /-- CRYPTO_LANE_GRANT (R233): A lane arbiter grants a free lane to the oldest waiting request. -/
  | cryptoLaneGrant (kind : Fin 3)
  /-- CRYPTO_OP_COMPLETE (R232): A crypto operation completes and returns its status to the calling cell. -/
  | cryptoOpComplete (kind : Fin 3) (lane : Nat)
  /-- CRYPTO_LANE_REVOKE (R233): A lane held beyond CX_HOLD_MAX is revoked with status 0x09 and event 0x0726. -/
  | cryptoLaneRevoke (kind : Fin 3) (lane : Nat)
  /-- STAMP_CELL (R229): A stamp cell requests an appointment, fetches an ingress stamp or samples corrected time. -/
  | stampCell (f : Fin 48) (c : Fin 64)
  /-- EMIT_CELL (R229): An emit cell hands a message to a port, a host queue, another Floe or a counted drop. -/
  | emitCell (f : Fin 48) (c : Fin 64)
  /-- TOKEN_LATE (R227): The deadline gate finds a token late and it is dropped and counted. -/
  | tokenLate (tok : Nat)
  /-- IMAGE_RELOAD_REQUEST (R382): A write of BT_RELOAD with GO = 1 and KIND = 0 starts an image reload, or is refused with event 0x0B11. -/
  | imageReloadRequest (path : Path) (v : Word)
  /-- BT_LOAD_FIRMWARE (R381): A write of BT_RELOAD with KIND = 1 in HOST_WAIT loads firmware from the host buffer. -/
  | btLoadFirmware (path : Path) (v : Word)
  /-- HOST_FETCH_COMPLETE (R381): A host-boot DMA fetch of a firmware or image object completes. -/
  | hostFetchComplete (fw : Option Firmware)
  /-- IMAGE_CHECK_COMPLETE (R239): The loader finishes checking a staged image and rejects it or accepts it. -/
  | imageCheckComplete (img : Image)
  /-- PTP_SYNC_INSTANT (R253): A grandmaster port issues a Sync at its multicast interval or session instant. -/
  | ptpSyncInstant (p : Fin 6) (e : Option (BitVec 22))
  /-- PTP_ANNOUNCE_INSTANT (R252): A grandmaster port issues an Announce at its interval or session instant. -/
  | ptpAnnounceInstant (p : Fin 6) (e : Option (BitVec 22))
  /-- PTP_DELAY_REQ (R254): A received Delay_Req is answered with a Delay_Resp or dropped. -/
  | ptpDelayReq (p : Fin 6) (stamp : TStamp) (h : PtpHead) (pdelay : Bool)
  /-- PTP_UNICAST_REQUEST (R255): A REQUEST_UNICAST_TRANSMISSION is granted or denied and the session table updated. -/
  | ptpUnicastRequest (p : Fin 6) (stamp : TStamp) (u : PtpUnicast)
  /-- PTP_CANCEL (R257): A received CANCEL ends a grant and is acknowledged. -/
  | ptpCancel (p : Fin 6) (u : PtpUnicast)
  /-- GRANT_EXPIRY (R257): A grant reaches its expiry second and ends, freeing the entry when no grant remains. -/
  | grantExpiry (e : BitVec 22) (k : Fin 3)
  /-- PT_PORT_PTP_WRITE (R251): A write of PT_PORTp_PTP sets the port's PTP role and profile, loading profile defaults or cancelling grants. -/
  | ptPortPtpWrite (path : Path) (p : Fin 6) (v : Word)
  /-- PTP_SYNC_RECEIVED (R258): A client port receives a Sync from its upstream. -/
  | ptpSyncReceived (p : Fin 6) (stamp : TStamp) (m : PtpSync)
  /-- PTP_DELAY_RESP_RECEIVED (R258): A client port receives a Delay_Resp and completes an exchange offset. -/
  | ptpDelayRespReceived (p : Fin 6) (stamp : TStamp) (m : PtpDelayResp)
  /-- PTP_ANNOUNCE_RECEIVED (R259): A client port receives an Announce and judges the upstream for acceptance. -/
  | ptpAnnounceReceived (p : Fin 6) (a : PtpAnnounce)
  /-- PTP_GRANT_RECEIVED (R258): A client port receives a GRANT from its upstream. -/
  | ptpGrantReceived (p : Fin 6) (u : PtpUnicast)
  /-- CLIENT_DELAY_REQ_SEND (R258): A client port sends a Delay_Req at its interval. -/
  | clientDelayReqSend (p : Fin 6)
  /-- CLIENT_GRANT_RENEW (R258): Half a grant's duration passes and the client port requests its renewal. -/
  | clientGrantRenew (p : Fin 6) (k : Fin 3)
  /-- PTP_RECEIPT_TIMEOUT (R259): Sync or Announce receipt times out and the client's PTP slot is no longer present. -/
  | ptpReceiptTimeout (p : Fin 6) (ann : Bool)
  /-- NTP_REQUEST (R263): An NTP request is answered, rate-limited, sent to the host or dropped. -/
  | ntpRequest (p : Fin 6) (stamp : TStamp) (r : NtpRequest) (q : Nat) (frame : List Byte)
  /-- LEAP_INSERT (R273): A write of PT_LEAP_WR with OP = insert adds or replaces a leap entry, or is refused. -/
  | leapInsert (path : Path) (te : BitVec 48) (delta : BitVec 10)
  /-- LEAP_DELETE (R273): A write of PT_LEAP_WR with OP = delete removes a leap entry. -/
  | leapDelete (path : Path) (te : BitVec 48)
  /-- SMEAR_WINDOW_END (R276): A class's smear window ends and pending SMEAR_EN or HALF writes take effect. -/
  | smearWindowEnd (k : Fin 8)
  /-- ESMC_INFO_SEND (R277): Once per second a lane with TX_EN = 1 sends an ESMC information PDU. -/
  | esmcInfoSend (p : Fin 6)
  /-- ESMC_RECEIVED (R277): A received ESMC PDU updates QL_RX, with event 0x0736 on change. -/
  | esmcReceived (p : Fin 6) (event : Bool) (ql : BitVec 4)
  /-- ESMC_TIMEOUT (R277): Five seconds without an information PDU clear RX_OK and reject the SYNCE slot. -/
  | esmcTimeout (p : Fin 6)
  /-- HOST_TX_TAIL_WRITE (R279): A write of a transmit queue TAIL makes descriptors ready for the part to fetch. -/
  | hostTxTailWrite (path : Path) (q : Fin 8) (v : Word)
  /-- HOST_DESCRIPTOR_FETCHED (R278): A fetched transmit descriptor's frame is queued as a non-appointed frame. -/
  | hostDescriptorFetched (q : Fin 8) (port : Fin 6) (bytes : List Byte)
  /-- PCIE_COMPLETION_TIMEOUT (R367): A PCIe read issued by the part gets no completion within 50 ms and is abandoned with event 0x0B05. -/
  | pcieCompletionTimeout (fn : Fin 6)
  /-- KV_DERIVE (R291): KV operation DERIVE derives a key into a target slot. -/
  | kvDerive (path : Path) (slot tslot : BitVec 7) (len : BitVec 11)
  /-- KV_IMPORT (R291): KV operation IMPORT installs a key into a target slot. -/
  | kvImport (path : Path) (slot tslot : BitVec 7) (len : BitVec 11)
  /-- KV_ZEROISE (R291): KV operation ZEROISE clears a slot. -/
  | kvZeroise (path : Path) (slot tslot : BitVec 7) (len : BitVec 11)
  /-- KV_PUBKEY (R291): KV operation PUBKEY returns a slot's public key. -/
  | kvPubkey (path : Path) (slot tslot : BitVec 7) (len : BitVec 11)
  /-- KV_SIGN (R291): KV operation SIGN signs a message. -/
  | kvSign (path : Path) (slot tslot : BitVec 7) (len : BitVec 11)
  /-- KV_VERIFY (R291): KV operation VERIFY checks an authenticator. -/
  | kvVerify (path : Path) (slot tslot : BitVec 7) (len : BitVec 11)
  /-- KV_MAC (R291): KV operation MAC computes an AES-CMAC or HMAC. -/
  | kvMac (path : Path) (slot tslot : BitVec 7) (len : BitVec 11)
  /-- KV_ENCRYPT (R291): KV operation ENCRYPT seals data with AES-SIV. -/
  | kvEncrypt (path : Path) (slot tslot : BitVec 7) (len : BitVec 11)
  /-- KV_DECRYPT (R291): KV operation DECRYPT opens AES-SIV data. -/
  | kvDecrypt (path : Path) (slot tslot : BitVec 7) (len : BitVec 11)
  /-- KV_MINT (R293): KV operation MINT seals NTS cookies under the current master key. -/
  | kvMint (path : Path) (slot tslot : BitVec 7) (len : BitVec 11)
  /-- KV_ROTATE (R294): KV operation ROTATE derives a new NTS master key and rotates PT_NTS_CFG and PT_NTS_KID. -/
  | kvRotate (path : Path) (slot tslot : BitVec 7) (len : BitVec 11)
  /-- KV_RANDOM (R291): KV operation RANDOM returns bytes from the entropy source. -/
  | kvRandom (path : Path) (slot tslot : BitVec 7) (len : BitVec 11)
  /-- LC_TO_PROVISION (R292): A KV_LC request to PROVISION enrols helper data and programs OTP. -/
  | lcToProvision (path : Path) (confirm : BitVec 8)
  /-- LC_TO_FIELD (R292): A KV_LC request to FIELD performs the lifecycle seal. -/
  | lcToField (path : Path) (confirm : BitVec 8)
  /-- LC_TO_RETURN (R292): A KV_LC request to RETURN with a verified authorisation disables the root and zeroises every slot. -/
  | lcToReturn (path : Path) (confirm : BitVec 8)
  /-- LC_TO_RETIRED (R292): A KV_LC request to RETIRED overwrites the helper data so the root cannot be formed. -/
  | lcToRetired (path : Path) (confirm : BitVec 8)
  /-- TAMPER_INPUT_ASSERT (R295): An enabled TAMP_INn reaches its tamper level and debounce begins. -/
  | tamperInputAssert (n : Fin 4) (level : Bool)
  /-- TAMPER_DEBOUNCE_EXPIRY (R295): A tamper input stays asserted for DEBOUNCE and trips. -/
  | tamperDebounceExpiry (n : Fin 4)
  /-- VOLTAGE_MONITOR_TRIP (R295): The voltage monitor trips on over-voltage or a fast glitch. -/
  | voltageMonitorTrip (level fall : Nat)
  /-- TEMP_MONITOR_TRIP (R295): The temperature monitor trips below −50 °C or above 120 °C. -/
  | tempMonitorTrip (t : Int)
  /-- CLOCK_MONITOR_TRIP (R295): The clock monitor trips on a tick period outside 1.2 ns to 2.4 ns. -/
  | clockMonitorTrip (ps : Nat)
  /-- TAMPER_SAMPLE (R295): In Névé or Firn the battery domain samples the tamper inputs and monitors at 4 Hz. -/
  | tamperSample (levels : BitVec 4) (volt fall : Nat) (temp : Int) (b : Boot)
  /-- SECURE_CLEAR (R298): A write of TP_CLEAR with the code erases the vault record, clears the latch and continues the start. -/
  | secureClear (path : Path) (v : Word) (puf : List (Option Nat))
  /-- GL_SCRUB_WORD (R310): The Glacier scrubber reads the next word at its rate and corrects or poisons it. -/
  | glScrubWord (upsets : List (Nat × Nat))
  /-- GL_SCRUB_RATE_WRITE (R310): A write of GL_SCRUB_RATE changes the rate and restarts the pass deadline. -/
  | glScrubRateWrite (path : Path) (v : Word)
  /-- SRAM_SCRUB_WALK (R311): The SRAM scrubber walks every protected memory once every 10 s. -/
  | sramScrubWalk (hits : List SramHit) (corr : Nat)
  /-- GL_ROW_REPAIR (R313): A qualifying row is copied to a spare under its bank lock and a soft entry written. -/
  | glRowRepair (bank : BitVec 8) (row : BitVec 15)
  /-- BANK_LOCK_REVOKE (R316): A bank lock held beyond its limit is revoked and the holder's unfinished write discarded. Address
  bits [15:12] and [11:8] (R303). -/
  | bankLockRevoke (bank channel : BitVec 4)
  /-- FUSE_PROGRAM_REQUEST (R315): A write of EC_FUSE_REQ with the code starts burning the soft table into fuses. -/
  | fuseProgramRequest (path : Path) (v : Word)
  /-- FUSE_BURN_COMPLETE (R315): A fuse entry burn completes and is verified, and programming continues or ends with event 0x0807. -/
  | fuseBurnComplete (verified : Bool)
  /-- RD_SWITCH_WRITE (R322): A write of RD_SWITCH commands a switchover or ends orphan hold, or is refused. -/
  | rdSwitchWrite (path : Path) (v : Word)
  /-- CORE_SELFTEST_COMPLETE (R325): A reset failed core's self-test ends and it enters STANDBY or stays FAILED. -/
  | coreSelftestComplete (k : Fin 2) (pass : Bool)
  /-- MBOX_REVOKE (R330): A supervisor core holding a mailbox beyond MBOX_HOLD loses it with status 0x06. -/
  | mboxRevoke (fn : Fin 6)
  /-- CLEKOSAL_FRAME_RECEIVED (R331): A received Clekosal frame is authenticated and handled by its type. -/
  | clekosalFrameReceived (l : List Byte) (st : TStamp)
  /-- RIME_REQUEST (R336): A write of RD_RIME_REQ with GO = 1 starts a Rime pass at once. -/
  | rimeRequest (path : Path) (v : Word)
  /-- RIME_SHADOW_END (R337): The shadow run ends, the core comparison concludes and the standby returns to STANDBY. -/
  | rimeShadowEnd (x : RimeFound)
  /-- RAIL_BELOW_WARNING (R349): A main rail falls below its warning level. -/
  | railBelowWarning (rail : Fin 11) (ns : Nat)
  /-- DIP_START (R349): A rail stays below warning for more than 200 ns and a dip episode starts. The rail, and whether its checkpoint
  is sealed in time (R125). -/
  | dipStart (dip : Fin 11 × Bool)
  /-- BROWN_OUT (R351): A main rail other than VDDIO_B and the DRAM rails reaches its reset level, causing a chip reset. -/
  | brownOut (rail : Fin 12)
  /-- MAIN_POWER_LOSS (R351): VDDIO_B or a DRAM rail reaches its reset level and the part enters Firn. -/
  | mainPowerLoss (vbat : Nat)
  /-- MAIN_POWER_UP (R359): Power-good starts the cold start-up sequence. -/
  | mainPowerUp (b : Boot)
  /-- RESET_N_ASSERT (R357): RESET_N held low for at least 1 µs causes a chip reset. -/
  | resetNAssert (ns : Nat)
  /-- SY_CHIPRST_GO (R364): A write of SY_CHIPRST with the code causes a chip reset with cause 2. -/
  | syChiprstGo (path : Path) (v : Word)
  /-- CHIP_RESET_START (R360): Internal reset ends and the start-up sequence runs with Glacier retrained from self-refresh. -/
  | chipResetStart (b : Boot)
  /-- NEVE_REQUEST (R353): A write of SY_NEVE requests Névé entry, which is refused, deferred or begun. -/
  | neveRequest (path : Path) (v : Word)
  /-- NEVE_ENTRY (R353): Névé entry drains calendars, seals records, stops outputs, zeroises keys and powers down domains. -/
  | neveEntry (b : Boot)
  /-- SVC_CS_WAKE (R354): A falling edge of SVC_CS_N in Névé with WAKE_SVC = 1 wakes the part. -/
  | svcCsWake (b : Boot)
  /-- NEVE_RTC_WAKE (R354): WAKE_SEC RTC seconds pass in Névé with WAKE_RTC = 1 and the part wakes. -/
  | neveRtcWake (b : Boot)
  /-- GPIO_WAKE (R354): An image-assigned wake GPIO in Névé with WAKE_GPIO = 1 wakes the part. -/
  | gpioWake (gpio : Fin 16) (b : Boot)
  /-- VBAT_MEASURE (R348): Once per hour VBAT is measured into PM_VBAT, with event 0x0105 when low. -/
  | vbatMeasure (mv : BitVec 12)
  /-- URESET_CORE (R373): A unit reset of TKA or TKB runs its self-test and return to STANDBY, or is refused. -/
  | uresetCore (path : Path) (k : Fin 2)
  /-- URESET_TIME_SYNTH (R373): A unit reset of the time synthesizer reloads both halves and clears LS_ERR and LS_FAIL. -/
  | uresetTimeSynth (path : Path)
  /-- URESET_IE (R373): A unit reset of IE clears buffers, engines and calibration and recalibrates. -/
  | uresetIe (path : Path)
  /-- URESET_RS (R373): A unit reset of RS passes every slot through OFF and puts the core in holdover. -/
  | uresetRs (path : Path)
  /-- URESET_MB (R373): A unit reset of MB resets terms and P0 and restores the attestation sequence. -/
  | uresetMb (path : Path)
  /-- URESET_GN (R373): A unit reset of GN restarts the channels with a start. -/
  | uresetGn (path : Path)
  /-- URESET_OS (R373): A unit reset of OS clears OM status when no output runs. -/
  | uresetOs (path : Path)
  /-- URESET_CX (R373): A unit reset of CX aborts crypto operations in progress. -/
  | uresetCx (path : Path)
  /-- URESET_PT (R373): A unit reset of PT restarts client exchanges and ESMC timers. -/
  | uresetPt (path : Path)
  /-- URESET_JL (R373): A unit reset of JL queues raised events and continues the chain. -/
  | uresetJl (path : Path)
  /-- URESET_PC (R373): A unit reset of PC clears counter selections and values. -/
  | uresetPc (path : Path)
  /-- URESET_SUPERVISOR (R373): A unit reset of a supervisor core reloads and verifies its code. -/
  | uresetSupervisor (path : Path) (k : Fin 2)
  /-- FUNCTION_LEVEL_RESET (R371): A function-level reset clears a function's mailbox, MSI-X state and listed host-facing state. -/
  | functionLevelReset (fn : Fin 6)
  /-- PCIE_LINK_CHANGE (R384): The PCIe link comes up or goes down, with event 0x0B01. -/
  | pcieLinkChange (up : Bool)
  /-- MAILBOX_DOORBELL (R375): A doorbell write copies a mailbox command for a supervisor core. -/
  | mailboxDoorbell (fn : Fin 6) (code tag len : BitVec 16) (payload : List Byte) (core : Fin 2)
  /-- MB_CMD_INFO (R376): Mailbox command INFO returns identity, firmware version and boot status. -/
  | mbCmdInfo (fn : Fin 6)
  /-- MB_CMD_FLASH_WRITE (R376): Mailbox command FLASH_WRITE writes the payload to QSPI flash. -/
  | mbCmdFlashWrite (fn : Fin 6)
  /-- MB_CMD_FLASH_READ (R376): Mailbox command FLASH_READ returns bytes from QSPI flash. -/
  | mbCmdFlashRead (fn : Fin 6)
  /-- MB_CMD_VERIFY (R376): Mailbox command VERIFY checks firmware or image in a named slot. -/
  | mbCmdVerify (fn : Fin 6) (ok : Bool)
  /-- MB_CMD_SET_PREF (R376): Mailbox command SET_PREF sets the preferred firmware and image slots. -/
  | mbCmdSetPref (fn : Fin 6)
  /-- MAILBOX_RESPONSE (R375): A supervisor core writes a response, DONE is set and MSI-X vector 0 signalled. -/
  | mailboxResponse (fn : Fin 6)
  /-- SVC_READ (R378): An SVC_SPI READ frame returns a register value, or is refused. -/
  | svcRead (off : BitVec 32) (n : Nat)
  /-- SVC_WRITE (R378): An SVC_SPI WRITE frame writes a register at SVC_CS_N rising after 64 data bits. -/
  | svcWrite (off : BitVec 32) (words : List Word) (tail : Fin 64)
  /-- PC_SEL_WRITE (R389): A write of PC_SELn stops the counter, delivers a pending carry, optionally clears it and restarts under the new selection. -/
  | pcSelWrite (path : Path) (n : Fin 256) (v : Word)
  /-- COUNTER_WRAP (R388): A counter wraps, carrying into a chained partner, setting PC_OVF and optionally signalling PF4. -/
  | counterWrap (n : Fin 256)
  /-- BW_CFG_WRITE (R390): A write of PC_BWp_CFG starts a monitor window or clears LAST, MAX and MIN. -/
  | bwCfgWrite (path : Path) (p : Fin 6) (v : Word)
  /-- BW_WINDOW_END (R390): A bandwidth window ends and its count updates LAST, MAX and MIN. -/
  | bwWindowEnd (p : Fin 6)
  /-- USER_PAGE_READ (R391): A read of the PF4 user page returns counters, or all-ones with event 0x0B23 when disabled. -/
  | userPageRead (off : BitVec 12) (write : Bool)
  /-- JOURNAL_EVENT_RAISE (R394): A raised event is accepted into the journal queue or dropped when the queue is full. -/
  | journalEventRaise (code : BitVec 16) (src inst : BitVec 8) (arg : Word)
  /-- AGEING_COMPARE (R419): Once per hour the ageing ring pairs are compared and PM_AGE and WARN updated. -/
  | ageingCompare (core tb : BitVec 16)
  /-- FUNCTION_LEVEL_RESET_COMPLETE (R371): A function-level reset completes within 10 ms, ending the all-ones reads and writing event 0x0B06. -/
  | functionLevelResetComplete (fn : Fin 6)
  /-- SAMPLE_TICK (R387): At each 156.25 MHz sample tick, KIND 0x4 counters count and KIND 0x3 counters sample their queue occupancy against N. -/
  | sampleTick (n rtc : Nat)
  /-- CHANNEL_PAIR_LOSES_LOCK (R147): A GNSS channel pair loses lock on its satellite and starts its 30 s local search around the predicted code phase and Doppler. -/
  | channelPairLosesLock (p : Fin 128)
  /-- ACQUISITION_SEARCH_COMPLETE (R131): The FFT acquisition engine finds a satellite's code phase and Doppler, and the channel pair moves from ACQ to tracking. -/
  | acquisitionSearchComplete (p : Fin 128) (sys : BitVec 2) (prn : BitVec 8)
  /-- WARM_TIMER_EXPIRY (R46): WARM_TIME seconds pass since the timebase started, completing OCXO warm-up in modes 0b01 and 0b11. -/
  | warmTimerExpiry
  /-- SHADOW_LOCK_DETECTED (R49): The shadow MDLL's lock is detected and the MIG_CMP comparison window begins. -/
  | shadowLockDetected
  /-- SHADOW_LOCK_TIMEOUT (R52): The shadow MDLL does not lock within MIG_LOCK and the migration aborts. -/
  | shadowLockTimeout
  /-- OLD_MDLL_POWER_OFF (R49): 10 ms after a migration's step 4 the old MDLL powers off. -/
  | oldMdllPowerOff
  /-- XO_AGE_LEARN (R57): At a TAI day boundary in learned mode the core overwrites FOFS, RATE and T0DAY and writes event 0x0207. -/
  | xoAgeLearn
  /-- CAL_START (R83): A queued channel's calibration starts, after a stamped edge on a slow timestamp channel or at once otherwise. -/
  | calStart
  /-- CAL_WAIT_TIMEOUT (R83): One and a half stamped periods pass without an edge and the calibration starts at once. -/
  | calWaitTimeout
  /-- RS_DISAGREE_COMPARE (R101): Once per second the slots at the lead rank are compared pairwise for disagreement. -/
  | rsDisagreeCompare
  /-- TK_UPDATE (R110): At each 16 Hz schedule point the active core runs its law or propagation and writes the frequency word to the time synthesizer. -/
  | tkUpdate
  /-- STEP_APPLY (R119): Once every calendar is empty the time synthesizer applies the step at one tick and granting resumes. -/
  | stepApply
  /-- UPDATE_MISS (R109): An update misses its deadline; the last frequency word stays and the miss is counted and may trigger a switchover. -/
  | updateMiss
  /-- LOCKSTEP_MISMATCH (R112): The time synthesizer halves disagree and are reloaded from the last agreed copy, with LS_FAIL on a third disagreement within 1 s. -/
  | lockstepMismatch
  /-- TEMPCO_REFIT (R116): At a TAI day boundary with TEMPCO_LEARN = 1 the core refits C and A_REF and writes event 0x0409. -/
  | tempcoRefit
  /-- CHECKPOINT_MISS (R122): A checkpoint is not sealed by the next checkpoint instant and is counted as a miss. -/
  | checkpointMiss
  /-- CKPT_PORT_REVOKE (R122): A checkpoint write holding the port beyond the 10 µs fence is revoked and its slot stays invalid. -/
  | ckptPortRevoke
  /-- GN_FE_SCRIPT_DONE (R130): The front-end initialisation script completes. -/
  | gnFeScriptDone
  /-- GN_POS_AVERAGE (R139): Each 60 s residual average is tested against POS_LIM, invalidating the position after three failures. -/
  | gnPosAverage
  /-- GN_SOLUTION_TIMEOUT (R147): 3 s pass without a valid solution, or the Flake validity period ends, and the solution becomes invalid. -/
  | gnSolutionTimeout
  /-- GN_JAM_DETECT (R141): The jamming condition holds for 5 s and JAM is declared, entering Flake mode if AUTO_JAM = 1. -/
  | gnJamDetect
  /-- GN_JAM_CLEAR (R141): 60 s pass without the jamming condition and JAM clears, leaving automatic Flake mode. -/
  | gnJamClear
  /-- GN_FLAKE_CAPTURE_START (R142): At a second whose SEC is a multiple of PERIOD a snapshot capture of LEN ms begins. -/
  | gnFlakeCaptureStart
  /-- GN_SNAPSHOT_EXPORTED (R144): A snapshot export to host memory completes, clearing ARM and signalling PF2 vector 1. -/
  | gnSnapshotExported
  /-- GN_RECORD_WRITE (R145): The GNSS record is written to the Firn store hourly, on survey completion or on Névé entry. -/
  | gnRecordWrite
  /-- MB_PUBLICATION (R150): At each schedule point Moraine forms and publishes the bound, its terms, sigma, state and map entry. -/
  | mbPublication
  /-- PUBLICATION_MISS (R160): A publication misses its deadline and STALE is set, with event 0x0410. -/
  | publicationMiss
  /-- STALE_REEVALUATE (R160): While STALE = 1, at each schedule point the map is evaluated with the inflated bound. -/
  | staleReevaluate
  /-- STALE_MAX_EXPIRY (R160): The stale age exceeds STALE_MAX and the served bound becomes unbounded, with event 0x0419. -/
  | staleMaxExpiry
  /-- ATTESTATION_START (R169): At each TAI hour with ATT_EN = 1 Moraine builds the attestation message for signing. -/
  | attestationStart
  /-- SM_LOCK_DECLARED (R174): 2 ms after the DTC reference starts, SM lock is declared and the lane transmitters leave reset. -/
  | smLockDeclared
  /-- TOD_OUT_SEND (R186): LAG ms after each TAI second boundary the time-of-day message is transmitted, or a ZDA is withheld. -/
  | todOutSend
  /-- LN_AN_COMPLETE (R190): Clause 37 auto-negotiation completes on LN5 in 1000BASE-X. -/
  | lnAnComplete
  /-- LPI_ENTER (R196): Port 5's transmitter enters LPI after IDLE_TIME with no frame queued. -/
  | lpiEnter
  /-- LPI_WAKE (R196): Port 5's transmitter leaves LPI TW before an appointed grid point or when a frame is queued. -/
  | lpiWake
  /-- KV_OP_COMPLETE (R291): A vault operation completes, setting KV_OP_STAT and signalling PF5 vector 1. -/
  | kvOpComplete
  /-- GL_CORRECTED_WRITEBACK (R307): A corrected codeword is written back within 1 µs unless overwritten first. -/
  | glCorrectedWriteback
  /-- SCRUB_PASS_END (R310): A scrub pass completes, with event 0x0805, and the next pass starts. -/
  | scrubPassEnd
  /-- SCRUB_PASS_DEADLINE (R310): A scrub pass not finished by its deadline is counted as a miss and continues. -/
  | scrubPassDeadline
  /-- SELF_CHECK_MISMATCH (R321): The active core's two computations of an update differ, a cause-1 switchover trigger. -/
  | selfCheckMismatch
  /-- CONTROL_FLOW_WATCHDOG (R321): The active core leaves its sequence or does not start an update within 2 ms, a cause-2 trigger. -/
  | controlFlowWatchdog
  /-- SWITCHOVER_RESUME (R323): The standby has loaded and caught up and resumes as active, ending the gap. -/
  | switchoverResume
  /-- CLEKOSAL_TIME_SEND (R332): At each k × 125 ms + 5 ms a TIME frame is sent to the mate as an appointment. -/
  | clekosalTimeSend
  /-- CLEKOSAL_LINK_TIMEOUT (R332): No TIME frame verifies for four periods and the Clekosal link goes down. -/
  | clekosalLinkTimeout
  /-- MATE_LEASE_EXPIRY (R333): No leased TIME frame arrives for LEASE and the STANDBY chip takes the ACTIVE role. -/
  | mateLeaseExpiry
  /-- STANDBY_NEVE_TIMER (R335): 60 s after becoming STANDBY with NEVE_STBY = 1 the chip sends SLEEP and enters Névé. -/
  | standbyNeveTimer
  /-- RIME_PASS_START (R336): At START after midnight, or on deferral retry, the Rime pass starts or is deferred. -/
  | rimePassStart
  /-- RIME_MATE_PROOF_END (R340): The mate proof concludes and the pass result is recorded. -/
  | rimeMateProofEnd
  /-- DIP_END (R349): Every rail stays above warning plus 10 mV for 1 ms and the episode ends. -/
  | dipEnd
  /-- VBAT_LOSS (R355): VBAT falls below 1.8 V with main power off and everything but OTP is lost. -/
  | vbatLoss
  /-- WATCHDOG_EXPIRY (R357): The watchdog is not serviced for TIMEOUT and causes a chip reset. -/
  | watchdogExpiry
  /-- URESET_COMPLETE (R373): A unit reset completes and its unit and status are recorded with event 0x0121. -/
  | uresetComplete
  /-- PERST_ASSERT (R372): PERST_N assertion resets the endpoint, the link and every function's host-facing state. -/
  | perstAssert
  /-- PERST_RELEASE (R372): PERST_N release writes event 0x0B07 and readies the endpoint for link training. -/
  | perstRelease
  /-- SVC_STATUS (R378): An SVC_SPI STATUS frame returns eight status bits. -/
  | svcStatus
  /-- JOURNAL_ENTRY_WRITE (R394): Every 40 sample ticks one waiting entry is written to the ring and the Firn tail. -/
  | journalEntryWrite
  /-- JOURNAL_BLOCK_SEAL (R395): A full block of 64 entries is sealed into the hash chain and the chain record written. -/
  | journalBlockSeal
  /-- JOURNAL_HOUR_PAD (R395): At each TAI hour an open block is padded and sealed before the attestation. -/
  | journalHourPad
  deriving DecidableEq, Repr

end Sys2Proof
end

