-- ==== Sys2Proof/Config.lean ====
section
/-! DEFINITION. What an implementation fixes and the spec leaves open: free values, each an opaque constant without a body. -/
namespace Sys2Proof

/-- A value the spec does not state, the n-th the machine has needed (State.free counts them); see notes/assumptions/1.md. -/
opaque Config.freeValue : Nat → Word

/-- AES-SIV-CMAC sealing (key, nonce, associated data, plain text) of the NTS and Clekosal messages; the algorithm is a published standard
that the spec names and does not restate (log entry 2). -/
opaque Config.aesSiv : List Byte → List Byte → List Byte → List Byte → List Byte

/-- Opening of an AES-SIV-CMAC text: the plain text, or none where the tag does not verify (log entry 2). -/
opaque Config.aesSivOpen : List Byte → List Byte → List Byte → List Byte → Option (List Byte)

/-- AES-CMAC of a message under a key (log entry 2). -/
opaque Config.aesCmac : List Byte → List Byte → List Byte

/-- Public key of a private key, by algorithm number (log entry 2). -/
opaque Config.publicKey : Nat → List Byte → List Byte

/-- Signature of a message under a private key, by algorithm number (log entry 2). -/
opaque Config.signature : Nat → List Byte → List Byte → List Byte

/-- Verification of a signature under a public key, by algorithm number: key, message, signature (log entry 2). -/
opaque Config.verifySignature : Nat → List Byte → List Byte → List Byte → Bool

/-- Data byte that the single-error correction of R306 leaves of a codeword whose syndrome names no bit (13 to 15 with odd parity), which the
spec does not state (log entry 4). -/
opaque Config.wildByte : Nat → Nat

/-- What INV_Q makes of a Q of -8, whose negative a sample's four bits do not hold: the low four bits count (log entry 4). -/
opaque Config.invertedMinusEight : Nat

/-- The 256-bit root that the PUF of this part forms (R283); its value is the silicon's (log entry 2). -/
opaque Config.root : List Byte

/-- The Ed25519 key in the boot ROM that Kloentra's authorisations and objects verify with (R292; log entry 2). -/
opaque Config.bootKey : List Byte

/-- Kloentra's Ed25519 image key in the boot ROM (R237; log entry 2). -/
opaque Config.imageKey : List Byte

/-- The customer image key with a SHA-256 digest (R237; log entry 2). -/
opaque Config.customerKey : List Byte → List Byte

end Sys2Proof
end

