-- ==== Sys2Proof/Machine/Reg.lean ====
section
/-! DEFINITION. What a register field is (R4 to R6): place, width, reset value, access code and kept-through letters. -/
namespace Sys2Proof.Machine

/-- The access codes of R5. -/
inductive Acc where
  | rw | ro | wo | w1c | rc | rwl
  deriving DecidableEq, Repr

/-- One field of one register. kept is the sum of the letters of its Kept through entry:
U 1, F 2, I 4, C 8, N 16, M 32, B 64 (R6). -/
structure Fld where
  off   : Nat
  lo    : Nat
  width : Nat
  reset : Nat
  acc   : Acc
  kept  : Nat
  deriving DecidableEq, Repr

/-- The letters of R6 and R357: the resets and state changes. -/
inductive Letter where
  | U | F | I | C | N | M | B
  deriving DecidableEq, Repr

/-- The weight of a letter in Fld.kept. -/
def Letter.weight : Letter → Nat
  | .U => 1 | .F => 2 | .I => 4 | .C => 8 | .N => 16 | .M => 32 | .B => 64

/-- The field survives the reset or state change l (R6). -/
def Fld.keptThrough (f : Fld) (l : Letter) : Bool := f.kept / l.weight % 2 == 1

/-- A read-only field with the Kept through entry "none": it reports the present condition of hardware (R6). -/
def Fld.live (f : Fld) : Bool := f.acc == .ro && f.kept == 0

/-- Where the value of a field is held: one number per place of a field. -/
def Fld.key (f : Fld) : Nat := f.off * 64 + f.lo

/-- Bits of a register word that belong to the field. -/
def Fld.ofWord (f : Fld) (w : Word) : Nat := w.toNat / 2 ^ f.lo % 2 ^ f.width

/-- Owning block window of the field, bits [23:16] of its offset (R368, R392). -/
def Fld.window (f : Fld) : Nat := f.off / 65536

/-- A family of registers of one form: base offset, two index ranges with their strides, and the fields. -/
structure RegForm where
  base   : Nat
  n1     : Nat
  s1     : Nat
  n2     : Nat
  s2     : Nat
  fields : Nat → Nat → List Fld

/-- The fields of the register of this form at offset off, if it has one there. -/
def RegForm.index (r : RegForm) (off : Nat) : Option (List Fld) :=
  if off < r.base then none
  else
    let d := off - r.base
    let i := if r.s1 = 0 then 0 else d / r.s1
    let e := d - i * r.s1
    let j := if r.s2 = 0 then 0 else e / r.s2
    if i < r.n1 ∧ j < r.n2 ∧ e = j * r.s2 then some (r.fields i j) else none

/-- Reset values of RS_TYPEt_BW (R90), in µHz: default, minimum, maximum of type t. -/
def typeBw (t part : Nat) : Nat :=
  let row := match t with
    | 0 => [10000, 1000, 100000]
    | 1 => [10000, 1000, 100000]
    | 2 => [100000, 1000, 1000000]
    | 3 => [1000, 100, 10000]
    | 4 => [1000, 100, 10000]
    | 5 => [100000, 10000, 1000000]
    | _ => [100000, 10000, 1000000]
  row.getD part 0

/-- Reset values of MB_OSCk: F_UNC, D_UNC, STAB of the XO, the OCXO and the atomic standard (R156, the register table of MB_OSCk). -/
def oscReset (k part : Nat) : Nat :=
  let row := match k with
    | 0 => [0xF4240, 0xF4240, 0x190]
    | 1 => [0x2710, 0x2710, 0x32]
    | _ => [0x64, 0x64, 0xA]
  row.getD part 0

/-- Reset values of MB_MAPk (R164): BOUND_MAX, STATES, EN, CLASS, SSM, STRATUM. -/
def mapReset (k part : Nat) : Nat :=
  let row := match k with
    | 0 => [100000, 1, 1, 6, 2, 1]
    | 1 => [1000000, 7, 1, 7, 4, 1]
    | 2 => [1000000000, 7, 1, 52, 8, 1]
    | 3 => [1000000000000, 7, 1, 187, 0xB, 1]
    | 4 => [0xFFFFFFFFFF, 7, 1, 248, 0xF, 16]
    | _ => [0, 0, 0, 0, 0, 0]
  row.getD part 0

end Sys2Proof.Machine
end

