-- ==== Sys2Proof/Machine/FieldsError.lean ====
section
/-! DEFINITION. The register fields of the blocks of chapters 07, 08, 09 of spec/, one definition per field, written from the
register tables of those chapters: offset, lowest bit, width, reset value, access code (R5) and kept-through letters (R6). -/
namespace Sys2Proof.Machine.F

/-- GN_CFG.EN: 1: baseband enabled. -/
def GN_CFG_EN : Fld := ⟨0x080000, 0, 1, 0, .rw, 23⟩
/-- GN_CFG.BAND_A: band A enabled. -/
def GN_CFG_BAND_A : Fld := ⟨0x080000, 1, 1, 1, .rw, 23⟩
/-- GN_CFG.BAND_B: band B enabled. -/
def GN_CFG_BAND_B : Fld := ⟨0x080000, 2, 1, 1, .rw, 23⟩
/-- GN_CFG.SYS: bit 3 GPS, 4 Galileo, 5 BeiDou, 6 QZSS. -/
def GN_CFG_SYS : Fld := ⟨0x080000, 3, 4, 15, .rw, 23⟩
/-- GN_CFG.TSYS: 0b00 GPS, 0b01 Galileo, 0b10 BeiDou, 0b11 QZSS. -/
def GN_CFG_TSYS : Fld := ⟨0x080000, 7, 2, 0, .rw, 23⟩
/-- GN_CFG.TREF: reference under R136. -/
def GN_CFG_TREF : Fld := ⟨0x080000, 9, 1, 0, .rw, 23⟩
/-- GN_CFG.LEAP_SRC: system whose leap data is offered; encoded as TSYS. -/
def GN_CFG_LEAP_SRC : Fld := ⟨0x080000, 10, 2, 0, .rw, 23⟩
/-- GN_CFG.IONO: 1: single-frequency use allowed under R132. -/
def GN_CFG_IONO : Fld := ⟨0x080000, 12, 1, 1, .rw, 23⟩
/-- GN_CFG, at offset 0x08_0000, configures the baseband. -/
def R_GN_CFG : RegForm := ⟨0x080000, 1, 0x0, 1, 0x0, fun _ _ => [GN_CFG_EN, GN_CFG_BAND_A, GN_CFG_BAND_B, GN_CFG_SYS, GN_CFG_TSYS, GN_CFG_TREF, GN_CFG_LEAP_SRC, GN_CFG_IONO]⟩
/-- GN_FE_A_CFG.RATE: declared sample rate, LSB 1 kHz; valid from 20,460 to 81,840. -/
def GN_FE_A_CFG_RATE : Fld := ⟨0x080008, 0, 17, 0x13FB0, .rw, 23⟩
/-- GN_FE_A_CFG.IF: intermediate frequency, signed, LSB 1 Hz, from −20 MHz to +20 MHz. -/
def GN_FE_A_CFG_IF : Fld := ⟨0x080008, 17, 26, 0x0000000, .rw, 23⟩
/-- GN_FE_A_CFG.FMT: 0 two's complement, 1 offset binary. -/
def GN_FE_A_CFG_FMT : Fld := ⟨0x080008, 43, 1, 0, .rw, 23⟩
/-- GN_FE_A_CFG.EDGE: 0 rising, 1 falling. -/
def GN_FE_A_CFG_EDGE : Fld := ⟨0x080008, 44, 1, 0, .rw, 23⟩
/-- GN_FE_A_CFG.SWAP_IQ: 1: exchange I and Q. -/
def GN_FE_A_CFG_SWAP_IQ : Fld := ⟨0x080008, 45, 1, 0, .rw, 23⟩
/-- GN_FE_A_CFG.INV_Q: 1: invert Q. -/
def GN_FE_A_CFG_INV_Q : Fld := ⟨0x080008, 46, 1, 0, .rw, 23⟩
/-- GN_FE_A_CFG and GN_FE_B_CFG, at offsets 0x08_0008 and 0x08_0010, configure the sample buses under R128. -/
def R_GN_FE_A_CFG : RegForm := ⟨0x080008, 1, 0x0, 1, 0x0, fun _ _ => [GN_FE_A_CFG_RATE, GN_FE_A_CFG_IF, GN_FE_A_CFG_FMT, GN_FE_A_CFG_EDGE, GN_FE_A_CFG_SWAP_IQ, GN_FE_A_CFG_INV_Q]⟩
/-- GN_FE_B_CFG.RATE: declared sample rate, LSB 1 kHz; valid from 20,460 to 81,840. -/
def GN_FE_B_CFG_RATE : Fld := ⟨0x080010, 0, 17, 0x13FB0, .rw, 23⟩
/-- GN_FE_B_CFG.IF: intermediate frequency, signed, LSB 1 Hz, from −20 MHz to +20 MHz. -/
def GN_FE_B_CFG_IF : Fld := ⟨0x080010, 17, 26, 0x0000000, .rw, 23⟩
/-- GN_FE_B_CFG.FMT: 0 two's complement, 1 offset binary. -/
def GN_FE_B_CFG_FMT : Fld := ⟨0x080010, 43, 1, 0, .rw, 23⟩
/-- GN_FE_B_CFG.EDGE: 0 rising, 1 falling. -/
def GN_FE_B_CFG_EDGE : Fld := ⟨0x080010, 44, 1, 0, .rw, 23⟩
/-- GN_FE_B_CFG.SWAP_IQ: 1: exchange I and Q. -/
def GN_FE_B_CFG_SWAP_IQ : Fld := ⟨0x080010, 45, 1, 0, .rw, 23⟩
/-- GN_FE_B_CFG.INV_Q: 1: invert Q. -/
def GN_FE_B_CFG_INV_Q : Fld := ⟨0x080010, 46, 1, 0, .rw, 23⟩
/-- GN_FE_A_CFG and GN_FE_B_CFG, at offsets 0x08_0008 and 0x08_0010, configure the sample buses under R128. -/
def R_GN_FE_B_CFG : RegForm := ⟨0x080010, 1, 0x0, 1, 0x0, fun _ _ => [GN_FE_B_CFG_RATE, GN_FE_B_CFG_IF, GN_FE_B_CFG_FMT, GN_FE_B_CFG_EDGE, GN_FE_B_CFG_SWAP_IQ, GN_FE_B_CFG_INV_Q]⟩
/-- GN_FE_SPI.DATA: write: bits to send; read: bits received. -/
def GN_FE_SPI_DATA : Fld := ⟨0x080018, 0, 32, 0x00000000, .rw, 0⟩
/-- GN_FE_SPI.LEN: bits per transfer; values below 8 act as 8, above 32 as 32. -/
def GN_FE_SPI_LEN : Fld := ⟨0x080018, 32, 6, 32, .rw, 23⟩
/-- GN_FE_SPI.CS: 0 CS0, 1 CS1. -/
def GN_FE_SPI_CS : Fld := ⟨0x080018, 38, 1, 0, .rw, 23⟩
/-- GN_FE_SPI.GO: 1: start a transfer. -/
def GN_FE_SPI_GO : Fld := ⟨0x080018, 39, 1, 0, .wo, 0⟩
/-- GN_FE_SPI.BUSY: transfer or script in progress. -/
def GN_FE_SPI_BUSY : Fld := ⟨0x080018, 40, 1, 0, .ro, 0⟩
/-- GN_FE_SPI.DIV: SCK divider; values below 3 act as 3. -/
def GN_FE_SPI_DIV : Fld := ⟨0x080018, 44, 4, 3, .rw, 23⟩
/-- GN_FE_SPI, at offset 0x08_0018, drives the front-end SPI master under R130. -/
def R_GN_FE_SPI : RegForm := ⟨0x080018, 1, 0x0, 1, 0x0, fun _ _ => [GN_FE_SPI_DATA, GN_FE_SPI_LEN, GN_FE_SPI_CS, GN_FE_SPI_GO, GN_FE_SPI_BUSY, GN_FE_SPI_DIV]⟩
/-- GN_SOL_CFG.MIN_SV: satellites required; 0 acts as 1. -/
def GN_SOL_CFG_MIN_SV : Fld := ⟨0x080020, 0, 4, 4, .rw, 23⟩
/-- GN_SOL_CFG.ELEV_MASK: degrees; values above 90 act as 90. -/
def GN_SOL_CFG_ELEV_MASK : Fld := ⟨0x080020, 4, 7, 10, .rw, 23⟩
/-- GN_SOL_CFG.CN0_MIN: dB-Hz. -/
def GN_SOL_CFG_CN0_MIN : Fld := ⟨0x080020, 11, 6, 30, .rw, 23⟩
/-- GN_SOL_CFG.SMOOTH: smoothing window in seconds; 0 disables. -/
def GN_SOL_CFG_SMOOTH : Fld := ⟨0x080020, 17, 10, 0x064, .rw, 23⟩
/-- GN_SOL_CFG.RATE: 0b00 1 Hz, 0b01 4 Hz, 0b10 16 Hz; 0b11 acts as 0b00. -/
def GN_SOL_CFG_RATE : Fld := ⟨0x080020, 27, 2, 0, .rw, 23⟩
/-- GN_SOL_CFG.RESID_LIM: residual exclusion limit, LSB 1 ns. -/
def GN_SOL_CFG_RESID_LIM : Fld := ⟨0x080020, 32, 16, 0x001E, .rw, 23⟩
/-- GN_SOL_CFG.UTC_ALLOW: UTC term, LSB 1 ns. -/
def GN_SOL_CFG_UTC_ALLOW : Fld := ⟨0x080020, 48, 16, 0x0014, .rw, 23⟩
/-- GN_SOL_CFG, at offset 0x08_0020, configures the solution. -/
def R_GN_SOL_CFG : RegForm := ⟨0x080020, 1, 0x0, 1, 0x0, fun _ _ => [GN_SOL_CFG_MIN_SV, GN_SOL_CFG_ELEV_MASK, GN_SOL_CFG_CN0_MIN, GN_SOL_CFG_SMOOTH, GN_SOL_CFG_RATE, GN_SOL_CFG_RESID_LIM, GN_SOL_CFG_UTC_ALLOW]⟩
/-- GN_POS_CFG.MODE: 0b00 survey-in, 0b01 fixed, 0b10 dynamic; 0b11 acts as 0b00. -/
def GN_POS_CFG_MODE : Fld := ⟨0x080028, 0, 2, 0, .rw, 23⟩
/-- GN_POS_CFG.SURVEY_TIME: seconds; values below 3,600 act as 3,600. -/
def GN_POS_CFG_SURVEY_TIME : Fld := ⟨0x080028, 2, 18, 0x15180, .rw, 23⟩
/-- GN_POS_CFG.SURVEY_ACC: mm. -/
def GN_POS_CFG_SURVEY_ACC : Fld := ⟨0x080028, 20, 12, 0x7D0, .rw, 23⟩
/-- GN_POS_CFG.AUTO_RESURVEY: 1: restart survey-in on an inconsistent position. -/
def GN_POS_CFG_AUTO_RESURVEY : Fld := ⟨0x080028, 32, 1, 1, .rw, 23⟩
/-- GN_POS_CFG.POS_LIM: inconsistency limit, LSB 1 ns. -/
def GN_POS_CFG_POS_LIM : Fld := ⟨0x080028, 40, 8, 50, .rw, 23⟩
/-- GN_POS_CFG, at offset 0x08_0028, configures positioning under R138 and R139. -/
def R_GN_POS_CFG : RegForm := ⟨0x080028, 1, 0x0, 1, 0x0, fun _ _ => [GN_POS_CFG_MODE, GN_POS_CFG_SURVEY_TIME, GN_POS_CFG_SURVEY_ACC, GN_POS_CFG_AUTO_RESURVEY, GN_POS_CFG_POS_LIM]⟩
/-- GN_POS_X.X: ECEF X, signed, LSB 1 mm. -/
def GN_POS_X_X : Fld := ⟨0x080030, 0, 64, 0, .rw, 63⟩
/-- The held position and its status follow. Each is restored from the GNSS record at start. -/
def R_GN_POS_X : RegForm := ⟨0x080030, 1, 0x0, 1, 0x0, fun _ _ => [GN_POS_X_X]⟩
/-- GN_POS_Y.Y: ECEF Y, signed, LSB 1 mm. -/
def GN_POS_Y_Y : Fld := ⟨0x080038, 0, 64, 0, .rw, 63⟩
/-- The held position and its status follow. Each is restored from the GNSS record at start. -/
def R_GN_POS_Y : RegForm := ⟨0x080038, 1, 0x0, 1, 0x0, fun _ _ => [GN_POS_Y_Y]⟩
/-- GN_POS_Z.Z: ECEF Z, signed, LSB 1 mm. -/
def GN_POS_Z_Z : Fld := ⟨0x080040, 0, 64, 0, .rw, 63⟩
/-- The held position and its status follow. Each is restored from the GNSS record at start. -/
def R_GN_POS_Z : RegForm := ⟨0x080040, 1, 0x0, 1, 0x0, fun _ _ => [GN_POS_Z_Z]⟩
/-- GN_POS_STAT.VALID: position valid. -/
def GN_POS_STAT_VALID : Fld := ⟨0x080048, 0, 1, 0, .ro, 63⟩
/-- GN_POS_STAT.SRC: 0b00 none, 0b01 surveyed, 0b10 entered. -/
def GN_POS_STAT_SRC : Fld := ⟨0x080048, 1, 2, 0, .ro, 63⟩
/-- GN_POS_STAT.ELAPSED: survey seconds elapsed, saturating. -/
def GN_POS_STAT_ELAPSED : Fld := ⟨0x080048, 8, 24, 0, .ro, 6⟩
/-- GN_POS_STAT.SURVEY_UNC: 3-D uncertainty, LSB 1 mm. -/
def GN_POS_STAT_SURVEY_UNC : Fld := ⟨0x080048, 32, 32, 0, .ro, 6⟩
/-- The held position and its status follow. Each is restored from the GNSS record at start. -/
def R_GN_POS_STAT : RegForm := ⟨0x080048, 1, 0x0, 1, 0x0, fun _ _ => [GN_POS_STAT_VALID, GN_POS_STAT_SRC, GN_POS_STAT_ELAPSED, GN_POS_STAT_SURVEY_UNC]⟩
/-- GN_CAL_A.DELAY: antenna phase centre to capture, ps. -/
def GN_CAL_A_DELAY : Fld := ⟨0x080050, 0, 32, 0x00000000, .rw, 23⟩
/-- GN_CAL_A.UNC: uncertainty of DELAY, ps; 0xFFFF_FFFF unknown under R135. -/
def GN_CAL_A_UNC : Fld := ⟨0x080050, 32, 32, 0xFFFFFFFF, .rw, 23⟩
/-- GN_CAL_A and GN_CAL_B, at offsets 0x08_0050 and 0x08_0058, hold the receive-chain calibration of band A and band B. -/
def R_GN_CAL_A : RegForm := ⟨0x080050, 1, 0x0, 1, 0x0, fun _ _ => [GN_CAL_A_DELAY, GN_CAL_A_UNC]⟩
/-- GN_CAL_B.DELAY: antenna phase centre to capture, ps. -/
def GN_CAL_B_DELAY : Fld := ⟨0x080058, 0, 32, 0x00000000, .rw, 23⟩
/-- GN_CAL_B.UNC: uncertainty of DELAY, ps; 0xFFFF_FFFF unknown under R135. -/
def GN_CAL_B_UNC : Fld := ⟨0x080058, 32, 32, 0xFFFFFFFF, .rw, 23⟩
/-- GN_CAL_A and GN_CAL_B, at offsets 0x08_0050 and 0x08_0058, hold the receive-chain calibration of band A and band B. -/
def R_GN_CAL_B : RegForm := ⟨0x080058, 1, 0x0, 1, 0x0, fun _ _ => [GN_CAL_B_DELAY, GN_CAL_B_UNC]⟩
/-- GN_SPOOF.EN: 1: guard enabled. -/
def GN_SPOOF_EN : Fld := ⟨0x080060, 0, 1, 1, .rw, 23⟩
/-- GN_SPOOF.AGC_DELTA: LSB 0.5 dB. -/
def GN_SPOOF_AGC_DELTA : Fld := ⟨0x080060, 8, 8, 12, .rw, 23⟩
/-- GN_SPOOF.CN0_SPREAD: LSB 0.1 dB. -/
def GN_SPOOF_CN0_SPREAD : Fld := ⟨0x080060, 16, 8, 10, .rw, 23⟩
/-- GN_SPOOF.MARGIN: LSB 1 ns. -/
def GN_SPOOF_MARGIN : Fld := ⟨0x080060, 24, 16, 0x0032, .rw, 23⟩
/-- GN_SPOOF.CLEAR: seconds; 0 acts as 1. -/
def GN_SPOOF_CLEAR : Fld := ⟨0x080060, 40, 8, 60, .rw, 23⟩
/-- GN_SPOOF.EVID_TIME: seconds; 0 acts as 1. -/
def GN_SPOOF_EVID_TIME : Fld := ⟨0x080060, 48, 8, 10, .rw, 23⟩
/-- GN_SPOOF, at offset 0x08_0060, configures the spoof guard under R140. -/
def R_GN_SPOOF : RegForm := ⟨0x080060, 1, 0x0, 1, 0x0, fun _ _ => [GN_SPOOF_EN, GN_SPOOF_AGC_DELTA, GN_SPOOF_CN0_SPREAD, GN_SPOOF_MARGIN, GN_SPOOF_CLEAR, GN_SPOOF_EVID_TIME]⟩
/-- GN_FLAKE.EN: 1: Flake mode. -/
def GN_FLAKE_EN : Fld := ⟨0x080068, 0, 1, 0, .rw, 23⟩
/-- GN_FLAKE.AUTO_JAM: 1: enter on jamming. -/
def GN_FLAKE_AUTO_JAM : Fld := ⟨0x080068, 1, 1, 0, .rw, 23⟩
/-- GN_FLAKE.EXPORT: 1: export snapshots. -/
def GN_FLAKE_EXPORT : Fld := ⟨0x080068, 2, 1, 0, .rw, 23⟩
/-- GN_FLAKE.SOLVE: 1: solve on chip. -/
def GN_FLAKE_SOLVE : Fld := ⟨0x080068, 3, 1, 1, .rw, 23⟩
/-- GN_FLAKE.LEN: ms; values below 2 act as 2, above 100 as 100. -/
def GN_FLAKE_LEN : Fld := ⟨0x080068, 4, 7, 20, .rw, 23⟩
/-- GN_FLAKE.PERIOD: seconds; 0 acts as 1. -/
def GN_FLAKE_PERIOD : Fld := ⟨0x080068, 16, 16, 0x003C, .rw, 23⟩
/-- GN_FLAKE, at offset 0x08_0068, controls Flake mode under R142 to R144. -/
def R_GN_FLAKE : RegForm := ⟨0x080068, 1, 0x0, 1, 0x0, fun _ _ => [GN_FLAKE_EN, GN_FLAKE_AUTO_JAM, GN_FLAKE_EXPORT, GN_FLAKE_SOLVE, GN_FLAKE_LEN, GN_FLAKE_PERIOD]⟩
/-- GN_SNAP_HADDR.ARM: 1: buffer ready; cleared by the part after an export. -/
def GN_SNAP_HADDR_ARM : Fld := ⟨0x080070, 0, 1, 0, .rw, 0⟩
/-- GN_SNAP_HADDR.ADDR: host address, 4 KiB aligned. -/
def GN_SNAP_HADDR_ADDR : Fld := ⟨0x080070, 12, 52, 0, .rw, 0⟩
/-- GN_SNAP_HADDR, at offset 0x08_0070, names the host export buffer. -/
def R_GN_SNAP_HADDR : RegForm := ⟨0x080070, 1, 0x0, 1, 0x0, fun _ _ => [GN_SNAP_HADDR_ARM, GN_SNAP_HADDR_ADDR]⟩
/-- GN_STAT.STATE: 0 OFF, 1 STARTING, 2 TIMING, 3 NO_SOLUTION, 4 FLAKE. -/
def GN_STAT_STATE : Fld := ⟨0x080078, 0, 3, 0, .ro, 6⟩
/-- GN_STAT.START_KIND: 0 hot, 1 warm, 2 cold. -/
def GN_STAT_START_KIND : Fld := ⟨0x080078, 3, 2, 0, .ro, 6⟩
/-- GN_STAT.SOL_VALID: valid timing solution. -/
def GN_STAT_SOL_VALID : Fld := ⟨0x080078, 5, 1, 0, .ro, 6⟩
/-- GN_STAT.SPOOF_REJ: guard rejecting. -/
def GN_STAT_SPOOF_REJ : Fld := ⟨0x080078, 6, 1, 0, .ro, 6⟩
/-- GN_STAT.JAM: jamming declared. -/
def GN_STAT_JAM : Fld := ⟨0x080078, 7, 1, 0, .ro, 6⟩
/-- GN_STAT.SINGLE_FREQ: last solution single-frequency. -/
def GN_STAT_SINGLE_FREQ : Fld := ⟨0x080078, 8, 1, 0, .ro, 6⟩
/-- GN_STAT.SV_USED: satellites used. -/
def GN_STAT_SV_USED : Fld := ⟨0x080078, 16, 8, 0, .ro, 6⟩
/-- GN_STAT.SV_TRACKED: satellites tracked. -/
def GN_STAT_SV_TRACKED : Fld := ⟨0x080078, 24, 8, 0, .ro, 6⟩
/-- GN_STAT.BANDS_OK: bit 32 band A, bit 33 band B in use. -/
def GN_STAT_BANDS_OK : Fld := ⟨0x080078, 32, 2, 0, .ro, 6⟩
/-- GN_STAT, at offset 0x08_0078, reports the baseband. -/
def R_GN_STAT : RegForm := ⟨0x080078, 1, 0x0, 1, 0x0, fun _ _ => [GN_STAT_STATE, GN_STAT_START_KIND, GN_STAT_SOL_VALID, GN_STAT_SPOOF_REJ, GN_STAT_JAM, GN_STAT_SINGLE_FREQ, GN_STAT_SV_USED, GN_STAT_SV_TRACKED, GN_STAT_BANDS_OK]⟩
/-- GN_SOL_OFS.E: e of the last solution, phase word. -/
def GN_SOL_OFS_E : Fld := ⟨0x080080, 0, 64, 0, .ro, 6⟩
/-- The solution results follow. -/
def R_GN_SOL_OFS : RegForm := ⟨0x080080, 1, 0x0, 1, 0x0, fun _ _ => [GN_SOL_OFS_E]⟩
/-- GN_SOL_UNC.UNC: reference uncertainty, bound format; [63:48] reserved. -/
def GN_SOL_UNC_UNC : Fld := ⟨0x080088, 0, 48, 0xFFFFFFFFFFFF, .ro, 6⟩
/-- The solution results follow. -/
def R_GN_SOL_UNC : RegForm := ⟨0x080088, 1, 0x0, 1, 0x0, fun _ _ => [GN_SOL_UNC_UNC]⟩
/-- GN_EVT.CLK_BAD: event 0x0301. -/
def GN_EVT_CLK_BAD : Fld := ⟨0x080090, 0, 1, 0, .w1c, 7⟩
/-- GN_EVT.CLK_OK: event 0x0302. -/
def GN_EVT_CLK_OK : Fld := ⟨0x080090, 1, 1, 0, .w1c, 7⟩
/-- GN_EVT.SOL: event 0x0303. -/
def GN_EVT_SOL : Fld := ⟨0x080090, 2, 1, 0, .w1c, 7⟩
/-- GN_EVT.SOL_LOST: event 0x0304. -/
def GN_EVT_SOL_LOST : Fld := ⟨0x080090, 3, 1, 0, .w1c, 7⟩
/-- GN_EVT.SURVEYED: event 0x0305. -/
def GN_EVT_SURVEYED : Fld := ⟨0x080090, 4, 1, 0, .w1c, 7⟩
/-- GN_EVT.POS_BAD: event 0x0306. -/
def GN_EVT_POS_BAD : Fld := ⟨0x080090, 5, 1, 0, .w1c, 7⟩
/-- GN_EVT.SPOOF: event 0x0307. -/
def GN_EVT_SPOOF : Fld := ⟨0x080090, 6, 1, 0, .w1c, 7⟩
/-- GN_EVT.SPOOF_CLR: event 0x0308. -/
def GN_EVT_SPOOF_CLR : Fld := ⟨0x080090, 7, 1, 0, .w1c, 7⟩
/-- GN_EVT.JAM: event 0x0309. -/
def GN_EVT_JAM : Fld := ⟨0x080090, 8, 1, 0, .w1c, 7⟩
/-- GN_EVT.FLAKE: event 0x030A. -/
def GN_EVT_FLAKE : Fld := ⟨0x080090, 9, 1, 0, .w1c, 7⟩
/-- GN_EVT.SNAP_DROP: event 0x030B. -/
def GN_EVT_SNAP_DROP : Fld := ⟨0x080090, 10, 1, 0, .w1c, 7⟩
/-- GN_EVT.LEAP_MIS: event 0x030C. -/
def GN_EVT_LEAP_MIS : Fld := ⟨0x080090, 11, 1, 0, .w1c, 7⟩
/-- GN_EVT.FN_BAD: event 0x030D. -/
def GN_EVT_FN_BAD : Fld := ⟨0x080090, 12, 1, 0, .w1c, 7⟩
/-- GN_EVT.SV_EXCL: event 0x030E. -/
def GN_EVT_SV_EXCL : Fld := ⟨0x080090, 13, 1, 0, .w1c, 7⟩
/-- GN_EVT, at offset 0x08_0090, holds sticky flags. Each is set together with its event. -/
def R_GN_EVT : RegForm := ⟨0x080090, 1, 0x0, 1, 0x0, fun _ _ => [GN_EVT_CLK_BAD, GN_EVT_CLK_OK, GN_EVT_SOL, GN_EVT_SOL_LOST, GN_EVT_SURVEYED, GN_EVT_POS_BAD, GN_EVT_SPOOF, GN_EVT_SPOOF_CLR, GN_EVT_JAM, GN_EVT_FLAKE, GN_EVT_SNAP_DROP, GN_EVT_LEAP_MIS, GN_EVT_FN_BAD, GN_EVT_SV_EXCL]⟩
/-- GN_CHp_STAT.SYS: system, encoded as TSYS. -/
def GN_CH_STAT_SYS (n : Nat) : Fld := ⟨0x081000 + n * 0x10, 0, 2, 0, .ro, 6⟩
/-- GN_CHp_STAT.PRN: satellite number. -/
def GN_CH_STAT_PRN (n : Nat) : Fld := ⟨0x081000 + n * 0x10, 2, 8, 0, .ro, 6⟩
/-- GN_CHp_STAT.STATE: 0 IDLE, 1 ACQ, 2 TRACK, 3 DATA, 4 USED, 5 EXCLUDED. -/
def GN_CH_STAT_STATE (n : Nat) : Fld := ⟨0x081000 + n * 0x10, 10, 3, 0, .ro, 6⟩
/-- GN_CHp_STAT.B_OK: band B tracked. -/
def GN_CH_STAT_B_OK (n : Nat) : Fld := ⟨0x081000 + n * 0x10, 13, 1, 0, .ro, 6⟩
/-- GN_CHp_STAT.CN0_A: LSB 0.5 dB-Hz. -/
def GN_CH_STAT_CN0_A (n : Nat) : Fld := ⟨0x081000 + n * 0x10, 14, 8, 0, .ro, 6⟩
/-- GN_CHp_STAT.CN0_B: LSB 0.5 dB-Hz. -/
def GN_CH_STAT_CN0_B (n : Nat) : Fld := ⟨0x081000 + n * 0x10, 22, 8, 0, .ro, 6⟩
/-- GN_CHp_STAT.ELEV: degrees. -/
def GN_CH_STAT_ELEV (n : Nat) : Fld := ⟨0x081000 + n * 0x10, 30, 7, 0, .ro, 6⟩
/-- GN_CHp_STAT.RESID: post-fit residual, signed, LSB 10 ps. -/
def GN_CH_STAT_RESID (n : Nat) : Fld := ⟨0x081000 + n * 0x10, 40, 24, 0x000000, .ro, 6⟩
/-- GN_CHp_STAT, at offset 0x08_1000 + p × 0x10, reports channel pair p. C/N0 and RESID saturate. -/
def R_GN_CH_STAT : RegForm := ⟨0x081000, 128, 0x10, 1, 0x0, fun n _ => [GN_CH_STAT_SYS n, GN_CH_STAT_PRN n, GN_CH_STAT_STATE n, GN_CH_STAT_B_OK n, GN_CH_STAT_CN0_A n, GN_CH_STAT_CN0_B n, GN_CH_STAT_ELEV n, GN_CH_STAT_RESID n]⟩
/-- MB_CFG.MEAS_K: jitter multiplier under R154; 0 acts as 1. -/
def MB_CFG_MEAS_K : Fld := ⟨0x060000, 0, 4, 6, .rw, 23⟩
/-- MB_CFG.ATT_EN: 1: hourly attestation. -/
def MB_CFG_ATT_EN : Fld := ⟨0x060000, 4, 1, 1, .rw, 23⟩
/-- MB_CFG.MAP_HOLD: seconds under R164. -/
def MB_CFG_MAP_HOLD : Fld := ⟨0x060000, 8, 8, 10, .rw, 23⟩
/-- MB_CFG.STALE_RATE: inflation, LSB 1 ps/s. -/
def MB_CFG_STALE_RATE : Fld := ⟨0x060000, 16, 16, 0x03E8, .rw, 23⟩
/-- MB_CFG.STALE_MAX: ms; 0 acts as 1. -/
def MB_CFG_STALE_MAX : Fld := ⟨0x060000, 32, 16, 0x03E8, .rw, 23⟩
/-- MB_CFG.RTC_UNC: RTC frequency bound, LSB 1 ppm. -/
def MB_CFG_RTC_UNC : Fld := ⟨0x060000, 48, 16, 0x00C8, .rw, 23⟩
/-- MB_CFG, at offset 0x06_0000, configures Moraine. -/
def R_MB_CFG : RegForm := ⟨0x060000, 1, 0x0, 1, 0x0, fun _ _ => [MB_CFG_MEAS_K, MB_CFG_ATT_EN, MB_CFG_MAP_HOLD, MB_CFG_STALE_RATE, MB_CFG_STALE_MAX, MB_CFG_RTC_UNC]⟩
/-- MB_ALLOW_CFG.DIP: ps per dip episode. -/
def MB_ALLOW_CFG_DIP : Fld := ⟨0x060008, 0, 16, 0x07D0, .rw, 23⟩
/-- MB_ALLOW_CFG.SWITCH: ps per switchover, forced migration or lockstep reload. -/
def MB_ALLOW_CFG_SWITCH : Fld := ⟨0x060008, 16, 16, 0x01F4, .rw, 23⟩
/-- MB_ALLOW_CFG.REFCHG: ps per change of active reference. -/
def MB_ALLOW_CFG_REFCHG : Fld := ⟨0x060008, 32, 16, 0x03E8, .rw, 23⟩
/-- MB_ALLOW_CFG, at offset 0x06_0008, sets the allowances under R158. -/
def R_MB_ALLOW_CFG : RegForm := ⟨0x060008, 1, 0x0, 1, 0x0, fun _ _ => [MB_ALLOW_CFG_DIP, MB_ALLOW_CFG_SWITCH, MB_ALLOW_CFG_REFCHG]⟩
/-- MB_PORT_UNC.PORT0: port 0. -/
def MB_PORT_UNC_PORT0 : Fld := ⟨0x060010, 0, 16, 0, .rw, 23⟩
/-- MB_PORT_UNC.PORT1: port 1. -/
def MB_PORT_UNC_PORT1 : Fld := ⟨0x060010, 16, 16, 0, .rw, 23⟩
/-- MB_PORT_UNC.PORT2: port 2. -/
def MB_PORT_UNC_PORT2 : Fld := ⟨0x060010, 32, 16, 0, .rw, 23⟩
/-- MB_PORT_UNC.PORT3: port 3. -/
def MB_PORT_UNC_PORT3 : Fld := ⟨0x060010, 48, 16, 0, .rw, 23⟩
/-- MB_PORT_UNC, at offset 0x06_0010, holds the board-value uncertainty of the client ports. -/
def R_MB_PORT_UNC : RegForm := ⟨0x060010, 1, 0x0, 1, 0x0, fun _ _ => [MB_PORT_UNC_PORT0, MB_PORT_UNC_PORT1, MB_PORT_UNC_PORT2, MB_PORT_UNC_PORT3]⟩
/-- MB_PORT_UNC_HI.PORT4: port 4, LSB 1 ps; added to a MATE reference's measurement term. -/
def MB_PORT_UNC_HI_PORT4 : Fld := ⟨0x0600A8, 0, 16, 0x0000, .rw, 23⟩
/-- MB_PORT_UNC_HI.PORT5: port 5, LSB 1 ps. -/
def MB_PORT_UNC_HI_PORT5 : Fld := ⟨0x0600A8, 16, 16, 0x0000, .rw, 23⟩
/-- MB_PORT_UNC_HI, at offset 0x06_00A8, holds the board-value uncertainty of the mate and management ports. -/
def R_MB_PORT_UNC_HI : RegForm := ⟨0x0600A8, 1, 0x0, 1, 0x0, fun _ _ => [MB_PORT_UNC_HI_PORT4, MB_PORT_UNC_HI_PORT5]⟩
/-- MB_STAT.STATE: 0 TRACK, 1 FREQ, 2 HOLD. -/
def MB_STAT_STATE : Fld := ⟨0x060018, 0, 2, 2, .ro, 6⟩
/-- MB_STAT.UNB: bound unbounded. -/
def MB_STAT_UNB : Fld := ⟨0x060018, 2, 1, 1, .ro, 6⟩
/-- MB_STAT.STALE: under R160. -/
def MB_STAT_STALE : Fld := ⟨0x060018, 3, 1, 0, .ro, 6⟩
/-- MB_STAT.MAP: map entry in force; 0xF: no entry matched, reset values of entry 4 used under R164. -/
def MB_STAT_MAP : Fld := ⟨0x060018, 4, 4, 4, .ro, 6⟩
/-- MB_STAT.ALLOW_N: allowances accumulated, saturating. -/
def MB_STAT_ALLOW_N : Fld := ⟨0x060018, 16, 8, 0, .ro, 6⟩
/-- MB_STAT.SEQ: publications since start, wrapping. -/
def MB_STAT_SEQ : Fld := ⟨0x060018, 32, 32, 0x00000000, .ro, 6⟩
/-- MB_STAT, at offset 0x06_0018, reports Moraine. -/
def R_MB_STAT : RegForm := ⟨0x060018, 1, 0x0, 1, 0x0, fun _ _ => [MB_STAT_STATE, MB_STAT_UNB, MB_STAT_STALE, MB_STAT_MAP, MB_STAT_ALLOW_N, MB_STAT_SEQ]⟩
/-- MB_BOUND.BOUND: published bound. -/
def MB_BOUND_BOUND : Fld := ⟨0x060020, 0, 48, 0xFFFFFFFFFFFF, .ro, 6⟩
/-- The published values and terms follow. Each is RO and kept through F I. Bits [63:48] of the bound-format registers are reserved. -/
def R_MB_BOUND : RegForm := ⟨0x060020, 1, 0x0, 1, 0x0, fun _ _ => [MB_BOUND_BOUND]⟩
/-- MB_SIGMA.SIGMA: under R162. -/
def MB_SIGMA_SIGMA : Fld := ⟨0x060028, 0, 48, 0xFFFFFFFFFFFF, .ro, 6⟩
/-- The published values and terms follow. Each is RO and kept through F I. Bits [63:48] of the bound-format registers are reserved. -/
def R_MB_SIGMA : RegForm := ⟨0x060028, 1, 0x0, 1, 0x0, fun _ _ => [MB_SIGMA_SIGMA]⟩
/-- MB_PUB_SEC.SEC: publication time, read under R25. -/
def MB_PUB_SEC_SEC : Fld := ⟨0x060030, 0, 48, 0, .ro, 6⟩
/-- The published values and terms follow. Each is RO and kept through F I. Bits [63:48] of the bound-format registers are reserved. -/
def R_MB_PUB_SEC : RegForm := ⟨0x060030, 1, 0x0, 1, 0x0, fun _ _ => [MB_PUB_SEC_SEC]⟩
/-- MB_PUB_NSF.NSF: publication time. -/
def MB_PUB_NSF_NSF : Fld := ⟨0x060038, 0, 64, 0, .ro, 6⟩
/-- The published values and terms follow. Each is RO and kept through F I. Bits [63:48] of the bound-format registers are reserved. -/
def R_MB_PUB_NSF : RegForm := ⟨0x060038, 1, 0x0, 1, 0x0, fun _ _ => [MB_PUB_NSF_NSF]⟩
/-- MB_COMP_REF.REF: ref. -/
def MB_COMP_REF_REF : Fld := ⟨0x060040, 0, 48, 0, .ro, 6⟩
/-- The published values and terms follow. Each is RO and kept through F I. Bits [63:48] of the bound-format registers are reserved. -/
def R_MB_COMP_REF : RegForm := ⟨0x060040, 1, 0x0, 1, 0x0, fun _ _ => [MB_COMP_REF_REF]⟩
/-- MB_COMP_MEAS.MEAS: meas. -/
def MB_COMP_MEAS_MEAS : Fld := ⟨0x060048, 0, 48, 0, .ro, 6⟩
/-- The published values and terms follow. Each is RO and kept through F I. Bits [63:48] of the bound-format registers are reserved. -/
def R_MB_COMP_MEAS : RegForm := ⟨0x060048, 1, 0x0, 1, 0x0, fun _ _ => [MB_COMP_MEAS_MEAS]⟩
/-- MB_COMP_TRACK.TRACK: track. -/
def MB_COMP_TRACK_TRACK : Fld := ⟨0x060050, 0, 48, 0, .ro, 6⟩
/-- The published values and terms follow. Each is RO and kept through F I. Bits [63:48] of the bound-format registers are reserved. -/
def R_MB_COMP_TRACK : RegForm := ⟨0x060050, 1, 0x0, 1, 0x0, fun _ _ => [MB_COMP_TRACK_TRACK]⟩
/-- MB_COMP_HOLD.HOLD: hold. -/
def MB_COMP_HOLD_HOLD : Fld := ⟨0x060058, 0, 48, 0, .ro, 6⟩
/-- The published values and terms follow. Each is RO and kept through F I. Bits [63:48] of the bound-format registers are reserved. -/
def R_MB_COMP_HOLD : RegForm := ⟨0x060058, 1, 0x0, 1, 0x0, fun _ _ => [MB_COMP_HOLD_HOLD]⟩
/-- MB_COMP_ALLOW.ALLOW: allow. -/
def MB_COMP_ALLOW_ALLOW : Fld := ⟨0x060060, 0, 48, 0, .ro, 6⟩
/-- The published values and terms follow. Each is RO and kept through F I. Bits [63:48] of the bound-format registers are reserved. -/
def R_MB_COMP_ALLOW : RegForm := ⟨0x060060, 1, 0x0, 1, 0x0, fun _ _ => [MB_COMP_ALLOW_ALLOW]⟩
/-- MB_COMP_EXCESS.EXCESS: excess. -/
def MB_COMP_EXCESS_EXCESS : Fld := ⟨0x060068, 0, 48, 0, .ro, 6⟩
/-- The published values and terms follow. Each is RO and kept through F I. Bits [63:48] of the bound-format registers are reserved. -/
def R_MB_COMP_EXCESS : RegForm := ⟨0x060068, 1, 0x0, 1, 0x0, fun _ _ => [MB_COMP_EXCESS_EXCESS]⟩
/-- MB_COMP_CONTEST.CONTEST: contest. -/
def MB_COMP_CONTEST_CONTEST : Fld := ⟨0x060070, 0, 48, 0, .ro, 6⟩
/-- The published values and terms follow. Each is RO and kept through F I. Bits [63:48] of the bound-format registers are reserved. -/
def R_MB_COMP_CONTEST : RegForm := ⟨0x060070, 1, 0x0, 1, 0x0, fun _ _ => [MB_COMP_CONTEST_CONTEST]⟩
/-- MB_COMP_COAST.COAST: coast. -/
def MB_COMP_COAST_COAST : Fld := ⟨0x060078, 0, 48, 0, .ro, 6⟩
/-- The published values and terms follow. Each is RO and kept through F I. Bits [63:48] of the bound-format registers are reserved. -/
def R_MB_COMP_COAST : RegForm := ⟨0x060078, 1, 0x0, 1, 0x0, fun _ _ => [MB_COMP_COAST_COAST]⟩
/-- MB_HO_P0.P0: P0 under R157. -/
def MB_HO_P0_P0 : Fld := ⟨0x060080, 0, 48, 0xFFFFFFFFFFFF, .ro, 6⟩
/-- The published values and terms follow. Each is RO and kept through F I. Bits [63:48] of the bound-format registers are reserved. -/
def R_MB_HO_P0 : RegForm := ⟨0x060080, 1, 0x0, 1, 0x0, fun _ _ => [MB_HO_P0_P0]⟩
/-- MB_ALLOW_ACC.ACC: accumulated allowances. -/
def MB_ALLOW_ACC_ACC : Fld := ⟨0x060090, 0, 48, 0, .ro, 6⟩
/-- The published values and terms follow. Each is RO and kept through F I. Bits [63:48] of the bound-format registers are reserved. -/
def R_MB_ALLOW_ACC : RegForm := ⟨0x060090, 1, 0x0, 1, 0x0, fun _ _ => [MB_ALLOW_ACC_ACC]⟩
/-- MB_HO_T0.SEC: TAI second of T0. -/
def MB_HO_T0_SEC : Fld := ⟨0x060088, 0, 48, 0, .ro, 6⟩
/-- MB_HO_T0.IDX: schedule point in that second; T0 = SEC + IDX × 62.5 ms. -/
def MB_HO_T0_IDX : Fld := ⟨0x060088, 48, 4, 0, .ro, 6⟩
/-- MB_HO_T0.SRC: oscillator model k. -/
def MB_HO_T0_SRC : Fld := ⟨0x060088, 52, 2, 0, .ro, 6⟩
/-- MB_HO_T0, at offset 0x06_0088, holds T0 under R157. -/
def R_MB_HO_T0 : RegForm := ⟨0x060088, 1, 0x0, 1, 0x0, fun _ _ => [MB_HO_T0_SEC, MB_HO_T0_IDX, MB_HO_T0_SRC]⟩
/-- MB_MISS.PUB_MISS: publications missed, saturating. -/
def MB_MISS_PUB_MISS : Fld := ⟨0x060098, 0, 16, 0x0000, .rc, 6⟩
/-- MB_MISS, at offset 0x06_0098, counts missed publications. -/
def R_MB_MISS : RegForm := ⟨0x060098, 1, 0x0, 1, 0x0, fun _ _ => [MB_MISS_PUB_MISS]⟩
/-- MB_EVT.PUB_MISS: event 0x0410. -/
def MB_EVT_PUB_MISS : Fld := ⟨0x0600A0, 0, 1, 0, .w1c, 7⟩
/-- MB_EVT.UNB: event 0x0411. -/
def MB_EVT_UNB : Fld := ⟨0x0600A0, 1, 1, 0, .w1c, 7⟩
/-- MB_EVT.BOUNDED: event 0x0412. -/
def MB_EVT_BOUNDED : Fld := ⟨0x0600A0, 2, 1, 0, .w1c, 7⟩
/-- MB_EVT.TRACE: event 0x0413. -/
def MB_EVT_TRACE : Fld := ⟨0x0600A0, 3, 1, 0, .w1c, 7⟩
/-- MB_EVT.MAP: event 0x0414. -/
def MB_EVT_MAP : Fld := ⟨0x0600A0, 4, 1, 0, .w1c, 7⟩
/-- MB_EVT.ALLOW: event 0x0415. -/
def MB_EVT_ALLOW : Fld := ⟨0x0600A0, 5, 1, 0, .w1c, 7⟩
/-- MB_EVT.ATT: event 0x0416. -/
def MB_EVT_ATT : Fld := ⟨0x0600A0, 6, 1, 0, .w1c, 7⟩
/-- MB_EVT.ATT_FAIL: event 0x0417. -/
def MB_EVT_ATT_FAIL : Fld := ⟨0x0600A0, 7, 1, 0, .w1c, 7⟩
/-- MB_EVT.STALE_MAX: event 0x0419. -/
def MB_EVT_STALE_MAX : Fld := ⟨0x0600A0, 8, 1, 0, .w1c, 7⟩
/-- MB_EVT, at offset 0x06_00A0, holds sticky flags set under R172. -/
def R_MB_EVT : RegForm := ⟨0x0600A0, 1, 0x0, 1, 0x0, fun _ _ => [MB_EVT_PUB_MISS, MB_EVT_UNB, MB_EVT_BOUNDED, MB_EVT_TRACE, MB_EVT_MAP, MB_EVT_ALLOW, MB_EVT_ATT, MB_EVT_ATT_FAIL, MB_EVT_STALE_MAX]⟩
/-- MB_OSCk.F_UNC: frequency uncertainty at T0, LSB 0.01 ppt. -/
def MB_OSC_F_UNC (n : Nat) : Fld := ⟨0x060100 + n * 0x8, 0, 28, oscReset n 0, .rw, 23⟩
/-- MB_OSCk.D_UNC: drift uncertainty, LSB 0.01 ppt/day. -/
def MB_OSC_D_UNC (n : Nat) : Fld := ⟨0x060100 + n * 0x8, 28, 24, oscReset n 1, .rw, 23⟩
/-- MB_OSCk.STAB: stability term, LSB 0.1 ps/√s. -/
def MB_OSC_STAB (n : Nat) : Fld := ⟨0x060100 + n * 0x8, 52, 12, oscReset n 2, .rw, 23⟩
/-- MB_OSCk, at offset 0x06_0100 + k × 8, holds oscillator model k. -/
def R_MB_OSC : RegForm := ⟨0x060100, 3, 0x8, 1, 0x0, fun n _ => [MB_OSC_F_UNC n, MB_OSC_D_UNC n, MB_OSC_STAB n]⟩
/-- MB_MAPk.BOUND_MAX: ps; 0xFF_FFFF_FFFF matches every bound. -/
def MB_MAP_BOUND_MAX (n : Nat) : Fld := ⟨0x060200 + n * 0x8, 0, 40, mapReset n 0, .rw, 23⟩
/-- MB_MAPk.STATES: bit 40 TRACK, 41 FREQ, 42 HOLD. -/
def MB_MAP_STATES (n : Nat) : Fld := ⟨0x060200 + n * 0x8, 40, 3, mapReset n 1, .rw, 23⟩
/-- MB_MAPk.EN: 1: entry used. -/
def MB_MAP_EN (n : Nat) : Fld := ⟨0x060200 + n * 0x8, 43, 1, mapReset n 2, .rw, 23⟩
/-- MB_MAPk.CLASS: PTP clockClass. -/
def MB_MAP_CLASS (n : Nat) : Fld := ⟨0x060200 + n * 0x8, 44, 8, mapReset n 3, .rw, 23⟩
/-- MB_MAPk.SSM: SyncE SSM code. -/
def MB_MAP_SSM (n : Nat) : Fld := ⟨0x060200 + n * 0x8, 52, 4, mapReset n 4, .rw, 23⟩
/-- MB_MAPk.STRATUM: NTP stratum. -/
def MB_MAP_STRATUM (n : Nat) : Fld := ⟨0x060200 + n * 0x8, 56, 8, mapReset n 5, .rw, 23⟩
/-- MB_MAPk, at offset 0x06_0200 + k × 8, holds map entry k. -/
def R_MB_MAP : RegForm := ⟨0x060200, 8, 0x8, 1, 0x0, fun n _ => [MB_MAP_BOUND_MAX n, MB_MAP_STATES n, MB_MAP_EN n, MB_MAP_CLASS n, MB_MAP_SSM n, MB_MAP_STRATUM n]⟩
/-- MB_ATT_STAT.VALID: 1: window holds a signed record. -/
def MB_ATT_STAT_VALID : Fld := ⟨0x060300, 0, 1, 0, .ro, 6⟩
/-- MB_ATT_STAT.SEQ: low 32 bits of the record's sequence. -/
def MB_ATT_STAT_SEQ : Fld := ⟨0x060300, 32, 32, 0x00000000, .ro, 6⟩
/-- MB_ATT_STAT, at offset 0x06_0300, describes the attestation window. A read of it latches MB_ATT0 to MB_ATT19 in the manner of R80. -/
def R_MB_ATT_STAT : RegForm := ⟨0x060300, 1, 0x0, 1, 0x0, fun _ _ => [MB_ATT_STAT_VALID, MB_ATT_STAT_SEQ]⟩
/-- MB_ATTw.DATA: record bytes, little-endian. -/
def MB_ATT_DATA (n : Nat) : Fld := ⟨0x060400 + n * 0x8, 0, 64, 0x0000000000000000, .ro, 6⟩
/-- MB_ATTw, at offset 0x06_0400 + w × 8, returns bytes 8w to 8w + 7 of the attestation record. -/
def R_MB_ATT : RegForm := ⟨0x060400, 20, 0x8, 1, 0x0, fun n _ => [MB_ATT_DATA n]⟩
/-- MB_REFn_CAL.UNC: time slot: calibration uncertainty in ps; frequency slot: frequency uncertainty in ppt; all-ones means unknown. -/
def MB_REF_CAL_UNC (n : Nat) : Fld := ⟨0x061000 + n * 0x10, 0, 48, 0xFFFFFFFFFFFF, .rw, 23⟩
/-- MB_REFn_CAL.REC_ID: calibration record identifier. -/
def MB_REF_CAL_REC_ID (n : Nat) : Fld := ⟨0x061000 + n * 0x10, 48, 12, 0x000, .rw, 23⟩
/-- MB_REFn_CAL.ST: statistics engine for j. -/
def MB_REF_CAL_ST (n : Nat) : Fld := ⟨0x061000 + n * 0x10, 60, 3, 0, .rw, 23⟩
/-- MB_REFn_CAL.ST_EN: 1: use engine ST under R154. -/
def MB_REF_CAL_ST_EN (n : Nat) : Fld := ⟨0x061000 + n * 0x10, 63, 1, 0, .rw, 23⟩
/-- MB_REFn_CAL, at offset 0x06_1000 + n × 0x10, holds slot n's calibration. A write of it produces a trace record if slot n is active. -/
def R_MB_REF_CAL : RegForm := ⟨0x061000, 16, 0x10, 1, 0x0, fun n _ => [MB_REF_CAL_UNC n, MB_REF_CAL_REC_ID n, MB_REF_CAL_ST n, MB_REF_CAL_ST_EN n]⟩
/-- MB_REFn_BOUND.BOUND: per-reference bound under R163. -/
def MB_REF_BOUND_BOUND (n : Nat) : Fld := ⟨0x061008 + n * 0x10, 0, 48, 0xFFFFFFFFFFFF, .ro, 6⟩
/-- MB_REFn_BOUND, at offset 0x06_1008 + n × 0x10, reports slot n's bound. -/
def R_MB_REF_BOUND : RegForm := ⟨0x061008, 16, 0x10, 1, 0x0, fun n _ => [MB_REF_BOUND_BOUND n]⟩
/-- OS_CFG.PG_LIM: limit, LSB 1 ps. -/
def OS_CFG_PG_LIM : Fld := ⟨0x070000, 0, 16, 0x0064, .rw, 23⟩
/-- OS_CFG.PG_CNT: measurements to set PG; 0 acts as 1. -/
def OS_CFG_PG_CNT : Fld := ⟨0x070000, 16, 4, 4, .rw, 23⟩
/-- OS_CFG.PG_DEGRADE: 1: PG = 0 asserts DEGRADE_N. -/
def OS_CFG_PG_DEGRADE : Fld := ⟨0x070000, 20, 1, 1, .rw, 23⟩
/-- OS_CFG, at offset 0x07_0000, sets phase-good. -/
def R_OS_CFG : RegForm := ⟨0x070000, 1, 0x0, 1, 0x0, fun _ _ => [OS_CFG_PG_LIM, OS_CFG_PG_CNT, OS_CFG_PG_DEGRADE]⟩
/-- OS_OMn_CFG.EN: 1: OM enabled. -/
def OS_OM_CFG_EN (n : Nat) : Fld := ⟨0x070100 + n * 0x40, 0, 1, 0, .rw, 23⟩
/-- OS_OMn_CFG.INT: integer factor. -/
def OS_OM_CFG_INT (n : Nat) : Fld := ⟨0x070100 + n * 0x40, 8, 8, 16, .rw, 23⟩
/-- OS_OMn_CFG.NUM: numerator. -/
def OS_OM_CFG_NUM (n : Nat) : Fld := ⟨0x070100 + n * 0x40, 16, 24, 0x000000, .rw, 23⟩
/-- OS_OMn_CFG.DEN: denominator. -/
def OS_OM_CFG_DEN (n : Nat) : Fld := ⟨0x070100 + n * 0x40, 40, 24, 0x000001, .rw, 23⟩
/-- OS_OMn_CFG, at offset 0x07_0100 + n × 0x40, configures OMn. -/
def R_OS_OM_CFG : RegForm := ⟨0x070100, 4, 0x40, 1, 0x0, fun n _ => [OS_OM_CFG_EN n, OS_OM_CFG_INT n, OS_OM_CFG_NUM n, OS_OM_CFG_DEN n]⟩
/-- OS_OMn_LOCKTIME.LOCKTIME: LSB 1 µs; values below 500 act as 500. -/
def OS_OM_LOCKTIME_LOCKTIME (n : Nat) : Fld := ⟨0x070108 + n * 0x40, 0, 16, 0x07D0, .rw, 23⟩
/-- OS_OMn_LOCKTIME, at offset 0x07_0108 + n × 0x40, sets the lock time. -/
def R_OS_OM_LOCKTIME : RegForm := ⟨0x070108, 4, 0x40, 1, 0x0, fun n _ => [OS_OM_LOCKTIME_LOCKTIME n]⟩
/-- OS_OMn_STAT.LOCK: lock declared. -/
def OS_OM_STAT_LOCK (n : Nat) : Fld := ⟨0x070110 + n * 0x40, 0, 1, 0, .ro, 6⟩
/-- OS_OMn_STAT.NOBAND: no entry covers f_OM. -/
def OS_OM_STAT_NOBAND (n : Nat) : Fld := ⟨0x070110 + n * 0x40, 1, 1, 0, .ro, 6⟩
/-- OS_OMn_STAT.BADCFG: invalid under R175. -/
def OS_OM_STAT_BADCFG (n : Nat) : Fld := ⟨0x070110 + n * 0x40, 2, 1, 0, .ro, 6⟩
/-- OS_OMn_STAT.BAND: entry in use. -/
def OS_OM_STAT_BAND (n : Nat) : Fld := ⟨0x070110 + n * 0x40, 8, 6, 0, .ro, 6⟩
/-- OS_OMn_STAT.CODE: band code in use. -/
def OS_OM_STAT_CODE (n : Nat) : Fld := ⟨0x070110 + n * 0x40, 16, 8, 0, .ro, 6⟩
/-- OS_OMn_STAT, at offset 0x07_0110 + n × 0x40, reports OMn. -/
def R_OS_OM_STAT : RegForm := ⟨0x070110, 4, 0x40, 1, 0x0, fun n _ => [OS_OM_STAT_LOCK n, OS_OM_STAT_NOBAND n, OS_OM_STAT_BADCFG n, OS_OM_STAT_BAND n, OS_OM_STAT_CODE n]⟩
/-- OS_OMn_BANDj.MIN: kHz. -/
def OS_OM_BAND_MIN (n j : Nat) : Fld := ⟨0x071000 + n * 0x200 + j * 0x8, 0, 22, 0x000000, .rw, 23⟩
/-- OS_OMn_BANDj.MAX: kHz. -/
def OS_OM_BAND_MAX (n j : Nat) : Fld := ⟨0x071000 + n * 0x200 + j * 0x8, 22, 22, 0x000000, .rw, 23⟩
/-- OS_OMn_BANDj.CODE: band code. -/
def OS_OM_BAND_CODE (n j : Nat) : Fld := ⟨0x071000 + n * 0x200 + j * 0x8, 44, 8, 0, .rw, 23⟩
/-- OS_OMn_BANDj.VALID: 1: entry used. -/
def OS_OM_BAND_VALID (n j : Nat) : Fld := ⟨0x071000 + n * 0x200 + j * 0x8, 63, 1, 0, .rw, 23⟩
/-- OS_OMn_BANDj, at offset 0x07_1000 + n × 0x200 + j × 8, holds band entry j. -/
def R_OS_OM_BAND : RegForm := ⟨0x071000, 4, 0x200, 64, 0x8, fun n j => [OS_OM_BAND_MIN n j, OS_OM_BAND_MAX n j, OS_OM_BAND_CODE n j, OS_OM_BAND_VALID n j]⟩
/-- OS_CLKk_CFG.EN: 1: output enabled. -/
def OS_CLK_CFG_EN (n : Nat) : Fld := ⟨0x070400 + n * 0x20, 0, 1, 0, .rw, 23⟩
/-- OS_CLKk_CFG.SRC: OM0 to OM3. -/
def OS_CLK_CFG_SRC (n : Nat) : Fld := ⟨0x070400 + n * 0x20, 1, 2, 0, .rw, 23⟩
/-- OS_CLKk_CFG.STD: 0b00 LVDS, 0b01 HCSL, 0b10 LVPECL-compatible; 0b11 acts as 0b00. -/
def OS_CLK_CFG_STD (n : Nat) : Fld := ⟨0x070400 + n * 0x20, 3, 2, 0, .rw, 23⟩
/-- OS_CLKk_CFG.OFF_STATE: 0 driven low, 1 high impedance. -/
def OS_CLK_CFG_OFF_STATE (n : Nat) : Fld := ⟨0x070400 + n * 0x20, 5, 1, 0, .rw, 23⟩
/-- OS_CLKk_CFG.ALIGN: under R180. -/
def OS_CLK_CFG_ALIGN (n : Nat) : Fld := ⟨0x070400 + n * 0x20, 6, 1, 1, .rw, 23⟩
/-- OS_CLKk_CFG.PG_MUTE: 1: off while PG = 0. -/
def OS_CLK_CFG_PG_MUTE (n : Nat) : Fld := ⟨0x070400 + n * 0x20, 7, 1, 0, .rw, 23⟩
/-- OS_CLKk_CFG.DIV: divider; 0 means 2^24. -/
def OS_CLK_CFG_DIV (n : Nat) : Fld := ⟨0x070400 + n * 0x20, 8, 24, 0x000010, .rw, 23⟩
/-- OS_CLKk_CFG, at offset 0x07_0400 + k × 0x20, configures CLK_OUTk. -/
def R_OS_CLK_CFG : RegForm := ⟨0x070400, 8, 0x20, 1, 0x0, fun n _ => [OS_CLK_CFG_EN n, OS_CLK_CFG_SRC n, OS_CLK_CFG_STD n, OS_CLK_CFG_OFF_STATE n, OS_CLK_CFG_ALIGN n, OS_CLK_CFG_PG_MUTE n, OS_CLK_CFG_DIV n]⟩
/-- OS_CLKk_DLY.FINE: ps; values above 1,999 act as 1,999. -/
def OS_CLK_DLY_FINE (n : Nat) : Fld := ⟨0x070408 + n * 0x20, 0, 11, 0x000, .rw, 23⟩
/-- OS_CLKk_DLY.COARSE: oscillator half-periods. -/
def OS_CLK_DLY_COARSE (n : Nat) : Fld := ⟨0x070408 + n * 0x20, 16, 16, 0x0000, .rw, 23⟩
/-- OS_CLKk_DLY, at offset 0x07_0408 + k × 0x20, sets the delay under R181. -/
def R_OS_CLK_DLY : RegForm := ⟨0x070408, 8, 0x20, 1, 0x0, fun n _ => [OS_CLK_DLY_FINE n, OS_CLK_DLY_COARSE n]⟩
/-- OS_CLKk_STAT.RUN: output toggling. -/
def OS_CLK_STAT_RUN (n : Nat) : Fld := ⟨0x070410 + n * 0x20, 0, 1, 0, .ro, 6⟩
/-- OS_CLKk_STAT.PG: phase-good. -/
def OS_CLK_STAT_PG (n : Nat) : Fld := ⟨0x070410 + n * 0x20, 1, 1, 0, .ro, 6⟩
/-- OS_CLKk_STAT.TRIM: internal trim, ps. -/
def OS_CLK_STAT_TRIM (n : Nat) : Fld := ⟨0x070410 + n * 0x20, 16, 16, 0x0000, .ro, 6⟩
/-- OS_CLKk_STAT.PG_ERR: signed, LSB 1 ps, saturating. -/
def OS_CLK_STAT_PG_ERR (n : Nat) : Fld := ⟨0x070410 + n * 0x20, 32, 32, 0x00000000, .ro, 6⟩
/-- OS_CLKk_STAT, at offset 0x07_0410 + k × 0x20, reports CLK_OUTk. -/
def R_OS_CLK_STAT : RegForm := ⟨0x070410, 8, 0x20, 1, 0x0, fun n _ => [OS_CLK_STAT_RUN n, OS_CLK_STAT_PG n, OS_CLK_STAT_TRIM n, OS_CLK_STAT_PG_ERR n]⟩
/-- OS_PPSk_CFG.EN: 1: enabled. -/
def OS_PPS_CFG_EN (n : Nat) : Fld := ⟨0x070600 + n * 0x20, 0, 1, 0, .rw, 23⟩
/-- OS_PPSk_CFG.RATE: pulses per second; 0 acts as 1, above 8,000 as 8,000. -/
def OS_PPS_CFG_RATE (n : Nat) : Fld := ⟨0x070600 + n * 0x20, 1, 13, 0x0001, .rw, 23⟩
/-- OS_PPSk_CFG.WIDTH: LSB 100 ns; 0 acts as 1. -/
def OS_PPS_CFG_WIDTH (n : Nat) : Fld := ⟨0x070600 + n * 0x20, 14, 24, 0x0003E8, .rw, 23⟩
/-- OS_PPSk_CFG.POL: 1: active high. -/
def OS_PPS_CFG_POL (n : Nat) : Fld := ⟨0x070600 + n * 0x20, 38, 1, 1, .rw, 23⟩
/-- OS_PPSk_CFG.ALIGN_MODE: under R184. -/
def OS_PPS_CFG_ALIGN_MODE (n : Nat) : Fld := ⟨0x070600 + n * 0x20, 39, 2, 0, .rw, 23⟩
/-- OS_PPSk_CFG.ALIGN_CH: CH0 to CH8; above 8 acts as 8. -/
def OS_PPS_CFG_ALIGN_CH (n : Nat) : Fld := ⟨0x070600 + n * 0x20, 41, 4, 0, .rw, 23⟩
/-- OS_PPSk_CFG.MAXSTEP: ps per pulse; 0 unlimited. -/
def OS_PPS_CFG_MAXSTEP (n : Nat) : Fld := ⟨0x070600 + n * 0x20, 48, 16, 0x0000, .rw, 23⟩
/-- OS_PPSk_CFG, at offset 0x07_0600 + k × 0x20, configures PPS_OUTk. -/
def R_OS_PPS_CFG : RegForm := ⟨0x070600, 4, 0x20, 1, 0x0, fun n _ => [OS_PPS_CFG_EN n, OS_PPS_CFG_RATE n, OS_PPS_CFG_WIDTH n, OS_PPS_CFG_POL n, OS_PPS_CFG_ALIGN_MODE n, OS_PPS_CFG_ALIGN_CH n, OS_PPS_CFG_MAXSTEP n]⟩
/-- OS_PPSk_OFS.OFFSET: signed, LSB 1 ps. -/
def OS_PPS_OFS_OFFSET (n : Nat) : Fld := ⟨0x070608 + n * 0x20, 0, 40, 0x0000000000, .rw, 23⟩
/-- OS_PPSk_OFS, at offset 0x07_0608 + k × 0x20, holds the offset. -/
def R_OS_PPS_OFS : RegForm := ⟨0x070608, 4, 0x20, 1, 0x0, fun n _ => [OS_PPS_OFS_OFFSET n]⟩
/-- OS_PPSk_STAT.RUN: pulses being emitted. -/
def OS_PPS_STAT_RUN (n : Nat) : Fld := ⟨0x070610 + n * 0x20, 0, 1, 0, .ro, 6⟩
/-- OS_PPSk_STAT.PG: phase-good. -/
def OS_PPS_STAT_PG (n : Nat) : Fld := ⟨0x070610 + n * 0x20, 1, 1, 0, .ro, 6⟩
/-- OS_PPSk_STAT.ALIGNED: phase taken from the input. -/
def OS_PPS_STAT_ALIGNED (n : Nat) : Fld := ⟨0x070610 + n * 0x20, 2, 1, 0, .ro, 6⟩
/-- OS_PPSk_STAT.PG_ERR: signed, LSB 1 ps, saturating. -/
def OS_PPS_STAT_PG_ERR (n : Nat) : Fld := ⟨0x070610 + n * 0x20, 32, 32, 0x00000000, .ro, 6⟩
/-- OS_PPSk_STAT, at offset 0x07_0610 + k × 0x20, reports PPS_OUTk. -/
def R_OS_PPS_STAT : RegForm := ⟨0x070610, 4, 0x20, 1, 0x0, fun n _ => [OS_PPS_STAT_RUN n, OS_PPS_STAT_PG n, OS_PPS_STAT_ALIGNED n, OS_PPS_STAT_PG_ERR n]⟩
/-- OS_TOD_CFG.EN: 1: TOD_OUT enabled. -/
def OS_TOD_CFG_EN : Fld := ⟨0x070700, 0, 1, 0, .rw, 23⟩
/-- OS_TOD_CFG.FMT: 0 Kloentra, 1 ZDA. -/
def OS_TOD_CFG_FMT : Fld := ⟨0x070700, 1, 1, 0, .rw, 23⟩
/-- OS_TOD_CFG.BAUD: 0b000 9,600; 0b001 19,200; 0b010 38,400; 0b011 57,600; 0b100 115,200; 0b101 230,400; 0b110 460,800; 0b111 921,600 baud; TOD_IN uses the same rate. -/
def OS_TOD_CFG_BAUD : Fld := ⟨0x070700, 2, 3, 0, .rw, 23⟩
/-- OS_TOD_CFG.TALKER: ZDA talker: 0 GP, 1 GN. -/
def OS_TOD_CFG_TALKER : Fld := ⟨0x070700, 5, 1, 0, .rw, 23⟩
/-- OS_TOD_CFG.IN_EN: 1: TOD_IN receiver enabled under R187. -/
def OS_TOD_CFG_IN_EN : Fld := ⟨0x070700, 6, 1, 1, .rw, 23⟩
/-- OS_TOD_CFG.LAG: start of transmission after the second boundary under R186, LSB 1 ms, from 0 ms to 255 ms. -/
def OS_TOD_CFG_LAG : Fld := ⟨0x070700, 8, 8, 0, .rw, 23⟩
/-- OS_TOD_CFG, at offset 0x07_0700, configures TOD_OUT and TOD_IN. -/
def R_OS_TOD_CFG : RegForm := ⟨0x070700, 1, 0x0, 1, 0x0, fun _ _ => [OS_TOD_CFG_EN, OS_TOD_CFG_FMT, OS_TOD_CFG_BAUD, OS_TOD_CFG_TALKER, OS_TOD_CFG_IN_EN, OS_TOD_CFG_LAG]⟩
/-- OS_TODIN_SEC.SEC: TAI seconds: the SEC field of a Kloentra message, or the TAI second computed from a ZDA sentence under R187. -/
def OS_TODIN_SEC_SEC : Fld := ⟨0x070708, 0, 48, 0x000000000000, .ro, 6⟩
/-- OS_TODIN_SEC, at offset 0x07_0708, holds the time of the last accepted TOD_IN message. -/
def R_OS_TODIN_SEC : RegForm := ⟨0x070708, 1, 0x0, 1, 0x0, fun _ _ => [OS_TODIN_SEC_SEC]⟩
/-- OS_TODIN_INFO.DELTA: Δ received, signed, s. -/
def OS_TODIN_INFO_DELTA : Fld := ⟨0x070710, 0, 16, 0x0000, .ro, 6⟩
/-- OS_TODIN_INFO.LEAP: leap byte received. -/
def OS_TODIN_INFO_LEAP : Fld := ⟨0x070710, 16, 2, 0, .ro, 6⟩
/-- OS_TODIN_INFO.FLAGS: bits [4:0] of byte 0x0D received. -/
def OS_TODIN_INFO_FLAGS : Fld := ⟨0x070710, 18, 5, 0, .ro, 6⟩
/-- OS_TODIN_INFO.CLASS: clockClass received. -/
def OS_TODIN_INFO_CLASS : Fld := ⟨0x070710, 24, 8, 0, .ro, 6⟩
/-- OS_TODIN_INFO.BOUND: bound received, ns. -/
def OS_TODIN_INFO_BOUND : Fld := ⟨0x070710, 32, 32, 0x00000000, .ro, 6⟩
/-- OS_TODIN_INFO, at offset 0x07_0710, holds the other fields of the last accepted Kloentra message. A ZDA sentence sets every field to 0. -/
def R_OS_TODIN_INFO : RegForm := ⟨0x070710, 1, 0x0, 1, 0x0, fun _ _ => [OS_TODIN_INFO_DELTA, OS_TODIN_INFO_LEAP, OS_TODIN_INFO_FLAGS, OS_TODIN_INFO_CLASS, OS_TODIN_INFO_BOUND]⟩
/-- OS_TODIN_STAT.VALID: 1: OS_TODIN_SEC holds a received time. -/
def OS_TODIN_STAT_VALID : Fld := ⟨0x070718, 0, 1, 0, .ro, 6⟩
/-- OS_TODIN_STAT.FMT: format of the last accepted message: 0 Kloentra, 1 ZDA. -/
def OS_TODIN_STAT_FMT : Fld := ⟨0x070718, 1, 1, 0, .ro, 6⟩
/-- OS_TODIN_STAT.GOOD: messages accepted, saturating. -/
def OS_TODIN_STAT_GOOD : Fld := ⟨0x070718, 16, 16, 0x0000, .rc, 6⟩
/-- OS_TODIN_STAT.BAD: messages failing checksum, CRC or format, saturating. -/
def OS_TODIN_STAT_BAD : Fld := ⟨0x070718, 32, 16, 0x0000, .rc, 6⟩
/-- OS_TODIN_STAT, at offset 0x07_0718, reports TOD_IN. -/
def R_OS_TODIN_STAT : RegForm := ⟨0x070718, 1, 0x0, 1, 0x0, fun _ _ => [OS_TODIN_STAT_VALID, OS_TODIN_STAT_FMT, OS_TODIN_STAT_GOOD, OS_TODIN_STAT_BAD]⟩
/-- OS_EVT.LOCK: lock declared, event 0x0501 under R177. -/
def OS_EVT_LOCK : Fld := ⟨0x070008, 0, 1, 0, .w1c, 7⟩
/-- OS_EVT.NOBAND: no band entry, event 0x0502 under R176. -/
def OS_EVT_NOBAND : Fld := ⟨0x070008, 1, 1, 0, .w1c, 7⟩
/-- OS_EVT.BADCFG: invalid configuration or frequency limit, event 0x0503 under R175 and R179. -/
def OS_EVT_BADCFG : Fld := ⟨0x070008, 2, 1, 0, .w1c, 7⟩
/-- OS_EVT.PG_LOST: phase-good lost, event 0x0504 under R178. -/
def OS_EVT_PG_LOST : Fld := ⟨0x070008, 3, 1, 0, .w1c, 7⟩
/-- OS_EVT.PG_OK: phase-good regained, event 0x0505 under R178. -/
def OS_EVT_PG_OK : Fld := ⟨0x070008, 4, 1, 0, .w1c, 7⟩
/-- OS_EVT.DLY_REJ: COARSE write rejected, event 0x0506 under R181. -/
def OS_EVT_DLY_REJ : Fld := ⟨0x070008, 5, 1, 0, .w1c, 7⟩
/-- OS_EVT.ALIGN_MISS: alignment input missing, event 0x0507 under R184. -/
def OS_EVT_ALIGN_MISS : Fld := ⟨0x070008, 6, 1, 0, .w1c, 7⟩
/-- OS_EVT.TOD_NOUTC: ZDA withheld, UTC unknown, event 0x0508 under R186. -/
def OS_EVT_TOD_NOUTC : Fld := ⟨0x070008, 7, 1, 0, .w1c, 7⟩
/-- OS_EVT, at offset 0x07_0008, holds sticky flags. Each flag is set together with its journal event. -/
def R_OS_EVT : RegForm := ⟨0x070008, 1, 0x0, 1, 0x0, fun _ _ => [OS_EVT_LOCK, OS_EVT_NOBAND, OS_EVT_BADCFG, OS_EVT_PG_LOST, OS_EVT_PG_OK, OS_EVT_DLY_REJ, OS_EVT_ALIGN_MISS, OS_EVT_TOD_NOUTC]⟩
/-- OS_SM_STAT.LOCK: SM lock declared under R174. -/
def OS_SM_STAT_LOCK : Fld := ⟨0x070010, 0, 1, 0, .ro, 0⟩
/-- OS_SM_STAT, at offset 0x07_0010, reports the service MDLL. -/
def R_OS_SM_STAT : RegForm := ⟨0x070010, 1, 0x0, 1, 0x0, fun _ _ => [OS_SM_STAT_LOCK]⟩
/-- Registers of these chapters, in the order of the spec, part 1. -/
def formsError1 : List RegForm := [R_GN_CFG, R_GN_FE_A_CFG, R_GN_FE_B_CFG, R_GN_FE_SPI, R_GN_SOL_CFG, R_GN_POS_CFG, R_GN_POS_X, R_GN_POS_Y, R_GN_POS_Z, R_GN_POS_STAT, R_GN_CAL_A, R_GN_CAL_B, R_GN_SPOOF, R_GN_FLAKE, R_GN_SNAP_HADDR, R_GN_STAT, R_GN_SOL_OFS, R_GN_SOL_UNC, R_GN_EVT, R_GN_CH_STAT, R_MB_CFG, R_MB_ALLOW_CFG, R_MB_PORT_UNC, R_MB_PORT_UNC_HI, R_MB_STAT, R_MB_BOUND, R_MB_SIGMA, R_MB_PUB_SEC, R_MB_PUB_NSF, R_MB_COMP_REF]
/-- Registers of these chapters, in the order of the spec, part 2. -/
def formsError2 : List RegForm := [R_MB_COMP_MEAS, R_MB_COMP_TRACK, R_MB_COMP_HOLD, R_MB_COMP_ALLOW, R_MB_COMP_EXCESS, R_MB_COMP_CONTEST, R_MB_COMP_COAST, R_MB_HO_P0, R_MB_ALLOW_ACC, R_MB_HO_T0, R_MB_MISS, R_MB_EVT, R_MB_OSC, R_MB_MAP, R_MB_ATT_STAT, R_MB_ATT, R_MB_REF_CAL, R_MB_REF_BOUND, R_OS_CFG, R_OS_OM_CFG, R_OS_OM_LOCKTIME, R_OS_OM_STAT, R_OS_OM_BAND, R_OS_CLK_CFG, R_OS_CLK_DLY, R_OS_CLK_STAT, R_OS_PPS_CFG, R_OS_PPS_OFS, R_OS_PPS_STAT, R_OS_TOD_CFG]
/-- Registers of these chapters, in the order of the spec, part 3. -/
def formsError3 : List RegForm := [R_OS_TODIN_SEC, R_OS_TODIN_INFO, R_OS_TODIN_STAT, R_OS_EVT, R_OS_SM_STAT]

end Sys2Proof.Machine.F
end

