-- ==== Sys2Proof/Machine/FieldsReference.lean ====
section
/-! DEFINITION. The register fields of the blocks of chapters 05, 06 of spec/, one definition per field, written from the
register tables of those chapters: offset, lowest bit, width, reset value, access code (R5) and kept-through letters (R6). -/
namespace Sys2Proof.Machine.F

/-- RS_CFG.DISAG_F: frequency threshold, LSB 10 ppt. -/
def RS_CFG_DISAG_F : Fld := ⟨0x040000, 0, 16, 0x01F4, .rw, 23⟩
/-- RS_CFG.DISAG_T: time threshold, LSB 1 ns. -/
def RS_CFG_DISAG_T : Fld := ⟨0x040000, 16, 16, 0x0064, .rw, 23⟩
/-- RS_CFG.CONTEST_CLR: comparisons to end a contest; 0 acts as 1. -/
def RS_CFG_CONTEST_CLR : Fld := ⟨0x040000, 32, 4, 4, .rw, 23⟩
/-- RS_CFG.AUTO_EXIT: 1: leave holdover automatically under R100. -/
def RS_CFG_AUTO_EXIT : Fld := ⟨0x040000, 36, 1, 1, .rw, 23⟩
/-- RS_CFG, at offset 0x04_0000, configures disagreement and holdover exit. -/
def R_RS_CFG : RegForm := ⟨0x040000, 1, 0x0, 1, 0x0, fun _ _ => [RS_CFG_DISAG_F, RS_CFG_DISAG_T, RS_CFG_CONTEST_CLR, RS_CFG_AUTO_EXIT]⟩
/-- RS_SEL.REF: slot chosen when AUTO = 0. -/
def RS_SEL_REF : Fld := ⟨0x040008, 0, 4, 0, .rw, 23⟩
/-- RS_SEL.AUTO: 1: automatic selection. -/
def RS_SEL_AUTO : Fld := ⟨0x040008, 4, 1, 1, .rw, 23⟩
/-- RS_SEL, at offset 0x04_0008, holds the software choice under R97. -/
def R_RS_SEL : RegForm := ⟨0x040008, 1, 0x0, 1, 0x0, fun _ _ => [RS_SEL_REF, RS_SEL_AUTO]⟩
/-- RS_STAT.ACTIVE: active slot; valid when HOLD = 0. -/
def RS_STAT_ACTIVE : Fld := ⟨0x040010, 0, 4, 0, .ro, 6⟩
/-- RS_STAT.HOLD: 1: no slot active. -/
def RS_STAT_HOLD : Fld := ⟨0x040010, 4, 1, 1, .ro, 6⟩
/-- RS_STAT.FALLEN: active slot differs from the software choice. -/
def RS_STAT_FALLEN : Fld := ⟨0x040010, 5, 1, 0, .ro, 6⟩
/-- RS_STAT.CAND: first candidate under R98. -/
def RS_STAT_CAND : Fld := ⟨0x040010, 8, 4, 0, .ro, 6⟩
/-- RS_STAT.CAND_VALID: 1: CAND holds a candidate. -/
def RS_STAT_CAND_VALID : Fld := ⟨0x040010, 12, 1, 0, .ro, 6⟩
/-- RS_STAT.QUALMASK: bit 16 + n: slot n QUALIFIED or DRIFTING. -/
def RS_STAT_QUALMASK : Fld := ⟨0x040010, 16, 16, 0x0000, .ro, 6⟩
/-- RS_STAT.CONTMASK: bit 32 + n: slot n contested. -/
def RS_STAT_CONTMASK : Fld := ⟨0x040010, 32, 16, 0x0000, .ro, 6⟩
/-- RS_STAT.DRIFTMASK: bit 48 + n: slot n DRIFTING. -/
def RS_STAT_DRIFTMASK : Fld := ⟨0x040010, 48, 16, 0x0000, .ro, 6⟩
/-- RS_STAT, at offset 0x04_0010, reports the selection. -/
def R_RS_STAT : RegForm := ⟨0x040010, 1, 0x0, 1, 0x0, fun _ _ => [RS_STAT_ACTIVE, RS_STAT_HOLD, RS_STAT_FALLEN, RS_STAT_CAND, RS_STAT_CAND_VALID, RS_STAT_QUALMASK, RS_STAT_CONTMASK, RS_STAT_DRIFTMASK]⟩
/-- RS_EVT.QUAL: event 0x0220. -/
def RS_EVT_QUAL : Fld := ⟨0x040018, 0, 1, 0, .w1c, 7⟩
/-- RS_EVT.DRIFT: event 0x0221. -/
def RS_EVT_DRIFT : Fld := ⟨0x040018, 1, 1, 0, .w1c, 7⟩
/-- RS_EVT.DISQ: event 0x0222. -/
def RS_EVT_DISQ : Fld := ⟨0x040018, 2, 1, 0, .w1c, 7⟩
/-- RS_EVT.LOST: event 0x0223. -/
def RS_EVT_LOST : Fld := ⟨0x040018, 3, 1, 0, .w1c, 7⟩
/-- RS_EVT.FALLBACK: event 0x0224. -/
def RS_EVT_FALLBACK : Fld := ⟨0x040018, 4, 1, 0, .w1c, 7⟩
/-- RS_EVT.CONTEST: event 0x0225. -/
def RS_EVT_CONTEST : Fld := ⟨0x040018, 5, 1, 0, .w1c, 7⟩
/-- RS_EVT.CONTEST_CLR: event 0x0226. -/
def RS_EVT_CONTEST_CLR : Fld := ⟨0x040018, 6, 1, 0, .w1c, 7⟩
/-- RS_EVT.SEL_REJ: event 0x0227. -/
def RS_EVT_SEL_REJ : Fld := ⟨0x040018, 7, 1, 0, .w1c, 7⟩
/-- RS_EVT.NOREF: event 0x0228. -/
def RS_EVT_NOREF : Fld := ⟨0x040018, 8, 1, 0, .w1c, 7⟩
/-- RS_EVT, at offset 0x04_0018, holds sticky event flags set under R106. -/
def R_RS_EVT : RegForm := ⟨0x040018, 1, 0x0, 1, 0x0, fun _ _ => [RS_EVT_QUAL, RS_EVT_DRIFT, RS_EVT_DISQ, RS_EVT_LOST, RS_EVT_FALLBACK, RS_EVT_CONTEST, RS_EVT_CONTEST_CLR, RS_EVT_SEL_REJ, RS_EVT_NOREF]⟩
/-- RS_CONTEST.A: first member. -/
def RS_CONTEST_A : Fld := ⟨0x040020, 0, 4, 0, .ro, 6⟩
/-- RS_CONTEST.B: second member. -/
def RS_CONTEST_B : Fld := ⟨0x040020, 4, 4, 0, .ro, 6⟩
/-- RS_CONTEST.VALID: 1: contest in force. -/
def RS_CONTEST_VALID : Fld := ⟨0x040020, 8, 1, 0, .ro, 6⟩
/-- RS_CONTEST.KIND: 0 time, 1 frequency. -/
def RS_CONTEST_KIND : Fld := ⟨0x040020, 9, 1, 0, .ro, 6⟩
/-- RS_CONTEST.DISAG: disagreement in bound format, ps. -/
def RS_CONTEST_DISAG : Fld := ⟨0x040020, 16, 48, 0x000000000000, .ro, 6⟩
/-- RS_CONTEST, at offset 0x04_0020, reports the contest under R103. -/
def R_RS_CONTEST : RegForm := ⟨0x040020, 1, 0x0, 1, 0x0, fun _ _ => [RS_CONTEST_A, RS_CONTEST_B, RS_CONTEST_VALID, RS_CONTEST_KIND, RS_CONTEST_DISAG]⟩
/-- RS_TYPEt_BW.DEF: default, LSB 1 µHz. -/
def RS_TYPE_BW_DEF (n : Nat) : Fld := ⟨0x040100 + n * 0x10, 0, 20, typeBw n 0, .rw, 23⟩
/-- RS_TYPEt_BW.MIN: minimum, LSB 1 µHz. -/
def RS_TYPE_BW_MIN (n : Nat) : Fld := ⟨0x040100 + n * 0x10, 20, 20, typeBw n 1, .rw, 23⟩
/-- RS_TYPEt_BW.MAX: maximum, LSB 1 µHz. -/
def RS_TYPE_BW_MAX (n : Nat) : Fld := ⟨0x040100 + n * 0x10, 40, 20, typeBw n 2, .rw, 23⟩
/-- RS_TYPEt_BW, at offset 0x04_0100 + t × 0x10, holds type t's bandwidth entry under R90. Values at or above 1,000,000 act as 1 Hz. -/
def R_RS_TYPE_BW : RegForm := ⟨0x040100, 7, 0x10, 1, 0x0, fun n _ => [RS_TYPE_BW_DEF n, RS_TYPE_BW_MIN n, RS_TYPE_BW_MAX n]⟩
/-- RS_REFn_CFG.EN: 1: slot enabled. -/
def RS_REF_CFG_EN (n : Nat) : Fld := ⟨0x041000 + n * 0x100, 0, 1, 0, .rw, 23⟩
/-- RS_REFn_CFG.TYPE: type under R89; a write that changes it loads the defaults of R93. -/
def RS_REF_CFG_TYPE (n : Nat) : Fld := ⟨0x041000 + n * 0x100, 1, 3, 7, .rw, 23⟩
/-- RS_REFn_CFG.SRC: source under R89. -/
def RS_REF_CFG_SRC (n : Nat) : Fld := ⟨0x041000 + n * 0x100, 4, 6, 0, .rw, 23⟩
/-- RS_REFn_CFG.RANK: rank, 0 most preferred. -/
def RS_REF_CFG_RANK (n : Nat) : Fld := ⟨0x041000 + n * 0x100, 10, 4, 15, .rw, 23⟩
/-- RS_REFn_CFG.BW_FIX: 1: fixed bandwidth under R91. -/
def RS_REF_CFG_BW_FIX (n : Nat) : Fld := ⟨0x041000 + n * 0x100, 14, 1, 0, .rw, 23⟩
/-- RS_REFn_CFG.PPS_USE: ATOM only: 1 uses ATOM_PPS on CH8. -/
def RS_REF_CFG_PPS_USE (n : Nat) : Fld := ⟨0x041000 + n * 0x100, 15, 1, 1, .rw, 23⟩
/-- RS_REFn_CFG, at offset 0x04_1000 + n × 0x100, configures slot n. -/
def R_RS_REF_CFG : RegForm := ⟨0x041000, 16, 0x100, 1, 0x0, fun n _ => [RS_REF_CFG_EN n, RS_REF_CFG_TYPE n, RS_REF_CFG_SRC n, RS_REF_CFG_RANK n, RS_REF_CFG_BW_FIX n, RS_REF_CFG_PPS_USE n]⟩
/-- RS_REFn_BW.BW: fixed bandwidth, LSB 1 µHz. -/
def RS_REF_BW_BW (n : Nat) : Fld := ⟨0x041008 + n * 0x100, 0, 20, 0x02710, .rw, 23⟩
/-- RS_REFn_BW.BW_NOW: bandwidth in use, LSB 1 µHz. -/
def RS_REF_BW_BW_NOW (n : Nat) : Fld := ⟨0x041008 + n * 0x100, 32, 20, 0x00000, .ro, 6⟩
/-- RS_REFn_BW, at offset 0x04_1008 + n × 0x100, holds the slot's bandwidth. -/
def R_RS_REF_BW : RegForm := ⟨0x041008, 16, 0x100, 1, 0x0, fun n _ => [RS_REF_BW_BW n, RS_REF_BW_BW_NOW n]⟩
/-- RS_REFn_LIM.FSOFT: soft frequency limit, LSB 10 ppt. -/
def RS_REF_LIM_FSOFT (n : Nat) : Fld := ⟨0x041010 + n * 0x100, 0, 16, 0x0000, .rw, 23⟩
/-- RS_REFn_LIM.FHARD: hard frequency limit, LSB 10 ppt. -/
def RS_REF_LIM_FHARD (n : Nat) : Fld := ⟨0x041010 + n * 0x100, 16, 16, 0x0000, .rw, 23⟩
/-- RS_REFn_LIM.WSOFT: soft wander limit, LSB 1 ns. -/
def RS_REF_LIM_WSOFT (n : Nat) : Fld := ⟨0x041010 + n * 0x100, 32, 16, 0x0000, .rw, 23⟩
/-- RS_REFn_LIM.WHARD: hard wander limit, LSB 1 ns. -/
def RS_REF_LIM_WHARD (n : Nat) : Fld := ⟨0x041010 + n * 0x100, 48, 16, 0x0000, .rw, 23⟩
/-- RS_REFn_LIM, at offset 0x04_1010 + n × 0x100, holds the limits under R93. -/
def R_RS_REF_LIM : RegForm := ⟨0x041010, 16, 0x100, 1, 0x0, fun n _ => [RS_REF_LIM_FSOFT n, RS_REF_LIM_FHARD n, RS_REF_LIM_WSOFT n, RS_REF_LIM_WHARD n]⟩
/-- RS_REFn_QUAL.QUAL_TIME: qualification time in seconds; 0 acts as 1. -/
def RS_REF_QUAL_QUAL_TIME (n : Nat) : Fld := ⟨0x041018 + n * 0x100, 0, 16, 0x0000, .rw, 23⟩
/-- RS_REFn_QUAL.HOLDOFF: hold-off in seconds; 0 acts as 1. -/
def RS_REF_QUAL_HOLDOFF (n : Nat) : Fld := ⟨0x041018 + n * 0x100, 16, 8, 0, .rw, 23⟩
/-- RS_REFn_QUAL.OBS: window T in seconds; 0 acts as 1. -/
def RS_REF_QUAL_OBS (n : Nat) : Fld := ⟨0x041018 + n * 0x100, 24, 8, 0, .rw, 23⟩
/-- RS_REFn_QUAL.DRIFT_LIM: drift-slope limit, LSB 0.01 ppt/s. -/
def RS_REF_QUAL_DRIFT_LIM (n : Nat) : Fld := ⟨0x041018 + n * 0x100, 32, 16, 0x0000, .rw, 23⟩
/-- RS_REFn_QUAL.DRIFT_CNT: windows to set the slope flag; 0 acts as 1. -/
def RS_REF_QUAL_DRIFT_CNT (n : Nat) : Fld := ⟨0x041018 + n * 0x100, 48, 4, 0, .rw, 23⟩
/-- RS_REFn_QUAL, at offset 0x04_1018 + n × 0x100, holds the qualification settings. -/
def R_RS_REF_QUAL : RegForm := ⟨0x041018, 16, 0x100, 1, 0x0, fun n _ => [RS_REF_QUAL_QUAL_TIME n, RS_REF_QUAL_HOLDOFF n, RS_REF_QUAL_OBS n, RS_REF_QUAL_DRIFT_LIM n, RS_REF_QUAL_DRIFT_CNT n]⟩
/-- RS_REFn_STAT.STATE: 0 OFF, 1 ABSENT, 2 QUALIFYING, 3 QUALIFIED, 4 DRIFTING, 5 DISQUAL. -/
def RS_REF_STAT_STATE (n : Nat) : Fld := ⟨0x041020 + n * 0x100, 0, 3, 0, .ro, 6⟩
/-- RS_REFn_STAT.CONTESTED: member of the contest. -/
def RS_REF_STAT_CONTESTED (n : Nat) : Fld := ⟨0x041020 + n * 0x100, 3, 1, 0, .ro, 6⟩
/-- RS_REFn_STAT.SLOPE: slope flag under R92. -/
def RS_REF_STAT_SLOPE (n : Nat) : Fld := ⟨0x041020 + n * 0x100, 4, 1, 0, .ro, 6⟩
/-- RS_REFn_STAT.CAUSE: last disqualification cause under R95. -/
def RS_REF_STAT_CAUSE (n : Nat) : Fld := ⟨0x041020 + n * 0x100, 8, 4, 0, .ro, 6⟩
/-- RS_REFn_STAT.QUAL_LEFT: seconds left in QUALIFYING. -/
def RS_REF_STAT_QUAL_LEFT (n : Nat) : Fld := ⟨0x041020 + n * 0x100, 16, 16, 0x0000, .ro, 6⟩
/-- RS_REFn_STAT, at offset 0x04_1020 + n × 0x100, reports slot n. -/
def R_RS_REF_STAT : RegForm := ⟨0x041020, 16, 0x100, 1, 0x0, fun n _ => [RS_REF_STAT_STATE n, RS_REF_STAT_CONTESTED n, RS_REF_STAT_SLOPE n, RS_REF_STAT_CAUSE n, RS_REF_STAT_QUAL_LEFT n]⟩
/-- RS_REFn_MEAS.Y: frequency offset y, signed, LSB 1 ppt. -/
def RS_REF_MEAS_Y (n : Nat) : Fld := ⟨0x041028 + n * 0x100, 0, 32, 0x00000000, .ro, 6⟩
/-- RS_REFn_MEAS.W: phase wander w, LSB 1 ps. -/
def RS_REF_MEAS_W (n : Nat) : Fld := ⟨0x041028 + n * 0x100, 32, 32, 0x00000000, .ro, 6⟩
/-- RS_REFn_MEAS, at offset 0x04_1028 + n × 0x100, reports the last measured quantities. Both fields saturate. -/
def R_RS_REF_MEAS : RegForm := ⟨0x041028, 16, 0x100, 1, 0x0, fun n _ => [RS_REF_MEAS_Y n, RS_REF_MEAS_W n]⟩
/-- RS_REFn_EXCESS.EXCESS: excess in bound format, ps. -/
def RS_REF_EXCESS_EXCESS (n : Nat) : Fld := ⟨0x041030 + n * 0x100, 0, 48, 0x000000000000, .ro, 6⟩
/-- RS_REFn_EXCESS, at offset 0x04_1030 + n × 0x100, holds the drifting excess under R94. -/
def R_RS_REF_EXCESS : RegForm := ⟨0x041030, 16, 0x100, 1, 0x0, fun n _ => [RS_REF_EXCESS_EXCESS n]⟩
/-- TK_CTL.MODE: 0b00 AUTO, 0b01 MANUAL; other values act as 0b00. -/
def TK_CTL_MODE : Fld := ⟨0x050000, 0, 2, 0, .rw, 23⟩
/-- TK_CTL.STEP_PERMIT: 1: steps permitted under R118. -/
def TK_CTL_STEP_PERMIT : Fld := ⟨0x050000, 2, 1, 0, .rw, 23⟩
/-- TK_CTL.STARTUP_STEP: 1: first time reference after start may step. -/
def TK_CTL_STARTUP_STEP : Fld := ⟨0x050000, 3, 1, 1, .rw, 23⟩
/-- TK_CTL.TEMPCO_EN: 1: apply tc under R116. -/
def TK_CTL_TEMPCO_EN : Fld := ⟨0x050000, 4, 1, 1, .rw, 23⟩
/-- TK_CTL.TEMPCO_LEARN: 1: core refits TK_TEMPCO. -/
def TK_CTL_TEMPCO_LEARN : Fld := ⟨0x050000, 5, 1, 1, .rw, 23⟩
/-- TK_CTL.MISS_SWITCH: 1: a missed update is a switchover trigger under R109. -/
def TK_CTL_MISS_SWITCH : Fld := ⟨0x050000, 6, 1, 1, .rw, 23⟩
/-- TK_CTL, at offset 0x05_0000 (shared), configures the core. -/
def R_TK_CTL : RegForm := ⟨0x050000, 1, 0x0, 1, 0x0, fun _ _ => [TK_CTL_MODE, TK_CTL_STEP_PERMIT, TK_CTL_STARTUP_STEP, TK_CTL_TEMPCO_EN, TK_CTL_TEMPCO_LEARN, TK_CTL_MISS_SWITCH]⟩
/-- TK_SLEW_MAX.SLEW_MAX: LSB 1 ps/s; 0 acts as 1; values above 10,000,000 act as 10,000,000. -/
def TK_SLEW_MAX_SLEW_MAX : Fld := ⟨0x050008, 0, 32, 0x0000C350, .rw, 23⟩
/-- TK_SLEW_MAX, at offset 0x05_0008 (shared), limits slewing. -/
def R_TK_SLEW_MAX : RegForm := ⟨0x050008, 1, 0x0, 1, 0x0, fun _ _ => [TK_SLEW_MAX_SLEW_MAX]⟩
/-- TK_STEP_THRESH.THRESH: bound format, ps; 10 µs. -/
def TK_STEP_THRESH_THRESH : Fld := ⟨0x050010, 0, 48, 0x000000989680, .rw, 23⟩
/-- TK_STEP_THRESH, at offset 0x05_0010 (shared), sets the step threshold. -/
def R_TK_STEP_THRESH : RegForm := ⟨0x050010, 1, 0x0, 1, 0x0, fun _ _ => [TK_STEP_THRESH_THRESH]⟩
/-- TK_MAN_FREQ.FREQ: frequency word used in MANUAL. -/
def TK_MAN_FREQ_FREQ : Fld := ⟨0x050018, 0, 64, 0x0000000000000000, .rw, 23⟩
/-- TK_MAN_FREQ, at offset 0x05_0018 (shared), holds the manual frequency. -/
def R_TK_MAN_FREQ : RegForm := ⟨0x050018, 1, 0x0, 1, 0x0, fun _ _ => [TK_MAN_FREQ_FREQ]⟩
/-- TK_MAN_PHASE.PHASE: phase word added to TK_SLEW_LEFT under R121. -/
def TK_MAN_PHASE_PHASE : Fld := ⟨0x050020, 0, 64, 0x0000000000000000, .wo, 0⟩
/-- TK_MAN_PHASE, at offset 0x05_0020 (shared), adds a manual phase adjustment. -/
def R_TK_MAN_PHASE : RegForm := ⟨0x050020, 1, 0x0, 1, 0x0, fun _ _ => [TK_MAN_PHASE_PHASE]⟩
/-- TK_SET_SEC.SEC: TAI seconds; [63:48] reserved. -/
def TK_SET_SEC_SEC : Fld := ⟨0x050028, 0, 48, 0x000000000000, .wo, 0⟩
/-- TK_SET_SEC and TK_SET_NSF, at offsets 0x05_0028 and 0x05_0030 (shared), set the time in MANUAL. They are written in the order of R25. -/
def R_TK_SET_SEC : RegForm := ⟨0x050028, 1, 0x0, 1, 0x0, fun _ _ => [TK_SET_SEC_SEC]⟩
/-- TK_SET_NSF.NS: nanoseconds. -/
def TK_SET_NSF_NS : Fld := ⟨0x050030, 32, 32, 0x00000000, .wo, 0⟩
/-- TK_SET_NSF.FRAC: LSB 2^-32 ns. -/
def TK_SET_NSF_FRAC : Fld := ⟨0x050030, 0, 32, 0x00000000, .wo, 0⟩
/-- TK_SET_SEC and TK_SET_NSF, at offsets 0x05_0028 and 0x05_0030 (shared), set the time in MANUAL. They are written in the order of R25. -/
def R_TK_SET_NSF : RegForm := ⟨0x050030, 1, 0x0, 1, 0x0, fun _ _ => [TK_SET_NSF_NS, TK_SET_NSF_FRAC]⟩
/-- TK_TS_SEC.SEC: TAI seconds; [63:48] reserved. -/
def TK_TS_SEC_SEC : Fld := ⟨0x050038, 0, 48, 0, .ro, 7⟩
/-- TK_TS_SEC and TK_TS_NSF, at offsets 0x05_0038 and 0x05_0040 (shared), return the live time word, latched under R25. -/
def R_TK_TS_SEC : RegForm := ⟨0x050038, 1, 0x0, 1, 0x0, fun _ _ => [TK_TS_SEC_SEC]⟩
/-- TK_TS_NSF.NS: nanoseconds. -/
def TK_TS_NSF_NS : Fld := ⟨0x050040, 32, 32, 0, .ro, 7⟩
/-- TK_TS_NSF.FRAC: LSB 2^-32 ns. -/
def TK_TS_NSF_FRAC : Fld := ⟨0x050040, 0, 32, 0, .ro, 7⟩
/-- TK_TS_SEC and TK_TS_NSF, at offsets 0x05_0038 and 0x05_0040 (shared), return the live time word, latched under R25. -/
def R_TK_TS_NSF : RegForm := ⟨0x050040, 1, 0x0, 1, 0x0, fun _ _ => [TK_TS_NSF_NS, TK_TS_NSF_FRAC]⟩
/-- TK_TS_FREQ.FREQ: frequency word in force in the time synthesizer. -/
def TK_TS_FREQ_FREQ : Fld := ⟨0x050048, 0, 64, 0, .ro, 7⟩
/-- TK_TS_FREQ, at offset 0x05_0048 (shared), reports the frequency word in force. -/
def R_TK_TS_FREQ : RegForm := ⟨0x050048, 1, 0x0, 1, 0x0, fun _ _ => [TK_TS_FREQ_FREQ]⟩
/-- TK_TS_STAT.LS_ERR: disagreements, saturating. -/
def TK_TS_STAT_LS_ERR : Fld := ⟨0x050050, 0, 16, 0x0000, .rc, 6⟩
/-- TK_TS_STAT.LS_FAIL: under R112. -/
def TK_TS_STAT_LS_FAIL : Fld := ⟨0x050050, 16, 1, 0, .ro, 6⟩
/-- TK_TS_STAT.HELD: 1: frequency word held for a switchover gap. -/
def TK_TS_STAT_HELD : Fld := ⟨0x050050, 17, 1, 0, .ro, 6⟩
/-- TK_TS_STAT, at offset 0x05_0050 (shared), reports the lockstep pair. -/
def R_TK_TS_STAT : RegForm := ⟨0x050050, 1, 0x0, 1, 0x0, fun _ _ => [TK_TS_STAT_LS_ERR, TK_TS_STAT_LS_FAIL, TK_TS_STAT_HELD]⟩
/-- TK_TEMPCO.C: signed, LSB 2^-16 ppt per ADC code. -/
def TK_TEMPCO_C : Fld := ⟨0x050058, 0, 32, 0x00000000, .rw, 63⟩
/-- TK_TEMPCO.A_REF: ADC code at which tc is 0. -/
def TK_TEMPCO_A_REF : Fld := ⟨0x050058, 32, 12, 0x000, .rw, 63⟩
/-- TK_TEMPCO.LEARNED: 1: values written by the core. -/
def TK_TEMPCO_LEARNED : Fld := ⟨0x050058, 48, 1, 0, .ro, 63⟩
/-- TK_TEMPCO, at offset 0x05_0058 (shared), holds the temperature coefficient. -/
def R_TK_TEMPCO : RegForm := ⟨0x050058, 1, 0x0, 1, 0x0, fun _ _ => [TK_TEMPCO_C, TK_TEMPCO_A_REF, TK_TEMPCO_LEARNED]⟩
/-- TK_STAT.STATE: 0 STANDBY, 1 STARTING, 2 TRACKING, 3 HOLDOVER, 4 MANUAL, 5 FAILED, 6 SHADOW. -/
def TK_STAT_STATE (n : Nat) : Fld := ⟨0x050100 + n * 0x8000, 0, 3, 0, .ro, 6⟩
/-- TK_STAT.ACTIVE: 1: this core is active. -/
def TK_STAT_ACTIVE (n : Nat) : Fld := ⟨0x050100 + n * 0x8000, 3, 1, 0, .ro, 6⟩
/-- TK_STAT.TIME_SET: 1: time set by a reference, a step or software. -/
def TK_STAT_TIME_SET (n : Nat) : Fld := ⟨0x050100 + n * 0x8000, 4, 1, 0, .ro, 6⟩
/-- TK_STAT.SLEWING: 1: TK_SLEW_LEFT not zero. -/
def TK_STAT_SLEWING (n : Nat) : Fld := ⟨0x050100 + n * 0x8000, 5, 1, 0, .ro, 6⟩
/-- TK_STAT.FREQ_ONLY: under R111. -/
def TK_STAT_FREQ_ONLY (n : Nat) : Fld := ⟨0x050100 + n * 0x8000, 6, 1, 0, .ro, 6⟩
/-- TK_STAT.STARTUP: under R118. -/
def TK_STAT_STARTUP (n : Nat) : Fld := ⟨0x050100 + n * 0x8000, 7, 1, 1, .ro, 6⟩
/-- TK_STAT.SLOT: last slot written: 0 A, 1 B. -/
def TK_STAT_SLOT (n : Nat) : Fld := ⟨0x050100 + n * 0x8000, 8, 1, 0, .ro, 6⟩
/-- TK_STAT.REF: RS slot followed. -/
def TK_STAT_REF (n : Nat) : Fld := ⟨0x050100 + n * 0x8000, 12, 4, 0, .ro, 6⟩
/-- TK_STAT, at offset 0x05_0100 in each core, reports that core. -/
def R_TK_STAT : RegForm := ⟨0x050100, 2, 0x8000, 1, 0x0, fun n _ => [TK_STAT_STATE n, TK_STAT_ACTIVE n, TK_STAT_TIME_SET n, TK_STAT_SLEWING n, TK_STAT_FREQ_ONLY n, TK_STAT_STARTUP n, TK_STAT_SLOT n, TK_STAT_REF n]⟩
/-- TK_EVT.UPD_MISS: event 0x0401. -/
def TK_EVT_UPD_MISS (n : Nat) : Fld := ⟨0x050108 + n * 0x8000, 0, 1, 0, .w1c, 7⟩
/-- TK_EVT.CKPT_MISS: event 0x0402. -/
def TK_EVT_CKPT_MISS (n : Nat) : Fld := ⟨0x050108 + n * 0x8000, 1, 1, 0, .w1c, 7⟩
/-- TK_EVT.LS_ERR: event 0x0403. -/
def TK_EVT_LS_ERR (n : Nat) : Fld := ⟨0x050108 + n * 0x8000, 2, 1, 0, .w1c, 7⟩
/-- TK_EVT.HOLD: event 0x0404. -/
def TK_EVT_HOLD (n : Nat) : Fld := ⟨0x050108 + n * 0x8000, 3, 1, 0, .w1c, 7⟩
/-- TK_EVT.HOLD_EXIT: event 0x0405. -/
def TK_EVT_HOLD_EXIT (n : Nat) : Fld := ⟨0x050108 + n * 0x8000, 4, 1, 0, .w1c, 7⟩
/-- TK_EVT.STEP: event 0x0406. -/
def TK_EVT_STEP (n : Nat) : Fld := ⟨0x050108 + n * 0x8000, 5, 1, 0, .w1c, 7⟩
/-- TK_EVT.STEP_WITHHELD: event 0x0407. -/
def TK_EVT_STEP_WITHHELD (n : Nat) : Fld := ⟨0x050108 + n * 0x8000, 6, 1, 0, .w1c, 7⟩
/-- TK_EVT.MODE: event 0x0408. -/
def TK_EVT_MODE (n : Nat) : Fld := ⟨0x050108 + n * 0x8000, 7, 1, 0, .w1c, 7⟩
/-- TK_EVT.TEMPCO: event 0x0409. -/
def TK_EVT_TEMPCO (n : Nat) : Fld := ⟨0x050108 + n * 0x8000, 8, 1, 0, .w1c, 7⟩
/-- TK_EVT.NO_CKPT: event 0x040A. -/
def TK_EVT_NO_CKPT (n : Nat) : Fld := ⟨0x050108 + n * 0x8000, 9, 1, 0, .w1c, 7⟩
/-- TK_EVT.TIME_SET: event 0x040B. -/
def TK_EVT_TIME_SET (n : Nat) : Fld := ⟨0x050108 + n * 0x8000, 10, 1, 0, .w1c, 7⟩
/-- TK_EVT.RESUME: event 0x040C. -/
def TK_EVT_RESUME (n : Nat) : Fld := ⟨0x050108 + n * 0x8000, 11, 1, 0, .w1c, 7⟩
/-- TK_EVT, at offset 0x05_0108 in each core, holds sticky flags set under R126. -/
def R_TK_EVT : RegForm := ⟨0x050108, 2, 0x8000, 1, 0x0, fun n _ => [TK_EVT_UPD_MISS n, TK_EVT_CKPT_MISS n, TK_EVT_LS_ERR n, TK_EVT_HOLD n, TK_EVT_HOLD_EXIT n, TK_EVT_STEP n, TK_EVT_STEP_WITHHELD n, TK_EVT_MODE n, TK_EVT_TEMPCO n, TK_EVT_NO_CKPT n, TK_EVT_TIME_SET n, TK_EVT_RESUME n]⟩
/-- TK_MISS.UPD_MISS: updates missed. -/
def TK_MISS_UPD_MISS (n : Nat) : Fld := ⟨0x050110 + n * 0x8000, 0, 16, 0x0000, .rc, 6⟩
/-- TK_MISS.CKPT_MISS: checkpoints missed. -/
def TK_MISS_CKPT_MISS (n : Nat) : Fld := ⟨0x050110 + n * 0x8000, 16, 16, 0x0000, .rc, 6⟩
/-- TK_MISS, at offset 0x05_0110 in each core, counts deadline misses. Both counters saturate at 65,535. -/
def R_TK_MISS : RegForm := ⟨0x050110, 2, 0x8000, 1, 0x0, fun n _ => [TK_MISS_UPD_MISS n, TK_MISS_CKPT_MISS n]⟩
/-- TK_MODEL_PH.PH: last e, phase word. -/
def TK_MODEL_PH_PH (n : Nat) : Fld := ⟨0x050118 + n * 0x8000, 0, 64, 0, .ro, 6⟩
/-- The model registers of each core follow at the offsets below. Each is RO, resets to 0 and is kept through F I. -/
def R_TK_MODEL_PH : RegForm := ⟨0x050118, 2, 0x8000, 1, 0x0, fun n _ => [TK_MODEL_PH_PH n]⟩
/-- TK_MODEL_Y.Y: y, frequency word. -/
def TK_MODEL_Y_Y (n : Nat) : Fld := ⟨0x050120 + n * 0x8000, 0, 64, 0, .ro, 6⟩
/-- The model registers of each core follow at the offsets below. Each is RO, resets to 0 and is kept through F I. -/
def R_TK_MODEL_Y : RegForm := ⟨0x050120, 2, 0x8000, 1, 0x0, fun n _ => [TK_MODEL_Y_Y n]⟩
/-- TK_MODEL_DD.DD: dd, signed, LSB 2^-32 ppt/s. -/
def TK_MODEL_DD_DD (n : Nat) : Fld := ⟨0x050128 + n * 0x8000, 0, 64, 0, .ro, 6⟩
/-- The model registers of each core follow at the offsets below. Each is RO, resets to 0 and is kept through F I. -/
def R_TK_MODEL_DD : RegForm := ⟨0x050128, 2, 0x8000, 1, 0x0, fun n _ => [TK_MODEL_DD_DD n]⟩
/-- TK_SLEW_LEFT.LEFT: left, phase word. -/
def TK_SLEW_LEFT_LEFT (n : Nat) : Fld := ⟨0x050130 + n * 0x8000, 0, 64, 0, .ro, 6⟩
/-- The model registers of each core follow at the offsets below. Each is RO, resets to 0 and is kept through F I. -/
def R_TK_SLEW_LEFT : RegForm := ⟨0x050130, 2, 0x8000, 1, 0x0, fun n _ => [TK_SLEW_LEFT_LEFT n]⟩
/-- TK_HOLD_SEC.SEC: SEC at the last holdover entry; [63:48] reserved. -/
def TK_HOLD_SEC_SEC (n : Nat) : Fld := ⟨0x050138 + n * 0x8000, 0, 48, 0, .ro, 6⟩
/-- The model registers of each core follow at the offsets below. Each is RO, resets to 0 and is kept through F I. -/
def R_TK_HOLD_SEC : RegForm := ⟨0x050138, 2, 0x8000, 1, 0x0, fun n _ => [TK_HOLD_SEC_SEC n]⟩
/-- TK_CKPT_SEQ.SEQ: SEQ of the last sealed checkpoint. -/
def TK_CKPT_SEQ_SEQ (n : Nat) : Fld := ⟨0x050140 + n * 0x8000, 0, 64, 0, .ro, 6⟩
/-- The model registers of each core follow at the offsets below. Each is RO, resets to 0 and is kept through F I. -/
def R_TK_CKPT_SEQ : RegForm := ⟨0x050140, 2, 0x8000, 1, 0x0, fun n _ => [TK_CKPT_SEQ_SEQ n]⟩
/-- Registers of these chapters, in the order of the spec, part 1. -/
def formsReference1 : List RegForm := [R_RS_CFG, R_RS_SEL, R_RS_STAT, R_RS_EVT, R_RS_CONTEST, R_RS_TYPE_BW, R_RS_REF_CFG, R_RS_REF_BW, R_RS_REF_LIM, R_RS_REF_QUAL, R_RS_REF_STAT, R_RS_REF_MEAS, R_RS_REF_EXCESS, R_TK_CTL, R_TK_SLEW_MAX, R_TK_STEP_THRESH, R_TK_MAN_FREQ, R_TK_MAN_PHASE, R_TK_SET_SEC, R_TK_SET_NSF, R_TK_TS_SEC, R_TK_TS_NSF, R_TK_TS_FREQ, R_TK_TS_STAT, R_TK_TEMPCO, R_TK_STAT, R_TK_EVT, R_TK_MISS, R_TK_MODEL_PH, R_TK_MODEL_Y]
/-- Registers of these chapters, in the order of the spec, part 2. -/
def formsReference2 : List RegForm := [R_TK_MODEL_DD, R_TK_SLEW_LEFT, R_TK_HOLD_SEC, R_TK_CKPT_SEQ]

end Sys2Proof.Machine.F
end

