-- ==== Sys2Proof/Machine/FieldsServing.lean ====
section
/-! DEFINITION. The register fields of the blocks of chapters 13, 14 of spec/, one definition per field, written from the
register tables of those chapters: offset, lowest bit, width, reset value, access code (R5) and kept-through letters (R6). -/
namespace Sys2Proof.Machine.F

/-- PT_CFG.PRECISION: NTP precision, signed log2 s; −30. -/
def PT_CFG_PRECISION : Fld := ⟨0x0D0000, 0, 8, 226, .rw, 19⟩
/-- PT_CFG.OSLV: offsetScaledLogVariance. -/
def PT_CFG_OSLV : Fld := ⟨0x0D0000, 8, 16, 0x4E5D, .rw, 19⟩
/-- PT_CFG, at offset 0x0D_0000, sets global values. -/
def R_PT_CFG : RegForm := ⟨0x0D0000, 1, 0x0, 1, 0x0, fun _ _ => [PT_CFG_PRECISION, PT_CFG_OSLV]⟩
/-- PT_UNAUTH_ALLOWED.ALLOWED: 1: unauthenticated service continues. -/
def PT_UNAUTH_ALLOWED_ALLOWED : Fld := ⟨0x0D0008, 0, 1, 0, .rw, 19⟩
/-- PT_UNAUTH_ALLOWED, at offset 0x0D_0008, governs service without keys under R262. -/
def R_PT_UNAUTH_ALLOWED : RegForm := ⟨0x0D0008, 1, 0x0, 1, 0x0, fun _ _ => [PT_UNAUTH_ALLOWED_ALLOWED]⟩
/-- PT_CLOCK_ID.ID: EUI-64, first transmitted byte in [63:56]; 0 silences PTP. -/
def PT_CLOCK_ID_ID : Fld := ⟨0x0D0010, 0, 64, 0x0000000000000000, .rw, 19⟩
/-- PT_CLOCK_ID, at offset 0x0D_0010, holds the clockIdentity. -/
def R_PT_CLOCK_ID : RegForm := ⟨0x0D0010, 1, 0x0, 1, 0x0, fun _ _ => [PT_CLOCK_ID_ID]⟩
/-- PT_UNI_CFG.MAX_DUR: s; values below 10 act as 10, above 1,000 as 1,000. -/
def PT_UNI_CFG_MAX_DUR : Fld := ⟨0x0D0018, 0, 16, 0x012C, .rw, 19⟩
/-- PT_UNI_CFG.MIN_LOG_SYNC: signed; below −7 acts as −7. -/
def PT_UNI_CFG_MIN_LOG_SYNC : Fld := ⟨0x0D0018, 16, 8, 249, .rw, 19⟩
/-- PT_UNI_CFG.MIN_LOG_ANN: signed; below −3 acts as −3. -/
def PT_UNI_CFG_MIN_LOG_ANN : Fld := ⟨0x0D0018, 24, 8, 253, .rw, 19⟩
/-- PT_UNI_CFG.MIN_LOG_DRESP: signed; below −7 acts as −7. -/
def PT_UNI_CFG_MIN_LOG_DRESP : Fld := ⟨0x0D0018, 32, 8, 249, .rw, 19⟩
/-- PT_UNI_CFG, at offset 0x0D_0018, sets grant limits under R255. -/
def R_PT_UNI_CFG : RegForm := ⟨0x0D0018, 1, 0x0, 1, 0x0, fun _ _ => [PT_UNI_CFG_MAX_DUR, PT_UNI_CFG_MIN_LOG_SYNC, PT_UNI_CFG_MIN_LOG_ANN, PT_UNI_CFG_MIN_LOG_DRESP]⟩
/-- PT_NTS_CFG.CUR_SLOT: key slot of the current master key. -/
def PT_NTS_CFG_CUR_SLOT : Fld := ⟨0x0D0020, 0, 7, 0, .ro, 7⟩
/-- PT_NTS_CFG.CUR_VALID: current key installed. -/
def PT_NTS_CFG_CUR_VALID : Fld := ⟨0x0D0020, 7, 1, 0, .ro, 7⟩
/-- PT_NTS_CFG.PREV_SLOT: key slot of the previous master key. -/
def PT_NTS_CFG_PREV_SLOT : Fld := ⟨0x0D0020, 8, 7, 0, .ro, 7⟩
/-- PT_NTS_CFG.PREV_VALID: previous key installed. -/
def PT_NTS_CFG_PREV_VALID : Fld := ⟨0x0D0020, 15, 1, 0, .ro, 7⟩
/-- PT_NTS_CFG and PT_NTS_KID, at offsets 0x0D_0020 and 0x0D_0028, are written by the cookie mint under R270. -/
def R_PT_NTS_CFG : RegForm := ⟨0x0D0020, 1, 0x0, 1, 0x0, fun _ _ => [PT_NTS_CFG_CUR_SLOT, PT_NTS_CFG_CUR_VALID, PT_NTS_CFG_PREV_SLOT, PT_NTS_CFG_PREV_VALID]⟩
/-- PT_NTS_KID.CUR_ID: current key ID. -/
def PT_NTS_KID_CUR_ID : Fld := ⟨0x0D0028, 0, 32, 0x00000000, .ro, 7⟩
/-- PT_NTS_KID.PREV_ID: previous key ID. -/
def PT_NTS_KID_PREV_ID : Fld := ⟨0x0D0028, 32, 32, 0x00000000, .ro, 7⟩
/-- PT_NTS_CFG and PT_NTS_KID, at offsets 0x0D_0020 and 0x0D_0028, are written by the cookie mint under R270. -/
def R_PT_NTS_KID : RegForm := ⟨0x0D0028, 1, 0x0, 1, 0x0, fun _ _ => [PT_NTS_KID_CUR_ID, PT_NTS_KID_PREV_ID]⟩
/-- PT_BURSIS_CFG.ORG_ID: organizationId; 0 suppresses the TLV. -/
def PT_BURSIS_CFG_ORG_ID : Fld := ⟨0x0D0030, 0, 24, 0x000000, .rw, 19⟩
/-- PT_BURSIS_CFG.NTP_TYPE: extension field type; 0 suppresses the field. -/
def PT_BURSIS_CFG_NTP_TYPE : Fld := ⟨0x0D0030, 32, 16, 0x0000, .rw, 19⟩
/-- PT_BURSIS_CFG, at offset 0x0D_0030, identifies the Bursis structures. -/
def R_PT_BURSIS_CFG : RegForm := ⟨0x0D0030, 1, 0x0, 1, 0x0, fun _ _ => [PT_BURSIS_CFG_ORG_ID, PT_BURSIS_CFG_NTP_TYPE]⟩
/-- PT_LEAP_CFG.AUTO_GNSS: accept GNSS offers. -/
def PT_LEAP_CFG_AUTO_GNSS : Fld := ⟨0x0D0038, 0, 1, 1, .rw, 19⟩
/-- PT_LEAP_CFG.AUTO_PTP: accept PTP upstream offers. -/
def PT_LEAP_CFG_AUTO_PTP : Fld := ⟨0x0D0038, 1, 1, 0, .rw, 19⟩
/-- PT_LEAP_CFG.COUNT: entries valid. -/
def PT_LEAP_CFG_COUNT : Fld := ⟨0x0D0038, 8, 7, 0, .ro, 31⟩
/-- PT_LEAP_CFG.VER: table version, wrapping. -/
def PT_LEAP_CFG_VER : Fld := ⟨0x0D0038, 48, 16, 0x0000, .ro, 31⟩
/-- PT_LEAP_CFG, at offset 0x0D_0038, and PT_LEAP_WR, at offset 0x0D_0040, control the leap table. -/
def R_PT_LEAP_CFG : RegForm := ⟨0x0D0038, 1, 0x0, 1, 0x0, fun _ _ => [PT_LEAP_CFG_AUTO_GNSS, PT_LEAP_CFG_AUTO_PTP, PT_LEAP_CFG_COUNT, PT_LEAP_CFG_VER]⟩
/-- PT_LEAP_WR.TE: tₑ, TAI seconds. -/
def PT_LEAP_WR_TE : Fld := ⟨0x0D0040, 0, 48, 0, .wo, 0⟩
/-- PT_LEAP_WR.DELTA: Δ, signed, s. -/
def PT_LEAP_WR_DELTA : Fld := ⟨0x0D0040, 48, 10, 0, .wo, 0⟩
/-- PT_LEAP_WR.OP: 0b01 insert, 0b10 delete; other values do nothing. -/
def PT_LEAP_WR_OP : Fld := ⟨0x0D0040, 58, 2, 0, .wo, 0⟩
/-- PT_LEAP_CFG, at offset 0x0D_0038, and PT_LEAP_WR, at offset 0x0D_0040, control the leap table. -/
def R_PT_LEAP_WR : RegForm := ⟨0x0D0040, 1, 0x0, 1, 0x0, fun _ _ => [PT_LEAP_WR_TE, PT_LEAP_WR_DELTA, PT_LEAP_WR_OP]⟩
/-- PT_EVT.SESS_FULL: event 0x0730. -/
def PT_EVT_SESS_FULL : Fld := ⟨0x0D0048, 0, 1, 0, .w1c, 7⟩
/-- PT_EVT.BUDGET: event 0x0731. -/
def PT_EVT_BUDGET : Fld := ⟨0x0D0048, 1, 1, 0, .w1c, 7⟩
/-- PT_EVT.AUTH_FAIL: event 0x0732. -/
def PT_EVT_AUTH_FAIL : Fld := ⟨0x0D0048, 2, 1, 0, .w1c, 7⟩
/-- PT_EVT.LEAP: event 0x0733. -/
def PT_EVT_LEAP : Fld := ⟨0x0D0048, 3, 1, 0, .w1c, 7⟩
/-- PT_EVT.LEAP_REJ: event 0x0734. -/
def PT_EVT_LEAP_REJ : Fld := ⟨0x0D0048, 4, 1, 0, .w1c, 7⟩
/-- PT_EVT.NTSN: event 0x0735. -/
def PT_EVT_NTSN : Fld := ⟨0x0D0048, 5, 1, 0, .w1c, 7⟩
/-- PT_EVT.QL: event 0x0736. -/
def PT_EVT_QL : Fld := ⟨0x0D0048, 6, 1, 0, .w1c, 7⟩
/-- PT_EVT.ESMC_TO: event 0x0737. -/
def PT_EVT_ESMC_TO : Fld := ⟨0x0D0048, 7, 1, 0, .w1c, 7⟩
/-- PT_EVT.HQ_OVF: event 0x0738. -/
def PT_EVT_HQ_OVF : Fld := ⟨0x0D0048, 8, 1, 0, .w1c, 7⟩
/-- PT_EVT.NOKEY: event 0x0739. -/
def PT_EVT_NOKEY : Fld := ⟨0x0D0048, 9, 1, 0, .w1c, 7⟩
/-- PT_EVT.UPSTREAM: event 0x073a. -/
def PT_EVT_UPSTREAM : Fld := ⟨0x0D0048, 10, 1, 0, .w1c, 7⟩
/-- PT_EVT.LEAP_FULL: event 0x073b. -/
def PT_EVT_LEAP_FULL : Fld := ⟨0x0D0048, 11, 1, 0, .w1c, 7⟩
/-- PT_EVT, at offset 0x0D_0048, holds sticky flags set under R281. PT_SESS, at offset 0x0D_0050, reports the session table. -/
def R_PT_EVT : RegForm := ⟨0x0D0048, 1, 0x0, 1, 0x0, fun _ _ => [PT_EVT_SESS_FULL, PT_EVT_BUDGET, PT_EVT_AUTH_FAIL, PT_EVT_LEAP, PT_EVT_LEAP_REJ, PT_EVT_NTSN, PT_EVT_QL, PT_EVT_ESMC_TO, PT_EVT_HQ_OVF, PT_EVT_NOKEY, PT_EVT_UPSTREAM, PT_EVT_LEAP_FULL]⟩
/-- PT_SESS.COUNT: sessions in use. -/
def PT_SESS_COUNT : Fld := ⟨0x0D0050, 0, 23, 0, .ro, 7⟩
/-- PT_EVT, at offset 0x0D_0048, holds sticky flags set under R281. PT_SESS, at offset 0x0D_0050, reports the session table. -/
def R_PT_SESS : RegForm := ⟨0x0D0050, 1, 0x0, 1, 0x0, fun _ _ => [PT_SESS_COUNT]⟩
/-- PT_LEAPj.TE: tₑ. -/
def PT_LEAP_TE (n : Nat) : Fld := ⟨0x0D0100 + n * 0x8, 0, 48, 0, .ro, 31⟩
/-- PT_LEAPj.DELTA: Δ, signed, s. -/
def PT_LEAP_DELTA (n : Nat) : Fld := ⟨0x0D0100 + n * 0x8, 48, 10, 0, .ro, 31⟩
/-- PT_LEAPj.SRC: 0 image, 1 software, 2 GNSS, 3 PTP. -/
def PT_LEAP_SRC (n : Nat) : Fld := ⟨0x0D0100 + n * 0x8, 60, 2, 0, .ro, 31⟩
/-- PT_LEAPj.VALID: entry in use. -/
def PT_LEAP_VALID (n : Nat) : Fld := ⟨0x0D0100 + n * 0x8, 63, 1, 0, .ro, 31⟩
/-- PT_LEAPj, at offset 0x0D_0100 + j × 8, for j from 0 to 63, holds entry j. -/
def R_PT_LEAP : RegForm := ⟨0x0D0100, 64, 0x8, 1, 0x0, fun n _ => [PT_LEAP_TE n, PT_LEAP_DELTA n, PT_LEAP_SRC n, PT_LEAP_VALID n]⟩
/-- PT_SPPs.SPP: SPP value. -/
def PT_SPP_SPP (n : Nat) : Fld := ⟨0x0D0300 + n * 0x8, 0, 8, 0, .rw, 19⟩
/-- PT_SPPs.ALG: 0 HMAC-SHA-256-128, 1 AES-CMAC-128. -/
def PT_SPP_ALG (n : Nat) : Fld := ⟨0x0D0300 + n * 0x8, 8, 1, 0, .rw, 19⟩
/-- PT_SPPs.PORTS: bit 12 + p: port p may use it. -/
def PT_SPP_PORTS (n : Nat) : Fld := ⟨0x0D0300 + n * 0x8, 12, 4, 0, .rw, 19⟩
/-- PT_SPPs.SLOT: key slot. -/
def PT_SPP_SLOT (n : Nat) : Fld := ⟨0x0D0300 + n * 0x8, 16, 7, 0, .rw, 19⟩
/-- PT_SPPs.VALID: entry used. -/
def PT_SPP_VALID (n : Nat) : Fld := ⟨0x0D0300 + n * 0x8, 23, 1, 0, .rw, 19⟩
/-- PT_SPPs.KEYID: keyID. -/
def PT_SPP_KEYID (n : Nat) : Fld := ⟨0x0D0300 + n * 0x8, 32, 32, 0x00000000, .rw, 19⟩
/-- PT_SPPs, at offset 0x0D_0300 + s × 8, for s from 0 to 15, holds security parameters. -/
def R_PT_SPP : RegForm := ⟨0x0D0300, 16, 0x8, 1, 0x0, fun n _ => [PT_SPP_SPP n, PT_SPP_ALG n, PT_SPP_PORTS n, PT_SPP_SLOT n, PT_SPP_VALID n, PT_SPP_KEYID n]⟩
/-- PT_CLASSk.RATE: LSB 1/16 request/s; 0 not limited. -/
def PT_CLASS_RATE (n : Nat) : Fld := ⟨0x0D0400 + n * 0x8, 0, 20, 0x00100, .rw, 19⟩
/-- PT_CLASSk.BURST: requests; 0 acts as 1. -/
def PT_CLASS_BURST (n : Nat) : Fld := ⟨0x0D0400 + n * 0x8, 20, 8, 32, .rw, 19⟩
/-- PT_CLASSk.KOD_EN: kiss-o'-death under R268. -/
def PT_CLASS_KOD_EN (n : Nat) : Fld := ⟨0x0D0400 + n * 0x8, 28, 1, 1, .rw, 19⟩
/-- PT_CLASSk.NTS_REQ: 1: plain NTP dropped. -/
def PT_CLASS_NTS_REQ (n : Nat) : Fld := ⟨0x0D0400 + n * 0x8, 29, 1, 0, .rw, 19⟩
/-- PT_CLASSk.BURSIS: 0 never, 1 on request, 2 always; 3 acts as 0. -/
def PT_CLASS_BURSIS (n : Nat) : Fld := ⟨0x0D0400 + n * 0x8, 30, 2, 1, .rw, 19⟩
/-- PT_CLASSk.SMEAR_EN: smear under R276. -/
def PT_CLASS_SMEAR_EN (n : Nat) : Fld := ⟨0x0D0400 + n * 0x8, 32, 1, 0, .rw, 19⟩
/-- PT_CLASSk.HALF: half window, s. -/
def PT_CLASS_HALF (n : Nat) : Fld := ⟨0x0D0400 + n * 0x8, 33, 17, 0x0A8C0, .rw, 19⟩
/-- PT_CLASSk.PREFIX6: IPv6 key bits; below 48 acts as 48, above 128 as 128. -/
def PT_CLASS_PREFIX6 (n : Nat) : Fld := ⟨0x0D0400 + n * 0x8, 50, 7, 64, .rw, 19⟩
/-- PT_CLASSk, at offset 0x0D_0400 + k × 8, for k from 0 to 7, configures client class k. -/
def R_PT_CLASS : RegForm := ⟨0x0D0400, 8, 0x8, 1, 0x0, fun n _ => [PT_CLASS_RATE n, PT_CLASS_BURST n, PT_CLASS_KOD_EN n, PT_CLASS_NTS_REQ n, PT_CLASS_BURSIS n, PT_CLASS_SMEAR_EN n, PT_CLASS_HALF n, PT_CLASS_PREFIX6 n]⟩
/-- PT_CLASSMAPm_ADDR_HI.ADDR: IPv6 bytes 0 to 7, byte 0 in [63:56]. -/
def PT_CLASSMAP_ADDR_HI_ADDR (n : Nat) : Fld := ⟨0x0D0500 + n * 0x20, 0, 64, 0, .rw, 19⟩
/-- PT_CLASSMAPm, at offset 0x0D_0500 + m × 0x20, for m from 0 to 15, occupies three registers. -/
def R_PT_CLASSMAP_ADDR_HI : RegForm := ⟨0x0D0500, 16, 0x20, 1, 0x0, fun n _ => [PT_CLASSMAP_ADDR_HI_ADDR n]⟩
/-- PT_CLASSMAPm_ADDR_LO.ADDR: IPv6 bytes 8 to 15; IPv4 in [31:0]. -/
def PT_CLASSMAP_ADDR_LO_ADDR (n : Nat) : Fld := ⟨0x0D0508 + n * 0x20, 0, 64, 0, .rw, 19⟩
/-- PT_CLASSMAPm, at offset 0x0D_0500 + m × 0x20, for m from 0 to 15, occupies three registers. -/
def R_PT_CLASSMAP_ADDR_LO : RegForm := ⟨0x0D0508, 16, 0x20, 1, 0x0, fun n _ => [PT_CLASSMAP_ADDR_LO_ADDR n]⟩
/-- PT_CLASSMAPm_CTL.LEN: prefix bits. -/
def PT_CLASSMAP_CTL_LEN (n : Nat) : Fld := ⟨0x0D0510 + n * 0x20, 0, 8, 0, .rw, 19⟩
/-- PT_CLASSMAPm_CTL.V6: 1: IPv6. -/
def PT_CLASSMAP_CTL_V6 (n : Nat) : Fld := ⟨0x0D0510 + n * 0x20, 8, 1, 0, .rw, 19⟩
/-- PT_CLASSMAPm_CTL.PORTS: bit 16 + p: port p. -/
def PT_CLASSMAP_CTL_PORTS (n : Nat) : Fld := ⟨0x0D0510 + n * 0x20, 16, 6, 0, .rw, 19⟩
/-- PT_CLASSMAPm_CTL.CLASS: class assigned. -/
def PT_CLASSMAP_CTL_CLASS (n : Nat) : Fld := ⟨0x0D0510 + n * 0x20, 24, 3, 0, .rw, 19⟩
/-- PT_CLASSMAPm_CTL.VALID: entry used. -/
def PT_CLASSMAP_CTL_VALID (n : Nat) : Fld := ⟨0x0D0510 + n * 0x20, 31, 1, 0, .rw, 19⟩
/-- PT_CLASSMAPm, at offset 0x0D_0500 + m × 0x20, for m from 0 to 15, occupies three registers. -/
def R_PT_CLASSMAP_CTL : RegForm := ⟨0x0D0510, 16, 0x20, 1, 0x0, fun n _ => [PT_CLASSMAP_CTL_LEN n, PT_CLASSMAP_CTL_V6 n, PT_CLASSMAP_CTL_PORTS n, PT_CLASSMAP_CTL_CLASS n, PT_CLASSMAP_CTL_VALID n]⟩
/-- PT_PORTp_PTP.ROLE: 0 off, 1 grandmaster, 2 client; 3 acts as 0. -/
def PT_PORT_PTP_ROLE (n : Nat) : Fld := ⟨0x0D1000 + n * 0x100, 0, 2, 0, .rw, 19⟩
/-- PT_PORTp_PTP.PROFILE: under R251; a write that changes it loads the profile's defaults; 0b11 acts as 0b00. -/
def PT_PORT_PTP_PROFILE (n : Nat) : Fld := ⟨0x0D1000 + n * 0x100, 2, 2, 0, .rw, 19⟩
/-- PT_PORTp_PTP.TRANSPORT: 0 IEEE 802.3, 1 UDP/IPv4, 2 UDP/IPv6; 3 acts as 1. -/
def PT_PORT_PTP_TRANSPORT (n : Nat) : Fld := ⟨0x0D1000 + n * 0x100, 4, 2, 1, .rw, 19⟩
/-- PT_PORTp_PTP.MCAST_ALT: G.8275.1 address choice. -/
def PT_PORT_PTP_MCAST_ALT (n : Nat) : Fld := ⟨0x0D1000 + n * 0x100, 6, 1, 0, .rw, 19⟩
/-- PT_PORTp_PTP.AUTH_REQ: under R260 and R261. -/
def PT_PORT_PTP_AUTH_REQ (n : Nat) : Fld := ⟨0x0D1000 + n * 0x100, 7, 1, 0, .rw, 19⟩
/-- PT_PORTp_PTP.DOMAIN: domainNumber. -/
def PT_PORT_PTP_DOMAIN (n : Nat) : Fld := ⟨0x0D1000 + n * 0x100, 8, 8, 0, .rw, 19⟩
/-- PT_PORTp_PTP.LOG_SYNC: signed log2 s. -/
def PT_PORT_PTP_LOG_SYNC (n : Nat) : Fld := ⟨0x0D1000 + n * 0x100, 16, 8, 0, .rw, 19⟩
/-- PT_PORTp_PTP.LOG_ANN: signed log2 s. -/
def PT_PORT_PTP_LOG_ANN (n : Nat) : Fld := ⟨0x0D1000 + n * 0x100, 24, 8, 1, .rw, 19⟩
/-- PT_PORTp_PTP.LOG_DREQ: logMinDelayReqInterval. -/
def PT_PORT_PTP_LOG_DREQ (n : Nat) : Fld := ⟨0x0D1000 + n * 0x100, 32, 8, 0, .rw, 19⟩
/-- PT_PORTp_PTP.PRIO1: priority1. -/
def PT_PORT_PTP_PRIO1 (n : Nat) : Fld := ⟨0x0D1000 + n * 0x100, 40, 8, 128, .rw, 19⟩
/-- PT_PORTp_PTP.PRIO2: priority2. -/
def PT_PORT_PTP_PRIO2 (n : Nat) : Fld := ⟨0x0D1000 + n * 0x100, 48, 8, 128, .rw, 19⟩
/-- PT_PORTp_PTP.SPP: PT_SPPs index. -/
def PT_PORT_PTP_SPP (n : Nat) : Fld := ⟨0x0D1000 + n * 0x100, 56, 4, 0, .rw, 19⟩
/-- PT_PORTp_PTP.BURSIS: Bursis TLV under R271. -/
def PT_PORT_PTP_BURSIS (n : Nat) : Fld := ⟨0x0D1000 + n * 0x100, 60, 1, 1, .rw, 19⟩
/-- PT_PORTp_PTP, at offset 0x0D_1000 + p × 0x100, configures PTP on port p. -/
def R_PT_PORT_PTP : RegForm := ⟨0x0D1000, 6, 0x100, 1, 0x0, fun n _ => [PT_PORT_PTP_ROLE n, PT_PORT_PTP_PROFILE n, PT_PORT_PTP_TRANSPORT n, PT_PORT_PTP_MCAST_ALT n, PT_PORT_PTP_AUTH_REQ n, PT_PORT_PTP_DOMAIN n, PT_PORT_PTP_LOG_SYNC n, PT_PORT_PTP_LOG_ANN n, PT_PORT_PTP_LOG_DREQ n, PT_PORT_PTP_PRIO1 n, PT_PORT_PTP_PRIO2 n, PT_PORT_PTP_SPP n, PT_PORT_PTP_BURSIS n]⟩
/-- PT_PORTp_SVC.NTP_EN: NTP served. -/
def PT_PORT_SVC_NTP_EN (n : Nat) : Fld := ⟨0x0D1008 + n * 0x100, 0, 1, 0, .rw, 19⟩
/-- PT_PORTp_SVC.BUDGET: granted messages/s; 10,000,000. -/
def PT_PORT_SVC_BUDGET (n : Nat) : Fld := ⟨0x0D1008 + n * 0x100, 8, 24, 0x989680, .rw, 19⟩
/-- PT_PORTp_SVC, PT_PORTp_CLIENT and PT_PORTp_ASYM, at offsets 0x0D_1008, 0x0D_1010 and 0x0D_1018 + p × 0x100, configure service and the client role. -/
def R_PT_PORT_SVC : RegForm := ⟨0x0D1008, 6, 0x100, 1, 0x0, fun n _ => [PT_PORT_SVC_NTP_EN n, PT_PORT_SVC_BUDGET n]⟩
/-- PT_PORTp_CLIENT.MAX_CLASS: highest accepted clockClass. -/
def PT_PORT_CLIENT_MAX_CLASS (n : Nat) : Fld := ⟨0x0D1010 + n * 0x100, 0, 8, 7, .rw, 19⟩
/-- PT_PORTp_CLIENT.ANN_TO: announceReceiptTimeout; 0 acts as 2. -/
def PT_PORT_CLIENT_ANN_TO (n : Nat) : Fld := ⟨0x0D1010 + n * 0x100, 8, 4, 3, .rw, 19⟩
/-- PT_PORTp_CLIENT.UNICAST: 1: negotiate grants. -/
def PT_PORT_CLIENT_UNICAST (n : Nat) : Fld := ⟨0x0D1010 + n * 0x100, 12, 1, 0, .rw, 19⟩
/-- PT_PORTp_CLIENT.CL_LOG_SYNC: requested period, signed. -/
def PT_PORT_CLIENT_CL_LOG_SYNC (n : Nat) : Fld := ⟨0x0D1010 + n * 0x100, 16, 8, 252, .rw, 19⟩
/-- PT_PORTp_CLIENT.MAX_BOUND: ps; 1 µs. -/
def PT_PORT_CLIENT_MAX_BOUND (n : Nat) : Fld := ⟨0x0D1010 + n * 0x100, 24, 40, 0x00000F4240, .rw, 19⟩
/-- PT_PORTp_SVC, PT_PORTp_CLIENT and PT_PORTp_ASYM, at offsets 0x0D_1008, 0x0D_1010 and 0x0D_1018 + p × 0x100, configure service and the client role. -/
def R_PT_PORT_CLIENT : RegForm := ⟨0x0D1010, 6, 0x100, 1, 0x0, fun n _ => [PT_PORT_CLIENT_MAX_CLASS n, PT_PORT_CLIENT_ANN_TO n, PT_PORT_CLIENT_UNICAST n, PT_PORT_CLIENT_CL_LOG_SYNC n, PT_PORT_CLIENT_MAX_BOUND n]⟩
/-- PT_PORTp_ASYM.ASYM: signed ps; [63:32] reserved. -/
def PT_PORT_ASYM_ASYM (n : Nat) : Fld := ⟨0x0D1018 + n * 0x100, 0, 32, 0x00000000, .rw, 19⟩
/-- PT_PORTp_SVC, PT_PORTp_CLIENT and PT_PORTp_ASYM, at offsets 0x0D_1008, 0x0D_1010 and 0x0D_1018 + p × 0x100, configure service and the client role. -/
def R_PT_PORT_ASYM : RegForm := ⟨0x0D1018, 6, 0x100, 1, 0x0, fun n _ => [PT_PORT_ASYM_ASYM n]⟩
/-- PT_PORTp_UPSTREAM_HI.ADDR: upstream address. -/
def PT_PORT_UPSTREAM_HI_ADDR (n : Nat) : Fld := ⟨0x0D1020 + n * 0x100, 0, 64, 0, .rw, 19⟩
/-- PT_PORTp_UPSTREAM_HI and _LO hold the upstream address. -/
def R_PT_PORT_UPSTREAM_HI : RegForm := ⟨0x0D1020, 6, 0x100, 1, 0x0, fun n _ => [PT_PORT_UPSTREAM_HI_ADDR n]⟩
/-- PT_PORTp_UPSTREAM_LO.ADDR: upstream address. -/
def PT_PORT_UPSTREAM_LO_ADDR (n : Nat) : Fld := ⟨0x0D1028 + n * 0x100, 0, 64, 0, .rw, 19⟩
/-- PT_PORTp_UPSTREAM_HI and _LO hold the upstream address. -/
def R_PT_PORT_UPSTREAM_LO : RegForm := ⟨0x0D1028, 6, 0x100, 1, 0x0, fun n _ => [PT_PORT_UPSTREAM_LO_ADDR n]⟩
/-- PT_PORTp_ESMC.TX_EN: send ESMC. -/
def PT_PORT_ESMC_TX_EN (n : Nat) : Fld := ⟨0x0D1030 + n * 0x100, 0, 1, 0, .rw, 19⟩
/-- PT_PORTp_ESMC.RX_EN: receive ESMC. -/
def PT_PORT_ESMC_RX_EN (n : Nat) : Fld := ⟨0x0D1030 + n * 0x100, 1, 1, 0, .rw, 19⟩
/-- PT_PORTp_ESMC.QL_OVR_EN: use QL_OVR. -/
def PT_PORT_ESMC_QL_OVR_EN (n : Nat) : Fld := ⟨0x0D1030 + n * 0x100, 2, 1, 0, .rw, 19⟩
/-- PT_PORTp_ESMC.QL_OVR: SSM sent. -/
def PT_PORT_ESMC_QL_OVR (n : Nat) : Fld := ⟨0x0D1030 + n * 0x100, 4, 4, 15, .rw, 19⟩
/-- PT_PORTp_ESMC.QL_RX: SSM received. -/
def PT_PORT_ESMC_QL_RX (n : Nat) : Fld := ⟨0x0D1030 + n * 0x100, 8, 4, 15, .ro, 0⟩
/-- PT_PORTp_ESMC.RX_OK: information PDUs arriving. -/
def PT_PORT_ESMC_RX_OK (n : Nat) : Fld := ⟨0x0D1030 + n * 0x100, 12, 1, 0, .ro, 0⟩
/-- PT_PORTp_ESMC, at offset 0x0D_1030 + p × 0x100, controls ESMC under R277. -/
def R_PT_PORT_ESMC : RegForm := ⟨0x0D1030, 6, 0x100, 1, 0x0, fun n _ => [PT_PORT_ESMC_TX_EN n, PT_PORT_ESMC_RX_EN n, PT_PORT_ESMC_QL_OVR_EN n, PT_PORT_ESMC_QL_OVR n, PT_PORT_ESMC_QL_RX n, PT_PORT_ESMC_RX_OK n]⟩
/-- PT_RXq_BASE.ADDR: ring address, 64-byte aligned. -/
def PT_RX_BASE_ADDR (n : Nat) : Fld := ⟨0x0D2000 + n * 0x20, 6, 58, 0, .rw, 0⟩
/-- The host queues follow. Receive queue q lies at 0x0D_2000 + q × 0x20, and transmit queue q at 0x0D_2200 + q × 0x20, for q from 0 to 7. -/
def R_PT_RX_BASE : RegForm := ⟨0x0D2000, 8, 0x20, 1, 0x0, fun n _ => [PT_RX_BASE_ADDR n]⟩
/-- PT_RXq_CFG.EN: queue enabled. -/
def PT_RX_CFG_EN (n : Nat) : Fld := ⟨0x0D2008 + n * 0x20, 0, 1, 0, .rw, 0⟩
/-- PT_RXq_CFG.SIZE: log2 descriptors; below 4 acts as 4, above 12 as 12. -/
def PT_RX_CFG_SIZE (n : Nat) : Fld := ⟨0x0D2008 + n * 0x20, 1, 4, 4, .rw, 0⟩
/-- PT_RXq_CFG.VEC: MSI-X vector of PF3. -/
def PT_RX_CFG_VEC (n : Nat) : Fld := ⟨0x0D2008 + n * 0x20, 8, 5, 0, .rw, 0⟩
/-- The host queues follow. Receive queue q lies at 0x0D_2000 + q × 0x20, and transmit queue q at 0x0D_2200 + q × 0x20, for q from 0 to 7. -/
def R_PT_RX_CFG : RegForm := ⟨0x0D2008, 8, 0x20, 1, 0x0, fun n _ => [PT_RX_CFG_EN n, PT_RX_CFG_SIZE n, PT_RX_CFG_VEC n]⟩
/-- PT_RXq_PTR.TAIL: index after the last descriptor the host has made ready. -/
def PT_RX_PTR_TAIL (n : Nat) : Fld := ⟨0x0D2010 + n * 0x20, 0, 16, 0x0000, .rw, 0⟩
/-- PT_RXq_PTR.HEAD: next descriptor the part will complete. -/
def PT_RX_PTR_HEAD (n : Nat) : Fld := ⟨0x0D2010 + n * 0x20, 32, 16, 0x0000, .ro, 0⟩
/-- The host queues follow. Receive queue q lies at 0x0D_2000 + q × 0x20, and transmit queue q at 0x0D_2200 + q × 0x20, for q from 0 to 7. -/
def R_PT_RX_PTR : RegForm := ⟨0x0D2010, 8, 0x20, 1, 0x0, fun n _ => [PT_RX_PTR_TAIL n, PT_RX_PTR_HEAD n]⟩
/-- PT_RXq_STAT.DROP: frames dropped on an empty receive ring, saturating; reserved for transmit queues. -/
def PT_RX_STAT_DROP (n : Nat) : Fld := ⟨0x0D2018 + n * 0x20, 0, 32, 0, .rc, 0⟩
/-- The host queues follow. Receive queue q lies at 0x0D_2000 + q × 0x20, and transmit queue q at 0x0D_2200 + q × 0x20, for q from 0 to 7. -/
def R_PT_RX_STAT : RegForm := ⟨0x0D2018, 8, 0x20, 1, 0x0, fun n _ => [PT_RX_STAT_DROP n]⟩
/-- PT_TXq_BASE.ADDR: ring address, 64-byte aligned. -/
def PT_TX_BASE_ADDR (n : Nat) : Fld := ⟨0x0D2200 + n * 0x20, 6, 58, 0, .rw, 0⟩
/-- The host queues follow. Receive queue q lies at 0x0D_2000 + q × 0x20, and transmit queue q at 0x0D_2200 + q × 0x20, for q from 0 to 7. -/
def R_PT_TX_BASE : RegForm := ⟨0x0D2200, 8, 0x20, 1, 0x0, fun n _ => [PT_TX_BASE_ADDR n]⟩
/-- PT_TXq_CFG.EN: queue enabled. -/
def PT_TX_CFG_EN (n : Nat) : Fld := ⟨0x0D2208 + n * 0x20, 0, 1, 0, .rw, 0⟩
/-- PT_TXq_CFG.SIZE: log2 descriptors; below 4 acts as 4, above 12 as 12. -/
def PT_TX_CFG_SIZE (n : Nat) : Fld := ⟨0x0D2208 + n * 0x20, 1, 4, 4, .rw, 0⟩
/-- PT_TXq_CFG.VEC: MSI-X vector of PF3. -/
def PT_TX_CFG_VEC (n : Nat) : Fld := ⟨0x0D2208 + n * 0x20, 8, 5, 0, .rw, 0⟩
/-- The host queues follow. Receive queue q lies at 0x0D_2000 + q × 0x20, and transmit queue q at 0x0D_2200 + q × 0x20, for q from 0 to 7. -/
def R_PT_TX_CFG : RegForm := ⟨0x0D2208, 8, 0x20, 1, 0x0, fun n _ => [PT_TX_CFG_EN n, PT_TX_CFG_SIZE n, PT_TX_CFG_VEC n]⟩
/-- PT_TXq_PTR.TAIL: index after the last descriptor the host has made ready. -/
def PT_TX_PTR_TAIL (n : Nat) : Fld := ⟨0x0D2210 + n * 0x20, 0, 16, 0x0000, .rw, 0⟩
/-- PT_TXq_PTR.HEAD: next descriptor the part will complete. -/
def PT_TX_PTR_HEAD (n : Nat) : Fld := ⟨0x0D2210 + n * 0x20, 32, 16, 0x0000, .ro, 0⟩
/-- The host queues follow. Receive queue q lies at 0x0D_2000 + q × 0x20, and transmit queue q at 0x0D_2200 + q × 0x20, for q from 0 to 7. -/
def R_PT_TX_PTR : RegForm := ⟨0x0D2210, 8, 0x20, 1, 0x0, fun n _ => [PT_TX_PTR_TAIL n, PT_TX_PTR_HEAD n]⟩
/-- PT_TXq_STAT.DROP: frames dropped on an empty receive ring, saturating; reserved for transmit queues. -/
def PT_TX_STAT_DROP (n : Nat) : Fld := ⟨0x0D2218 + n * 0x20, 0, 32, 0, .rc, 0⟩
/-- The host queues follow. Receive queue q lies at 0x0D_2000 + q × 0x20, and transmit queue q at 0x0D_2200 + q × 0x20, for q from 0 to 7. -/
def R_PT_TX_STAT : RegForm := ⟨0x0D2218, 8, 0x20, 1, 0x0, fun n _ => [PT_TX_STAT_DROP n]⟩
/-- KV_STAT.ROOT: 0 absent, 1 ready, 2 failed, 3 disabled by tamper or lifecycle. -/
def KV_STAT_ROOT : Fld := ⟨0x0F0000, 0, 2, 0, .ro, 7⟩
/-- KV_STAT.LC: 0 BLANK, 1 PROVISION, 2 FIELD, 3 RETURN, 4 RETIRED. -/
def KV_STAT_LC : Fld := ⟨0x0F0000, 2, 3, 0, .ro, 127⟩
/-- KV_STAT.ATTEMPTS: regeneration attempts at the last start. -/
def KV_STAT_ATTEMPTS : Fld := ⟨0x0F0000, 5, 2, 0, .ro, 7⟩
/-- KV_STAT, at offset 0x0F_0000, reports the vault. -/
def R_KV_STAT : RegForm := ⟨0x0F0000, 1, 0x0, 1, 0x0, fun _ _ => [KV_STAT_ROOT, KV_STAT_LC, KV_STAT_ATTEMPTS]⟩
/-- KV_PUF.ERRBITS: bits corrected at the last regeneration. -/
def KV_PUF_ERRBITS : Fld := ⟨0x0F0008, 0, 16, 0x0000, .ro, 7⟩
/-- KV_PUF.WARN: warning level for event 0x0903. -/
def KV_PUF_WARN : Fld := ⟨0x0F0008, 16, 16, 0x0400, .rw, 23⟩
/-- KV_PUF, at offset 0x0F_0008, reports PUF health. -/
def R_KV_PUF : RegForm := ⟨0x0F0008, 1, 0x0, 1, 0x0, fun _ _ => [KV_PUF_ERRBITS, KV_PUF_WARN]⟩
/-- KV_LC.TARGET: state, encoded as KV_STAT.LC. -/
def KV_LC_TARGET : Fld := ⟨0x0F0010, 0, 3, 0, .wo, 0⟩
/-- KV_LC.CONFIRM: must be 0xA5. -/
def KV_LC_CONFIRM : Fld := ⟨0x0F0010, 8, 8, 0, .wo, 0⟩
/-- KV_LC.GO: 1: request. -/
def KV_LC_GO : Fld := ⟨0x0F0010, 16, 1, 0, .wo, 0⟩
/-- KV_LC, at offset 0x0F_0010, requests a lifecycle transition under R292. -/
def R_KV_LC : RegForm := ⟨0x0F0010, 1, 0x0, 1, 0x0, fun _ _ => [KV_LC_TARGET, KV_LC_CONFIRM, KV_LC_GO]⟩
/-- KV_OP.OP: operation code. -/
def KV_OP_OP : Fld := ⟨0x0F0018, 0, 8, 0, .wo, 0⟩
/-- KV_OP.SLOT: source slot; 0x7F the root. -/
def KV_OP_SLOT : Fld := ⟨0x0F0018, 8, 7, 0, .wo, 0⟩
/-- KV_OP.TSLOT: target slot. -/
def KV_OP_TSLOT : Fld := ⟨0x0F0018, 16, 7, 0, .wo, 0⟩
/-- KV_OP.LEN: message or output length in bytes, or cookie count. -/
def KV_OP_LEN : Fld := ⟨0x0F0018, 24, 11, 0x000, .wo, 0⟩
/-- KV_OP.GO: 1: start. -/
def KV_OP_GO : Fld := ⟨0x0F0018, 63, 1, 0, .wo, 0⟩
/-- KV_OP, at offset 0x0F_0018, starts an operation under R291. -/
def R_KV_OP : RegForm := ⟨0x0F0018, 1, 0x0, 1, 0x0, fun _ _ => [KV_OP_OP, KV_OP_SLOT, KV_OP_TSLOT, KV_OP_LEN, KV_OP_GO]⟩
/-- KV_OP_ATTR.ATTR: attribute word under R286, or operation argument. -/
def KV_OP_ATTR_ATTR : Fld := ⟨0x0F0020, 0, 64, 0, .rw, 1⟩
/-- KV_OP_ATTR and KV_OP_STAT, at offsets 0x0F_0020 and 0x0F_0028, carry the attribute word and the result. -/
def R_KV_OP_ATTR : RegForm := ⟨0x0F0020, 1, 0x0, 1, 0x0, fun _ _ => [KV_OP_ATTR_ATTR]⟩
/-- KV_OP_STAT.STATUS: mailbox status code. -/
def KV_OP_STAT_STATUS : Fld := ⟨0x0F0028, 0, 8, 0, .ro, 1⟩
/-- KV_OP_STAT.BUSY: operation in progress. -/
def KV_OP_STAT_BUSY : Fld := ⟨0x0F0028, 8, 1, 0, .ro, 1⟩
/-- KV_OP_STAT.OUT_LEN: bytes of output. -/
def KV_OP_STAT_OUT_LEN : Fld := ⟨0x0F0028, 16, 12, 0x000, .ro, 1⟩
/-- KV_OP_ATTR and KV_OP_STAT, at offsets 0x0F_0020 and 0x0F_0028, carry the attribute word and the result. -/
def R_KV_OP_STAT : RegForm := ⟨0x0F0028, 1, 0x0, 1, 0x0, fun _ _ => [KV_OP_STAT_STATUS, KV_OP_STAT_BUSY, KV_OP_STAT_OUT_LEN]⟩
/-- KV_EVT.ROOT_OK: event 0x0901. -/
def KV_EVT_ROOT_OK : Fld := ⟨0x0F0030, 0, 1, 0, .w1c, 7⟩
/-- KV_EVT.ROOT_FAIL: event 0x0902. -/
def KV_EVT_ROOT_FAIL : Fld := ⟨0x0F0030, 1, 1, 0, .w1c, 7⟩
/-- KV_EVT.PUF_WARN: event 0x0903. -/
def KV_EVT_PUF_WARN : Fld := ⟨0x0F0030, 2, 1, 0, .w1c, 7⟩
/-- KV_EVT.LC: event 0x0904. -/
def KV_EVT_LC : Fld := ⟨0x0F0030, 3, 1, 0, .w1c, 7⟩
/-- KV_EVT.DENY: event 0x0905. -/
def KV_EVT_DENY : Fld := ⟨0x0F0030, 4, 1, 0, .w1c, 7⟩
/-- KV_EVT.ECC: event 0x0906. -/
def KV_EVT_ECC : Fld := ⟨0x0F0030, 5, 1, 0, .w1c, 7⟩
/-- KV_EVT.ROTATE: event 0x0907. -/
def KV_EVT_ROTATE : Fld := ⟨0x0F0030, 6, 1, 0, .w1c, 7⟩
/-- KV_EVT.RESTORE: event 0x0908. -/
def KV_EVT_RESTORE : Fld := ⟨0x0F0030, 7, 1, 0, .w1c, 7⟩
/-- KV_EVT, at offset 0x0F_0030, holds sticky flags set under R300. KV_CNT, at offset 0x0F_0038, counts refusals. -/
def R_KV_EVT : RegForm := ⟨0x0F0030, 1, 0x0, 1, 0x0, fun _ _ => [KV_EVT_ROOT_OK, KV_EVT_ROOT_FAIL, KV_EVT_PUF_WARN, KV_EVT_LC, KV_EVT_DENY, KV_EVT_ECC, KV_EVT_ROTATE, KV_EVT_RESTORE]⟩
/-- KV_CNT.DENY: DENIED results, saturating. -/
def KV_CNT_DENY : Fld := ⟨0x0F0038, 0, 32, 0, .rc, 7⟩
/-- KV_CNT.ECC: slots zeroised on ECC, saturating. -/
def KV_CNT_ECC : Fld := ⟨0x0F0038, 32, 32, 0, .rc, 7⟩
/-- KV_EVT, at offset 0x0F_0030, holds sticky flags set under R300. KV_CNT, at offset 0x0F_0038, counts refusals. -/
def R_KV_CNT : RegForm := ⟨0x0F0038, 1, 0x0, 1, 0x0, fun _ _ => [KV_CNT_DENY, KV_CNT_ECC]⟩
/-- KV_IMGKEYw.DIGEST: SHA-256 digest bytes 8w to 8w + 7; all zero means none. -/
def KV_IMGKEY_DIGEST (n : Nat) : Fld := ⟨0x0F0040 + n * 0x8, 0, 64, 0, .rwl, 127⟩
/-- KV_IMGKEYw, at offset 0x0F_0040 + w × 8 for w from 0 to 3, holds the customer image key digest of R237, with word 0 holding bytes 0 to 7. A write is programmed into OTP at the lifecycle seal. -/
def R_KV_IMGKEY : RegForm := ⟨0x0F0040, 4, 0x8, 1, 0x0, fun n _ => [KV_IMGKEY_DIGEST n]⟩
/-- KV_DATAw.DATA: bytes 8w to 8w + 7. -/
def KV_DATA_DATA (n : Nat) : Fld := ⟨0x0F0100 + n * 0x8, 0, 64, 0, .rw, 1⟩
/-- KV_DATAw, at offset 0x0F_0100 + w × 8 for w from 0 to 127, is the 1 KiB operation window. KV_SLOTs_ATTR, at offset 0x0F_1000 + s × 8, shows slot s's attribute word. -/
def R_KV_DATA : RegForm := ⟨0x0F0100, 128, 0x8, 1, 0x0, fun n _ => [KV_DATA_DATA n]⟩
/-- KV_SLOTs_ATTR.ATTR: attribute word; 0 when empty. -/
def KV_SLOT_ATTR_ATTR (n : Nat) : Fld := ⟨0x0F1000 + n * 0x8, 0, 64, 0, .ro, 7⟩
/-- KV_DATAw, at offset 0x0F_0100 + w × 8 for w from 0 to 127, is the 1 KiB operation window. KV_SLOTs_ATTR, at offset 0x0F_1000 + s × 8, shows slot s's attribute word. -/
def R_KV_SLOT_ATTR : RegForm := ⟨0x0F1000, 128, 0x8, 1, 0x0, fun n _ => [KV_SLOT_ATTR_ATTR n]⟩
/-- TP_CFG.IN_EN: bit n: TAMP_INn enabled. -/
def TP_CFG_IN_EN : Fld := ⟨0x100000, 0, 4, 0, .rwl, 127⟩
/-- TP_CFG.POL: bit 4 + n: 1 tamper when high. -/
def TP_CFG_POL : Fld := ⟨0x100000, 4, 4, 0, .rwl, 127⟩
/-- TP_CFG.DEBOUNCE: ms in Run; 0 means one sample. -/
def TP_CFG_DEBOUNCE : Fld := ⟨0x100000, 8, 8, 0, .rwl, 127⟩
/-- TP_CFG.VMON: voltage monitor enabled. -/
def TP_CFG_VMON : Fld := ⟨0x100000, 16, 1, 0, .rwl, 127⟩
/-- TP_CFG.TMON: temperature monitor enabled. -/
def TP_CFG_TMON : Fld := ⟨0x100000, 17, 1, 0, .rwl, 127⟩
/-- TP_CFG.CMON: clock monitor enabled. -/
def TP_CFG_CMON : Fld := ⟨0x100000, 18, 1, 0, .rwl, 127⟩
/-- TP_CFG.VBAT_LOSS: VBAT loss counts as tamper. -/
def TP_CFG_VBAT_LOSS : Fld := ⟨0x100000, 19, 1, 0, .rwl, 127⟩
/-- TP_CFG, at offset 0x10_0000, holds the tamper policy, programmed into OTP at the lifecycle seal. -/
def R_TP_CFG : RegForm := ⟨0x100000, 1, 0x0, 1, 0x0, fun _ _ => [TP_CFG_IN_EN, TP_CFG_POL, TP_CFG_DEBOUNCE, TP_CFG_VMON, TP_CFG_TMON, TP_CFG_CMON, TP_CFG_VBAT_LOSS]⟩
/-- TP_STAT.LATCH: tamper latched. -/
def TP_STAT_LATCH : Fld := ⟨0x100008, 0, 1, 0, .ro, 63⟩
/-- TP_STAT.HOLD: in tamper hold. -/
def TP_STAT_HOLD : Fld := ⟨0x100008, 1, 1, 0, .ro, 7⟩
/-- TP_STAT.WHEN: 0 Run, 1 start-up, 2 Névé, 3 Firn. -/
def TP_STAT_WHEN : Fld := ⟨0x100008, 2, 2, 0, .ro, 63⟩
/-- TP_STAT.SRC: bits 8 to 11 TAMP_IN0 to 3; 12 voltage; 13 temperature; 14 clock; 15 VBAT. -/
def TP_STAT_SRC : Fld := ⟨0x100008, 8, 8, 0, .ro, 63⟩
/-- TP_STAT and TP_TIME, at offsets 0x10_0008 and 0x10_0010, report the latch. -/
def R_TP_STAT : RegForm := ⟨0x100008, 1, 0x0, 1, 0x0, fun _ _ => [TP_STAT_LATCH, TP_STAT_HOLD, TP_STAT_WHEN, TP_STAT_SRC]⟩
/-- TP_TIME.RTC: RTC count at the first detection, units 1/32,768 s. -/
def TP_TIME_RTC : Fld := ⟨0x100010, 0, 64, 0, .ro, 63⟩
/-- TP_STAT and TP_TIME, at offsets 0x10_0008 and 0x10_0010, report the latch. -/
def R_TP_TIME : RegForm := ⟨0x100010, 1, 0x0, 1, 0x0, fun _ _ => [TP_TIME_RTC]⟩
/-- TP_CLEAR.CODE: must be 0xC1EA. -/
def TP_CLEAR_CODE : Fld := ⟨0x100018, 0, 16, 0x0000, .wo, 0⟩
/-- TP_CLEAR.GO: 1: secure clear. -/
def TP_CLEAR_GO : Fld := ⟨0x100018, 16, 1, 0, .wo, 0⟩
/-- TP_CLEAR, at offset 0x10_0018, performs a secure clear under R298. TP_EVT, at offset 0x10_0020, holds sticky flags set under R300. -/
def R_TP_CLEAR : RegForm := ⟨0x100018, 1, 0x0, 1, 0x0, fun _ _ => [TP_CLEAR_CODE, TP_CLEAR_GO]⟩
/-- TP_EVT.TAMPER: event 0x0910. -/
def TP_EVT_TAMPER : Fld := ⟨0x100020, 0, 1, 0, .w1c, 7⟩
/-- TP_EVT.FIRN: event 0x0911. -/
def TP_EVT_FIRN : Fld := ⟨0x100020, 1, 1, 0, .w1c, 7⟩
/-- TP_EVT.HOLD: event 0x0912. -/
def TP_EVT_HOLD : Fld := ⟨0x100020, 2, 1, 0, .w1c, 7⟩
/-- TP_EVT.CLEAR: event 0x0913. -/
def TP_EVT_CLEAR : Fld := ⟨0x100020, 3, 1, 0, .w1c, 7⟩
/-- TP_CLEAR, at offset 0x10_0018, performs a secure clear under R298. TP_EVT, at offset 0x10_0020, holds sticky flags set under R300. -/
def R_TP_EVT : RegForm := ⟨0x100020, 1, 0x0, 1, 0x0, fun _ _ => [TP_EVT_TAMPER, TP_EVT_FIRN, TP_EVT_HOLD, TP_EVT_CLEAR]⟩
/-- PT_PORTp_CNT_SYNC.N: Sync sent. -/
def PT_PORT_CNT_SYNC_N (n : Nat) : Fld := ⟨0x0D1040 + n * 0x100, 0, 48, 0, .rc, 7⟩
/-- The counters of port p. Each is RC and saturates. -/
def R_PT_PORT_CNT_SYNC : RegForm := ⟨0x0D1040, 6, 0x100, 1, 0x0, fun n _ => [PT_PORT_CNT_SYNC_N n]⟩
/-- PT_PORTp_CNT_DRESP.N: Delay_Resp sent. -/
def PT_PORT_CNT_DRESP_N (n : Nat) : Fld := ⟨0x0D1048 + n * 0x100, 0, 48, 0, .rc, 7⟩
/-- The counters of port p. Each is RC and saturates. -/
def R_PT_PORT_CNT_DRESP : RegForm := ⟨0x0D1048, 6, 0x100, 1, 0x0, fun n _ => [PT_PORT_CNT_DRESP_N n]⟩
/-- PT_PORTp_CNT_ANN.N: Announce sent. -/
def PT_PORT_CNT_ANN_N (n : Nat) : Fld := ⟨0x0D1050 + n * 0x100, 0, 48, 0, .rc, 7⟩
/-- The counters of port p. Each is RC and saturates. -/
def R_PT_PORT_CNT_ANN : RegForm := ⟨0x0D1050, 6, 0x100, 1, 0x0, fun n _ => [PT_PORT_CNT_ANN_N n]⟩
/-- PT_PORTp_CNT_NTP.N: plain NTP responses. -/
def PT_PORT_CNT_NTP_N (n : Nat) : Fld := ⟨0x0D1058 + n * 0x100, 0, 48, 0, .rc, 7⟩
/-- The counters of port p. Each is RC and saturates. -/
def R_PT_PORT_CNT_NTP : RegForm := ⟨0x0D1058, 6, 0x100, 1, 0x0, fun n _ => [PT_PORT_CNT_NTP_N n]⟩
/-- PT_PORTp_CNT_NTS.N: NTS responses. -/
def PT_PORT_CNT_NTS_N (n : Nat) : Fld := ⟨0x0D1060 + n * 0x100, 0, 48, 0, .rc, 7⟩
/-- The counters of port p. Each is RC and saturates. -/
def R_PT_PORT_CNT_NTS : RegForm := ⟨0x0D1060, 6, 0x100, 1, 0x0, fun n _ => [PT_PORT_CNT_NTS_N n]⟩
/-- PT_PORTp_CNT_KOD.N: RATE kiss-o'-death sent. -/
def PT_PORT_CNT_KOD_N (n : Nat) : Fld := ⟨0x0D1068 + n * 0x100, 0, 48, 0, .rc, 7⟩
/-- The counters of port p. Each is RC and saturates. -/
def R_PT_PORT_CNT_KOD : RegForm := ⟨0x0D1068, 6, 0x100, 1, 0x0, fun n _ => [PT_PORT_CNT_KOD_N n]⟩
/-- PT_PORTp_CNT_RATE_DROP.N: rate-limited requests dropped. -/
def PT_PORT_CNT_RATE_DROP_N (n : Nat) : Fld := ⟨0x0D1070 + n * 0x100, 0, 48, 0, .rc, 7⟩
/-- The counters of port p. Each is RC and saturates. -/
def R_PT_PORT_CNT_RATE_DROP : RegForm := ⟨0x0D1070, 6, 0x100, 1, 0x0, fun n _ => [PT_PORT_CNT_RATE_DROP_N n]⟩
/-- PT_PORTp_CNT_AUTH_FAIL.N: authentication failures and key-less drops. -/
def PT_PORT_CNT_AUTH_FAIL_N (n : Nat) : Fld := ⟨0x0D1078 + n * 0x100, 0, 48, 0, .rc, 7⟩
/-- The counters of port p. Each is RC and saturates. -/
def R_PT_PORT_CNT_AUTH_FAIL : RegForm := ⟨0x0D1078, 6, 0x100, 1, 0x0, fun n _ => [PT_PORT_CNT_AUTH_FAIL_N n]⟩
/-- PT_PORTp_CNT_NTSN.N: NTS NAK sent. -/
def PT_PORT_CNT_NTSN_N (n : Nat) : Fld := ⟨0x0D1080 + n * 0x100, 0, 48, 0, .rc, 7⟩
/-- The counters of port p. Each is RC and saturates. -/
def R_PT_PORT_CNT_NTSN : RegForm := ⟨0x0D1080, 6, 0x100, 1, 0x0, fun n _ => [PT_PORT_CNT_NTSN_N n]⟩
/-- PT_PORTp_CNT_GRANT_DENY.N: grants denied. -/
def PT_PORT_CNT_GRANT_DENY_N (n : Nat) : Fld := ⟨0x0D1088 + n * 0x100, 0, 48, 0, .rc, 7⟩
/-- The counters of port p. Each is RC and saturates. -/
def R_PT_PORT_CNT_GRANT_DENY : RegForm := ⟨0x0D1088, 6, 0x100, 1, 0x0, fun n _ => [PT_PORT_CNT_GRANT_DENY_N n]⟩
/-- PT_PORTp_CNT_STAMP_DROP.N: drops under R265. -/
def PT_PORT_CNT_STAMP_DROP_N (n : Nat) : Fld := ⟨0x0D1090 + n * 0x100, 0, 48, 0, .rc, 7⟩
/-- The counters of port p. Each is RC and saturates. -/
def R_PT_PORT_CNT_STAMP_DROP : RegForm := ⟨0x0D1090, 6, 0x100, 1, 0x0, fun n _ => [PT_PORT_CNT_STAMP_DROP_N n]⟩
/-- PT_PORTp_CNT_UNSUPP.N: unsupported messages dropped. -/
def PT_PORT_CNT_UNSUPP_N (n : Nat) : Fld := ⟨0x0D1098 + n * 0x100, 0, 48, 0, .rc, 7⟩
/-- The counters of port p. Each is RC and saturates. -/
def R_PT_PORT_CNT_UNSUPP : RegForm := ⟨0x0D1098, 6, 0x100, 1, 0x0, fun n _ => [PT_PORT_CNT_UNSUPP_N n]⟩
/-- PT_PORTp_CNT_NOUTC.N: NTP dropped while UTC unknown. -/
def PT_PORT_CNT_NOUTC_N (n : Nat) : Fld := ⟨0x0D10A0 + n * 0x100, 0, 48, 0, .rc, 7⟩
/-- The counters of port p. Each is RC and saturates. -/
def R_PT_PORT_CNT_NOUTC : RegForm := ⟨0x0D10A0, 6, 0x100, 1, 0x0, fun n _ => [PT_PORT_CNT_NOUTC_N n]⟩
/-- Registers of these chapters, in the order of the spec, part 1. -/
def formsServing1 : List RegForm := [R_PT_CFG, R_PT_UNAUTH_ALLOWED, R_PT_CLOCK_ID, R_PT_UNI_CFG, R_PT_NTS_CFG, R_PT_NTS_KID, R_PT_BURSIS_CFG, R_PT_LEAP_CFG, R_PT_LEAP_WR, R_PT_EVT, R_PT_SESS, R_PT_LEAP, R_PT_SPP, R_PT_CLASS, R_PT_CLASSMAP_ADDR_HI, R_PT_CLASSMAP_ADDR_LO, R_PT_CLASSMAP_CTL, R_PT_PORT_PTP, R_PT_PORT_SVC, R_PT_PORT_CLIENT, R_PT_PORT_ASYM, R_PT_PORT_UPSTREAM_HI, R_PT_PORT_UPSTREAM_LO, R_PT_PORT_ESMC, R_PT_RX_BASE, R_PT_RX_CFG, R_PT_RX_PTR, R_PT_RX_STAT, R_PT_TX_BASE, R_PT_TX_CFG]
/-- Registers of these chapters, in the order of the spec, part 2. -/
def formsServing2 : List RegForm := [R_PT_TX_PTR, R_PT_TX_STAT, R_KV_STAT, R_KV_PUF, R_KV_LC, R_KV_OP, R_KV_OP_ATTR, R_KV_OP_STAT, R_KV_EVT, R_KV_CNT, R_KV_IMGKEY, R_KV_DATA, R_KV_SLOT_ATTR, R_TP_CFG, R_TP_STAT, R_TP_TIME, R_TP_CLEAR, R_TP_EVT, R_PT_PORT_CNT_SYNC, R_PT_PORT_CNT_DRESP, R_PT_PORT_CNT_ANN, R_PT_PORT_CNT_NTP, R_PT_PORT_CNT_NTS, R_PT_PORT_CNT_KOD, R_PT_PORT_CNT_RATE_DROP, R_PT_PORT_CNT_AUTH_FAIL, R_PT_PORT_CNT_NTSN, R_PT_PORT_CNT_GRANT_DENY, R_PT_PORT_CNT_STAMP_DROP, R_PT_PORT_CNT_UNSUPP]
/-- Registers of these chapters, in the order of the spec, part 3. -/
def formsServing3 : List RegForm := [R_PT_PORT_CNT_NOUTC]

end Sys2Proof.Machine.F
end

