-- ==== Sys2Proof/Machine/FieldsSupport.lean ====
section
/-! DEFINITION. The register fields of the blocks of chapters 15, 16, 17, 18, 19, 20 of spec/, one definition per field, written from the
register tables of those chapters: offset, lowest bit, width, reset value, access code (R5) and kept-through letters (R6). -/
namespace Sys2Proof.Machine.F

/-- GL_STAT.STATE: 0 TRAINING, 1 READY, 2 SELF_REFRESH. -/
def GL_STAT_STATE : Fld := ⟨0x110000, 0, 2, 0, .ro, 0⟩
/-- GL_STAT.STACK_OK: bit 2 + s: stack s trained. -/
def GL_STAT_STACK_OK : Fld := ⟨0x110000, 2, 2, 0, .ro, 0⟩
/-- GL_STAT, at offset 0x11_0000, reports the controllers. -/
def R_GL_STAT : RegForm := ⟨0x110000, 1, 0x0, 1, 0x0, fun _ _ => [GL_STAT_STATE, GL_STAT_STACK_OK]⟩
/-- GL_LOCK_MAX.MAX: table-cell limit, LSB 10 ns, 2 µs; 0 acts as 1. -/
def GL_LOCK_MAX_MAX : Fld := ⟨0x110008, 0, 16, 0x00C8, .rw, 23⟩
/-- GL_LOCK_MAX.REPAIR: repair and spare-test limit, LSB 1 µs, 40 µs; values below 25 act as 25. -/
def GL_LOCK_MAX_REPAIR : Fld := ⟨0x110008, 16, 16, 0x0028, .rw, 23⟩
/-- GL_LOCK_MAX, at offset 0x11_0008, sets the bank-lock hold limit. -/
def R_GL_LOCK_MAX : RegForm := ⟨0x110008, 1, 0x0, 1, 0x0, fun _ _ => [GL_LOCK_MAX_MAX, GL_LOCK_MAX_REPAIR]⟩
/-- GL_SCRUB_RATE.RATE: LSB 1 kB/s; below 100 acts as 100, above 4,000,000 as 4,000,000. -/
def GL_SCRUB_RATE_RATE : Fld := ⟨0x110010, 0, 22, 0x00018E, .rw, 23⟩
/-- GL_SCRUB_RATE.EN: 1: scrubber running. -/
def GL_SCRUB_RATE_EN : Fld := ⟨0x110010, 22, 1, 1, .rw, 23⟩
/-- GL_SCRUB_RATE, at offset 0x11_0010, sets the Glacier scrubber. -/
def R_GL_SCRUB_RATE : RegForm := ⟨0x110010, 1, 0x0, 1, 0x0, fun _ _ => [GL_SCRUB_RATE_RATE, GL_SCRUB_RATE_EN]⟩
/-- GL_CNT_REVOKE.REVOKE: locks revoked, saturating. -/
def GL_CNT_REVOKE_REVOKE : Fld := ⟨0x110018, 0, 32, 0x00000000, .rc, 7⟩
/-- GL_CNT_REVOKE, at offset 0x11_0018, counts revocations. -/
def R_GL_CNT_REVOKE : RegForm := ⟨0x110018, 1, 0x0, 1, 0x0, fun _ _ => [GL_CNT_REVOKE_REVOKE]⟩
/-- EC_GL_CNT.CORR: Glacier bytes corrected. -/
def EC_GL_CNT_CORR : Fld := ⟨0x120000, 0, 32, 0, .rc, 7⟩
/-- EC_GL_CNT.UNCORR: Glacier words poisoned. -/
def EC_GL_CNT_UNCORR : Fld := ⟨0x120000, 32, 32, 0, .rc, 7⟩
/-- R320. The EC registers have the maps below. The counters saturate. -/
def R_EC_GL_CNT : RegForm := ⟨0x120000, 1, 0x0, 1, 0x0, fun _ _ => [EC_GL_CNT_CORR, EC_GL_CNT_UNCORR]⟩
/-- EC_SR_CNT.CORR: SRAM bytes corrected. -/
def EC_SR_CNT_CORR : Fld := ⟨0x120008, 0, 32, 0, .rc, 7⟩
/-- EC_SR_CNT.UNCORR: SRAM uncorrectable bytes. -/
def EC_SR_CNT_UNCORR : Fld := ⟨0x120008, 32, 32, 0, .rc, 7⟩
/-- R320. The EC registers have the maps below. The counters saturate. -/
def R_EC_SR_CNT : RegForm := ⟨0x120008, 1, 0x0, 1, 0x0, fun _ _ => [EC_SR_CNT_CORR, EC_SR_CNT_UNCORR]⟩
/-- EC_GL_ERRADDR.ADDR: A of the last poisoned word; [63:33] reserved. -/
def EC_GL_ERRADDR_ADDR : Fld := ⟨0x120010, 0, 33, 0, .ro, 7⟩
/-- R320. The EC registers have the maps below. The counters saturate. -/
def R_EC_GL_ERRADDR : RegForm := ⟨0x120010, 1, 0x0, 1, 0x0, fun _ _ => [EC_GL_ERRADDR_ADDR]⟩
/-- EC_SCRUB_STAT.POS: next address of the pass. -/
def EC_SCRUB_STAT_POS : Fld := ⟨0x120018, 0, 33, 0, .ro, 23⟩
/-- EC_SCRUB_STAT.MISS: passes that missed their deadline. -/
def EC_SCRUB_STAT_MISS : Fld := ⟨0x120018, 40, 8, 0, .rc, 7⟩
/-- EC_SCRUB_STAT.PASSES: passes completed, wrapping. -/
def EC_SCRUB_STAT_PASSES : Fld := ⟨0x120018, 48, 16, 0, .ro, 7⟩
/-- R320. The EC registers have the maps below. The counters saturate. -/
def R_EC_SCRUB_STAT : RegForm := ⟨0x120018, 1, 0x0, 1, 0x0, fun _ _ => [EC_SCRUB_STAT_POS, EC_SCRUB_STAT_MISS, EC_SCRUB_STAT_PASSES]⟩
/-- EC_REPAIR_CFG.AUTO: 1: automatic repair. -/
def EC_REPAIR_CFG_AUTO : Fld := ⟨0x120020, 0, 1, 1, .rw, 23⟩
/-- EC_REPAIR_CFG.THRESH: corrected errors allowed per row in 24 h; 0 acts as 1. -/
def EC_REPAIR_CFG_THRESH : Fld := ⟨0x120020, 4, 4, 3, .rw, 23⟩
/-- EC_REPAIR_CFG, at offset 0x12_0020, controls repair under R313. -/
def R_EC_REPAIR_CFG : RegForm := ⟨0x120020, 1, 0x0, 1, 0x0, fun _ _ => [EC_REPAIR_CFG_AUTO, EC_REPAIR_CFG_THRESH]⟩
/-- EC_REPAIR_STAT.SOFT: soft entries in use, from 0 to 256. -/
def EC_REPAIR_STAT_SOFT : Fld := ⟨0x120028, 0, 9, 0x000, .ro, 23⟩
/-- EC_REPAIR_STAT.FUSE: fuse-bank entries used, from 0 to 1,024. -/
def EC_REPAIR_STAT_FUSE : Fld := ⟨0x120028, 16, 11, 0, .ro, 127⟩
/-- EC_REPAIR_STAT.MIN_FREE: fewest free spares in any bank. -/
def EC_REPAIR_STAT_MIN_FREE : Fld := ⟨0x120028, 32, 6, 0, .ro, 23⟩
/-- EC_REPAIR_STAT.RUN: fuse programming in progress. -/
def EC_REPAIR_STAT_RUN : Fld := ⟨0x120028, 40, 1, 0, .ro, 0⟩
/-- EC_REPAIR_STAT, at offset 0x12_0028, reports the repair resources. -/
def R_EC_REPAIR_STAT : RegForm := ⟨0x120028, 1, 0x0, 1, 0x0, fun _ _ => [EC_REPAIR_STAT_SOFT, EC_REPAIR_STAT_FUSE, EC_REPAIR_STAT_MIN_FREE, EC_REPAIR_STAT_RUN]⟩
/-- EC_FUSE_REQ.CONFIRM: must be 0x5A. -/
def EC_FUSE_REQ_CONFIRM : Fld := ⟨0x120030, 0, 8, 0, .wo, 0⟩
/-- EC_FUSE_REQ.GO: 1: burn the soft table. -/
def EC_FUSE_REQ_GO : Fld := ⟨0x120030, 8, 1, 0, .wo, 0⟩
/-- EC_FUSE_REQ, at offset 0x12_0030, starts fuse programming under R315. -/
def R_EC_FUSE_REQ : RegForm := ⟨0x120030, 1, 0x0, 1, 0x0, fun _ _ => [EC_FUSE_REQ_CONFIRM, EC_FUSE_REQ_GO]⟩
/-- EC_EVT.POISON: event 0x0802. -/
def EC_EVT_POISON : Fld := ⟨0x120038, 0, 1, 0, .w1c, 7⟩
/-- EC_EVT.REPAIR: event 0x0803. -/
def EC_EVT_REPAIR : Fld := ⟨0x120038, 1, 1, 0, .w1c, 7⟩
/-- EC_EVT.SCRUB_MISS: event 0x0804. -/
def EC_EVT_SCRUB_MISS : Fld := ⟨0x120038, 2, 1, 0, .w1c, 7⟩
/-- EC_EVT.NO_SPARE: event 0x0806. -/
def EC_EVT_NO_SPARE : Fld := ⟨0x120038, 3, 1, 0, .w1c, 7⟩
/-- EC_EVT.FUSE_DONE: event 0x0807. -/
def EC_EVT_FUSE_DONE : Fld := ⟨0x120038, 4, 1, 0, .w1c, 7⟩
/-- EC_EVT.FUSE_FAIL: event 0x0808. -/
def EC_EVT_FUSE_FAIL : Fld := ⟨0x120038, 5, 1, 0, .w1c, 7⟩
/-- EC_EVT.REVOKE: event 0x0809. -/
def EC_EVT_REVOKE : Fld := ⟨0x120038, 6, 1, 0, .w1c, 7⟩
/-- EC_EVT.SR_UNCORR: event 0x080B. -/
def EC_EVT_SR_UNCORR : Fld := ⟨0x120038, 7, 1, 0, .w1c, 7⟩
/-- EC_EVT.SOFT_LOST: event 0x080C. -/
def EC_EVT_SOFT_LOST : Fld := ⟨0x120038, 8, 1, 0, .w1c, 7⟩
/-- EC_EVT, at offset 0x12_0038, holds sticky flags. Each is set together with its event. -/
def R_EC_EVT : RegForm := ⟨0x120038, 1, 0x0, 1, 0x0, fun _ _ => [EC_EVT_POISON, EC_EVT_REPAIR, EC_EVT_SCRUB_MISS, EC_EVT_NO_SPARE, EC_EVT_FUSE_DONE, EC_EVT_FUSE_FAIL, EC_EVT_REVOKE, EC_EVT_SR_UNCORR, EC_EVT_SOFT_LOST]⟩
/-- EC_SOFTj.ENTRY: entry in the layout of R314. -/
def EC_SOFT_ENTRY (n : Nat) : Fld := ⟨0x121000 + n * 0x8, 0, 32, 0x00000000, .ro, 23⟩
/-- EC_SOFTj, at offset 0x12_1000 + j × 8 for j from 0 to 255, shows soft-table entry j. -/
def R_EC_SOFT : RegForm := ⟨0x121000, 256, 0x8, 1, 0x0, fun n _ => [EC_SOFT_ENTRY n]⟩
/-- RD_CFG.ORPHAN_AUTO: 1: leave orphan hold automatically under R328. -/
def RD_CFG_ORPHAN_AUTO : Fld := ⟨0x130000, 0, 1, 1, .rw, 23⟩
/-- RD_CFG.DEGRADE: 1: item failures assert DEGRADE_N. -/
def RD_CFG_DEGRADE : Fld := ⟨0x130000, 1, 1, 1, .rw, 23⟩
/-- RD_CFG.MBOX_HOLD: mailbox hold limit, LSB 1 ms; 0 acts as 1. -/
def RD_CFG_MBOX_HOLD : Fld := ⟨0x130000, 32, 16, 0x0064, .rw, 23⟩
/-- RD_CFG, at offset 0x13_0000, configures redundancy. -/
def R_RD_CFG : RegForm := ⟨0x130000, 1, 0x0, 1, 0x0, fun _ _ => [RD_CFG_ORPHAN_AUTO, RD_CFG_DEGRADE, RD_CFG_MBOX_HOLD]⟩
/-- RD_SWITCH.CONFIRM: must be 0x3C. -/
def RD_SWITCH_CONFIRM : Fld := ⟨0x130008, 0, 8, 0, .wo, 0⟩
/-- RD_SWITCH.GO: 1: switch over, or end orphan hold, under R322. -/
def RD_SWITCH_GO : Fld := ⟨0x130008, 8, 1, 0, .wo, 0⟩
/-- RD_SWITCH, at offset 0x13_0008, commands a switchover under R322. -/
def R_RD_SWITCH : RegForm := ⟨0x130008, 1, 0x0, 1, 0x0, fun _ _ => [RD_SWITCH_CONFIRM, RD_SWITCH_GO]⟩
/-- RD_STAT.ACTIVE_CORE: 0 TKA, 1 TKB. -/
def RD_STAT_ACTIVE_CORE : Fld := ⟨0x130010, 0, 1, 0, .ro, 6⟩
/-- RD_STAT.SB_AVAIL: under R326. -/
def RD_STAT_SB_AVAIL : Fld := ⟨0x130010, 1, 1, 1, .ro, 63⟩
/-- RD_STAT.SW: switchover in progress. -/
def RD_STAT_SW : Fld := ⟨0x130010, 2, 1, 0, .ro, 6⟩
/-- RD_STAT.ORPHAN: orphan hold. -/
def RD_STAT_ORPHAN : Fld := ⟨0x130010, 3, 1, 0, .ro, 6⟩
/-- RD_STAT.RIME_BAD_A: TKA failed its last comparison. -/
def RD_STAT_RIME_BAD_A : Fld := ⟨0x130010, 4, 1, 0, .ro, 63⟩
/-- RD_STAT.RIME_BAD_B: TKB failed its last comparison. -/
def RD_STAT_RIME_BAD_B : Fld := ⟨0x130010, 5, 1, 0, .ro, 63⟩
/-- RD_STAT.LAST_CAUSE: cause of the last trigger. -/
def RD_STAT_LAST_CAUSE : Fld := ⟨0x130010, 8, 4, 0, .ro, 6⟩
/-- RD_STAT.LAST_GAP: last gap, µs. -/
def RD_STAT_LAST_GAP : Fld := ⟨0x130010, 16, 16, 0x0000, .ro, 6⟩
/-- RD_STAT.SW_COUNT: switchovers completed with a resume at step 5 of R323 since start, including resumes that end orphan hold; triggers that end in orphan hold are not counted; saturating. -/
def RD_STAT_SW_COUNT : Fld := ⟨0x130010, 48, 16, 0x0000, .ro, 6⟩
/-- RD_STAT, at offset 0x13_0010, reports redundancy. -/
def R_RD_STAT : RegForm := ⟨0x130010, 1, 0x0, 1, 0x0, fun _ _ => [RD_STAT_ACTIVE_CORE, RD_STAT_SB_AVAIL, RD_STAT_SW, RD_STAT_ORPHAN, RD_STAT_RIME_BAD_A, RD_STAT_RIME_BAD_B, RD_STAT_LAST_CAUSE, RD_STAT_LAST_GAP, RD_STAT_SW_COUNT]⟩
/-- RD_EVT.TRIG: R343 event. -/
def RD_EVT_TRIG : Fld := ⟨0x130018, 0, 1, 0, .w1c, 7⟩
/-- RD_EVT.DONE: R343 event. -/
def RD_EVT_DONE : Fld := ⟨0x130018, 1, 1, 0, .w1c, 7⟩
/-- RD_EVT.ORPHAN: R343 event. -/
def RD_EVT_ORPHAN : Fld := ⟨0x130018, 2, 1, 0, .w1c, 7⟩
/-- RD_EVT.ORPHAN_END: R343 event. -/
def RD_EVT_ORPHAN_END : Fld := ⟨0x130018, 3, 1, 0, .w1c, 7⟩
/-- RD_EVT.SELFTEST_OK: R343 event. -/
def RD_EVT_SELFTEST_OK : Fld := ⟨0x130018, 4, 1, 0, .w1c, 7⟩
/-- RD_EVT.SELFTEST_FAIL: R343 event. -/
def RD_EVT_SELFTEST_FAIL : Fld := ⟨0x130018, 5, 1, 0, .w1c, 7⟩
/-- RD_EVT.SW_REJ: R343 event. -/
def RD_EVT_SW_REJ : Fld := ⟨0x130018, 6, 1, 0, .w1c, 7⟩
/-- RD_EVT.MBOX_REVOKE: R343 event. -/
def RD_EVT_MBOX_REVOKE : Fld := ⟨0x130018, 7, 1, 0, .w1c, 7⟩
/-- RD_EVT.RIME_START: R343 event. -/
def RD_EVT_RIME_START : Fld := ⟨0x130018, 8, 1, 0, .w1c, 7⟩
/-- RD_EVT.RIME_PASS: R343 event. -/
def RD_EVT_RIME_PASS : Fld := ⟨0x130018, 9, 1, 0, .w1c, 7⟩
/-- RD_EVT.RIME_FAIL: R343 event. -/
def RD_EVT_RIME_FAIL : Fld := ⟨0x130018, 10, 1, 0, .w1c, 7⟩
/-- RD_EVT.RIME_DEFER: R343 event. -/
def RD_EVT_RIME_DEFER : Fld := ⟨0x130018, 11, 1, 0, .w1c, 7⟩
/-- RD_EVT.LINK_UP: R343 event. -/
def RD_EVT_LINK_UP : Fld := ⟨0x130018, 12, 1, 0, .w1c, 7⟩
/-- RD_EVT.LINK_DOWN: R343 event. -/
def RD_EVT_LINK_DOWN : Fld := ⟨0x130018, 13, 1, 0, .w1c, 7⟩
/-- RD_EVT.ROLE: R343 event. -/
def RD_EVT_ROLE : Fld := ⟨0x130018, 14, 1, 0, .w1c, 7⟩
/-- RD_EVT.AUTH: R343 event. -/
def RD_EVT_AUTH : Fld := ⟨0x130018, 15, 1, 0, .w1c, 7⟩
/-- RD_EVT.WAKE: R343 event. -/
def RD_EVT_WAKE : Fld := ⟨0x130018, 16, 1, 0, .w1c, 7⟩
/-- RD_EVT, at offset 0x13_0018, holds sticky flags set under R343. -/
def R_RD_EVT : RegForm := ⟨0x130018, 1, 0x0, 1, 0x0, fun _ _ => [RD_EVT_TRIG, RD_EVT_DONE, RD_EVT_ORPHAN, RD_EVT_ORPHAN_END, RD_EVT_SELFTEST_OK, RD_EVT_SELFTEST_FAIL, RD_EVT_SW_REJ, RD_EVT_MBOX_REVOKE, RD_EVT_RIME_START, RD_EVT_RIME_PASS, RD_EVT_RIME_FAIL, RD_EVT_RIME_DEFER, RD_EVT_LINK_UP, RD_EVT_LINK_DOWN, RD_EVT_ROLE, RD_EVT_AUTH, RD_EVT_WAKE]⟩
/-- RD_RIME_CFG.EN: 1: daily pass. -/
def RD_RIME_CFG_EN : Fld := ⟨0x130020, 0, 1, 1, .rw, 23⟩
/-- RD_RIME_CFG.START: seconds after midnight; above 86,399 acts as 86,399. -/
def RD_RIME_CFG_START : Fld := ⟨0x130020, 1, 17, 0x02E2C, .rw, 23⟩
/-- RD_RIME_CFG.SHADOW: shadow run, s; below 10 acts as 10. -/
def RD_RIME_CFG_SHADOW : Fld := ⟨0x130020, 18, 8, 60, .rw, 23⟩
/-- RD_RIME_CFG.LANE_CAL: 1: calibrate CH12 to CH17 while linked. -/
def RD_RIME_CFG_LANE_CAL : Fld := ⟨0x130020, 26, 1, 0, .rw, 23⟩
/-- RD_RIME_CFG.MATE: 1: prove the mate. -/
def RD_RIME_CFG_MATE : Fld := ⟨0x130020, 27, 1, 1, .rw, 23⟩
/-- RD_RIME_CFG, at offset 0x13_0020, schedules the pass. -/
def R_RD_RIME_CFG : RegForm := ⟨0x130020, 1, 0x0, 1, 0x0, fun _ _ => [RD_RIME_CFG_EN, RD_RIME_CFG_START, RD_RIME_CFG_SHADOW, RD_RIME_CFG_LANE_CAL, RD_RIME_CFG_MATE]⟩
/-- RD_RIME_TOL.TOL_Y: LSB 0.01 ppt; 10 ppt. -/
def RD_RIME_TOL_TOL_Y : Fld := ⟨0x130028, 0, 16, 0x03E8, .rw, 23⟩
/-- RD_RIME_TOL.TOL_DD: LSB 0.001 ppt/s; 0.1 ppt/s. -/
def RD_RIME_TOL_TOL_DD : Fld := ⟨0x130028, 16, 16, 0x0064, .rw, 23⟩
/-- RD_RIME_TOL.TOL_LINK: ps. -/
def RD_RIME_TOL_TOL_LINK : Fld := ⟨0x130028, 32, 32, 0x000003E8, .rw, 23⟩
/-- RD_RIME_TOL, at offset 0x13_0028, sets the tolerances. -/
def R_RD_RIME_TOL : RegForm := ⟨0x130028, 1, 0x0, 1, 0x0, fun _ _ => [RD_RIME_TOL_TOL_Y, RD_RIME_TOL_TOL_DD, RD_RIME_TOL_TOL_LINK]⟩
/-- RD_RIME_REQ.GO: 1: start a pass. -/
def RD_RIME_REQ_GO : Fld := ⟨0x130030, 0, 1, 0, .wo, 0⟩
/-- RD_RIME_REQ, at offset 0x13_0030, starts a pass. A write while a pass runs is ignored. -/
def R_RD_RIME_REQ : RegForm := ⟨0x130030, 1, 0x0, 1, 0x0, fun _ _ => [RD_RIME_REQ_GO]⟩
/-- RD_RIME_STAT.STATE: 0 idle, 1 running, 2 proving the mate. -/
def RD_RIME_STAT_STATE : Fld := ⟨0x130038, 0, 2, 0, .ro, 0⟩
/-- RD_RIME_STAT.RESULT: failed items: bit 8 core, 9 TAC, 10 spares, 11 crypto, 12 GNSS, 13 bands, 14 mate. -/
def RD_RIME_STAT_RESULT : Fld := ⟨0x130038, 8, 8, 0, .ro, 63⟩
/-- RD_RIME_STAT.SEC: SEC at the end of the last pass. -/
def RD_RIME_STAT_SEC : Fld := ⟨0x130038, 16, 48, 0, .ro, 63⟩
/-- RD_RIME_STAT, at offset 0x13_0038, reports the last pass. -/
def R_RD_RIME_STAT : RegForm := ⟨0x130038, 1, 0x0, 1, 0x0, fun _ _ => [RD_RIME_STAT_STATE, RD_RIME_STAT_RESULT, RD_RIME_STAT_SEC]⟩
/-- RD_MATE_CFG.EN: 1: Clekosal link enabled. -/
def RD_MATE_CFG_EN : Fld := ⟨0x130040, 0, 1, 0, .rw, 23⟩
/-- RD_MATE_CFG.PREF: 1: take the role at start under R333. -/
def RD_MATE_CFG_PREF : Fld := ⟨0x130040, 1, 1, 0, .rw, 23⟩
/-- RD_MATE_CFG.GATE: 1: client lanes idle while STANDBY. -/
def RD_MATE_CFG_GATE : Fld := ⟨0x130040, 2, 1, 1, .rw, 23⟩
/-- RD_MATE_CFG.NEVE_STBY: 1: standby enters Névé under R335. -/
def RD_MATE_CFG_NEVE_STBY : Fld := ⟨0x130040, 3, 1, 0, .rw, 23⟩
/-- RD_MATE_CFG.HANDOVER: 1: hand over from orphan hold under R334. -/
def RD_MATE_CFG_HANDOVER : Fld := ⟨0x130040, 4, 1, 1, .rw, 23⟩
/-- RD_MATE_CFG.LEASE: LSB 10 ms; below 25 acts as 25. -/
def RD_MATE_CFG_LEASE : Fld := ⟨0x130040, 8, 8, 50, .rw, 23⟩
/-- RD_MATE_CFG.SLOT: key slot for the ICV. -/
def RD_MATE_CFG_SLOT : Fld := ⟨0x130040, 16, 7, 0, .rw, 23⟩
/-- RD_MATE_CFG, at offset 0x13_0040, configures the mate link. -/
def R_RD_MATE_CFG : RegForm := ⟨0x130040, 1, 0x0, 1, 0x0, fun _ _ => [RD_MATE_CFG_EN, RD_MATE_CFG_PREF, RD_MATE_CFG_GATE, RD_MATE_CFG_NEVE_STBY, RD_MATE_CFG_HANDOVER, RD_MATE_CFG_LEASE, RD_MATE_CFG_SLOT]⟩
/-- RD_MATE_ADDR.ADDR: mate's MAC address, first byte in [7:0]. -/
def RD_MATE_ADDR_ADDR : Fld := ⟨0x130048, 0, 48, 0, .rw, 23⟩
/-- The remaining RD registers follow. -/
def R_RD_MATE_ADDR : RegForm := ⟨0x130048, 1, 0x0, 1, 0x0, fun _ _ => [RD_MATE_ADDR_ADDR]⟩
/-- RD_MATE_ASYM.ASYM: signed ps; [63:32] reserved. -/
def RD_MATE_ASYM_ASYM : Fld := ⟨0x130050, 0, 32, 0, .rw, 23⟩
/-- The remaining RD registers follow. -/
def R_RD_MATE_ASYM : RegForm := ⟨0x130050, 1, 0x0, 1, 0x0, fun _ _ => [RD_MATE_ASYM_ASYM]⟩
/-- RD_MATE_STAT.LINK: Clekosal link up. -/
def RD_MATE_STAT_LINK : Fld := ⟨0x130058, 0, 1, 0, .ro, 0⟩
/-- RD_MATE_STAT.ROLE: 0 none, 1 ACTIVE, 2 STANDBY. -/
def RD_MATE_STAT_ROLE : Fld := ⟨0x130058, 1, 2, 0, .ro, 0⟩
/-- RD_MATE_STAT.MATE_AVAIL: mate proved. -/
def RD_MATE_STAT_MATE_AVAIL : Fld := ⟨0x130058, 3, 1, 1, .ro, 63⟩
/-- RD_MATE_STAT.MATE_NEVE: mate in Névé. -/
def RD_MATE_STAT_MATE_NEVE : Fld := ⟨0x130058, 4, 1, 0, .ro, 0⟩
/-- The remaining RD registers follow. -/
def R_RD_MATE_STAT : RegForm := ⟨0x130058, 1, 0x0, 1, 0x0, fun _ _ => [RD_MATE_STAT_LINK, RD_MATE_STAT_ROLE, RD_MATE_STAT_MATE_AVAIL, RD_MATE_STAT_MATE_NEVE]⟩
/-- RD_MATE_OFS.OFS: mate offset, phase word. -/
def RD_MATE_OFS_OFS : Fld := ⟨0x130060, 0, 64, 0, .ro, 6⟩
/-- The remaining RD registers follow. -/
def R_RD_MATE_OFS : RegForm := ⟨0x130060, 1, 0x0, 1, 0x0, fun _ _ => [RD_MATE_OFS_OFS]⟩
/-- RD_MATE_BOUND.BOUND: mate's published bound; [63:48] reserved. -/
def RD_MATE_BOUND_BOUND : Fld := ⟨0x130068, 0, 48, 0xFFFFFFFFFFFF, .ro, 6⟩
/-- The remaining RD registers follow. -/
def R_RD_MATE_BOUND : RegForm := ⟨0x130068, 1, 0x0, 1, 0x0, fun _ _ => [RD_MATE_BOUND_BOUND]⟩
/-- RD_CNT.AUTH_FAIL: Clekosal frames failing the ICV, saturating. -/
def RD_CNT_AUTH_FAIL : Fld := ⟨0x130070, 0, 32, 0, .rc, 7⟩
/-- RD_CNT.MBOX_REVOKE: mailboxes revoked, saturating. -/
def RD_CNT_MBOX_REVOKE : Fld := ⟨0x130070, 32, 32, 0, .rc, 7⟩
/-- The remaining RD registers follow. -/
def R_RD_CNT : RegForm := ⟨0x130070, 1, 0x0, 1, 0x0, fun _ _ => [RD_CNT_AUTH_FAIL, RD_CNT_MBOX_REVOKE]⟩
/-- PM_CFG.DIP_DEGRADE: 1: DEGRADE_N asserted during a dip episode. -/
def PM_CFG_DIP_DEGRADE : Fld := ⟨0x010000, 0, 1, 1, .rw, 23⟩
/-- PM_CFG, at offset 0x01_0000, configures the monitors. -/
def R_PM_CFG : RegForm := ⟨0x010000, 1, 0x0, 1, 0x0, fun _ _ => [PM_CFG_DIP_DEGRADE]⟩
/-- PM_STAT.RAIL_OK: bit r: rail r above its warning level. -/
def PM_STAT_RAIL_OK : Fld := ⟨0x010008, 0, 12, 0x000, .ro, 0⟩
/-- PM_STAT.DIP: dip episode in progress. -/
def PM_STAT_DIP : Fld := ⟨0x010008, 12, 1, 0, .ro, 0⟩
/-- PM_STAT.VBAT_LOW: last VBAT reading below 2.2 V. -/
def PM_STAT_VBAT_LOW : Fld := ⟨0x010008, 13, 1, 0, .ro, 0⟩
/-- PM_STAT.ON_VBAT: Firn domain fed from VBAT. -/
def PM_STAT_ON_VBAT : Fld := ⟨0x010008, 14, 1, 0, .ro, 0⟩
/-- PM_STAT.STATE: 0 Run, 1 entering Névé, 2 leaving Névé. -/
def PM_STAT_STATE : Fld := ⟨0x010008, 16, 2, 0, .ro, 0⟩
/-- PM_STAT, at offset 0x01_0008, reports the rails. -/
def R_PM_STAT : RegForm := ⟨0x010008, 1, 0x0, 1, 0x0, fun _ _ => [PM_STAT_RAIL_OK, PM_STAT_DIP, PM_STAT_VBAT_LOW, PM_STAT_ON_VBAT, PM_STAT_STATE]⟩
/-- PM_DIP_STAT.COUNT: episodes, saturating. -/
def PM_DIP_STAT_COUNT : Fld := ⟨0x010010, 0, 16, 0x0000, .rc, 7⟩
/-- PM_DIP_STAT.LAST: duration of the last episode, µs, saturating. -/
def PM_DIP_STAT_LAST : Fld := ⟨0x010010, 16, 24, 0x000000, .ro, 7⟩
/-- PM_DIP_STAT.RAILS: bit 40 + r: rail r dipped in the last episode. -/
def PM_DIP_STAT_RAILS : Fld := ⟨0x010010, 40, 12, 0x000, .ro, 7⟩
/-- PM_DIP_STAT, at offset 0x01_0010, reports episodes. PM_DIP_MAX, at offset 0x01_0018, holds the longest episode since it was last read. -/
def R_PM_DIP_STAT : RegForm := ⟨0x010010, 1, 0x0, 1, 0x0, fun _ _ => [PM_DIP_STAT_COUNT, PM_DIP_STAT_LAST, PM_DIP_STAT_RAILS]⟩
/-- PM_DIP_MAX.MAX: µs, saturating. -/
def PM_DIP_MAX_MAX : Fld := ⟨0x010018, 0, 32, 0x00000000, .rc, 7⟩
/-- PM_DIP_STAT, at offset 0x01_0010, reports episodes. PM_DIP_MAX, at offset 0x01_0018, holds the longest episode since it was last read. -/
def R_PM_DIP_MAX : RegForm := ⟨0x010018, 1, 0x0, 1, 0x0, fun _ _ => [PM_DIP_MAX_MAX]⟩
/-- PM_EVT.DIP: R362 event. -/
def PM_EVT_DIP : Fld := ⟨0x010020, 0, 1, 0, .w1c, 7⟩
/-- PM_EVT.DIP_END: R362 event. -/
def PM_EVT_DIP_END : Fld := ⟨0x010020, 1, 1, 0, .w1c, 7⟩
/-- PM_EVT.VBAT_LOW: R362 event. -/
def PM_EVT_VBAT_LOW : Fld := ⟨0x010020, 2, 1, 0, .w1c, 7⟩
/-- PM_EVT.BAT_LOST: R362 event. -/
def PM_EVT_BAT_LOST : Fld := ⟨0x010020, 3, 1, 0, .w1c, 7⟩
/-- PM_EVT.STARTED: R362 event. -/
def PM_EVT_STARTED : Fld := ⟨0x010020, 4, 1, 0, .w1c, 7⟩
/-- PM_EVT.NEVE: R362 event. -/
def PM_EVT_NEVE : Fld := ⟨0x010020, 5, 1, 0, .w1c, 7⟩
/-- PM_EVT.NEVE_EXIT: R362 event. -/
def PM_EVT_NEVE_EXIT : Fld := ⟨0x010020, 6, 1, 0, .w1c, 7⟩
/-- PM_EVT.NEVE_REJ: R362 event. -/
def PM_EVT_NEVE_REJ : Fld := ⟨0x010020, 7, 1, 0, .w1c, 7⟩
/-- PM_EVT.CHIPRST: R362 event. -/
def PM_EVT_CHIPRST : Fld := ⟨0x010020, 8, 1, 0, .w1c, 7⟩
/-- PM_EVT.URESET: R362 event. -/
def PM_EVT_URESET : Fld := ⟨0x010020, 9, 1, 0, .w1c, 7⟩
/-- PM_EVT, at offset 0x01_0020, holds sticky flags set under R362. -/
def R_PM_EVT : RegForm := ⟨0x010020, 1, 0x0, 1, 0x0, fun _ _ => [PM_EVT_DIP, PM_EVT_DIP_END, PM_EVT_VBAT_LOW, PM_EVT_BAT_LOST, PM_EVT_STARTED, PM_EVT_NEVE, PM_EVT_NEVE_EXIT, PM_EVT_NEVE_REJ, PM_EVT_CHIPRST, PM_EVT_URESET]⟩
/-- PM_VBAT.MV: last VBAT reading, mV. -/
def PM_VBAT_MV : Fld := ⟨0x010028, 0, 12, 0, .ro, 7⟩
/-- The remaining PM registers follow. -/
def R_PM_VBAT : RegForm := ⟨0x010028, 1, 0x0, 1, 0x0, fun _ _ => [PM_VBAT_MV]⟩
/-- PM_RTC.RTC: RTC count, units 1/32,768 s. -/
def PM_RTC_RTC : Fld := ⟨0x010030, 0, 48, 0, .ro, 63⟩
/-- The remaining PM registers follow. -/
def R_PM_RTC : RegForm := ⟨0x010030, 1, 0x0, 1, 0x0, fun _ _ => [PM_RTC_RTC]⟩
/-- PM_NEVE_CFG.WAKE_SVC: SVC_CS_N wakes. -/
def PM_NEVE_CFG_WAKE_SVC : Fld := ⟨0x010038, 0, 1, 1, .rw, 23⟩
/-- PM_NEVE_CFG.WAKE_RTC: RTC wakes after WAKE_SEC. -/
def PM_NEVE_CFG_WAKE_RTC : Fld := ⟨0x010038, 1, 1, 0, .rw, 23⟩
/-- PM_NEVE_CFG.WAKE_GPIO: image-assigned GPIO wakes. -/
def PM_NEVE_CFG_WAKE_GPIO : Fld := ⟨0x010038, 2, 1, 0, .rw, 23⟩
/-- PM_NEVE_CFG.WAKE_SEC: seconds from Névé entry; 0 acts as 1. -/
def PM_NEVE_CFG_WAKE_SEC : Fld := ⟨0x010038, 16, 32, 0, .rw, 23⟩
/-- The remaining PM registers follow. -/
def R_PM_NEVE_CFG : RegForm := ⟨0x010038, 1, 0x0, 1, 0x0, fun _ _ => [PM_NEVE_CFG_WAKE_SVC, PM_NEVE_CFG_WAKE_RTC, PM_NEVE_CFG_WAKE_GPIO, PM_NEVE_CFG_WAKE_SEC]⟩
/-- SY_URESET.UNIT: unit to reset. -/
def SY_URESET_UNIT : Fld := ⟨0x000100, 0, 6, 0, .wo, 0⟩
/-- SY_URESET.GO: 1: reset UNIT, subject to its interlocks. -/
def SY_URESET_GO : Fld := ⟨0x000100, 8, 1, 0, .wo, 0⟩
/-- SY_URESET, at offset 0x00_0100, requests a unit reset. The units are 0x01 TKA, 0x02 TKB, 0x03 time synthesizer, 0x04 IE, 0x05 RS, 0x06 MB, 0x07 GN, 0x08 OS, 0x09 CX, 0x0A PT, 0x0B JL, 0x0C PC, 0x0D supervisor core 0 and 0x0E supervisor core 1. Other values are ignored. -/
def R_SY_URESET : RegForm := ⟨0x000100, 1, 0x0, 1, 0x0, fun _ _ => [SY_URESET_UNIT, SY_URESET_GO]⟩
/-- SY_CHIPRST.CONFIRM: must be 0x5AC3; other values drop the write. -/
def SY_CHIPRST_CONFIRM : Fld := ⟨0x000108, 0, 16, 0x0000, .wo, 0⟩
/-- SY_CHIPRST.GO: 1: chip reset with cause 2. -/
def SY_CHIPRST_GO : Fld := ⟨0x000108, 16, 1, 0, .wo, 0⟩
/-- SY_CHIPRST, at offset 0x00_0108, and SY_NEVE, at offset 0x00_0110, request a chip reset and Névé entry. -/
def R_SY_CHIPRST : RegForm := ⟨0x000108, 1, 0x0, 1, 0x0, fun _ _ => [SY_CHIPRST_CONFIRM, SY_CHIPRST_GO]⟩
/-- SY_NEVE.CONFIRM: must be 0x4E. -/
def SY_NEVE_CONFIRM : Fld := ⟨0x000110, 0, 8, 0, .wo, 0⟩
/-- SY_NEVE.GO: 1: enter Névé under R353. -/
def SY_NEVE_GO : Fld := ⟨0x000110, 8, 1, 0, .wo, 0⟩
/-- SY_CHIPRST, at offset 0x00_0108, and SY_NEVE, at offset 0x00_0110, request a chip reset and Névé entry. -/
def R_SY_NEVE : RegForm := ⟨0x000110, 1, 0x0, 1, 0x0, fun _ _ => [SY_NEVE_CONFIRM, SY_NEVE_GO]⟩
/-- SY_RST_CAUSE.CAUSE: 0 main power-up, 1 RESET_N, 2 SY_CHIPRST, 3 watchdog, 4 brown-out, 5 failed Névé exit, 6 Névé exit. -/
def SY_RST_CAUSE_CAUSE : Fld := ⟨0x000118, 0, 4, 0, .ro, 7⟩
/-- SY_RST_CAUSE.WAKE: Névé exit cause: 1 wake pattern, 2 SVC_SPI, 3 RTC, 4 GPIO, 5 tamper. -/
def SY_RST_CAUSE_WAKE : Fld := ⟨0x000118, 8, 4, 0, .ro, 7⟩
/-- SY_RST_CAUSE.BAT_LOST: battery domain found reset under R355. -/
def SY_RST_CAUSE_BAT_LOST : Fld := ⟨0x000118, 12, 1, 0, .ro, 7⟩
/-- SY_RST_CAUSE.RAIL: rail of a brown-out. -/
def SY_RST_CAUSE_RAIL : Fld := ⟨0x000118, 16, 4, 0, .ro, 7⟩
/-- SY_RST_CAUSE, at offset 0x00_0118, is written at each start. -/
def R_SY_RST_CAUSE : RegForm := ⟨0x000118, 1, 0x0, 1, 0x0, fun _ _ => [SY_RST_CAUSE_CAUSE, SY_RST_CAUSE_WAKE, SY_RST_CAUSE_BAT_LOST, SY_RST_CAUSE_RAIL]⟩
/-- SY_RST_STAT.UNIT_BUSY: unit reset in progress. -/
def SY_RST_STAT_UNIT_BUSY : Fld := ⟨0x000120, 0, 1, 0, .ro, 0⟩
/-- SY_RST_STAT.LAST_UNIT: last unit reset. -/
def SY_RST_STAT_LAST_UNIT : Fld := ⟨0x000120, 8, 6, 0, .ro, 7⟩
/-- SY_RST_STAT.LAST_STATUS: mailbox status code of that reset. -/
def SY_RST_STAT_LAST_STATUS : Fld := ⟨0x000120, 16, 8, 0, .ro, 7⟩
/-- SY_RST_STAT.START_MS: ms from power-good to event 0x0107. -/
def SY_RST_STAT_START_MS : Fld := ⟨0x000120, 32, 32, 0x00000000, .ro, 7⟩
/-- SY_RST_STAT, at offset 0x00_0120, reports resets and start-up. -/
def R_SY_RST_STAT : RegForm := ⟨0x000120, 1, 0x0, 1, 0x0, fun _ _ => [SY_RST_STAT_UNIT_BUSY, SY_RST_STAT_LAST_UNIT, SY_RST_STAT_LAST_STATUS, SY_RST_STAT_START_MS]⟩
/-- SY_WDOG.EN: 1: watchdog enabled. -/
def SY_WDOG_EN : Fld := ⟨0x000128, 0, 1, 1, .rw, 23⟩
/-- SY_WDOG.TIMEOUT: ms; below 100 acts as 100. -/
def SY_WDOG_TIMEOUT : Fld := ⟨0x000128, 16, 16, 0x03E8, .rw, 23⟩
/-- SY_WDOG, at offset 0x00_0128, configures the watchdog. -/
def R_SY_WDOG : RegForm := ⟨0x000128, 1, 0x0, 1, 0x0, fun _ _ => [SY_WDOG_EN, SY_WDOG_TIMEOUT]⟩
/-- SY_ID.VENDOR: vendor identifier. -/
def SY_ID_VENDOR : Fld := ⟨0x000000, 0, 16, 0x1F3C, .ro, 127⟩
/-- SY_ID.DEVICE: part. -/
def SY_ID_DEVICE : Fld := ⟨0x000000, 16, 16, 0x9640, .ro, 127⟩
/-- SY_ID.STEP: stepping, 0xB0 for B0. -/
def SY_ID_STEP : Fld := ⟨0x000000, 32, 8, 176, .ro, 127⟩
/-- R385. The SY identity registers and the BT registers have the maps below. -/
def R_SY_ID : RegForm := ⟨0x000000, 1, 0x0, 1, 0x0, fun _ _ => [SY_ID_VENDOR, SY_ID_DEVICE, SY_ID_STEP]⟩
/-- SY_DEVID_LO.ID: device identity bits [63:0]. -/
def SY_DEVID_LO_ID : Fld := ⟨0x000008, 0, 64, 0, .ro, 127⟩
/-- R385. The SY identity registers and the BT registers have the maps below. -/
def R_SY_DEVID_LO : RegForm := ⟨0x000008, 1, 0x0, 1, 0x0, fun _ _ => [SY_DEVID_LO_ID]⟩
/-- SY_DEVID_HI.ID: device identity bits [127:64]. -/
def SY_DEVID_HI_ID : Fld := ⟨0x000010, 0, 64, 0, .ro, 127⟩
/-- R385. The SY identity registers and the BT registers have the maps below. -/
def R_SY_DEVID_HI : RegForm := ⟨0x000010, 1, 0x0, 1, 0x0, fun _ _ => [SY_DEVID_HI_ID]⟩
/-- SY_FW_VER.VER: running firmware version. -/
def SY_FW_VER_VER : Fld := ⟨0x000018, 0, 32, 0, .ro, 7⟩
/-- SY_FW_VER.SLOT: 0 A, 1 B or host. -/
def SY_FW_VER_SLOT : Fld := ⟨0x000018, 32, 1, 0, .ro, 7⟩
/-- R385. The SY identity registers and the BT registers have the maps below. -/
def R_SY_FW_VER : RegForm := ⟨0x000018, 1, 0x0, 1, 0x0, fun _ _ => [SY_FW_VER_VER, SY_FW_VER_SLOT]⟩
/-- BT_STAT.SRC: 0 flash, 1 host. -/
def BT_STAT_SRC : Fld := ⟨0x160000, 0, 1, 0, .ro, 7⟩
/-- BT_STAT.FW_SLOT: firmware slot running. -/
def BT_STAT_FW_SLOT : Fld := ⟨0x160000, 1, 1, 0, .ro, 7⟩
/-- BT_STAT.IMG_SLOT: 0 A, 1 B, 2 host, 3 none. -/
def BT_STAT_IMG_SLOT : Fld := ⟨0x160000, 2, 2, 3, .ro, 3⟩
/-- BT_STAT.FW_FALLBACK: firmware fell back. -/
def BT_STAT_FW_FALLBACK : Fld := ⟨0x160000, 4, 1, 0, .ro, 7⟩
/-- BT_STAT.IMG_FALLBACK: image fell back. -/
def BT_STAT_IMG_FALLBACK : Fld := ⟨0x160000, 5, 1, 0, .ro, 3⟩
/-- BT_STAT.STATE: 0 ROM, 1 firmware verify, 2 image load, 3 RUN, 4 HOST_WAIT, 5 IMAGE_WAIT, 6 RELOAD, 7 tamper hold. -/
def BT_STAT_STATE : Fld := ⟨0x160000, 8, 3, 0, .ro, 0⟩
/-- BT_STAT, at offset 0x16_0000, reports the boot. -/
def R_BT_STAT : RegForm := ⟨0x160000, 1, 0x0, 1, 0x0, fun _ _ => [BT_STAT_SRC, BT_STAT_FW_SLOT, BT_STAT_IMG_SLOT, BT_STAT_FW_FALLBACK, BT_STAT_IMG_FALLBACK, BT_STAT_STATE]⟩
/-- BT_RELOAD.SRC: 0 flash A, 1 flash B, 2 host buffer. -/
def BT_RELOAD_SRC : Fld := ⟨0x160008, 0, 2, 0, .wo, 0⟩
/-- BT_RELOAD.KIND: 0 image, 1 firmware. -/
def BT_RELOAD_KIND : Fld := ⟨0x160008, 2, 1, 0, .wo, 0⟩
/-- BT_RELOAD.GO: 1: load. -/
def BT_RELOAD_GO : Fld := ⟨0x160008, 8, 1, 0, .wo, 0⟩
/-- BT_RELOAD, at offset 0x16_0008, requests a load under R381 and R382. -/
def R_BT_RELOAD : RegForm := ⟨0x160008, 1, 0x0, 1, 0x0, fun _ _ => [BT_RELOAD_SRC, BT_RELOAD_KIND, BT_RELOAD_GO]⟩
/-- BT_HOST_ADDR.ADDR: host address, 4 KiB aligned. -/
def BT_HOST_ADDR_ADDR : Fld := ⟨0x160010, 12, 52, 0, .rw, 5⟩
/-- BT_HOST_ADDR and BT_HOST_LEN, at offsets 0x16_0010 and 0x16_0018, name the host buffer. BT_EVT, at offset 0x16_0020, holds sticky flags set under R384. -/
def R_BT_HOST_ADDR : RegForm := ⟨0x160010, 1, 0x0, 1, 0x0, fun _ _ => [BT_HOST_ADDR_ADDR]⟩
/-- BT_HOST_LEN.LEN: bytes; at most 16 MiB. -/
def BT_HOST_LEN_LEN : Fld := ⟨0x160018, 0, 25, 0, .rw, 5⟩
/-- BT_HOST_ADDR and BT_HOST_LEN, at offsets 0x16_0010 and 0x16_0018, name the host buffer. BT_EVT, at offset 0x16_0020, holds sticky flags set under R384. -/
def R_BT_HOST_LEN : RegForm := ⟨0x160018, 1, 0x0, 1, 0x0, fun _ _ => [BT_HOST_LEN_LEN]⟩
/-- BT_EVT.LINK: R384 event. -/
def BT_EVT_LINK : Fld := ⟨0x160020, 0, 1, 0, .w1c, 7⟩
/-- BT_EVT.FOREIGN: R384 event. -/
def BT_EVT_FOREIGN : Fld := ⟨0x160020, 1, 1, 0, .w1c, 7⟩
/-- BT_EVT.NARROW: R384 event. -/
def BT_EVT_NARROW : Fld := ⟨0x160020, 2, 1, 0, .w1c, 7⟩
/-- BT_EVT.REFUSED: R384 event. -/
def BT_EVT_REFUSED : Fld := ⟨0x160020, 3, 1, 0, .w1c, 7⟩
/-- BT_EVT.CTO: R384 event. -/
def BT_EVT_CTO : Fld := ⟨0x160020, 4, 1, 0, .w1c, 7⟩
/-- BT_EVT.FLR: R384 event. -/
def BT_EVT_FLR : Fld := ⟨0x160020, 5, 1, 0, .w1c, 7⟩
/-- BT_EVT.PERST: R384 event. -/
def BT_EVT_PERST : Fld := ⟨0x160020, 6, 1, 0, .w1c, 7⟩
/-- BT_EVT.FALLBACK: R384 event. -/
def BT_EVT_FALLBACK : Fld := ⟨0x160020, 7, 1, 0, .w1c, 7⟩
/-- BT_EVT.RELOAD_REJ: R384 event. -/
def BT_EVT_RELOAD_REJ : Fld := ⟨0x160020, 8, 1, 0, .w1c, 7⟩
/-- BT_EVT.WAIT: R384 event. -/
def BT_EVT_WAIT : Fld := ⟨0x160020, 9, 1, 0, .w1c, 7⟩
/-- BT_HOST_ADDR and BT_HOST_LEN, at offsets 0x16_0010 and 0x16_0018, name the host buffer. BT_EVT, at offset 0x16_0020, holds sticky flags set under R384. -/
def R_BT_EVT : RegForm := ⟨0x160020, 1, 0x0, 1, 0x0, fun _ _ => [BT_EVT_LINK, BT_EVT_FOREIGN, BT_EVT_NARROW, BT_EVT_REFUSED, BT_EVT_CTO, BT_EVT_FLR, BT_EVT_PERST, BT_EVT_FALLBACK, BT_EVT_RELOAD_REJ, BT_EVT_WAIT]⟩
/-- PC_SELn.EN: 1: count. -/
def PC_SEL_EN (n : Nat) : Fld := ⟨0x140000 + n * 0x8, 0, 1, 0, .rw, 4⟩
/-- PC_SELn.CHAIN: even n only: carry into n + 1; reserved on odd n. -/
def PC_SEL_CHAIN (n : Nat) : Fld := ⟨0x140000 + n * 0x8, 1, 1, 0, .rw, 4⟩
/-- PC_SELn.CLR: 1: clear the value under R389. -/
def PC_SEL_CLR (n : Nat) : Fld := ⟨0x140000 + n * 0x8, 2, 1, 0, .wo, 0⟩
/-- PC_SELn.IRQ: 1: wraps signal PF4 vector 1. -/
def PC_SEL_IRQ (n : Nat) : Fld := ⟨0x140000 + n * 0x8, 3, 1, 0, .rw, 4⟩
/-- PC_SELn.KIND: under R386. -/
def PC_SEL_KIND (n : Nat) : Fld := ⟨0x140000 + n * 0x8, 4, 4, 0, .rw, 4⟩
/-- PC_SELn.UNIT: port or queue. -/
def PC_SEL_UNIT (n : Nat) : Fld := ⟨0x140000 + n * 0x8, 8, 8, 0, .rw, 4⟩
/-- PC_SELn.CODE or N: KIND 0x1: code; KIND 0x3: threshold N. -/
def PC_SEL_CODE_N (n : Nat) : Fld := ⟨0x140000 + n * 0x8, 16, 16, 0x0000, .rw, 4⟩
/-- PC_SELn.MASK: KIND 0x1: code bits compared. -/
def PC_SEL_MASK (n : Nat) : Fld := ⟨0x140000 + n * 0x8, 32, 16, 0x0000, .rw, 4⟩
/-- PC_SELn, at offset 0x14_0000 + n × 8, selects counter n's event. -/
def R_PC_SEL : RegForm := ⟨0x140000, 256, 0x8, 1, 0x0, fun n _ => [PC_SEL_EN n, PC_SEL_CHAIN n, PC_SEL_CLR n, PC_SEL_IRQ n, PC_SEL_KIND n, PC_SEL_UNIT n, PC_SEL_CODE_N n, PC_SEL_MASK n]⟩
/-- PC_CNTn.VALUE: counter n. -/
def PC_CNT_VALUE (n : Nat) : Fld := ⟨0x140800 + n * 0x8, 0, 32, 0x00000000, .ro, 4⟩
/-- PC_CNTn.PAIR: counter n + 1 when n is even and chained; otherwise 0. -/
def PC_CNT_PAIR (n : Nat) : Fld := ⟨0x140800 + n * 0x8, 32, 32, 0x00000000, .ro, 4⟩
/-- PC_CNTn, at offset 0x14_0800 + n × 8, holds counter n's value. -/
def R_PC_CNT : RegForm := ⟨0x140800, 256, 0x8, 1, 0x0, fun n _ => [PC_CNT_VALUE n, PC_CNT_PAIR n]⟩
/-- PC_OVFw.OVF: bit b: counter 64w + b wrapped. -/
def PC_OVF_OVF (n : Nat) : Fld := ⟨0x141000 + n * 0x8, 0, 64, 0, .w1c, 4⟩
/-- The remaining PC registers follow. -/
def R_PC_OVF : RegForm := ⟨0x141000, 4, 0x8, 1, 0x0, fun n _ => [PC_OVF_OVF n]⟩
/-- PC_USER_EN.EN: 1: user page readable. -/
def PC_USER_EN_EN : Fld := ⟨0x141020, 0, 1, 0, .rw, 4⟩
/-- The remaining PC registers follow. -/
def R_PC_USER_EN : RegForm := ⟨0x141020, 1, 0x0, 1, 0x0, fun _ _ => [PC_USER_EN_EN]⟩
/-- PC_JL_BASE.BASE: PF4 window base, entry number / 256. -/
def PC_JL_BASE_BASE : Fld := ⟨0x141028, 8, 56, 0, .rw, 4⟩
/-- The remaining PC registers follow. -/
def R_PC_JL_BASE : RegForm := ⟨0x141028, 1, 0x0, 1, 0x0, fun _ _ => [PC_JL_BASE_BASE]⟩
/-- PC_BWp_CFG.W: window, µs; 0 acts as 1, above 1,000,000 as 1,000,000. -/
def PC_BW_CFG_W (n : Nat) : Fld := ⟨0x141100 + n * 0x40, 0, 20, 0x003E8, .rw, 4⟩
/-- PC_BWp_CFG.EN: 1: monitor running. -/
def PC_BW_CFG_EN (n : Nat) : Fld := ⟨0x141100 + n * 0x40, 20, 1, 0, .rw, 4⟩
/-- PC_BWp_CFG.CLR: 1: clear LAST, MAX, MIN. -/
def PC_BW_CFG_CLR (n : Nat) : Fld := ⟨0x141100 + n * 0x40, 21, 1, 0, .wo, 0⟩
/-- The remaining PC registers follow. -/
def R_PC_BW_CFG : RegForm := ⟨0x141100, 6, 0x40, 1, 0x0, fun n _ => [PC_BW_CFG_W n, PC_BW_CFG_EN n, PC_BW_CFG_CLR n]⟩
/-- PC_BWp_RX_LM.LAST: bytes in the last window. -/
def PC_BW_RX_LM_LAST (n : Nat) : Fld := ⟨0x141108 + n * 0x40, 0, 32, 0, .ro, 4⟩
/-- PC_BWp_RX_LM.MAX: largest window. -/
def PC_BW_RX_LM_MAX (n : Nat) : Fld := ⟨0x141108 + n * 0x40, 32, 32, 0, .ro, 4⟩
/-- The remaining PC registers follow. -/
def R_PC_BW_RX_LM : RegForm := ⟨0x141108, 6, 0x40, 1, 0x0, fun n _ => [PC_BW_RX_LM_LAST n, PC_BW_RX_LM_MAX n]⟩
/-- PC_BWp_TX_LM.LAST: bytes in the last window. -/
def PC_BW_TX_LM_LAST (n : Nat) : Fld := ⟨0x141118 + n * 0x40, 0, 32, 0, .ro, 4⟩
/-- PC_BWp_TX_LM.MAX: largest window. -/
def PC_BW_TX_LM_MAX (n : Nat) : Fld := ⟨0x141118 + n * 0x40, 32, 32, 0, .ro, 4⟩
/-- The remaining PC registers follow. -/
def R_PC_BW_TX_LM : RegForm := ⟨0x141118, 6, 0x40, 1, 0x0, fun n _ => [PC_BW_TX_LM_LAST n, PC_BW_TX_LM_MAX n]⟩
/-- PC_BWp_RX_MIN.MIN: smallest window; [63:32] reserved. -/
def PC_BW_RX_MIN_MIN (n : Nat) : Fld := ⟨0x141110 + n * 0x40, 0, 32, 0xFFFFFFFF, .ro, 4⟩
/-- The remaining PC registers follow. -/
def R_PC_BW_RX_MIN : RegForm := ⟨0x141110, 6, 0x40, 1, 0x0, fun n _ => [PC_BW_RX_MIN_MIN n]⟩
/-- PC_BWp_TX_MIN.MIN: smallest window; [63:32] reserved. -/
def PC_BW_TX_MIN_MIN (n : Nat) : Fld := ⟨0x141120 + n * 0x40, 0, 32, 0xFFFFFFFF, .ro, 4⟩
/-- The remaining PC registers follow. -/
def R_PC_BW_TX_MIN : RegForm := ⟨0x141120, 6, 0x40, 1, 0x0, fun n _ => [PC_BW_TX_MIN_MIN n]⟩
/-- JL_STAT.DROPPED: entries dropped, saturating. -/
def JL_STAT_DROPPED : Fld := ⟨0x150000, 0, 32, 0, .rc, 7⟩
/-- JL_STAT.GENESIS: 1: the chain began at the last start. -/
def JL_STAT_GENESIS : Fld := ⟨0x150000, 32, 1, 0, .ro, 31⟩
/-- R404. The JL registers have the maps below. PF4 reads them. A write through PF4 is dropped under R369. -/
def R_JL_STAT : RegForm := ⟨0x150000, 1, 0x0, 1, 0x0, fun _ _ => [JL_STAT_DROPPED, JL_STAT_GENESIS]⟩
/-- JL_NEXT.E: number of the next entry. -/
def JL_NEXT_E : Fld := ⟨0x150008, 0, 64, 0, .ro, 63⟩
/-- R404. The JL registers have the maps below. PF4 reads them. A write through PF4 is dropped under R369. -/
def R_JL_NEXT : RegForm := ⟨0x150008, 1, 0x0, 1, 0x0, fun _ _ => [JL_NEXT_E]⟩
/-- JL_OLDEST.E: oldest readable entry. -/
def JL_OLDEST_E : Fld := ⟨0x150010, 0, 64, 0, .ro, 31⟩
/-- R404. The JL registers have the maps below. PF4 reads them. A write through PF4 is dropped under R369. -/
def R_JL_OLDEST : RegForm := ⟨0x150010, 1, 0x0, 1, 0x0, fun _ _ => [JL_OLDEST_E]⟩
/-- JL_SEALED.K: last sealed block. -/
def JL_SEALED_K : Fld := ⟨0x150018, 0, 64, 0, .ro, 63⟩
/-- R404. The JL registers have the maps below. PF4 reads them. A write through PF4 is dropped under R369. -/
def R_JL_SEALED : RegForm := ⟨0x150018, 1, 0x0, 1, 0x0, fun _ _ => [JL_SEALED_K]⟩
/-- JL_SEAL_LASTw.SEAL: s of JL_SEALED, bytes 8w to 8w + 7. -/
def JL_SEAL_LAST_SEAL (n : Nat) : Fld := ⟨0x150020 + n * 0x8, 0, 64, 0, .ro, 63⟩
/-- R404. The JL registers have the maps below. PF4 reads them. A write through PF4 is dropped under R369. -/
def R_JL_SEAL_LAST : RegForm := ⟨0x150020, 4, 0x8, 1, 0x0, fun n _ => [JL_SEAL_LAST_SEAL n]⟩
/-- JL_RD_BASE.BASE: window base for PF0 and SVC_SPI, entry number / 256. -/
def JL_RD_BASE_BASE : Fld := ⟨0x150100, 8, 56, 0, .rw, 7⟩
/-- R404. The JL registers have the maps below. PF4 reads them. A write through PF4 is dropped under R369. -/
def R_JL_RD_BASE : RegForm := ⟨0x150100, 1, 0x0, 1, 0x0, fun _ _ => [JL_RD_BASE_BASE]⟩
/-- JL_WSEALw.SEAL: window seals under R398. -/
def JL_WSEAL_SEAL (n : Nat) : Fld := ⟨0x151000 + n * 0x8, 0, 64, 0, .ro, 0⟩
/-- R404. The JL registers have the maps below. PF4 reads them. A write through PF4 is dropped under R369. -/
def R_JL_WSEAL : RegForm := ⟨0x151000, 20, 0x8, 1, 0x0, fun n _ => [JL_WSEAL_SEAL n]⟩
/-- JL_WINw.DATA: window bytes 8w to 8w + 7. -/
def JL_WIN_DATA (n : Nat) : Fld := ⟨0x152000 + n * 0x8, 0, 64, 0, .ro, 0⟩
/-- R404. The JL registers have the maps below. PF4 reads them. A write through PF4 is dropped under R369. -/
def R_JL_WIN : RegForm := ⟨0x152000, 1024, 0x8, 1, 0x0, fun n _ => [JL_WIN_DATA n]⟩
/-- PM_TEMP.TJ: highest of four on-die sensors, signed, °C, ±3 °C. -/
def PM_TEMP_TJ : Fld := ⟨0x010040, 0, 8, 0, .ro, 0⟩
/-- PM_TEMP.TJ_MAX: highest TJ since last read, signed; 0x80 before the first sample. -/
def PM_TEMP_TJ_MAX : Fld := ⟨0x010040, 8, 8, 128, .rc, 0⟩
/-- PM_TEMP.HOT: 1: TJ at or above 110 °C. -/
def PM_TEMP_HOT : Fld := ⟨0x010040, 16, 1, 0, .ro, 0⟩
/-- PM_TEMP, at offset 0x01_0040, reports the die temperature. -/
def R_PM_TEMP : RegForm := ⟨0x010040, 1, 0x0, 1, 0x0, fun _ _ => [PM_TEMP_TJ, PM_TEMP_TJ_MAX, PM_TEMP_HOT]⟩
/-- PM_AGE.CORE: VDD_CORE ring slowdown, LSB 0.01 %. -/
def PM_AGE_CORE : Fld := ⟨0x010048, 0, 16, 0x0000, .ro, 0⟩
/-- PM_AGE.TB: timebase ring slowdown, LSB 0.01 %. -/
def PM_AGE_TB : Fld := ⟨0x010048, 16, 16, 0x0000, .ro, 0⟩
/-- PM_AGE.WARN_LVL: warning level, LSB 0.01 %; 6 %. -/
def PM_AGE_WARN_LVL : Fld := ⟨0x010048, 32, 16, 0x0258, .rw, 23⟩
/-- PM_AGE.WARN: 1: CORE or TB at or above WARN_LVL. -/
def PM_AGE_WARN : Fld := ⟨0x010048, 48, 1, 0, .ro, 0⟩
/-- PM_AGE, at offset 0x01_0048, reports the ageing monitors. -/
def R_PM_AGE : RegForm := ⟨0x010048, 1, 0x0, 1, 0x0, fun _ _ => [PM_AGE_CORE, PM_AGE_TB, PM_AGE_WARN_LVL, PM_AGE_WARN]⟩
/-- Registers of these chapters, in the order of the spec, part 1. -/
def formsSupport1 : List RegForm := [R_GL_STAT, R_GL_LOCK_MAX, R_GL_SCRUB_RATE, R_GL_CNT_REVOKE, R_EC_GL_CNT, R_EC_SR_CNT, R_EC_GL_ERRADDR, R_EC_SCRUB_STAT, R_EC_REPAIR_CFG, R_EC_REPAIR_STAT, R_EC_FUSE_REQ, R_EC_EVT, R_EC_SOFT, R_RD_CFG, R_RD_SWITCH, R_RD_STAT, R_RD_EVT, R_RD_RIME_CFG, R_RD_RIME_TOL, R_RD_RIME_REQ, R_RD_RIME_STAT, R_RD_MATE_CFG, R_RD_MATE_ADDR, R_RD_MATE_ASYM, R_RD_MATE_STAT, R_RD_MATE_OFS, R_RD_MATE_BOUND, R_RD_CNT, R_PM_CFG, R_PM_STAT]
/-- Registers of these chapters, in the order of the spec, part 2. -/
def formsSupport2 : List RegForm := [R_PM_DIP_STAT, R_PM_DIP_MAX, R_PM_EVT, R_PM_VBAT, R_PM_RTC, R_PM_NEVE_CFG, R_SY_URESET, R_SY_CHIPRST, R_SY_NEVE, R_SY_RST_CAUSE, R_SY_RST_STAT, R_SY_WDOG, R_SY_ID, R_SY_DEVID_LO, R_SY_DEVID_HI, R_SY_FW_VER, R_BT_STAT, R_BT_RELOAD, R_BT_HOST_ADDR, R_BT_HOST_LEN, R_BT_EVT, R_PC_SEL, R_PC_CNT, R_PC_OVF, R_PC_USER_EN, R_PC_JL_BASE, R_PC_BW_CFG, R_PC_BW_RX_LM, R_PC_BW_TX_LM, R_PC_BW_RX_MIN]
/-- Registers of these chapters, in the order of the spec, part 3. -/
def formsSupport3 : List RegForm := [R_PC_BW_TX_MIN, R_JL_STAT, R_JL_NEXT, R_JL_OLDEST, R_JL_SEALED, R_JL_SEAL_LAST, R_JL_RD_BASE, R_JL_WSEAL, R_JL_WIN, R_PM_TEMP, R_PM_AGE]

end Sys2Proof.Machine.F
end

