-- ==== Sys2Proof/Machine/FieldsTimebase.lean ====
section
/-! DEFINITION. The register fields of the blocks of chapters 03, 04 of spec/, one definition per field, written from the
register tables of those chapters: offset, lowest bit, width, reset value, access code (R5) and kept-through letters (R6). -/
namespace Sys2Proof.Machine.F

/-- TB_SRC_CFG.PRI: source to migrate to after start under R48: 0b00 XO, 0b01 OCXO, 0b10 ATOM; 0b11 acts as 0b00. -/
def TB_SRC_CFG_PRI : Fld := ⟨0x020000, 0, 2, 0, .rw, 23⟩
/-- TB_SRC_CFG.BAK: backup for forced migration; same encoding. -/
def TB_SRC_CFG_BAK : Fld := ⟨0x020000, 2, 2, 0, .rw, 23⟩
/-- TB_SRC_CFG.OCXO_20M: OCXO_IN frequency: 0 10 MHz, 1 20 MHz. -/
def TB_SRC_CFG_OCXO_20M : Fld := ⟨0x020000, 4, 1, 0, .rw, 23⟩
/-- TB_SRC_CFG.AUTO_MIG: 1: failures force migration. -/
def TB_SRC_CFG_AUTO_MIG : Fld := ⟨0x020000, 5, 1, 1, .rw, 23⟩
/-- TB_SRC_CFG.WARM_MODE: warm-up decision under R46. -/
def TB_SRC_CFG_WARM_MODE : Fld := ⟨0x020000, 6, 2, 1, .rw, 23⟩
/-- TB_SRC_CFG.WARM_POL: 1: OCXO_WARM high means warm. -/
def TB_SRC_CFG_WARM_POL : Fld := ⟨0x020000, 8, 1, 1, .rw, 23⟩
/-- TB_SRC_CFG.ATOM_LOCK_POL: 1: ATOM_LOCK high means locked. -/
def TB_SRC_CFG_ATOM_LOCK_POL : Fld := ⟨0x020000, 9, 1, 1, .rw, 23⟩
/-- TB_SRC_CFG, at offset 0x02_0000, configures the tick sources. After the first image load following a chip reset or main power-up, it holds the value carried by the Fodra image. -/
def R_TB_SRC_CFG : RegForm := ⟨0x020000, 1, 0x0, 1, 0x0, fun _ _ => [TB_SRC_CFG_PRI, TB_SRC_CFG_BAK, TB_SRC_CFG_OCXO_20M, TB_SRC_CFG_AUTO_MIG, TB_SRC_CFG_WARM_MODE, TB_SRC_CFG_WARM_POL, TB_SRC_CFG_ATOM_LOCK_POL]⟩
/-- TB_SRC_REQ.TARGET: source to migrate to, encoded as PRI. -/
def TB_SRC_REQ_TARGET : Fld := ⟨0x020008, 0, 2, 0, .wo, 0⟩
/-- TB_SRC_REQ.GO: 1: request a migration to TARGET under R51. -/
def TB_SRC_REQ_GO : Fld := ⟨0x020008, 2, 1, 0, .wo, 0⟩
/-- TB_SRC_REQ, at offset 0x02_0008, requests a migration. -/
def R_TB_SRC_REQ : RegForm := ⟨0x020008, 1, 0x0, 1, 0x0, fun _ _ => [TB_SRC_REQ_TARGET, TB_SRC_REQ_GO]⟩
/-- TB_STAT.ACT: active source. -/
def TB_STAT_ACT : Fld := ⟨0x020010, 0, 2, 0, .ro, 0⟩
/-- TB_STAT.ACT_TM: active MDLL: 0 TM-A, 1 TM-B. -/
def TB_STAT_ACT_TM : Fld := ⟨0x020010, 2, 1, 0, .ro, 0⟩
/-- TB_STAT.MIG: 1: migration in progress. -/
def TB_STAT_MIG : Fld := ⟨0x020010, 3, 1, 0, .ro, 0⟩
/-- TB_STAT.COAST: 1: active MDLL coasting. -/
def TB_STAT_COAST : Fld := ⟨0x020010, 4, 1, 0, .ro, 0⟩
/-- TB_STAT.WARMING: 1: OCXO enabled and not yet warm. -/
def TB_STAT_WARMING : Fld := ⟨0x020010, 5, 1, 0, .ro, 0⟩
/-- TB_STAT.XO_OK: XO passes its monitor. -/
def TB_STAT_XO_OK : Fld := ⟨0x020010, 8, 1, 0, .ro, 0⟩
/-- TB_STAT.OCXO_OK: OCXO passes its monitor. -/
def TB_STAT_OCXO_OK : Fld := ⟨0x020010, 9, 1, 0, .ro, 0⟩
/-- TB_STAT.ATOM_OK: ATOM passes its monitor. -/
def TB_STAT_ATOM_OK : Fld := ⟨0x020010, 10, 1, 0, .ro, 0⟩
/-- TB_STAT.OCXO_WARM: warm-up complete. -/
def TB_STAT_OCXO_WARM : Fld := ⟨0x020010, 11, 1, 0, .ro, 0⟩
/-- TB_STAT.ATOM_LOCK: ATOM_LOCK asserted, after polarity. -/
def TB_STAT_ATOM_LOCK : Fld := ⟨0x020010, 12, 1, 0, .ro, 0⟩
/-- TB_STAT.TMA_LOCK: TM-A locked. -/
def TB_STAT_TMA_LOCK : Fld := ⟨0x020010, 16, 1, 0, .ro, 0⟩
/-- TB_STAT.TMB_LOCK: TM-B locked. -/
def TB_STAT_TMB_LOCK : Fld := ⟨0x020010, 17, 1, 0, .ro, 0⟩
/-- TB_STAT.WARM_ELAPSED: seconds since the warm-up timer started, saturating at 65,535. -/
def TB_STAT_WARM_ELAPSED : Fld := ⟨0x020010, 48, 16, 0x0000, .ro, 0⟩
/-- TB_STAT, at offset 0x02_0010, reports the state of the timebase. -/
def R_TB_STAT : RegForm := ⟨0x020010, 1, 0x0, 1, 0x0, fun _ _ => [TB_STAT_ACT, TB_STAT_ACT_TM, TB_STAT_MIG, TB_STAT_COAST, TB_STAT_WARMING, TB_STAT_XO_OK, TB_STAT_OCXO_OK, TB_STAT_ATOM_OK, TB_STAT_OCXO_WARM, TB_STAT_ATOM_LOCK, TB_STAT_TMA_LOCK, TB_STAT_TMB_LOCK, TB_STAT_WARM_ELAPSED]⟩
/-- TB_EVT.SRC_FAIL: active source failed, event 0x0201. -/
def TB_EVT_SRC_FAIL : Fld := ⟨0x020018, 0, 1, 0, .w1c, 7⟩
/-- TB_EVT.MIG_DONE: migration completed, event 0x0202. -/
def TB_EVT_MIG_DONE : Fld := ⟨0x020018, 1, 1, 0, .w1c, 7⟩
/-- TB_EVT.MIG_ABORT: migration aborted, event 0x0203. -/
def TB_EVT_MIG_ABORT : Fld := ⟨0x020018, 2, 1, 0, .w1c, 7⟩
/-- TB_EVT.WARM_DONE: OCXO warm, event 0x0204. -/
def TB_EVT_WARM_DONE : Fld := ⟨0x020018, 3, 1, 0, .w1c, 7⟩
/-- TB_EVT.COAST: coasting began, event 0x0205. -/
def TB_EVT_COAST : Fld := ⟨0x020018, 4, 1, 0, .w1c, 7⟩
/-- TB_EVT.REQ_REJ: request rejected, event 0x0206. -/
def TB_EVT_REQ_REJ : Fld := ⟨0x020018, 5, 1, 0, .w1c, 7⟩
/-- TB_EVT.AGE_LEARN: learned ageing updated, event 0x0207. -/
def TB_EVT_AGE_LEARN : Fld := ⟨0x020018, 6, 1, 0, .w1c, 7⟩
/-- TB_EVT.THERM_OPEN: thermistor open, event 0x0208. -/
def TB_EVT_THERM_OPEN : Fld := ⟨0x020018, 7, 1, 0, .w1c, 7⟩
/-- TB_EVT, at offset 0x02_0018, holds sticky event flags. Each flag is set together with its journal event. -/
def R_TB_EVT : RegForm := ⟨0x020018, 1, 0x0, 1, 0x0, fun _ _ => [TB_EVT_SRC_FAIL, TB_EVT_MIG_DONE, TB_EVT_MIG_ABORT, TB_EVT_WARM_DONE, TB_EVT_COAST, TB_EVT_REQ_REJ, TB_EVT_AGE_LEARN, TB_EVT_THERM_OPEN]⟩
/-- TB_LIMITS.WARM_TIME: warm-up time in seconds, from 0 s to 65,535 s. -/
def TB_LIMITS_WARM_TIME : Fld := ⟨0x020020, 0, 16, 0x0258, .rw, 23⟩
/-- TB_LIMITS.MON_LIMIT: monitor limit, LSB 0.1 ppm; values above 2,000 act as 2,000 (200 ppm). -/
def TB_LIMITS_MON_LIMIT : Fld := ⟨0x020020, 16, 12, 0x5DC, .rw, 23⟩
/-- TB_LIMITS.MISS: missing-edge time, LSB 250 ns; 0 acts as 1. -/
def TB_LIMITS_MISS : Fld := ⟨0x020020, 28, 4, 4, .rw, 23⟩
/-- TB_LIMITS.MIG_LOCK: shadow lock time, LSB 10 µs; values below 40 act as 40. -/
def TB_LIMITS_MIG_LOCK : Fld := ⟨0x020020, 32, 12, 0x032, .rw, 23⟩
/-- TB_LIMITS.MIG_CMP: comparison window, LSB 10 µs; values below 10 act as 10. -/
def TB_LIMITS_MIG_CMP : Fld := ⟨0x020020, 44, 12, 0x064, .rw, 23⟩
/-- TB_LIMITS, at offset 0x02_0020, sets the timebase limits. -/
def R_TB_LIMITS : RegForm := ⟨0x020020, 1, 0x0, 1, 0x0, fun _ _ => [TB_LIMITS_WARM_TIME, TB_LIMITS_MON_LIMIT, TB_LIMITS_MISS, TB_LIMITS_MIG_LOCK, TB_LIMITS_MIG_CMP]⟩
/-- TB_XO_AGE.RATE: ageing, signed, LSB 2^-16 ppt/day. -/
def TB_XO_AGE_RATE : Fld := ⟨0x020028, 0, 32, 0x00000000, .rw, 63⟩
/-- TB_XO_AGE.T0DAY: TAI day (SEC / 86,400) at which FOFS holds. -/
def TB_XO_AGE_T0DAY : Fld := ⟨0x020028, 32, 16, 0x0000, .rw, 63⟩
/-- TB_XO_AGE.MODE: 0b00 none, 0b01 entered, 0b10 learned; 0b11 acts as 0b00. -/
def TB_XO_AGE_MODE : Fld := ⟨0x020028, 48, 2, 0, .rw, 63⟩
/-- TB_XO_AGE.LEARNED: 1: values written by the core. -/
def TB_XO_AGE_LEARNED : Fld := ⟨0x020028, 50, 1, 0, .ro, 63⟩
/-- TB_XO_AGE, at offset 0x02_0028, holds the XO ageing adjustment. -/
def R_TB_XO_AGE : RegForm := ⟨0x020028, 1, 0x0, 1, 0x0, fun _ _ => [TB_XO_AGE_RATE, TB_XO_AGE_T0DAY, TB_XO_AGE_MODE, TB_XO_AGE_LEARNED]⟩
/-- TB_XO_FOFS.FOFS: frequency word: XO fractional error at T0DAY, positive when fast. -/
def TB_XO_FOFS_FOFS : Fld := ⟨0x020030, 0, 64, 0x0000000000000000, .rw, 63⟩
/-- TB_XO_FOFS, at offset 0x02_0030, holds the XO frequency offset. -/
def R_TB_XO_FOFS : RegForm := ⟨0x020030, 1, 0x0, 1, 0x0, fun _ _ => [TB_XO_FOFS_FOFS]⟩
/-- TB_THERM.CODE: latest ADC code. -/
def TB_THERM_CODE : Fld := ⟨0x020038, 0, 12, 0x000, .ro, 0⟩
/-- TB_THERM.AVG: mean of the latest 16 codes, truncated, under R59; 0x000 until 16 codes exist. -/
def TB_THERM_AVG : Fld := ⟨0x020038, 16, 12, 0x000, .ro, 0⟩
/-- TB_THERM.OPEN: thermistor open under R59. -/
def TB_THERM_OPEN : Fld := ⟨0x020038, 28, 1, 0, .ro, 0⟩
/-- TB_THERM.BIAS: bias current: 0b00 off, 0b01 10 µA, 0b10 50 µA, 0b11 100 µA. -/
def TB_THERM_BIAS : Fld := ⟨0x020038, 32, 2, 1, .rw, 23⟩
/-- TB_THERM.EN: 1: ADC sampling enabled. -/
def TB_THERM_EN : Fld := ⟨0x020038, 34, 1, 1, .rw, 23⟩
/-- TB_THERM, at offset 0x02_0038, controls and reads the XO_THERM path. -/
def R_TB_THERM : RegForm := ⟨0x020038, 1, 0x0, 1, 0x0, fun _ _ => [TB_THERM_CODE, TB_THERM_AVG, TB_THERM_OPEN, TB_THERM_BIAS, TB_THERM_EN]⟩
/-- TB_MIG_RATIO.RATIO: frequency word r of the new tick against the old at the last step 3, positive when the new tick is faster. -/
def TB_MIG_RATIO_RATIO : Fld := ⟨0x020040, 0, 64, 0x0000000000000000, .ro, 7⟩
/-- TB_MIG_RATIO, at offset 0x02_0040, reports the last migration's comparison. It belongs to the raw domain. -/
def R_TB_MIG_RATIO : RegForm := ⟨0x020040, 1, 0x0, 1, 0x0, fun _ _ => [TB_MIG_RATIO_RATIO]⟩
/-- IE_CHn_CFG.EN: 1: channel enabled. -/
def IE_CH_CFG_EN (n : Nat) : Fld := ⟨0x030000 + n * 0x100, 0, 1, 0, .rw, 23⟩
/-- IE_CHn_CFG.MODE: mode under R68. -/
def IE_CH_CFG_MODE (n : Nat) : Fld := ⟨0x030000 + n * 0x100, 1, 2, 0, .rw, 23⟩
/-- IE_CHn_CFG.SLOPE: 0b01 rising, 0b10 falling, 0b11 both; 0b00 acts as 0b01. -/
def IE_CH_CFG_SLOPE (n : Nat) : Fld := ⟨0x030000 + n * 0x100, 3, 2, 1, .rw, 23⟩
/-- IE_CHn_CFG.PRESCALE: stamp every 2^PRESCALE-th qualifying edge. -/
def IE_CH_CFG_PRESCALE (n : Nat) : Fld := ⟨0x030000 + n * 0x100, 5, 4, 0, .rw, 23⟩
/-- IE_CHn_CFG.PEER: stop channel in interval mode. -/
def IE_CH_CFG_PEER (n : Nat) : Fld := ⟨0x030000 + n * 0x100, 9, 5, 0, .rw, 23⟩
/-- IE_CHn_CFG.CORR: 1: report corrected time under R66. -/
def IE_CH_CFG_CORR (n : Nat) : Fld := ⟨0x030000 + n * 0x100, 14, 1, 0, .rw, 23⟩
/-- IE_CHn_CFG.GATE_SEL: 0b00 ungated, 0b01 GATE_IN0, 0b10 GATE_IN1; 0b11 acts as 0b00. -/
def IE_CH_CFG_GATE_SEL (n : Nat) : Fld := ⟨0x030000 + n * 0x100, 15, 2, 0, .rw, 23⟩
/-- IE_CHn_CFG.GATE_MODE: 0 level, 1 edge-N. -/
def IE_CH_CFG_GATE_MODE (n : Nat) : Fld := ⟨0x030000 + n * 0x100, 17, 1, 0, .rw, 23⟩
/-- IE_CHn_CFG.GATE_POL: 1: gate active high. -/
def IE_CH_CFG_GATE_POL (n : Nat) : Fld := ⟨0x030000 + n * 0x100, 18, 1, 1, .rw, 23⟩
/-- IE_CHn_CFG.GATE_N: edges per edge-N window, or periods per ungated frequency window; 0 means 2^24. -/
def IE_CH_CFG_GATE_N (n : Nat) : Fld := ⟨0x030000 + n * 0x100, 24, 24, 0x000001, .rw, 23⟩
/-- IE_CHn_CFG, at offset 0x03_0000 + n × 0x100, configures channel n. -/
def R_IE_CH_CFG : RegForm := ⟨0x030000, 32, 0x100, 1, 0x0, fun n _ => [IE_CH_CFG_EN n, IE_CH_CFG_MODE n, IE_CH_CFG_SLOPE n, IE_CH_CFG_PRESCALE n, IE_CH_CFG_PEER n, IE_CH_CFG_CORR n, IE_CH_CFG_GATE_SEL n, IE_CH_CFG_GATE_MODE n, IE_CH_CFG_GATE_POL n, IE_CH_CFG_GATE_N n]⟩
/-- IE_CHn_IN.THR: threshold, LSB 3.3 mV; values above 1,000 act as 1,000. -/
def IE_CH_IN_THR (n : Nat) : Fld := ⟨0x030008 + n * 0x100, 0, 10, 0x1F4, .rw, 23⟩
/-- IE_CHn_IN.HYS: hysteresis, LSB 1 mV; values above 100 act as 100. -/
def IE_CH_IN_HYS (n : Nat) : Fld := ⟨0x030008 + n * 0x100, 10, 7, 20, .rw, 23⟩
/-- IE_CHn_IN.DIFF: 1: compare _P with _N. -/
def IE_CH_IN_DIFF (n : Nat) : Fld := ⟨0x030008 + n * 0x100, 17, 1, 0, .rw, 23⟩
/-- IE_CHn_IN, at offset 0x03_0008 + n × 0x100, conditions the inputs of CH0 to CH7. For other channels it is reserved and reads 0. -/
def R_IE_CH_IN : RegForm := ⟨0x030008, 8, 0x100, 1, 0x0, fun n _ => [IE_CH_IN_THR n, IE_CH_IN_HYS n, IE_CH_IN_DIFF n]⟩
/-- IE_CHn_NOM.NOM: unsigned, LSB 2^-16 ps. -/
def IE_CH_NOM_NOM (n : Nat) : Fld := ⟨0x030010 + n * 0x100, 0, 64, 0x0000000000000000, .rw, 23⟩
/-- IE_CHn_NOM, at offset 0x03_0010 + n × 0x100, holds the nominal period of the input before prescaling. For CH12 to CH31 the owning block sets it, and it is read only under R62. For example, 1 PPS is 0x00E8_D4A5_1000_0000. -/
def R_IE_CH_NOM : RegForm := ⟨0x030010, 32, 0x100, 1, 0x0, fun n _ => [IE_CH_NOM_NOM n]⟩
/-- IE_CHn_STAT.LEVEL: entries in the result buffer, from 0 to 256. -/
def IE_CH_STAT_LEVEL (n : Nat) : Fld := ⟨0x030018 + n * 0x100, 0, 9, 0x000, .ro, 6⟩
/-- IE_CHn_STAT.CAL_STALE: calibration stale under R85. -/
def IE_CH_STAT_CAL_STALE (n : Nat) : Fld := ⟨0x030018 + n * 0x100, 9, 1, 0, .ro, 6⟩
/-- IE_CHn_STAT.CAL_BUSY: channel in calibration. -/
def IE_CH_STAT_CAL_BUSY (n : Nat) : Fld := ⟨0x030018 + n * 0x100, 10, 1, 0, .ro, 0⟩
/-- IE_CHn_STAT.OVF: results dropped on a full buffer. -/
def IE_CH_STAT_OVF (n : Nat) : Fld := ⟨0x030018 + n * 0x100, 16, 12, 0x000, .rc, 6⟩
/-- IE_CHn_STAT.RATE: edges dropped under R72. -/
def IE_CH_STAT_RATE (n : Nat) : Fld := ⟨0x030018 + n * 0x100, 28, 12, 0x000, .rc, 6⟩
/-- IE_CHn_STAT.UNPAIRED: interval starts discarded. -/
def IE_CH_STAT_UNPAIRED (n : Nat) : Fld := ⟨0x030018 + n * 0x100, 40, 12, 0x000, .rc, 6⟩
/-- IE_CHn_STAT.CALMISS: edges missed during calibration. -/
def IE_CH_STAT_CALMISS (n : Nat) : Fld := ⟨0x030018 + n * 0x100, 52, 12, 0x000, .rc, 6⟩
/-- IE_CHn_STAT, at offset 0x03_0018 + n × 0x100, reports channel n. The counters saturate at 4,095. -/
def R_IE_CH_STAT : RegForm := ⟨0x030018, 32, 0x100, 1, 0x0, fun n _ => [IE_CH_STAT_LEVEL n, IE_CH_STAT_CAL_STALE n, IE_CH_STAT_CAL_BUSY n, IE_CH_STAT_OVF n, IE_CH_STAT_RATE n, IE_CH_STAT_UNPAIRED n, IE_CH_STAT_CALMISS n]⟩
/-- IE_CHn_UNC.UNC: systematic bound under R85, LSB 2^-16 ps. -/
def IE_CH_UNC_UNC (n : Nat) : Fld := ⟨0x030020 + n * 0x100, 0, 32, 0xFFFFFFFF, .ro, 6⟩
/-- IE_CHn_UNC.AGE: minutes since calibration, saturating; 0xFFFF before the first. -/
def IE_CH_UNC_AGE (n : Nat) : Fld := ⟨0x030020 + n * 0x100, 32, 16, 0xFFFF, .ro, 6⟩
/-- IE_CHn_UNC.TEMP_CAL: die temperature at calibration, signed, °C. -/
def IE_CH_UNC_TEMP_CAL (n : Nat) : Fld := ⟨0x030020 + n * 0x100, 48, 8, 0, .ro, 6⟩
/-- IE_CHn_UNC, at offset 0x03_0020 + n × 0x100, reports the channel's calibration. -/
def R_IE_CH_UNC : RegForm := ⟨0x030020, 32, 0x100, 1, 0x0, fun n _ => [IE_CH_UNC_UNC n, IE_CH_UNC_AGE n, IE_CH_UNC_TEMP_CAL n]⟩
/-- IE_CHn_RES_RAW.RAW: raw stamp, layout under R29. -/
def IE_CH_RES_RAW_RAW (n : Nat) : Fld := ⟨0x030028 + n * 0x100, 0, 64, 0x0000000000000000, .ro, 6⟩
/-- IE_CHn_RES_RAW, at offset 0x03_0028 + n × 0x100, returns the oldest result and removes it from the buffer under R74. -/
def R_IE_CH_RES_RAW : RegForm := ⟨0x030028, 32, 0x100, 1, 0x0, fun n _ => [IE_CH_RES_RAW_RAW n]⟩
/-- IE_CHn_RES_PH.PH: phase word or frequency word under R68. -/
def IE_CH_RES_PH_PH (n : Nat) : Fld := ⟨0x030030 + n * 0x100, 0, 64, 0x0000000000000000, .ro, 6⟩
/-- IE_CHn_RES_PH, at offset 0x03_0030 + n × 0x100, holds the latched result value. -/
def R_IE_CH_RES_PH : RegForm := ⟨0x030030, 32, 0x100, 1, 0x0, fun n _ => [IE_CH_RES_PH_PH n]⟩
/-- IE_CHn_RES_SEC.SEC: TAI seconds under R23. -/
def IE_CH_RES_SEC_SEC (n : Nat) : Fld := ⟨0x030038 + n * 0x100, 0, 48, 0x000000000000, .ro, 6⟩
/-- IE_CHn_RES_SEC, at offset 0x03_0038 + n × 0x100, holds the seconds of the latched corrected time word. -/
def R_IE_CH_RES_SEC : RegForm := ⟨0x030038, 32, 0x100, 1, 0x0, fun n _ => [IE_CH_RES_SEC_SEC n]⟩
/-- IE_CHn_RES_NSF.FRAC: LSB 2^-32 ns. -/
def IE_CH_RES_NSF_FRAC (n : Nat) : Fld := ⟨0x030040 + n * 0x100, 0, 32, 0x00000000, .ro, 6⟩
/-- IE_CHn_RES_NSF.NS: nanoseconds. -/
def IE_CH_RES_NSF_NS (n : Nat) : Fld := ⟨0x030040 + n * 0x100, 32, 32, 0x00000000, .ro, 6⟩
/-- IE_CHn_RES_NSF, at offset 0x03_0040 + n × 0x100, holds the sub-second part of the latched corrected time word. -/
def R_IE_CH_RES_NSF : RegForm := ⟨0x030040, 32, 0x100, 1, 0x0, fun n _ => [IE_CH_RES_NSF_FRAC n, IE_CH_RES_NSF_NS n]⟩
/-- IE_CHn_RES_FLG.EDGE: 1 rising, 0 falling. -/
def IE_CH_RES_FLG_EDGE (n : Nat) : Fld := ⟨0x030048 + n * 0x100, 0, 1, 0, .ro, 6⟩
/-- IE_CHn_RES_FLG.CAL_STALE: channel calibration stale. -/
def IE_CH_RES_FLG_CAL_STALE (n : Nat) : Fld := ⟨0x030048 + n * 0x100, 1, 1, 0, .ro, 6⟩
/-- IE_CHn_RES_FLG.MIG: under R71. -/
def IE_CH_RES_FLG_MIG (n : Nat) : Fld := ⟨0x030048 + n * 0x100, 2, 1, 0, .ro, 6⟩
/-- IE_CHn_RES_FLG.EMPTY: frequency window without a result. -/
def IE_CH_RES_FLG_EMPTY (n : Nat) : Fld := ⟨0x030048 + n * 0x100, 3, 1, 0, .ro, 6⟩
/-- IE_CHn_RES_FLG.GATE_IGN: gate edge ignored under R76. -/
def IE_CH_RES_FLG_GATE_IGN (n : Nat) : Fld := ⟨0x030048 + n * 0x100, 4, 1, 0, .ro, 6⟩
/-- IE_CHn_RES_FLG.CORR_VALID: RES_SEC and RES_NSF valid. -/
def IE_CH_RES_FLG_CORR_VALID (n : Nat) : Fld := ⟨0x030048 + n * 0x100, 5, 1, 0, .ro, 6⟩
/-- IE_CHn_RES_FLG.CALGAP: edges missed for calibration before this result. -/
def IE_CH_RES_FLG_CALGAP (n : Nat) : Fld := ⟨0x030048 + n * 0x100, 6, 1, 0, .ro, 6⟩
/-- IE_CHn_RES_FLG.COUNT: n of a frequency result. -/
def IE_CH_RES_FLG_COUNT (n : Nat) : Fld := ⟨0x030048 + n * 0x100, 16, 24, 0x000000, .ro, 6⟩
/-- IE_CHn_RES_FLG, at offset 0x03_0048 + n × 0x100, holds the latched result's flags. -/
def R_IE_CH_RES_FLG : RegForm := ⟨0x030048, 32, 0x100, 1, 0x0, fun n _ => [IE_CH_RES_FLG_EDGE n, IE_CH_RES_FLG_CAL_STALE n, IE_CH_RES_FLG_MIG n, IE_CH_RES_FLG_EMPTY n, IE_CH_RES_FLG_GATE_IGN n, IE_CH_RES_FLG_CORR_VALID n, IE_CH_RES_FLG_CALGAP n, IE_CH_RES_FLG_COUNT n]⟩
/-- IE_STm_CFG.EN: writing 1 starts a block; 0 stops. -/
def IE_ST_CFG_EN (n : Nat) : Fld := ⟨0x032000 + n * 0x100, 0, 1, 0, .rw, 6⟩
/-- IE_STm_CFG.SRC: channel watched. -/
def IE_ST_CFG_SRC (n : Nat) : Fld := ⟨0x032000 + n * 0x100, 1, 5, 0, .rw, 6⟩
/-- IE_STm_CFG.CONT: 1: continuous blocks. -/
def IE_ST_CFG_CONT (n : Nat) : Fld := ⟨0x032000 + n * 0x100, 6, 1, 0, .rw, 6⟩
/-- IE_STm_CFG.N: block length; 0 means 2^24. -/
def IE_ST_CFG_N (n : Nat) : Fld := ⟨0x032000 + n * 0x100, 8, 24, 0x000400, .rw, 6⟩
/-- IE_STm_CFG, at offset 0x03_2000 + m × 0x100, controls statistics engine m. -/
def R_IE_ST_CFG : RegForm := ⟨0x032000, 8, 0x100, 1, 0x0, fun n _ => [IE_ST_CFG_EN n, IE_ST_CFG_SRC n, IE_ST_CFG_CONT n, IE_ST_CFG_N n]⟩
/-- IE_STm_STAT.N_DONE: count of the latched block. -/
def IE_ST_STAT_N_DONE (n : Nat) : Fld := ⟨0x032008 + n * 0x100, 0, 25, 0x0000000, .ro, 6⟩
/-- IE_STm_STAT.DONE: one-shot block complete. -/
def IE_ST_STAT_DONE (n : Nat) : Fld := ⟨0x032008 + n * 0x100, 25, 1, 0, .w1c, 6⟩
/-- IE_STm_STAT.MIG: under R79. -/
def IE_ST_STAT_MIG (n : Nat) : Fld := ⟨0x032008 + n * 0x100, 26, 1, 0, .ro, 6⟩
/-- IE_STm_STAT.CALGAP: under R79. -/
def IE_ST_STAT_CALGAP (n : Nat) : Fld := ⟨0x032008 + n * 0x100, 27, 1, 0, .ro, 6⟩
/-- IE_STm_STAT.SAT: samples excluded. -/
def IE_ST_STAT_SAT (n : Nat) : Fld := ⟨0x032008 + n * 0x100, 28, 1, 0, .ro, 6⟩
/-- IE_STm_STAT.DIP: dip episode overlapped. -/
def IE_ST_STAT_DIP (n : Nat) : Fld := ⟨0x032008 + n * 0x100, 29, 1, 0, .ro, 6⟩
/-- IE_STm_STAT.SEQ: blocks latched since EN, wrapping. -/
def IE_ST_STAT_SEQ (n : Nat) : Fld := ⟨0x032008 + n * 0x100, 32, 16, 0x0000, .ro, 6⟩
/-- IE_STm_STAT.EXCL: samples excluded, saturating. -/
def IE_ST_STAT_EXCL (n : Nat) : Fld := ⟨0x032008 + n * 0x100, 48, 16, 0x0000, .ro, 6⟩
/-- IE_STm_STAT, at offset 0x03_2008 + m × 0x100, describes the last latched block. A read of it latches the result registers under R80. -/
def R_IE_ST_STAT : RegForm := ⟨0x032008, 8, 0x100, 1, 0x0, fun n _ => [IE_ST_STAT_N_DONE n, IE_ST_STAT_DONE n, IE_ST_STAT_MIG n, IE_ST_STAT_CALGAP n, IE_ST_STAT_SAT n, IE_ST_STAT_DIP n, IE_ST_STAT_SEQ n, IE_ST_STAT_EXCL n]⟩
/-- IE_STm_MEAN.MEAN: mean, in the unit of x. -/
def IE_ST_MEAN_MEAN (n : Nat) : Fld := ⟨0x032010 + n * 0x100, 0, 64, 0, .ro, 6⟩
/-- The nine result registers of engine m follow at offsets from 0x03_2010 + m × 0x100. Each is RO, resets to 0 and is kept through F I. -/
def R_IE_ST_MEAN : RegForm := ⟨0x032010, 8, 0x100, 1, 0x0, fun n _ => [IE_ST_MEAN_MEAN n]⟩
/-- IE_STm_SD.SD: sample deviation, unsigned, in the unit of x. -/
def IE_ST_SD_SD (n : Nat) : Fld := ⟨0x032018 + n * 0x100, 0, 64, 0, .ro, 6⟩
/-- The nine result registers of engine m follow at offsets from 0x03_2010 + m × 0x100. Each is RO, resets to 0 and is kept through F I. -/
def R_IE_ST_SD : RegForm := ⟨0x032018, 8, 0x100, 1, 0x0, fun n _ => [IE_ST_SD_SD n]⟩
/-- IE_STm_MIN.MIN: smallest x. -/
def IE_ST_MIN_MIN (n : Nat) : Fld := ⟨0x032020 + n * 0x100, 0, 64, 0, .ro, 6⟩
/-- The nine result registers of engine m follow at offsets from 0x03_2010 + m × 0x100. Each is RO, resets to 0 and is kept through F I. -/
def R_IE_ST_MIN : RegForm := ⟨0x032020, 8, 0x100, 1, 0x0, fun n _ => [IE_ST_MIN_MIN n]⟩
/-- IE_STm_MAX.MAX: largest x. -/
def IE_ST_MAX_MAX (n : Nat) : Fld := ⟨0x032028 + n * 0x100, 0, 64, 0, .ro, 6⟩
/-- The nine result registers of engine m follow at offsets from 0x03_2010 + m × 0x100. Each is RO, resets to 0 and is kept through F I. -/
def R_IE_ST_MAX : RegForm := ⟨0x032028, 8, 0x100, 1, 0x0, fun n _ => [IE_ST_MAX_MAX n]⟩
/-- IE_STm_X1.X1: first x of the block. -/
def IE_ST_X1_X1 (n : Nat) : Fld := ⟨0x032030 + n * 0x100, 0, 64, 0, .ro, 6⟩
/-- The nine result registers of engine m follow at offsets from 0x03_2010 + m × 0x100. Each is RO, resets to 0 and is kept through F I. -/
def R_IE_ST_X1 : RegForm := ⟨0x032030, 8, 0x100, 1, 0x0, fun n _ => [IE_ST_X1_X1 n]⟩
/-- IE_STm_SUM_LO.SUM: bits [63:0] of s. -/
def IE_ST_SUM_LO_SUM (n : Nat) : Fld := ⟨0x032038 + n * 0x100, 0, 64, 0, .ro, 6⟩
/-- The nine result registers of engine m follow at offsets from 0x03_2010 + m × 0x100. Each is RO, resets to 0 and is kept through F I. -/
def R_IE_ST_SUM_LO : RegForm := ⟨0x032038, 8, 0x100, 1, 0x0, fun n _ => [IE_ST_SUM_LO_SUM n]⟩
/-- IE_STm_SUM_HI.SUM: bits [79:64] of s; [63:16] reserved. -/
def IE_ST_SUM_HI_SUM (n : Nat) : Fld := ⟨0x032040 + n * 0x100, 0, 16, 0, .ro, 6⟩
/-- The nine result registers of engine m follow at offsets from 0x03_2010 + m × 0x100. Each is RO, resets to 0 and is kept through F I. -/
def R_IE_ST_SUM_HI : RegForm := ⟨0x032040, 8, 0x100, 1, 0x0, fun n _ => [IE_ST_SUM_HI_SUM n]⟩
/-- IE_STm_SQ_LO.SQ: bits [63:0] of q. -/
def IE_ST_SQ_LO_SQ (n : Nat) : Fld := ⟨0x032048 + n * 0x100, 0, 64, 0, .ro, 6⟩
/-- The nine result registers of engine m follow at offsets from 0x03_2010 + m × 0x100. Each is RO, resets to 0 and is kept through F I. -/
def R_IE_ST_SQ_LO : RegForm := ⟨0x032048, 8, 0x100, 1, 0x0, fun n _ => [IE_ST_SQ_LO_SQ n]⟩
/-- IE_STm_SQ_HI.SQ: bits [127:64] of q. -/
def IE_ST_SQ_HI_SQ (n : Nat) : Fld := ⟨0x032050 + n * 0x100, 0, 64, 0, .ro, 6⟩
/-- The nine result registers of engine m follow at offsets from 0x03_2010 + m × 0x100. Each is RO, resets to 0 and is kept through F I. -/
def R_IE_ST_SQ_HI : RegForm := ⟨0x032050, 8, 0x100, 1, 0x0, fun n _ => [IE_ST_SQ_HI_SQ n]⟩
/-- IE_CAL_CFG.PERIOD: recalibration period in seconds; 0 acts as 1. -/
def IE_CAL_CFG_PERIOD : Fld := ⟨0x033000, 0, 16, 0x0E10, .rw, 23⟩
/-- IE_CAL_CFG.TEMP_DELTA: temperature trigger in °C; 0 acts as 1. -/
def IE_CAL_CFG_TEMP_DELTA : Fld := ⟨0x033000, 16, 4, 5, .rw, 23⟩
/-- IE_CAL_CFG.LOG2_COUNT: log2 of H; values below 16 act as 16, above 24 as 24. -/
def IE_CAL_CFG_LOG2_COUNT : Fld := ⟨0x033000, 20, 5, 20, .rw, 23⟩
/-- IE_CAL_CFG.AUTO: 1: automatic calibration under R82. -/
def IE_CAL_CFG_AUTO : Fld := ⟨0x033000, 25, 1, 1, .rw, 23⟩
/-- IE_CAL_CFG.SKIP: 1 in bit 32 + n: CH n not calibrated automatically. -/
def IE_CAL_CFG_SKIP : Fld := ⟨0x033000, 32, 32, 0x00000000, .rw, 23⟩
/-- IE_CAL_CFG, at offset 0x03_3000, controls calibration. -/
def R_IE_CAL_CFG : RegForm := ⟨0x033000, 1, 0x0, 1, 0x0, fun _ _ => [IE_CAL_CFG_PERIOD, IE_CAL_CFG_TEMP_DELTA, IE_CAL_CFG_LOG2_COUNT, IE_CAL_CFG_AUTO, IE_CAL_CFG_SKIP]⟩
/-- IE_CAL_REQ.CH: channel to calibrate. -/
def IE_CAL_REQ_CH : Fld := ⟨0x033008, 0, 5, 0, .wo, 0⟩
/-- IE_CAL_REQ.GO: 1: queue channel CH. -/
def IE_CAL_REQ_GO : Fld := ⟨0x033008, 5, 1, 0, .wo, 0⟩
/-- IE_CAL_REQ.ALL: 1: queue every enabled channel; CH is ignored. -/
def IE_CAL_REQ_ALL : Fld := ⟨0x033008, 6, 1, 0, .wo, 0⟩
/-- IE_CAL_REQ, at offset 0x03_3008, requests calibration. -/
def R_IE_CAL_REQ : RegForm := ⟨0x033008, 1, 0x0, 1, 0x0, fun _ _ => [IE_CAL_REQ_CH, IE_CAL_REQ_GO, IE_CAL_REQ_ALL]⟩
/-- IE_CAL_STAT.CUR: channel in calibration. -/
def IE_CAL_STAT_CUR : Fld := ⟨0x033010, 0, 5, 0, .ro, 0⟩
/-- IE_CAL_STAT.BUSY: calibration in progress. -/
def IE_CAL_STAT_BUSY : Fld := ⟨0x033010, 5, 1, 0, .ro, 0⟩
/-- IE_CAL_STAT.VALID: 1 in bit 32 + n: CH n calibrated and not stale. -/
def IE_CAL_STAT_VALID : Fld := ⟨0x033010, 32, 32, 0x00000000, .ro, 6⟩
/-- IE_CAL_STAT, at offset 0x03_3010, reports calibration. -/
def R_IE_CAL_STAT : RegForm := ⟨0x033010, 1, 0x0, 1, 0x0, fun _ _ => [IE_CAL_STAT_CUR, IE_CAL_STAT_BUSY, IE_CAL_STAT_VALID]⟩
/-- IE_EVT.CAL_DONE: calibration took effect, event 0x0210. -/
def IE_EVT_CAL_DONE : Fld := ⟨0x033018, 0, 1, 0, .w1c, 7⟩
/-- IE_EVT.CAL_FAIL: calibration rejected, event 0x0211. -/
def IE_EVT_CAL_FAIL : Fld := ⟨0x033018, 1, 1, 0, .w1c, 7⟩
/-- IE_EVT.CAL_STALE: a channel became stale, event 0x0212. -/
def IE_EVT_CAL_STALE : Fld := ⟨0x033018, 2, 1, 0, .w1c, 7⟩
/-- IE_EVT.OVF: a result buffer overflowed, event 0x0213. -/
def IE_EVT_OVF : Fld := ⟨0x033018, 3, 1, 0, .w1c, 7⟩
/-- IE_EVT, at offset 0x03_3018, holds sticky event flags. Each flag is set together with its journal event. -/
def R_IE_EVT : RegForm := ⟨0x033018, 1, 0x0, 1, 0x0, fun _ _ => [IE_EVT_CAL_DONE, IE_EVT_CAL_FAIL, IE_EVT_CAL_STALE, IE_EVT_OVF]⟩
/-- Registers of these chapters, in the order of the spec, part 1. -/
def formsTimebase1 : List RegForm := [R_TB_SRC_CFG, R_TB_SRC_REQ, R_TB_STAT, R_TB_EVT, R_TB_LIMITS, R_TB_XO_AGE, R_TB_XO_FOFS, R_TB_THERM, R_TB_MIG_RATIO, R_IE_CH_CFG, R_IE_CH_IN, R_IE_CH_NOM, R_IE_CH_STAT, R_IE_CH_UNC, R_IE_CH_RES_RAW, R_IE_CH_RES_PH, R_IE_CH_RES_SEC, R_IE_CH_RES_NSF, R_IE_CH_RES_FLG, R_IE_ST_CFG, R_IE_ST_STAT, R_IE_ST_MEAN, R_IE_ST_SD, R_IE_ST_MIN, R_IE_ST_MAX, R_IE_ST_X1, R_IE_ST_SUM_LO, R_IE_ST_SUM_HI, R_IE_ST_SQ_LO, R_IE_ST_SQ_HI]
/-- Registers of these chapters, in the order of the spec, part 2. -/
def formsTimebase2 : List RegForm := [R_IE_CAL_CFG, R_IE_CAL_REQ, R_IE_CAL_STAT, R_IE_EVT]

end Sys2Proof.Machine.F
end

