-- ==== Sys2Proof/Machine/FieldsWire.lean ====
section
/-! DEFINITION. The register fields of the blocks of chapters 10, 11, 12 of spec/, one definition per field, written from the
register tables of those chapters: offset, lowest bit, width, reset value, access code (R5) and kept-through letters (R6). -/
namespace Sys2Proof.Machine.F

/-- LN_LANEn_CFG.EN: 1: lane enabled. -/
def LN_LANE_CFG_EN (n : Nat) : Fld := ⟨0x090000 + n * 0x1000, 0, 1, 0, .rw, 23⟩
/-- LN_LANEn_CFG.MODE: 0 off, 1 10GBASE-R, 2 25GBASE-R, 3 1000BASE-X. -/
def LN_LANE_CFG_MODE (n : Nat) : Fld := ⟨0x090000 + n * 0x1000, 1, 3, 0, .ro, 23⟩
/-- LN_LANEn_CFG.FEC: 0 none, 1 clause 74, 2 clause 108. -/
def LN_LANE_CFG_FEC (n : Nat) : Fld := ⟨0x090000 + n * 0x1000, 4, 2, 0, .ro, 23⟩
/-- LN_LANEn_CFG.TRAIN: 1: training under R193. -/
def LN_LANE_CFG_TRAIN (n : Nat) : Fld := ⟨0x090000 + n * 0x1000, 6, 1, 0, .ro, 23⟩
/-- LN_LANEn_CFG.IDLE: 1: electrical idle under R197. -/
def LN_LANE_CFG_IDLE (n : Nat) : Fld := ⟨0x090000 + n * 0x1000, 7, 1, 0, .rw, 7⟩
/-- LN_LANEn_CFG.AN: LN5 in 1000BASE-X: clause 37 auto-negotiation. -/
def LN_LANE_CFG_AN (n : Nat) : Fld := ⟨0x090000 + n * 0x1000, 8, 1, 1, .rw, 23⟩
/-- LN_LANEn_CFG.WAKE_EN: LN4 only: wake detector enabled. -/
def LN_LANE_CFG_WAKE_EN (n : Nat) : Fld := ⟨0x090000 + n * 0x1000, 9, 1, 0, .rw, 23⟩
/-- LN_LANEn_CFG, at offset 0x09_0000 + n × 0x1000, configures lane n. -/
def R_LN_LANE_CFG : RegForm := ⟨0x090000, 6, 0x1000, 1, 0x0, fun n _ => [LN_LANE_CFG_EN n, LN_LANE_CFG_MODE n, LN_LANE_CFG_FEC n, LN_LANE_CFG_TRAIN n, LN_LANE_CFG_IDLE n, LN_LANE_CFG_AN n, LN_LANE_CFG_WAKE_EN n]⟩
/-- LN_LANEn_EQ.PRE: static pre-cursor tap. -/
def LN_LANE_EQ_PRE (n : Nat) : Fld := ⟨0x090008 + n * 0x1000, 0, 4, 4, .rw, 23⟩
/-- LN_LANEn_EQ.MAIN: static main tap. -/
def LN_LANE_EQ_MAIN (n : Nat) : Fld := ⟨0x090008 + n * 0x1000, 8, 6, 48, .rw, 23⟩
/-- LN_LANEn_EQ.POST: static post-cursor tap. -/
def LN_LANE_EQ_POST (n : Nat) : Fld := ⟨0x090008 + n * 0x1000, 16, 5, 8, .rw, 23⟩
/-- LN_LANEn_EQ.T_PRE: pre-cursor tap in use. -/
def LN_LANE_EQ_T_PRE (n : Nat) : Fld := ⟨0x090008 + n * 0x1000, 32, 4, 4, .ro, 6⟩
/-- LN_LANEn_EQ.T_MAIN: main tap in use. -/
def LN_LANE_EQ_T_MAIN (n : Nat) : Fld := ⟨0x090008 + n * 0x1000, 40, 6, 48, .ro, 6⟩
/-- LN_LANEn_EQ.T_POST: post-cursor tap in use. -/
def LN_LANE_EQ_T_POST (n : Nat) : Fld := ⟨0x090008 + n * 0x1000, 48, 5, 8, .ro, 6⟩
/-- LN_LANEn_EQ.RETRY: training failures before static use; 0 acts as 1. -/
def LN_LANE_EQ_RETRY (n : Nat) : Fld := ⟨0x090008 + n * 0x1000, 56, 4, 3, .rw, 23⟩
/-- LN_LANEn_EQ, at offset 0x09_0008 + n × 0x1000, holds the equaliser. -/
def R_LN_LANE_EQ : RegForm := ⟨0x090008, 6, 0x1000, 1, 0x0, fun n _ => [LN_LANE_EQ_PRE n, LN_LANE_EQ_MAIN n, LN_LANE_EQ_POST n, LN_LANE_EQ_T_PRE n, LN_LANE_EQ_T_MAIN n, LN_LANE_EQ_T_POST n, LN_LANE_EQ_RETRY n]⟩
/-- LN_LANEn_LOCK.LOCK_CNT: valid headers to lock. -/
def LN_LANE_LOCK_LOCK_CNT (n : Nat) : Fld := ⟨0x090010 + n * 0x1000, 0, 8, 64, .rw, 23⟩
/-- LN_LANEn_LOCK.UNLOCK_BAD: invalid headers to unlock. -/
def LN_LANE_LOCK_UNLOCK_BAD (n : Nat) : Fld := ⟨0x090010 + n * 0x1000, 8, 8, 16, .rw, 23⟩
/-- LN_LANEn_LOCK.UNLOCK_WIN: window of headers. -/
def LN_LANE_LOCK_UNLOCK_WIN (n : Nat) : Fld := ⟨0x090010 + n * 0x1000, 16, 8, 64, .rw, 23⟩
/-- LN_LANEn_LOCK, at offset 0x09_0010 + n × 0x1000, sets block lock under R194. A zero field acts as 1. An UNLOCK_BAD greater than UNLOCK_WIN acts as UNLOCK_WIN. -/
def R_LN_LANE_LOCK : RegForm := ⟨0x090010, 6, 0x1000, 1, 0x0, fun n _ => [LN_LANE_LOCK_LOCK_CNT n, LN_LANE_LOCK_UNLOCK_BAD n, LN_LANE_LOCK_UNLOCK_WIN n]⟩
/-- LN_LANEn_STAT.STATE: 0 OFF, 1 DOWN, 2 HUNT, 3 LOCKED, 4 IDLE; training is shown as DOWN. -/
def LN_LANE_STAT_STATE (n : Nat) : Fld := ⟨0x090018 + n * 0x1000, 0, 3, 0, .ro, 0⟩
/-- LN_LANEn_STAT.LINK: link up under R194. -/
def LN_LANE_STAT_LINK (n : Nat) : Fld := ⟨0x090018 + n * 0x1000, 3, 1, 0, .ro, 0⟩
/-- LN_LANEn_STAT.FEC_LOCK: FEC lock held. -/
def LN_LANE_STAT_FEC_LOCK (n : Nat) : Fld := ⟨0x090018 + n * 0x1000, 4, 1, 0, .ro, 0⟩
/-- LN_LANEn_STAT.RX_FAULT: local or remote fault received. -/
def LN_LANE_STAT_RX_FAULT (n : Nat) : Fld := ⟨0x090018 + n * 0x1000, 5, 1, 0, .ro, 0⟩
/-- LN_LANEn_STAT.LPI_RX: partner in LPI. -/
def LN_LANE_STAT_LPI_RX (n : Nat) : Fld := ⟨0x090018 + n * 0x1000, 6, 1, 0, .ro, 0⟩
/-- LN_LANEn_STAT.LPI_TX: LN5 transmitting LPI. -/
def LN_LANE_STAT_LPI_TX (n : Nat) : Fld := ⟨0x090018 + n * 0x1000, 7, 1, 0, .ro, 0⟩
/-- LN_LANEn_STAT.STATIC: static coefficients after failed training. -/
def LN_LANE_STAT_STATIC (n : Nat) : Fld := ⟨0x090018 + n * 0x1000, 8, 1, 0, .ro, 0⟩
/-- LN_LANEn_STAT.TXRST: transmitter held until SM lock. -/
def LN_LANE_STAT_TXRST (n : Nat) : Fld := ⟨0x090018 + n * 0x1000, 9, 1, 1, .ro, 0⟩
/-- LN_LANEn_STAT, at offset 0x09_0018 + n × 0x1000, reports lane n. -/
def R_LN_LANE_STAT : RegForm := ⟨0x090018, 6, 0x1000, 1, 0x0, fun n _ => [LN_LANE_STAT_STATE n, LN_LANE_STAT_LINK n, LN_LANE_STAT_FEC_LOCK n, LN_LANE_STAT_RX_FAULT n, LN_LANE_STAT_LPI_RX n, LN_LANE_STAT_LPI_TX n, LN_LANE_STAT_STATIC n, LN_LANE_STAT_TXRST n]⟩
/-- LN_LANEn_EVT.LINK_UP: event 0x0601. -/
def LN_LANE_EVT_LINK_UP (n : Nat) : Fld := ⟨0x090020 + n * 0x1000, 0, 1, 0, .w1c, 7⟩
/-- LN_LANEn_EVT.LINK_DOWN: event 0x0602. -/
def LN_LANE_EVT_LINK_DOWN (n : Nat) : Fld := ⟨0x090020 + n * 0x1000, 1, 1, 0, .w1c, 7⟩
/-- LN_LANEn_EVT.TRAIN_FAIL: event 0x0603. -/
def LN_LANE_EVT_TRAIN_FAIL (n : Nat) : Fld := ⟨0x090020 + n * 0x1000, 2, 1, 0, .w1c, 7⟩
/-- LN_LANEn_EVT.FEC_UNCORR: event 0x0604. -/
def LN_LANE_EVT_FEC_UNCORR (n : Nat) : Fld := ⟨0x090020 + n * 0x1000, 3, 1, 0, .w1c, 7⟩
/-- LN_LANEn_EVT.EQ_REJ: event 0x0605. -/
def LN_LANE_EVT_EQ_REJ (n : Nat) : Fld := ⟨0x090020 + n * 0x1000, 4, 1, 0, .w1c, 7⟩
/-- LN_LANEn_EVT.LPI_RX: event 0x0606. -/
def LN_LANE_EVT_LPI_RX (n : Nat) : Fld := ⟨0x090020 + n * 0x1000, 5, 1, 0, .w1c, 7⟩
/-- LN_LANEn_EVT.WAKE: event 0x0608. -/
def LN_LANE_EVT_WAKE (n : Nat) : Fld := ⟨0x090020 + n * 0x1000, 6, 1, 0, .w1c, 7⟩
/-- LN_LANEn_EVT.IDLE_EXIT: event 0x060A. -/
def LN_LANE_EVT_IDLE_EXIT (n : Nat) : Fld := ⟨0x090020 + n * 0x1000, 7, 1, 0, .w1c, 7⟩
/-- LN_LANEn_EVT, at offset 0x09_0020 + n × 0x1000, holds sticky flags set together with their events. -/
def R_LN_LANE_EVT : RegForm := ⟨0x090020, 6, 0x1000, 1, 0x0, fun n _ => [LN_LANE_EVT_LINK_UP n, LN_LANE_EVT_LINK_DOWN n, LN_LANE_EVT_TRAIN_FAIL n, LN_LANE_EVT_FEC_UNCORR n, LN_LANE_EVT_EQ_REJ n, LN_LANE_EVT_LPI_RX n, LN_LANE_EVT_WAKE n, LN_LANE_EVT_IDLE_EXIT n]⟩
/-- LN_LANEn_CNT_HDR.BAD_HDR: invalid sync headers. -/
def LN_LANE_CNT_HDR_BAD_HDR (n : Nat) : Fld := ⟨0x090028 + n * 0x1000, 0, 32, 0, .rc, 7⟩
/-- LN_LANEn_CNT_HDR.LOCK_LOSS: LOCKED to HUNT transitions. -/
def LN_LANE_CNT_HDR_LOCK_LOSS (n : Nat) : Fld := ⟨0x090028 + n * 0x1000, 32, 32, 0, .rc, 7⟩
/-- The counters and latencies of lane n follow. The counters are RC and saturate. The latencies are RO and unsigned, with an LSB of 1 fs. LN_LANEn_TX_LAT and RX_LAT hold the values measured by self-calibration under Egress appointments and timestamps. -/
def R_LN_LANE_CNT_HDR : RegForm := ⟨0x090028, 6, 0x1000, 1, 0x0, fun n _ => [LN_LANE_CNT_HDR_BAD_HDR n, LN_LANE_CNT_HDR_LOCK_LOSS n]⟩
/-- LN_LANEn_CNT_FEC.CORR: corrected blocks or codewords. -/
def LN_LANE_CNT_FEC_CORR (n : Nat) : Fld := ⟨0x090030 + n * 0x1000, 0, 32, 0, .rc, 7⟩
/-- LN_LANEn_CNT_FEC.UNCORR: uncorrectable under R195. -/
def LN_LANE_CNT_FEC_UNCORR (n : Nat) : Fld := ⟨0x090030 + n * 0x1000, 32, 32, 0, .rc, 7⟩
/-- The counters and latencies of lane n follow. The counters are RC and saturate. The latencies are RO and unsigned, with an LSB of 1 fs. LN_LANEn_TX_LAT and RX_LAT hold the values measured by self-calibration under Egress appointments and timestamps. -/
def R_LN_LANE_CNT_FEC : RegForm := ⟨0x090030, 6, 0x1000, 1, 0x0, fun n _ => [LN_LANE_CNT_FEC_CORR n, LN_LANE_CNT_FEC_UNCORR n]⟩
/-- LN_LANEn_TX_LAT.LAT: transmit latency; [63:32] reserved. -/
def LN_LANE_TX_LAT_LAT (n : Nat) : Fld := ⟨0x090040 + n * 0x1000, 0, 32, 0, .ro, 7⟩
/-- The counters and latencies of lane n follow. The counters are RC and saturate. The latencies are RO and unsigned, with an LSB of 1 fs. LN_LANEn_TX_LAT and RX_LAT hold the values measured by self-calibration under Egress appointments and timestamps. -/
def R_LN_LANE_TX_LAT : RegForm := ⟨0x090040, 6, 0x1000, 1, 0x0, fun n _ => [LN_LANE_TX_LAT_LAT n]⟩
/-- LN_LANEn_RX_LAT.LAT: receive latency; [63:32] reserved. -/
def LN_LANE_RX_LAT_LAT (n : Nat) : Fld := ⟨0x090048 + n * 0x1000, 0, 32, 0, .ro, 7⟩
/-- The counters and latencies of lane n follow. The counters are RC and saturate. The latencies are RO and unsigned, with an LSB of 1 fs. LN_LANEn_TX_LAT and RX_LAT hold the values measured by self-calibration under Egress appointments and timestamps. -/
def R_LN_LANE_RX_LAT : RegForm := ⟨0x090048, 6, 0x1000, 1, 0x0, fun n _ => [LN_LANE_RX_LAT_LAT n]⟩
/-- LN_LANEn_FEC_LAT.TX: transmit FEC latency under R191. -/
def LN_LANE_FEC_LAT_TX (n : Nat) : Fld := ⟨0x090050 + n * 0x1000, 0, 32, 0, .ro, 7⟩
/-- LN_LANEn_FEC_LAT.RX: receive FEC latency under R191. -/
def LN_LANE_FEC_LAT_RX (n : Nat) : Fld := ⟨0x090050 + n * 0x1000, 32, 32, 0, .ro, 7⟩
/-- The counters and latencies of lane n follow. The counters are RC and saturate. The latencies are RO and unsigned, with an LSB of 1 fs. LN_LANEn_TX_LAT and RX_LAT hold the values measured by self-calibration under Egress appointments and timestamps. -/
def R_LN_LANE_FEC_LAT : RegForm := ⟨0x090050, 6, 0x1000, 1, 0x0, fun n _ => [LN_LANE_FEC_LAT_TX n, LN_LANE_FEC_LAT_RX n]⟩
/-- LN_LANE5_LPI.EN: 1: LPI permitted. -/
def LN_LANE5_LPI_EN : Fld := ⟨0x095058, 0, 1, 0, .rw, 23⟩
/-- LN_LANE5_LPI.TW: wake time, LSB 1 µs; 0 acts as 1. -/
def LN_LANE5_LPI_TW : Fld := ⟨0x095058, 8, 8, 16, .rw, 23⟩
/-- LN_LANE5_LPI.IDLE_TIME: idle before entry, LSB 1 µs. -/
def LN_LANE5_LPI_IDLE_TIME : Fld := ⟨0x095058, 16, 16, 0x0064, .rw, 23⟩
/-- LN_LANE5_LPI, at offset 0x09_5058, controls transmit LPI under R196. -/
def R_LN_LANE5_LPI : RegForm := ⟨0x095058, 1, 0x0, 1, 0x0, fun _ _ => [LN_LANE5_LPI_EN, LN_LANE5_LPI_TW, LN_LANE5_LPI_IDLE_TIME]⟩
/-- LN_WAKE_PATw.PAT: frame bytes 8w to 8w + 7; byte 8w in [7:0]. -/
def LN_WAKE_PAT_PAT (n : Nat) : Fld := ⟨0x094100 + n * 0x8, 0, 64, 0, .rw, 23⟩
/-- LN_WAKE_PATw, at offset 0x09_4100 + w × 8 for w from 0 to 7, and LN_WAKE_MASK, at offset 0x09_4140, hold the wake pattern under R198. -/
def R_LN_WAKE_PAT : RegForm := ⟨0x094100, 8, 0x8, 1, 0x0, fun n _ => [LN_WAKE_PAT_PAT n]⟩
/-- LN_WAKE_MASK.MASK: bit b = 1: byte b compared. -/
def LN_WAKE_MASK_MASK : Fld := ⟨0x094140, 0, 64, 0, .rw, 23⟩
/-- LN_WAKE_PATw, at offset 0x09_4100 + w × 8 for w from 0 to 7, and LN_WAKE_MASK, at offset 0x09_4140, hold the wake pattern under R198. -/
def R_LN_WAKE_MASK : RegForm := ⟨0x094140, 1, 0x0, 1, 0x0, fun _ _ => [LN_WAKE_MASK_MASK]⟩
/-- MAC_PORTp_CFG.EN: 1: MAC enabled. -/
def MAC_PORT_CFG_EN (n : Nat) : Fld := ⟨0x0A0000 + n * 0x1000, 0, 1, 0, .rw, 19⟩
/-- MAC_PORTp_CFG.BCAST: 1: accept broadcast. -/
def MAC_PORT_CFG_BCAST (n : Nat) : Fld := ⟨0x0A0000 + n * 0x1000, 1, 1, 1, .rw, 19⟩
/-- MAC_PORTp_CFG.ERR_DELIVER: 1: deliver error frames under R199. -/
def MAC_PORT_CFG_ERR_DELIVER (n : Nat) : Fld := ⟨0x0A0000 + n * 0x1000, 2, 1, 0, .rw, 19⟩
/-- MAC_PORTp_CFG.PAUSE_RX_EN: 1: act on PAUSE under R201. -/
def MAC_PORT_CFG_PAUSE_RX_EN (n : Nat) : Fld := ⟨0x0A0000 + n * 0x1000, 3, 1, 1, .rw, 19⟩
/-- MAC_PORTp_CFG.MAX_LEN: bytes; below 1,518 acts as 1,518, above 9,216 as 9,216. -/
def MAC_PORT_CFG_MAX_LEN (n : Nat) : Fld := ⟨0x0A0000 + n * 0x1000, 4, 14, 0x5EE, .rw, 19⟩
/-- MAC_PORTp_CFG, at offset 0x0A_0000 + p × 0x1000, configures port p. -/
def R_MAC_PORT_CFG : RegForm := ⟨0x0A0000, 6, 0x1000, 1, 0x0, fun n _ => [MAC_PORT_CFG_EN n, MAC_PORT_CFG_BCAST n, MAC_PORT_CFG_ERR_DELIVER n, MAC_PORT_CFG_PAUSE_RX_EN n, MAC_PORT_CFG_MAX_LEN n]⟩
/-- MAC_PORTp_STAT.PAUSED: transmitter paused. -/
def MAC_PORT_STAT_PAUSED (n : Nat) : Fld := ⟨0x0A0008 + n * 0x1000, 0, 1, 0, .ro, 0⟩
/-- MAC_PORTp_STAT.PAUSE_LEFT: quanta remaining. -/
def MAC_PORT_STAT_PAUSE_LEFT (n : Nat) : Fld := ⟨0x0A0008 + n * 0x1000, 16, 16, 0x0000, .ro, 0⟩
/-- MAC_PORTp_STAT, at offset 0x0A_0008 + p × 0x1000, reports PAUSE state. -/
def R_MAC_PORT_STAT : RegForm := ⟨0x0A0008, 6, 0x1000, 1, 0x0, fun n _ => [MAC_PORT_STAT_PAUSED n, MAC_PORT_STAT_PAUSE_LEFT n]⟩
/-- MAC_PORTp_EVT.CTRL_DROP: event 0x0607. -/
def MAC_PORT_EVT_CTRL_DROP (n : Nat) : Fld := ⟨0x0A0010 + n * 0x1000, 0, 1, 0, .w1c, 7⟩
/-- MAC_PORTp_EVT.TX_OVERSIZE: event 0x0609. -/
def MAC_PORT_EVT_TX_OVERSIZE (n : Nat) : Fld := ⟨0x0A0010 + n * 0x1000, 1, 1, 0, .w1c, 7⟩
/-- MAC_PORTp_EVT.RX_OVF: event 0x060B. -/
def MAC_PORT_EVT_RX_OVF (n : Nat) : Fld := ⟨0x0A0010 + n * 0x1000, 2, 1, 0, .w1c, 7⟩
/-- MAC_PORTp_EVT, at offset 0x0A_0010 + p × 0x1000, holds sticky flags set together with their events. -/
def R_MAC_PORT_EVT : RegForm := ⟨0x0A0010, 6, 0x1000, 1, 0x0, fun n _ => [MAC_PORT_EVT_CTRL_DROP n, MAC_PORT_EVT_TX_OVERSIZE n, MAC_PORT_EVT_RX_OVF n]⟩
/-- MAC_PORTp_TX_EXTRA.EXTRA: signed, LSB 1 fs. -/
def MAC_PORT_TX_EXTRA_EXTRA (n : Nat) : Fld := ⟨0x0A0018 + n * 0x1000, 0, 32, 0x00000000, .rw, 23⟩
/-- MAC_PORTp_TX_EXTRA and MAC_PORTp_RX_EXTRA, at offsets 0x0A_0018 and 0x0A_0020 + p × 0x1000, hold the board values between the pins and the connector. -/
def R_MAC_PORT_TX_EXTRA : RegForm := ⟨0x0A0018, 6, 0x1000, 1, 0x0, fun n _ => [MAC_PORT_TX_EXTRA_EXTRA n]⟩
/-- MAC_PORTp_RX_EXTRA.EXTRA: signed, LSB 1 fs. -/
def MAC_PORT_RX_EXTRA_EXTRA (n : Nat) : Fld := ⟨0x0A0020 + n * 0x1000, 0, 32, 0x00000000, .rw, 23⟩
/-- MAC_PORTp_TX_EXTRA and MAC_PORTp_RX_EXTRA, at offsets 0x0A_0018 and 0x0A_0020 + p × 0x1000, hold the board values between the pins and the connector. -/
def R_MAC_PORT_RX_EXTRA : RegForm := ⟨0x0A0020, 6, 0x1000, 1, 0x0, fun n _ => [MAC_PORT_RX_EXTRA_EXTRA n]⟩
/-- MAC_PORTp_ADDRa.ADDR: address; first transmitted byte in [7:0]. -/
def MAC_PORT_ADDR_ADDR (n j : Nat) : Fld := ⟨0x0A0100 + n * 0x1000 + j * 0x8, 0, 48, 0x000000000000, .rw, 19⟩
/-- MAC_PORTp_ADDRa.VALID: 1: entry used. -/
def MAC_PORT_ADDR_VALID (n j : Nat) : Fld := ⟨0x0A0100 + n * 0x1000 + j * 0x8, 48, 1, 0, .rw, 19⟩
/-- MAC_PORTp_ADDRa, at offset 0x0A_0100 + p × 0x1000 + a × 8 for a from 0 to 15, holds address entry a. -/
def R_MAC_PORT_ADDR : RegForm := ⟨0x0A0100, 6, 0x1000, 16, 0x8, fun n j => [MAC_PORT_ADDR_ADDR n j, MAC_PORT_ADDR_VALID n j]⟩
/-- AP_CFG.LEAD: lead time, LSB 10 ns; values below 150 act as 150, above 5,000 as 5,000. -/
def AP_CFG_LEAD : Fld := ⟨0x0B0000, 0, 13, 0x0190, .rw, 19⟩
/-- AP_CFG.MARGIN: arrival margin, LSB 10 ns; values below 10 act as 10, above 200 as 200. -/
def AP_CFG_MARGIN : Fld := ⟨0x0B0000, 16, 8, 30, .rw, 19⟩
/-- AP_CFG.GUARD: guard before an appointment, LSB 1 ns. -/
def AP_CFG_GUARD : Fld := ⟨0x0B0000, 24, 8, 16, .rw, 19⟩
/-- AP_CFG.SEARCH: search span, LSB 100 ns; 0 acts as 1. -/
def AP_CFG_SEARCH : Fld := ⟨0x0B0000, 32, 12, 0x064, .rw, 19⟩
/-- AP_CFG.NA_WAIT: non-appointed wait limit, LSB 100 µs; 0 acts as 1. -/
def AP_CFG_NA_WAIT : Fld := ⟨0x0B0000, 48, 8, 10, .rw, 19⟩
/-- AP_CFG, at offset 0x0B_0000, sets the appointment timing. -/
def R_AP_CFG : RegForm := ⟨0x0B0000, 1, 0x0, 1, 0x0, fun _ _ => [AP_CFG_LEAD, AP_CFG_MARGIN, AP_CFG_GUARD, AP_CFG_SEARCH, AP_CFG_NA_WAIT]⟩
/-- AP_CAL_REQ.PORT: port; values above 5 are ignored. -/
def AP_CAL_REQ_PORT : Fld := ⟨0x0B0008, 0, 3, 0, .wo, 0⟩
/-- AP_CAL_REQ.GO: 1: request calibration of PORT. -/
def AP_CAL_REQ_GO : Fld := ⟨0x0B0008, 3, 1, 0, .wo, 0⟩
/-- AP_CAL_REQ, at offset 0x0B_0008, requests a latency calibration under R219. -/
def R_AP_CAL_REQ : RegForm := ⟨0x0B0008, 1, 0x0, 1, 0x0, fun _ _ => [AP_CAL_REQ_PORT, AP_CAL_REQ_GO]⟩
/-- AP_EVT.MISS_LATE: event 0x0701. -/
def AP_EVT_MISS_LATE : Fld := ⟨0x0B0010, 0, 1, 0, .w1c, 7⟩
/-- AP_EVT.MISS_PAUSED: event 0x0702. -/
def AP_EVT_MISS_PAUSED : Fld := ⟨0x0B0010, 1, 1, 0, .w1c, 7⟩
/-- AP_EVT.MISS_LINK: event 0x0703. -/
def AP_EVT_MISS_LINK : Fld := ⟨0x0B0010, 2, 1, 0, .w1c, 7⟩
/-- AP_EVT.MISS_RELOAD: event 0x0704. -/
def AP_EVT_MISS_RELOAD : Fld := ⟨0x0B0010, 3, 1, 0, .w1c, 7⟩
/-- AP_EVT.REFUSE: event 0x0705. -/
def AP_EVT_REFUSE : Fld := ⟨0x0B0010, 4, 1, 0, .w1c, 7⟩
/-- AP_EVT.NA_DROP: event 0x0706. -/
def AP_EVT_NA_DROP : Fld := ⟨0x0B0010, 5, 1, 0, .w1c, 7⟩
/-- AP_EVT.CAL_DONE: event 0x0710. -/
def AP_EVT_CAL_DONE : Fld := ⟨0x0B0010, 6, 1, 0, .w1c, 7⟩
/-- AP_EVT.CAL_FAIL: event 0x0711. -/
def AP_EVT_CAL_FAIL : Fld := ⟨0x0B0010, 7, 1, 0, .w1c, 7⟩
/-- AP_EVT, at offset 0x0B_0010, holds sticky flags set under R223. -/
def R_AP_EVT : RegForm := ⟨0x0B0010, 1, 0x0, 1, 0x0, fun _ _ => [AP_EVT_MISS_LATE, AP_EVT_MISS_PAUSED, AP_EVT_MISS_LINK, AP_EVT_MISS_RELOAD, AP_EVT_REFUSE, AP_EVT_NA_DROP, AP_EVT_CAL_DONE, AP_EVT_CAL_FAIL]⟩
/-- AP_PORTp_STAT.BOOKED: slots booked, from 0 to 4,096. -/
def AP_PORT_STAT_BOOKED (n : Nat) : Fld := ⟨0x0B1000 + n * 0x100, 0, 13, 0x0000, .ro, 2⟩
/-- AP_PORTp_STAT.CAL_OK: latencies valid under R220. -/
def AP_PORT_STAT_CAL_OK (n : Nat) : Fld := ⟨0x0B1000 + n * 0x100, 13, 1, 0, .ro, 7⟩
/-- AP_PORTp_STAT.CAL_BUSY: calibration in progress. -/
def AP_PORT_STAT_CAL_BUSY (n : Nat) : Fld := ⟨0x0B1000 + n * 0x100, 14, 1, 0, .ro, 0⟩
/-- AP_PORTp_STAT.HOLD: granting stopped under R216. -/
def AP_PORT_STAT_HOLD (n : Nat) : Fld := ⟨0x0B1000 + n * 0x100, 15, 1, 0, .ro, 0⟩
/-- AP_PORTp_STAT.GRID: P: 0 none, 1 1.28 ns, 2 3.2 ns, 3 16 ns. -/
def AP_PORT_STAT_GRID (n : Nat) : Fld := ⟨0x0B1000 + n * 0x100, 16, 2, 0, .ro, 2⟩
/-- AP_PORTp_STAT.GRID_OFS: grid offset under R207, LSB 1 fs. -/
def AP_PORT_STAT_GRID_OFS (n : Nat) : Fld := ⟨0x0B1000 + n * 0x100, 32, 32, 0x00000000, .ro, 7⟩
/-- AP_PORTp_STAT, at offset 0x0B_1000 + p × 0x100, reports port p. -/
def R_AP_PORT_STAT : RegForm := ⟨0x0B1000, 6, 0x100, 1, 0x0, fun n _ => [AP_PORT_STAT_BOOKED n, AP_PORT_STAT_CAL_OK n, AP_PORT_STAT_CAL_BUSY n, AP_PORT_STAT_HOLD n, AP_PORT_STAT_GRID n, AP_PORT_STAT_GRID_OFS n]⟩
/-- AP_PORTp_TXOFS.OFS: TXOFS: dtx under R207; RXOFS: receive offset under R217; LSB 1 fs. -/
def AP_PORT_TXOFS_OFS (n : Nat) : Fld := ⟨0x0B1008 + n * 0x100, 0, 32, 0x00000000, .ro, 7⟩
/-- AP_PORTp_TXOFS and AP_PORTp_RXOFS, at offsets 0x0B_1008 and 0x0B_1010 + p × 0x100, report the offsets in force. -/
def R_AP_PORT_TXOFS : RegForm := ⟨0x0B1008, 6, 0x100, 1, 0x0, fun n _ => [AP_PORT_TXOFS_OFS n]⟩
/-- AP_PORTp_RXOFS.OFS: TXOFS: dtx under R207; RXOFS: receive offset under R217; LSB 1 fs. -/
def AP_PORT_RXOFS_OFS (n : Nat) : Fld := ⟨0x0B1010 + n * 0x100, 0, 32, 0x00000000, .ro, 7⟩
/-- AP_PORTp_TXOFS and AP_PORTp_RXOFS, at offsets 0x0B_1008 and 0x0B_1010 + p × 0x100, report the offsets in force. -/
def R_AP_PORT_RXOFS : RegForm := ⟨0x0B1010, 6, 0x100, 1, 0x0, fun n _ => [AP_PORT_RXOFS_OFS n]⟩
/-- AP_PORTp_CNT_REFUSE.FULL: refused, calendar full. -/
def AP_PORT_CNT_REFUSE_FULL (n : Nat) : Fld := ⟨0x0B1070 + n * 0x100, 0, 16, 0x0000, .rc, 7⟩
/-- AP_PORTp_CNT_REFUSE.NOFIT: refused, no position, bad length or nb too late. -/
def AP_PORT_CNT_REFUSE_NOFIT (n : Nat) : Fld := ⟨0x0B1070 + n * 0x100, 16, 16, 0x0000, .rc, 7⟩
/-- AP_PORTp_CNT_REFUSE.LINK: refused, link down. -/
def AP_PORT_CNT_REFUSE_LINK (n : Nat) : Fld := ⟨0x0B1070 + n * 0x100, 32, 16, 0x0000, .rc, 7⟩
/-- AP_PORTp_CNT_REFUSE.UNCAL: refused, latencies not calibrated. -/
def AP_PORT_CNT_REFUSE_UNCAL (n : Nat) : Fld := ⟨0x0B1070 + n * 0x100, 48, 16, 0x0000, .rc, 7⟩
/-- AP_PORTp_CNT_REFUSE, at offset 0x0B_1070 + p × 0x100, counts refusals under R208. Each field saturates. -/
def R_AP_PORT_CNT_REFUSE : RegForm := ⟨0x0B1070, 6, 0x100, 1, 0x0, fun n _ => [AP_PORT_CNT_REFUSE_FULL n, AP_PORT_CNT_REFUSE_NOFIT n, AP_PORT_CNT_REFUSE_LINK n, AP_PORT_CNT_REFUSE_UNCAL n]⟩
/-- DF_CFG.TTL: ingress lifetime, LSB 1 µs; values below 100 act as 100, above 8,000 as 8,000. -/
def DF_CFG_TTL : Fld := ⟨0x0C0000, 0, 14, 0x07D0, .rw, 19⟩
/-- DF_CFG, at offset 0x0C_0000, sets the token lifetime. -/
def R_DF_CFG : RegForm := ⟨0x0C0000, 1, 0x0, 1, 0x0, fun _ _ => [DF_CFG_TTL]⟩
/-- DF_STAT.STATE: 0 OFF (no image), 1 RUN, 2 RELOAD. -/
def DF_STAT_STATE : Fld := ⟨0x0C0008, 0, 2, 0, .ro, 3⟩
/-- DF_STAT.FLOES: Floes in use. -/
def DF_STAT_FLOES : Fld := ⟨0x0C0008, 8, 6, 0, .ro, 3⟩
/-- DF_STAT.LAYOUT: table-layout version. -/
def DF_STAT_LAYOUT : Fld := ⟨0x0C0008, 16, 16, 0x0000, .ro, 3⟩
/-- DF_STAT.IMG_VER: image version. -/
def DF_STAT_IMG_VER : Fld := ⟨0x0C0008, 32, 32, 0x00000000, .ro, 3⟩
/-- DF_STAT, at offset 0x0C_0008, reports the fabric. -/
def R_DF_STAT : RegForm := ⟨0x0C0008, 1, 0x0, 1, 0x0, fun _ _ => [DF_STAT_STATE, DF_STAT_FLOES, DF_STAT_LAYOUT, DF_STAT_IMG_VER]⟩
/-- DF_EVT.REJECT: event 0x0720. -/
def DF_EVT_REJECT : Fld := ⟨0x0C0010, 0, 1, 0, .w1c, 7⟩
/-- DF_EVT.LOADED: event 0x0721. -/
def DF_EVT_LOADED : Fld := ⟨0x0C0010, 1, 1, 0, .w1c, 7⟩
/-- DF_EVT.RELOAD: event 0x0722. -/
def DF_EVT_RELOAD : Fld := ⟨0x0C0010, 2, 1, 0, .w1c, 7⟩
/-- DF_EVT.LATE: event 0x0723. -/
def DF_EVT_LATE : Fld := ⟨0x0C0010, 3, 1, 0, .w1c, 7⟩
/-- DF_EVT.INOVF: event 0x0724. -/
def DF_EVT_INOVF : Fld := ⟨0x0C0010, 4, 1, 0, .w1c, 7⟩
/-- DF_EVT.BOUNDS: event 0x0725. -/
def DF_EVT_BOUNDS : Fld := ⟨0x0C0010, 5, 1, 0, .w1c, 7⟩
/-- DF_EVT.POISON: event 0x0727. -/
def DF_EVT_POISON : Fld := ⟨0x0C0010, 6, 1, 0, .w1c, 7⟩
/-- DF_EVT, at offset 0x0C_0010, holds sticky flags set under R246. -/
def R_DF_EVT : RegForm := ⟨0x0C0010, 1, 0x0, 1, 0x0, fun _ _ => [DF_EVT_REJECT, DF_EVT_LOADED, DF_EVT_RELOAD, DF_EVT_LATE, DF_EVT_INOVF, DF_EVT_BOUNDS, DF_EVT_POISON]⟩
/-- DF_CNT_RELOAD.TOKENS: tokens discarded, saturating. -/
def DF_CNT_RELOAD_TOKENS : Fld := ⟨0x0C0018, 0, 32, 0x00000000, .rc, 7⟩
/-- DF_CNT_RELOAD, at offset 0x0C_0018, counts tokens discarded by reloads. -/
def R_DF_CNT_RELOAD : RegForm := ⟨0x0C0018, 1, 0x0, 1, 0x0, fun _ _ => [DF_CNT_RELOAD_TOKENS]⟩
/-- DF_DISTr.FLOE0: Floe. -/
def DF_DIST_FLOE0 (n : Nat) : Fld := ⟨0x0C0100 + n * 0x8, 0, 6, 0, .rw, 19⟩
/-- DF_DISTr.FLOE1: Floe. -/
def DF_DIST_FLOE1 (n : Nat) : Fld := ⟨0x0C0100 + n * 0x8, 8, 6, 0, .rw, 19⟩
/-- DF_DISTr.FLOE2: Floe. -/
def DF_DIST_FLOE2 (n : Nat) : Fld := ⟨0x0C0100 + n * 0x8, 16, 6, 0, .rw, 19⟩
/-- DF_DISTr.FLOE3: Floe. -/
def DF_DIST_FLOE3 (n : Nat) : Fld := ⟨0x0C0100 + n * 0x8, 24, 6, 0, .rw, 19⟩
/-- DF_DISTr.FLOE4: Floe. -/
def DF_DIST_FLOE4 (n : Nat) : Fld := ⟨0x0C0100 + n * 0x8, 32, 6, 0, .rw, 19⟩
/-- DF_DISTr.FLOE5: Floe. -/
def DF_DIST_FLOE5 (n : Nat) : Fld := ⟨0x0C0100 + n * 0x8, 40, 6, 0, .rw, 19⟩
/-- DF_DISTr.FLOE6: Floe. -/
def DF_DIST_FLOE6 (n : Nat) : Fld := ⟨0x0C0100 + n * 0x8, 48, 6, 0, .rw, 19⟩
/-- DF_DISTr.FLOE7: Floe. -/
def DF_DIST_FLOE7 (n : Nat) : Fld := ⟨0x0C0100 + n * 0x8, 56, 6, 0, .rw, 19⟩
/-- DF_DISTr, at offset 0x0C_0100 + r × 8 for r from 0 to 31, holds distribution entries 8r to 8r + 7. -/
def R_DF_DIST : RegForm := ⟨0x0C0100, 32, 0x8, 1, 0x0, fun n _ => [DF_DIST_FLOE0 n, DF_DIST_FLOE1 n, DF_DIST_FLOE2 n, DF_DIST_FLOE3 n, DF_DIST_FLOE4 n, DF_DIST_FLOE5 n, DF_DIST_FLOE6 n, DF_DIST_FLOE7 n]⟩
/-- DF_PORTp_CNT.DROP: frames dropped on a full ingress queue, saturating. -/
def DF_PORT_CNT_DROP (n : Nat) : Fld := ⟨0x0C0200 + n * 0x8, 0, 32, 0x00000000, .rc, 7⟩
/-- DF_PORTp_CNT.SLOW: frames sent to host queues, saturating. -/
def DF_PORT_CNT_SLOW (n : Nat) : Fld := ⟨0x0C0200 + n * 0x8, 32, 32, 0x00000000, .rc, 7⟩
/-- DF_PORTp_CNT, at offset 0x0C_0200 + p × 8, counts for port p. -/
def R_DF_PORT_CNT : RegForm := ⟨0x0C0200, 6, 0x8, 1, 0x0, fun n _ => [DF_PORT_CNT_DROP n, DF_PORT_CNT_SLOW n]⟩
/-- DF_FLOEf_STAT.CELLS: cells configured. -/
def DF_FLOE_STAT_CELLS (n : Nat) : Fld := ⟨0x0C1000 + n * 0x40, 0, 7, 0, .ro, 3⟩
/-- DF_FLOEf_STAT.IN_LEVEL: tokens in the ingress queue. -/
def DF_FLOE_STAT_IN_LEVEL (n : Nat) : Fld := ⟨0x0C1000 + n * 0x40, 8, 7, 0, .ro, 3⟩
/-- DF_FLOEf_STAT.EN: Floe in use. -/
def DF_FLOE_STAT_EN (n : Nat) : Fld := ⟨0x0C1000 + n * 0x40, 16, 1, 0, .ro, 3⟩
/-- DF_FLOEf_STAT, at offset 0x0C_1000 + f × 0x40, reports Floe f. -/
def R_DF_FLOE_STAT : RegForm := ⟨0x0C1000, 48, 0x40, 1, 0x0, fun n _ => [DF_FLOE_STAT_CELLS n, DF_FLOE_STAT_IN_LEVEL n, DF_FLOE_STAT_EN n]⟩
/-- CX_HOLD_MAX.AES: LSB 10 ns; 0 acts as 1. -/
def CX_HOLD_MAX_AES : Fld := ⟨0x0E0000, 0, 16, 0x00C8, .rw, 19⟩
/-- CX_HOLD_MAX.SHA: LSB 10 ns; 0 acts as 1. -/
def CX_HOLD_MAX_SHA : Fld := ⟨0x0E0000, 16, 16, 0x00C8, .rw, 19⟩
/-- CX_HOLD_MAX.PK: LSB 1 µs; 0 acts as 1. -/
def CX_HOLD_MAX_PK : Fld := ⟨0x0E0000, 32, 16, 0x01F4, .rw, 19⟩
/-- CX_HOLD_MAX, at offset 0x0E_0000, sets the hold limits under R233. -/
def R_CX_HOLD_MAX : RegForm := ⟨0x0E0000, 1, 0x0, 1, 0x0, fun _ _ => [CX_HOLD_MAX_AES, CX_HOLD_MAX_SHA, CX_HOLD_MAX_PK]⟩
/-- CX_STAT.AES_BUSY: lanes. -/
def CX_STAT_AES_BUSY : Fld := ⟨0x0E0008, 0, 24, 0, .ro, 0⟩
/-- CX_STAT.SHA_BUSY: lanes. -/
def CX_STAT_SHA_BUSY : Fld := ⟨0x0E0008, 24, 12, 0, .ro, 0⟩
/-- CX_STAT.PK_BUSY: lanes. -/
def CX_STAT_PK_BUSY : Fld := ⟨0x0E0008, 36, 2, 0, .ro, 0⟩
/-- CX_STAT and CX_LANE_OFF, at offsets 0x0E_0008 and 0x0E_0010, report the lanes, one bit per lane. -/
def R_CX_STAT : RegForm := ⟨0x0E0008, 1, 0x0, 1, 0x0, fun _ _ => [CX_STAT_AES_BUSY, CX_STAT_SHA_BUSY, CX_STAT_PK_BUSY]⟩
/-- CX_LANE_OFF.AES: lanes. -/
def CX_LANE_OFF_AES : Fld := ⟨0x0E0010, 0, 24, 0, .ro, 23⟩
/-- CX_LANE_OFF.SHA: lanes. -/
def CX_LANE_OFF_SHA : Fld := ⟨0x0E0010, 24, 12, 0, .ro, 23⟩
/-- CX_LANE_OFF.PK: lanes. -/
def CX_LANE_OFF_PK : Fld := ⟨0x0E0010, 36, 2, 0, .ro, 23⟩
/-- CX_STAT and CX_LANE_OFF, at offsets 0x0E_0008 and 0x0E_0010, report the lanes, one bit per lane. -/
def R_CX_LANE_OFF : RegForm := ⟨0x0E0010, 1, 0x0, 1, 0x0, fun _ _ => [CX_LANE_OFF_AES, CX_LANE_OFF_SHA, CX_LANE_OFF_PK]⟩
/-- CX_EVT.REVOKE: event 0x0726. -/
def CX_EVT_REVOKE : Fld := ⟨0x0E0018, 0, 1, 0, .w1c, 7⟩
/-- CX_EVT.LANE_OFF: event 0x0728. -/
def CX_EVT_LANE_OFF : Fld := ⟨0x0E0018, 1, 1, 0, .w1c, 7⟩
/-- CX_EVT.LANE_ON: event 0x0729. -/
def CX_EVT_LANE_ON : Fld := ⟨0x0E0018, 2, 1, 0, .w1c, 7⟩
/-- CX_EVT, at offset 0x0E_0018, holds sticky flags set under R246. -/
def R_CX_EVT : RegForm := ⟨0x0E0018, 1, 0x0, 1, 0x0, fun _ _ => [CX_EVT_REVOKE, CX_EVT_LANE_OFF, CX_EVT_LANE_ON]⟩
/-- CX_CNT_REVOKE.AES: count; for CX_AGE_MAX, LSB 10 ns. -/
def CX_CNT_REVOKE_AES : Fld := ⟨0x0E0020, 0, 16, 0x0000, .rc, 7⟩
/-- CX_CNT_REVOKE.SHA: count; for CX_AGE_MAX, LSB 10 ns. -/
def CX_CNT_REVOKE_SHA : Fld := ⟨0x0E0020, 16, 16, 0x0000, .rc, 7⟩
/-- CX_CNT_REVOKE.PK: count; for CX_AGE_MAX, LSB 1 µs. -/
def CX_CNT_REVOKE_PK : Fld := ⟨0x0E0020, 32, 16, 0x0000, .rc, 7⟩
/-- CX_CNT_REVOKE, at offset 0x0E_0020, counts revocations, and CX_AGE_MAX, at offset 0x0E_0028, holds the longest wait from request to grant since it was last read. All fields saturate. -/
def R_CX_CNT_REVOKE : RegForm := ⟨0x0E0020, 1, 0x0, 1, 0x0, fun _ _ => [CX_CNT_REVOKE_AES, CX_CNT_REVOKE_SHA, CX_CNT_REVOKE_PK]⟩
/-- CX_AGE_MAX.AES: count; for CX_AGE_MAX, LSB 10 ns. -/
def CX_AGE_MAX_AES : Fld := ⟨0x0E0028, 0, 16, 0x0000, .rc, 7⟩
/-- CX_AGE_MAX.SHA: count; for CX_AGE_MAX, LSB 10 ns. -/
def CX_AGE_MAX_SHA : Fld := ⟨0x0E0028, 16, 16, 0x0000, .rc, 7⟩
/-- CX_AGE_MAX.PK: count; for CX_AGE_MAX, LSB 1 µs. -/
def CX_AGE_MAX_PK : Fld := ⟨0x0E0028, 32, 16, 0x0000, .rc, 7⟩
/-- CX_CNT_REVOKE, at offset 0x0E_0020, counts revocations, and CX_AGE_MAX, at offset 0x0E_0028, holds the longest wait from request to grant since it was last read. All fields saturate. -/
def R_CX_AGE_MAX : RegForm := ⟨0x0E0028, 1, 0x0, 1, 0x0, fun _ _ => [CX_AGE_MAX_AES, CX_AGE_MAX_SHA, CX_AGE_MAX_PK]⟩
/-- MAC_PORTp_RX_OK.N: good frames. -/
def MAC_PORT_RX_OK_N (n : Nat) : Fld := ⟨0x0A0040 + n * 0x1000, 0, 48, 0, .rc, 3⟩
/-- The counters of port p. Each is RC and saturates. -/
def R_MAC_PORT_RX_OK : RegForm := ⟨0x0A0040, 6, 0x1000, 1, 0x0, fun n _ => [MAC_PORT_RX_OK_N n]⟩
/-- MAC_PORTp_RX_RUNT.N: fragments and runts. -/
def MAC_PORT_RX_RUNT_N (n : Nat) : Fld := ⟨0x0A0048 + n * 0x1000, 0, 48, 0, .rc, 3⟩
/-- The counters of port p. Each is RC and saturates. -/
def R_MAC_PORT_RX_RUNT : RegForm := ⟨0x0A0048, 6, 0x1000, 1, 0x0, fun n _ => [MAC_PORT_RX_RUNT_N n]⟩
/-- MAC_PORTp_RX_OVERSIZE.N: jabber and oversize. -/
def MAC_PORT_RX_OVERSIZE_N (n : Nat) : Fld := ⟨0x0A0050 + n * 0x1000, 0, 48, 0, .rc, 3⟩
/-- The counters of port p. Each is RC and saturates. -/
def R_MAC_PORT_RX_OVERSIZE : RegForm := ⟨0x0A0050, 6, 0x1000, 1, 0x0, fun n _ => [MAC_PORT_RX_OVERSIZE_N n]⟩
/-- MAC_PORTp_RX_FCS.N: FCS errors. -/
def MAC_PORT_RX_FCS_N (n : Nat) : Fld := ⟨0x0A0058 + n * 0x1000, 0, 48, 0, .rc, 3⟩
/-- The counters of port p. Each is RC and saturates. -/
def R_MAC_PORT_RX_FCS : RegForm := ⟨0x0A0058, 6, 0x1000, 1, 0x0, fun n _ => [MAC_PORT_RX_FCS_N n]⟩
/-- MAC_PORTp_RX_FILTERED.N: address misses. -/
def MAC_PORT_RX_FILTERED_N (n : Nat) : Fld := ⟨0x0A0060 + n * 0x1000, 0, 48, 0, .rc, 3⟩
/-- The counters of port p. Each is RC and saturates. -/
def R_MAC_PORT_RX_FILTERED : RegForm := ⟨0x0A0060, 6, 0x1000, 1, 0x0, fun n _ => [MAC_PORT_RX_FILTERED_N n]⟩
/-- MAC_PORTp_RX_PAUSE.N: PAUSE frames. -/
def MAC_PORT_RX_PAUSE_N (n : Nat) : Fld := ⟨0x0A0068 + n * 0x1000, 0, 48, 0, .rc, 3⟩
/-- The counters of port p. Each is RC and saturates. -/
def R_MAC_PORT_RX_PAUSE : RegForm := ⟨0x0A0068, 6, 0x1000, 1, 0x0, fun n _ => [MAC_PORT_RX_PAUSE_N n]⟩
/-- MAC_PORTp_RX_CTRL_DROP.N: other MAC control frames. -/
def MAC_PORT_RX_CTRL_DROP_N (n : Nat) : Fld := ⟨0x0A0070 + n * 0x1000, 0, 48, 0, .rc, 3⟩
/-- The counters of port p. Each is RC and saturates. -/
def R_MAC_PORT_RX_CTRL_DROP : RegForm := ⟨0x0A0070, 6, 0x1000, 1, 0x0, fun n _ => [MAC_PORT_RX_CTRL_DROP_N n]⟩
/-- MAC_PORTp_RX_OVF.N: buffer overflow drops. -/
def MAC_PORT_RX_OVF_N (n : Nat) : Fld := ⟨0x0A0078 + n * 0x1000, 0, 48, 0, .rc, 3⟩
/-- The counters of port p. Each is RC and saturates. -/
def R_MAC_PORT_RX_OVF : RegForm := ⟨0x0A0078, 6, 0x1000, 1, 0x0, fun n _ => [MAC_PORT_RX_OVF_N n]⟩
/-- MAC_PORTp_TX_OK.N: frames sent. -/
def MAC_PORT_TX_OK_N (n : Nat) : Fld := ⟨0x0A0080 + n * 0x1000, 0, 48, 0, .rc, 3⟩
/-- The counters of port p. Each is RC and saturates. -/
def R_MAC_PORT_TX_OK : RegForm := ⟨0x0A0080, 6, 0x1000, 1, 0x0, fun n _ => [MAC_PORT_TX_OK_N n]⟩
/-- MAC_PORTp_TX_OVERSIZE.N: transmit frames dropped. -/
def MAC_PORT_TX_OVERSIZE_N (n : Nat) : Fld := ⟨0x0A0088 + n * 0x1000, 0, 48, 0, .rc, 3⟩
/-- The counters of port p. Each is RC and saturates. -/
def R_MAC_PORT_TX_OVERSIZE : RegForm := ⟨0x0A0088, 6, 0x1000, 1, 0x0, fun n _ => [MAC_PORT_TX_OVERSIZE_N n]⟩
/-- MAC_PORTp_CNT_PAUSEQ.N: whole quanta spent paused. -/
def MAC_PORT_CNT_PAUSEQ_N (n : Nat) : Fld := ⟨0x0A0090 + n * 0x1000, 0, 48, 0, .rc, 3⟩
/-- The counters of port p. Each is RC and saturates. -/
def R_MAC_PORT_CNT_PAUSEQ : RegForm := ⟨0x0A0090, 6, 0x1000, 1, 0x0, fun n _ => [MAC_PORT_CNT_PAUSEQ_N n]⟩
/-- AP_PORTp_CNT_GRANT.N: appointments granted. -/
def AP_PORT_CNT_GRANT_N (n : Nat) : Fld := ⟨0x0B1020 + n * 0x100, 0, 32, 0, .rc, 7⟩
/-- The counters of port p. Each is RC and saturates. -/
def R_AP_PORT_CNT_GRANT : RegForm := ⟨0x0B1020, 6, 0x100, 1, 0x0, fun n _ => [AP_PORT_CNT_GRANT_N n]⟩
/-- AP_PORTp_CNT_SENT.N: appointed frames sent. -/
def AP_PORT_CNT_SENT_N (n : Nat) : Fld := ⟨0x0B1028 + n * 0x100, 0, 32, 0, .rc, 7⟩
/-- The counters of port p. Each is RC and saturates. -/
def R_AP_PORT_CNT_SENT : RegForm := ⟨0x0B1028, 6, 0x100, 1, 0x0, fun n _ => [AP_PORT_CNT_SENT_N n]⟩
/-- AP_PORTp_CNT_MISS_LATE.N: misses, late from the fabric. -/
def AP_PORT_CNT_MISS_LATE_N (n : Nat) : Fld := ⟨0x0B1030 + n * 0x100, 0, 32, 0, .rc, 7⟩
/-- The counters of port p. Each is RC and saturates. -/
def R_AP_PORT_CNT_MISS_LATE : RegForm := ⟨0x0B1030, 6, 0x100, 1, 0x0, fun n _ => [AP_PORT_CNT_MISS_LATE_N n]⟩
/-- AP_PORTp_CNT_MISS_PAUSED.N: misses, transmitter paused. -/
def AP_PORT_CNT_MISS_PAUSED_N (n : Nat) : Fld := ⟨0x0B1038 + n * 0x100, 0, 32, 0, .rc, 7⟩
/-- The counters of port p. Each is RC and saturates. -/
def R_AP_PORT_CNT_MISS_PAUSED : RegForm := ⟨0x0B1038, 6, 0x100, 1, 0x0, fun n _ => [AP_PORT_CNT_MISS_PAUSED_N n]⟩
/-- AP_PORTp_CNT_MISS_LINK.N: misses, link down. -/
def AP_PORT_CNT_MISS_LINK_N (n : Nat) : Fld := ⟨0x0B1040 + n * 0x100, 0, 32, 0, .rc, 7⟩
/-- The counters of port p. Each is RC and saturates. -/
def R_AP_PORT_CNT_MISS_LINK : RegForm := ⟨0x0B1040, 6, 0x100, 1, 0x0, fun n _ => [AP_PORT_CNT_MISS_LINK_N n]⟩
/-- AP_PORTp_CNT_MISS_RELOAD.N: misses, image reload. -/
def AP_PORT_CNT_MISS_RELOAD_N (n : Nat) : Fld := ⟨0x0B1048 + n * 0x100, 0, 32, 0, .rc, 7⟩
/-- The counters of port p. Each is RC and saturates. -/
def R_AP_PORT_CNT_MISS_RELOAD : RegForm := ⟨0x0B1048, 6, 0x100, 1, 0x0, fun n _ => [AP_PORT_CNT_MISS_RELOAD_N n]⟩
/-- AP_PORTp_CNT_RELEASED.N: slots released under R209. -/
def AP_PORT_CNT_RELEASED_N (n : Nat) : Fld := ⟨0x0B1050 + n * 0x100, 0, 32, 0, .rc, 7⟩
/-- The counters of port p. Each is RC and saturates. -/
def R_AP_PORT_CNT_RELEASED : RegForm := ⟨0x0B1050, 6, 0x100, 1, 0x0, fun n _ => [AP_PORT_CNT_RELEASED_N n]⟩
/-- AP_PORTp_CNT_STRAY.N: messages arriving after their miss. -/
def AP_PORT_CNT_STRAY_N (n : Nat) : Fld := ⟨0x0B1058 + n * 0x100, 0, 32, 0, .rc, 7⟩
/-- The counters of port p. Each is RC and saturates. -/
def R_AP_PORT_CNT_STRAY : RegForm := ⟨0x0B1058, 6, 0x100, 1, 0x0, fun n _ => [AP_PORT_CNT_STRAY_N n]⟩
/-- AP_PORTp_CNT_BADLEN.N: messages discarded for length. -/
def AP_PORT_CNT_BADLEN_N (n : Nat) : Fld := ⟨0x0B1060 + n * 0x100, 0, 32, 0, .rc, 7⟩
/-- The counters of port p. Each is RC and saturates. -/
def R_AP_PORT_CNT_BADLEN : RegForm := ⟨0x0B1060, 6, 0x100, 1, 0x0, fun n _ => [AP_PORT_CNT_BADLEN_N n]⟩
/-- AP_PORTp_CNT_NA_DROP.N: non-appointed frames discarded. -/
def AP_PORT_CNT_NA_DROP_N (n : Nat) : Fld := ⟨0x0B1068 + n * 0x100, 0, 32, 0, .rc, 7⟩
/-- The counters of port p. Each is RC and saturates. -/
def R_AP_PORT_CNT_NA_DROP : RegForm := ⟨0x0B1068, 6, 0x100, 1, 0x0, fun n _ => [AP_PORT_CNT_NA_DROP_N n]⟩
/-- AP_PORTp_CNT_IN_STAMP.N: ingress stamps formed. -/
def AP_PORT_CNT_IN_STAMP_N (n : Nat) : Fld := ⟨0x0B1078 + n * 0x100, 0, 32, 0, .rc, 7⟩
/-- The counters of port p. Each is RC and saturates. -/
def R_AP_PORT_CNT_IN_STAMP : RegForm := ⟨0x0B1078, 6, 0x100, 1, 0x0, fun n _ => [AP_PORT_CNT_IN_STAMP_N n]⟩
/-- AP_PORTp_CNT_IN_HELD.N: stamps with HELD = 1. -/
def AP_PORT_CNT_IN_HELD_N (n : Nat) : Fld := ⟨0x0B1080 + n * 0x100, 0, 32, 0, .rc, 7⟩
/-- The counters of port p. Each is RC and saturates. -/
def R_AP_PORT_CNT_IN_HELD : RegForm := ⟨0x0B1080, 6, 0x100, 1, 0x0, fun n _ => [AP_PORT_CNT_IN_HELD_N n]⟩
/-- AP_PORTp_CNT_IN_INVALID.N: stamps with VALID = 0. -/
def AP_PORT_CNT_IN_INVALID_N (n : Nat) : Fld := ⟨0x0B1088 + n * 0x100, 0, 32, 0, .rc, 7⟩
/-- The counters of port p. Each is RC and saturates. -/
def R_AP_PORT_CNT_IN_INVALID : RegForm := ⟨0x0B1088, 6, 0x100, 1, 0x0, fun n _ => [AP_PORT_CNT_IN_INVALID_N n]⟩
/-- DF_FLOEf_CNT_IN.N: tokens accepted. -/
def DF_FLOE_CNT_IN_N (n : Nat) : Fld := ⟨0x0C1008 + n * 0x40, 0, 48, 0, .rc, 7⟩
/-- The counters of Floe f. Each is RC and saturates. -/
def R_DF_FLOE_CNT_IN : RegForm := ⟨0x0C1008, 48, 0x40, 1, 0x0, fun n _ => [DF_FLOE_CNT_IN_N n]⟩
/-- DF_FLOEf_CNT_LATE.N: tokens late under R227. -/
def DF_FLOE_CNT_LATE_N (n : Nat) : Fld := ⟨0x0C1010 + n * 0x40, 0, 48, 0, .rc, 7⟩
/-- The counters of Floe f. Each is RC and saturates. -/
def R_DF_FLOE_CNT_LATE : RegForm := ⟨0x0C1010, 48, 0x40, 1, 0x0, fun n _ => [DF_FLOE_CNT_LATE_N n]⟩
/-- DF_FLOEf_CNT_INOVF.N: ingress queue drops. -/
def DF_FLOE_CNT_INOVF_N (n : Nat) : Fld := ⟨0x0C1018 + n * 0x40, 0, 48, 0, .rc, 7⟩
/-- The counters of Floe f. Each is RC and saturates. -/
def R_DF_FLOE_CNT_INOVF : RegForm := ⟨0x0C1018, 48, 0x40, 1, 0x0, fun n _ => [DF_FLOE_CNT_INOVF_N n]⟩
/-- DF_FLOEf_CNT_POISON.N: poisoned reads. -/
def DF_FLOE_CNT_POISON_N (n : Nat) : Fld := ⟨0x0C1020 + n * 0x40, 0, 48, 0, .rc, 7⟩
/-- The counters of Floe f. Each is RC and saturates. -/
def R_DF_FLOE_CNT_POISON : RegForm := ⟨0x0C1020, 48, 0x40, 1, 0x0, fun n _ => [DF_FLOE_CNT_POISON_N n]⟩
/-- DF_FLOEf_CNT_BOUNDS.N: bounds faults. -/
def DF_FLOE_CNT_BOUNDS_N (n : Nat) : Fld := ⟨0x0C1028 + n * 0x40, 0, 48, 0, .rc, 7⟩
/-- The counters of Floe f. Each is RC and saturates. -/
def R_DF_FLOE_CNT_BOUNDS : RegForm := ⟨0x0C1028, 48, 0x40, 1, 0x0, fun n _ => [DF_FLOE_CNT_BOUNDS_N n]⟩
/-- DF_FLOEf_CNT_CXFAIL.N: crypto calls not OK. -/
def DF_FLOE_CNT_CXFAIL_N (n : Nat) : Fld := ⟨0x0C1030 + n * 0x40, 0, 48, 0, .rc, 7⟩
/-- The counters of Floe f. Each is RC and saturates. -/
def R_DF_FLOE_CNT_CXFAIL : RegForm := ⟨0x0C1030, 48, 0x40, 1, 0x0, fun n _ => [DF_FLOE_CNT_CXFAIL_N n]⟩
/-- DF_FLOEf_CNT_DROP.N: drops by emit cells. -/
def DF_FLOE_CNT_DROP_N (n : Nat) : Fld := ⟨0x0C1038 + n * 0x40, 0, 48, 0, .rc, 7⟩
/-- The counters of Floe f. Each is RC and saturates. -/
def R_DF_FLOE_CNT_DROP : RegForm := ⟨0x0C1038, 48, 0x40, 1, 0x0, fun n _ => [DF_FLOE_CNT_DROP_N n]⟩
/-- CX_AESl_CNT.N: AES blocks processed. -/
def CX_AES_CNT_N (n : Nat) : Fld := ⟨0x0E1000 + n * 0x8, 0, 48, 0, .rc, 7⟩
/-- The crypto lane counters. Each is RC and saturates. -/
def R_CX_AES_CNT : RegForm := ⟨0x0E1000, 24, 0x8, 1, 0x0, fun n _ => [CX_AES_CNT_N n]⟩
/-- CX_SHAl_CNT.N: SHA-256 compressions. -/
def CX_SHA_CNT_N (n : Nat) : Fld := ⟨0x0E1100 + n * 0x8, 0, 48, 0, .rc, 7⟩
/-- The crypto lane counters. Each is RC and saturates. -/
def R_CX_SHA_CNT : RegForm := ⟨0x0E1100, 12, 0x8, 1, 0x0, fun n _ => [CX_SHA_CNT_N n]⟩
/-- CX_PKl_CNT.N: public-key operations. -/
def CX_PK_CNT_N (n : Nat) : Fld := ⟨0x0E1200 + n * 0x8, 0, 48, 0, .rc, 7⟩
/-- The crypto lane counters. Each is RC and saturates. -/
def R_CX_PK_CNT : RegForm := ⟨0x0E1200, 2, 0x8, 1, 0x0, fun n _ => [CX_PK_CNT_N n]⟩
/-- Registers of these chapters, in the order of the spec, part 1. -/
def formsWire1 : List RegForm := [R_LN_LANE_CFG, R_LN_LANE_EQ, R_LN_LANE_LOCK, R_LN_LANE_STAT, R_LN_LANE_EVT, R_LN_LANE_CNT_HDR, R_LN_LANE_CNT_FEC, R_LN_LANE_TX_LAT, R_LN_LANE_RX_LAT, R_LN_LANE_FEC_LAT, R_LN_LANE5_LPI, R_LN_WAKE_PAT, R_LN_WAKE_MASK, R_MAC_PORT_CFG, R_MAC_PORT_STAT, R_MAC_PORT_EVT, R_MAC_PORT_TX_EXTRA, R_MAC_PORT_RX_EXTRA, R_MAC_PORT_ADDR, R_AP_CFG, R_AP_CAL_REQ, R_AP_EVT, R_AP_PORT_STAT, R_AP_PORT_TXOFS, R_AP_PORT_RXOFS, R_AP_PORT_CNT_REFUSE, R_DF_CFG, R_DF_STAT, R_DF_EVT, R_DF_CNT_RELOAD]
/-- Registers of these chapters, in the order of the spec, part 2. -/
def formsWire2 : List RegForm := [R_DF_DIST, R_DF_PORT_CNT, R_DF_FLOE_STAT, R_CX_HOLD_MAX, R_CX_STAT, R_CX_LANE_OFF, R_CX_EVT, R_CX_CNT_REVOKE, R_CX_AGE_MAX, R_MAC_PORT_RX_OK, R_MAC_PORT_RX_RUNT, R_MAC_PORT_RX_OVERSIZE, R_MAC_PORT_RX_FCS, R_MAC_PORT_RX_FILTERED, R_MAC_PORT_RX_PAUSE, R_MAC_PORT_RX_CTRL_DROP, R_MAC_PORT_RX_OVF, R_MAC_PORT_TX_OK, R_MAC_PORT_TX_OVERSIZE, R_MAC_PORT_CNT_PAUSEQ, R_AP_PORT_CNT_GRANT, R_AP_PORT_CNT_SENT, R_AP_PORT_CNT_MISS_LATE, R_AP_PORT_CNT_MISS_PAUSED, R_AP_PORT_CNT_MISS_LINK, R_AP_PORT_CNT_MISS_RELOAD, R_AP_PORT_CNT_RELEASED, R_AP_PORT_CNT_STRAY, R_AP_PORT_CNT_BADLEN, R_AP_PORT_CNT_NA_DROP]
/-- Registers of these chapters, in the order of the spec, part 3. -/
def formsWire3 : List RegForm := [R_AP_PORT_CNT_IN_STAMP, R_AP_PORT_CNT_IN_HELD, R_AP_PORT_CNT_IN_INVALID, R_DF_FLOE_CNT_IN, R_DF_FLOE_CNT_LATE, R_DF_FLOE_CNT_INOVF, R_DF_FLOE_CNT_POISON, R_DF_FLOE_CNT_BOUNDS, R_DF_FLOE_CNT_CXFAIL, R_DF_FLOE_CNT_DROP, R_CX_AES_CNT, R_CX_SHA_CNT, R_CX_PK_CNT]

end Sys2Proof.Machine.F
end

