-- ==== Sys2Proof/Machine/RegMap.lean ====
section
/-! DEFINITION. The whole register map of R368 and R4: every register form of the part, and finding the register at an offset. -/
namespace Sys2Proof.Machine

/-- Every register form of the part, in the order of the chapters. -/
def regMap : List RegForm :=
  F.formsTimebase1 ++
  F.formsTimebase2 ++
  F.formsReference1 ++
  F.formsReference2 ++
  F.formsError1 ++
  F.formsError2 ++
  F.formsError3 ++
  F.formsWire1 ++
  F.formsWire2 ++
  F.formsWire3 ++
  F.formsServing1 ++
  F.formsServing2 ++
  F.formsServing3 ++
  F.formsSupport1 ++
  F.formsSupport2 ++
  F.formsSupport3

/-- The fields of the register at byte offset off of the register space: none where the offset names no register (R4, R368). -/
def fieldsAt (off : Nat) : List Fld :=
  match regMap.findSome? (fun r => r.index off) with
  | some fs => fs
  | none => []

/-- The field whose lowest bit has key k, that is off * 64 + lo. -/
def fieldOfKey (k : Nat) : Option Fld := (fieldsAt (k / 64)).find? (fun f => f.lo == k % 64)

end Sys2Proof.Machine
end

