-- ==== Sys2Proof/Machine/Parts.lean ====
section
/-! DEFINITION. The state of each block that no register field holds: what the rules of the chapters say the hardware remembers. -/
namespace Sys2Proof.Machine

/-- Operating states of R352, and the time a chip reset holds the part. -/
inductive Power where
  | run | neve | firn | held
  deriving DecidableEq, Repr

/-- An event accepted into the journal queue (R394). -/
structure JEvent where
  code : Nat
  src  : Nat
  inst : Nat
  arg  : Nat
  deriving DecidableEq, Repr

/-- An event limited to one per second: its key, when it was last written, and what it has counted since (R370 and the chapters). -/
structure RateEntry where
  key   : Nat
  last  : Nat
  count : Nat
  deriving DecidableEq, Repr

/-- The time synthesizer as it was at the end of a stretch of raw ticks over which its frequency word and its tick MDLL stood and its time word
was not set (R15, R17, R66): the count and the time word there, the frequency word in force, the MDLL, and TbPart.gen. -/
structure TsSeg where
  /-- units of 2^-32 tick, as State.tick -/
  tick : Nat
  /-- State.now units -/
  now : Nat
  freq : Int
  tm : Nat
  gen : Nat
  deriving DecidableEq, Repr

/-- What the part sends out of itself: a read answer, a frame, an interrupt, a pulse, a message on a pin. -/
inductive OutMsg where
  /-- value returned to a register read, with the offset read -/
  | readData (off : Nat) (value : Word)
  /-- bytes returned to a read narrower than a register or lying in two (R3) -/
  | readBytes (off : Nat) (bytes : List Byte)
  /-- MSI-X vector signalled by a function (R377) -/
  | msix (fn vec : Nat)
  /-- a frame placed in host receive queue q at descriptor index i: bytes, flag byte, port and ingress stamp (R278, R279) -/
  | hostFrame (q i : Nat) (bytes : List Byte) (flags port stamp : Nat)
  /-- transmit queue q's descriptor i is done (R279) -/
  | hostDone (q i : Nat)
  /-- a frame that starts on a port: position of its start in fs of corrected time, the message, and what the MAC appends to its bytes: the padding
  and, after a whole frame, the FCS (R202, R211, R215) -/
  | frame (port start : Nat) (msg : Msg) (tail : List Byte)
  /-- bits shifted out to a GNSS front end, with their number (R130) -/
  | gnSpi (cs len bits : Nat)
  /-- bytes written to host memory (R144) -/
  | hostMem (addr : Nat) (bytes : List Byte)
  /-- a pulse on PPS_OUTk: leading edge and length in ps of corrected time, and the active level (R183) -/
  | pulse (k start width : Nat) (high : Bool)
  /-- bytes sent on TOD_OUT (R186) -/
  | tod (bytes : List Byte)
  deriving DecidableEq, Repr

/-- Open-drain status pins: asserted or not. -/
structure Pins where
  alarm   : Bool := true
  degrade : Bool := false
  tamper  : Bool := false
  wake    : Bool := false
  deriving DecidableEq, Repr

/-- The journal's queue and ring (R392 to R397). -/
structure JlPart where
  queue : List JEvent := []
  /-- bytes of the entries written since the last sealed block (R395) -/
  unsealed : List Byte := []
  /-- number of blocks sealed in the chain, and the seal g it began with (R396) -/
  blocks : Nat := 0
  firstSeal : List Byte := List.replicate 32 0
  /-- drops since the last entry 0x0B22 (R394) -/
  dropPend : Nat := 0
  /-- when the queue last gave an entry, in State.now units: the next follows 40 sample ticks later (R394) -/
  takenAt : Option Nat := none
  /-- the TAI hour that was last padded (R395) -/
  padHour : Option Nat := none
  deriving DecidableEq, Repr

/-- One function's mailbox (R374, R375). -/
structure Mailbox where
  doorbell : Bool := false
  /-- when the doorbell was rung (R330) -/
  rungAt : Nat := 0
  code : Nat := 0
  tag : Nat := 0
  len : Nat := 0
  payload : List Byte := []
  status : Nat := 0
  done : Bool := false
  rtag : Nat := 0
  rpayload : List Byte := []
  /-- supervisor core that took the command, and the response it has produced and not yet written -/
  core : Nat := 0
  reply : Option (Nat × List Byte) := none
  deriving DecidableEq, Repr

/-- The endpoint and SVC_SPI (R365 to R378). -/
structure HostPart where
  /-- function-level reset in progress, by function -/
  flr : List Bool := [false, false, false, false, false, false]
  perst : Bool := false
  /-- event 0x0107 was written since the start (R359, R408) -/
  started : Bool := false
  link : Bool := false
  /-- when the endpoint is ready for link training again, in State.now units (R372) -/
  readyAt : Nat := 0
  /-- last signal of a limited vector: (fn * 32 + vec, corrected time) -/
  lastSignal : List (Nat × Nat) := []
  boxes : List Mailbox := [{}, {}, {}, {}, {}, {}]
  /-- MSI-X table and pending bits by function, and the completion-timeout error that AER has logged (R365 to R367, R371) -/
  msixTable : List (List Host.Cell) := [[], [], [], [], [], []]
  msixPending : List Nat := [0, 0, 0, 0, 0, 0]
  aer : List Bool := [false, false, false, false, false, false]
  /-- QSPI flash, canonical, unlisted bytes 0; and the rollback counter in OTP (R380) -/
  flash : List Host.Cell := []
  rollback : Nat := 0
  /-- object being fetched from the host buffer: 0 image, 1 firmware (R381) -/
  fetch : Option Nat := none
  /-- the other image slot has been tried at this start (R381) -/
  second : Bool := false
  /-- SVC_SPI STATUS bits 0 and 1 (R378) -/
  svcTaken : Bool := false
  svcRefused : Bool := false
  deriving DecidableEq, Repr

/-- Power and resets (R345 to R373). -/
structure PmPart where
  /-- corrected time at which the dip episode began, and the rails that dipped in it, a mask (R349) -/
  dipAt : Nat := 0
  /-- when the last supply-dip episode ended: stamps in it stay usable (R265) -/
  dipTo : Nat := 0
  /-- when a rail was last known to be below its warning level (R349) -/
  lastLow : Nat := 0
  /-- RTC count at Névé entry (R354, R363) -/
  neveRtc : Nat := 0
  dipRails : Nat := 0
  /-- cause and rail of the reset that holds the part (R357, R360) -/
  cause : Nat := 0
  rail : Nat := 0
  /-- RTC count at power-good (R364) -/
  startRtc : Nat := 0
  /-- a deferred Névé request; the wake cause that arrived during entry; the cause of the exit in progress (R353, R354) -/
  neveWaits : Bool := false
  wakeOwed : Option Nat := none
  exiting : Option Nat := none
  /-- SY_FW_VER and BT_STAT at Névé entry, for the retained firmware and image to report again at exit (R354) -/
  kept : Nat × Nat := (0, 0)
  /-- unit of the unit reset in progress (R373) -/
  unit : Nat := 0
  deriving DecidableEq, Repr

/-- Redundancy (R321 to R341). -/
structure RdPart where
  /-- corrected time of the trigger of the running switchover (R323) -/
  trigAt : Nat := 0
  /-- the switchover in progress ends orphan hold (R328) -/
  exiting : Bool := false
  /-- core of the trigger, where the trigger was cause 6 (R325) -/
  hostSwitch : Option Nat := none
  /-- since when a core is in its self-test after a unit reset (R325) -/
  testing : List (Option Nat) := [none, none]
  /-- the tick source of the standby's checkpoint and the schedule points of the shadow run: compared and skipped updates, a mismatch (R338) -/
  compared : Nat := 0
  skipped : Nat := 0
  coreBad : Bool := false
  /-- Rime pass: deferrals of the day, the running pass defers for a reason yet to end, results of the running pass (R336, R341) -/
  deferrals : Nat := 0
  result : Nat := 0
  /-- when the running pass started, and when a deferred one is tried again (R336, R337) -/
  rimeAt : Nat := 0
  retryAt : Option Nat := none
  /-- corrected time at which the chip took its present role (R333) -/
  roleSince : Nat := 0
  /-- arrival of the last verified TIME frame and of the last one with the lease flag, and since when the link is enabled (R332, R333) -/
  timeAt : Option Nat := none
  leaseAt : Option Nat := none
  enAt : Nat := 0
  /-- next Clekosal frame sequence; sequence and appointed time of the TIME frames sent last, newest first (R331, R332) -/
  mateSeq : Nat := 0
  sent : List (Nat × Nat) := []
  /-- ingress stamp and sequence of the mate's last TIME frame (R331) -/
  lastTime : Option (Nat × Nat) := none
  /-- the pattern that the mate's last SLEEP frame carried (R331) -/
  matePat : List Byte := []
  /-- the copy that the mate's checkpoint segments go to (R332) -/
  mateCopy : Nat := 0
  /-- consecutive TIME exchanges within the tolerance, and the largest such run, since the mate proof began; the PROVE result (R340) -/
  goodRun : Nat := 0
  bestRun : Nat := 0
  prove : Option Nat := none
  /-- a calibration of the running pass was rejected (R337) -/
  tacBad : Bool := false
  /-- the mate was woken for its proof, and when; its link came up later than 1 s after that (R340) -/
  wokeAt : Option Nat := none
  lateLink : Bool := false
  /-- an item of the last Rime pass failed otherwise than a core or the mate (R341) -/
  itemFail : Bool := false
  deriving DecidableEq, Repr

/-- A happening that adds an allowance to MB_ALLOW_ACC at the next publication (R158). -/
inductive Allowance where
  | dip | switch | migration | lockstep | refChange
  deriving DecidableEq, Repr

/-- Moraine (R150 to R173). -/
structure MbPart where
  /-- allowances not yet added, oldest first (R158) -/
  owed : List Allowance := []
  /-- corrected time at which the last allowance was added (R158) -/
  lastAllow : Nat := 0
  /-- a forced migration ended since the last publication; true where its r was coarse (R157) -/
  forcedMig : Option Bool := none
  /-- increase of f while the present P0 and T0 stand, in 0.01 ppt (R157) -/
  extraF : Nat := 0
  /-- software set the time since the last publication (R157) -/
  timeSet : Bool := false
  /-- P0 of a start from a checkpoint, which the first publication loads; ref + meas + track + excess of the last publication in TRACK (R157) -/
  ckptP0 : Option Nat := none
  lastTrack : Nat := 0xFFFFFFFFFFFF
  /-- moment 1.5 ms after the trigger that ended in orphan hold, and |dd| of the last sealed checkpoint then (R327) -/
  orphanAt : Option Nat := none
  orphanDd : Nat := 0
  /-- Moraine has taken the moment of orphanAt as T0 -/
  orphanSeen : Bool := false
  /-- a core has resumed out of orphan hold since the last publication (R328) -/
  orphanEnd : Bool := false
  /-- active slot of the last publication (R168) -/
  lastActive : Option Nat := none
  /-- since when every publication has matched entry e or an earlier one, for e from 0 to 7 and 8 for no entry (R164) -/
  mapSince : List (Option Nat) := [none, none, none, none, none, none, none, none, none]
  /-- the stale bound has passed STALE_MAX (R160) -/
  staleMax : Bool := false
  /-- schedule point of the latest publication in TRACK (R264) -/
  trackPub : Option Nat := none
  /-- attestation sequence, largest and smallest published bound since the last hour, message being signed (R169) -/
  attSeq : Nat := 0
  hourMax : Nat := 0
  hourMin : Nat := 0xFFFFFFFFFFFF
  signing : Option (List Byte) := none
  deriving DecidableEq, Repr

/-- Timebase (R40 to R59). -/
structure TbPart where
  /-- source runs: XO, OCXO, ATOM, as the last monitor window found them -/
  running : List Bool := [false, false, false]
  /-- consecutive passing windows of each source, at most 10 (R44) -/
  passes : List Nat := [0, 0, 0]
  /-- WARM_TIME has passed since the timebase started (R46) -/
  warmTimer : Bool := false
  /-- raw tick at which the warm-up timer started, units of State.tick (R46) -/
  warmStart : Nat := 0
  /-- levels of OCXO_WARM and ATOM_LOCK -/
  warmPin : Bool := false
  lockPin : Bool := false
  /-- the automatic migration to PRI after a start is still owed (R48) -/
  startMig : Bool := false
  /-- step of the migration in progress: 0 none, 1 locking, 3 comparing, 4 waiting for its update, 5 old MDLL still on (R49) -/
  migStep : Nat := 0
  target : Source := .xo
  /-- the migration is forced (R53, R56) -/
  forced : Bool := false
  /-- phase fraction of the switch edge is whole ticks only (R56) -/
  coarse : Bool := false
  /-- comparison ratio r, frequency word (R49) -/
  ratio : Int := 0
  /-- a request that waits for the end of a dip episode (R56) -/
  waiting : Option Source := none
  /-- the active MDLL coasts on a failed source (R53), and since when -/
  coasting : Bool := false
  coastAt : Nat := 0
  /-- codes of the latest samples of XO_THERM, newest first, at most 16 (R59) -/
  therm : List Nat := []
  /-- consecutive codes at 4,092 or above; consecutive codes below (R59) -/
  openRun : Nat := 0
  closeRun : Nat := 0
  /-- ticks changed by a migration's step 4 so far; two stamps with different counts lie on two rulers (R71) -/
  gen : Nat := 0
  deriving DecidableEq, Repr

/-- A raw stamp with what the engine keeps of it (R29, R64 to R66). -/
structure Stamp where
  /-- coarse count k, 48 bits -/
  tick : Nat
  /-- phi, 2^-16 ps after tick k -/
  phi : Int
  tac : Nat
  tm : Nat
  /-- TbPart.gen at the stamp -/
  gen : Nat
  rising : Bool
  /-- corrected time of the edge, State.now units -/
  corr : Nat
  deriving DecidableEq, Repr

/-- A result in a channel's buffer (R68, R74). -/
structure IeResult where
  raw : Word := 0
  ph  : Int := 0
  /-- corrected time word of the stamp, 0 where CORR = 0 -/
  corr : Nat := 0
  /-- RES_FLG -/
  flg : Nat := 0
  deriving DecidableEq, Repr

/-- One channel of the interval engine (R61 to R86). -/
structure IeChan where
  /-- qualifying edges still to skip before the next is stamped (R68) -/
  skip : Nat := 0
  /-- raw position of the last accepted edge: tick and phi (R72) -/
  accepted : Option (Nat × Int) := none
  /-- last stamped edge; none also after a discarded conversion (R68, R86) -/
  last : Option Stamp := none
  /-- start that waits for its stop (R69) -/
  start : Option Stamp := none
  /-- edges of the open frequency window, and its first and last stamps (R70) -/
  winEdges : Nat := 0
  winFirst : Option Stamp := none
  winLast : Option Stamp := none
  buf : List IeResult := []
  /-- a result was dropped since the buffer was last empty (R73) -/
  dropped : Bool := false
  /-- the gate window is open; the tick at which it last opened, and that at which a level window closed, whole ticks not wrapped (R75) -/
  gateOpen : Bool := false
  gateFrom : Nat := 0
  gateTo : Option Nat := none
  /-- stamped edges until an edge-N window closes -/
  gateLeft : Nat := 0
  gateIgn : Bool := false
  /-- breakpoints B[0] to B[256] of the last calibration, empty before the first (R65) -/
  table : List Int := []
  /-- UNC as calibrated, before staleness triples it (R85) -/
  unc : Option Nat := none
  calTime : Nat := 0
  stale : Bool := false
  /-- edges were missed for calibration since the last result (R83) -/
  calGap : Bool := false
  deriving DecidableEq, Repr

/-- One statistics engine (R77 to R79). -/
structure IeEngine where
  run : Bool := false
  n : Nat := 0
  s : Int := 0
  q : Nat := 0
  x1 : Int := 0
  min : Int := 0
  max : Int := 0
  /-- first stamp of the block in timestamp mode -/
  t1 : Option (Nat × Int) := none
  excl : Nat := 0
  mig : Bool := false
  calGap : Bool := false
  dip : Bool := false
  deriving DecidableEq, Repr

/-- Interval engine (R61 to R86). -/
structure IePart where
  chans : List IeChan := List.replicate 32 {}
  engines : List IeEngine := List.replicate 8 {}
  /-- channels queued for calibration, oldest first (R82) -/
  queue : List Nat := []
  /-- a dip episode or a migration occurred during the running calibration (R84) -/
  calSpoilt : Bool := false
  /-- log2 of H of the running calibration, fixed at its start (R81) -/
  calLog : Nat := 20
  /-- channels whose calibration a dip or migration rejected: retried when it ends (R84) -/
  retry : List Nat := []
  /-- levels of GATE_IN0 and GATE_IN1 (R75) -/
  gates : List Bool := [false, false]
  deriving DecidableEq, Repr

/-- One measurement of a reference (R89, R92, R110, R120). -/
structure Sample where
  /-- corrected time of the measurement -/
  time : Nat
  /-- raw time minus reference phase from an arbitrary origin, 2^-16 ps (R92) -/
  r : Int
  /-- raw time minus reference time, 2^-16 ps; of a time reference, and of a pulse modulo its second (R101, R120) -/
  pos : Int
  /-- corrected time minus reference time, State.now units; for a frequency reference, of an arbitrary origin -/
  off : Int
  /-- GN_SOL_UNC of the solution, for the GNSS reference (R153) -/
  unc : Nat := 0xFFFFFFFFFFFF
  deriving DecidableEq, Repr

/-- An observation window of a slot (R92). -/
structure RsWindow where
  /-- sums over the samples: count, time in µs after the first sample, residual e in 2^-16 ps, and their products -/
  n : Nat := 0
  st : Int := 0
  se : Int := 0
  stt : Int := 0
  ste : Int := 0
  /-- r and corrected time of the first sample -/
  r0 : Int := 0
  t0 : Nat := 0
  /-- the frozen prediction: p at the anchor, the anchor, y (2^-32 ppt) before and from it on, and dd (2^-32 ppt/s) -/
  pBase : Int := 0
  anchor : Nat := 0
  yBefore : Int := 0
  y : Int := 0
  dd : Int := 0
  /-- largest |e|, 2^-16 ps -/
  w : Nat := 0
  /-- corrected time at which the window began -/
  start : Nat := 0
  /-- a soft breach was seen at an update of this window (R95) -/
  soft : Bool := false
  /-- the window yields no y and no d, or no d (R105) -/
  noY : Bool := false
  noD : Bool := false
  deriving DecidableEq, Repr

/-- One reference slot (R88 to R104). -/
structure RsSlot where
  last : Option Sample := none
  /-- a measurement has arrived since the last update -/
  fresh : Bool := false
  /-- and has not yet entered the window (R92) -/
  due : Bool := false
  /-- the offset that a reference followed for frequency only is counted from, State.now units: the anchor stays a phase word (R111, R120, R123) -/
  origin : Option Int := none
  win : RsWindow := {}
  /-- last y and d formed for the slot; y of the window before, where that window yielded one -/
  y : Option Int := none
  d : Option Int := none
  prevY : Option Int := none
  /-- length and sign of the run of windows with |d| above DRIFT_LIM (R92) -/
  run : Nat := 0
  runPos : Bool := true
  /-- a window ended since the last update: its y, and whether it was free of a soft breach -/
  ended : Bool := false
  endY : Option Int := none
  endClean : Bool := false
  /-- the excess of R94 over the window that ended last, ps -/
  endExcess : Nat := 0
  /-- qualification and hold-off timers in updates, 1/16 s (R95, R96) -/
  qual : Nat := 0
  hold : Nat := 0
  /-- residuals since the last comparison: count and sum (R101) -/
  meanN : Nat := 0
  meanSum : Int := 0
  /-- uncertainty of the solution used at the last update, ps (R153) -/
  usedUnc : Nat := 0xFFFFFFFFFFFF
  /-- since when the slot has been active and QUALIFIED without a gap -/
  goodFrom : Option Nat := none
  /-- start of the slot's latest whole window throughout which it was active and QUALIFIED (R158) -/
  wholeSince : Option Nat := none
  deriving DecidableEq, Repr

/-- Reference selector (R88 to R106). -/
structure RsPart where
  slots : List RsSlot := List.replicate 16 {}
  /-- phase of each IE channel against its nominal grid, accumulated from stamp to stamp, 2^-16 ps of raw time -/
  chanPhase : List Int := List.replicate 32 0
  chanTick : List (Option (Nat × Int)) := List.replicate 32 none
  /-- the last two stamped edges of the channel lay within 1.5 P, and within 2 P (R89) -/
  near15 : List Bool := List.replicate 32 false
  near20 : List Bool := List.replicate 32 false
  /-- an accepted write of RS_SEL that waits for the next update (R97) -/
  selPending : Bool := false
  /-- REF and AUTO as they were before that write (R97, R105) -/
  selRef : Nat := 0
  selAuto : Nat := 1
  /-- the software choice (R97, R99) -/
  choice : Option Nat := none
  /-- corrected time at which the contest began, and agreeing comparisons in a row (R103, R104) -/
  contestAt : Nat := 0
  agree : Nat := 0
  /-- the common frozen prediction of the comparisons (R101) -/
  cmp : RsWindow := {}
  deriving DecidableEq, Repr

/-- A step decided at an update and not yet applied (R119). -/
structure StepPlan where
  /-- change of the time word, State.now units -/
  delta : Int
  setsTime : Bool
  /-- the time word that software has set, where the plan is a software time set (R121) -/
  soft : Option Nat := none
  deriving DecidableEq, Repr

/-- Timekeeping core and time synthesizer (R108 to R125). -/
structure TkPart where
  /-- u of the last update with a measurement, 2^-32 ppt (R110) -/
  u : Int := 0
  /-- anchor of a frequency reference, phase word (R111); none until it is taken -/
  anchor : Option Int := none
  /-- the next measurement is the e0 of a time reference that has become active (R117) -/
  takeE0 : Bool := false
  /-- an offset beyond 2^46 ps is withheld and the reference followed for frequency only (R120) -/
  withheld : Bool := false
  /-- number of updates performed or passed, and that number at the last sealed checkpoint (R324) -/
  points : Nat := 0
  ckptPoint : Nat := 0
  /-- corrected time of the last update with a measurement of the same reference (R110) -/
  measAt : Option Nat := none
  /-- |e| of the 16 most recent updates, newest first, phase word LSBs (R155) -/
  lastE : List Nat := []
  /-- TK_SET_NSF held until TK_SET_SEC is written (R25), and the time to set at the next update (R121) -/
  heldNsf : Option Nat := none
  /-- the NSF that TK_SET took last (R24, R25) -/
  setNsf : Nat := 0
  setTime : Option Nat := none
  step : Option StepPlan := none
  /-- corrected times of the last two lockstep disagreements (R112) -/
  lsTimes : List Nat := []
  /-- second since which the core has tracked a qualified reference without a gap (R57) -/
  lockSince : Option Nat := none
  /-- samples of y against a since the last TAI day boundary: n, sums of a, y, a a, a y; and whether the core tracked all day (R116) -/
  fitN : Nat := 0
  fitA : Int := 0
  fitY : Int := 0
  fitAA : Int := 0
  fitAY : Int := 0
  dayTrack : Bool := false
  /-- the last checkpoint has not been sealed: its slot (R122) -/
  unsealed : Option Nat := none
  /-- the checkpoint port is held (R122) -/
  ckptBusy : Bool := false
  /-- when the last checkpoint write began (R122) -/
  ckptAt : Nat := 0
  /-- slot that the next checkpoint goes to, and its SEQ (R122) -/
  nextSlot : Nat := 0
  nextSeq : Nat := 1
  deriving DecidableEq, Repr

/-- What the part remembers of a lane (R190 to R198). -/
structure LnLane where
  /-- level of the signal detector; a loss has been reported and not yet lasted 1 µs (R194) -/
  signal : Bool := false
  loss : Bool := false
  /-- training has completed or been abandoned since the lane entered DOWN; consecutive failures (R193) -/
  trained : Bool := false
  fails : Nat := 0
  /-- clause 37 auto-negotiation has completed (R190) -/
  an : Bool := false
  /-- consecutive valid sync headers in HUNT (R194) -/
  goodRun : Nat := 0
  /-- latest sync headers in LOCKED, newest first, at most UNLOCK_WIN: whether each was valid (R194) -/
  window : List Bool := []
  /-- an uncorrectable clause 108 codeword marks the frame it carries (R195) -/
  marked : Bool := false
  /-- LPI was received since the last link-up (R196) -/
  lpiSeen : Bool := false
  /-- corrected time at which IDLE was written 0, until LOCKED (R197) -/
  idleExit : Option Nat := none
  deriving DecidableEq, Repr

/-- A frame that a MAC delivers, from the destination address to the FCS, with its flags and stamp (R199, R217). -/
structure RxFrame where
  bytes : List Byte
  stamp : TStamp := {}
  fcs : Bool := false
  runt : Bool := false
  oversize : Bool := false
  /-- corrected time of delivery -/
  arrived : Nat := 0
  deriving DecidableEq, Repr

/-- One MAC (R199 to R202). -/
structure MacPort where
  /-- frames in the 16 KiB receive buffer, oldest first (R200) -/
  rx : List RxFrame := []
  /-- pause interval in fs of corrected time (R201) -/
  pauseFrom : Nat := 0
  pauseTo : Option Nat := none
  deriving DecidableEq, Repr

/-- One appointment (R206, R208). Times in fs of corrected time, but the appointed time in units of State.now. -/
structure ApSlot where
  handle : Nat
  start : Nat
  dur : Nat
  len : Nat
  appt : Nat
  msg : Option Msg := none
  /-- counted late at its arrival deadline (R210) -/
  late : Bool := false
  deriving DecidableEq, Repr

/-- Who asked for an appointment and what follows its answer: a token in a stamp cell, with the cell and the first of the two V registers that
take the appointed time; or a message of the protocol programs with what does not depend on the appointed time. -/
inductive Job where
  /-- token id, cell, first of the two V registers that take the appointed time -/
  | cell (tok cell v : Nat)
  /-- a Sync or Announce to a peer, with the PT_SPP entry it is authenticated under and its sequenceId -/
  | sync (dest : Peer) (uni : Bool) (spp seq : Nat)
  | announce (dest : Peer) (uni : Bool) (spp seq : Nat)
  /-- a Delay_Resp: the requester's portIdentity and correctionField, and t_in -/
  | delayResp (dest : Peer) (uni : Bool) (spp seq : Nat) (req : List Byte) (corr : Int) (stamp : TStamp)
  | delayReq (dest : Peer) (uni : Bool) (seq : Nat)
  | ntp (r : NtpReply)
  /-- a Clekosal TIME frame (R332) -/
  | time
  deriving DecidableEq, Repr

/-- A request that waits while granting is stopped (R216). -/
structure ApRequest where
  len : Nat
  notBefore : Option Nat
  job : Job
  deriving DecidableEq, Repr

/-- A non-appointed frame that waits, and since when (R215). -/
structure NaFrame where
  msg : Msg
  since : Nat
  deriving DecidableEq, Repr

/-- One port's calendar, queue and stamp path (R206 to R220). -/
structure ApPort where
  /-- booked slots, by rising start position -/
  slots : List ApSlot := []
  nextHandle : Nat := 0
  na : List NaFrame := []
  /-- interval of the frame in transmission, fs -/
  busyFrom : Nat := 0
  busyTo : Nat := 0
  held : List ApRequest := []
  /-- earliest start of a frame after LPI, fs (R196) -/
  wokeAt : Nat := 0
  /-- marks of CH12 + n since the lane reached LOCKED, whether stamped or not (R217) -/
  marks : Nat := 0
  /-- the latest valid edges of CH12 + n since then: number of the mark and corrected time, newest first, at most 65 (R217, R218) -/
  edges : List (Nat × Nat) := []
  /-- a dip, a migration or a calibration of CH12 + n overlaps the running latency calibration (R220) -/
  calSpoilt : Bool := false
  /-- latencies of the last passed calibration of each mode and FEC: MODE + 8 FEC, transmit and receive in fs (R220) -/
  calPrev : List (Nat × Nat × Nat) := []
  deriving DecidableEq, Repr

/-- Lanes, MACs and appointments. -/
structure WirePart where
  lanes : List LnLane := List.replicate 6 {}
  macs : List MacPort := List.replicate 6 {}
  ports : List ApPort := List.replicate 6 {}
  deriving DecidableEq, Repr

/-- Counters and bandwidth monitors (R386 to R391): bytes received and sent in the running window of each port's monitor. -/
structure PcPart where
  /-- when a port's running window began, in State.now units (R390) -/
  bwStart : List Nat := List.replicate 6 0
  /-- the running window of a port's monitor contains a step or a time set (R390) -/
  spoilt : List Bool := List.replicate 6 false
  rxBytes : List Nat := List.replicate 6 0
  txBytes : List Nat := List.replicate 6 0
  deriving DecidableEq, Repr

/-- A Sync of the followed grandmaster that waits for its exchange: t1 and t2 in State.now units (R258). -/
structure PtExchange where
  t1 : Nat
  t2 : Nat
  deriving DecidableEq, Repr

/-- One port of the protocol tables (R251 to R282): counters of the grandmaster role, and what the client role remembers. -/
structure PtPort where
  /-- next sequenceId of multicast Sync and Announce, of Signaling, and of Delay_Req (R253) -/
  seqSync : Nat := 0
  seqAnn : Nat := 0
  seqSig : Nat := 0
  seqReq : Nat := 0
  /-- message rate of all grants on the port, 1/16 message/s (R255) -/
  rate : Nat := 0
  /-- Sync and Announce arrive within the timeouts; the upstream fails the acceptance rules (R89, R259) -/
  syncOk : Bool := false
  annOk : Bool := false
  rejected : Bool := false
  /-- the followed grandmaster has changed since the last update: loss and return of the reference (R258) -/
  changed : Bool := false
  /-- the upstream bound, ps (R259) -/
  upBound : Nat := 0xFFFFFFFFFFFF
  /-- Announces received within the timeout with their times, one per sender (R258), and the sender followed -/
  announces : List (PtpAnnounce × Nat) := []
  followed : Option (List Byte) := none
  /-- UNB and bound of the Bursis TLV in the last Sync (R259) -/
  bursis : Option (Bool × Nat) := none
  sync : Option PtExchange := none
  /-- arrival of the last Sync of the upstream followed (R259) -/
  syncAt : Option Nat := none
  /-- sequenceId and appointed time of the Delay_Req sent last (R258) -/
  request : Option (Nat × Nat) := none
  /-- offsets completed since the last update: count and sum, State.now units (R258) -/
  offN : Nat := 0
  offSum : Int := 0
  /-- durations of the grants held for Announce, Sync and Delay_Resp, 0 for none (R258) -/
  grants : List Nat := [0, 0, 0]
  /-- when those grants were received: renewal is due at half the duration, the end at all of it (R258) -/
  grantAt : List Nat := [0, 0, 0]
  /-- QL sent last, and arrival of the last information PDU (R277) -/
  qlSent : Nat := 15
  esmcAt : Option Nat := none
  deriving DecidableEq, Repr

/-- Protocol tables (R249 to R282). -/
structure PtPart where
  ports : List PtPort := List.replicate 6 {}
  /-- session entries freed, latest first, and the number of entries ever taken (R256) -/
  freed : List Nat := []
  taken : Nat := 0
  /-- SMEAR_EN and HALF in force while a smear window that was open at a write stays open, by class (R276) -/
  smear : List (Option (Bool × Nat)) := List.replicate 8 none
  /-- received current UTC offset that differed from the leap table, from GNSS and from the PTP upstream (R274) -/
  offsets : List (Option Int) := [none, none]
  /-- event 0x0739 has reported that keys are gone (R262) -/
  keyless : Bool := false
  deriving DecidableEq, Repr

/-- Where a token is: in the ingress queue, in a channel, or in a cell that waits for an appointment or a crypto lane. -/
inductive Place where
  | ingress
  | chan (c : Nat)
  | cell (c : Nat)
  deriving DecidableEq, Repr

/-- A token with the message buffer it names (R226): its message without the FCS, and the FCS as received. Its number serves as the buffer handle. -/
structure Token where
  id : Nat
  floe : Nat
  place : Place
  deadline : Nat
  hash : Nat
  port : Nat
  cls : Nat
  flags : Nat
  v : List Nat
  buf : List Byte
  stamp : TStamp
  fcs : List Byte := []
  /-- handle of the appointment granted to it on its port -/
  slot : Option Nat := none
  /-- output it waits for in its cell, where the output channel had no room (R229) -/
  out : Option Nat := none
  deriving DecidableEq, Repr

/-- A crypto request of a cell (R232, R233): port 2f + index, lane kind 0 AES, 1 SHA-256, 2 public key. -/
structure CxReq where
  tok : Nat
  floe : Nat
  cell : Nat
  port : Nat
  kind : Nat
  issued : Nat
  /-- key slot of an operation that has one, with the TYPE and the key that the call named when it began (R294) -/
  slot : Option Nat := none
  ty : Nat := 0
  key : List Byte := []
  /-- lane granted to it, and when (R233) -/
  lane : Option Nat := none
  granted : Nat := 0
  deriving DecidableEq, Repr

/-- Drift fabric, crypto lanes and the running image (R225 to R245). -/
structure DfPart where
  /-- running image; the image before it, for R242 -/
  image : Option Image := none
  before : Option Image := none
  tokens : List Token := []
  nextTok : Nat := 0
  cx : List CxReq := []
  /-- Floe SRAM regions of table cells: address Floe * 2^18 + offset, canonical, unlisted bytes 0 -/
  sram : List Host.Cell := []
  /-- the first image load since a chip reset or main power-up is still to come (R240) -/
  firstLoad : Bool := true
  /-- the first image load since a main power-up is still to come: it fills the leap table (R273) -/
  coldLoad : Bool := true
  /-- source of the object being loaded or checked: 0 flash A, 1 flash B, 2 host buffer -/
  loading : Option Nat := none
  deriving DecidableEq, Repr

/-- Who holds a bank lock (R316): a table cell for its token, or the repair of a row with its source (R314). -/
inductive LockHolder where
  | cell (floe cell tok : Nat)
  | repair (row source : Nat)
  deriving DecidableEq, Repr

/-- The lock of one bank of Glacier memory: its holder, and since when (R316). -/
structure BankLock where
  bank : Nat
  holder : LockHolder
  since : Nat
  deriving DecidableEq, Repr

/-- Glacier memory and its error correction (R303 to R318). -/
structure GlPart where
  /-- stored 13-bit codewords by byte address, canonical; an unlisted byte holds codeword 0, data 0x00 (R306) -/
  cells : List (Nat × Nat) := []
  /-- corrected codewords not yet written back, oldest first (R307) -/
  back : List (Nat × Nat) := []
  /-- corrected errors of the last 24 h: (row number, corrected time); a row number is bank + 256 * row (R313) -/
  errs : List (Nat × Nat) := []
  /-- rows in which a word was poisoned since their last repair (R313) -/
  due : List Nat := []
  /-- bank locks held (R316); rows whose repair was revoked, until their next error (R316) -/
  locks : List BankLock := []
  spared : List Nat := []
  /-- entries of the repair fuse bank, in the layout of R314 (R315) -/
  fuse : List Nat := []
  /-- spares, as (bank, spare), that a Rime pass has found unusable (R337) -/
  badSpares : List (Nat × Nat) := []
  /-- soft entries still to burn; entries burned in the running programming (R315) -/
  burning : List Nat := []
  burned : Nat := 0
  /-- every word of the pass has been read (R310) -/
  passDone : Bool := false
  /-- corrected time of the pass deadline, none once missed; and what was left of it when self-refresh began (R310, R317) -/
  deadline : Option Nat := none
  pausedLeft : Option Nat := none
  /-- poisoned words of Floe SRAM, by offset (R309) -/
  floePoison : List Nat := []
  deriving DecidableEq, Repr

/-- An ephemeris the baseband holds: system, satellite, its TAI second, and its 144 bytes in the record (R145). -/
structure GnEph where
  sys : Nat
  prn : Nat
  toe : Nat
  bytes : List Byte := []
  deriving DecidableEq, Repr

/-- A snapshot of Flake mode: corrected time of its first sample, samples per band, bands, AGC gains (R142 to R144). -/
structure GnSnap where
  stamp : Option Stamp := none
  samples : Nat := 0
  bands : Nat := 0
  agcA : Int := 0
  agcB : Int := 0
  deriving DecidableEq, Repr

/-- GNSS baseband (R128 to R149). -/
structure GnPart where
  /-- stamp of CH20 that the next epoch or capture takes (R134) -/
  mark : Option Stamp := none
  /-- last stamp of CH21, band B's edge of the marked sample, which no rule uses further -/
  markB : Option Stamp := none
  /-- the band's clock was reported bad (R129); measured rates in Hz; the next check meets a migration (R148) -/
  bad : List Bool := [false, false]
  rates : List Nat := [0, 0]
  rateSkip : Bool := false
  /-- an SPI transfer, and the front-end script, in progress (R130) -/
  spi : Bool := false
  script : Bool := false
  /-- a start is due and waits for band A; no valid solution since the start; kind of the last start (R146) -/
  startDue : Bool := false
  first : Bool := false
  kind : Nat := 2
  /-- the next start is a hot start after a capture (R144) -/
  hot : Bool := false
  /-- ephemerides held; satellites used in the last solution, as (system, satellite) -/
  ephs : List GnEph := []
  used : List (Nat × Nat) := []
  /-- bytes 0x0040 to 0x10FF of the record: parameters and almanacs decoded (R145) -/
  nav : List Host.Cell := []
  /-- survey-in in progress, its samples, their sums, and its time in State.now units (R138) -/
  survey : Bool := false
  surveyN : Nat := 0
  surveyX : Int := 0
  surveyY : Int := 0
  surveyZ : Int := 0
  surveyTime : Nat := 0
  /-- corrected time of the last epoch with a solution -/
  lastEpoch : Option Nat := none
  /-- of GN_POS_X, Y and Z, those written since fixed mode was entered or VALID was set (R138) -/
  posWritten : List Bool := [false, false, false]
  /-- residuals of the running 60 s average, and averages beyond POS_LIM in a row (R139) -/
  residN : Nat := 0
  residSum : Int := 0
  badRun : Nat := 0
  /-- evidence flags, and since when both are set (R140) -/
  evAgc : Bool := false
  evCn0 : Bool := false
  bothSince : Option Nat := none
  /-- band A gain at the last epoch or capture and when a satellite last met CN0_MIN; at the last epoch one met it (R141) -/
  agcA : Int := 0
  agcRef : Int := 0
  cn0Met : Bool := true
  /-- channel pairs that lost lock and search around their prediction; corrected time of the last valid solution (R147) -/
  search : List Nat := []
  validAt : Option Nat := none
  /-- epochs of the last second: time, AGC gains, mean band A C/N0 where four or more satellites were used -/
  recent : List (Nat × Int × Int × Option Nat) := []
  /-- the window the guard compares with while it rejects, and since when its solutions have been good (R140) -/
  guard : Option RsWindow := none
  goodSince : Option Nat := none
  /-- Flake mode, and that jamming entered it (R141, R142) -/
  flake : Bool := false
  autoFlake : Bool := false
  /-- a capture in progress; the channels restart once it and its solution are complete (R142, R144) -/
  capture : Bool := false
  leaving : Bool := false
  /-- the last snapshot, still being solved; its export: 0 none, 1 waits for ARM, 2 in progress -/
  snap : GnSnap := {}
  solving : Bool := false
  export_ : Nat := 0
  /-- channel pairs that failed in the last Rime pass (R337) -/
  badPairs : List Nat := []
  /-- the received bits of the running transfer are discarded (R371) -/
  discard : Bool := false
  /-- decoded current offset that was reported as different from Δ (R137) -/
  misOffset : Option Int := none
  deriving DecidableEq, Repr

/-- One clock output (R178 to R182). Times in State.now units. -/
structure OsClk where
  /-- it waits for its start point; it stops at its next divider boundary -/
  armed : Bool := false
  stopping : Bool := false
  /-- that stop is owed to a write of DIV, SRC or its OM, and EN does not take it back (R177, R182) -/
  restart : Bool := false
  /-- when EN was last set, and when the output began to wait for a start point (R180) -/
  enAt : Nat := 0
  armAt : Nat := 0
  /-- the start point of the running output: its first rising edge, where ALIGN = 1 (R180) -/
  edge : Option Nat := none
  /-- its divider runs, whether or not the pin is muted (R178) -/
  active : Bool := false
  /-- COARSE in force, and the end points of the FINE ramp in ps with the time at which it began (R181) -/
  coarse : Nat := 0
  fineFrom : Nat := 0
  fineTo : Nat := 0
  rampAt : Nat := 0
  /-- anchor, millisecond of the last measurement, measurements within the limit in a row, PG was lost since it last became 1 (R178) -/
  anchor : Option Nat := none
  lastMs : Nat := 0
  good : Nat := 0
  lost : Bool := false
  deriving DecidableEq, Repr

/-- One pulse output (R178, R183, R184). -/
structure OsPps where
  /-- leading edge of the last pulse and end of it, ps of corrected time -/
  last : Option Nat := none
  until_ : Nat := 0
  /-- no earlier grid point is emitted: the time of EN or of the last step; and the runs of grid points emitted, as first and last leading edge
  (R183, R185) -/
  from_ : Nat := 0
  done : List (Nat × Nat) := []
  /-- grid phase taken from the input, ps, OFFSET included (R184) -/
  phase : Option Int := none
  anchor : Option Nat := none
  good : Nat := 0
  lost : Bool := false
  deriving DecidableEq, Repr

/-- Output synthesis (R174 to R189). -/
structure OsPart where
  /-- the OM runs on its band code and has not been declared locked (R177) -/
  settling : List Bool := [false, false, false, false]
  /-- when its lock was declared, per OM (R180) -/
  lockAt : List Nat := [0, 0, 0, 0]
  clks : List OsClk := List.replicate 8 {}
  pps : List OsPps := List.replicate 4 {}
  /-- second of the last CH30 measurement (R61) -/
  ppsSec : Nat := 0
  /-- a ZDA has been withheld since UTC was last known (R186) -/
  noUtc : Bool := false
  deriving DecidableEq, Repr

/-- What a vault operation does at its completion, beside its status and output (R291). -/
inductive KvEffect where
  | none
  /-- fill a slot with key material and attribute word -/
  | fill (slot : Nat) (key : List Byte) (attr : Nat)
  | clear (slot : Nat)
  /-- ROTATE: new key ID and the slot it fills (R294) -/
  | rotate (kid slot : Nat)
  deriving DecidableEq, Repr

/-- A vault operation in progress: the slot it uses, and what it will answer (R291). -/
structure KvOp where
  slot : Nat
  status : Nat
  out : List Byte := []
  effect : KvEffect := .none
  deriving DecidableEq, Repr

/-- Serac vault and tamper block (R283 to R299). -/
structure KvPart where
  /-- key material by slot, canonical; an unlisted slot is empty -/
  slots : List (Nat × List Byte) := []
  op : Option KvOp := none
  /-- OTP helper data is present (R283, R292) -/
  helper : Bool := false
  /-- the lifecycle seal has been programmed into OTP (R5, R292) -/
  lcSealed : Bool := false
  /-- since when each tamper input stands at its tamper level in debounce (R295) -/
  debounce : List (Option Nat) := [none, none, none, none]
  /-- a tamper was latched in Firn and event 0x0911 is owed (R297) -/
  firnOwed : Bool := false
  /-- the battery domain was lost since the last start (R355) -/
  batLost : Bool := false
  deriving DecidableEq, Repr

end Sys2Proof.Machine
end

