-- ==== Sys2Proof/Machine/State.lean ====
section
/-! DEFINITION. The state of the block, its stops, and the state after reset. -/
namespace Sys2Proof.Machine

/-- Why the machine stops with a fault. No rule of the spec stops the block: every command has an effect, so no meaning raises one. -/
inductive Fault where
  /-- Raised by no meaning; kept so that the type has a name for a stuck block. Safe: it is never reached. -/
  | stuck
  deriving DecidableEq, Repr

/-- Why a command has no meaning. -/
inductive Refusal where
  /-- Raised by the arms of exec that have no meaning yet. Safe: the run stops. -/
  | notModelled (mnemonic : String)
  deriving DecidableEq, Repr

/-- The state of the part: register fields, hidden state of the blocks, stores, pins, outputs and the queue of waiting commands. -/
structure State where
  /-- commands that wait, first in first out -/
  pending : List Instr
  /-- register fields that differ from their reset value: (Fld.key, value), keys strictly rising -/
  cells : List (Nat × Nat)
  /-- companion registers latched by a read of their first register (R25, R74, R80, R173): (offset, value) -/
  latches : List (Nat × Nat)
  /-- corrected time (R23), in units of 2^-32 / 5 ns since the PTP epoch -/
  now : Nat
  /-- coarse count of the raw tick (R42), in units of 2^-32 tick, not wrapped -/
  tick : Nat
  /-- the latest ends of stretches of the time synthesizer, newest first, at most 32 (R15, R17, R66) -/
  past : List TsSeg
  power : Power
  /-- events are lost: a reset holds the part, or a start has not reached step 6 (R394) -/
  quiet : Bool
  /-- number of free values the machine has used; the model's own field (log entry 1) -/
  free : Nat
  /-- what the part has sent out, newest first -/
  outs : List OutMsg
  /-- rate limits of events (R370 and others) -/
  rates : List RateEntry
  /-- ALARM_N, DEGRADE_N, TAMPER_N, WAKE_N asserted (R408) -/
  pins : Pins
  /-- the 32 KiB Firn store (R356), canonical, unlisted bytes 0 -/
  firn : List Host.Cell
  jl : JlPart
  host : HostPart
  tb : TbPart
  pm : PmPart
  rd : RdPart
  mb : MbPart
  ie : IePart
  tk : TkPart
  rs : RsPart
  wire : WirePart
  pc : PcPart
  pt : PtPart
  df : DfPart
  gl : GlPart
  kv : KvPart
  gn : GnPart
  os : OsPart
  deriving DecidableEq, Repr

/-- The machine right after reset: every register at its reset value, no command waiting. -/
def State.reset : State :=
  { pending := [], cells := [], latches := [], now := 0, tick := 0, past := [], power := .run, quiet := false, free := 0, outs := [], rates := [],
    pins := {}, firn := [], jl := {}, host := {}, tb := {}, pm := {}, rd := {}, mb := {}, ie := {}, tk := {}, rs := {}, wire := {}, pc := {}, pt := {}, df := {}, gl := {}, kv := {}, gn := {}, os := {} }

end Sys2Proof.Machine
end

