-- ==== Sys2Proof/Machine/Ops.lean ====
section
/-! DEFINITION. The shared operations: register fields, time, events and interrupts, host access, resets by letter. -/
namespace Sys2Proof.Machine

/-! ## Cells -/

/-- Insert a pair into a list with rising keys. -/
def insertCell {α : Type} (k : Nat) (v : α) : List (Nat × α) → List (Nat × α)
  | [] => [(k, v)]
  | c :: l => if k < c.1 then (k, v) :: c :: l else c :: insertCell k v l

/-- The value listed for a key, or the default d. -/
def readCell {α : Type} (k : Nat) (d : α) : List (Nat × α) → α
  | [] => d
  | c :: l => if c.1 = k then c.2 else readCell k d l

/-- Drop the pair of a key. -/
def dropCell {α : Type} (k : Nat) (l : List (Nat × α)) : List (Nat × α) := l.filter (fun c => c.1 != k)

/-- Hold value v at key k; the default d needs no pair. -/
def writeCell {α : Type} [DecidableEq α] (k : Nat) (v d : α) (l : List (Nat × α)) : List (Nat × α) :=
  if v = d then dropCell k l else insertCell k v (dropCell k l)

/-- The canonical form of a store whose unlisted places hold d: keys strictly rise, and no pair holds d. -/
def Memory.wf {α : Type} [DecidableEq α] (d : α) : List (Nat × α) → Bool
  | [] => true
  | c :: l => c.2 != d && l.all (fun e => c.1 < e.1) && Memory.wf d l

/-- A byte of a store whose unlisted bytes are 0. -/
def byteAt (m : List Host.Cell) (a : Nat) : Byte := readCell a 0 m

/-- Write consecutive bytes from address a on. -/
def writeBytes (m : List Host.Cell) (a : Nat) : List Byte → List Host.Cell
  | [] => m
  | b :: l => writeBytes (writeCell a b 0 m) (a + 1) l

/-- n consecutive bytes from address a on. -/
def readBytes (m : List Host.Cell) (a n : Nat) : List Byte := (List.range n).map (fun i => byteAt m (a + i))

/-- The list with f applied at its place n; places it lacks below n are filled with d. -/
def alter {α : Type} (d : α) : Nat → (α → α) → List α → List α
  | 0, f, [] => [f d]
  | 0, f, x :: l => f x :: l
  | n + 1, f, [] => d :: alter d n f []
  | n + 1, f, x :: l => x :: alter d n f l

/-- The list with x at its place n. -/
def assign {α : Type} (d : α) (n : Nat) (x : α) (l : List α) : List α := alter d n (fun _ => x) l

/-- The value of a field. -/
def State.get (s : State) (f : Fld) : Nat := readCell f.key f.reset s.cells

/-- The value of a field as a two's complement number. -/
def State.getI (s : State) (f : Fld) : Int :=
  let v := s.get f
  if 2 * v < 2 ^ f.width then v else (v : Int) - 2 ^ f.width

/-- The field is not 0. -/
def State.on (s : State) (f : Fld) : Bool := s.get f != 0

/-- Write a field, modulo its width. -/
def State.put (s : State) (f : Fld) (v : Nat) : State :=
  { s with cells := writeCell f.key (v % 2 ^ f.width) f.reset s.cells }

/-- Write a field with a signed number, two's complement. -/
def State.putI (s : State) (f : Fld) (v : Int) : State := s.put f (v % (2 ^ f.width : Nat)).toNat

/-- Write a one-bit field. -/
def State.putB (s : State) (f : Fld) (b : Bool) : State := s.put f (if b then 1 else 0)

/-- Write an unsigned field that saturates at its width. -/
def State.putSat (s : State) (f : Fld) (v : Nat) : State := s.put f (min v (2 ^ f.width - 1))

/-- Count n into a saturating counter field. -/
def State.count (s : State) (f : Fld) (n : Nat) : State := s.putSat f (s.get f + n)

/-- Return a field to its reset value. -/
def State.clear (s : State) (f : Fld) : State := s.put f f.reset

/-- Do f when b holds, else nothing. -/
def State.when (s : State) (b : Bool) (f : State → State) : State := if b then f s else s

/-- Do f with each element of a list in order. -/
def State.forAll {α : Type} (s : State) (l : List α) (f : State → α → State) : State := l.foldl f s

/-- The next free value (log entry 1), with the counter advanced. -/
def State.takeFree (s : State) (f : State → Word → State) : State :=
  f { s with free := s.free + 1 } (Config.freeValue s.free)

/-! ## Numbers -/

/-- Quotient rounded to the nearest integer, ties away from zero. -/
def roundDiv (a : Int) (b : Nat) : Int :=
  if 0 ≤ a then (2 * a + b) / (2 * b) else -((2 * (-a) + b) / (2 * b))

/-- Limit x to the range from lo to hi. -/
def clampI (lo hi x : Int) : Int := max lo (min hi x)

/-- An unsigned bound sum in the 48-bit bound format: unbounded when it reaches 2^48 - 1 ps (R28). -/
def boundSat (ps : Nat) : Nat := min ps 0xFFFFFFFFFFFF

/-- The bound of R28 that means "unbounded". -/
def unbounded : Nat := 0xFFFFFFFFFFFF

/-- A frequency word saturates at ±200 ppm where it is a correction (R27). -/
def freqSat (f : Int) : Int := clampI (-0x0BEBC20000000000) 0x0BEBC20000000000 f

/-- The nearest whole number of units from a rational num/den given with den > 0, ties away from zero; R110's arithmetic. -/
def signedOf (w : Nat) (v : Nat) : Int := if 2 * v < 2 ^ w then v else (v : Int) - 2 ^ w

/-- Bits hi..lo of a number. -/
def bits (v hi lo : Nat) : Nat := v / 2 ^ lo % 2 ^ (hi + 1 - lo)

/-- The n lowest bytes of a number, little-endian. -/
def bytesLE : Nat → Nat → List Byte
  | 0, _ => []
  | n + 1, v => BitVec.ofNat 8 v :: bytesLE n (v / 256)

/-- The n lowest bytes of a number, big-endian. -/
def bytesBE (n v : Nat) : List Byte := (bytesLE n v).reverse

/-- The number a little-endian byte list spells. -/
def ofBytesLE : List Byte → Nat
  | [] => 0
  | b :: l => b.toNat + 256 * ofBytesLE l

/-- The number a big-endian byte list spells. -/
def ofBytesBE (l : List Byte) : Nat := ofBytesLE l.reverse

/-! ## Time -/

/-- Units of State.now in one second: 5 * 10^9 * 2^32. -/
def tuSec : Nat := 21474836480000000000

/-- Units of State.now in one millisecond. -/
def tuMs : Nat := 21474836480000000

/-- Units of State.now in one microsecond. -/
def tuUs : Nat := 21474836480000

/-- SEC of the time word (R23). -/
def secOf (t : Nat) : Nat := t / tuSec

/-- The NSF register as one number, the sub-second part in units of 2^-32 ns (R23, R25). -/
def nsfOf (t : Nat) : Nat := t % tuSec / 5

/-- State.now of a time word. -/
def timeOf (sec nsf : Nat) : Nat := sec * tuSec + nsf * 5

/-- A signed span in phase word LSBs, 2^-16 ps, from units of State.now: 2^-32/5 ns is 1000/(5 * 2^32) ps. -/
def phaseOfSpan (d : Int) : Int := roundDiv (d * 200) (2 ^ 16)

/-- A signed span in units of State.now from phase word LSBs. -/
def spanOfPhase (p : Int) : Int := roundDiv (p * 2 ^ 16) 200

/-- Whole picoseconds of a span in units of State.now, rounded up. -/
def psUp (d : Nat) : Nat := (d * 200 + 2 ^ 32 - 1) / 2 ^ 32

/-- The coarse counter: 48 bits of the raw tick count (R29). -/
def State.coarse (s : State) : Nat := s.tick / 2 ^ 32 % 2 ^ 48

/-- The frequency word in force in the time synthesizer (R127). -/
def State.freqWord (s : State) : Int := s.getI F.TK_TS_FREQ_FREQ

/-- The stretch of the time synthesizer that is running, ended at the present tick. -/
def State.segment (s : State) : TsSeg := { tick := s.tick, now := s.now, freq := s.freqWord, tm := s.get F.TB_STAT_ACT_TM, gen := s.tb.gen }

/-- The running stretch ends here: the frequency word, the time word or the tick is about to change (R15, R17). Where something has changed at
this tick already, the stretch before that change is the one that ended. -/
def State.closeSegment (s : State) : State :=
  if s.past.head?.map TsSeg.tick = some s.tick then s else { s with past := (s.segment :: s.past).take 32 }

/-- The stretch that whole tick k belongs to (R15, R17, R66): the earliest that ended after it, or else the running one. -/
def State.segmentAt (s : State) (k : Nat) : TsSeg := ((s.past.takeWhile (fun g => k < g.tick / 2 ^ 32)).getLast?).getD s.segment

/-- Units of State.now that a span of raw time takes, in 2^-32 ticks, at a frequency word (R27). -/
def spanAt (freq : Int) (d : Nat) : Nat := (d * 8 * (2 ^ 32 * 10 ^ 12 + freq).toNat) / (2 ^ 32 * 10 ^ 12)

/-- The time synthesizer's time word at whole tick k, State.now units (R15, R66). -/
def State.timeAt (s : State) (k : Nat) : Nat :=
  let g := s.segmentAt k
  if k * 2 ^ 32 ≤ g.tick then g.now - spanAt g.freq (g.tick - k * 2 ^ 32) else g.now + spanAt g.freq (k * 2 ^ 32 - g.tick)

/-- The count of the next tick, not wrapped: that at which the time sample port samples (R15). -/
def State.nextTick (s : State) : Nat := s.tick / 2 ^ 32 + 1

/-- TAI seconds of corrected time. -/
def State.sec (s : State) : Nat := secOf s.now

/-! ## Interrupts, events and the journal -/

/-- The function that owns a block window (R22, R368). -/
def ownerOf (win : Nat) : Nat :=
  if win ≤ 1 ∨ (0x11 ≤ win ∧ win ≤ 0x13) ∨ win = 0x15 ∨ win = 0x16 ∨ win = 0x17 then 0
  else if win ≤ 7 then 1
  else if win = 8 then 2
  else if win ≤ 0xE then 3
  else if win ≤ 0x10 then 5
  else 4

/-- The window of the register space belongs to a block (R368): FN ends at 32 KiB. -/
def windowExists (off : Nat) : Bool := off < 0x178000

/-- The MSI-X vector of the sticky flags of a block window, if it has one (R377). -/
def flagVector (win : Nat) : Option (Nat × Nat) :=
  if win ∈ [0x00, 0x01, 0x16, 0x13, 0x12, 0x11] then some (0, 1)
  else if win ∈ [0x02, 0x03, 0x04, 0x05, 0x06, 0x07] then some (1, 1)
  else if win = 0x08 then some (2, 2)
  else if win ∈ [0x09, 0x0A, 0x0B, 0x0C, 0x0D, 0x0E] then some (3, 1)
  else if win = 0x10 then some (5, 2)
  else none

/-- Add a message to what the part has sent. -/
def State.emit (s : State) (m : OutMsg) : State := { s with outs := m :: s.outs }

/-- Signal an MSI-X vector of a function (R377). -/
def State.signal (s : State) (fn vec : Nat) : State := s.emit (.msix fn vec)

/-- The vector was not signalled within the last 1 ms (R377). -/
def State.signalFree (s : State) (fn vec : Nat) : Bool :=
  match s.host.lastSignal.find? (fun e => e.1 == fn * 32 + vec) with
  | none => true
  | some e => s.now < e.2 || e.2 + tuMs ≤ s.now

/-- Signal a vector at most once per 1 ms (R377). -/
def State.signalLimited (s : State) (fn vec : Nat) : State :=
  if s.signalFree fn vec then
    { s.signal fn vec with
      host.lastSignal := (fn * 32 + vec, s.now) :: s.host.lastSignal.filter (fun e => e.1 != fn * 32 + vec) }
  else s

/-- Set a sticky flag; its change from 0 to 1 signals the flag vector of its function (R377). -/
def State.setFlag (s : State) (f : Fld) : State :=
  let t := s.put f 1
  if s.get f = 0 then
    match flagVector f.window with
    | some (fn, vec) => t.signalLimited fn vec
    | none => t
  else t

/-- One more wrap of counter n: bit n of PC_OVF, and vector 1 of PF4 where IRQ asks for it (R388). -/
def State.counterWrapped (s : State) (n : Nat) : State :=
  let f := F.PC_OVF_OVF (n / 64)
  let t := s.put f (s.get f ||| 2 ^ (n % 64))
  t.when (s.on (F.PC_SEL_IRQ n)) (·.signalLimited 4 1)

/-- Counter n is the odd half of a chained pair (R388). -/
def State.chained (s : State) (n : Nat) : Bool := n % 2 == 1 && s.on (F.PC_SEL_CHAIN (n - 1))

/-- Add k to the value of counter n, without carry (R386). -/
def State.counterPlain (s : State) (n k : Nat) : State :=
  let v := s.get (F.PC_CNT_VALUE n) + k
  let t := s.put (F.PC_CNT_VALUE n) v
  t.when (2 ^ 32 ≤ v) (·.counterWrapped n)

/-- Add k to counter n; a wrap of an even chained counter carries into n + 1 in the same step (R386, R388). -/
def State.counterAdd (s : State) (n k : Nat) : State :=
  let v := s.get (F.PC_CNT_VALUE n) + k
  let t := s.counterPlain n k
  t.when (n % 2 == 0 && s.on (F.PC_SEL_CHAIN n)) (·.counterPlain (n + 1) (v / 2 ^ 32))

/-- Counter n counts under its own selection: EN, and it is not the odd half of a pair. -/
def State.counterRuns (s : State) (n kind : Nat) : Bool :=
  s.on (F.PC_SEL_EN n) && s.get (F.PC_SEL_KIND n) == kind && !s.chained n

/-- Count a raised event in every KIND 0x1 counter whose code matches (R386). -/
def State.countEvent (s : State) (code : Nat) : State :=
  s.forAll (List.range 256) (fun t n =>
    t.when (s.counterRuns n 1 && (code ^^^ s.get (F.PC_SEL_CODE_N n)) &&& s.get (F.PC_SEL_MASK n) == 0) (·.counterAdd n 1))

/-- Count port traffic in every KIND 0x2 counter of the port and direction, and in the port's bandwidth monitor (R386, R390): one frame of
len bytes. -/
def State.countTraffic (s : State) (port : Nat) (tx : Bool) (len : Nat) : State :=
  let t := s.forAll (List.range 256) (fun t n =>
    let c := s.get (F.PC_SEL_CODE_N n)
    t.when (s.counterRuns n 2 && s.get (F.PC_SEL_UNIT n) == port && (c / 2 % 2 == 1) == tx)
      (·.counterAdd n (if c % 2 == 1 then len else 1)))
  t.when (s.on (F.PC_BW_CFG_EN port)) (fun t =>
    if tx then { t with pc.txBytes := alter 0 port (· + len) t.pc.txBytes }
    else { t with pc.rxBytes := alter 0 port (· + len) t.pc.rxBytes })

/-- Raise an event: it counts, and enters the journal queue or, when the queue is full, is dropped and counted (R386, R394). -/
def State.raise (s : State) (code src inst arg : Nat) : State :=
  if s.quiet then s
  else
    let t := s.countEvent code
    if t.jl.queue.length < 1024 then
      { t with jl.queue := t.jl.queue ++ [⟨code, src, inst, arg % 2 ^ 64⟩] }
    else
      { t.count F.JL_STAT_DROPPED 1 with jl.dropPend := t.jl.dropPend + 1 }

/-- Set a sticky flag together with its journal event, whose source is the flag's block (R392). -/
def State.event (s : State) (f : Fld) (code inst arg : Nat) : State :=
  (s.setFlag f).raise code f.window inst arg

/-- The event is due: one second has passed since it was last written, or it never was (rate limits of R370 and others). -/
def State.rateDue (s : State) (key : Nat) : Bool :=
  match s.rates.find? (fun r => r.key == key) with
  | none => true
  | some r => s.now < r.last || r.last + tuSec ≤ s.now

/-- Happenings counted against a rate-limited event since it was last written. -/
def State.rateCount (s : State) (key : Nat) : Nat :=
  match s.rates.find? (fun r => r.key == key) with
  | none => 0
  | some r => r.count

/-- An event written at most once per second under a key, with what happened since the previous event in bits [63:32] (R370). -/
def State.eventLimited (s : State) (key : Nat) (f : Fld) (code inst arg : Nat) : State :=
  let n := s.rateCount key + 1
  let rest := s.rates.filter (fun r => r.key != key)
  if s.rateDue key then
    ({ s with rates := ⟨key, s.now, 0⟩ :: rest }).event f code inst (min n 0xFFFFFFFF * 2 ^ 32 + arg)
  else
    let last := match s.rates.find? (fun r => r.key == key) with | none => s.now | some r => r.last
    { s with rates := ⟨key, last, n⟩ :: rest }

/-- The first happening since an event flag was cleared (R199, R200, R202). -/
def State.eventOnce (s : State) (f : Fld) (code inst arg : Nat) : State := if s.on f then s else s.event f code inst arg

/-- An event written at most once per second under a key, without a count of what happened in between (R288, R316). -/
def State.eventRated (s : State) (key : Nat) (f : Fld) (code inst arg : Nat) : State :=
  if s.rateDue key then
    ({ s with rates := ⟨key, s.now, 0⟩ :: s.rates.filter (fun r => r.key != key) }).event f code inst arg
  else s

/-! ## Status pins -/

/-- ALARM_N is due (R53, R112, R326, R327, R341, R381, R408): before event 0x0107, and in each condition a chapter names. -/
def State.alarmDue (s : State) : Bool :=
  !s.host.started || s.on F.TB_STAT_COAST || s.on F.TK_TS_STAT_LS_FAIL || !s.on F.RD_STAT_SB_AVAIL || s.on F.RD_STAT_ORPHAN ||
    !s.on F.RD_MATE_STAT_MATE_AVAIL || s.get F.BT_STAT_STATE == 4 || s.get F.BT_STAT_STATE == 5

/-- An enabled output has PG = 0 while OS_CFG.PG_DEGRADE = 1 (R179). -/
def State.outputBad (s : State) : Bool :=
  s.on F.OS_CFG_PG_DEGRADE &&
    ((List.range 8).any (fun k => s.on (F.OS_CLK_CFG_EN k) && !s.on (F.OS_CLK_STAT_PG k)) ||
     (List.range 4).any (fun k => s.on (F.OS_PPS_CFG_EN k) && !s.on (F.OS_PPS_STAT_PG k)))

/-- DEGRADE_N is due (R179, R341, R349, R419, R408). -/
def State.degradeDue (s : State) : Bool :=
  (s.on F.PM_STAT_DIP && s.on F.PM_CFG_DIP_DEGRADE) || s.on F.PM_AGE_WARN || (s.rd.itemFail && s.on F.RD_CFG_DEGRADE) || s.outputBad

/-- The status pins follow their conditions at the end of a command; a change of ALARM_N or DEGRADE_N signals vector 2 of PF0 (R377, R408).
In Névé they are held; in Firn they are released. -/
def State.settle (s : State) : State :=
  match s.power with
  | .neve => s
  | .firn => { s with pins := { alarm := false, degrade := false, tamper := false, wake := false } }
  | .held => { s with pins := { alarm := true, degrade := false, tamper := s.on F.TP_STAT_LATCH, wake := false } }
  | .run =>
    let p : Pins := { alarm := s.alarmDue, degrade := s.degradeDue, tamper := s.on F.TP_STAT_LATCH, wake := s.pins.wake }
    let t := { s with pins := p }
    t.when (p.alarm != s.pins.alarm || p.degrade != s.pins.degrade) (·.signal 0 2)

/-! ## Resets by letter -/

/-- Return to their reset value the fields of the windows reached that the letter does not keep (R6). Fields that report the present
condition of hardware go only when the hardware itself is reset (hw). -/
def State.resetFields (s : State) (l : Letter) (reached : Nat → Bool) (hw : Bool) : State :=
  { s with cells := s.cells.filter (fun c =>
      match fieldOfKey c.1 with
      | none => true
      | some f => !reached f.window || f.keptThrough l || (f.live && !hw)) }

/-! ## Host accesses -/

/-- What becomes of an access before it reaches a register (R368 to R371, R379). -/
inductive Verdict where
  | served | dead | foreign | refused | reserved
  deriving DecidableEq, Repr

/-- Judge an access of a path to the register space (R22, R368 to R372, R379). -/
def State.judge (s : State) (p : Path) (off : Nat) (write : Bool) : Verdict :=
  let win := off / 65536
  match p with
  | .pf n =>
    if s.host.perst || s.host.flr.getD n.val false then .dead
    else if !windowExists off then .reserved
    else if win = 0x17 then (if n.val = 0 && !write then .served else .foreign)
    else if win = 0x15 && n.val = 4 then (if write then .foreign else .served)
    else if ownerOf win = n.val then .served
    else .foreign
  | .spi =>
    if !windowExists off then .reserved
    else if write && (win = 0x0F || win = 0x10) then .refused
    else if write && win = 0x17 then .foreign
    else .served

/-- Number of a path in the keys of rate-limited events: one per function and one for SVC_SPI (R370). -/
def Path.num : Path → Nat
  | .pf n => n.val
  | .spi => 6

/-- Event 0x0B02, 0x0B03 or 0x0B04 of a path at an offset, at most once per second (R370). -/
def State.accessEvent (s : State) (p : Path) (f : Fld) (code off : Nat) : State :=
  s.eventLimited (code * 8 + p.num) f code 0 off

/-- A write of a whole register: served with f, or dropped with its event (R368 to R371, R379). Who may write is judged before the width of the
write: a narrow write to a reserved address outside every block window is dropped without an event, as every write there is (DESIGN CHOICE,
log entry 16). -/
def State.hostWrite (s : State) (p : Path) (off : Nat) (f : State → State) : State :=
  match s.judge p off true with
  | .served => f s
  | .foreign => s.accessEvent p F.BT_EVT_FOREIGN 0x0B02 off
  | .refused => s.accessEvent p F.BT_EVT_REFUSED 0x0B04 off
  | .dead | .reserved => s

/-- A read of a whole register: served with f, or answered with all ones or 0 (R368, R371). -/
def State.hostRead (s : State) (p : Path) (off : Nat) (f : State → State) : State :=
  match s.judge p off false with
  | .served => f s
  | .foreign => (s.emit (.readData off (BitVec.allOnes 64))).accessEvent p F.BT_EVT_FOREIGN 0x0B02 off
  | .dead => s.emit (.readData off (BitVec.allOnes 64))
  | .refused | .reserved => s.emit (.readData off 0)

/-- The outcome of a command with its effect f, in the Run state; a part that is not running leaves the command without effect. -/
def running (s : State) (f : State → State) : Host.Outcome State Fault Refusal :=
  .next (if s.power = .run then (f s).settle else s)

/-- The outcome of a command whose effect does not depend on the Run state. -/
def always (s : State) (f : State → State) : Host.Outcome State Fault Refusal := .next (f s).settle

end Sys2Proof.Machine
end

