-- ==== Sys2Proof/Machine/Hash.lean ====
section
/-! DEFINITION. The checksums and hashes that the spec names by their published standards (log entry 3): CRC-32C, SHA-256, HMAC-SHA-256. -/
namespace Sys2Proof.Machine

/-- One bit of the reflected CRC-32C register (polynomial 0x1EDC6F41). -/
def crcBit (r : Nat) : Nat := if r % 2 = 1 then r / 2 ^^^ 0x82F63B78 else r / 2

/-- One byte of the CRC-32C register. -/
def crcByte (r : Nat) (b : Byte) : Nat :=
  crcBit (crcBit (crcBit (crcBit (crcBit (crcBit (crcBit (crcBit (r ^^^ b.toNat))))))))

/-- CRC-32C of a byte string. -/
def crc32c (l : List Byte) : Nat := l.foldl crcByte 0xFFFFFFFF ^^^ 0xFFFFFFFF

/-- The whole number of the root of degree k of x, found bit by bit below bit n, with r already found. -/
def rootBelow (k x : Nat) : Nat → Nat → Nat
  | 0, r => r
  | n + 1, r => rootBelow k x n (if (r + 2 ^ n) ^ k ≤ x then r + 2 ^ n else r)

/-- The first 32 bits of the fraction of the root of degree k of p. -/
def rootFraction (k p : Nat) : Nat := rootBelow k (p * 2 ^ (32 * k)) 40 0 % 2 ^ 32

/-- The primes below 18 * 18. -/
def smallPrimes : List Nat :=
  (List.range 324).filter (fun p => decide (2 ≤ p) && [2, 3, 5, 7, 11, 13, 17].all (fun d => p == d || p % d != 0))

/-- The 64 round constants of SHA-256: of the cube roots of the first 64 primes. -/
def shaK : List Nat := (smallPrimes.take 64).map (rootFraction 3)

/-- Initial hash value of SHA-256: of the square roots of the first eight primes. -/
def shaInit : List Nat := (smallPrimes.take 8).map (rootFraction 2)

/-- Rotate a 32-bit word right. -/
def rotr (x n : Nat) : Nat := x / 2 ^ n + x % 2 ^ n * 2 ^ (32 - n)

/-- Extend the message schedule by n words; the schedule is newest first. -/
def shaExtend : Nat → List Nat → List Nat
  | 0, w => w
  | n + 1, w =>
    let a := w.getD 1 0
    let b := w.getD 14 0
    let s1 := rotr a 17 ^^^ rotr a 19 ^^^ a / 2 ^ 10
    let s0 := rotr b 7 ^^^ rotr b 18 ^^^ b / 2 ^ 3
    shaExtend n ((s1 + w.getD 6 0 + s0 + w.getD 15 0) % 2 ^ 32 :: w)

/-- One round with constant k and schedule word w. -/
def shaRound (h : List Nat) (kw : Nat × Nat) : List Nat :=
  match h with
  | [a, b, c, d, e, f, g, hh] =>
    let s1 := rotr e 6 ^^^ rotr e 11 ^^^ rotr e 25
    let ch := (e &&& f) ^^^ ((2 ^ 32 - 1 - e) &&& g)
    let t1 := hh + s1 + ch + kw.1 + kw.2
    let s0 := rotr a 2 ^^^ rotr a 13 ^^^ rotr a 22
    let maj := (a &&& b) ^^^ (a &&& c) ^^^ (b &&& c)
    [(t1 + s0 + maj) % 2 ^ 32, a, b, c, (d + t1) % 2 ^ 32, e, f, g]
  | _ => h

/-- The 32-bit big-endian words of a byte list. -/
def wordsBE : List Byte → List Nat
  | a :: b :: c :: d :: l => ofBytesBE [a, b, c, d] :: wordsBE l
  | _ => []

/-- One compression of a 64-byte block. -/
def shaBlock (h : List Nat) (block : List Byte) : List Nat :=
  let w := (shaExtend 48 (wordsBE block).reverse).reverse
  List.zipWith (fun a b => (a + b) % 2 ^ 32) h ((shaK.zip w).foldl shaRound h)

/-- Compress n consecutive blocks. -/
def shaBlocks : Nat → List Nat → List Byte → List Nat
  | 0, h, _ => h
  | n + 1, h, l => shaBlocks n (shaBlock h (l.take 64)) (l.drop 64)

/-- SHA-256 of a byte string. -/
def sha256 (m : List Byte) : List Byte :=
  let pad := m ++ [0x80] ++ List.replicate ((119 - m.length % 64) % 64) 0 ++ bytesBE 8 (8 * m.length)
  (shaBlocks (pad.length / 64) shaInit pad).flatMap (bytesBE 4)

/-- HMAC-SHA-256 of a message under a key. -/
def hmacSha256 (key m : List Byte) : List Byte :=
  let k := if 64 < key.length then sha256 key else key
  let k := k ++ List.replicate (64 - k.length) 0
  sha256 (k.map (fun b => b ^^^ 0x5C) ++ sha256 (k.map (fun b => b ^^^ 0x36) ++ m))

/-- Bytes of a name in ASCII. -/
def ascii (s : String) : List Byte := s.toList.map (fun c => BitVec.ofNat 8 c.toNat)

end Sys2Proof.Machine
end

