-- ==== Sys2Proof/Machine/Interval.lean ====
section
/-! DEFINITION. Interval engine (chapter 04): stamps, conversion, measurement modes, gating, result buffers, statistics and calibration. -/
namespace Sys2Proof.Machine

/-- Channel n of the engine. -/
def State.chan (s : State) (n : Nat) : IeChan := s.ie.chans.getD n {}

/-- Change channel n. -/
def State.setChan (s : State) (n : Nat) (f : IeChan → IeChan) : State := { s with ie.chans := alter {} n f s.ie.chans }

/-- Statistics engine m. -/
def State.engine (s : State) (m : Nat) : IeEngine := s.ie.engines.getD m {}

/-- Change statistics engine m. -/
def State.setEngine (s : State) (m : Nat) (f : IeEngine → IeEngine) : State := { s with ie.engines := alter {} m f s.ie.engines }

/-- The channel is owned by a block and not by software (R61, R62). -/
def ownedChannel (n : Nat) : Bool := 12 ≤ n

/-- Least prescaling exponent that keeps stamped edges of a period, 2^-16 ps, at least 40 ns apart (R178). -/
def prescaleFor (nom : Nat) : Nat := ((List.range 16).find? (fun p => 40000 * 65536 ≤ nom * 2 ^ p)).getD 15

/-- Nominal period of channel n, 2^-16 ps: its register, or for an owned channel that of the signal routed to it, 0 where that has no fixed
period (R61, R62). -/
def State.chNom (s : State) (n : Nat) : Nat :=
  if !ownedChannel n then s.get (F.IE_CH_NOM_NOM n)
  else if n < 18 then
    match s.get (F.LN_LANE_CFG_MODE (n - 12)) with
    | 1 => 409600 * 65536 | 2 => 163840 * 65536 | 3 => 102400 * 65536 | _ => 0
  else if n < 20 then
    let r := s.get (if n = 18 then F.GN_FE_A_CFG_RATE else F.GN_FE_B_CFG_RATE)
    if r = 0 then 0 else (roundDiv (10 ^ 9 * 65536) r).toNat
  else if n < 22 then
    match s.get F.GN_SOL_CFG_RATE with
    | 1 => 10 ^ 12 / 4 * 65536 | 2 => 10 ^ 12 / 16 * 65536 | _ => 10 ^ 12 * 65536
  else if 22 ≤ n ∧ n < 30 then
    let k := n - 22
    let m := s.get (F.OS_CLK_CFG_SRC k)
    let div := s.get (F.OS_CLK_CFG_DIV k)
    let f := s.get (F.OS_OM_CFG_INT m) * s.get (F.OS_OM_CFG_DEN m) + s.get (F.OS_OM_CFG_NUM m)
    if f = 0 then 0 else (roundDiv (6400 * 65536 * (if div = 0 then 2 ^ 24 else div) * s.get (F.OS_OM_CFG_DEN m)) f).toNat
  else 0

/-- Mode of channel n: an owned channel runs in timestamp mode, but for the sample clocks on CH18 and CH19 in frequency mode (R129, R178). -/
def State.chMode (s : State) (n : Nat) : Nat :=
  if !ownedChannel n then s.get (F.IE_CH_CFG_MODE n) else if n = 18 ∨ n = 19 then 3 else 0

/-- Prescaling exponent of channel n (R62, R72, R178). -/
def State.chPrescale (s : State) (n : Nat) : Nat :=
  if !ownedChannel n then s.get (F.IE_CH_CFG_PRESCALE n) else if n = 18 ∨ n = 19 ∨ (22 ≤ n ∧ n < 30) then prescaleFor (s.chNom n) else 0

/-- The channel is enabled: a software channel by EN; an owned channel by its owner, where the signal it measures is in use (R61, R62, R87,
R129, R178, R359). -/
def State.chanEnabled (s : State) (n : Nat) : Bool :=
  if !ownedChannel n then s.on (F.IE_CH_CFG_EN n)
  else if n = 18 then s.on F.GN_CFG_EN && s.on F.GN_CFG_BAND_A
  else if n = 19 ∨ n = 21 then s.on F.GN_CFG_EN && s.on F.GN_CFG_BAND_B
  else if 22 ≤ n ∧ n < 30 then s.on (F.OS_CLK_CFG_EN (n - 22))
  else if n = 30 then (List.range 4).any (fun k => s.on (F.OS_PPS_CFG_EN k))
  else true

/-- P, the nominal period of the stamped edges in 2^-16 ps (R68). -/
def State.stampedPeriod (s : State) (n : Nat) : Nat := s.chNom n * 2 ^ s.chPrescale n

/-- GATE_N, where 0 means 2^24 (R75, R87). -/
def State.gateN (s : State) (n : Nat) : Nat :=
  let g := s.get (F.IE_CH_CFG_GATE_N n)
  if g = 0 then 2 ^ 24 else g

/-- The channel is gated (R75): GATE_SEL 0b01 or 0b10. -/
def State.gated (s : State) (n : Nat) : Bool :=
  s.get (F.IE_CH_CFG_GATE_SEL n) == 1 || s.get (F.IE_CH_CFG_GATE_SEL n) == 2

/-- An edge of this polarity qualifies: under SLOPE, where 0b00 acts as 0b01 (R63, R87); on the sample clocks of the baseband under EDGE of the
band's front end (R128). -/
def State.slopeTakes (s : State) (n : Nat) (rising : Bool) : Bool :=
  if 18 ≤ n ∧ n < 22 then rising != s.on (if n % 2 = 0 then F.GN_FE_A_CFG_EDGE else F.GN_FE_B_CFG_EDGE)
  else match s.get (F.IE_CH_CFG_SLOPE n) with
  | 2 => !rising
  | 3 => true
  | _ => rising

/-- The ideal table of R65: B[j] = j * 32 * 0.390625 ps = j * 12.5 ps, in 2^-16 ps. -/
def idealBreak (j : Nat) : Int := j * 819200

/-- Breakpoint j of a channel's table (R65). -/
def IeChan.break (c : IeChan) (j : Nat) : Int := if c.table.isEmpty then idealBreak j else c.table.getD j 0

/-- The TAC interval T(c) of a code in 2^-16 ps (R65). -/
def IeChan.interval (c : IeChan) (code : Nat) : Int :=
  let j := code / 32
  let b := c.break j
  b + (c.break (j + 1) - b) * (code - 32 * j : Nat) / 32

/-- phi of a code: the edge's place after tick k, 2^-16 ps (R65). -/
def IeChan.phi (c : IeChan) (code : Nat) : Int := 3200 * 65536 - c.interval code

/-- b - a of two coarse counts, modulo 2^48 and signed (R30). -/
def tickDiff (a b : Nat) : Int :=
  let d : Nat := (b + 2 ^ 48 - a % 2 ^ 48) % 2 ^ 48
  if d < 2 ^ 47 then d else (d : Int) - 2 ^ 48

/-- b - a of two raw positions in 2^-16 ps, a tick counting 1,600 ps (R65). -/
def rawDiff (a b : Nat × Int) : Int := tickDiff a.1 b.1 * (1600 * 65536) + b.2 - a.2

/-- Raw position of a stamp. -/
def Stamp.pos (t : Stamp) : Nat × Int := (t.tick, t.phi)

/-- b - a of two stamps, in 2^-16 ps of raw time (R65). -/
def stampDiff (a b : Stamp) : Int := rawDiff a.pos b.pos

/-- Whole tick, not wrapped, that lies back ticks before the present one. -/
def State.tickBack (s : State) (back : Nat) : Nat := s.tick / 2 ^ 32 - back

/-- Corrected time of an edge phi after the tick k that lies back ticks before the present one: the time word sampled at tick k, and phi scaled
by the frequency word in force there (R66). -/
def State.correctedOf (s : State) (back : Nat) (phi : Int) : Nat :=
  let k := s.tickBack back
  let add := phi.toNat * (2 ^ 32 * 10 ^ 12 + (s.segmentAt k).freq).toNat * 2 ^ 16 / (1000 * 2 ^ 32 * 10 ^ 12)
  (s.timeAt k / 5 + add) * 5

/-- The raw stamp word of R29. -/
def Stamp.word (t : Stamp) : Word :=
  BitVec.ofNat 64 (2 ^ 63 + t.tm * 2 ^ 62 + t.tick % 2 ^ 48 * 2 ^ 13 + t.tac % 2 ^ 13)

/-- The stamp of an edge with TAC code, back ticks before the present tick, reported against the tick MDLL that was active at its coarse count
(R17, R29, R64, R65). -/
def State.stampOf (s : State) (ch : Nat) (rising : Bool) (back code : Nat) : Stamp :=
  let phi := (s.chan ch).phi code
  let g := s.segmentAt (s.tickBack back)
  { tick := s.tickBack back % 2 ^ 48, phi := phi, tac := code, tm := g.tm, gen := g.gen, rising := rising, corr := s.correctedOf back phi }

/-- Two stamps lie on different tick MDLLs or on two sides of a migration's step 4 (R71). -/
def crossMigration (a b : Stamp) : Bool := a.tm != b.tm || a.gen != b.gen

/-- RES_FLG of a result (R87). A count of 2^24 periods does not fit COUNT, which then saturates (DEDUCED, log entry 18). -/
def resFlags (rising stale mig empty ign corr gap : Bool) (count : Nat) : Nat :=
  let b (x : Bool) (n : Nat) : Nat := if x then 2 ^ n else 0
  b rising 0 + b stale 1 + b mig 2 + b empty 3 + b ign 4 + b corr 5 + b gap 6 + min count (2 ^ 24 - 1) * 2 ^ 16

/-! ## Statistics -/

/-- Integer square root, bit by bit from bit b. -/
def isqrtFrom (n : Nat) : Nat → Nat → Nat
  | 0, r => r
  | b + 1, r => isqrtFrom n b (if (r + 2 ^ b) * (r + 2 ^ b) ≤ n then r + 2 ^ b else r)

/-- The greatest r with r * r ≤ n, for n below 2^200. -/
def isqrt (n : Nat) : Nat := isqrtFrom n 100 0

/-- Root of a / b rounded to the nearest integer, ties away from zero. -/
def rootRound (a b : Nat) : Nat := (isqrt (4 * a / b) + 1) / 2

/-- The smallest integer not below the root of n. -/
def rootUp (n : Nat) : Nat :=
  let r := isqrt n
  if r * r = n then r else r + 1

/-- x of a sample for an engine (R77), with the block's first stamp. -/
def State.sampleX (s : State) (ch : Nat) (e : IeEngine) (st : Option Stamp) (r : IeResult) : Int × Option (Nat × Int) :=
  match s.chMode ch, st with
  | 0, some st =>
    match e.t1 with
    | none => (0, some st.pos)
    | some t1 =>
      let d := rawDiff t1 st.pos
      let p := s.stampedPeriod ch
      (if p = 0 then d else d - roundDiv d p * p, e.t1)
  | _, _ => (r.ph, e.t1)

/-- Start a block (R79). -/
def freshBlock (run dip : Bool) : IeEngine := { run := run, dip := dip }

/-- Latch the results of engine m at the end of its block (R78, R79). -/
def State.latchBlock (s : State) (m : Nat) : State :=
  let e := s.engine m
  let var := (e.n : Int) * e.q - e.s * e.s
  let sd := if e.n ≤ 1 then 0 else rootRound var.toNat (e.n * (e.n - 1))
  let sum := (e.s % 2 ^ 80).toNat
  let t := ((((s.putI (F.IE_ST_MEAN_MEAN m) (e.x1 + roundDiv e.s (max e.n 1))).put (F.IE_ST_SD_SD m) sd).putI
    (F.IE_ST_MIN_MIN m) e.min).putI (F.IE_ST_MAX_MAX m) e.max).putI (F.IE_ST_X1_X1 m) e.x1
  let t := (((t.put (F.IE_ST_SUM_LO_SUM m) (sum % 2 ^ 64)).put (F.IE_ST_SUM_HI_SUM m) (sum / 2 ^ 64)).put
    (F.IE_ST_SQ_LO_SQ m) (e.q % 2 ^ 64)).put (F.IE_ST_SQ_HI_SQ m) (e.q / 2 ^ 64)
  let t := ((((t.put (F.IE_ST_STAT_N_DONE m) e.n).putB (F.IE_ST_STAT_MIG m) e.mig).putB (F.IE_ST_STAT_CALGAP m) e.calGap).putB
    (F.IE_ST_STAT_SAT m) (e.excl != 0)).putB (F.IE_ST_STAT_DIP m) e.dip
  let t := (t.put (F.IE_ST_STAT_SEQ m) (s.get (F.IE_ST_STAT_SEQ m) + 1)).putSat (F.IE_ST_STAT_EXCL m) e.excl
  if s.on (F.IE_ST_CFG_CONT m) then t.setEngine m (fun _ => freshBlock true (s.on F.PM_STAT_DIP))
  else (t.put (F.IE_ST_STAT_DONE m) 1).setEngine m (fun e => { e with run := false })

/-- Block length N, where 0 means 2^24 (R79). -/
def State.blockLength (s : State) (m : Nat) : Nat :=
  let n := s.get (F.IE_ST_CFG_N m)
  if n = 0 then 2 ^ 24 else n

/-- Give one result of channel ch to engine m (R77, R79). -/
def State.feedEngine (s : State) (ch : Nat) (st : Option Stamp) (r : IeResult) (m : Nat) : State :=
  let e := s.engine m
  if !(e.run && s.get (F.IE_ST_CFG_SRC m) == ch) || r.flg / 8 % 2 == 1 then s
  else
    let (x, t1) := s.sampleX ch e st r
    let x1 := if e.n = 0 then x else e.x1
    let d := x - x1
    if 2 ^ 51 ≤ d ∨ d ≤ -2 ^ 51 then s.setEngine m (fun e => { e with excl := e.excl + 1, t1 := t1 })
    else
      let t := s.setEngine m (fun e => { e with
        n := e.n + 1, s := e.s + d, q := e.q + (d * d).toNat, x1 := x1, t1 := t1,
        min := if e.n = 0 then x else min e.min x, max := if e.n = 0 then x else max e.max x,
        mig := e.mig || r.flg / 4 % 2 == 1 })
      t.when (s.blockLength m ≤ e.n + 1) (·.latchBlock m)

/-- A condition of the channel that the blocks of its engines record (R79): calibrated, dip, migration. -/
def State.markEngines (s : State) (which : IeEngine → IeEngine) (p : Nat → Bool) : State :=
  s.forAll (List.range 8) (fun t m => t.when ((t.engine m).run && p m) (·.setEngine m which))

/-! ## Results -/

/-- A result enters the channel's buffer, or is dropped and counted (R73), and its statistics engines (R67, R77). No rule gives the argument of
event 0x0213: it is the channel (DEDUCED, log entry 19). -/
def State.storeResult (s : State) (ch : Nat) (st : Option Stamp) (r : IeResult) : State :=
  let c := s.chan ch
  let t :=
    if c.buf.length < 256 then s.setChan ch (fun c => { c with buf := c.buf ++ [r], calGap := false, gateIgn := false })
    else
      let t := (s.count (F.IE_CH_STAT_OVF ch) 1).setChan ch (fun c => { c with dropped := true, calGap := false, gateIgn := false })
      t.when (!c.dropped) (·.event F.IE_EVT_OVF 0x0213 ch ch)
  t.forAll (List.range 8) (fun t m => t.feedEngine ch st r m)

/-- A result with or without a stamp, under the channel's flags: its corrected time where CORR = 1 and the stamp is VALID (R66, R87). -/
def State.flagged (s : State) (ch : Nat) (st : Option Stamp) (ph : Int) (mig empty : Bool) (count : Nat) : IeResult :=
  let c := s.chan ch
  let corr := (s.on (F.IE_CH_CFG_CORR ch) || ownedChannel ch) && st.isSome
  { raw := (st.map Stamp.word).getD 0, ph := ph, corr := if corr then (st.map Stamp.corr).getD 0 else 0,
    flg := resFlags ((st.map Stamp.rising).getD false) c.stale mig empty c.gateIgn corr c.calGap count }

/-- The result of a stamp with a value. -/
def State.resultOf (s : State) (ch : Nat) (st : Stamp) (ph : Int) (mig : Bool) (count : Nat) : IeResult := s.flagged ch (some st) ph mig false count

/-- The frequency word of n periods of length p in a span d (R70): round((n p / d - 1) 10^12 2^32), ties away from zero. -/
def freqOfWindow (n p : Nat) (d : Int) : Int := roundDiv (((n * p : Nat) : Int) * (10 ^ 12 * 2 ^ 32) - d * (10 ^ 12 * 2 ^ 32)) d.toNat

/-- The result of a frequency window that ends (R70). -/
def State.windowResult (s : State) (ch : Nat) : IeResult :=
  let c := s.chan ch
  let n := c.winEdges - 1
  let p := s.stampedPeriod ch
  match c.winFirst, c.winLast with
  | some a, some b =>
    let d := stampDiff a b
    if n = 0 ∨ p = 0 ∨ d ≤ 0 then s.flagged ch (some b) 0 (crossMigration a b) true n
    else s.resultOf ch b (freqOfWindow n p d) (crossMigration a b) n
  | _, b => s.flagged ch b 0 false true n

/-- FREQUENCY_WINDOW_RESULT (R70): the window ends with its result; on an ungated channel its last edge opens the next window. -/
def State.endWindow (s : State) (ch : Nat) (carry : Bool) : State :=
  let r := s.windowResult ch
  let t := s.storeResult ch none r
  t.setChan ch (fun c => { c with winEdges := if carry then 1 else 0, winFirst := if carry then c.winLast else none,
                                  winLast := if carry then c.winLast else none })

/-- An edge of a frequency-mode channel: st is none where its conversion was discarded (R70, R86). The windows of CH18 and CH19 end with the
baseband's check of each second (R129). -/
def State.windowEdge (s : State) (ch : Nat) (st : Option Stamp) : State :=
  let t := s.setChan ch (fun c => { c with
    winEdges := c.winEdges + 1, winFirst := if c.winEdges = 0 then st else c.winFirst, winLast := st })
  t.when (!s.gated ch && !ownedChannel ch && s.gateN ch ≤ (s.chan ch).winEdges) (·.endWindow ch true)

/-- INTERVAL_PAIR_COMPLETE (R69): a stop edge on channel ch completes every pending start that names it and is older. -/
def State.completeStarts (s : State) (ch : Nat) (stop : Stamp) : State :=
  s.forAll (List.range 32) (fun t n =>
    match (t.chan n).start with
    | none => t
    | some st =>
      if t.chanEnabled n && t.chMode n == 1 && t.get (F.IE_CH_CFG_PEER n) == ch && decide (0 < stampDiff st stop) then
        let t := t.setChan n (fun c => { c with start := none })
        t.storeResult n none (t.resultOf n stop (stampDiff st stop) (crossMigration st stop) 0)
      else t)

/-- A stamped edge under the channel's mode (R68, R69). -/
def State.modeEdge (s : State) (ch : Nat) (st : Stamp) : State :=
  match s.chMode ch with
  | 0 => s.storeResult ch (some st) (s.resultOf ch st st.phi false 0)
  | 1 =>
    let s := s.when (s.chan ch).start.isSome (·.count (F.IE_CH_STAT_UNPAIRED ch) 1)
    s.setChan ch (fun c => { c with start := some st })
  | 2 =>
    match (s.chan ch).last with
    | none => s
    | some a => s.storeResult ch (some st) (s.resultOf ch st (stampDiff a st) (crossMigration a st) 0)
  | _ => s.windowEdge ch (some st)

/-- An edge of whole tick k lies inside the channel's gate window (R75): at or after the opening tick, and before the closing tick where the
window has closed. -/
def State.gatePasses (s : State) (ch k : Nat) : Bool :=
  let c := s.chan ch
  !s.gated ch || (decide (c.gateFrom ≤ k) && (c.gateOpen || (match c.gateTo with | some e => decide (k < e) | none => false)))

/-- One more stamped edge of an edge-N window, which closes after GATE_N of them (R75, R76). -/
def State.gateCount (s : State) (ch : Nat) : State :=
  if !(s.gated ch && s.on (F.IE_CH_CFG_GATE_MODE ch) && (s.chan ch).gateOpen) then s
  else
    let left := (s.chan ch).gateLeft - 1
    let t := s.setChan ch (fun c => { c with gateLeft := left, gateOpen := left != 0 })
    t.when (left == 0 && s.chMode ch == 3) (·.endWindow ch false)

/-- What an edge on a channel comes to before its conversion. -/
inductive EdgeFate where
  | ignored | calMissed | skipped | outside | rateDropped | stamped
  deriving DecidableEq, Repr

/-- Raw position of an edge with a TAC code, back ticks before the present tick (R64, R65). -/
def State.edgePos (s : State) (ch back code : Nat) : Nat × Int := (s.tickBack back % 2 ^ 48, (s.chan ch).phi code)

/-- Judge an edge, back ticks before the present tick (R63, R68, R72, R75, R83). PRESCALE applies first: every qualifying edge counts towards the
next stamp, also one that a calibration misses or that lies outside the gate window. -/
def State.edgeFate (s : State) (ch : Nat) (rising : Bool) (back code : Nat) : EdgeFate :=
  let c := s.chan ch
  let pos := s.edgePos ch back code
  if !s.chanEnabled ch || !s.slopeTakes ch rising then .ignored
  else if s.on (F.IE_CH_STAT_CAL_BUSY ch) then .calMissed
  else if c.skip ≠ 0 then .skipped
  else if !s.gatePasses ch (s.tickBack back) && s.chMode ch != 1 then .outside
  else match c.accepted with
    | none => .stamped
    | some a => if 0 ≤ rawDiff a pos ∧ rawDiff a pos < 40000 * 65536 then .rateDropped else .stamped

/-- An edge reaches channel ch (R64 to R73, R86): back whole ticks before the present tick, with TAC code. It stamps, pairs, counts and
stores; the stamp of a converted edge is also answered, for the block that owns the channel. -/
def State.ieEdge (s : State) (ch : Nat) (rising : Bool) (back code : Nat) : State × Option Stamp :=
  let pos := s.edgePos ch back code
  let skipNext := 2 ^ s.chPrescale ch - 1
  match s.edgeFate ch rising back code with
  | .ignored => (s, none)
  | .calMissed => ((s.count (F.IE_CH_STAT_CALMISS ch) 1).setChan ch (fun c =>
      { c with calGap := true, skip := if c.skip = 0 then skipNext else c.skip - 1 }), none)
  | .skipped => (s.setChan ch (fun c => { c with skip := c.skip - 1 }), none)
  | .outside => (s.setChan ch (fun c => { c with skip := skipNext }), none)
  | .rateDropped => ((s.count (F.IE_CH_STAT_RATE ch) 1).setChan ch (fun c => { c with skip := skipNext }), none)
  | .stamped =>
    let s := s.setChan ch (fun c => { c with skip := skipNext, accepted := some pos })
    if s.on F.PM_STAT_DIP then
      let t := s.setChan ch (fun c => { c with last := none })
      let t := t.when (s.chMode ch == 3) (·.windowEdge ch none)
      (t.gateCount ch, none)
    else
      let st := s.stampOf ch rising back code
      let t := s.completeStarts ch st
      let t := if s.gatePasses ch (s.tickBack back) then (t.modeEdge ch st).gateCount ch else t
      (t.setChan ch (fun c => { c with last := some st }), some st)

/-- INTERVAL_START_TIMEOUT (R69): a start still pending after 140 s is discarded and counted. -/
def execIntervalStartTimeout (ch : Fin 32) (s : State) : Host.Outcome State Fault Refusal :=
  running s fun s =>
    s.when (s.chan ch).start.isSome (fun s =>
      (s.count (F.IE_CH_STAT_UNPAIRED ch) 1).setChan ch (fun c => { c with start := none }))

/-- The gate window of a channel opens at the present tick (R75). An ignored assertion of the window before belongs to that window alone (R76). -/
def State.openGate (s : State) (n : Nat) : State :=
  s.setChan n (fun c => { c with gateOpen := true, gateFrom := s.tick / 2 ^ 32, gateTo := none, gateLeft := s.gateN n, gateIgn := false,
                                 winEdges := 0, winFirst := none, winLast := none })

/-- An assertion or deassertion of a gate reaches one channel that it gates (R75, R76). -/
def State.gateChannel (s : State) (n : Nat) (asserted : Bool) : State :=
  let c := s.chan n
  if s.on (F.IE_CH_CFG_GATE_MODE n) then
    if !asserted then s
    else if c.gateOpen then s.setChan n (fun c => { c with gateIgn := true })
    else s.openGate n
  else if asserted then s.openGate n
  else
    (s.setChan n (fun c => { c with gateOpen := false, gateTo := if c.gateOpen then some (s.tick / 2 ^ 32) else c.gateTo })).when
      (c.gateOpen && s.chMode n == 3) (·.endWindow n false)

/-- GATE_TRANSITION (R75, R76): GATE_IN0 or GATE_IN1 takes a level; the command is the third tick edge after the transition, the tick at which a
window opens or closes. -/
def execGateTransition (gate : Fin 2) (level : Bool) (s : State) : Host.Outcome State Fault Refusal :=
  running s fun s =>
    if level == s.ie.gates.getD gate.val false then s
    else { s with ie.gates := assign false gate.val level s.ie.gates }.forAll (List.range 32) (fun t n =>
      t.when (t.chanEnabled n && t.get (F.IE_CH_CFG_GATE_SEL n) == gate.val + 1)
        (·.gateChannel n (level == s.on (F.IE_CH_CFG_GATE_POL n))))

/-- The value a read of IE_CHn_RES_RAW returns, and what it does (R74). A value beyond RES_PH's 64 signed bits saturates (DEDUCED, log entry 18). -/
def State.readResRaw (s : State) (n : Nat) : State × Word :=
  let c := s.chan n
  let r := c.buf.headD {}
  let t := s.setChan n (fun c => { c with buf := c.buf.tail, dropped := c.dropped && !c.buf.tail.isEmpty })
  let t := (t.putI (F.IE_CH_RES_PH_PH n) (clampI (-2 ^ 63) (2 ^ 63 - 1) r.ph)).put (F.IE_CH_RES_SEC_SEC n) (secOf r.corr)
  let nsf := nsfOf r.corr
  let t := (t.put (F.IE_CH_RES_NSF_FRAC n) nsf).put (F.IE_CH_RES_NSF_NS n) (nsf / 2 ^ 32)
  let flag (t : State) (f : Fld) (b : Nat) : State := t.put f (r.flg / 2 ^ b)
  let t := flag (flag (flag (flag t (F.IE_CH_RES_FLG_EDGE n) 0) (F.IE_CH_RES_FLG_CAL_STALE n) 1) (F.IE_CH_RES_FLG_MIG n) 2)
    (F.IE_CH_RES_FLG_EMPTY n) 3
  let t := flag (flag (flag (flag t (F.IE_CH_RES_FLG_GATE_IGN n) 4) (F.IE_CH_RES_FLG_CORR_VALID n) 5) (F.IE_CH_RES_FLG_CALGAP n) 6)
    (F.IE_CH_RES_FLG_COUNT n) 16
  (t, r.raw)

/-- IE_RES_RAW_READ (R74): a read of IE_CHn_RES_RAW through a host path. -/
def execIeResRawRead (path : Path) (ch : Fin 32) (s : State) : Host.Outcome State Fault Refusal :=
  running s fun s =>
    let off := (F.IE_CH_RES_RAW_RAW ch).off
    s.hostRead path off (fun s =>
      let r := s.readResRaw ch
      r.1.emit (.readData off r.2))

/-- A write of IE_STm_CFG (R79): EN = 1 clears the accumulators and starts a block, EN = 0 stops without latching. -/
def State.writeStCfg (s : State) (m : Nat) (v : Word) : State :=
  let en := (F.IE_ST_CFG_EN m).ofWord v
  let t := (((s.put (F.IE_ST_CFG_EN m) en).put (F.IE_ST_CFG_SRC m) ((F.IE_ST_CFG_SRC m).ofWord v)).put
    (F.IE_ST_CFG_CONT m) ((F.IE_ST_CFG_CONT m).ofWord v)).put (F.IE_ST_CFG_N m) ((F.IE_ST_CFG_N m).ofWord v)
  if en = 1 then (t.put (F.IE_ST_STAT_SEQ m) 0).setEngine m (fun _ => freshBlock true (s.on F.PM_STAT_DIP))
  else t.setEngine m (fun e => { e with run := false })

/-- IE_ST_CFG_WRITE (R79). -/
def execIeStCfgWrite (path : Path) (m : Fin 8) (v : Word) (s : State) : Host.Outcome State Fault Refusal :=
  running s fun s => s.hostWrite path (F.IE_ST_CFG_EN m).off (·.writeStCfg m v)

/-! ## Calibration -/

/-- The part calibrates the channel on its own (R82): AUTO, enabled and not masked in SKIP. -/
def State.autoCal (s : State) (n : Nat) : Bool :=
  s.on F.IE_CAL_CFG_AUTO && s.chanEnabled n && s.get F.IE_CAL_CFG_SKIP / 2 ^ n % 2 == 0

/-- The channel that is in calibration. -/
def State.calCurrent (s : State) : Option Nat := if s.on F.IE_CAL_STAT_BUSY then some (s.get F.IE_CAL_STAT_CUR) else none

/-- Queue a channel for calibration; a request for one queued or in calibration has no further effect (R82). -/
def State.queueCal (s : State) (n : Nat) : State :=
  if s.ie.queue.contains n || s.calCurrent == some n then s else { s with ie.queue := s.ie.queue ++ [n] }

/-- Queue every channel that the part calibrates on its own (R82). -/
def State.queueAutoAll (s : State) : State := s.forAll (List.range 32) (fun t n => t.when (t.autoCal n) (·.queueCal n))

/-- UNC as reported: three times its value while stale, saturating; all ones before the first calibration (R85). -/
def State.showUnc (s : State) (n : Nat) : State :=
  let c := s.chan n
  let u := match c.unc with
    | none => 0xFFFFFFFF
    | some u => min (if c.stale then 3 * u else u) 0xFFFFFFFF
  let mask := s.get F.IE_CAL_STAT_VALID
  let bit := mask / 2 ^ n % 2
  let valid := c.unc.isSome && !c.stale
  let mask' := if valid then mask + (1 - bit) * 2 ^ n else mask - bit * 2 ^ n
  ((s.put (F.IE_CH_UNC_UNC n) u).put F.IE_CAL_STAT_VALID mask').putB (F.IE_CH_STAT_CAL_STALE n) c.stale

/-- A channel's calibration becomes stale, with event 0x0212 the first time that one of the cases of R85 meets it; a channel never calibrated has
none to become stale (DEDUCED, log entry 34). No rule gives the event's argument: it is the channel (DEDUCED, log entry 19). -/
def State.makeStale (s : State) (n : Nat) : State :=
  let c := s.chan n
  if c.stale || c.unc.isNone then s
  else ((s.setChan n (fun c => { c with stale := true })).showUnc n).event F.IE_EVT_CAL_STALE 0x0212 n n

/-- The end of a dip episode or of a migration, completed or aborted: where neither goes on, the calibrations that they rejected are retried (R84). -/
def State.retryCals (s : State) : State :=
  if s.on F.PM_STAT_DIP || s.on F.TB_STAT_MIG then s else ({ s with ie.retry := [] }).forAll s.ie.retry State.queueCal

/-- What a completed migration does to the engine (R79, R82, R84, R85). -/
def State.ieMigrated (s : State) : State :=
  let t := s.markEngines (fun e => { e with mig := true }) (fun _ => true)
  let t := t.forAll (List.range 32) (fun t n => t.makeStale n)
  let t := { t with ie.calSpoilt := t.ie.calSpoilt || t.on F.IE_CAL_STAT_BUSY }
  t.queueAutoAll.retryCals

/-- What the start of a dip episode does to the engine (R79, R84). -/
def State.ieDipBegins (s : State) : State :=
  let t := s.markEngines (fun e => { e with dip := true }) (fun _ => true)
  { t with ie.calSpoilt := t.ie.calSpoilt || t.on F.IE_CAL_STAT_BUSY }

/-- A migration starts: it spoils a running calibration (R84). -/
def State.ieMigrationBegins (s : State) : State := { s with ie.calSpoilt := s.ie.calSpoilt || s.on F.IE_CAL_STAT_BUSY }

/-- A write of IE_CAL_REQ (R82, R87): ALL queues every enabled channel, GO queues CH. -/
def State.writeCalReq (s : State) (v : Word) : State :=
  if F.IE_CAL_REQ_ALL.ofWord v = 1 then
    s.forAll (List.range 32) (fun t n => t.when (t.chanEnabled n) (·.queueCal n))
  else s.when (F.IE_CAL_REQ_GO.ofWord v == 1) (·.queueCal (F.IE_CAL_REQ_CH.ofWord v))

/-- IE_CAL_REQ_GO (R82): a write of IE_CAL_REQ with GO = 1. -/
def execIeCalReqGo (path : Path) (ch : BitVec 5) (s : State) : Host.Outcome State Fault Refusal :=
  running s fun s => s.hostWrite path F.IE_CAL_REQ_GO.off (·.writeCalReq (BitVec.ofNat 64 (ch.toNat + 32)))

/-- IE_CAL_REQ_ALL (R82): a write of IE_CAL_REQ with ALL = 1; CH is ignored. -/
def execIeCalReqAll (path : Path) (ch : BitVec 5) (s : State) : Host.Outcome State Fault Refusal :=
  running s fun s => s.hostWrite path F.IE_CAL_REQ_ALL.off (·.writeCalReq (BitVec.ofNat 64 (ch.toNat + 64)))

/-- PERIOD in units of State.now, where 0 acts as 1 s (R82, R87). -/
def State.calPeriod (s : State) : Nat := max 1 (s.get F.IE_CAL_CFG_PERIOD) * tuSec

/-- The channel has a calibration older than k times PERIOD (R82, R85). -/
def State.calOlder (s : State) (n k : Nat) : Bool := (s.chan n).unc.isSome && decide ((s.chan n).calTime + k * s.calPeriod < s.now)

/-- The die temperature has moved by more than TEMP_DELTA, where 0 acts as 1 °C, from its value at the channel's calibration (R82, R85). -/
def State.calMoved (s : State) (n : Nat) : Bool :=
  (s.chan n).unc.isSome && decide (max 1 (s.get F.IE_CAL_CFG_TEMP_DELTA) < (s.getI F.PM_TEMP_TJ - s.getI (F.IE_CH_UNC_TEMP_CAL n)).natAbs)

/-- CAL_PERIOD_EXPIRY (R82): a channel whose calibration is older than PERIOD is queued. -/
def execCalPeriodExpiry (ch : Fin 32) (s : State) : Host.Outcome State Fault Refusal :=
  running s fun s => s.when (s.autoCal ch && s.calOlder ch 1) (·.queueCal ch)

/-- CAL_TEMP_TRIGGER (R82, R85): where the die temperature has moved by more than TEMP_DELTA, the channel is queued, or becomes stale where the
part does not calibrate it on its own. -/
def execCalTempTrigger (ch : Fin 32) (s : State) : Host.Outcome State Fault Refusal :=
  running s fun s =>
    s.when (s.calMoved ch) (fun s =>
      if s.autoCal ch then s.queueCal ch
      else s.when (!s.on F.IE_CAL_CFG_AUTO || s.get F.IE_CAL_CFG_SKIP / 2 ^ ch.val % 2 == 1) (·.makeStale ch))

/-- log2 of H: LOG2_COUNT, from 16 to 24 (R81, R87). -/
def State.calLog2 (s : State) : Nat := max 16 (min 24 (s.get F.IE_CAL_CFG_LOG2_COUNT))

/-- The channel's calibration waits for a stamped edge (R83): a software channel in timestamp mode whose stamped period exceeds the sequence,
H / 25 M per second plus 8 ms, by at least 200 µs. -/
def State.calSlow (s : State) (n : Nat) : Bool :=
  !ownedChannel n && s.chMode n == 0 && decide ((2 ^ s.calLog2 * 40000 + 8000000000 + 200000000) * 65536 ≤ s.stampedPeriod n)

/-- A stamped edge of the channel lies at most 100 µs back, 62,500 ticks (R83). -/
def State.edgeJustStamped (s : State) (n : Nat) : Bool :=
  match (s.chan n).last with
  | some st => decide (0 ≤ tickDiff st.tick s.coarse) && decide (tickDiff st.tick s.coarse ≤ 62500)
  | none => false

/-- Begin step 1 of R81 on the channel at the head of the queue, where no calibration is running and the channel may begin. -/
def State.beginCal (s : State) (may : Nat → Bool) : State :=
  match s.ie.queue, s.on F.IE_CAL_STAT_BUSY with
  | ch :: rest, false =>
    if !may ch then s
    else
      let t := ((s.put F.IE_CAL_STAT_BUSY 1).put F.IE_CAL_STAT_CUR ch).put (F.IE_CH_STAT_CAL_BUSY ch) 1
      let t := t.markEngines (fun e => { e with calGap := true }) (fun m => s.get (F.IE_ST_CFG_SRC m) == ch)
      let t := if 12 ≤ ch ∧ ch < 18 then { t with wire.ports := alter {} (ch - 12) (fun p => { p with calSpoilt := true }) t.wire.ports } else t
      { t with ie.queue := rest, ie.calSpoilt := s.on F.PM_STAT_DIP || s.on F.TB_STAT_MIG, ie.calLog := s.calLog2 }
  | _, _ => s

/-- CAL_START (R81, R83): the calibration of the channel at the head of the queue begins, on a slow channel within 100 µs after a stamped edge. -/
def execCalStart (s : State) : Host.Outcome State Fault Refusal :=
  running s fun s => s.beginCal (fun ch => !s.calSlow ch || s.edgeJustStamped ch)

/-- CAL_WAIT_TIMEOUT (R83): one and a half stamped periods of a slow channel have passed without a stamped edge. -/
def execCalWaitTimeout (s : State) : Host.Outcome State Fault Refusal := running s (·.beginCal s.calSlow)

/-- Least-squares line through three points (x, y): its slope as a fraction (num, den) and its offset at mean x, mean y. Used by step 5
of R81: the fitted phi of a known interval p is p. -/
def fitLine (xs ys : List Int) : Int × Int :=
  let n : Int := xs.length
  let sx := xs.sum
  let sy := ys.sum
  let sxy := (List.zipWith (· * ·) xs ys).sum
  let sxx := (xs.map (fun x => x * x)).sum
  (n * sxy - sx * sy, n * sxx - sx * sx)

/-- The known positions of step 4 of R81, in 2^-16 ps: 400 ps, 800 ps and 1,200 ps. -/
def knownPositions : List Int := [400 * 65536, 800 * 65536, 1200 * 65536]

/-- The provisional table of step 3 of R81: below is the number of conversions with code below 32 j, for j from 0 to 256. -/
def provisionalTable (below : List Nat) (h : Nat) : List Int :=
  below.map (fun n => 1600 * 65536 + roundDiv (1600 * 65536 * n) h)

/-- phi corrected by the line that maps the measured means to the known positions: gain num/den about the means' centre. -/
def correctedPhi (gain : Int × Int) (means : List Int) (phi : Int) : Int :=
  let sx := means.sum
  800 * 65536 + roundDiv ((3 * phi - sx) * gain.1) (3 * gain.2).toNat

/-- The table after step 5 of R81: every breakpoint, as the phi it stands for, passes through the fitted line. -/
def fittedTable (gain : Int × Int) (means below : List Int) : List Int :=
  below.map (fun b => 3200 * 65536 - correctedPhi gain means (3200 * 65536 - b))

/-- The largest residual at the known positions, in 2^-16 ps (R84, R85). -/
def calResidual (gain : Int × Int) (means : List Int) : Nat :=
  ((List.zipWith (fun m k => (correctedPhi gain means m - k).natAbs) means knownPositions).foldl max 0)

/-- The gain lies from 0.95 to 1.05 (R84). -/
def gainOk (gain : Int × Int) : Bool := decide (0 < gain.2) && decide (95 * gain.2 ≤ 100 * gain.1) && decide (100 * gain.1 ≤ 105 * gain.2)

/-- UNC of a calibration (R85): the largest residual plus 0.195 ps, and 20 ps more for CH0 to CH11, in 2^-16 ps. -/
def calUnc (ch residual : Nat) : Nat := residual + 12780 + (if ch < 12 then 20 * 65536 else 0)

/-- The mean phi, under the provisional table, of the conversions at one known position, given as codes with how often each came (R81 step 4). -/
def provisionalMean (table : List Int) (codes : List (Nat × Nat)) : Int :=
  roundDiv ((codes.map (fun e => ({ table := table } : IeChan).phi e.1 * e.2)).sum) (max 1 ((codes.map (fun e => e.2)).sum))

/-- The three means of step 4 of R81. -/
def provisionalMeans (table : List Int) (known : List (List (Nat × Nat))) : List Int := known.map (provisionalMean table)

/-- The checks of R84 that do not depend on what happened meanwhile. -/
def calPasses (distinct : Nat) (means : List Int) : Bool :=
  let gain := fitLine means knownPositions
  decide (3900 ≤ distinct) && gainOk gain && decide (calResidual gain means ≤ 65536)

/-- CAL_COMPLETE (R81, R84, R85): the sequence ends with the number of distinct codes hit, the histogram counts below each breakpoint, and at
each known position the codes converted with their counts. -/
def execCalComplete (distinct : Nat) (below : List Nat) (known : List (List (Nat × Nat))) (s : State) : Host.Outcome State Fault Refusal :=
  running s fun s =>
    match s.calCurrent with
    | none => s
    | some ch =>
      let table := provisionalTable below (2 ^ s.ie.calLog)
      let means := provisionalMeans table known
      let gain := fitLine means knownPositions
      let t := ((s.put F.IE_CAL_STAT_BUSY 0).put (F.IE_CH_STAT_CAL_BUSY ch) 0).put F.IE_CAL_STAT_CUR 0
      if calPasses distinct means && !s.ie.calSpoilt then
        let t := t.setChan ch (fun c => { c with
          table := fittedTable gain means table, unc := some (calUnc ch (calResidual gain means)), stale := false, calTime := s.now })
        let t := t.markEngines (fun e => { e with calGap := true }) (fun m => s.get (F.IE_ST_CFG_SRC m) == ch)
        let t := ((t.showUnc ch).put (F.IE_CH_UNC_AGE ch) 0).put (F.IE_CH_UNC_TEMP_CAL ch) (s.get F.PM_TEMP_TJ)
        t.event F.IE_EVT_CAL_DONE 0x0210 ch ch
      else
        let t := { t with ie.retry := if s.ie.calSpoilt then t.ie.retry ++ [ch] else t.ie.retry,
                          rd.tacBad := t.rd.tacBad || (!s.ie.calSpoilt && s.get F.RD_RIME_STAT_STATE == 1) }
        (t.event F.IE_EVT_CAL_FAIL 0x0211 ch ch).when s.ie.calSpoilt State.retryCals

/-- CAL_AGE_STALE (R85): a calibration whose age exceeds twice PERIOD becomes stale. -/
def execCalAgeStale (ch : Fin 32) (s : State) : Host.Outcome State Fault Refusal :=
  running s fun s => s.when (s.calOlder ch 2) (·.makeStale ch)

end Sys2Proof.Machine
end

