-- ==== Sys2Proof/Machine/Reference.lean ====
section
/-! DEFINITION. Reference inputs and selection (chapter 05): presence, samples, observation windows, slot states, selection and contests. -/
namespace Sys2Proof.Machine

/-- Slot n. -/
def State.slot (s : State) (n : Nat) : RsSlot := s.rs.slots.getD n {}

/-- Change slot n. -/
def State.setSlot (s : State) (n : Nat) (f : RsSlot → RsSlot) : State := { s with rs.slots := alter {} n f s.rs.slots }

/-- TYPE of slot n (R89). -/
def State.slotType (s : State) (n : Nat) : Nat := s.get (F.RS_REF_CFG_TYPE n)

/-- SRC of slot n lies in the range of its type (R89). -/
def State.srcValid (s : State) (n : Nat) : Bool :=
  let src := s.get (F.RS_REF_CFG_SRC n)
  match s.slotType n with
  | 1 => src < 8
  | 2 => src < 8 || src == 10
  | 4 => src < 4
  | 5 => src < 4 || src == 5
  | 7 => false
  | _ => true

/-- The slot takes part: EN = 1 with a real type and a source in range (R88, R89). -/
def State.slotOn (s : State) (n : Nat) : Bool := s.on (F.RS_REF_CFG_EN n) && s.srcValid n

/-- The slot is a time reference (R89). -/
def State.isTimeRef (s : State) (n : Nat) : Bool :=
  match s.slotType n with
  | 0 | 1 | 4 | 6 => true
  | 3 => s.on (F.RS_REF_CFG_PPS_USE n)
  | _ => false

/-- The IE channel whose stamps measure the slot, if one does (R89). -/
def State.slotChannel (s : State) (n : Nat) : Option Nat :=
  match s.slotType n with
  | 1 | 2 => some (s.get (F.RS_REF_CFG_SRC n))
  | 3 => some (if s.on (F.RS_REF_CFG_PPS_USE n) then 8 else 9)
  | 5 => some (12 + s.get (F.RS_REF_CFG_SRC n))
  | _ => none

/-- The channel is enabled in timestamp mode with a nominal period (R89). -/
def State.chanMeasures (s : State) (ch : Nat) : Bool :=
  s.chanEnabled ch && s.chMode ch == 0 && s.chNom ch != 0

/-- The presence test of slot n (R89). -/
def State.slotPresent (s : State) (n : Nat) : Bool :=
  let src := s.get (F.RS_REF_CFG_SRC n)
  match s.slotType n with
  | 0 => s.on F.GN_STAT_SOL_VALID
  | 1 => s.chanMeasures src && s.rs.near15.getD src false
  | 2 => s.chanMeasures src && s.rs.near20.getD src false
  | 3 => s.on F.TB_STAT_ATOM_LOCK && s.chanMeasures 9 && s.rs.near20.getD 9 false &&
      (!s.on (F.RS_REF_CFG_PPS_USE n) || (s.chanMeasures 8 && s.rs.near15.getD 8 false))
  | 4 => (s.pt.ports.getD src {}).syncOk && (s.pt.ports.getD src {}).annOk && !(s.pt.ports.getD src {}).changed
  | 5 => s.get (F.LN_LANE_STAT_STATE src) == 3
  | 6 => s.on F.RD_MATE_STAT_LINK
  | _ => false

/-- The validity test of slot n fails (R89). -/
def State.slotRejected (s : State) (n : Nat) : Bool :=
  let src := s.get (F.RS_REF_CFG_SRC n)
  match s.slotType n with
  | 0 => s.on F.GN_STAT_SPOOF_REJ
  | 4 => (s.pt.ports.getD src {}).rejected
  | 5 => s.get (F.PT_PORT_ESMC_QL_RX src) == 15 || !s.on (F.PT_PORT_ESMC_RX_OK src)
  | 6 => s.get F.RD_MATE_BOUND_BOUND == unbounded
  | _ => false

/-! ## Samples -/

/-- Raw time minus corrected time now, 2^-16 ps. -/
def State.rawMinusCorrected (s : State) : Int := roundDiv (s.tick * 1600) 65536 - phaseOfSpan s.now

/-- The frozen prediction p(t) - p(start) of a window at corrected time t, 2^-16 ps (R92). -/
def RsWindow.predict (w : RsWindow) (t : Nat) : Int :=
  let d : Int := (t : Int) - w.anchor
  w.pBase + roundDiv ((if d < 0 then w.yBefore else w.y) * d) (tuSec * 65536) + roundDiv (w.dd * d * d) (2 * tuSec * tuSec * 65536)

/-- The residual e of a sample in a window, 2^-16 ps (R92); the first sample is the window's origin. -/
def RsWindow.residual (w : RsWindow) (x : Sample) : Int :=
  if w.n = 0 then 0 else (x.r - w.r0) - (w.predict x.time - w.predict w.t0)

/-- Add a sample to a window (R92). -/
def RsWindow.add (w : RsWindow) (x : Sample) : RsWindow :=
  let e := w.residual x
  let t0 := if w.n = 0 then x.time else w.t0
  let t := roundDiv ((x.time : Int) - t0) tuUs
  { w with n := w.n + 1, st := w.st + t, se := w.se + e, stt := w.stt + t * t, ste := w.ste + t * e,
           r0 := if w.n = 0 then x.r else w.r0, t0 := t0, w := max w.w e.natAbs }

/-- Take a measurement into slot n: no sample taken in a dip episode enters (R105). -/
def State.takeSample (s : State) (n : Nat) (x : Sample) : State :=
  if s.on F.PM_STAT_DIP then s else s.setSlot n (fun c => { c with
    last := some x, fresh := true, due := true, origin := if s.isTimeRef n then c.origin else some (c.origin.getD x.off) })

/-- The residual of slot n at an update (R92, R101): the latest measurement since the last update enters the window and the mean that the
comparisons use. An update without a new measurement adds none (DEDUCED, log entry 35). -/
def State.enterSample (s : State) (n : Nat) : State :=
  let c := s.slot n
  match c.last with
  | none => s
  | some x =>
    if !c.due || s.on F.PM_STAT_DIP || s.get (F.RS_REF_STAT_STATE n) < 2 then s.setSlot n (fun c => { c with due := false })
    else s.setSlot n (fun c => { c with
      due := false, usedUnc := x.unc, win := c.win.add x, meanN := c.meanN + 1, meanSum := c.meanSum + (x.pos - s.rs.cmp.predict x.time) })

/-- A measurement of the offset corrected - reference made now, State.now units (R89: PTP, MATE). -/
def State.offsetNow (s : State) (off : Int) : Sample :=
  let r := phaseOfSpan off + s.rawMinusCorrected
  { time := s.now, r := r, pos := r, off := off }

/-- Raw time of a stamp in 2^-16 ps, on the count of ticks that does not wrap. -/
def State.rawOf (s : State) (st : Stamp) : Int := ((s.tick / 2 ^ 32 : Nat) - tickDiff st.tick s.coarse : Int) * (1600 * 65536) + st.phi

/-- A measurement of the offset corrected - reference made at a stamp, with its uncertainty (R92, R134, R135). -/
def State.offsetAt (s : State) (st : Stamp) (off : Int) (unc : Nat) : Sample :=
  let r := phaseOfSpan off + (s.rawOf st - phaseOfSpan st.corr)
  { time := st.corr, r := r, pos := r, off := off, unc := unc }

/-- Give a measurement to every enabled slot of a type and source. -/
def State.sampleToSlots (s : State) (type : Nat) (src : Option Nat) (x : Sample) : State :=
  s.forAll (List.range 16) (fun t n =>
    t.when (t.slotOn n && t.slotType n == type && (src == none || src == some (t.get (F.RS_REF_CFG_SRC n)))) (·.takeSample n x))

/-- Give an offset measured now to every enabled slot of a type and source. -/
def State.offsetToSlots (s : State) (type : Nat) (src : Option Nat) (off : Int) : State := s.sampleToSlots type src (s.offsetNow off)

/-- Corrected time minus the nearest TAI second, from -0.5 s up to but excluding 0.5 s (R120). -/
def secondOffset (t : Nat) : Int :=
  let f := t % tuSec
  if 2 * f < tuSec then f else (f : Int) - tuSec

/-- A stamped edge of channel ch, at a raw position, is seen by the selector's presence tests, and the channel's phase goes on (R89, R92). An edge
whose conversion a dip discards counts at its coarse count, with no phase (R86). -/
def State.seeEdge (s : State) (ch : Nat) (pos : Nat × Int) : State :=
  let p := s.stampedPeriod ch
  if p = 0 ∨ s.chMode ch ≠ 0 then s
  else
    let gap := (s.rs.chanTick.getD ch none).map (fun a => rawDiff a pos)
    let step : Int := match gap with | none => 0 | some d => d - roundDiv d p * p
    let within (k : Int) : Bool := match gap with | none => false | some d => decide (2 * d ≤ k * p)
    { s with rs.chanTick := assign none ch (some pos) s.rs.chanTick,
             rs.chanPhase := assign 0 ch (s.rs.chanPhase.getD ch 0 + step) s.rs.chanPhase,
             rs.near15 := assign false ch (within 3) s.rs.near15, rs.near20 := assign false ch (within 4) s.rs.near20 }

/-- A stamped edge of channel ch reaches the selector: the presence tests, and a sample for each slot that the channel measures (R89, R92). -/
def State.refEdge (s : State) (ch : Nat) (st : Stamp) : State :=
  if s.stampedPeriod ch = 0 ∨ s.chMode ch ≠ 0 then s
  else
    let s := s.seeEdge ch st.pos
    let phase := s.rs.chanPhase.getD ch 0
    let lead := s.rawOf st - phaseOfSpan st.corr
    s.forAll (List.range 16) (fun t n =>
      if !(t.slotOn n && t.slotChannel n == some ch) then t
      else if t.isTimeRef n then
        let off := secondOffset st.corr
        t.takeSample n { time := st.corr, r := phase, pos := phaseOfSpan off + lead, off := off }
      else t.takeSample n { time := st.corr, r := phase, pos := phase, off := spanOfPhase (phase - lead) })

/-- Half k times P has passed after the channel's last stamped edge that the selector saw; so it has where it saw none (R89). -/
def State.edgeOverdue (s : State) (ch k : Nat) : Bool :=
  match s.rs.chanTick.getD ch none with
  | none => true
  | some a => decide ((k * s.stampedPeriod ch : Int) ≤ 2 * rawDiff a (s.coarse, 0))

/-- REF_PRESENCE_TIMEOUT (R89): where 1.5 P, or 2 P, has passed after the channel's last stamped edge, the test of that limit fails. -/
def execRefPresenceTimeout (ch : Fin 32) (two : Bool) (s : State) : Host.Outcome State Fault Refusal :=
  running s fun s => s.when (s.edgeOverdue ch (if two then 4 else 3)) fun s =>
    if two then { s with rs.near20 := assign false ch false s.rs.near20, rs.near15 := assign false ch false s.rs.near15 }
    else { s with rs.near15 := assign false ch false s.rs.near15 }

/-! ## Windows -/

/-- tc of R116 in 2^-32 ppt: the temperature term, 0 unless every condition holds. -/
def State.tempTerm (s : State) : Int :=
  let a := s.get F.TB_THERM_AVG
  if s.on F.TK_CTL_TEMPCO_EN && s.get F.TB_STAT_ACT == 0 && !s.on F.TB_THERM_OPEN && s.on F.TB_THERM_EN && s.tb.therm.length == 16 then
    s.getI F.TK_TEMPCO_C * ((a : Int) - s.get F.TK_TEMPCO_A_REF) * 65536
  else 0

/-- The active core, in a switchover gap the one that was: 0 TKA, 1 TKB (R108, R344). -/
def State.core (s : State) : Nat := s.get F.RD_STAT_ACTIVE_CORE

/-- Predicted rate of the tick, y + tc, and its drift, both 2^-32 (R92, R116). -/
def State.predictedRate (s : State) : Int := s.getI (F.TK_MODEL_Y_Y s.core) + s.tempTerm

/-- A window that starts now with the active core's prediction frozen (R92). -/
def State.newWindow (s : State) : RsWindow :=
  { start := s.now, anchor := s.now, yBefore := s.predictedRate, y := s.predictedRate, dd := s.getI (F.TK_MODEL_DD_DD s.core), noY := s.on F.PM_STAT_DIP, noD := s.on F.PM_STAT_DIP }

/-- Window length T of slot n in seconds; 0 acts as 1 (R107). -/
def State.obs (s : State) (n : Nat) : Nat := max 1 (s.get (F.RS_REF_QUAL_OBS n))

/-- Soft and hard limits of slot n: frequency in 2^-32 ppt, wander in 2^-16 ps; a hard limit below its soft limit takes its place (R93). -/
def State.limits (s : State) (n : Nat) : Nat × Nat × Nat × Nat :=
  let fh := s.get (F.RS_REF_LIM_FHARD n) * 10 * 2 ^ 32
  let wh := s.get (F.RS_REF_LIM_WHARD n) * 1000 * 65536
  (min (s.get (F.RS_REF_LIM_FSOFT n) * 10 * 2 ^ 32) fh, fh, min (s.get (F.RS_REF_LIM_WSOFT n) * 1000 * 65536) wh, wh)

/-- Least-squares slope of e over a window in 2^-32 ppt (R92): none below two samples. -/
def RsWindow.slope (w : RsWindow) : Option Int :=
  let den := w.n * w.stt - w.st * w.st
  if w.n < 2 ∨ den ≤ 0 then none else some (roundDiv ((w.n * w.ste - w.st * w.se) * (10 ^ 6 * 65536)) den.toNat)

/-- Drifting excess of R94 in ps, rounded up. -/
def excessOf (w wsoft : Nat) (y d : Option Int) (fsoft t : Nat) (slope : Bool) : Nat :=
  let a := (w - wsoft) * 65536
  let b := match y with | none => 0 | some y => (y.natAbs - fsoft) * t
  let c := match d with | some d => if slope then d.natAbs * t * t else 0 | none => 0
  (2 * (a + b) + c + (2 ^ 33 - 1)) / 2 ^ 33

/-- A bandwidth entry's value in µHz, from 100 µHz to 1 Hz (R90). -/
def bwLimit (v : Nat) : Nat := max 100 (min 1000000 v)

/-- Default, minimum and maximum bandwidth of a type; with MIN above MAX both act as DEF (R90, R91). -/
def State.bwRange (s : State) (type : Nat) : Nat × Nat × Nat :=
  let d := bwLimit (s.get (F.RS_TYPE_BW_DEF type))
  let lo := bwLimit (s.get (F.RS_TYPE_BW_MIN type))
  let hi := bwLimit (s.get (F.RS_TYPE_BW_MAX type))
  if hi < lo then (d, d, d) else (d, lo, hi)

/-- Bandwidth adaptation at the end of a window (R91): a free value, within a factor of 2 of the present bandwidth and between the type's
minimum and maximum, because the spec states neither noise estimate (log entry 1). -/
def State.adaptBandwidth (s : State) (n : Nat) : State :=
  if s.on (F.RS_REF_CFG_BW_FIX n) then s.put (F.RS_REF_BW_BW_NOW n) (bwLimit (s.get (F.RS_REF_BW_BW n)))
  else
    s.takeFree fun s v =>
      let now := s.get (F.RS_REF_BW_BW_NOW n)
      let (_, lo, hi) := s.bwRange (s.slotType n)
      let a := max lo ((now + 1) / 2)
      let b := min hi (2 * now)
      s.put (F.RS_REF_BW_BW_NOW n) (if a ≤ b then a + v.toNat % (b - a + 1) else max lo (min hi now))

/-- The bandwidth a reference starts with (R91). -/
def State.startBandwidth (s : State) (n : Nat) : State :=
  s.put (F.RS_REF_BW_BW_NOW n)
    (if s.on (F.RS_REF_CFG_BW_FIX n) then bwLimit (s.get (F.RS_REF_BW_BW n)) else (s.bwRange (s.slotType n)).1)

/-- The run of windows with |d| above DRIFT_LIM after a window (R92): its length, its sign, and the slope flag. -/
def State.driftRun (s : State) (n : Nat) (d : Option Int) : Nat × Bool × Bool :=
  let c := s.slot n
  match d with
  | none => (c.run, c.runPos, s.on (F.RS_REF_STAT_SLOPE n))
  | some d =>
    let lim : Int := s.get (F.RS_REF_QUAL_DRIFT_LIM n) * 2 ^ 32 / 100
    if 100 * d.natAbs ≤ s.get (F.RS_REF_QUAL_DRIFT_LIM n) * 2 ^ 32 then (0, c.runPos, false)
    else
      let pos := decide (lim < d)
      let k := if c.run ≠ 0 && pos == c.runPos then c.run + 1 else 1
      (k, pos, decide (max 1 (s.get (F.RS_REF_QUAL_DRIFT_CNT n)) ≤ k))

/-- RS_WINDOW_END (R92, R94, R91): the observation window of a slot ends and the next begins. -/
def State.endObservation (s : State) (n : Nat) : State :=
  let c := s.slot n
  let w := c.win
  let y := if w.noY then none else w.slope
  let d := match y, c.prevY with
    | some a, some b => if w.noD then none else some (roundDiv (a - b) (s.obs n))
    | _, _ => none
  let (run, pos, slope) := s.driftRun n d
  let (fsoft, _, wsoft, _) := s.limits n
  let yNow := match y with | none => c.y | some v => some v
  let dNow := match d with | none => c.d | some v => some v
  let softY := match y with | none => false | some v => decide (fsoft < v.natAbs)
  let whole := match c.goodFrom with
    | none => false
    | some g => decide (g ≤ w.start)
  let t := s.setSlot n (fun c => { c with
    win := s.newWindow, y := yNow, d := dNow, prevY := y, run := run, runPos := pos, ended := true, endY := y,
    endExcess := boundSat (excessOf w.w wsoft yNow dNow fsoft (s.obs n) slope),
    endClean := !(w.soft || decide (wsoft < w.w) || softY || slope || w.noY), wholeSince := if whole then some w.start else c.wholeSince })
  let t := t.putB (F.RS_REF_STAT_SLOPE n) slope
  let t := match y with
    | none => t
    | some v => t.putI (F.RS_REF_MEAS_Y n) (clampI (-2147483648) 2147483647 (roundDiv v (2 ^ 32)))
  let t := t.when (s.get (F.RS_REF_STAT_STATE n) == 4) (fun t => t.put (F.RS_REF_EXCESS_EXCESS n) (t.slot n).endExcess)
  t.adaptBandwidth n

/-- The slot depends on a MAC: PTP and SYNCE (R105). -/
def State.slotOfMac (s : State) (n : Nat) : Bool := s.slotType n == 4 || s.slotType n == 5

/-- Every slot freezes in a dip episode, and PTP and SYNCE slots while an image reload resets the MACs (R105). -/
def State.slotFrozen (s : State) (n : Nat) : Bool := s.on F.PM_STAT_DIP || (s.get F.DF_STAT_STATE == 2 && s.slotOfMac n)

/-- The window of slot n yields no y and no d (R105). -/
def State.spoilWindow (s : State) (n : Nat) : State := s.setSlot n (fun c => { c with win := { c.win with noY := true, noD := true } })

/-- RS_WINDOW_END (R92): an observation window of slot n ends; a slot without windows, OFF or ABSENT, has none to end. -/
def execRsWindowEnd (n : Fin 16) (s : State) : Host.Outcome State Fault Refusal :=
  running s fun s =>
    s.when (decide (2 ≤ s.get (F.RS_REF_STAT_STATE n)) && !s.slotFrozen n) (·.endObservation n)

/-! ## Slot states -/

/-- Refresh the masks of RS_STAT for slot n (R107). -/
def State.showMasks (s : State) : State :=
  let mask (p : Nat → Bool) : Nat := ((List.range 16).filter p).foldl (fun a n => a + 2 ^ n) 0
  let st (n : Nat) : Nat := s.get (F.RS_REF_STAT_STATE n)
  ((s.put F.RS_STAT_QUALMASK (mask (fun n => st n == 3 || st n == 4))).put F.RS_STAT_CONTMASK
    (mask (fun n => s.on (F.RS_REF_STAT_CONTESTED n)))).put F.RS_STAT_DRIFTMASK (mask (fun n => st n == 4))

/-- Forget what the windows of a slot found. -/
def RsSlot.forget (c : RsSlot) : RsSlot :=
  { c with origin := none, y := none, d := none, prevY := none, run := 0, ended := false, endY := none, wholeSince := none }

/-- Slot n enters a state, with the cause of a disqualification (R95, R106). A hard breach resets the qualification timer (R96). -/
def State.enterSlot (s : State) (n new cause : Nat) : State :=
  let old := s.get (F.RS_REF_STAT_STATE n)
  let t := s.put (F.RS_REF_STAT_STATE n) new
  let t := t.when (new != 4) (·.put (F.RS_REF_EXCESS_EXCESS n) 0)
  let qual := 16 * max 1 (s.get (F.RS_REF_QUAL_QUAL_TIME n))
  match new with
  | 0 => ((t.setSlot n (fun c => { c.forget with qual := 0 })).put (F.RS_REF_STAT_SLOPE n) 0).put (F.RS_REF_STAT_QUAL_LEFT n) 0
  | 1 =>
    let t := ((t.setSlot n (fun c => { c.forget with qual := 0 })).put (F.RS_REF_STAT_SLOPE n) 0).put (F.RS_REF_STAT_QUAL_LEFT n) 0
    if 2 ≤ old ∧ old ≤ 4 then t.event F.RS_EVT_LOST 0x0223 0 n
    else t.when (old == 0) (·.startBandwidth n)
  | 2 =>
    let t := t.setSlot n (fun c => { c with qual := qual, win := if old = 1 then s.newWindow else c.win })
    t.put (F.RS_REF_STAT_QUAL_LEFT n) (qual / 16)
  | 3 => t.event F.RS_EVT_QUAL 0x0220 0 n
  | 4 => t.event F.RS_EVT_DRIFT 0x0221 0 n
  | _ =>
    let t := (t.setSlot n (fun c => { c with hold := 16 * max 1 (s.get (F.RS_REF_QUAL_HOLDOFF n)) })).put (F.RS_REF_STAT_CAUSE n) cause
    let t := t.when (cause == 1 || cause == 2) (fun t =>
      (t.setSlot n (fun c => { c with qual := qual })).put (F.RS_REF_STAT_QUAL_LEFT n) (qual / 16))
    t.event F.RS_EVT_DISQ 0x0222 0 (n + cause * 256)

/-- The running window of slot n shows a soft breach: its wander, or the slope flag (R93). -/
def State.softRunning (s : State) (n : Nat) : Bool :=
  let (_, _, wsoft, _) := s.limits n
  decide (wsoft < (s.slot n).win.w) || s.on (F.RS_REF_STAT_SLOPE n)

/-- The breaches of slot n at this update: soft, hard frequency, hard wander (R93). -/
def State.breaches (s : State) (n : Nat) : Bool × Bool × Bool :=
  let c := s.slot n
  let (fsoft, fhard, _, whard) := s.limits n
  let y := if c.ended then c.endY else none
  let beyond (l : Nat) : Bool := match y with | none => false | some v => decide (l < v.natAbs)
  (beyond fsoft || s.softRunning n, beyond fhard, decide (whard < c.win.w))

/-- RS_STATE_EVALUATE (R95, R96) for one slot at an update; a frozen slot does not change its state, whatever its EN (R105). -/
def State.evalSlot (s : State) (n : Nat) : State :=
  let st := s.get (F.RS_REF_STAT_STATE n)
  if s.slotFrozen n then s.spoilWindow n
  else if !s.slotOn n then (if st = 0 then s else s.enterSlot n 0 0)
  else if st = 0 then s.enterSlot n 1 0
  else if !s.slotPresent n then (if st = 1 then s else s.enterSlot n 1 0)
  else if st = 1 then s.enterSlot n 2 0
  else
    let (soft, hardF, hardW) := s.breaches n
    let hard := hardF || hardW
    let rej := s.slotRejected n
    let cause := if hardF then 1 else if hardW then 2 else 4
    let c := s.slot n
    let t := s.setSlot n (fun c => { c with ended := false, win := { c.win with soft := c.win.soft || s.softRunning n } })
    match st with
    | 2 =>
      if hard || rej then t.enterSlot n 5 cause
      else
        let q := if soft then c.qual else c.qual - 1
        let t := (t.setSlot n (fun c => { c with qual := q })).put (F.RS_REF_STAT_QUAL_LEFT n) ((q + 15) / 16)
        t.when (q == 0) (·.enterSlot n 3 0)
    | 3 =>
      if hard || rej then t.enterSlot n 5 cause
      else t.when soft (fun t => (t.enterSlot n 4 0).when c.ended (·.put (F.RS_REF_EXCESS_EXCESS n) c.endExcess))
    | 4 =>
      if hard || rej then t.enterSlot n 5 cause
      else t.when (c.ended && c.endClean) (·.enterSlot n 3 0)
    | _ =>
      if hard || rej then t.setSlot n (fun c => { c with hold := 16 * max 1 (s.get (F.RS_REF_QUAL_HOLDOFF n)) })
      else
        let t := t.setSlot n (fun c => { c with hold := c.hold - 1 })
        t.when (c.hold ≤ 1) (·.enterSlot n 2 0)

/-- RS_REFn_MEAS.W shows the wander of the running window, rounded up and saturating (R107). -/
def State.showWander (s : State) (n : Nat) : State :=
  let w := ((s.slot n).win.w + 65535) / 65536
  s.putSat (F.RS_REF_MEAS_W n) (if 2 ≤ s.get (F.RS_REF_STAT_STATE n) then w else s.get (F.RS_REF_MEAS_W n))

/-! ## Contests -/

/-- The slot is QUALIFIED or DRIFTING. -/
def State.usable (s : State) (n : Nat) : Bool :=
  s.get (F.RS_REF_STAT_STATE n) == 3 || s.get (F.RS_REF_STAT_STATE n) == 4

/-- CONTEST_END (R104). -/
def State.endContest (s : State) : State :=
  let a := s.get F.RS_CONTEST_A
  let b := s.get F.RS_CONTEST_B
  (((s.put (F.RS_REF_STAT_CONTESTED a) 0).put (F.RS_REF_STAT_CONTESTED b) 0).put F.RS_CONTEST_VALID 0).event
    F.RS_EVT_CONTEST_CLR 0x0226 0 (a + b * 16)

/-- A contest ends when a member leaves QUALIFIED and DRIFTING (R104). -/
def State.checkContest (s : State) : State :=
  s.when (s.on F.RS_CONTEST_VALID && !(s.usable (s.get F.RS_CONTEST_A) && s.usable (s.get F.RS_CONTEST_B))) (·.endContest)

/-- Precedence of slot a over slot b (R98): QUALIFIED first, then rank, then Moraine's bound, then number. -/
def State.before (s : State) (a b : Nat) : Bool :=
  let key (n : Nat) : List Nat :=
    [if s.get (F.RS_REF_STAT_STATE n) = 3 then 0 else 1, s.get (F.RS_REF_CFG_RANK n), s.get (F.MB_REF_BOUND_BOUND n), n]
  decide (List.lex (key a) (key b))

/-- The first of a list of slots in the order of R98. -/
def State.firstOf (s : State) : List Nat → Option Nat
  | [] => none
  | n :: l => match s.firstOf l with
    | none => some n
    | some m => some (if s.before m n then m else n)

/-- The active slot, if there is one (R99, R107). -/
def State.activeSlot (s : State) : Option Nat := if s.on F.RS_STAT_HOLD then none else some (s.get F.RS_STAT_ACTIVE)

/-- The candidates (R98). -/
def State.candidates (s : State) : List Nat :=
  (List.range 16).filter (fun n => s.usable n && !s.on (F.RS_REF_STAT_CONTESTED n) && s.activeSlot != some n)

/-- A time slot that knows its second only modulo 1 s: PPS and ATOM (R120). -/
def State.pulsed (s : State) (n : Nat) : Bool := s.slotType n == 1 || s.slotType n == 3

/-- One second in 2^-16 ps. -/
def phaseSec : Int := 10 ^ 12 * 65536

/-- The disagreement of two slots, time in 2^-16 ps or frequency in 2^-32 ppt (R101): none where a value is missing. Times are compared from the
origin that time references share, and where a pulse takes part, which knows no seconds (R120), modulo 1 s (DEDUCED, log entry 35). -/
def State.disagreement (s : State) (time : Bool) (a b : Nat) : Option Nat :=
  let x := s.slot a
  let y := s.slot b
  if time then
    if x.meanN = 0 ∨ y.meanN = 0 then none
    else
      let d := roundDiv x.meanSum x.meanN - roundDiv y.meanSum y.meanN
      some (if s.pulsed a || s.pulsed b then (d - roundDiv d phaseSec.toNat * phaseSec).natAbs else d.natAbs)
  else match x.y, y.y with
    | some u, some v => some (u - v).natAbs
    | _, _ => none

/-- The threshold of a comparison, in the units of the disagreement (R101, R107). -/
def State.disagThreshold (s : State) (time : Bool) : Nat :=
  if time then s.get F.RS_CFG_DISAG_T * 1000 * 65536 else s.get F.RS_CFG_DISAG_F * 10 * 2 ^ 32

/-- The outlier that the best arbiter with the values it needs finds in a pair (R102). -/
def State.outlier (s : State) (time : Bool) (a b : Nat) : List Nat → Option Nat
  | [] => none
  | m :: rest =>
    match s.disagreement time m a, s.disagreement time m b with
    | some x, some y =>
      let thr := s.disagThreshold time
      if x ≤ thr ∧ thr < y then some b else if y ≤ thr ∧ thr < x then some a else none
    | _, _ => s.outlier time a b rest

/-- Cause of a disqualification as an outlier: a hard breach at the same update goes before it (R105). -/
def State.outlierCause (s : State) (n : Nat) : Nat :=
  let (_, hardF, hardW) := s.breaches n
  if hardF then 1 else if hardW then 2 else 3

/-- Sort slots into the order of R98. -/
def State.inOrder (s : State) (l : List Nat) : List Nat := l.foldr (fun n acc => acc.takeWhile (fun m => s.before m n) ++ n ::
  acc.dropWhile (fun m => s.before m n)) []

/-- The arbiters for a pair, in order (R102). -/
def State.arbiters (s : State) (time : Bool) (a b : Nat) : List Nat :=
  s.inOrder ((List.range 16).filter (fun n =>
    n != a && n != b && s.get (F.RS_REF_STAT_STATE n) == 3 && !s.on (F.RS_REF_STAT_CONTESTED n) && (!time || s.isTimeRef n)))

/-- The size of a disagreement as RS_CONTEST.DISAG shows it, ps rounded up (R103). -/
def State.disagSize (s : State) (time : Bool) (d began : Nat) : Nat :=
  boundSat (if time then (d + 65535) / 65536
    else (d * (s.now - began) + (tuSec * 2 ^ 32 - 1)) / (tuSec * 2 ^ 32))

/-- CONTEST_BEGIN (R103). -/
def State.beginContest (s : State) (time : Bool) (a b d : Nat) : State :=
  let t := (((s.put F.RS_CONTEST_A a).put F.RS_CONTEST_B b).put F.RS_CONTEST_VALID 1).putB F.RS_CONTEST_KIND (!time)
  let t := ((t.put F.RS_CONTEST_DISAG (s.disagSize time d s.now)).put (F.RS_REF_STAT_CONTESTED a) 1).put (F.RS_REF_STAT_CONTESTED b) 1
  { t with rs.contestAt := s.now, rs.agree := 0 }.event F.RS_EVT_CONTEST 0x0225 0 (a + b * 16)

/-- The pairs of usable slots at the lead rank (R101). -/
def State.leadPairs (s : State) : List (Nat × Nat) :=
  let us := (List.range 16).filter s.usable
  let rank (n : Nat) : Nat := s.get (F.RS_REF_CFG_RANK n)
  let lead := match s.activeSlot with
    | some a => rank a
    | none => (us.map rank).foldl min 16
  let us := us.filter (fun n => rank n == lead)
  us.flatMap (fun a => (us.filter (fun b => a < b)).map (fun b => (a, b)))

/-- The pair is the one whose contest is in force. -/
def State.contestPair (s : State) (ab : Nat × Nat) : Bool :=
  s.on F.RS_CONTEST_VALID && ((s.get F.RS_CONTEST_A, s.get F.RS_CONTEST_B) == ab)

/-- The disagreeing pair with the largest difference against its threshold (R101), the contested pair apart: members, kind, difference. -/
def State.worstPair (s : State) : Option (Nat × Nat × Bool × Nat) :=
  (s.leadPairs.filter (fun ab => !s.contestPair ab)).foldl (fun best ab =>
    let time := s.isTimeRef ab.1 && s.isTimeRef ab.2
    match s.disagreement time ab.1 ab.2 with
    | none => best
    | some d =>
      if d ≤ s.disagThreshold time then best
      else match best with
        | none => some (ab.1, ab.2, time, d)
        | some (_, _, t', d') =>
          if d' * max 1 (s.disagThreshold time) < d * max 1 (s.disagThreshold t') then some (ab.1, ab.2, time, d) else best) none

/-- A comparison while a contest is in force (R103, R104). -/
def State.compareContest (s : State) : State :=
  let a := s.get F.RS_CONTEST_A
  let b := s.get F.RS_CONTEST_B
  let time := !s.on F.RS_CONTEST_KIND
  match s.disagreement time a b with
  | none => s
  | some d =>
    let t := s.put F.RS_CONTEST_DISAG (s.disagSize time d s.rs.contestAt)
    match s.outlier time a b (s.arbiters time a b) with
    | some n => t.enterSlot n 5 (s.outlierCause n)
    | none =>
      let k := if d ≤ s.disagThreshold time then s.rs.agree + 1 else 0
      let t := { t with rs.agree := k }
      t.when (max 1 (s.get F.RS_CFG_CONTEST_CLR) ≤ k) (·.endContest)

/-- The comparison of the pairs that no contest holds (R101 to R103). While a contest is in force the worst of them may still yield an outlier,
but begins no second contest (DEDUCED, log entry 35). -/
def State.compareFresh (s : State) : State :=
  match s.worstPair with
  | none => s
  | some (a, b, time, d) =>
    match s.outlier time a b (s.arbiters time a b) with
    | some n => s.enterSlot n 5 (s.outlierCause n)
    | none => if s.on F.RS_CONTEST_VALID then s else s.beginContest time a b d

/-! ## Selection -/

/-- The active slot changes: the core takes it from this update, and Moraine owes the reference-change allowance (R100, R158). -/
def State.makeActive (s : State) (n : Nat) : State :=
  if s.activeSlot = some n then s
  else
    let t := (s.put F.RS_STAT_ACTIVE n).put F.RS_STAT_HOLD 0
    { t with mb.owed := s.mb.owed ++ [.refChange],
             tk.measAt := none, tk.anchor := none, tk.takeE0 := s.isTimeRef n, tk.withheld := false }

/-- A write of RS_SEL is rejected: the register holds what it held before (R97). -/
def State.selectRefused (s : State) (ref auto slot : Nat) : State :=
  ((s.put F.RS_SEL_REF ref).put F.RS_SEL_AUTO auto).event F.RS_EVT_SEL_REJ 0x0227 0 slot

/-- The choice of RS_SEL that was written takes effect at an update (R97); a slot that leaves QUALIFIED and DRIFTING at that very
update makes the write a rejected one (R105). -/
def State.applySelection (s : State) : State :=
  if !s.rs.selPending then s
  else
    let s := { s with rs.selPending := false }
    if s.on F.RS_SEL_AUTO then
      let pool := match s.activeSlot with
        | some a => if s.usable a then a :: s.candidates else s.candidates
        | none => s.candidates
      match s.firstOf pool with
      | none => { s with rs.choice := none }
      | some n => { s.makeActive n with rs.choice := some n }
    else
      let n := s.get F.RS_SEL_REF
      if s.usable n then { s.makeActive n with rs.choice := some n } else s.selectRefused s.rs.selRef s.rs.selAuto n

/-- REF_FALLBACK (R99): the active slot has left QUALIFIED and DRIFTING. -/
def State.fallBack (s : State) : State :=
  match s.activeSlot with
  | none => s
  | some a =>
    if s.usable a then s
    else match s.firstOf s.candidates with
      | some n => (s.makeActive n).event F.RS_EVT_FALLBACK 0x0224 0 (a + n * 16)
      | none => (s.put F.RS_STAT_HOLD 1).event F.RS_EVT_NOREF 0x0228 0 a

/-- HOLDOVER_AUTO_EXIT (R100, R103). -/
def State.autoExit (s : State) : State :=
  if s.on F.RS_STAT_HOLD && s.on F.RS_CFG_AUTO_EXIT && !s.on F.RS_CONTEST_VALID then
    match s.firstOf (s.candidates.filter (fun n => s.get (F.RS_REF_STAT_STATE n) == 3)) with
    | none => s
    | some n => { s.makeActive n with rs.choice := if s.on F.RS_SEL_AUTO then some n else s.rs.choice }
  else s

/-- The software choice: the slot that RS_SEL names, or with AUTO = 1 the one that the part chose (R97, R99). -/
def State.softChoice (s : State) : Option Nat := if s.on F.RS_SEL_AUTO then s.rs.choice else some (s.get F.RS_SEL_REF)

/-- RS_STAT.CAND and FALLEN as every update leaves them (R98, R99). -/
def State.showSelection (s : State) : State :=
  let t := match s.firstOf s.candidates with
    | none => (s.put F.RS_STAT_CAND 0).put F.RS_STAT_CAND_VALID 0
    | some n => (s.put F.RS_STAT_CAND n).put F.RS_STAT_CAND_VALID 1
  t.putB F.RS_STAT_FALLEN (match s.activeSlot, s.softChoice with
    | some a, some c => a != c
    | _, _ => false)

/-- RS_DISAGREE_COMPARE (R101 to R104): once per second, except in a dip episode (R105); where the outlier was active, the
fall-back follows at once (R102). -/
def execRsDisagreeCompare (s : State) : Host.Outcome State Fault Refusal :=
  running s fun s =>
    let t := s.when (!s.on F.PM_STAT_DIP) (fun s =>
      ((s.when (s.on F.RS_CONTEST_VALID) State.compareContest).compareFresh.checkContest.fallBack).showMasks.showSelection)
    let t := t.forAll (List.range 16) (fun t n => t.setSlot n (fun c => { c with meanN := 0, meanSum := 0 }))
    { t with rs.cmp := s.newWindow }

/-- Since when slot n has been active and QUALIFIED (R158). -/
def State.markGood (s : State) (n : Nat) : State :=
  let good := s.activeSlot == some n && s.get (F.RS_REF_STAT_STATE n) == 3
  s.setSlot n (fun c => { c with goodFrom := if !good then none else match c.goodFrom with | none => some s.now | some g => some g })

/-- A fixed bandwidth is in use as RS_REFn_BW.BW gives it (R91). -/
def State.fixBandwidth (s : State) (n : Nat) : State :=
  s.when (s.slotOn n && s.on (F.RS_REF_CFG_BW_FIX n)) (·.put (F.RS_REF_BW_BW_NOW n) (bwLimit (s.get (F.RS_REF_BW_BW n))))

/-- The selector's part of a 16 Hz update (R95 to R100, R105). -/
def State.selectorUpdate (s : State) : State :=
  let t := s.forAll (List.range 16) (fun t n => (t.enterSample n).evalSlot n)
  let t := t.checkContest.applySelection.fallBack.autoExit
  (t.forAll (List.range 16) (fun t n => ((t.showWander n).markGood n).fixBandwidth n)).showMasks.showSelection

/-- A write of RS_SEL (R97): AUTO = 0 is accepted only for a slot that is QUALIFIED or DRIFTING. -/
def State.writeRsSel (s : State) (v : Word) : State :=
  let ref := F.RS_SEL_REF.ofWord v
  let auto := F.RS_SEL_AUTO.ofWord v
  if auto = 1 ∨ s.usable ref then
    { (s.put F.RS_SEL_REF ref).put F.RS_SEL_AUTO auto with
      rs.selPending := true,
      rs.selRef := if s.rs.selPending then s.rs.selRef else s.get F.RS_SEL_REF,
      rs.selAuto := if s.rs.selPending then s.rs.selAuto else s.get F.RS_SEL_AUTO }
  else s.event F.RS_EVT_SEL_REJ 0x0227 0 ref

/-- RS_SEL_WRITE (R97). -/
def execRsSelWrite (path : Path) (v : Word) (s : State) : Host.Outcome State Fault Refusal :=
  running s fun s => s.hostWrite path F.RS_SEL_REF.off (·.writeRsSel v)

/-- Defaults of RS_REFn_LIM and RS_REFn_QUAL by type (R93): FSOFT, FHARD in 10 ppt; WSOFT, WHARD in ns; QUAL_TIME, OBS in s. -/
def typeDefaults : Nat → List Nat
  | 0 => [100, 1000, 50, 500, 60, 16]
  | 1 => [100, 1000, 50, 500, 30, 16]
  | 2 => [100, 1000, 100, 1000, 30, 16]
  | 3 => [10, 100, 20, 200, 30, 64]
  | 4 => [500, 5000, 200, 2000, 120, 64]
  | 5 => [500, 5000, 500, 5000, 30, 16]
  | 6 => [100, 1000, 50, 500, 10, 16]
  | _ => []

/-- Load RS_REFn_LIM and RS_REFn_QUAL with the defaults of a type; the code 0b111 names no type and loads nothing (R93). -/
def State.loadTypeDefaults (s : State) (n type : Nat) : State :=
  match typeDefaults type with
  | [fs, fh, ws, wh, q, o] =>
    let t := (((s.put (F.RS_REF_LIM_FSOFT n) fs).put (F.RS_REF_LIM_FHARD n) fh).put (F.RS_REF_LIM_WSOFT n) ws).put (F.RS_REF_LIM_WHARD n) wh
    let t := ((t.put (F.RS_REF_QUAL_QUAL_TIME n) q).put (F.RS_REF_QUAL_OBS n) o).put (F.RS_REF_QUAL_HOLDOFF n) 10
    (t.put (F.RS_REF_QUAL_DRIFT_LIM n) 100).put (F.RS_REF_QUAL_DRIFT_CNT n) 4
  | _ => s

/-- A write of RS_REFn_CFG (R93): a change of TYPE loads the new type's defaults. -/
def State.writeRefCfg (s : State) (n : Nat) (v : Word) : State :=
  let old := s.slotType n
  let t := ((s.put (F.RS_REF_CFG_EN n) ((F.RS_REF_CFG_EN n).ofWord v)).put (F.RS_REF_CFG_TYPE n) ((F.RS_REF_CFG_TYPE n).ofWord v)).put
    (F.RS_REF_CFG_SRC n) ((F.RS_REF_CFG_SRC n).ofWord v)
  let t := ((t.put (F.RS_REF_CFG_RANK n) ((F.RS_REF_CFG_RANK n).ofWord v)).put (F.RS_REF_CFG_BW_FIX n)
    ((F.RS_REF_CFG_BW_FIX n).ofWord v)).put (F.RS_REF_CFG_PPS_USE n) ((F.RS_REF_CFG_PPS_USE n).ofWord v)
  let fix := s.on (F.RS_REF_CFG_BW_FIX n)
  let t := t.when (t.slotType n != old) (fun t => (t.loadTypeDefaults n (t.slotType n)).setSlot n (fun c => { c with origin := none }))
  t.when (t.slotType n != old || t.on (F.RS_REF_CFG_BW_FIX n) != fix) (·.startBandwidth n)

/-- RS_REF_CFG_WRITE (R93). -/
def execRsRefCfgWrite (path : Path) (n : Fin 16) (v : Word) (s : State) : Host.Outcome State Fault Refusal :=
  running s fun s => s.hostWrite path (F.RS_REF_CFG_EN n).off (·.writeRefCfg n v)

/-- A window's prediction goes on in the new tick from corrected time now on, its rate changed by dy; the window yields no d (R105). -/
def RsWindow.migrated (w : RsWindow) (now : Nat) (dy : Int) : RsWindow :=
  let y := w.y + roundDiv (w.dd * ((now : Int) - w.anchor)) tuSec
  { w with pBase := w.predict now, anchor := now, yBefore := y, y := y + dy, noD := true }

/-- What step 4 of a migration does to the windows (R105); stamps go on being counted against the nominal grid, and presence goes on (R89).
dy is the change of the tick's predicted rate in 2^-32 ppt. -/
def State.rsMigrated (s : State) (dy : Int) : State :=
  let t := s.forAll (List.range 16) (fun t n => t.setSlot n (fun c => { c with win := c.win.migrated s.now dy }))
  { t with rs.cmp := s.rs.cmp.migrated s.now dy }

end Sys2Proof.Machine
end

