-- ==== Sys2Proof/Machine/Moraine.lean ====
section
/-! DEFINITION. Moraine error bounds (chapter 08): the terms of the bound, the publication, allowances, stale publications, the map. -/
namespace Sys2Proof.Machine

/-- Sixteenths of a TAI second: the number of the schedule point at or before a time (R109). -/
def pointOf (t : Nat) : Nat := t * 16 / tuSec

/-- The schedule point at or before the present (R109). -/
def State.point (s : State) : Nat := pointOf s.now

/-- Ceiling of a quotient. -/
def ceilDiv (a b : Nat) : Nat := (a + b - 1) / b

/-- A phase word's magnitude in ps, rounded up. -/
def phasePs (p : Int) : Nat := ceilDiv p.natAbs 65536

/-- A sum of bounds: unbounded where a term is, or where it reaches 2^48 - 1 ps (R28). -/
def boundSum (l : List Nat) : Nat := boundSat l.sum

/-! ## Terms -/

/-- Upper limits in ps of the clockAccuracy codes from 0x1C to 0x30 (R165). -/
def accuracyLimits : List Nat :=
  [250, 1000, 2500, 10000, 25000, 100000, 250000] ++
  [1000000, 2500000, 10000000, 25000000, 100000000, 250000000] ++
  [1000000000, 2500000000, 10000000000, 25000000000, 100000000000, 250000000000] ++ [1000000000000, 10000000000000]

/-- Upper limit in ps of a received clockAccuracy code (R153); unbounded for a code without one. The limits of 0x17 to 0x1B, from 1 ps to 100 ps,
are those of IEEE 1588-2019, which the table of R165 does not repeat (PRESUMED, log entry 53). -/
def accuracyLimit (code : Nat) : Nat :=
  if code < 0x17 then unbounded
  else if code < 0x1C then [1, 3, 10, 25, 100].getD (code - 0x17) unbounded
  else accuracyLimits.getD (code - 0x1C) unbounded

/-- clockAccuracy of a bound (R165): the smallest code from 0x1C on whose limit holds the bound plus 150 ps. -/
def accuracyCode (bound : Nat) : Nat :=
  if bound = unbounded then 0xFE
  else match accuracyLimits.findIdx? (bound + 150 ≤ ·) with
    | some i => 0x1C + i
    | none => 0x31

/-- ref of R153 for slot n. -/
def State.refTerm (s : State) (n : Nat) : Nat :=
  let unc := s.get (F.MB_REF_CAL_UNC n)
  match s.slotType n with
  | 0 => (s.slot n).usedUnc
  | 4 => boundSum [(s.pt.ports.getD (s.get (F.RS_REF_CFG_SRC n)) {}).upBound, unc]
  | 6 => boundSum [s.get F.RD_MATE_BOUND_BOUND, unc]
  | _ => unc

/-- The jitter j of R154 in tenths of a phase word LSB: the named engine's deviation where its last block is clean, else 1.8 ps. -/
def State.jitterTenths (s : State) (n : Nat) : Nat :=
  let m := s.get (F.MB_REF_CAL_ST n)
  if s.on (F.MB_REF_CAL_ST_EN n) && s.on (F.IE_ST_STAT_N_DONE m) && !s.on (F.IE_ST_STAT_MIG m) && !s.on (F.IE_ST_STAT_CALGAP m) &&
      !s.on (F.IE_ST_STAT_DIP m) && !s.on (F.IE_ST_STAT_SAT m)
  then 10 * s.get (F.IE_ST_SD_SD m)
  else 1179648

/-- meas of R154 for slot n. -/
def State.measTerm (s : State) (n : Nat) : Nat :=
  match s.slotType n with
  | 0 => ceilDiv (s.get (F.IE_CH_UNC_UNC 20)) 65536
  | 4 => 300
  | 6 => 300 + s.get F.MB_PORT_UNC_HI_PORT4
  | _ =>
    match s.slotChannel n with
    | none => 0
    | some ch => ceilDiv (10 * s.get (F.IE_CH_UNC_UNC ch) + max 1 (s.get F.MB_CFG_MEAS_K) * s.jitterTenths n) 655360

/-- track of R155. -/
def State.trackTerm (s : State) : Nat :=
  boundSat (ceilDiv (max (s.tk.lastE.foldl max 0) (s.getI (F.TK_SLEW_LEFT_LEFT s.core)).natAbs) 65536)

/-- Sixteenths of a second from T0 to the present schedule point (R156). -/
def State.holdSpan (s : State) : Nat := s.point - (16 * s.get F.MB_HO_T0_SEC + s.get F.MB_HO_T0_IDX)

/-- hold of R156 in HOLD, d widened by |dd| of the last sealed checkpoint in orphan hold (R327). -/
def State.holdGrowth (s : State) : Nat :=
  let k := s.get F.MB_HO_T0_SRC
  let t := s.holdSpan
  let d := s.get (F.MB_OSC_D_UNC k) * 2 ^ 32 + (if s.mb.orphanAt.isSome || s.mb.orphanEnd then s.mb.orphanDd * 8640000 else 0)
  boundSum [s.get F.MB_HO_P0_P0, ceilDiv ((s.get (F.MB_OSC_F_UNC k) + s.mb.extraF) * t) 1600,
    ceilDiv (d * t * t) (172800 * 100 * 2 ^ 32 * 256), rootUp (ceilDiv (s.get (F.MB_OSC_STAB k) ^ 2 * t) 1600)]

/-- hold of R156 in FREQ, for the frequency reference of slot n. -/
def State.freqGrowth (s : State) (n : Nat) : Nat :=
  let u := s.get (F.MB_REF_CAL_UNC n)
  if u = unbounded then unbounded else boundSum [s.get F.MB_HO_P0_P0, ceilDiv (u * s.holdSpan) 16]

/-- The hold term by a Moraine state, with the slot followed. -/
def State.holdTerm (s : State) (st : Nat) (slot : Option Nat) : Nat :=
  match st, slot with
  | 0, _ => 0
  | 1, some n => s.freqGrowth n
  | _, _ => s.holdGrowth

/-- contest of R152. -/
def State.contestTerm (s : State) : Nat := if s.on F.RS_CONTEST_VALID then s.get F.RS_CONTEST_DISAG else 0

/-- coast of R159 in a Moraine state. -/
def State.coastTerm (s : State) (st : Nat) : Nat :=
  if !s.on F.TB_STAT_COAST then 0
  else if st = 2 then
    let d := s.now - s.tb.coastAt
    if 10 * tuMs < d then unbounded else ceilDiv (d * 20 * 200) (10 ^ 6 * 2 ^ 32)
  else 200000

/-! ## State -/

/-- A switchover gap is in progress (R16, R323). -/
def State.inGap (s : State) : Bool := s.on F.TK_TS_STAT_HELD

/-- The Moraine state that R151 gives now: 0 TRACK, 1 FREQ, 2 HOLD. -/
def State.mbStateNow (s : State) : Nat :=
  if s.inGap then
    match s.mb.orphanAt with
    | some t => if t ≤ s.now then 2 else s.get F.MB_STAT_STATE
    | none => s.get F.MB_STAT_STATE
  else if s.get (F.TK_STAT_STATE s.core) = 2 then (if s.on (F.TK_STAT_FREQ_ONLY s.core) then 1 else 0)
  else 2

/-- Load P0 and T0 (R157): T0 is schedule point p, k the active tick source. -/
def State.loadP0 (s : State) (p0 p : Nat) : State :=
  let t := (((s.put F.MB_HO_P0_P0 p0).put F.MB_HO_T0_SEC (p / 16)).put F.MB_HO_T0_IDX (p % 16)).put F.MB_HO_T0_SRC (s.get F.TB_STAT_ACT)
  { t with mb.extraF := 0 }

/-- The quantisation of a coarse r, in 0.01 ppt: 1.6 ns over the MIG_CMP window (R157). -/
def State.coarseUnc (s : State) : Nat := ceilDiv (16 * 10 ^ 9) (max 10 (s.get F.TB_LIMITS_MIG_CMP))

/-- The P0 with which a publication enters HOLD or FREQ out of the Moraine state old (R157). Entry to MANUAL counts as TRACK to HOLD, also out of
FREQ, as the rule's words have it (DEDUCED, log entry 53). -/
def State.entryP0 (s : State) (old : Nat) : Nat :=
  if old = 0 ∨ s.get (F.TK_STAT_STATE s.core) = 4 then s.mb.lastTrack else s.holdTerm old s.mb.lastActive

/-- A forced migration reloads P0 in HOLD with f widened where its r was coarse (R157). -/
def State.widenF (s : State) (st : Nat) : State :=
  if s.mb.forcedMig = some true ∧ st = 2 then { s with mb.extraF := s.coarseUnc } else s

/-- The loads of P0 and T0 at a publication whose state is st (R157, R327, R328). -/
def State.loadHold (s : State) (st : Nat) : State :=
  let old := s.get F.MB_STAT_STATE
  let p := s.point
  let slot := s.activeSlot
  let t :=
    if s.mb.timeSet then s.loadP0 unbounded p
    else if st = 0 then s
    else match s.mb.ckptP0 with
    | some p0 => (s.loadP0 p0 p).put F.MB_HO_T0_SRC 0
    | none =>
      if old ≠ st ∧ st = 2 ∧ s.inGap then
        s.loadP0 (s.entryP0 old) (match s.mb.orphanAt with | some a => pointOf a | none => p)
      else if old ≠ st then s.loadP0 (s.entryP0 old) p
      else if (st = 1 ∧ slot ≠ s.mb.lastActive) ∨ s.mb.orphanEnd ∨ (st = 2 ∧ s.mb.forcedMig.isSome) then
        (s.loadP0 (s.holdTerm old s.mb.lastActive) p).widenF st
      else s
  { t with mb.forcedMig := none, mb.timeSet := false, mb.orphanEnd := false }

/-- At the first publication after the moment of R327 a HOLD that was already in force takes that moment's schedule point as T0. -/
def State.orphanRestart (s : State) : State :=
  match s.mb.orphanAt with
  | some a =>
    if s.inGap && decide (a ≤ s.now) && s.get F.MB_STAT_STATE == 2 &&
        decide (16 * s.get F.MB_HO_T0_SEC + s.get F.MB_HO_T0_IDX < pointOf a) && !s.mb.orphanSeen then
      { s.loadP0 (s.get F.MB_HO_P0_P0) (pointOf a) with mb.orphanSeen := true }
    else s
  | none => s

/-! ## Allowances -/

/-- An allowance in ps (R158). -/
def State.allowancePs (s : State) : Allowance → Nat
  | .dip => s.get F.MB_ALLOW_CFG_DIP
  | .refChange => s.get F.MB_ALLOW_CFG_REFCHG
  | _ => s.get F.MB_ALLOW_CFG_SWITCH

/-- Kind of an allowance in event 0x0415 (R172). -/
def Allowance.kind : Allowance → Nat
  | .dip => 0 | .switch => 1 | .migration => 2 | .lockstep => 3 | .refChange => 4

/-- ALLOWANCE_ADD (R158). -/
def State.addAllowance (s : State) (a : Allowance) : State :=
  let ps := s.allowancePs a
  let t := (s.put F.MB_ALLOW_ACC_ACC (boundSum [s.get F.MB_ALLOW_ACC_ACC, ps])).count F.MB_STAT_ALLOW_N 1
  { t.event F.MB_EVT_ALLOW 0x0415 0 (a.kind + ps * 2 ^ 16) with mb.lastAllow := s.now }

/-- The allowances owed are added, and cleared where R158 allows it in state st. -/
def State.settleAllowances (s : State) (st : Nat) : State :=
  let t := ({ s with mb.owed := [] }).forAll s.mb.owed State.addAllowance
  match t.activeSlot with
  | some n =>
    match (t.slot n).wholeSince with
    | some w =>
      if st = 0 ∧ t.mb.lastAllow < w ∧ t.on F.MB_STAT_ALLOW_N then (t.put F.MB_ALLOW_ACC_ACC 0).put F.MB_STAT_ALLOW_N 0 else t
    | none => t
  | none => t

/-! ## Publication -/

/-- Span in units of State.now since the published schedule point (R160). -/
def State.pubAge (s : State) (t : Nat) : Nat := t - (s.get F.MB_PUB_SEC_SEC * tuSec + s.get F.MB_PUB_NSF_NSF * 5)

/-- STALE_MAX in units of State.now, where 0 acts as 1 ms (R160). -/
def State.staleLimit (s : State) : Nat := max 1 (s.get F.MB_CFG_STALE_MAX) * tuMs

/-- The published bound as served at time t: inflated while stale, unbounded beyond STALE_MAX (R160). -/
def State.boundAt (s : State) (t : Nat) : Nat :=
  let b := s.get F.MB_BOUND_BOUND
  if !s.on F.MB_STAT_STALE || b == unbounded then b
  else
    let age := s.pubAge t
    if s.staleLimit < age then unbounded
    else boundSum [b, ceilDiv (s.get F.MB_CFG_STALE_RATE * age) tuSec]

/-- port_unc of R161. -/
def State.portUnc (s : State) : Nat → Nat
  | 0 => s.get F.MB_PORT_UNC_PORT0
  | 1 => s.get F.MB_PORT_UNC_PORT1
  | 2 => s.get F.MB_PORT_UNC_PORT2
  | 3 => s.get F.MB_PORT_UNC_PORT3
  | 4 => s.get F.MB_PORT_UNC_HI_PORT4
  | _ => s.get F.MB_PORT_UNC_HI_PORT5

/-- The served bound of R161 on port p at time t, with quantisation term q. -/
def State.servedBound (s : State) (p t q : Nat) : Nat := boundSum [s.boundAt t, 150, s.portUnc p, q]

/-- sigma of R162: the smallest whole ps not below the root; ref and meas with their factors, the rest together. -/
def sigmaOf (ref meas measK rest : Nat) : Nat :=
  let num := 9 * measK ^ 2 * ref ^ 2 + 36 * meas ^ 2 + 4 * measK ^ 2 * rest ^ 2
  rootUp (ceilDiv num (36 * measK ^ 2))

/-- Entry of the map that a bound in a state matches, 8 for none (R164). -/
def State.mapMatch (s : State) (st bound : Nat) : Nat :=
  ((List.range 8).find? (fun k =>
    s.on (F.MB_MAP_EN k) && s.get (F.MB_MAP_STATES k) / 2 ^ st % 2 == 1 &&
      (s.get (F.MB_MAP_BOUND_MAX k) == 0xFFFFFFFFFF || decide (bound ≤ s.get (F.MB_MAP_BOUND_MAX k))))).getD 8

/-- The entry in force, 8 where MB_STAT.MAP reads 0xF (R164). -/
def State.mapEntry (s : State) : Nat := min 8 (s.get F.MB_STAT_MAP)

/-- clockClass, SSM and stratum of the entry in force (R164). -/
def State.mapClass (s : State) : Nat := if s.mapEntry = 8 then 248 else s.get (F.MB_MAP_CLASS s.mapEntry)
def State.mapSsm (s : State) : Nat := if s.mapEntry = 8 then 15 else s.get (F.MB_MAP_SSM s.mapEntry)
def State.mapStratum (s : State) : Nat := if s.mapEntry = 8 then 16 else s.get (F.MB_MAP_STRATUM s.mapEntry)

/-- MAP_ENTRY_CHANGE (R164): entry e takes effect. -/
def State.setMap (s : State) (e : Nat) : State :=
  let code (x : Nat) : Nat := if x = 8 then 15 else x
  if e = s.mapEntry then s
  else (s.put F.MB_STAT_MAP (code e)).event F.MB_EVT_MAP 0x0414 0 (code s.mapEntry + code e * 16)

/-- The map at a complete publication (R164): a later entry at once, an earlier one after MAP_HOLD. -/
def State.mapPublished (s : State) (st bound : Nat) : State :=
  let m := s.mapMatch st bound
  let since := s.mb.mapSince.zipIdx.map (fun e => if e.2 < m then none else match e.1 with | none => some s.now | some t => some t)
  let t := { s with mb.mapSince := since }
  if s.mapEntry < m then t.setMap m
  else
    let held (e : Nat) : Bool := match since.getD e none with
      | none => false
      | some t0 => decide (s.get F.MB_CFG_MAP_HOLD * tuSec ≤ s.now - t0)
    match (List.range s.mapEntry).find? held with
    | some e => t.setMap e
    | none => t

/-- The trace record's argument (R168). -/
def State.traceArg (s : State) : Nat :=
  let n := s.get F.RS_STAT_ACTIVE
  let ns := ceilDiv (s.get F.MB_BOUND_BOUND) 1000
  n + s.slotType n * 16 + s.get F.RS_STAT_HOLD * 128 + s.get (F.MB_REF_CAL_REC_ID n) * 256 + s.get F.MB_STAT_STATE * 2 ^ 20 +
    s.get F.MB_STAT_UNB * 2 ^ 22 + min ns 0xFFFFFFFF * 2 ^ 32

/-- TRACE_RECORD (R168). -/
def State.traceRecord (s : State) : State := s.event F.MB_EVT_TRACE 0x0413 0 s.traceArg

/-- MB_REFn_BOUND of slot n (R163). -/
def State.slotBound (s : State) (n : Nat) : Nat :=
  let st := s.get (F.RS_REF_STAT_STATE n)
  let ex := s.get (F.RS_REF_EXCESS_EXCESS n)
  if st ≠ 3 ∧ st ≠ 4 then unbounded
  else if s.isTimeRef n then
    boundSum [s.refTerm n, s.measTerm n, ex, if s.on (F.RS_REF_STAT_CONTESTED n) then s.contestTerm else 0]
  else boundSum [s.get (F.MB_REF_CAL_UNC n), ex]

/-- The terms of R152 in state st, in the order of the table: ref, meas, track, hold, allow, excess, contest, coast. -/
def State.terms (s : State) (st : Nat) : List Nat :=
  let n := s.get F.RS_STAT_ACTIVE
  let inTrack (x : Nat) : Nat := if st = 0 then boundSat x else 0
  [inTrack (s.refTerm n), inTrack (s.measTerm n), inTrack (if s.inGap then s.get F.MB_COMP_TRACK_TRACK else s.trackTerm),
   s.holdTerm st s.activeSlot, s.get F.MB_ALLOW_ACC_ACC, if st = 2 then 0 else s.get (F.RS_REF_EXCESS_EXCESS n), s.contestTerm, s.coastTerm st]

/-- The bound that a publication publishes (R152, R120, R157): unbounded while TIME_SET = 0, and an unbounded bound becomes bounded only in
TRACK, or at the first publication after a start from a checkpoint with a bounded P0. -/
def State.publishedBound (s : State) (st : Nat) (terms : List Nat) : Nat :=
  if !s.on (F.TK_STAT_TIME_SET s.core) || (s.on F.MB_STAT_UNB && st != 0 && s.mb.ckptP0.isNone) then unbounded else boundSum terms

/-- The registers of a publication take their new values together (R150). -/
def State.putTerms (s : State) (st bound : Nat) (terms : List Nat) : State :=
  let g (i : Nat) : Nat := terms.getD i 0
  let t := (((s.put F.MB_COMP_REF_REF (g 0)).put F.MB_COMP_MEAS_MEAS (g 1)).put F.MB_COMP_TRACK_TRACK (g 2)).put F.MB_COMP_HOLD_HOLD (g 3)
  let t := (((t.put F.MB_COMP_ALLOW_ALLOW (g 4)).put F.MB_COMP_EXCESS_EXCESS (g 5)).put F.MB_COMP_CONTEST_CONTEST (g 6)).put
    F.MB_COMP_COAST_COAST (g 7)
  let sigma := if bound = unbounded then unbounded else
    boundSat (sigmaOf (g 0) (g 1) (max 1 (s.get F.MB_CFG_MEAS_K)) ((terms.drop 2).sum))
  let p := s.point
  let t := (((t.put F.MB_BOUND_BOUND bound).put F.MB_SIGMA_SIGMA sigma).put F.MB_PUB_SEC_SEC (p / 16)).put F.MB_PUB_NSF_NSF
    (p % 16 * 62500000 * 2 ^ 32)
  ((t.put F.MB_STAT_STATE st).put F.MB_STAT_STALE 0).put F.MB_STAT_SEQ (s.get F.MB_STAT_SEQ + 1)

/-- UNB follows the published bound, with its event (R151, R172). -/
def State.showUnb (s : State) (bound : Nat) : State :=
  let unb := bound == unbounded
  let t := s.putB F.MB_STAT_UNB unb
  if unb && !s.on F.MB_STAT_UNB then t.event F.MB_EVT_UNB 0x0411 0 0
  else t.when (!unb && s.on F.MB_STAT_UNB) (·.event F.MB_EVT_BOUNDED 0x0412 0 0)

/-- MB_PUBLICATION without the ESMC PDUs that a change of QL sends (R150 to R168). -/
def State.publish (s : State) : State :=
  let st := s.mbStateNow
  let t := (s.orphanRestart.loadHold st).settleAllowances st
  let t := t.forAll (List.range 16) (fun t n => t.put (F.MB_REF_BOUND_BOUND n) (t.slotBound n))
  let terms := t.terms st
  let bound := t.publishedBound st terms
  let t := ((t.putTerms st bound terms).showUnb bound).mapPublished st bound
  let moved := s.get F.MB_STAT_STATE != st || s.on F.MB_STAT_UNB != (bound == unbounded) || s.mb.lastActive != s.activeSlot
  let t := t.when moved State.traceRecord
  { t with mb.lastActive := s.activeSlot, mb.ckptP0 := none, mb.lastTrack := if st = 0 then boundSum ((terms.take 3) ++ [terms.getD 5 0]) else t.mb.lastTrack,
           mb.staleMax := false, mb.hourMax := max t.mb.hourMax bound, mb.hourMin := min t.mb.hourMin bound,
           mb.trackPub := if st = 0 then some (s.point * tuSec / 16) else t.mb.trackPub }

/-- PUBLICATION_MISS (R160). -/
def execPublicationMiss (s : State) : Host.Outcome State Fault Refusal :=
  running s fun s => ((s.count F.MB_MISS_PUB_MISS 1).put F.MB_STAT_STALE 1).event F.MB_EVT_PUB_MISS 0x0410 0 0

/-- The map while the publication is stale (R160, R164): only a later entry takes effect. -/
def State.staleMap (s : State) : State :=
  let b := s.boundAt s.now
  let m := s.mapMatch (s.get F.MB_STAT_STATE) b
  s.when (decide (s.mapEntry < m)) (·.setMap m)

/-- STALE_MAX_EXPIRY (R160): event 0x0419, once per stale publication. -/
def execStaleMaxExpiry (s : State) : Host.Outcome State Fault Refusal :=
  running s fun s =>
    s.when (s.on F.MB_STAT_STALE && !s.mb.staleMax && decide (s.staleLimit < s.pubAge s.now)) (fun s =>
      { s.event F.MB_EVT_STALE_MAX 0x0419 0 0 with mb.staleMax := true })

/-- A write of MB_REFn_CAL (R168, R171): a trace record where slot n is active. -/
def State.writeRefCal (s : State) (n : Nat) (v : Word) : State :=
  let t := (((s.put (F.MB_REF_CAL_UNC n) ((F.MB_REF_CAL_UNC n).ofWord v)).put (F.MB_REF_CAL_REC_ID n)
    ((F.MB_REF_CAL_REC_ID n).ofWord v)).put (F.MB_REF_CAL_ST n) ((F.MB_REF_CAL_ST n).ofWord v)).put (F.MB_REF_CAL_ST_EN n)
    ((F.MB_REF_CAL_ST_EN n).ofWord v)
  t.when (s.activeSlot == some n) State.traceRecord

/-- MB_REF_CAL_WRITE (R168). -/
def execMbRefCalWrite (path : Path) (n : Fin 16) (v : Word) (s : State) : Host.Outcome State Fault Refusal :=
  running s fun s => s.hostWrite path (F.MB_REF_CAL_UNC n).off (·.writeRefCal n v)

end Sys2Proof.Machine
end

