-- ==== Sys2Proof/Machine/Timebase.lean ====
section
/-! DEFINITION. Timebase and tick sources (chapter 03): frequency monitor, warm-up, migration, failure and coasting, XO ageing and temperature. -/
namespace Sys2Proof.Machine

/-- The field that reports whether a tick source passes its monitor (R44, R60). -/
def Source.okFld : Source → Fld
  | .xo => F.TB_STAT_XO_OK
  | .ocxo => F.TB_STAT_OCXO_OK
  | .atom => F.TB_STAT_ATOM_OK
  | .rtc => F.TB_STAT_XO_OK

/-- The active tick source (R60). -/
def State.activeSource (s : State) : Source := Source.ofCode (s.get F.TB_STAT_ACT)

/-- A source is eligible as a tick source (R45). -/
def State.eligible (s : State) : Source → Bool
  | .xo => s.on F.TB_STAT_XO_OK
  | .ocxo => s.on F.TB_STAT_OCXO_OK && s.on F.TB_STAT_OCXO_WARM
  | .atom => s.on F.TB_STAT_ATOM_OK && s.on F.TB_STAT_ATOM_LOCK
  | .rtc => false

/-- A migration is in one of its steps 1 to 4 (R49). -/
def State.migrating (s : State) : Bool := s.on F.TB_STAT_MIG

/-- The lock bit of the MDLL that is not active (R42, R60). -/
def State.shadowLock (s : State) : Fld := if s.on F.TB_STAT_ACT_TM then F.TB_STAT_TMA_LOCK else F.TB_STAT_TMB_LOCK

/-- The source that PRI names (R48, R60). -/
def State.primary (s : State) : Source := Source.ofCode (s.get F.TB_SRC_CFG_PRI)

/-- Step 1 of a migration: the shadow MDLL powers up on the target (R49). A running calibration is spoilt (R84). The migration to PRI that R48 owes
is made once: where one to PRI has begun it is no longer owed, and it is not tried again after an abort (DEDUCED, log entry 33). -/
def State.startMigration (s : State) (tgt : Source) (forced : Bool) : State :=
  let t := ((s.put F.TB_STAT_MIG 1).put s.shadowLock 0).ieMigrationBegins
  { t with tb.migStep := 1, tb.target := tgt, tb.forced := forced, tb.coarse := false, tb.startMig := s.tb.startMig && tgt != s.primary }

/-- The backup of a forced migration (R53, R56): BAK if eligible, else the XO, else, where no tick source is eligible, a warming OCXO that
passes its monitor; never the source excluded. -/
def State.backup (s : State) (excluded : Option Source) : Option Source :=
  let bak := Source.ofCode (s.get F.TB_SRC_CFG_BAK)
  let free (x : Source) : Bool := excluded != some x && x != s.activeSource
  if s.eligible bak && free bak then some bak
  else if s.eligible .xo && free .xo then some .xo
  else if s.on F.TB_STAT_OCXO_OK && free .ocxo && !([Source.xo, .ocxo, .atom].any (fun x => s.eligible x && free x)) then some .ocxo
  else none

/-- What follows the failure of the active source once it coasts (R53). -/
def State.afterSourceFail (s : State) (excluded : Option Source) : State :=
  match s.on F.TB_SRC_CFG_AUTO_MIG, s.backup excluded with
  | true, some tgt => { s.startMigration tgt true with mb.owed := s.mb.owed ++ [.migration] }
  | _, _ => (s.put F.TB_STAT_COAST 1).event F.TB_EVT_COAST 0x0205 0 0

/-- The active source fails (R53); a migration already in progress becomes forced and goes on (R56). After a failure the part never returns to PRI
on its own (R48). The lock bit of the MDLL that coasts stays 1: it goes on producing the tick, and only R49 step 5 clears it (DEDUCED, log
entry 33). -/
def State.activeSourceFail (s : State) (excluded : Option Source) : State :=
  let t := { s.event F.TB_EVT_SRC_FAIL 0x0201 0 0 with
    tb.coasting := true, tb.coastAt := (if s.tb.coasting then s.tb.coastAt else s.now), tb.startMig := false }
  if t.migrating then { t with tb.forced := true, mb.owed := t.mb.owed ++ [.migration] }
  else t.afterSourceFail excluded

/-- The migration to PRI owed since the start, once PRI is eligible (R48). During a dip episode it waits for the end, as a requested one does
(R56; DEDUCED, log entry 33). -/
def State.startOwed (s : State) : State :=
  s.when (s.tb.startMig && s.activeSource == .xo && s.primary != .xo && s.eligible s.primary && !s.migrating && !s.on F.TB_STAT_COAST &&
    !s.on F.PM_STAT_DIP) (·.startMigration s.primary false)

/-- A migration is aborted (R52): the part stays on the old tick and the shadow MDLL powers off; calibrations that it rejected are retried (R84).
A coasting source is handled as at a failure, the aborted target counting as not eligible; else the migration to PRI begins where R48 still owes
it. -/
def State.abortMigration (s : State) : State :=
  let tgt := s.tb.target
  let t := ((s.put F.TB_STAT_MIG 0).put s.shadowLock 0).event F.TB_EVT_MIG_ABORT 0x0203 0 0
  let t := { t with tb.migStep := 0, tb.forced := false }.retryCals
  if t.tb.coasting then t.activeSourceFail (some tgt) else t.startOwed

/-- A source that was eligible or passing has failed: the active source first, then a migration's target (R52, R53, R56). -/
def State.sourceLost (s : State) (src : Source) : State :=
  let t := s.when (src == s.activeSource && !s.tb.coasting) (·.activeSourceFail none)
  t.when (t.migrating && t.tb.target == src) (·.abortMigration)

/-- A migration that no failure forces begins; one that ends a coast brings the switchover allowance (R55, R159). -/
def State.beginMigration (s : State) (src : Source) : State :=
  if s.on F.TB_STAT_COAST then { s.startMigration src true with mb.owed := s.mb.owed ++ [.migration] } else s.startMigration src false

/-- A source has become eligible: it ends a coast (R55), or the migration to PRI begins (R48). -/
def State.sourceGained (s : State) (src : Source) : State :=
  if s.on F.TB_STAT_COAST then s.when (s.on F.TB_SRC_CFG_AUTO_MIG && s.eligible src && !s.migrating) (·.beginMigration src)
  else s.startOwed

/-- OCXO_WARM is asserted, after polarity (R46). -/
def State.pinWarm (s : State) : Bool := s.tb.warmPin == s.on F.TB_SRC_CFG_WARM_POL

/-- The OCXO counts as warm under WARM_MODE (R46). -/
def State.warmNow (s : State) : Bool :=
  match s.get F.TB_SRC_CFG_WARM_MODE with
  | 0 => true
  | 1 => s.tb.warmTimer
  | 2 => s.pinWarm
  | _ => s.tb.warmTimer && s.pinWarm

/-- Warm-up completes, or the OCXO is no longer warm, which counts as a failure in the modes that take OCXO_WARM (R46). The spec gives the OCXO no
enable: WARMING takes the OCXO as enabled where the last monitor window found its edges (DEDUCED, log entry 33). -/
def State.updateWarm (s : State) : State :=
  let was := s.on F.TB_STAT_OCXO_WARM
  let now := s.warmNow
  let t := (s.putB F.TB_STAT_OCXO_WARM now).putB F.TB_STAT_WARMING (s.tb.running.getD 1 false && !now)
  if now && !was then (t.event F.TB_EVT_WARM_DONE 0x0204 0 0).sourceGained .ocxo
  else if was && !now && decide (2 ≤ s.get F.TB_SRC_CFG_WARM_MODE) then t.sourceLost .ocxo
  else t

/-- ATOM_LOCK follows its pin, after polarity: a deassertion fails ATOM where it is active or a target (R45). -/
def State.updateLock (s : State) : State :=
  let was := s.on F.TB_STAT_ATOM_LOCK
  let now := s.tb.lockPin == s.on F.TB_SRC_CFG_ATOM_LOCK_POL
  let t := s.putB F.TB_STAT_ATOM_LOCK now
  if was && !now then t.sourceLost .atom
  else if now && !was then t.sourceGained .atom
  else t

/-- TB_SRC_CFG has been written: warm-up, ATOM_LOCK and the migration owed to PRI follow it (R45, R46, R48). -/
def State.sourcesConfigured (s : State) : State := s.updateWarm.updateLock.startOwed

/-- One monitor window of source i, whose measured offset is f (R44): it runs, and unless fewer than two others run it lies within
MON_LIMIT of at least one of them. -/
def windowPasses (limit : Int) (all : List (Option Int)) (i : Nat) : Bool :=
  match all.getD i none with
  | none => false
  | some f =>
    let others := ((all.zipIdx.filter (fun e => e.2 != i)).filterMap (fun e => e.1))
    others.length < 2 || others.any (fun g => |f - g| ≤ limit)

/-- MON_LIMIT in ppt: its LSB is 0.1 ppm and values above 2,000 act as 2,000 (R44, R60). -/
def State.monLimit (s : State) : Int := (min (s.get F.TB_LIMITS_MON_LIMIT) 2000 : Nat) * 100000

/-- The verdict of one window on one tick source (R44). -/
def State.judgeSource (s : State) (src : Source) (i : Nat) (pass : Bool) : State :=
  let n := if pass then min 10 (s.tb.passes.getD i 0 + 1) else 0
  { s.putB src.okFld (n == 10) with tb.passes := assign 0 i n s.tb.passes }

/-- The three tick sources with their places in the lists of TbPart. -/
def tickSources : List (Source × Nat) := [(.xo, 0), (.ocxo, 1), (.atom, 2)]

/-- MONITOR_WINDOW_END (R44, R48, R52, R53, R55): the offsets of the XO, the OCXO, ATOM and the RTC oscillator over the window, in ppt
against any common ruler; none for a source that gave no edges. The RTC is judged by nobody. -/
def execMonitorWindowEnd (xo ocxo atom rtc : Option Int) (s : State) : Host.Outcome State Fault Refusal :=
  running s fun s =>
    let all := [xo, ocxo, atom, rtc]
    let was := tickSources.filter (fun e => s.on e.1.okFld)
    let s1 := s.forAll tickSources (fun t e => t.judgeSource e.1 e.2 (windowPasses s.monLimit all e.2))
    let s1 := { s1 with tb.running := [xo.isSome, ocxo.isSome, atom.isSome] }
    let s1 := s1.putB F.TB_STAT_WARMING (ocxo.isSome && !s1.on F.TB_STAT_OCXO_WARM)
    let lost := (was.filter (fun e => !s1.on e.1.okFld)).map (·.1)
    let act := s.activeSource
    let s2 := s1.when (lost.contains act) (·.sourceLost act)
    let s3 := s2.forAll (lost.filter (· != act)) State.sourceLost
    let order := [Source.ofCode (s.get F.TB_SRC_CFG_BAK), .xo, .ocxo, .atom]
    s3.forAll (order.filter (fun x => s3.eligible x && !s.eligible x)) State.sourceGained

/-- SOURCE_MISSING_EDGE (R44): no edge of the source for TB_LIMITS.MISS. -/
def execSourceMissingEdge (src : Source) (s : State) : Host.Outcome State Fault Refusal :=
  running s fun s =>
    match src with
    | .rtc => s
    | _ =>
      let was := s.on src.okFld
      let t := { s.put src.okFld 0 with
        tb.passes := assign 0 src.code 0 s.tb.passes, tb.running := assign false src.code false s.tb.running }
      t.when (was || src == s.activeSource) (·.sourceLost src)

/-- ATOM_LOCK_CHANGE (R45): the pin takes a level. -/
def execAtomLockChange (level : Bool) (s : State) : Host.Outcome State Fault Refusal :=
  running s fun s => ({ s with tb.lockPin := level }).updateLock

/-- OCXO_WARM_CHANGE (R46): the pin takes a level. -/
def execOcxoWarmChange (level : Bool) (s : State) : Host.Outcome State Fault Refusal :=
  running s fun s => ({ s with tb.warmPin := level }).updateWarm

/-- WARM_TIMER_EXPIRY (R46): WARM_TIME seconds have passed since the timebase started. -/
def execWarmTimerExpiry (s : State) : Host.Outcome State Fault Refusal :=
  running s fun s => ({ s with tb.warmTimer := true }).updateWarm

/-- Reason a request of R51 is rejected, in the order of arguments 4, 1, 2, 3; 0 where it is accepted. -/
def State.requestReason (s : State) (target : Nat) : Nat :=
  let src := Source.ofCode target
  if target = 3 then 4
  else if src == s.activeSource && !s.tb.coasting then 1
  else if !s.eligible src then 2
  else if s.migrating then 3
  else 0

/-- A request of R51: rejected with event 0x0206, held through a dip episode (R56), or begun. The spec holds one request: a second one accepted
during the episode replaces the one that waits (DEDUCED, log entry 33). -/
def State.requestMigration (s : State) (target : Nat) : State :=
  let r := s.requestReason target
  if r ≠ 0 then s.event F.TB_EVT_REQ_REJ 0x0206 0 r
  else if s.on F.PM_STAT_DIP then { s with tb.waiting := some (Source.ofCode target) }
  else s.beginMigration (Source.ofCode target)

/-- A write of TB_SRC_REQ (R51, R60). -/
def State.writeTbSrcReq (s : State) (v : Word) : State :=
  s.when (F.TB_SRC_REQ_GO.ofWord v == 1) (·.requestMigration (F.TB_SRC_REQ_TARGET.ofWord v))

/-- TB_SRC_REQ_GO (R51): a write of TB_SRC_REQ through a host path. -/
def execTbSrcReqGo (path : Path) (v : Word) (s : State) : Host.Outcome State Fault Refusal :=
  running s fun s => s.hostWrite path F.TB_SRC_REQ_GO.off (·.writeTbSrcReq v)

/-- A request that waited for the end of a dip episode begins, or else the migration to PRI that R48 owes (R56). -/
def State.resumeWaitingMigration (s : State) : State :=
  match s.tb.waiting with
  | none => s.startOwed
  | some src => (({ s with tb.waiting := none }).requestMigration src.code).startOwed

/-- SHADOW_LOCK_DETECTED (R49 step 2): the comparison window begins. -/
def execShadowLockDetected (s : State) : Host.Outcome State Fault Refusal :=
  running s fun s =>
    s.when (s.tb.migStep == 1) (fun s =>
      { s.put s.shadowLock 1 with tb.migStep := 3, tb.coarse := s.on F.PM_STAT_DIP })

/-- SHADOW_LOCK_TIMEOUT (R52): the shadow MDLL has not locked within MIG_LOCK. -/
def execShadowLockTimeout (s : State) : Host.Outcome State Fault Refusal :=
  running s fun s => s.when (s.tb.migStep == 1) (·.abortMigration)

/-- The comparison r of whole-tick counts of the two ticks, as a frequency word (R56). -/
def coarseRatio (newTicks oldTicks : Nat) : Int :=
  roundDiv (((newTicks : Int) - oldTicks) * 10 ^ 12 * 2 ^ 32) (max oldTicks 1)

/-- MIG_COMPARE_END (R49 step 3): r as the interval engine measures it with TAC resolution (ratio, a frequency word), and the whole-tick
counts of the two ticks over the window, which alone are used where a dip episode discards TAC results (R56). -/
def execMigCompareEnd (ratio : Int) (newTicks oldTicks : Nat) (s : State) : Host.Outcome State Fault Refusal :=
  running s fun s =>
    s.when (s.tb.migStep == 3) (fun s =>
      let coarse := s.tb.coarse || s.on F.PM_STAT_DIP
      let r := if coarse then coarseRatio newTicks oldTicks else ratio
      { s.putI F.TB_MIG_RATIO_RATIO r with tb.migStep := 4, tb.coarse := coarse, tb.ratio := r })

/-- OLD_MDLL_POWER_OFF (R49 step 5). -/
def execOldMdllPowerOff (s : State) : Host.Outcome State Fault Refusal :=
  running s fun s => s.when (s.tb.migStep == 5) (fun s => { s.put s.shadowLock 0 with tb.migStep := 0 })

/-- F_new = (1 + F_old) / (1 + r) - 1 on frequency words, rounded to the nearest LSB, ties away from zero (R49 step 4). -/
def restateFreq (f r : Int) : Int :=
  let one : Int := 2 ^ 32 * 10 ^ 12
  roundDiv ((one + f) * one - (one + r) * one) (one + r).toNat

/-- Step 4 of a migration at an update (R49): the tick changes at one common edge. The frequency word is restated by the caller. -/
def State.switchTick (s : State) : State :=
  let t := (s.closeSegment.put F.TB_STAT_ACT s.tb.target.code).put F.TB_STAT_ACT_TM (1 - s.get F.TB_STAT_ACT_TM)
  let t := ((t.put F.TB_STAT_MIG 0).put F.TB_STAT_COAST 0).event F.TB_EVT_MIG_DONE 0x0202 0 0
  { t with tb.migStep := 5, tb.coasting := false, tb.forced := false, tb.startMig := false, tb.gen := s.tb.gen + 1,
           mb.forcedMig := if s.tb.forced then some s.tb.coarse else s.mb.forcedMig }

/-- The XO's predicted error y(d), a frequency word (the formula before R57), rounded to the nearest LSB. -/
def State.xoPrediction (s : State) : Int :=
  let rate := s.getI F.TB_XO_AGE_RATE
  let day := 86400 * tuSec
  roundDiv (s.getI F.TB_XO_FOFS_FOFS * day + rate * 65536 * ((s.now : Int) - (s.get F.TB_XO_AGE_T0DAY : Int) * day)) day

/-- Seconds of raw tick since the warm-up timer started, saturating (R46, R60; DEDUCED, log entry 33). -/
def State.warmElapsed (s : State) : Nat := min 0xFFFF ((s.tick - s.tb.warmStart) / (625000000 * 2 ^ 32))

/-- Whether the ageing values apply: MODE entered or learned (R57). -/
def State.ageingOn (s : State) : Bool := s.get F.TB_XO_AGE_MODE == 1 || s.get F.TB_XO_AGE_MODE == 2

/-- The core has been locked to a qualified reference for the last n seconds (R57). -/
def State.lockedFor (s : State) (n : Nat) : Bool :=
  match s.tk.lockSince with
  | none => false
  | some t => decide (t + n ≤ s.sec)

/-- XO_AGE_LEARN (R57): at a TAI day boundary in learned mode, after 72 h locked to a qualified reference, the core overwrites FOFS, RATE
and T0DAY. The spec does not state how FOFS and RATE are learned: both are free values (log entry 1). -/
def execXoAgeLearn (s : State) : Host.Outcome State Fault Refusal :=
  running s fun s =>
    s.when (s.get F.TB_XO_AGE_MODE == 2 && s.sec % 86400 == 0 && s.lockedFor 259200) (fun s =>
      s.takeFree fun s fofs => s.takeFree fun s rate =>
        ((((s.put F.TB_XO_FOFS_FOFS fofs.toNat).put F.TB_XO_AGE_RATE rate.toNat).put F.TB_XO_AGE_T0DAY (s.sec / 86400)).put
          F.TB_XO_AGE_LEARNED 1).event F.TB_EVT_AGE_LEARN 0x0207 0 0)

/-- Sampling of XO_THERM starts afresh (R59). -/
def State.restartTherm (s : State) : State :=
  { s.put F.TB_THERM_AVG 0 with tb.therm := [], tb.openRun := 0, tb.closeRun := 0 }

/-- The ADC code of a voltage in µV: floor(V * 4096 / 1.8 V), at most the full scale (R59). -/
def thermCode (microvolts : Nat) : Nat := min (microvolts * 4096 / 1800000) 4095

/-- The temperature code delivered to the core, if one is (R59). -/
def State.thermDelivered (s : State) : Option Nat :=
  if s.on F.TB_THERM_EN && !s.on F.TB_THERM_OPEN && s.tb.therm.length == 16 then some (s.tb.therm.sum / 16) else none

/-- THERM_SAMPLE (R59): one ADC sample of the voltage on XO_THERM. -/
def execThermSample (microvolts : Nat) (s : State) : Host.Outcome State Fault Refusal :=
  running s fun s =>
    s.when (s.on F.TB_THERM_EN) (fun s =>
      let c := thermCode microvolts
      let high := decide (4092 ≤ c)
      let openRun := if high then min 16 (s.tb.openRun + 1) else 0
      let closeRun := if high then 0 else min 16 (s.tb.closeRun + 1)
      let codes := (c :: s.tb.therm).take 16
      let s1 := { s.put F.TB_THERM_CODE c with tb.therm := codes, tb.openRun := openRun, tb.closeRun := closeRun }
      let s2 := if !s.on F.TB_THERM_OPEN && openRun == 16 then (s1.put F.TB_THERM_OPEN 1).event F.TB_EVT_THERM_OPEN 0x0208 0 0
        else if s.on F.TB_THERM_OPEN && closeRun == 16 then s1.put F.TB_THERM_OPEN 0
        else s1
      s2.put F.TB_THERM_AVG (if codes.length == 16 then codes.sum / 16 else 0))

end Sys2Proof.Machine
end

