-- ==== Sys2Proof/Machine/Vault.lean ====
section
/-! DEFINITION. The Serac vault: root, key slots, operations and lifecycle (R283 to R294). -/
namespace Sys2Proof.Machine

/-- One second of the counter-mode KDF of R285: n bytes, at most 32, under a label and a context. -/
def kdf (key : List Byte) (label : String) (context : List Byte) (n : Nat) : List Byte :=
  (hmacSha256 key (bytesBE 4 1 ++ ascii label ++ [0] ++ context ++ bytesBE 4 (8 * n))).take n

/-! ## Slots -/

/-- Key material of a slot. -/
def State.slotKey (s : State) (k : Nat) : List Byte := readCell k [] s.kv.slots

/-- Attribute word of a slot (R286). -/
def State.slotAttr (s : State) (k : Nat) : Nat := s.get (F.KV_SLOT_ATTR_ATTR k)

/-- Fill a slot; the vault sets VALID (R286). -/
def State.fillSlot (s : State) (k : Nat) (key : List Byte) (attr : Nat) : State :=
  { s.put (F.KV_SLOT_ATTR_ATTR k) (attr % 2 ^ 31 + 2 ^ 31) with kv.slots := writeCell k key [] s.kv.slots }

/-- Zeroise a slot. -/
def State.zeroSlot (s : State) (k : Nat) : State :=
  { s.put (F.KV_SLOT_ATTR_ATTR k) 0 with kv.slots := dropCell k s.kv.slots }

/-- Zeroise every slot. -/
def State.zeroSlots (s : State) : State :=
  { s.forAll (List.range 128) (fun s k => s.put (F.KV_SLOT_ATTR_ATTR k) 0) with kv.slots := [] }

/-- TYPE of an attribute word. -/
def attrType (a : Nat) : Nat := bits a 29 26

/-- The attribute word is VALID and its TYPE suits an operation that takes the types listed (R288). -/
def attrSuits (a : Nat) (types : List Nat) : Bool := bitOf a 31 == 1 && types.contains (attrType a)
where bitOf (v i : Nat) : Nat := v / 2 ^ i % 2

/-- Key length of a TYPE (R286, R285; log entry 5). -/
def keyLength (ty : Nat) : Nat := if ty = 1 then 16 else 32

/-- A key of n bytes fits a TYPE that imports may use (R286, R291; log entry 5). -/
def keyFits (ty n : Nat) : Bool :=
  if ty = 3 ∨ ty = 6 then 1 ≤ n && n ≤ 64 else 1 ≤ ty && ty ≤ 5 && n == keyLength ty

/-- Master m is a secure-world master (R286). -/
def masterSecure (m : Nat) : Bool := [0, 1, 7, 9, 10].contains m

/-- Rows 1 to 5 of R288 for master m, an operation bit and the types that suit it: 0x00 where granted. -/
def State.keyCheck (s : State) (m slot : Nat) (types : List Nat) (op : Nat) : Nat :=
  let a := s.slotAttr slot
  if s.on F.TP_STAT_LATCH || s.get F.KV_STAT_ROOT == 3 then 0x04
  else if !attrSuits a types then 0x05
  else if bits a 18 14 / 2 ^ s.get F.KV_STAT_LC % 2 = 0 then 0x08
  else if bits a 11 0 / 2 ^ m % 2 = 0 || (if masterSecure m then bits a 12 12 == 0 else bits a 13 13 == 0) then 0x02
  else if bits a op op = 0 then 0x02
  else 0x00

/-- A DENIED result counts and writes event 0x0905 (R288). -/
def State.keyDenied (s : State) (status : Nat) : State :=
  if status = 0x02 then (s.count F.KV_CNT_DENY 1).eventRated (0x0905 * 8) F.KV_EVT_DENY 0x0905 0 0 else s

/-! ## The vault record (R289, R294, R298) -/

/-- The wrap key (R285). -/
def wrapKey : List Byte := kdf Config.root "JT9640 wrap" [] 32

/-- The NTS master key of a key ID (R285). -/
def ntsKey (kid : Nat) : List Byte := kdf Config.root "JT9640 nts" (bytesBE 4 kid) 32

/-- Attribute word of the NTS master keys (R294). -/
def ntsAttr : Nat := 0x09193180

/-- Attribute word of slot 0: Ed25519, sign, for the Moraine signer in PROVISION and FIELD (R285, R287; log entry 5). -/
def attestAttr : Nat := 0x200 + 0x1000 + 0x18000 + 0x2000000 + 0x10000000

/-- Persistent slots, in rising order. -/
def State.persistent (s : State) : List Nat := (List.range 128).filter (fun k => bits (s.slotAttr k) 31 30 == 3)

/-- One entry of the vault record: slot, length, attribute word and sealed key, 120 bytes (log entry 6). -/
def State.recordEntry (s : State) (k : Nat) : List Byte :=
  let ad := bytesLE 1 k ++ bytesLE 8 (s.slotAttr k)
  let sealed := (Config.aesSiv wrapKey [] ad (s.slotKey k)).take 80
  let l := bytesLE 1 k ++ bytesLE 1 1 ++ bytesLE 2 sealed.length ++ bytesLE 4 0 ++ bytesLE 8 (s.slotAttr k) ++ sealed
  l ++ List.replicate (120 - l.length) 0

/-- The vault record: NTS slots and key IDs, the persistent slots, and its CRC-32C (R289, R294; log entry 6). -/
def State.storeRecord (s : State) : State :=
  let word (f : Fld) := (fieldsAt f.off).foldl (fun (a : Nat) f => a + s.get f * 2 ^ f.lo) 0
  let l := bytesLE 8 (word F.PT_NTS_CFG_CUR_SLOT) ++ bytesLE 8 (word F.PT_NTS_KID_CUR_ID) ++ List.replicate 48 0 ++
    (s.persistent.take 8).flatMap s.recordEntry
  let l := l ++ List.replicate (0x3FC - l.length) 0
  { s with firn := writeBytes s.firn 0x6400 (l ++ bytesLE 4 (crc32c l)) }

/-- The secure clear erases the vault record (R298). -/
def State.eraseRecord (s : State) : State := { s with firn := writeBytes s.firn 0x6400 (List.replicate 1024 0) }

/-- Refill one persistent slot from its entry; an entry that fails to open leaves the slot empty, with event 0x0908 (R289). -/
def State.refillSlot (s : State) (e : List Byte) : State :=
  let k := ofBytesLE (e.take 1)
  if ofBytesLE ((e.drop 1).take 1) = 0 then s
  else
    let attr := ofBytesLE ((e.drop 8).take 8)
    match Config.aesSivOpen wrapKey [] (bytesLE 1 k ++ bytesLE 8 attr) ((e.drop 16).take (ofBytesLE ((e.drop 2).take 2))) with
    | some key => s.fillSlot k key attr
    | none => s.event F.KV_EVT_RESTORE 0x0908 0 k

/-- Refill of the keys at a start, once the root is there: slot 0, the NTS master keys and the persistent slots (R289, R294). -/
def State.refillKeys (s : State) : State :=
  if s.get F.KV_STAT_ROOT ≠ 1 then s
  else
    let t := s.fillSlot 0 (kdf Config.root "JT9640 attest" (bytesLE 8 (s.get F.SY_DEVID_LO_ID)) 32) attestAttr
    let l := readBytes t.firn 0x6400 0x3FC
    if ofBytesLE (readBytes t.firn 0x67FC 4) ≠ crc32c l then t
    else
      let cfg := ofBytesLE (l.take 8)
      let kid := ofBytesLE ((l.drop 8).take 8)
      let t := t.when (bits cfg 7 7 == 1) (fun t =>
        ((t.fillSlot (bits cfg 6 0) (ntsKey (bits kid 31 0)) ntsAttr).put F.PT_NTS_CFG_CUR_SLOT (bits cfg 6 0)).put F.PT_NTS_CFG_CUR_VALID 1)
      let t := t.when (bits cfg 15 15 == 1) (fun t =>
        ((t.fillSlot (bits cfg 14 8) (ntsKey (bits kid 63 32)) ntsAttr).put F.PT_NTS_CFG_PREV_SLOT (bits cfg 14 8)).put F.PT_NTS_CFG_PREV_VALID 1)
      let t := (t.put F.PT_NTS_KID_CUR_ID (bits kid 31 0)).put F.PT_NTS_KID_PREV_ID (bits kid 63 32)
      t.forAll (List.range 8) (fun t i => t.refillSlot ((l.drop (64 + 120 * i)).take 120))

/-! ## The root -/

/-- The root is regenerated at a start (R283): each attempt forms it with a count of corrected bits, or does not. A part in BLANK makes no
attempt; in RETURN the root stays disabled; in RETIRED the helper data cannot form it. -/
def State.regenerate (s : State) (attempts : List (Option Nat)) : State :=
  let lc := s.get F.KV_STAT_LC
  if lc = 0 then s.put F.KV_STAT_ROOT 0
  else if lc = 3 then s.put F.KV_STAT_ROOT 3
  else
    let l := attempts.take 3
    let i := if lc = 4 then none else (List.range l.length).find? (fun i => (l.getD i none).isSome)
    match i with
    | some i =>
      let n := (l.getD i none).getD 0
      let t := ((s.put F.KV_STAT_ROOT 1).put F.KV_STAT_ATTEMPTS (i + 1)).putSat F.KV_PUF_ERRBITS n
      let t := t.event F.KV_EVT_ROOT_OK 0x0901 0 (min n 0xFFFF)
      t.when (s.get F.KV_PUF_WARN < n) (·.event F.KV_EVT_PUF_WARN 0x0903 0 0)
    | none => ((s.put F.KV_STAT_ROOT 2).put F.KV_STAT_ATTEMPTS 3).event F.KV_EVT_ROOT_FAIL 0x0902 0 0

/-! ## Operations (R291) -/

/-- Bytes of the KV_DATA window from byte a on. -/
def State.kvData (s : State) (a n : Nat) : List Byte :=
  (((List.range 128).flatMap (fun w => bytesLE 8 (s.get (F.KV_DATA_DATA w)))).drop a).take n

/-- Write bytes into the KV_DATA window from byte 0 on; the bytes after them stay. -/
def State.putKvData (s : State) (l : List Byte) : State :=
  s.forAll (List.range ((l.length + 7) / 8)) (fun s w =>
    let old := bytesLE 8 (s.get (F.KV_DATA_DATA w))
    let new := (l.drop (8 * w)).take 8
    s.put (F.KV_DATA_DATA w) (ofBytesLE (new ++ old.drop new.length)))

/-- n bytes from the vault's entropy source: free values (log entry 1). -/
def State.entropy (s : State) (f : State → List Byte → State) : Nat → State
  | 0 => f s []
  | n + 1 => s.takeFree (fun t w => t.entropy (fun u l => f u (BitVec.ofNat 8 w.toNat :: l)) n)

/-- The result of an operation: status and nothing else. -/
def kvFail (slot status : Nat) : KvOp := { slot := slot, status := status }

/-- Status of filling a target slot with a key of n bytes (R291). -/
def State.fillCheck (s : State) (tslot attr n : Nat) : Nat :=
  let lc := s.get F.KV_STAT_LC
  if s.on F.TP_STAT_LATCH || s.get F.KV_STAT_ROOT == 3 then 0x04
  else if lc ≠ 1 ∧ lc ≠ 2 then 0x08
  else if tslot < 8 || bits (s.slotAttr tslot) 31 31 == 1 || !keyFits (attrType attr) n then 0x03
  else if bits attr 30 30 = 1 && 8 ≤ s.persistent.length then 0x03
  else if bits attr 30 30 = 1 && s.get F.KV_STAT_ROOT != 1 then 0x05
  else 0x00

/-- DERIVE: the root derives under the label JT9640 user only. -/
def State.opDerive (s : State) (slot tslot : Nat) : KvOp :=
  let attr := s.get F.KV_OP_ATTR_ATTR
  let n := keyLength (attrType attr)
  let source := if slot = 0x7F then
      (if s.on F.TP_STAT_LATCH || s.get F.KV_STAT_ROOT == 3 then 0x04 else if s.get F.KV_STAT_ROOT = 1 then 0 else 0x05)
    else s.keyCheck 7 slot [6] 23
  let status := if source ≠ 0 then source else s.fillCheck tslot attr n
  if status ≠ 0 then kvFail slot status
  else
    let key := if slot = 0x7F then Config.root else s.slotKey slot
    { slot := slot, status := 0, effect := .fill tslot (kdf key "JT9640 user" (s.kvData 0 16) n) attr }

/-- IMPORT. -/
def State.opImport (s : State) (tslot len : Nat) : KvOp :=
  let attr := s.get F.KV_OP_ATTR_ATTR
  let status := s.fillCheck tslot attr len
  if status ≠ 0 then kvFail tslot status else { slot := tslot, status := 0, effect := .fill tslot (s.kvData 0 len) attr }

/-- ZEROISE: host operations reach slots 8 to 127 (R286). -/
def State.opZeroise (s : State) (tslot : Nat) : KvOp :=
  if s.on F.TP_STAT_LATCH || s.get F.KV_STAT_ROOT == 3 then kvFail tslot 0x04
  else if tslot < 8 then kvFail tslot 0x03
  else { slot := tslot, status := 0, effect := .clear tslot }

/-- PUBKEY checks rows 1 and 2 of R288 only. -/
def State.opPubkey (s : State) (slot : Nat) : KvOp :=
  let a := s.slotAttr slot
  if s.on F.TP_STAT_LATCH || s.get F.KV_STAT_ROOT == 3 then kvFail slot 0x04
  else if !attrSuits a [4, 5] then kvFail slot 0x05
  else { slot := slot, status := 0, out := (Config.publicKey (attrType a) (s.slotKey slot)).take (if attrType a = 4 then 32 else 64) }

/-- A granted operation on a slot with its output, or the refusal of R288. -/
def State.keyed (s : State) (slot : Nat) (types : List Nat) (op : Nat) (bad : Bool) (f : Nat → List Byte → KvOp) : KvOp :=
  let status := s.keyCheck 7 slot types op
  if status ≠ 0 then kvFail slot status else if bad then kvFail slot 0x03 else f (attrType (s.slotAttr slot)) (s.slotKey slot)

/-- SIGN: a message of at most 448 bytes. -/
def State.opSign (s : State) (slot len : Nat) : KvOp :=
  s.keyed slot [4, 5] 25 (448 < len) fun ty key => { slot := slot, status := 0, out := (Config.signature ty key (s.kvData 0 len)).take 64 }

/-- The authentication code of a message under a key of a TYPE. -/
def macOf (ty : Nat) (key m : List Byte) : List Byte := if ty = 1 then (Config.aesCmac key m).take 16 else hmacSha256 key m

/-- VERIFY: the authenticator follows the message (log entry 5). -/
def State.opVerify (s : State) (slot len : Nat) : KvOp :=
  s.keyed slot [1, 3, 4, 5] 22 (960 < len) fun ty key =>
    let m := s.kvData 0 len
    let good := if ty = 1 then s.kvData len 16 == macOf ty key m
      else if ty = 3 then s.kvData len 32 == macOf ty key m
      else Config.verifySignature ty (Config.publicKey ty key) m (s.kvData len 64)
    { slot := slot, status := if good then 0 else 0x03 }

/-- MAC. -/
def State.opMac (s : State) (slot len : Nat) : KvOp :=
  s.keyed slot [1, 3] 21 (1024 < len) fun ty key => { slot := slot, status := 0, out := macOf ty key (s.kvData 0 len) }

/-- ENCRYPT: the associated data comes first in the window, and LEN counts both (log entry 5). -/
def State.opEncrypt (s : State) (slot len : Nat) : KvOp :=
  let n := s.get F.KV_OP_ATTR_ATTR % 2 ^ 16
  s.keyed slot [2] 19 (1008 < len || len < n) fun _ key =>
    { slot := slot, status := 0, out := Config.aesSiv key [] (s.kvData 0 n) (s.kvData n (len - n)) }

/-- DECRYPT: a text that does not open returns BADARG. -/
def State.opDecrypt (s : State) (slot len : Nat) : KvOp :=
  let n := s.get F.KV_OP_ATTR_ATTR % 2 ^ 16
  s.keyed slot [2] 20 (1024 < len || len < n + 16) fun _ key =>
    match Config.aesSivOpen key [] (s.kvData 0 n) (s.kvData n (len - n)) with
    | some l => { slot := slot, status := 0, out := l }
    | none => kvFail slot 0x03

/-- A cookie in the layout of R270. -/
def cookie (kid : Nat) (key nonce plain : List Byte) : List Byte :=
  let ad := bytesBE 4 kid ++ nonce
  let l := ad ++ (Config.aesSiv key [] ad plain).take 82
  l ++ List.replicate (104 - l.length) 0

/-- n cookies of the same keys, each with a fresh nonce (R293). -/
def State.cookies (s : State) (kid : Nat) (key plain : List Byte) (f : State → List Byte → State) : Nat → State
  | 0 => f s []
  | n + 1 => s.entropy (fun t nonce => t.cookies kid key plain (fun u l => f u (cookie kid key nonce plain ++ l)) n) 16

/-- MINT (R293). -/
def State.opMint (s : State) (n : Nat) (start : State → KvOp → State) : State :=
  let slot := s.get F.PT_NTS_CFG_CUR_SLOT
  let status := if s.on F.TP_STAT_LATCH || s.get F.KV_STAT_ROOT == 3 then 0x04 else if !s.on F.PT_NTS_CFG_CUR_VALID then 0x05
    else s.keyCheck 7 slot [2] 24
  if status ≠ 0 then start s (kvFail slot status)
  else if ofBytesBE (s.kvData 0 2) ≠ 15 ∨ n < 1 ∨ 8 < n then start s (kvFail slot 0x03)
  else s.cookies (s.get F.PT_NTS_KID_CUR_ID) (s.slotKey slot) (s.kvData 0 66) (fun t l => start t { slot := slot, status := 0, out := l }) n

/-- ROTATE (R294): the slot filled is the one of 2 and 3 that is not CUR_SLOT. -/
def State.opRotate (s : State) (start : State → KvOp → State) : State :=
  let slot := if s.get F.PT_NTS_CFG_CUR_SLOT = 2 then 3 else 2
  if s.on F.TP_STAT_LATCH || s.get F.KV_STAT_ROOT == 3 then start s (kvFail slot 0x04)
  else if s.get F.KV_STAT_ROOT ≠ 1 then start s (kvFail slot 0x05)
  else s.entropy (fun t l => start t { slot := slot, status := 0, out := l, effect := .rotate (ofBytesLE l) slot }) 4

/-- RANDOM. -/
def State.opRandom (s : State) (len : Nat) (start : State → KvOp → State) : State :=
  if s.on F.TP_STAT_LATCH || s.get F.KV_STAT_ROOT == 3 then start s (kvFail 0 0x04)
  else if 1024 < len then start s (kvFail 0 0x03)
  else s.entropy (fun t l => start t { slot := 0, status := 0, out := l }) len

/-- An operation is in progress until KV_OP_COMPLETE; a DENIED result counts at once. -/
def State.beginOp (s : State) (o : KvOp) : State :=
  { (s.put F.KV_OP_STAT_BUSY 1).keyDenied o.status with kv.op := some o }

/-- A write of KV_OP with GO = 1 (R291): dropped with STATUS BUSY while an operation runs; an unknown code answers BADARG. -/
def State.startOp (s : State) (op slot tslot len : Nat) : State :=
  if s.on F.KV_OP_STAT_BUSY then s.put F.KV_OP_STAT_STATUS 0x01
  else if op = 0x01 then s.beginOp (s.opDerive slot tslot)
  else if op = 0x02 then s.beginOp (s.opImport tslot len)
  else if op = 0x03 then s.beginOp (s.opZeroise tslot)
  else if op = 0x04 then s.beginOp (s.opPubkey slot)
  else if op = 0x05 then s.beginOp (s.opSign slot len)
  else if op = 0x06 then s.beginOp (s.opVerify slot len)
  else if op = 0x07 then s.beginOp (s.opMac slot len)
  else if op = 0x08 then s.beginOp (s.opEncrypt slot len)
  else if op = 0x09 then s.beginOp (s.opDecrypt slot len)
  else if op = 0x0A then s.opMint len State.beginOp
  else if op = 0x0B then s.opRotate State.beginOp
  else if op = 0x0C then s.opRandom len State.beginOp
  else s.beginOp (kvFail slot 0x03)

/-- A write of KV_OP. -/
def State.writeKvOp (s : State) (v : Word) : State :=
  s.when (F.KV_OP_GO.ofWord v == 1) (·.startOp (F.KV_OP_OP.ofWord v) (F.KV_OP_SLOT.ofWord v) (F.KV_OP_TSLOT.ofWord v) (F.KV_OP_LEN.ofWord v))

/-- A vault operation requested by a write of KV_OP. -/
def State.hostOp (s : State) (path : Path) (op : Nat) (slot tslot : BitVec 7) (len : BitVec 11) : State :=
  s.hostWrite path F.KV_OP_GO.off (·.startOp op slot.toNat tslot.toNat len.toNat)

/-- KV_DERIVE (R291). -/
def execKvDerive (path : Path) (slot tslot : BitVec 7) (len : BitVec 11) (s : State) : Host.Outcome State Fault Refusal :=
  running s (·.hostOp path 0x01 slot tslot len)

/-- KV_IMPORT (R291). -/
def execKvImport (path : Path) (slot tslot : BitVec 7) (len : BitVec 11) (s : State) : Host.Outcome State Fault Refusal :=
  running s (·.hostOp path 0x02 slot tslot len)

/-- KV_ZEROISE (R291). -/
def execKvZeroise (path : Path) (slot tslot : BitVec 7) (len : BitVec 11) (s : State) : Host.Outcome State Fault Refusal :=
  running s (·.hostOp path 0x03 slot tslot len)

/-- KV_PUBKEY (R288, R291). -/
def execKvPubkey (path : Path) (slot tslot : BitVec 7) (len : BitVec 11) (s : State) : Host.Outcome State Fault Refusal :=
  running s (·.hostOp path 0x04 slot tslot len)

/-- KV_SIGN (R291). -/
def execKvSign (path : Path) (slot tslot : BitVec 7) (len : BitVec 11) (s : State) : Host.Outcome State Fault Refusal :=
  running s (·.hostOp path 0x05 slot tslot len)

/-- KV_VERIFY (R291). -/
def execKvVerify (path : Path) (slot tslot : BitVec 7) (len : BitVec 11) (s : State) : Host.Outcome State Fault Refusal :=
  running s (·.hostOp path 0x06 slot tslot len)

/-- KV_MAC (R291). -/
def execKvMac (path : Path) (slot tslot : BitVec 7) (len : BitVec 11) (s : State) : Host.Outcome State Fault Refusal :=
  running s (·.hostOp path 0x07 slot tslot len)

/-- KV_ENCRYPT (R291). -/
def execKvEncrypt (path : Path) (slot tslot : BitVec 7) (len : BitVec 11) (s : State) : Host.Outcome State Fault Refusal :=
  running s (·.hostOp path 0x08 slot tslot len)

/-- KV_DECRYPT (R291). -/
def execKvDecrypt (path : Path) (slot tslot : BitVec 7) (len : BitVec 11) (s : State) : Host.Outcome State Fault Refusal :=
  running s (·.hostOp path 0x09 slot tslot len)

/-- KV_MINT (R293). -/
def execKvMint (path : Path) (slot tslot : BitVec 7) (len : BitVec 11) (s : State) : Host.Outcome State Fault Refusal :=
  running s (·.hostOp path 0x0A slot tslot len)

/-- KV_ROTATE (R294). -/
def execKvRotate (path : Path) (slot tslot : BitVec 7) (len : BitVec 11) (s : State) : Host.Outcome State Fault Refusal :=
  running s (·.hostOp path 0x0B slot tslot len)

/-- KV_RANDOM (R291). -/
def execKvRandom (path : Path) (slot tslot : BitVec 7) (len : BitVec 11) (s : State) : Host.Outcome State Fault Refusal :=
  running s (·.hostOp path 0x0C slot tslot len)

/-- The rotation of R294 in one write: the old current key becomes the previous key, and the key it displaces is gone. -/
def State.rotate (s : State) (kid slot : Nat) : State :=
  let cur := s.get F.PT_NTS_CFG_CUR_SLOT
  let valid := s.get F.PT_NTS_CFG_CUR_VALID
  let valid := if valid = 1 ∧ cur = slot then 0 else valid
  let t := (s.zeroSlot slot).fillSlot slot (ntsKey kid) ntsAttr
  let t := (t.put F.PT_NTS_CFG_PREV_SLOT cur).put F.PT_NTS_CFG_PREV_VALID valid
  let t := (t.put F.PT_NTS_KID_PREV_ID (s.get F.PT_NTS_KID_CUR_ID)).put F.PT_NTS_KID_CUR_ID kid
  let t := (t.put F.PT_NTS_CFG_CUR_SLOT slot).put F.PT_NTS_CFG_CUR_VALID 1
  t.storeRecord.event F.KV_EVT_ROTATE 0x0907 0 (kid * 2 ^ 32)

/-- The effect of a completed operation on the slots. -/
def State.kvEffect (s : State) : KvEffect → State
  | .none => s
  | .fill k key attr => (s.fillSlot k key attr).when (bits attr 30 30 == 1) (·.storeRecord)
  | .clear k => (s.zeroSlot k).when (bits (s.slotAttr k) 31 30 == 3) (·.storeRecord)
  | .rotate kid slot => s.rotate kid slot

/-- The answer of an operation reaches KV_OP_STAT and KV_DATA, and vector 1 of PF5 is signalled (R291, R377). -/
def State.endOp (s : State) (status : Nat) (out : List Byte) : State :=
  let t := ((s.put F.KV_OP_STAT_STATUS status).put F.KV_OP_STAT_BUSY 0).put F.KV_OP_STAT_OUT_LEN out.length
  { (t.putKvData out).signal 5 1 with kv.op := none }

/-- KV_OP_COMPLETE (R291). -/
def execKvOpComplete (s : State) : Host.Outcome State Fault Refusal :=
  running s fun s =>
    match s.kv.op with
    | none => s
    | some o => (s.kvEffect o.effect).endOp o.status o.out

/-- The operation in progress aborts with a status; its output and effect are discarded (R296, R290, R373). -/
def State.abortOp (s : State) (status : Nat) : State := if s.kv.op.isSome then s.endOp status [] else s

/-- An uncorrectable byte in a slot zeroises it (R290). -/
def State.slotEcc (s : State) (k : Nat) : State :=
  let t := match s.kv.op with
    | some o => s.when (o.slot == k) (·.abortOp 0x07)
    | none => s
  ((t.zeroSlot k).count F.KV_CNT_ECC 1).event F.KV_EVT_ECC 0x0906 0 k

/-- The vault's root is unavailable, or its slots are zeroised (R262, R283). -/
def State.keysGone (s : State) : Bool := s.on F.TP_STAT_LATCH || s.get F.KV_STAT_ROOT != 1

/-- Event 0x0739 at a change of the keys' availability (R262). -/
def State.showKeys (s : State) : State :=
  let gone := s.keysGone
  let t := { s with pt.keyless := gone }
  t.when (gone && !s.pt.keyless) (·.event F.PT_EVT_NOKEY 0x0739 0 (s.get F.PT_UNAUTH_ALLOWED_ALLOWED))

/-! ## Lifecycle (R292) -/

/-- A transition programs OTP and writes event 0x0904 with the old and the new state. -/
def State.enterLc (s : State) (new : Nat) : State :=
  (s.put F.KV_STAT_LC new).event F.KV_EVT_LC 0x0904 0 (s.get F.KV_STAT_LC + new * 16)

/-- A lifecycle request with GO = 1. -/
def State.requestLc (s : State) (target confirm : Nat) : State :=
  let lc := s.get F.KV_STAT_LC
  if confirm ≠ 0xA5 then s.event F.KV_EVT_LC 0x0904 0 0xFF
  else if lc = 0 ∧ target = 1 then { s.enterLc 1 with kv.helper := true }
  else if lc = 1 ∧ target = 2 then { s.enterLc 2 with kv.lcSealed := true }
  else if lc = 2 ∧ target = 3 ∧ Config.verifySignature 4 Config.bootKey (bytesLE 8 (s.get F.SY_DEVID_LO_ID)) (s.kvData 0 64) then
    (((s.put F.KV_STAT_ROOT 3).zeroSlots).enterLc 3).showKeys
  else if (lc = 1 ∨ lc = 2 ∨ lc = 3) ∧ target = 4 then { s.enterLc 4 with kv.helper := false }
  else s.put F.KV_OP_STAT_STATUS 0x08

/-- A write of KV_LC. -/
def State.writeKvLc (s : State) (v : Word) : State :=
  s.when (F.KV_LC_GO.ofWord v == 1) (·.requestLc (F.KV_LC_TARGET.ofWord v) (F.KV_LC_CONFIRM.ofWord v))

/-- LC_TO_PROVISION (R292). -/
def execLcToProvision (path : Path) (confirm : BitVec 8) (s : State) : Host.Outcome State Fault Refusal :=
  running s fun s => s.hostWrite path F.KV_LC_GO.off (·.requestLc 1 confirm.toNat)

/-- LC_TO_FIELD (R292). -/
def execLcToField (path : Path) (confirm : BitVec 8) (s : State) : Host.Outcome State Fault Refusal :=
  running s fun s => s.hostWrite path F.KV_LC_GO.off (·.requestLc 2 confirm.toNat)

/-- LC_TO_RETURN (R292). -/
def execLcToReturn (path : Path) (confirm : BitVec 8) (s : State) : Host.Outcome State Fault Refusal :=
  running s fun s => s.hostWrite path F.KV_LC_GO.off (·.requestLc 3 confirm.toNat)

/-- LC_TO_RETIRED (R292). -/
def execLcToRetired (path : Path) (confirm : BitVec 8) (s : State) : Host.Outcome State Fault Refusal :=
  running s fun s => s.hostWrite path F.KV_LC_GO.off (·.requestLc 4 confirm.toNat)

end Sys2Proof.Machine
end

