-- ==== Sys2Proof/Machine/Switch.lean ====
section
/-! DEFINITION. Checkpoints in the Firn store, the start of a core from one, and switchover triggers (R114, R122 to R124, R321 to R328). -/
namespace Sys2Proof.Machine

/-- The register word that fields spell. -/
def State.word (s : State) (fs : List Fld) : Nat := fs.foldl (fun a f => a + s.get f * 2 ^ f.lo) 0

/-- Load fields from a register word, whatever their access codes. -/
def State.putWord (s : State) (fs : List Fld) (w : Nat) : State := s.forAll fs (fun t f => t.put f (w / 2 ^ f.lo))

/-- Eight bytes, little-endian. -/
def le8 (v : Nat) : List Byte := bytesLE 8 v

/-- A signed 64-bit value as a word. -/
def word64 (i : Int) : Nat := (i % 2 ^ 64).toNat

/-- Zero bytes. -/
def zeros (n : Nat) : List Byte := List.replicate n 0

/-! ## Clekosal frames (R331) -/

/-- The key of the mate link, where its slot may generate and verify for M11: operation bit 21 or 22 (R286, R331). -/
def State.mateKey (s : State) (bit : Nat) : Option (List Byte) :=
  let slot := s.get F.RD_MATE_CFG_SLOT
  if s.keyCheck 11 slot [3] bit = 0 then some (s.slotKey slot) else none

/-- The flag byte of a Clekosal header: lease held, role, Moraine state, UNB. -/
def State.mateFlags (s : State) : Nat :=
  let role := s.get F.RD_MATE_STAT_ROLE
  (role == 1).toNat + role * 2 + s.get F.MB_STAT_STATE * 8 + s.get F.MB_STAT_UNB * 32

/-- A Clekosal frame of a type without its ICV. -/
def State.mateBody (s : State) (type : Nat) (payload : List Byte) : List Byte :=
  bytesLE 6 (s.get F.RD_MATE_ADDR_ADDR) ++ bytesLE 6 (s.get (F.MAC_PORT_ADDR_ADDR 4 0)) ++ [0x88, 0xB5, 0x01] ++ bytesLE 1 type ++
    bytesLE 1 s.mateFlags ++ [0x00] ++ bytesLE 4 s.rd.mateSeq ++ bytesLE 8 (if s.get F.RD_MATE_STAT_ROLE = 1 then secOf s.rd.roleSince else 0) ++ payload

/-- The ICV of a frame: HMAC-SHA-256 truncated to 128 bits. -/
def mateIcv (key m : List Byte) : List Byte := (hmacSha256 key m).take 16

/-- Queue a non-appointed frame on port 4 with its ICV; a slot that may not sign sends nothing. -/
def State.mateQueue (s : State) (m : List Byte) : State :=
  match s.mateKey 21 with
  | none => s
  | some key =>
    { s with wire.ports := alter {} 4 (fun q => { q with na := q.na ++ [⟨{ bytes := m ++ mateIcv key m }, s.now⟩] }) s.wire.ports,
             rd.mateSeq := (s.rd.mateSeq + 1) % 2 ^ 32 }

/-- The link is enabled and LN4 has its link (R332). -/
def State.mateLine (s : State) : Bool := s.on F.RD_MATE_CFG_EN && s.on (F.LN_LANE_STAT_LINK 4)

/-- Send a Clekosal frame as a non-appointed frame. -/
def State.mateSend (s : State) (type : Nat) (payload : List Byte) : State := if s.mateLine then s.mateQueue (s.mateBody type payload) else s

/-- The four CKPT segments of a sealed slot (R332). -/
def State.sendSegments (s : State) (slot : List Byte) : State :=
  s.forAll (List.range 4) (fun t i => t.mateSend 2 (bytesLE 1 i ++ [0, 0, 0] ++ (slot.drop (1024 * i)).take 1024))

/-- WAKE to a mate in Névé: its first 64 bytes are the pattern last received in SLEEP (R331, R334, R340). -/
def State.sendWake (s : State) : State :=
  if s.on F.RD_MATE_STAT_MATE_NEVE && s.on F.RD_MATE_CFG_EN then s.mateQueue s.rd.matePat else s

/-! ## Checkpoints -/

/-- Moraine's 512 bytes of a checkpoint (R170). -/
def State.mbCheckpoint (s : State) : List Byte :=
  le8 (s.get F.MB_BOUND_BOUND) ++ le8 (s.get F.MB_SIGMA_SIGMA) ++ le8 (s.get F.MB_PUB_SEC_SEC) ++ le8 (s.get F.MB_PUB_NSF_NSF) ++
  le8 (s.get F.MB_HO_P0_P0) ++ le8 (s.word (fieldsAt F.MB_HO_T0_SEC.off)) ++ le8 (s.get F.MB_ALLOW_ACC_ACC) ++
  le8 (s.word (fieldsAt F.MB_STAT_STATE.off)) ++ le8 s.mb.attSeq ++
  (List.range 16).flatMap (fun n => le8 (s.get (F.MB_REF_BOUND_BOUND n))) ++ zeros 312

/-- The word at byte 0x008 of a checkpoint (R123): layout version 1, writer, state, MODE and the rest. -/
def State.ckptFlags (s : State) : Nat :=
  let k := s.core
  1 + k * 2 ^ 16 + s.get (F.TK_STAT_STATE k) * 2 ^ 17 + s.get F.TK_CTL_MODE * 2 ^ 20 + s.get (F.TK_STAT_TIME_SET k) * 2 ^ 22 +
    s.get (F.TK_STAT_FREQ_ONLY k) * 2 ^ 23 + s.get F.RS_STAT_ACTIVE * 2 ^ 24 + s.get F.RS_STAT_HOLD * 2 ^ 28 + s.get F.TB_STAT_ACT * 2 ^ 29

/-- Bytes 0x000 to 0xFF7 of a checkpoint with a SEQ (R123). The time sample port gives the next tick's count and the time word at it (R15). -/
def State.ckptBody (s : State) (seq : Nat) : List Byte :=
  let k := s.core
  let tick := s.nextTick
  let now := s.timeAt tick
  le8 seq ++ le8 s.ckptFlags ++ le8 (secOf now) ++ le8 (nsfOf now) ++
  le8 (2 ^ 63 + s.get F.TB_STAT_ACT_TM * 2 ^ 62 + tick % 2 ^ 48 * 2 ^ 13) ++ le8 (s.get F.PM_RTC_RTC) ++ le8 (s.get F.TK_TS_FREQ_FREQ) ++
  le8 (s.get (F.TK_MODEL_Y_Y k)) ++ le8 (s.get (F.TK_MODEL_DD_DD k)) ++ le8 (s.get (F.TK_SLEW_LEFT_LEFT k)) ++
  le8 (word64 (s.tk.anchor.getD 0)) ++ le8 (s.get (F.TK_HOLD_SEC_SEC k)) ++ le8 (s.word (fieldsAt F.TB_XO_AGE_MODE.off)) ++
  le8 (s.get F.TB_XO_FOFS_FOFS) ++ le8 (s.word (fieldsAt F.TK_TEMPCO_C.off)) ++ zeros 136 ++ s.mbCheckpoint ++
  le8 (s.word (fieldsAt F.TK_CTL_MODE.off)) ++ le8 (s.get F.TK_SLEW_MAX_SLEW_MAX) ++ le8 (s.get F.TK_STEP_THRESH_THRESH) ++
  le8 (s.get F.TK_MAN_FREQ_FREQ) ++ zeros 224 ++ zeros 3064

/-- The active core runs: it is in TRACKING, HOLDOVER or MANUAL. -/
def State.coreLive (s : State) : Bool :=
  let st := s.get (F.TK_STAT_STATE s.core)
  s.on (F.TK_STAT_ACTIVE s.core) && (st == 2 || st == 3 || st == 4)

/-- A checkpoint (R122): written to the next slot, and sealed with its CRC or left holding the port. -/
def State.checkpoint (s : State) (sealed : Bool) : State :=
  if !s.coreLive then s
  else
    let k := s.core
    let slot := s.tk.nextSlot
    let body := s.ckptBody s.tk.nextSeq
    let crc := if sealed then le8 (crc32c body) else zeros 8
    let t := (s.put (F.TK_STAT_SLOT k) slot).when sealed (·.put (F.TK_CKPT_SEQ_SEQ k) s.tk.nextSeq)
    { t with firn := writeBytes s.firn (slot * 0x1000) (body ++ crc), tk.nextSlot := 1 - slot, tk.nextSeq := s.tk.nextSeq + 1,
             tk.unsealed := if sealed then none else some slot, tk.ckptBusy := !sealed, tk.ckptAt := s.now,
             tk.ckptPoint := if sealed then s.tk.points else s.tk.ckptPoint }.when sealed (·.sendSegments (body ++ crc))

/-- The bytes of a checkpoint slot, where its CRC matches (R122). -/
def State.validSlot (s : State) (slot : Nat) : Option (List Byte) :=
  let b := readBytes s.firn (slot * 0x1000) 0x1000
  if ofBytesLE ((b.drop 0xFF8).take 4) = crc32c (b.take 0xFF8) ∧ ofBytesLE (b.drop 0xFFC) = 0 then some b else none

/-- Eight bytes of a record at an offset, little-endian. -/
def at8 (b : List Byte) (off : Nat) : Nat := ofBytesLE ((b.drop off).take 8)

/-- The valid slot with the greater SEQ (R124). -/
def State.newestCheckpoint (s : State) : Option (Nat × List Byte) :=
  match s.validSlot 0, s.validSlot 1 with
  | some a, some b => if at8 b 0 ≤ at8 a 0 then some (0, a) else some (1, b)
  | some a, none => some (0, a)
  | none, some b => some (1, b)
  | none, none => none

/-- An event of a core, its source the core's block and its instance the core (R126). -/
def State.tkEvent (s : State) (k : Nat) (f : Nat → Fld) (code arg : Nat) : State := s.event (f k) code k arg

/-- SLEWING follows TK_SLEW_LEFT (R117). -/
def State.putLeft (s : State) (k : Nat) (left : Int) : State :=
  (s.putI (F.TK_SLEW_LEFT_LEFT k) (clampI (-2 ^ 63) (2 ^ 63 - 1) left)).putB (F.TK_STAT_SLEWING k) (left != 0)

/-- y, dd, left and the other fields of a core from a checkpoint (R123, R124); the frequency word is the caller's. -/
def State.loadModel (s : State) (k slot : Nat) (b : List Byte) : State :=
  let fl := at8 b 8
  let t := ((s.put (F.TK_MODEL_Y_Y k) (at8 b 0x38)).put (F.TK_MODEL_DD_DD k) (at8 b 0x40)).putLeft k (signedOf 64 (at8 b 0x48))
  let t := ((t.put (F.TK_HOLD_SEC_SEC k) (at8 b 0x58)).put (F.TK_STAT_TIME_SET k) (fl / 2 ^ 22)).put (F.TK_STAT_FREQ_ONLY k) (fl / 2 ^ 23)
  let t := (t.put (F.TK_STAT_SLOT k) slot).put (F.TK_CKPT_SEQ_SEQ k) (at8 b 0)
  { t with tk.anchor := if fl / 2 ^ 23 % 2 = 1 then some (signedOf 64 (at8 b 0x50)) else none }

/-- TB_XO_AGE, TB_XO_FOFS and TK_TEMPCO from a checkpoint (R58, R124). -/
def State.loadLearned (s : State) (b : List Byte) : State :=
  ((s.putWord (fieldsAt F.TB_XO_AGE_MODE.off) (at8 b 0x60)).put F.TB_XO_FOFS_FOFS (at8 b 0x68)).putWord (fieldsAt F.TK_TEMPCO_C.off) (at8 b 0x70)

/-- The active slot that a checkpoint names, if there was one (R123). -/
def slotOf (b : List Byte) : Option Nat := if at8 b 8 / 2 ^ 28 % 2 = 1 then none else some (at8 b 8 / 2 ^ 24 % 16)

/-- State of a core whose start is complete (R114). -/
def State.startedState (s : State) : Nat :=
  if s.get F.TK_CTL_MODE = 1 then 4 else if s.on F.RS_STAT_HOLD then 3 else 2

/-- The seed of R57: 0 in MODE 0b00. -/
def State.seedY (s : State) : Int := if s.ageingOn then s.xoPrediction else 0

/-- Core k starts as the active one with the other in STANDBY (R114). -/
def State.beginCore (s : State) (k : Nat) : State :=
  let t := ((((s.put (F.TK_STAT_STATE k) 1).put (F.TK_STAT_ACTIVE k) 1).put (F.TK_STAT_STATE (1 - k)) 0).put (F.TK_STAT_ACTIVE (1 - k)) 0).put
    F.RD_STAT_ACTIVE_CORE k
  { t.put (F.TK_STAT_STARTUP k) 1 with tk := {}, mb.orphanAt := none, mb.owed := [] }

/-- SB_AVAIL (R326): the standby is in STANDBY or SHADOW, unmarked by the Rime pass, and no switchover is in progress. -/
def State.showStandby (s : State) : State :=
  let ok (k : Nat) : Bool :=
    let st := s.get (F.TK_STAT_STATE k)
    !s.on (F.TK_STAT_ACTIVE k) && (st == 0 || st == 6) && !(if k = 0 then s.on F.RD_STAT_RIME_BAD_A else s.on F.RD_STAT_RIME_BAD_B)
  s.putB F.RD_STAT_SB_AVAIL (!s.on F.RD_STAT_SW && (ok 0 || ok 1))

/-- CHECKPOINT_RESUME (R124, R151, R157, R58): the core of the newer valid checkpoint starts, with the RTC count of PM_RTC; with no valid
checkpoint TKA starts at SEC = 0. -/
def State.startFromCheckpoint (s : State) : State :=
  match s.newestCheckpoint with
  | some (slot, b) =>
    let fl := at8 b 8
    let k := fl / 2 ^ 16 % 2
    let gone := s.get F.PM_RTC_RTC - at8 b 0x28
    let t := s.beginCore k
    let t := t.loadLearned b
    let t := { t with now := timeOf (at8 b 0x10) (at8 b 0x18) + gone * (tuSec / 32768) }
    let t := t.loadModel k slot b
    let t := if fl / 2 ^ 29 % 4 = 0 then t.put F.TK_TS_FREQ_FREQ (at8 b 0x30)
      else ((t.putI (F.TK_MODEL_Y_Y k) t.seedY).put (F.TK_MODEL_DD_DD k) 0).putI F.TK_TS_FREQ_FREQ (freqSat (-t.seedY))
    let t := t.tkEvent k F.TK_EVT_RESUME 0x040C (slot + at8 b 0 % 2 ^ 32 * 2 ^ 32)
    let p0 := if fl / 2 ^ 22 % 2 = 0 then unbounded
      else boundSum [at8 b 0x100, 30517579, ceilDiv (s.get F.MB_CFG_RTC_UNC * gone * 10 ^ 6) 32768]
    let t := { (t.put F.MB_STAT_UNB 1).put F.MB_STAT_STATE 2 with mb.ckptP0 := some p0 }
    let t := t.put (F.TK_STAT_STATE k) t.startedState
    let t := t.when (t.startedState == 3 && fl / 2 ^ 17 % 8 != 3) (fun t => t.put (F.TK_HOLD_SEC_SEC k) t.sec)
    { t with tk.nextSlot := 1 - slot, tk.nextSeq := at8 b 0 + 1, mb.attSeq := at8 b 0x140 }.showStandby
  | none =>
    let t := { s.beginCore 0 with now := 0 }
    let t := t.forAll (fieldsAt F.TB_XO_AGE_MODE.off ++ fieldsAt F.TB_XO_FOFS_FOFS.off) State.clear
    let t := (t.tkEvent 0 F.TK_EVT_NO_CKPT 0x040A 0).put (F.TK_STAT_TIME_SET 0) 0
    let t := (t.putI (F.TK_MODEL_Y_Y 0) t.seedY).putI F.TK_TS_FREQ_FREQ (freqSat (-t.seedY))
    let t := ((t.loadP0 unbounded 0).put F.MB_STAT_UNB 1).put F.MB_STAT_STATE 2
    (t.put (F.TK_STAT_STATE 0) t.startedState).showStandby

/-- CHECKPOINT_WRITE (R122): a checkpoint at a checkpoint instant, sealed within the fence or left holding the port. -/
def execCheckpointWrite (sealed : Bool) (s : State) : Host.Outcome State Fault Refusal := running s (·.checkpoint sealed)

/-- A checkpoint instant, every 125 ms of corrected time, has come since the last checkpoint write began (R122). -/
def State.ckptInstant (s : State) : Bool := decide (s.tk.ckptAt / (125 * tuMs) < s.now / (125 * tuMs))

/-- CHECKPOINT_MISS (R122): the last checkpoint is not sealed at the next checkpoint instant. -/
def execCheckpointMiss (s : State) : Host.Outcome State Fault Refusal :=
  running s fun s =>
    s.when (s.coreLive && s.tk.unsealed.isSome && s.ckptInstant) (fun s =>
      { (s.count (F.TK_MISS_CKPT_MISS s.core) 1).tkEvent s.core F.TK_EVT_CKPT_MISS 0x0402 0 with tk.unsealed := none })

/-- CKPT_PORT_REVOKE (R122, R329): the fence of 10 µs revokes the port; the slot stays invalid. -/
def execCkptPortRevoke (s : State) : Host.Outcome State Fault Refusal :=
  running s fun s => s.when (decide (s.tk.ckptAt + 10 * tuUs < s.now)) (fun s => { s with tk.ckptBusy := false })

/-! ## Switchover -/

/-- The core that is starting as the target of a switchover (R323 step 2). -/
def State.target (s : State) : Nat := if s.get (F.TK_STAT_STATE 0) = 1 then 0 else 1

/-- Event 0x0A01 with its cause and core (R343). -/
def State.triggerEvent (s : State) (cause core : Nat) : State :=
  (s.put F.RD_STAT_LAST_CAUSE cause).event F.RD_EVT_TRIG 0x0A01 core (cause + core * 16)

/-- ORPHAN_HOLD_ENTRY (R327): with the moment at which Moraine enters HOLD, and |dd| of the last sealed checkpoint. -/
def State.enterOrphan (s : State) : State :=
  let t := { s.put F.RD_STAT_SW 0 with rd.exiting := false }
  if s.on F.RD_STAT_ORPHAN then t
  else
    let dd := match s.newestCheckpoint with
      | some (_, b) => (signedOf 64 (at8 b 0x40)).natAbs
      | none => (s.getI (F.TK_MODEL_DD_DD s.core)).natAbs
    let t := (t.put F.RD_STAT_ORPHAN 1).event F.RD_EVT_ORPHAN 0x0A03 0 0
    { t with mb.orphanAt := some (s.rd.trigAt + 3 * tuMs / 2), mb.orphanDd := dd, mb.orphanSeen := false }.when
      (s.on F.RD_MATE_CFG_HANDOVER && s.get F.RD_MATE_STAT_ROLE == 1) State.sendWake

/-- Steps 1 and 2 of R323: core k powers up as the target. -/
def State.startTarget (s : State) (k : Nat) : State := (s.put F.RD_STAT_SW 1).put (F.TK_STAT_STATE k) 1

/-- A Rime pass in its shadow run is aborted (R342). -/
def State.abortRime (s : State) : State :=
  s.when (s.get F.RD_RIME_STAT_STATE == 1) (fun s =>
    { (s.put F.RD_RIME_STAT_STATE 0).event F.RD_EVT_RIME_DEFER 0x0A13 0 3 with rd.deferrals := 0 })

/-- The core of a trigger is fenced (R323 step 1). -/
def State.fenceCore (s : State) (k : Nat) : State :=
  let t := ((s.put (F.TK_STAT_STATE k) 5).put (F.TK_STAT_ACTIVE k) 0).put F.TK_TS_STAT_HELD 1
  { t with tk.unsealed := none, tk.ckptBusy := false }

/-- SWITCHOVER_TRIGGER (R321 to R323, R327, R342): a trigger of a cause. -/
def State.trigger (s : State) (cause : Nat) : State :=
  if s.on F.RD_STAT_SW then
    if cause = 1 ∨ cause = 2 ∨ cause = 4 then
      let k := s.target
      ((s.triggerEvent cause k).put (F.TK_STAT_STATE k) 5).enterOrphan.showStandby
    else s
  else if !s.coreLive then s
  else
    let a := s.core
    let avail := s.on F.RD_STAT_SB_AVAIL
    let t := ((s.triggerEvent cause a).fenceCore a).abortRime
    let t := { t with mb.owed := t.mb.owed ++ [Allowance.switch], rd.trigAt := s.now, rd.hostSwitch := if cause = 6 then some a else none }
    if avail then (t.startTarget (1 - a)).showStandby
    else (t.when (t.get (F.TK_STAT_STATE (1 - a)) == 6) (·.put (F.TK_STAT_STATE (1 - a)) 0)).enterOrphan.showStandby

/-- One replayed schedule point of the catch-up, with e2 = 0 (R324). -/
def State.replay (s : State) (k : Nat) : State :=
  let y := s.getI (F.TK_MODEL_Y_Y k) + roundDiv (s.getI (F.TK_MODEL_DD_DD k)) 16
  let left := s.getI (F.TK_SLEW_LEFT_LEFT k)
  let smax : Int := max 1 (min 10000000 (s.get F.TK_SLEW_MAX_SLEW_MAX)) * 2 ^ 32
  let slew := clampI (-smax) smax (left * 2 ^ 20)
  (s.putI (F.TK_MODEL_Y_Y k) y).putLeft k (left - roundDiv slew (2 ^ 20))

/-- Replay n schedule points. -/
def State.replays (s : State) (k : Nat) : Nat → State
  | 0 => s
  | n + 1 => (s.replay k).replays k n

/-- A unit reset is recorded (R325, R364, R373). -/
def State.unitDone (s : State) (unit status : Nat) : State :=
  ((s.put F.SY_RST_STAT_LAST_UNIT unit).put F.SY_RST_STAT_LAST_STATUS status).event
    F.PM_EVT_URESET 0x0121 0 (unit + status * 256)

/-- Registers of core k alone that U reaches, but the state and the ACTIVE bit that say what the core is (R358). -/
def State.resetCoreFields (s : State) (k : Nat) : State :=
  let kept := [(F.TK_STAT_STATE k).key, (F.TK_STAT_ACTIVE k).key]
  let base := 0x050100 + k * 0x8000
  { s with cells := s.cells.filter (fun c =>
      match fieldOfKey c.1 with
      | none => true
      | some f => decide (f.off < base) || decide (base + 0x7F00 ≤ f.off) || f.keptThrough .U || kept.contains c.1) }

/-- The unit reset of core k: its registers go by letter U, and its self-test begins (R325, R358). -/
def State.resetCore (s : State) (k : Nat) : State := { s.resetCoreFields k with rd.testing := assign none k (some s.now) s.rd.testing }

/-- The resumed core takes a change of the active slot that the checkpoint does not hold, with a fresh e0 (R105); else what the checkpoint says of
the slot it follows for frequency only goes on (R120). -/
def State.resumeSlot (s : State) (b : List Byte) : State :=
  let timeRef := match s.activeSlot with | none => false | some n => s.isTimeRef n
  if slotOf b = s.activeSlot then { s with tk.withheld := timeRef && at8 b 8 / 2 ^ 23 % 2 == 1 }
  else { s with tk.anchor := none, tk.withheld := false, tk.takeE0 := timeRef }

/-- Step 5 of R323: the target resumes as the active core after its catch-up. A core whose checkpoint was not of HOLDOVER enters it where no
slot is active (R114, R115). -/
def State.resume (s : State) (slot : Nat) (b : List Byte) : State :=
  let k := s.target
  let startup := s.get (F.TK_STAT_STARTUP s.core)
  let t := (((s.loadLearned b).loadModel k slot b).resumeSlot b).replays k (s.tk.points - s.tk.ckptPoint)
  let t := (((t.put (F.TK_STAT_ACTIVE k) 1).put F.RD_STAT_ACTIVE_CORE k).put F.TK_TS_STAT_HELD 0).put F.RD_STAT_SW 0
  let t := t.put (F.TK_STAT_STARTUP k) startup
  let gap := (s.now - s.rd.trigAt) / tuUs
  let t := ((t.putSat F.RD_STAT_LAST_GAP gap).count F.RD_STAT_SW_COUNT 1).event F.RD_EVT_DONE 0x0A02 k (gap % 2 ^ 16)
  let st := t.startedState
  let t := (t.put (F.TK_STAT_STATE k) st).when (st == 3 && at8 b 8 / 2 ^ 17 % 8 != 3) (fun t =>
    (t.put (F.TK_HOLD_SEC_SEC k) t.sec).tkEvent k F.TK_EVT_HOLD 0x0404 0)
  let t := { t with tk.nextSlot := 1 - slot, tk.u := 0, tk.measAt := none }
  let t := t.when s.rd.exiting (fun t =>
    { (t.put F.RD_STAT_ORPHAN 0).event F.RD_EVT_ORPHAN_END 0x0A04 k 0 with
      rd.exiting := false, mb.orphanAt := none, mb.orphanEnd := true, mb.owed := t.mb.owed ++ [.switch] })
  let t := match s.rd.hostSwitch with
    | some a => { (t.resetCore a).unitDone (a + 1) 0 with rd.hostSwitch := none }
    | none => t
  t.showStandby

/-- SWITCHOVER_RESUME (R323 steps 3 to 5, R324, R327): without a valid checkpoint the target cannot start. -/
def execSwitchoverResume (s : State) : Host.Outcome State Fault Refusal :=
  running s fun s =>
    if !s.on F.RD_STAT_SW then s
    else match s.newestCheckpoint with
      | some (slot, b) => s.resume slot b
      | none => (s.put (F.TK_STAT_STATE s.target) 5).enterOrphan.showStandby

/-- SELF_CHECK_MISMATCH (R321 cause 1). -/
def execSelfCheckMismatch (s : State) : Host.Outcome State Fault Refusal := running s (·.trigger 1)

/-- CONTROL_FLOW_WATCHDOG (R321 cause 2). -/
def execControlFlowWatchdog (s : State) : Host.Outcome State Fault Refusal := running s (·.trigger 2)

/-- The core that is in STANDBY, if one is (R322, R328). -/
def State.standbyCore (s : State) : Option Nat :=
  (List.range 2).find? (fun k => s.get (F.TK_STAT_STATE k) == 0 && !s.on (F.TK_STAT_ACTIVE k) && (s.rd.testing.getD k none).isNone)

/-- The sequence that ends orphan hold begins with core k (R328). -/
def State.endOrphan (s : State) (k : Nat) : State := { s.startTarget k with rd.exiting := true, rd.trigAt := s.now }.showStandby

/-- A write of RD_SWITCH (R322). -/
def State.writeRdSwitch (s : State) (v : Word) : State :=
  if F.RD_SWITCH_GO.ofWord v = 0 then s
  else
    let orphan := s.on F.RD_STAT_ORPHAN
    let lacking := if orphan then s.standbyCore.isNone else !s.on F.RD_STAT_SB_AVAIL
    let reason := if F.RD_SWITCH_CONFIRM.ofWord v ≠ 0x3C then 3 else if s.on F.RD_STAT_SW then 2 else if lacking then 1 else 0
    if reason ≠ 0 then s.event F.RD_EVT_SW_REJ 0x0A07 0 reason
    else match orphan, s.standbyCore with
      | true, some k => s.endOrphan k
      | _, _ => s.trigger 6

/-- RD_SWITCH_WRITE (R322). -/
def execRdSwitchWrite (path : Path) (v : Word) (s : State) : Host.Outcome State Fault Refusal :=
  running s fun s => s.hostWrite path F.RD_SWITCH_GO.off (·.writeRdSwitch v)

/-- The self-test of core k has run its 20 ms (R325). -/
def State.tested (s : State) (k : Nat) : Bool :=
  match s.rd.testing.getD k none with
  | some t => decide (t + 20 * tuMs ≤ s.now)
  | none => false

/-- CORE_SELFTEST_COMPLETE (R325, R328): the self-test of core k ends. -/
def execCoreSelftestComplete (k : Fin 2) (pass : Bool) (s : State) : Host.Outcome State Fault Refusal :=
  running s fun s =>
    if !s.tested k then s
    else
      let t := { s with rd.testing := assign none k none s.rd.testing }
      if !pass then t.event F.RD_EVT_SELFTEST_FAIL 0x0A06 k 1
      else if t.newestCheckpoint.isNone then t.event F.RD_EVT_SELFTEST_FAIL 0x0A06 k 2
      else
        let t := ((t.put (F.TK_STAT_STATE k) 0).event F.RD_EVT_SELFTEST_OK 0x0A05 k 0).showStandby
        t.when (t.on F.RD_STAT_ORPHAN && !t.on F.RD_STAT_SW && t.on F.RD_CFG_ORPHAN_AUTO) (·.endOrphan k)

end Sys2Proof.Machine
end

