-- ==== Sys2Proof/Machine/Glacier.lean ====
section
/-! DEFINITION. Glacier memory: the per-byte code, poison, scrubbing, row repair and maintenance fuses (R303 to R318). -/
namespace Sys2Proof.Machine

/-! ## The per-byte code -/

/-- Bit i of a number. -/
def bitOf (v i : Nat) : Nat := v / 2 ^ i % 2

/-- Check bits c0 to c3 of a data byte (R306). -/
def checkBits (d : Nat) : Nat :=
  let b := bitOf d
  (b 0 ^^^ b 1 ^^^ b 3 ^^^ b 4 ^^^ b 6) + 2 * (b 0 ^^^ b 2 ^^^ b 3 ^^^ b 5 ^^^ b 6) + 4 * (b 1 ^^^ b 2 ^^^ b 3 ^^^ b 7) +
    8 * (b 4 ^^^ b 5 ^^^ b 6 ^^^ b 7)

/-- Parity of the n lowest bits of a number. -/
def parity (v : Nat) : Nat → Nat
  | 0 => 0
  | n + 1 => bitOf v n ^^^ parity v n

/-- The 13-bit codeword of a data byte (R306). -/
def encode13 (d : Nat) : Nat :=
  let w := d % 256 + 256 * checkBits d
  w + 4096 * parity w 12

/-- The poison codeword (R307). -/
def poison13 : Nat := 0x0300

/-- What a stored codeword decodes to (R306): its data, the data after a single error is corrected, or neither. -/
inductive Decoded where
  | clean (d : Nat)
  | fixed (d : Nat)
  | bad
  deriving DecidableEq, Repr

/-- The data bit that a syndrome names in Hamming position order, if it names one: positions 1, 2, 4 and 8 are c0 to c3 and 3, 5, 6, 7, 9 to 12
are d0 to d7 (R306). -/
def syndromeBit : Nat → Option Nat
  | 3 => some 0 | 5 => some 1 | 6 => some 2 | 7 => some 3 | 9 => some 4 | 10 => some 5 | 11 => some 6 | 12 => some 7
  | _ => none

/-- Decode a stored codeword (R306). With odd parity a syndrome of 13 to 15 names no bit: the data is then a free value (log entry 4). -/
def decode13 (cw : Nat) : Decoded :=
  let d := cw % 256
  let syn := checkBits d ^^^ (cw / 256 % 16)
  if parity cw 13 = 0 then (if syn = 0 then .clean d else .bad)
  else if 12 < syn then .fixed (Config.wildByte cw % 256)
  else match syndromeBit syn with
    | some i => .fixed (d ^^^ 2 ^ i)
    | none => .fixed d

/-! ## Reads and writes -/

/-- Glacier memory serves accesses (R317, R319). -/
def State.glReady (s : State) : Bool := s.get F.GL_STAT_STATE == 1

/-- The stored codeword of a byte. -/
def State.glCode (s : State) (a : Nat) : Nat := readCell a 0 s.gl.cells

/-- Store a codeword; a corrected write-back that waits for the byte is dropped (R307, R318). -/
def State.glStore (s : State) (a cw : Nat) : State :=
  { s with gl.cells := writeCell a (cw % 2 ^ 13) 0 s.gl.cells, gl.back := s.gl.back.filter (fun b => b.1 != a) }

/-- Write data bytes from address a on; each stores its own codeword (R306). -/
def State.glWrite (s : State) (a : Nat) (l : List Byte) : State :=
  (l.foldl (fun (p : State × Nat) b => (p.1.glStore p.2 (encode13 b.toNat), p.2 + 1)) (s, a)).1

/-- Row number of an address: bank in [7:0], row above it (R303, R313). -/
def rowOf (a : Nat) : Nat := a / 2 ^ 8 % 2 ^ 8 + a / 2 ^ 18 % 2 ^ 15 * 2 ^ 8

/-- 24 h in units of State.now. -/
def tuDay : Nat := 86400 * tuSec

/-- A byte with a single error was corrected on a read (R307): it counts, and its codeword waits to be written back. -/
def State.glCorrected (s : State) (a d : Nat) : State :=
  let t := s.count F.EC_GL_CNT_CORR 1
  { t with
    gl.back := t.gl.back.filter (fun b => b.1 != a) ++ [(a, encode13 d)]
    gl.errs := t.gl.errs.filter (fun e => e.2 ≤ s.now && s.now < e.2 + tuDay) ++ [(rowOf a, s.now)]
    gl.spared := t.gl.spared.filter (· != rowOf a) }

/-- GL_POISON_WORD (R307): the word at w gets the poison codeword in its eight bytes; a word that holds it throughout is poisoned already. -/
def State.glPoison (s : State) (w : Nat) : State :=
  if (List.range 8).all (fun i => s.glCode (w + i) == poison13) then s
  else
    let t := s.forAll (List.range 8) (fun t i => t.glStore (w + i) poison13)
    let t := (t.count F.EC_GL_CNT_UNCORR 1).put F.EC_GL_ERRADDR_ADDR w
    { t.event F.EC_EVT_POISON 0x0802 0 w with
      gl.due := if rowOf w ∈ t.gl.due then t.gl.due else t.gl.due ++ [rowOf w]
      gl.spared := t.gl.spared.filter (· != rowOf w) }

/-- Read the 64-bit word at w (R306 to R308): its eight bytes, or none where it is poisoned. -/
def State.glReadWord (s : State) (w : Nat) : State × Option (List Byte) :=
  let ds := (List.range 8).map (fun i => decode13 (s.glCode (w + i)))
  let t := s.forAll (List.range 8) (fun t i => match ds.getD i .bad with | .fixed d => t.glCorrected (w + i) d | _ => t)
  if ds.any (· == .bad) then (t.glPoison w, none)
  else (t, some (ds.map (fun d => match d with | .clean d => BitVec.ofNat 8 d | .fixed d => BitVec.ofNat 8 d | .bad => 0)))

/-- Read n words from address w on: the bytes, or none where a word is poisoned. -/
def State.glReadWords (s : State) (w : Nat) : Nat → State × Option (List Byte)
  | 0 => (s, some [])
  | n + 1 =>
    let r := s.glReadWord w
    let q := r.1.glReadWords (w + 8) n
    (q.1, match r.2, q.2 with | some a, some b => some (a ++ b) | _, _ => none)

/-- Read n bytes from address a on: the bytes, or none where a word they lie in is poisoned. -/
def State.glRead (s : State) (a n : Nat) : State × Option (List Byte) :=
  let w := a / 8 * 8
  let r := s.glReadWords w ((a + n + 7) / 8 - a / 8)
  (r.1, r.2.map (fun l => (l.drop (a - w)).take n))

/-- A table as it is copied to Glacier memory: its words and their CRC-32C (log entry 46). -/
def copyBytes (words : List Nat) : List Byte :=
  let l := words.flatMap (bytesLE 8)
  l ++ bytesLE 8 (crc32c l)

/-- Write a copy of a table, where Glacier memory serves accesses. -/
def State.writeCopy (s : State) (a : Nat) (words : List Nat) : State := s.when s.glReady (·.glWrite a (copyBytes words))

/-- The n words of a copy: none where one is poisoned or the CRC fails, which makes the copy invalid (R308). -/
def State.readCopy (s : State) (a n : Nat) : State × Option (List Nat) :=
  let q := s.glRead a (8 * n + 8)
  let good (l : List Byte) : Bool := ofBytesLE (l.drop (8 * n)) == crc32c (l.take (8 * n))
  (q.1, (q.2.filter good).map (fun l => (List.range n).map (fun j => ofBytesLE ((l.drop (8 * j)).take 8))))

/-- Places of the copies of the leap table (R273) and of the band tables (R176), R304. -/
def leapCopy : Nat := 0x1FD100000
def bandCopy : Nat := 0x1FD108000

/-- Upsets of stored bits: (byte address, bits that flip in its codeword). -/
def State.glUpset (s : State) (l : List (Nat × Nat)) : State :=
  s.forAll l (fun t u =>
    let a := u.1 % 2 ^ 33
    { t with gl.cells := writeCell a ((t.glCode a ^^^ u.2) % 2 ^ 13) 0 t.gl.cells })

/-- GL_CORRECTED_WRITEBACK (R307): the oldest waiting correction is written back. -/
def execGlCorrectedWriteback (s : State) : Host.Outcome State Fault Refusal :=
  running s fun s =>
    match s.gl.back with
    | [] => s
    | b :: _ => s.when s.glReady (·.glStore b.1 b.2)

/-! ## Bank locks (R316) -/

/-- Bank identifier of an address (R303). -/
def bankOf (a : Nat) : Nat := a / 2 ^ 8 % 2 ^ 8

/-- The lock of a bank, where it is held. -/
def State.lockOf (s : State) (bank : Nat) : Option BankLock := s.gl.locks.find? (fun l => l.bank == bank)

/-- Take the lock of a bank. -/
def State.takeLock (s : State) (bank : Nat) (h : LockHolder) : State := { s with gl.locks := s.gl.locks ++ [⟨bank, h, s.now⟩] }

/-- Release the lock of a bank. -/
def State.freeLock (s : State) (bank : Nat) : State := { s with gl.locks := s.gl.locks.filter (fun l => l.bank != bank) }

/-- Hold limit of a lock, in units of State.now (R316, R319). -/
def State.lockLimit (s : State) : LockHolder → Nat
  | .cell .. => max 1 (s.get F.GL_LOCK_MAX_MAX) * (tuUs / 100)
  | .repair .. => max 25 (s.get F.GL_LOCK_MAX_REPAIR) * tuUs

/-- A lock has been held longer than its limit. -/
def State.lockOverdue (s : State) (l : BankLock) : Bool := decide (l.since + s.lockLimit l.holder < s.now)

/-! ## Scrubbing -/

/-- The scrub rate in kB/s (R319). -/
def State.scrubRate (s : State) : Nat := max 100 (min 4000000 (s.get F.GL_SCRUB_RATE_RATE))

/-- Time that 1.1 times n bytes take at the scrub rate (R310). -/
def State.scrubTime (s : State) (n : Nat) : Nat := n * 11 * tuSec / (s.scrubRate * 10000)

/-- GL_SCRUB_WORD (R310, R318): the next word of the pass is read, once no lock holds its bank; upsets have struck stored bits since the last
word. -/
def execGlScrubWord (upsets : List (Nat × Nat)) (s : State) : Host.Outcome State Fault Refusal :=
  running s fun s =>
    let t := s.glUpset upsets
    if !s.glReady || !s.on F.GL_SCRUB_RATE_EN || s.gl.passDone || (s.lockOf (bankOf (s.get F.EC_SCRUB_STAT_POS))).isSome then t
    else
      let w := t.get F.EC_SCRUB_STAT_POS / 8 * 8
      let t := (t.glReadWord w).1.put F.EC_SCRUB_STAT_POS (w + 8)
      { t with gl.passDone := w + 8 == 2 ^ 33 }

/-- SCRUB_PASS_END (R310): the pass is complete and the next one starts. -/
def execScrubPassEnd (s : State) : Host.Outcome State Fault Refusal :=
  running s fun s =>
    if !s.gl.passDone then s
    else
      let t := (s.put F.EC_SCRUB_STAT_PASSES (s.get F.EC_SCRUB_STAT_PASSES + 1)).raise 0x0805 0x12 0 0
      { t.put F.EC_SCRUB_STAT_POS 0 with gl.passDone := false, gl.deadline := some (s.now + s.scrubTime (2 ^ 33)) }

/-- SCRUB_PASS_DEADLINE (R310): an unfinished pass has reached its deadline. -/
def execScrubPassDeadline (s : State) : Host.Outcome State Fault Refusal :=
  running s fun s =>
    match s.gl.deadline with
    | none => s
    | some d =>
      if s.now < d || s.gl.passDone then s
      else { (s.count F.EC_SCRUB_STAT_MISS 1).event F.EC_EVT_SCRUB_MISS 0x0804 0 0 with gl.deadline := none }

/-- A write of GL_SCRUB_RATE: the deadline restarts over the bytes that remain (R310). -/
def State.writeScrubRate (s : State) (v : Word) : State :=
  let t := (s.put F.GL_SCRUB_RATE_RATE (F.GL_SCRUB_RATE_RATE.ofWord v)).put F.GL_SCRUB_RATE_EN (F.GL_SCRUB_RATE_EN.ofWord v)
  { t with gl.deadline := some (t.now + t.scrubTime (2 ^ 33 - t.get F.EC_SCRUB_STAT_POS)) }

/-- GL_SCRUB_RATE_WRITE (R310). -/
def execGlScrubRateWrite (path : Path) (v : Word) (s : State) : Host.Outcome State Fault Refusal :=
  running s fun s => s.hostWrite path F.GL_SCRUB_RATE_RATE.off (·.writeScrubRate v)

/-- Glacier memory is trained or leaves self-refresh: READY, and the pass goes on (R317, R359, R360). -/
def State.glWake (s : State) : State :=
  let t := (s.put F.GL_STAT_STATE 1).put F.GL_STAT_STACK_OK 3
  let left := match s.gl.pausedLeft with | some d => d | none => t.scrubTime (2 ^ 33 - t.get F.EC_SCRUB_STAT_POS)
  { t with gl.deadline := some (t.now + left), gl.pausedLeft := none }

/-! ## Repair -/

/-- The entries of the soft repair table, slots 0 to 255 (R314, R320). -/
def State.softTable (s : State) : List Nat := (List.range 256).map (fun j => s.get (F.EC_SOFT_ENTRY j))

/-- The VALID bit of a repair entry (R314). -/
def repairValid (e : Nat) : Bool := bitOf e 31 == 1

/-- Spares of a bank that repairs have taken. -/
def State.sparesUsed (s : State) (bank : Nat) : List Nat :=
  ((s.softTable ++ s.gl.fuse).filter (fun e => repairValid e && bits e 7 0 == bank)).map (fun e => bits e 27 23)

/-- The lowest free spare of a bank (R312, R313). -/
def State.freeSpare (s : State) (bank : Nat) : Option Nat :=
  (List.range 32).find? (fun k => !(s.sparesUsed bank).contains k && !s.gl.badSpares.contains (bank, k))

/-- Free spares of the bank that has fewest, with u the spares taken (R320). -/
def State.minFree (s : State) : Nat :=
  let u := ((s.softTable ++ s.gl.fuse).filter repairValid).map (fun e => (bits e 7 0, bits e 27 23))
  let u := u ++ s.gl.badSpares.filter (fun b => !u.contains b)
  (u.map (fun e => 32 - (u.filter (fun x => x.1 == e.1)).length)).foldl min 32

/-- The soft table and its trailer as bytes 0x6800 to 0x6C0F of the Firn store hold them (R314). -/
def State.softBytes (s : State) (writes : Nat) : List Byte :=
  let body := s.softTable.flatMap (bytesLE 4) ++ bytesLE 4 (s.softTable.filter repairValid).length ++ bytesLE 4 writes
  body ++ bytesLE 4 (crc32c body) ++ [0, 0, 0, 0]

/-- The soft table changed: its counts, its Firn copy and its flash mirror follow (R314). -/
def State.storeSoft (s : State) : State :=
  let t := (s.put F.EC_REPAIR_STAT_SOFT (s.softTable.filter repairValid).length).put F.EC_REPAIR_STAT_MIN_FREE s.minFree
  let l := t.softBytes (ofBytesLE (readBytes t.firn 0x6C04 4) + 1)
  { t with firn := writeBytes t.firn 0x6800 l, host.flash := if t.get F.BT_STAT_SRC = 0 then writeBytes t.host.flash 0x20000 l else t.host.flash }

/-- A copy of the soft table passes its CRC (R314). -/
def softGood (l : List Byte) : Bool := l.length == 0x410 && ofBytesLE ((l.drop 0x408).take 4) == crc32c (l.take 0x408)

/-- The soft table of a start: the Firn copy, else the flash copy, else empty with event 0x080C (R314). -/
def State.replaySoft (s : State) : State :=
  let firn := readBytes s.firn 0x6800 0x410
  let mirror := readBytes s.host.flash 0x20000 0x410
  let good := if softGood firn then some firn else if softGood mirror then some mirror else none
  let l := good.getD []
  let t := s.forAll (List.range 256) (fun t j => t.put (F.EC_SOFT_ENTRY j) (ofBytesLE ((l.drop (4 * j)).take 4)))
  let t := (t.put F.EC_REPAIR_STAT_SOFT (t.softTable.filter repairValid).length).put F.EC_REPAIR_STAT_MIN_FREE t.minFree
  t.when good.isNone (·.event F.EC_EVT_SOFT_LOST 0x080C 0 0)

/-- Corrected errors of a row within the last 24 h (R313). -/
def State.rowErrors (s : State) (row : Nat) : Nat :=
  (s.gl.errs.filter (fun e => e.1 == row && e.2 ≤ s.now && s.now < e.2 + tuDay)).length

/-- Copy a row to a spare: single errors are corrected, poison stays (R313). -/
def State.copyRow (s : State) (row : Nat) : State :=
  s.forAll (s.gl.cells.filter (fun c => rowOf c.1 == row)) (fun t c =>
    match decode13 c.2 with | .fixed d => t.glStore c.1 (encode13 d) | _ => t)

/-- Number of the soft entry that a repair fills next. -/
def State.freeSoft (s : State) : Option Nat := (List.range 256).find? (fun j => !repairValid (s.get (F.EC_SOFT_ENTRY j)))

/-- Repair a row into a spare with a source of R314, or event 0x0806 where no spare or no soft entry is free (R313). -/
def State.repairRow (s : State) (bank row source : Nat) : State :=
  let id := bank + row * 2 ^ 8
  match s.freeSpare bank, s.freeSoft with
  | some spare, some j =>
    let t := (s.copyRow id).put (F.EC_SOFT_ENTRY j) (bank + row * 2 ^ 8 + spare * 2 ^ 23 + source * 2 ^ 28 + 2 ^ 31)
    let t := { t with gl.errs := t.gl.errs.filter (fun e => e.1 != id), gl.due := t.gl.due.filter (· != id) }
    t.storeSoft.event F.EC_EVT_REPAIR 0x0803 0 (bank + row * 2 ^ 8 + spare * 2 ^ 24)
  | _, _ => { s.event F.EC_EVT_NO_SPARE 0x0806 0 0 with gl.spared := if s.gl.spared.contains id then s.gl.spared else id :: s.gl.spared }

/-- A row qualifies for repair, with the source of R314: 1 poison, 0 corrected errors (R313). A row whose repair was revoked or found
no spare waits for its next error (R313, R316). -/
def State.repairSource (s : State) (id : Nat) : Option Nat :=
  if !s.glReady || !s.on F.EC_REPAIR_CFG_AUTO || s.gl.spared.contains id then none
  else if s.gl.due.contains id then some 1
  else if max 1 (s.get F.EC_REPAIR_CFG_THRESH) < s.rowErrors id then some 0
  else none

/-- GL_ROW_REPAIR (R313, R316): the repair of a row that qualifies takes its bank's lock; the next command for the row ends it, which copies the
row and releases the lock (two commands: DESIGN CHOICE, log entry 55). A bank that another holds is waited for. Without a spare or a soft entry no
lock is taken. -/
def execGlRowRepair (bank : BitVec 8) (row : BitVec 15) (s : State) : Host.Outcome State Fault Refusal :=
  running s fun s =>
    let id := bank.toNat + row.toNat * 2 ^ 8
    match s.lockOf bank.toNat with
    | some l =>
      match l.holder with
      | .repair r source => if r = row.toNat then (s.freeLock bank.toNat).repairRow bank.toNat r source else s
      | .cell .. => s
    | none =>
      match s.repairSource id with
      | none => s
      | some source =>
        if (s.freeSpare bank.toNat).isSome && s.freeSoft.isSome then s.takeLock bank.toNat (.repair row.toNat source)
        else s.repairRow bank.toNat row.toNat source

/-- Repairs in progress complete before self-refresh (R318); table cells lose their locks with the fabric. -/
def State.endRepairs (s : State) : State :=
  let t := { s with gl.locks := [] }
  t.forAll s.gl.locks (fun t l => match l.holder with | .repair row source => t.repairRow l.bank row source | .cell .. => t)

/-- Glacier memory enters self-refresh once its repairs are complete: the pass and its deadline pause (R317, R318). -/
def State.glSleep (s : State) : State :=
  let t := s.endRepairs
  { t.put F.GL_STAT_STATE 2 with gl.pausedLeft := t.gl.deadline.map (fun d => d - t.now), gl.deadline := none }

/-! ## Maintenance fuses -/

/-- Fuse programming ends with the count of entries burned (R315). -/
def State.fuseEnd (s : State) : State :=
  { (s.put F.EC_REPAIR_STAT_RUN 0).event F.EC_EVT_FUSE_DONE 0x0807 0 s.gl.burned with gl.burning := [] }

/-- A write of EC_FUSE_REQ (R315): accepted in PROVISION and FIELD while no programming runs. -/
def State.writeFuseReq (s : State) (v : Word) : State :=
  let lc := s.get F.KV_STAT_LC
  if F.EC_FUSE_REQ_CONFIRM.ofWord v ≠ 0x5A ∨ F.EC_FUSE_REQ_GO.ofWord v = 0 ∨ (lc ≠ 1 ∧ lc ≠ 2) ∨ s.on F.EC_REPAIR_STAT_RUN then s
  else
    let l := (List.range 256).filter (fun j => repairValid (s.get (F.EC_SOFT_ENTRY j)))
    let t := { s.put F.EC_REPAIR_STAT_RUN 1 with gl.burning := l, gl.burned := 0 }
    t.when (l.isEmpty || 1024 ≤ t.gl.fuse.length) (·.fuseEnd)

/-- FUSE_PROGRAM_REQUEST (R315). -/
def execFuseProgramRequest (path : Path) (v : Word) (s : State) : Host.Outcome State Fault Refusal :=
  running s fun s => s.hostWrite path F.EC_FUSE_REQ_GO.off (·.writeFuseReq v)

/-- FUSE_BURN_COMPLETE (R315): the burn of the next soft entry ends and is verified. -/
def execFuseBurnComplete (verified : Bool) (s : State) : Host.Outcome State Fault Refusal :=
  running s fun s =>
    match s.gl.burning with
    | [] => s
    | j :: rest =>
      let t := { s with gl.burning := rest }
      let t :=
        if verified then
          let fuse := t.gl.fuse ++ [t.get (F.EC_SOFT_ENTRY j)]
          let t := { t with gl.fuse := fuse, gl.burned := t.gl.burned + 1 }
          ((t.put F.EC_REPAIR_STAT_FUSE fuse.length).put (F.EC_SOFT_ENTRY j) 0).storeSoft
        else t.event F.EC_EVT_FUSE_FAIL 0x0808 0 0
      t.when (rest.isEmpty || 1024 ≤ t.gl.fuse.length) (·.fuseEnd)

end Sys2Proof.Machine
end

