-- ==== Sys2Proof/Machine/Journal.lean ====
section
/-! DEFINITION. The Icecore journal, the performance counters and the sample tick (R386 to R402). -/
namespace Sys2Proof.Machine

/-! ## Journal entries -/

/-- An entry of 32 bytes at time t with number e (R392). -/
def entryBytes (t e : Nat) (j : JEvent) : List Byte :=
  bytesLE 8 (secOf t) ++ bytesLE 8 (nsfOf t) ++ bytesLE 2 j.code ++ [BitVec.ofNat 8 j.src, BitVec.ofNat 8 j.inst] ++ bytesLE 4 e ++ bytesLE 8 j.arg

/-- Base of the journal partition of the running image (R236, R393). -/
def State.journalBase (s : State) : Option Nat :=
  match s.df.image with
  | some i => (i.parts.find? (fun p => p.kind == 1)).map PartRec.base
  | none => none

/-- Store entry e in the ring and the Firn tail (R393). -/
def State.storeEntry (s : State) (e : Nat) (l : List Byte) : State :=
  let t := { s with firn := writeBytes s.firn (0x2000 + e % 256 * 32) l }
  match t.journalBase with
  | some b => t.when t.glReady (·.glWrite (b + e % 2 ^ 25 * 32) l)
  | none => t

/-- Write one entry: it takes the next number (R392, R393). -/
def State.writeEntry (s : State) (j : JEvent) : State :=
  let e := s.get F.JL_NEXT_E
  let l := entryBytes s.now e j
  let t := { s.storeEntry e l with jl.unsealed := s.jl.unsealed ++ l }
  (t.put F.JL_NEXT_E (e + 1)).put F.JL_OLDEST_E (max (t.get F.JL_OLDEST_E) (e + 1 - 2 ^ 25))

/-- An event that the journal itself raises and writes at once (R401). -/
def State.writeOwn (s : State) (code arg : Nat) : State := (s.countEvent code).writeEntry ⟨code, 0x15, 0, arg⟩

/-- JOURNAL_EVENT_RAISE (R394): an event raised by a block reaches the queue. -/
def execJournalEventRaise (code : BitVec 16) (src inst : BitVec 8) (arg : Word) (s : State) : Host.Outcome State Fault Refusal :=
  running s fun s => s.raise code.toNat src.toNat inst.toNat arg.toNat

/-- The 40 sample ticks between two entries, 256 ns, in State.now units (R394). -/
def entrySpan : Nat := 40 * (32 * 2 ^ 32)

/-- The queue may give its next entry: 40 sample ticks have passed since the last, and the journal is not in its unit reset (R373, R394). -/
def State.entryDue (s : State) : Bool :=
  (!s.on F.SY_RST_STAT_UNIT_BUSY || s.pm.unit != 0x0B) &&
  (match s.jl.takenAt with | none => true | some t => decide (t + entrySpan ≤ s.now))

/-- JOURNAL_ENTRY_WRITE (R394): event 0x0B22 when entries were dropped, else the oldest waiting entry, one every 40 sample ticks. -/
def execJournalEntryWrite (s : State) : Host.Outcome State Fault Refusal :=
  running s fun s => s.when s.entryDue fun s =>
    if 0 < s.jl.dropPend then { s.writeOwn 0x0B22 (min s.jl.dropPend 0xFFFFFFFF) with jl.dropPend := 0, jl.takenAt := some s.now }
    else match s.jl.queue with
      | [] => s
      | j :: rest => { s with jl.queue := rest, jl.takenAt := some s.now }.writeEntry j

/-! ## Hash chain -/

/-- The 32 bytes of JL_SEAL_LAST. -/
def State.lastSeal (s : State) : List Byte := (List.range 4).flatMap (fun w => bytesLE 8 (s.get (F.JL_SEAL_LAST_SEAL w)))

/-- Set JL_SEAL_LAST. -/
def State.putSeal (s : State) (l : List Byte) : State :=
  s.forAll (List.range 4) (fun s w => s.put (F.JL_SEAL_LAST_SEAL w) (ofBytesLE ((l.drop (8 * w)).take 8)))

/-- Address of the seal of block k (R395). -/
def sealAddr (k : Nat) : Nat := 0x1FE000000 + k % 2 ^ 19 * 32

/-- The chain record of block k with seal l (R395). -/
def State.storeChain (s : State) (k : Nat) (l : List Byte) : State :=
  let r := bytesLE 8 k ++ l ++ bytesLE 8 (s.get F.JL_NEXT_E) ++ List.replicate 8 0
  { s with firn := writeBytes s.firn 0x6C80 (r ++ bytesLE 4 (crc32c r)) }

/-- Seal the next block when its 64 entries are written (R395). -/
def State.sealBlock (s : State) : State :=
  if s.jl.unsealed.length < 2048 then s
  else
    let k := s.jl.blocks
    let l := sha256 (s.lastSeal ++ bytesLE 8 k ++ s.jl.unsealed.take 2048)
    let t := (s.putSeal l).put F.JL_SEALED_K k
    let t := t.when t.glReady (·.glWrite (sealAddr k) l)
    { t.storeChain k l with jl.unsealed := s.jl.unsealed.drop 2048, jl.blocks := k + 1 }

/-- JOURNAL_BLOCK_SEAL (R395). -/
def execJournalBlockSeal (s : State) : Host.Outcome State Fault Refusal := running s (·.sealBlock)

/-- Write n pad entries. -/
def State.pads (s : State) : Nat → State
  | 0 => s
  | n + 1 => (s.writeOwn 0x0B24 0).pads n

/-- JOURNAL_HOUR_PAD (R395): blocks already full are sealed, an open block is padded and sealed. -/
def State.hourPad (s : State) : State :=
  let n := s.jl.unsealed.length / 32
  let t := s.pads ((64 - n % 64) % 64)
  t.forAll (List.range ((n + 63) / 64)) (fun t _ => t.sealBlock)

/-- A TAI hour begins in this second, and the journal has not been padded for it (R395). -/
def State.padDue (s : State) : Bool := s.sec % 3600 == 0 && s.jl.padHour != some (s.sec / 3600)

/-- JOURNAL_HOUR_PAD (R395): once, in the first second of a TAI hour. -/
def execJournalHourPad (s : State) : Host.Outcome State Fault Refusal :=
  running s fun s => s.when s.padDue fun s => { s with jl.padHour := some (s.sec / 3600) }.hourPad

/-- The seal g that begins a chain (R396). -/
def State.genesis (s : State) : List Byte :=
  sha256 (ascii "JT9640 journal" ++ bytesLE 8 (s.get F.SY_DEVID_LO_ID) ++ bytesLE 8 (s.get F.SY_DEVID_HI_ID) ++ bytesLE 8 s.sec)

/-- JOURNAL_GENESIS (R396): a new chain begins with event 0x0B21 as entry 0. -/
def State.newChain (s : State) : State :=
  let t := (((s.putSeal s.genesis).put F.JL_NEXT_E 0).put F.JL_OLDEST_E 0).put F.JL_SEALED_K (2 ^ 64 - 1)
  let t := { t.put F.JL_STAT_GENESIS 1 with jl := { firstSeal := s.genesis, queue := s.jl.queue, dropPend := s.jl.dropPend } }
  (t.countEvent 0x0B21).writeEntry ⟨0x0B21, 0x15, 0, 0⟩

/-- The chain record of the Firn store, if its CRC holds (R395, R396). -/
def State.chainRecord (s : State) : Option (Nat × List Byte × Nat) :=
  let r := readBytes s.firn 0x6C80 0x38
  if ofBytesLE (readBytes s.firn 0x6CB8 4) = crc32c r then
    some (ofBytesLE (r.take 8), (r.drop 8).take 32, ofBytesLE ((r.drop 40).take 8))
  else none

/-- JOURNAL_CHAIN_RESUME (R397): after main power loss the entries after block k are copied from the Firn tail into the ring, and event 0x0B20
is written. -/
def State.resumeChain (s : State) (k : Nat) (l : List Byte) : State :=
  let first := 64 * (k + 1)
  let n := min 256 (s.get F.JL_NEXT_E - first)
  let entry (i : Nat) := readBytes s.firn (0x2000 + (first + i) % 256 * 32) 32
  let t := s.forAll (List.range n) (fun t i => t.storeEntry (first + i) (entry i))
  let t := ((t.putSeal l).put F.JL_SEALED_K k).put F.JL_OLDEST_E first
  let t := { t.put F.JL_STAT_GENESIS 0 with jl.unsealed := (List.range n).flatMap entry, jl.blocks := k + 1 }
  (t.countEvent 0x0B20).writeEntry ⟨0x0B20, 0x15, 0, k + 1⟩

/-- The journal at a start: the chain goes on after a chip reset or a Névé exit; after main power loss it resumes from the chain record, and
without one, or after a B change, a new chain begins (R396, R397). -/
def State.startJournal (s : State) (mainLost batLost : Bool) : State :=
  let s := { s with jl.takenAt := none }
  if batLost then s.newChain
  else if mainLost then
    match s.chainRecord with
    | none => s.newChain
    | some (k, l, _) => s.resumeChain k l
  else s.put F.JL_STAT_GENESIS 0

/-! ## Reading the journal (R398) -/

/-- Entry e lies in the readable range. -/
def State.entryThere (s : State) (e : Nat) : Bool := s.get F.JL_OLDEST_E ≤ e && e < s.get F.JL_NEXT_E

/-- An entry lost to poison (R395). -/
def lostEntry (e : Nat) : List Byte := List.replicate 16 0 ++ [0xFF, 0xFF, 0, 0] ++ bytesLE 4 e ++ List.replicate 8 0

/-- Read one entry: from the ring, or from the Firn tail while the ring cannot be read; 0 outside the range. -/
def State.readEntry (s : State) (e : Nat) : State × List Byte :=
  if !s.entryThere e then (s, List.replicate 32 0)
  else match s.journalBase, s.glReady with
    | some b, true =>
      let r := s.glRead (b + e % 2 ^ 25 * 32) 32
      (r.1, match r.2 with | some l => l | none => lostEntry e)
    | _, _ => (s, if s.get F.JL_NEXT_E ≤ e + 256 then readBytes s.firn (0x2000 + e % 256 * 32) 32 else List.replicate 32 0)

/-- The window base of a path: PC_JL_BASE for PF4, JL_RD_BASE for PF0 and SVC_SPI. -/
def State.windowBase (s : State) (p : Path) : Nat :=
  if p = .pf 4 then s.get F.PC_JL_BASE_BASE * 256 else s.get F.JL_RD_BASE_BASE * 256

/-- Word w of the read window: JL_WINw. -/
def State.readWin (s : State) (p : Path) (w : Nat) : State × Nat :=
  let r := s.readEntry (s.windowBase p + w / 4)
  (r.1, ofBytesLE ((r.2.drop (w % 4 * 8)).take 8))

/-- The seal of block k as the window shows it: 0 before it is sealed, all ones where it is poisoned. -/
def State.readSeal (s : State) (k : Nat) : State × List Byte :=
  if s.jl.blocks ≤ k || !s.glReady then (s, List.replicate 32 0)
  else
    let r := s.glRead (sealAddr k) 32
    (r.1, r.2.getD (List.replicate 32 0xFF))

/-- Word w of JL_WSEALw: words 0 to 3 the seal of block base / 64 - 1, or g; words 4 to 19 the window's four blocks. -/
def State.readWseal (s : State) (p : Path) (w : Nat) : State × Nat :=
  let b := s.windowBase p / 64
  let r := if w < 4 then (if b = 0 then (s, s.jl.firstSeal) else s.readSeal (b - 1)) else s.readSeal (b + (w - 4) / 4)
  (r.1, ofBytesLE ((r.2.drop (w % 4 * 8)).take 8))

/-! ## Counters -/

/-- COUNTER_WRAP (R388): a counter at its largest value that counts under its own selection, or as the upper half of a pair, counts one more. -/
def execCounterWrap (n : Fin 256) (s : State) : Host.Outcome State Fault Refusal :=
  running s fun s =>
    s.when (s.get (F.PC_CNT_VALUE n) == 0xFFFFFFFF && s.on (F.PC_SEL_EN n) && !s.chained n) (·.counterAdd n 1)

/-- A write of PC_SELn (R389): the counter stops, CLR clears it, and it counts under the new selection. -/
def State.writePcSel (s : State) (n : Nat) (v : Word) : State :=
  let t := s.forAll [F.PC_SEL_EN n, F.PC_SEL_IRQ n, F.PC_SEL_KIND n, F.PC_SEL_UNIT n, F.PC_SEL_CODE_N n, F.PC_SEL_MASK n]
    (fun s f => s.put f (f.ofWord v))
  let t := t.when (n % 2 == 0) (·.put (F.PC_SEL_CHAIN n) ((F.PC_SEL_CHAIN n).ofWord v))
  t.when ((F.PC_SEL_CLR n).ofWord v == 1) (·.put (F.PC_CNT_VALUE n) 0)

/-- PC_SEL_WRITE (R389). -/
def execPcSelWrite (path : Path) (n : Fin 256) (v : Word) (s : State) : Host.Outcome State Fault Refusal :=
  running s fun s => s.hostWrite path (F.PC_SEL_EN n).off (·.writePcSel n v)

/-- Value of PC_CNTn as a read gives it: an even chained counter with its partner (R388). -/
def State.counterWord (s : State) (n : Nat) : Nat :=
  s.get (F.PC_CNT_VALUE n) + (if n % 2 = 0 ∧ s.on (F.PC_SEL_CHAIN n) then s.get (F.PC_CNT_VALUE (n + 1)) * 2 ^ 32 else 0)

/-- A new window of a port's monitor begins at instant t (R390). -/
def State.bwRestart (s : State) (p t : Nat) : State :=
  { s with pc.bwStart := assign 0 p t s.pc.bwStart, pc.rxBytes := assign 0 p 0 s.pc.rxBytes, pc.txBytes := assign 0 p 0 s.pc.txBytes, pc.spoilt := assign false p false s.pc.spoilt }

/-- A write of PC_BWp_CFG (R390). -/
def State.writeBwCfg (s : State) (p : Nat) (v : Word) : State :=
  let t := (s.put (F.PC_BW_CFG_W p) ((F.PC_BW_CFG_W p).ofWord v)).put (F.PC_BW_CFG_EN p) ((F.PC_BW_CFG_EN p).ofWord v)
  let t := t.when ((F.PC_BW_CFG_CLR p).ofWord v == 1) (fun t =>
    (((((t.put (F.PC_BW_RX_LM_LAST p) 0).put (F.PC_BW_RX_LM_MAX p) 0).put (F.PC_BW_TX_LM_LAST p) 0).put (F.PC_BW_TX_LM_MAX p) 0).put
      (F.PC_BW_RX_MIN_MIN p) 0xFFFFFFFF).put (F.PC_BW_TX_MIN_MIN p) 0xFFFFFFFF)
  t.bwRestart p s.now

/-- BW_CFG_WRITE (R390). -/
def execBwCfgWrite (path : Path) (p : Fin 6) (v : Word) (s : State) : Host.Outcome State Fault Refusal :=
  running s fun s => s.hostWrite path (F.PC_BW_CFG_W p).off (·.writeBwCfg p v)

/-- One direction's count of a window reaches LAST, MAX and MIN. -/
def State.bwReport (s : State) (last mx mn : Fld) (n : Nat) : State :=
  let n := min n 0xFFFFFFFF
  ((s.put last n).put mx (max n (s.get mx))).put mn (min n (s.get mn))

/-- The end of a port's running window: W µs after its beginning, where W = 0 acts as 1 and W above 1,000,000 as 1,000,000 (R390, R403). -/
def State.bwEnd (s : State) (p : Nat) : Nat := s.pc.bwStart.getD p 0 + max 1 (min 1000000 (s.get (F.PC_BW_CFG_W p))) * tuUs

/-- BW_WINDOW_END (R390): at the end of a window; one with a step or a time set is reported nowhere, and the next follows back to back. -/
def execBwWindowEnd (p : Fin 6) (s : State) : Host.Outcome State Fault Refusal :=
  running s fun s =>
    if !s.on (F.PC_BW_CFG_EN p) || s.now < s.bwEnd p then s
    else
      let t := s.when (!s.pc.spoilt.getD p false) (fun s =>
        (s.bwReport (F.PC_BW_RX_LM_LAST p) (F.PC_BW_RX_LM_MAX p) (F.PC_BW_RX_MIN_MIN p) (s.pc.rxBytes.getD p 0)).bwReport
          (F.PC_BW_TX_LM_LAST p) (F.PC_BW_TX_LM_MAX p) (F.PC_BW_TX_MIN_MIN p) (s.pc.txBytes.getD p 0))
      t.bwRestart p (s.bwEnd p)

/-- An event without a flag, at most once per second, with what happened since the previous one in [63:32] (R391). -/
def State.raiseLimited (s : State) (key code src arg : Nat) : State :=
  let n := s.rateCount key + 1
  let rest := s.rates.filter (fun r => r.key != key)
  if s.rateDue key then ({ s with rates := ⟨key, s.now, 0⟩ :: rest }).raise code src 0 (min n 0xFFFFFFFF * 2 ^ 32 + arg)
  else
    let last := match s.rates.find? (fun r => r.key == key) with | none => s.now | some r => r.last
    { s with rates := ⟨key, last, n⟩ :: rest }

/-- The eight bytes of the user page at an aligned offset (R391). -/
def State.userPage (s : State) (off : Nat) : Nat :=
  if off < 0x800 then s.counterWord (off / 8)
  else if off < 0x980 then (fieldsAt (0x141100 + (off - 0x800))).foldl (fun a f => if f.acc = .wo then a else a + s.get f * 2 ^ f.lo) 0
  else 0

/-- USER_PAGE_READ (R391): a read of the user page of PF4, or a write, which is always dropped and logged. -/
def execUserPageRead (off : BitVec 12) (write : Bool) (s : State) : Host.Outcome State Fault Refusal :=
  running s fun s =>
    let o := off.toNat / 8 * 8
    let dead := s.host.perst || s.host.flr.getD 4 false
    if write then s.when (!dead) (·.raiseLimited (0x0B23 * 8) 0x0B23 0x14 off.toNat)
    else if dead then s.emit (.readData o (BitVec.allOnes 64))
    else if s.on F.PC_USER_EN_EN then s.emit (.readData o (BitVec.ofNat 64 (s.userPage o)))
    else (s.emit (.readData o (BitVec.allOnes 64))).raiseLimited (0x0B23 * 8) 0x0B23 0x14 off.toNat

/-! ## The sample tick -/

/-- Occupancy of queue UNIT (R387); none outside the table. -/
def State.occupancyOf (s : State) (u : Nat) : Option Nat :=
  if u < 48 then some (s.df.tokens.filter (fun t => t.floe == u && t.place == .ingress)).length
  else if u < 54 then some ((s.wire.macs.getD (u - 48) {}).rx.foldl (fun a f => a + f.bytes.length) 0)
  else if u < 60 then some (s.wire.ports.getD (u - 54) {}).slots.length
  else if u < 68 then
    let q := u - 60
    let n := 2 ^ max 4 (min 12 (s.get (F.PT_RX_CFG_SIZE q)))
    some ((s.get (F.PT_RX_PTR_TAIL q) + n - s.get (F.PT_RX_PTR_HEAD q)) % n)
  else if u < 71 then some (s.df.cx.filter (fun r => r.kind == u - 68 && r.lane.isNone)).length
  else none

/-- n sample ticks reach the counters of KIND 0x3 and 0x4 (R386, R387). -/
def State.countTicks (s : State) (n : Nat) : State :=
  s.forAll (List.range 256) (fun t c =>
    if t.counterRuns c 4 then t.counterAdd c n
    else if t.counterRuns c 3 then
      match t.occupancyOf (t.get (F.PC_SEL_UNIT c)) with
      | some k => t.when (t.get (F.PC_SEL_CODE_N c) < k) (·.counterAdd c n)
      | none => t
    else t)

/-- Corrected time and the raw tick over n sample ticks of 6.4 ns (R23, R27, R113). -/
def State.passTime (s : State) (n : Nat) : State :=
  let f := s.getI F.TK_TS_FREQ_FREQ
  let den := 2 ^ 32 * 10 ^ 12
  { s with
    now := s.now + n * (32 * 2 ^ 32)
    tick := s.tick + (n * 4 * 2 ^ 32 * den : Int).toNat / ((den : Int) + f).toNat }

/-- SAMPLE_TICK (R386, R387): n sample ticks pass, and rtc counts of the RTC, which alone counts in Névé and Firn (R352, R355). -/
def execSampleTick (n rtc : Nat) (s : State) : Host.Outcome State Fault Refusal :=
  let t := s.put F.PM_RTC_RTC (s.get F.PM_RTC_RTC + rtc)
  .next (if s.power = .run then (t.passTime n).countTicks n else t)

end Sys2Proof.Machine
end

