-- ==== Sys2Proof/Machine/Lanes.lean ====
section
/-! DEFINITION. Serial lanes (chapter 10): states, training, block lock, link, low-power idle and electrical idle. -/
namespace Sys2Proof.Machine

/-- Lane n. -/
def State.lane (s : State) (n : Nat) : LnLane := s.wire.lanes.getD n {}

/-- Change lane n. -/
def State.setLane (s : State) (n : Nat) (f : LnLane → LnLane) : State := { s with wire.lanes := alter {} n f s.wire.lanes }

/-- Change the MAC of port p. -/
def State.setMac (s : State) (p : Nat) (f : MacPort → MacPort) : State := { s with wire.macs := alter {} p f s.wire.macs }

/-- The calendar, queue and stamp path of port p. -/
def State.port (s : State) (p : Nat) : ApPort := s.wire.ports.getD p {}

/-- Change the calendar, queue and stamp path of port p. -/
def State.setPort (s : State) (p : Nat) (f : ApPort → ApPort) : State := { s with wire.ports := alter {} p f s.wire.ports }

/-- Lane states of LN_LANEn_STAT (R204). -/
abbrev laneOff : Nat := 0
abbrev laneDown : Nat := 1
abbrev laneHunt : Nat := 2
abbrev laneLocked : Nat := 3
abbrev laneIdle : Nat := 4

/-- State of lane n. -/
def State.laneState (s : State) (n : Nat) : Nat := s.get (F.LN_LANE_STAT_STATE n)

/-- MODE of lane n: 0 off, 1 10GBASE-R, 2 25GBASE-R, 3 1000BASE-X. -/
def State.laneMode (s : State) (n : Nat) : Nat := s.get (F.LN_LANE_CFG_MODE n)

/-- Present corrected time in fs, rounded down: a unit of State.now is 200000 / 2^32 fs. -/
def fsOf (t : Nat) : Nat := t * 200000 / 2 ^ 32

/-- State.now of a corrected time in fs, rounded to the nearest 2^-32 ns (R207). -/
def timeOfFs (fs : Nat) : Nat := (2 * fs * 2 ^ 32 + 1000000) / 2000000 * 5

/-- Present corrected time in fs. -/
def State.nowFs (s : State) : Nat := fsOf s.now

/-- Length of a pause quantum on a lane, fs (R201). -/
def State.quantum (s : State) (n : Nat) : Nat :=
  match s.laneMode n with
  | 1 => 51200000 | 2 => 20480000 | 3 => 512000000 | _ => 51200000

/-- A pause interval ends, at time t in fs at the latest; its whole quanta are counted (R201). -/
def State.endPause (s : State) (p t : Nat) : State :=
  let m := s.wire.macs.getD p {}
  match m.pauseTo with
  | none => s
  | some e =>
    let spent := (min t e - m.pauseFrom) / s.quantum p
    (s.count (F.MAC_PORT_CNT_PAUSEQ_N p) spent).setMac p (fun m => { m with pauseTo := none })

/-- The transmitter of port 5 leaves LPI; its next frame starts TW later at the earliest (R196). -/
def State.wakeLpi (s : State) : State :=
  s.when (s.on (F.LN_LANE_STAT_LPI_TX 5)) (fun s =>
    (s.put (F.LN_LANE_STAT_LPI_TX 5) 0).setPort 5 (fun q => { q with wokeAt := s.nowFs + max 1 (s.get F.LN_LANE5_LPI_TW) * 1000000000 }))

/-- LINK is due on lane n (R194). -/
def State.linkDue (s : State) (n : Nat) : Bool :=
  s.laneState n == laneLocked &&
    (if s.laneMode n = 3 then !s.on (F.LN_LANE_CFG_AN n) || (s.lane n).an
     else (!s.on (F.LN_LANE_CFG_FEC n) || s.on (F.LN_LANE_STAT_FEC_LOCK n)) && !s.on (F.LN_LANE_STAT_RX_FAULT n))

/-- LINK_CHANGE (R194): LINK follows its conditions; where it falls, with a cause. A link-down ends a pause interval (R201) and, on
port 5, LPI. -/
def State.updateLink (s : State) (n cause : Nat) : State :=
  let due := s.linkDue n
  if due == s.on (F.LN_LANE_STAT_LINK n) then s
  else
    let t := s.putB (F.LN_LANE_STAT_LINK n) due
    if due then
      let t := t.setLane n (fun l => { l with lpiSeen := false })
      let t := match (s.lane n).idleExit with
        | some a => t.when (decide (s.now - a ≤ 5 * tuUs / 2)) (·.event (F.LN_LANE_EVT_IDLE_EXIT n) 0x060A n n)
        | none => t
      (t.setLane n (fun l => { l with idleExit := none })).event (F.LN_LANE_EVT_LINK_UP n) 0x0601 n 0
    else ((t.event (F.LN_LANE_EVT_LINK_DOWN n) 0x0602 n cause).endPause n s.nowFs).when (n == 5) State.wakeLpi

/-- LAT_CAL_START (R219): latency self-calibration of a lane begins; a dip, a migration or a calibration of CH12 + n that is under way spoils it
(R220). -/
def State.beginLatCal (s : State) (n : Nat) : State :=
  (s.put (F.AP_PORT_STAT_CAL_BUSY n) 1).setPort n (fun p =>
    { p with calSpoilt := s.on F.PM_STAT_DIP || s.on F.TB_STAT_MIG || s.on (F.IE_CH_STAT_CAL_BUSY (12 + n)) })

/-- The taps in use (R192, R193). -/
def State.putTaps (s : State) (n pre main post : Nat) : State :=
  ((s.put (F.LN_LANE_EQ_T_PRE n) pre).put (F.LN_LANE_EQ_T_MAIN n) main).put (F.LN_LANE_EQ_T_POST n) post

/-- The lane uses its static taps. -/
def State.useStatic (s : State) (n : Nat) : State :=
  s.putTaps n (s.get (F.LN_LANE_EQ_PRE n)) (s.get (F.LN_LANE_EQ_MAIN n)) (s.get (F.LN_LANE_EQ_POST n))

/-- The lane leaves DOWN when nothing keeps it there (R193, R194, R219). A lane whose transmitter is held in reset stays, for neither its
calibration nor its training can transmit (R174; DEDUCED, log entry 54). -/
def State.leaveDown (s : State) (n : Nat) : State :=
  let l := s.lane n
  s.when (s.laneState n == laneDown && l.signal && !s.on (F.LN_LANE_STAT_TXRST n) && !s.on (F.AP_PORT_STAT_CAL_BUSY n) &&
      (!s.on (F.LN_LANE_CFG_TRAIN n) || l.trained))
    (fun s => (s.put (F.LN_LANE_STAT_STATE n) laneHunt).setLane n (fun l => { l with goodRun := 0 }))

/-- What a lane knows of the line goes when it leaves LOCKED, and its LPI with it (R194, R196). -/
def State.forgetLine (s : State) (n : Nat) : State :=
  let t := ((s.put (F.LN_LANE_STAT_FEC_LOCK n) 0).put (F.LN_LANE_STAT_RX_FAULT n) 0).put (F.LN_LANE_STAT_LPI_RX n) 0
  (t.put (F.LN_LANE_STAT_LPI_TX n) 0).setLane n (fun l => { l with an := false, goodRun := 0, window := [], marked := false })

/-- A lane enters DOWN, which starts its latency calibration before training; training starts from the static taps (R193, R194, R219). -/
def State.enterDown (s : State) (n cause : Nat) : State :=
  let t := ((s.put (F.LN_LANE_STAT_STATE n) laneDown).updateLink n cause).forgetLine n
  ((t.setLane n (fun l => { l with trained := false, idleExit := none })).useStatic n).beginLatCal n

/-- A lane goes OFF (R194). -/
def State.enterOff (s : State) (n : Nat) : State :=
  let t := ((s.put (F.LN_LANE_STAT_STATE n) laneOff).updateLink n 6).forgetLine n
  (t.put (F.AP_PORT_STAT_CAL_BUSY n) 0).setLane n (fun l => { l with trained := false, idleExit := none })

/-- Electrical idle begins: the frame in transmission completes and the transmitter is squelched (R197). -/
def State.enterIdle (s : State) (n : Nat) : State := ((s.put (F.LN_LANE_STAT_STATE n) laneIdle).updateLink n 5).forgetLine n

/-- Electrical idle ends: the lane hunts without training, with the taps in force when idle began (R197). -/
def State.leaveIdle (s : State) (n : Nat) : State :=
  (s.put (F.LN_LANE_STAT_STATE n) laneHunt).setLane n (fun l => { l with trained := true, goodRun := 0, idleExit := some s.now })

/-- A STANDBY chip with GATE = 1 holds its client lanes in electrical idle (R333). -/
def State.clientGated (s : State) (n : Nat) : Bool := n ≤ 3 && s.get F.RD_MATE_STAT_ROLE == 2 && s.on F.RD_MATE_CFG_GATE

/-- What a lane does when its EN or IDLE has been written (R194, R197). -/
def State.applyLaneCfg (s : State) (n : Nat) : State :=
  let st := s.laneState n
  let s := if !s.on (F.LN_LANE_CFG_EN n) then (if st = laneOff then s else s.enterOff n)
    else if st = laneOff then s.enterDown n 6 else s
  let st := s.laneState n
  if st = laneOff then s
  else if s.on (F.LN_LANE_CFG_IDLE n) || s.clientGated n then (if st = laneIdle then s else s.enterIdle n)
  else if st = laneIdle then s.leaveIdle n else s

/-- A write of LN_LANEn_CFG: MODE, FEC and TRAIN are read only; WAKE_EN exists on LN4 (R190, R204). -/
def State.writeLaneCfg (s : State) (n : Nat) (v : Word) : State :=
  let t := ((s.put (F.LN_LANE_CFG_EN n) ((F.LN_LANE_CFG_EN n).ofWord v)).put (F.LN_LANE_CFG_IDLE n) ((F.LN_LANE_CFG_IDLE n).ofWord v)).put
    (F.LN_LANE_CFG_AN n) ((F.LN_LANE_CFG_AN n).ofWord v)
  let t := t.when (n == 4) (·.put (F.LN_LANE_CFG_WAKE_EN n) ((F.LN_LANE_CFG_WAKE_EN n).ofWord v))
  (t.applyLaneCfg n).updateLink n 6

/-- LN_LANE_CFG_WRITE (R194). -/
def execLnLaneCfgWrite (path : Path) (n : Fin 6) (v : Word) (s : State) : Host.Outcome State Fault Refusal :=
  running s fun s => s.hostWrite path (F.LN_LANE_CFG_EN n).off (·.writeLaneCfg n v)

/-- LN_IDLE_ENTER (R197): a write of LN_LANEn_CFG that sets IDLE and keeps the other fields. -/
def execLnIdleEnter (path : Path) (n : Fin 6) (s : State) : Host.Outcome State Fault Refusal :=
  running s fun s => s.hostWrite path (F.LN_LANE_CFG_EN n).off (fun s => (s.put (F.LN_LANE_CFG_IDLE n) 1).applyLaneCfg n)

/-- LN_IDLE_EXIT (R197): a write of LN_LANEn_CFG that clears IDLE and keeps the other fields. -/
def execLnIdleExit (path : Path) (n : Fin 6) (s : State) : Host.Outcome State Fault Refusal :=
  running s fun s => s.hostWrite path (F.LN_LANE_CFG_EN n).off (fun s => (s.put (F.LN_LANE_CFG_IDLE n) 0).applyLaneCfg n)

/-- LN_SIGNAL_PRESENT (R194): signal appears at the ball, or returns within 1 µs of a loss. -/
def execLnSignalPresent (n : Fin 6) (s : State) : Host.Outcome State Fault Refusal :=
  running s fun s => (s.setLane n (fun l => { l with signal := true, loss := false })).leaveDown n

/-- LN_SIGNAL_LOSS (R194): the detector reports a loss; the lane judges no header from now on. -/
def execLnSignalLoss (n : Fin 6) (s : State) : Host.Outcome State Fault Refusal :=
  running s fun s => s.setLane n (fun l => { l with loss := true })

/-- LN_SIGNAL_ABSENT_TIMEOUT (R194): the reported loss has lasted more than 1 µs. -/
def execLnSignalAbsentTimeout (n : Fin 6) (s : State) : Host.Outcome State Fault Refusal :=
  running s fun s =>
    if !(s.lane n).loss then s
    else
      let t := s.setLane n (fun l => { l with signal := false, loss := false })
      t.when (s.laneState n == laneHunt || s.laneState n == laneLocked) (·.enterDown n 1)

/-- Fields of LN_LANEn_LOCK as they act (R204). -/
def State.lockCount (s : State) (n : Nat) : Nat := max 1 (s.get (F.LN_LANE_LOCK_LOCK_CNT n))
def State.unlockWin (s : State) (n : Nat) : Nat := max 1 (s.get (F.LN_LANE_LOCK_UNLOCK_WIN n))
def State.unlockBad (s : State) (n : Nat) : Nat := min (max 1 (s.get (F.LN_LANE_LOCK_UNLOCK_BAD n))) (s.unlockWin n)

/-- HUNT becomes LOCKED (R194). -/
def State.lockLane (s : State) (n : Nat) : State :=
  let t := (s.put (F.LN_LANE_STAT_STATE n) laneLocked).setLane n (fun l => { l with goodRun := 0, window := [] })
  (t.setPort n (fun p => { p with edges := [], marks := 0 })).updateLink n 0

/-- LOCKED becomes HUNT, which counts in LOCK_LOSS (R194). -/
def State.unlockLane (s : State) (n : Nat) : State :=
  (((s.count (F.LN_LANE_CNT_HDR_LOCK_LOSS n) 1).put (F.LN_LANE_STAT_STATE n) laneHunt).updateLink n 2).forgetLine n

/-- A BASE-R lane judges one received sync header (R194): LOCK_CNT valid ones in a row lock it, UNLOCK_BAD invalid ones among the latest
UNLOCK_WIN unlock it. Nothing is judged from a reported loss of signal on. -/
def State.judgeHeader (s : State) (n : Nat) (ok : Bool) : State :=
  let l := s.lane n
  if l.loss then s
  else
    let t := s.when (!ok && (s.laneState n == laneHunt || s.laneState n == laneLocked)) (·.count (F.LN_LANE_CNT_HDR_BAD_HDR n) 1)
    if s.laneState n = laneHunt then
      let run := if ok then l.goodRun + 1 else 0
      if s.lockCount n ≤ run then t.lockLane n else t.setLane n (fun l => { l with goodRun := run })
    else if s.laneState n = laneLocked then
      let w := (ok :: l.window).take (s.unlockWin n)
      if !ok && decide (s.unlockBad n ≤ w.count false) then t.unlockLane n else t.setLane n (fun l => { l with window := w })
    else t

/-- Clause 36 decides in 1000BASE-X: code groups arrive, the invalid ones count, and the synchronisation changes (R194). -/
def State.syncChange (s : State) (n : Nat) (groups : List Bool) (change : State → State) : State :=
  s.when (!(s.lane n).loss) (fun s => change (s.count (F.LN_LANE_CNT_HDR_BAD_HDR n) (groups.count false)))

/-- LN_BLOCK_LOCK (R194): a lane in HUNT receives headers, each valid or not; LOCK_CNT valid ones in a row lock it. -/
def execLnBlockLock (n : Fin 6) (headers : List Bool) (s : State) : Host.Outcome State Fault Refusal :=
  running s fun s =>
    s.when (s.laneState n == laneHunt) (fun s =>
      if s.laneMode n = 3 then s.syncChange n headers (·.lockLane n) else s.forAll headers (fun t ok => t.judgeHeader n ok))

/-- LN_BLOCK_LOCK_LOSS (R194): a LOCKED lane receives headers, each valid or not; UNLOCK_BAD invalid ones within UNLOCK_WIN unlock it. -/
def execLnBlockLockLoss (n : Fin 6) (headers : List Bool) (s : State) : Host.Outcome State Fault Refusal :=
  running s fun s =>
    s.when (s.laneState n == laneLocked) (fun s =>
      if s.laneMode n = 3 then s.syncChange n headers (·.unlockLane n) else s.forAll headers (fun t ok => t.judgeHeader n ok))

/-- LN_FEC_LOCK_CHANGE (R194): a lane with FEC gains or loses FEC lock. -/
def execLnFecLockChange (n : Fin 6) (held : Bool) (s : State) : Host.Outcome State Fault Refusal :=
  running s fun s =>
    s.when (s.on (F.LN_LANE_CFG_FEC n) && s.laneState n == laneLocked) (fun s => (s.putB (F.LN_LANE_STAT_FEC_LOCK n) held).updateLink n 3)

/-- LN_FAULT_RECEIVED (R190, R194): a BASE-R lane begins or ceases to receive local or remote fault. -/
def execLnFaultReceived (n : Fin 6) (fault : Bool) (s : State) : Host.Outcome State Fault Refusal :=
  running s fun s =>
    s.when (s.laneMode n != 3 && s.laneState n == laneLocked) (fun s => (s.putB (F.LN_LANE_STAT_RX_FAULT n) fault).updateLink n 4)

/-- LN_AN_COMPLETE (R190): clause 37 auto-negotiation completes on LN5 in 1000BASE-X. -/
def execLnAnComplete (s : State) : Host.Outcome State Fault Refusal :=
  running s fun s =>
    s.when (s.laneMode 5 == 3 && s.laneState 5 == laneLocked && s.on (F.LN_LANE_CFG_AN 5)) (fun s =>
      (s.setLane 5 (fun l => { l with an := true })).updateLink 5 0)

/-- A lane that is in DOWN, out of latency calibration and not yet trained, trains, once its transmitter is out of reset (R174, R193). -/
def State.training (s : State) (n : Nat) : Bool :=
  s.laneState n == laneDown && s.on (F.LN_LANE_CFG_TRAIN n) && !(s.lane n).trained && !s.on (F.AP_PORT_STAT_CAL_BUSY n) &&
    !s.on (F.LN_LANE_STAT_TXRST n)

/-- LN_TRAINING_COMPLETE (R193): with the taps that training found. -/
def execLnTrainingComplete (n : Fin 6) (pre : BitVec 4) (main : BitVec 6) (post : BitVec 5) (s : State) : Host.Outcome State Fault Refusal :=
  running s fun s =>
    s.when (s.training n) (fun s =>
      let t := (s.putTaps n pre.toNat main.toNat post.toNat).put (F.LN_LANE_STAT_STATIC n) 0
      (t.setLane n (fun l => { l with trained := true, fails := 0 })).leaveDown n)

/-- LN_TRAINING_TIMEOUT (R193): 500 ms have passed. The lane tries again from its static taps, and after RETRY failures in
a row goes on with them. -/
def execLnTrainingTimeout (n : Fin 6) (s : State) : Host.Outcome State Fault Refusal :=
  running s fun s =>
    s.when (s.training n) (fun s =>
      let t := s.event (F.LN_LANE_EVT_TRAIN_FAIL n) 0x0603 n 0
      let fails := (s.lane n).fails + 1
      if max 1 (s.get (F.LN_LANE_EQ_RETRY n)) ≤ fails then
        (((t.useStatic n).put (F.LN_LANE_STAT_STATIC n) 1).setLane n (fun l => { l with trained := true, fails := 0 })).leaveDown n
      else (t.useStatic n).setLane n (fun l => { l with fails := fails }))

/-- A write of LN_LANEn_EQ (R192): dropped where the taps' sum exceeds 63. -/
def State.writeLaneEq (s : State) (n : Nat) (v : Word) : State :=
  let pre := (F.LN_LANE_EQ_PRE n).ofWord v
  let main := (F.LN_LANE_EQ_MAIN n).ofWord v
  let post := (F.LN_LANE_EQ_POST n).ofWord v
  if 63 < pre + main + post then s.event (F.LN_LANE_EVT_EQ_REJ n) 0x0605 n 0
  else
    let t := (((s.put (F.LN_LANE_EQ_PRE n) pre).put (F.LN_LANE_EQ_MAIN n) main).put (F.LN_LANE_EQ_POST n) post).put (F.LN_LANE_EQ_RETRY n)
      ((F.LN_LANE_EQ_RETRY n).ofWord v)
    t.when (!s.on (F.LN_LANE_CFG_TRAIN n) || (s.on (F.LN_LANE_STAT_STATIC n) && (s.lane n).trained)) (·.useStatic n)

/-- LN_EQ_WRITE (R192). -/
def execLnEqWrite (path : Path) (n : Fin 6) (v : Word) (s : State) : Host.Outcome State Fault Refusal :=
  running s fun s => s.hostWrite path (F.LN_LANE_EQ_PRE n).off (·.writeLaneEq n v)

/-- LN_FEC_UNCORRECTABLE (R195): a LOCKED lane with FEC has decoded so many corrected and so many uncorrectable blocks or codewords. In clause 108
the frame an uncorrectable codeword carries is marked. -/
def execLnFecUncorrectable (n : Fin 6) (blocks : Nat × Nat) (s : State) : Host.Outcome State Fault Refusal :=
  running s fun s =>
    s.when (s.on (F.LN_LANE_CFG_FEC n) && s.laneState n == laneLocked) (fun s =>
      let t := (s.count (F.LN_LANE_CNT_FEC_CORR n) blocks.1).count (F.LN_LANE_CNT_FEC_UNCORR n) blocks.2
      t.when (blocks.2 != 0) (fun t =>
        (t.when (t.get (F.LN_LANE_CFG_FEC n) == 2) (·.setLane n (fun l => { l with marked := true }))).eventLimited (0x0604 * 8 + n)
          (F.LN_LANE_EVT_FEC_UNCORR n) 0x0604 n 0))

/-- A slot of port 5 is booked that starts within TW from now (R196). -/
def State.wakeDue (s : State) : Bool :=
  (s.port 5).slots.any (fun x => decide (x.start ≤ s.nowFs + max 1 (s.get F.LN_LANE5_LPI_TW) * 1000000000))

/-- Port 5 may enter LPI: it is permitted, the link is up and has been idle for IDLE_TIME, and nothing calls for the line (R196). -/
def State.lpiDue (s : State) : Bool :=
  let q := s.port 5
  s.on F.LN_LANE5_LPI_EN && s.on (F.LN_LANE_STAT_LINK 5) && !s.on (F.LN_LANE_STAT_LPI_TX 5) && q.na.isEmpty && !s.wakeDue &&
    decide (max q.busyTo q.wokeAt + s.get F.LN_LANE5_LPI_IDLE_TIME * 1000000000 ≤ s.nowFs)

/-- LPI_ENTER (R196): IDLE_TIME has passed on port 5 with no frame queued. -/
def execLpiEnter (s : State) : Host.Outcome State Fault Refusal := running s fun s => s.when s.lpiDue (·.put (F.LN_LANE_STAT_LPI_TX 5) 1)

/-- LPI_WAKE (R196): TW before a booked grid point of port 5, or when a frame is queued. -/
def execLpiWake (s : State) : Host.Outcome State Fault Refusal :=
  running s fun s => s.when (s.wakeDue || !(s.port 5).na.isEmpty) State.wakeLpi

/-- A write of LN_LANE5_LPI; the transmitter leaves LPI where it is no longer permitted (R196). -/
def State.writeLpi (s : State) (v : Word) : State :=
  let t := ((s.put F.LN_LANE5_LPI_EN (F.LN_LANE5_LPI_EN.ofWord v)).put F.LN_LANE5_LPI_TW (F.LN_LANE5_LPI_TW.ofWord v)).put F.LN_LANE5_LPI_IDLE_TIME
    (F.LN_LANE5_LPI_IDLE_TIME.ofWord v)
  t.when (!t.on F.LN_LANE5_LPI_EN) State.wakeLpi

/-- LPI_RECEIVED (R196): the partner of a LOCKED lane enters or leaves LPI; the first LPI on a client lane after each link-up writes event
0x0606. -/
def execLpiReceived (n : Fin 6) (on : Bool) (s : State) : Host.Outcome State Fault Refusal :=
  running s fun s =>
    s.when (s.laneState n == laneLocked) (fun s =>
      let t := s.putB (F.LN_LANE_STAT_LPI_RX n) on
      t.when (on && decide (n.val < 4) && s.on (F.LN_LANE_STAT_LINK n) && !(s.lane n).lpiSeen) (fun t =>
        (t.setLane n (fun l => { l with lpiSeen := true })).event (F.LN_LANE_EVT_LPI_RX n) 0x0606 n 0))

/-! ## What a lane sends -/

/-- What the transmitter of a lane puts on the line. -/
inductive LineOut where
  /-- nothing: held in reset, off, squelched in electrical idle or in latency calibration (R174, R197, R219) -/
  | quiet
  /-- training frames (R193) -/
  | training
  /-- remote fault, for a local fault is detected (R190) -/
  | remoteFault
  /-- idle, for a fault is received (R190) -/
  | idle
  /-- low-power idle (R196) -/
  | lpi
  /-- frames with idle between them -/
  | frames
  deriving DecidableEq, Repr

/-- A BASE-R lane detects a local fault: it receives no blocks, or none that its FEC has locked on (R190; that this is a local fault is DEDUCED from
clauses 46 and 49, which the rule names: log entry 54). -/
def State.localFault (s : State) (n : Nat) : Bool :=
  s.laneMode n != 3 && (s.laneState n != laneLocked || (s.on (F.LN_LANE_CFG_FEC n) && !s.on (F.LN_LANE_STAT_FEC_LOCK n)))

/-- What lane n sends (R174, R190, R193, R196, R197, R219). -/
def State.lineOut (s : State) (n : Nat) : LineOut :=
  if s.on (F.LN_LANE_STAT_TXRST n) || s.laneState n == laneOff || s.laneState n == laneIdle || s.on (F.AP_PORT_STAT_CAL_BUSY n) then .quiet
  else if s.training n then .training
  else if s.localFault n then .remoteFault
  else if s.on (F.LN_LANE_STAT_RX_FAULT n) then .idle
  else if s.on (F.LN_LANE_STAT_LPI_TX n) then .lpi
  else .frames

/-- PAUSE and ASM_DIR as LN5 advertises them: present in 1000BASE-X with auto-negotiation, equal to PAUSE_RX_EN (R201). -/
def State.pauseAdvert (s : State) : Option (Bool × Bool) :=
  let on := s.on (F.MAC_PORT_CFG_PAUSE_RX_EN 5)
  if s.laneMode 5 = 3 ∧ s.on (F.LN_LANE_CFG_AN 5) = true then some (on, on) else none

end Sys2Proof.Machine
end

