-- ==== Sys2Proof/Machine/Mac.lean ====
section
/-! DEFINITION. MACs (chapter 10) and the receive stamp (chapter 11): classification, filter, PAUSE, sending, ingress stamps. -/
namespace Sys2Proof.Machine

/-- One bit of the IEEE 802.3 frame check sequence, reflected. -/
def fcsBit (r : Nat) : Nat := if r % 2 = 1 then r / 2 ^^^ 0xEDB88320 else r / 2

/-- One byte of the frame check sequence. -/
def fcsByte (r : Nat) (b : Byte) : Nat :=
  let x := r ^^^ b.toNat
  fcsBit (fcsBit (fcsBit (fcsBit (fcsBit (fcsBit (fcsBit (fcsBit x)))))))

/-- The four FCS bytes of a frame, in the order sent. -/
def fcsOf (l : List Byte) : List Byte := bytesLE 4 (l.foldl fcsByte 0xFFFFFFFF ^^^ 0xFFFFFFFF)

/-- The last four bytes of a frame are its FCS. -/
def fcsGood (l : List Byte) : Bool := 4 ≤ l.length && l.drop (l.length - 4) == fcsOf (l.take (l.length - 4))

/-- A two-byte field of a frame, big-endian. -/
def at2 (l : List Byte) (off : Nat) : Nat := ofBytesBE ((l.drop off).take 2)

/-- The frame is single-tagged (R199). -/
def tagged (l : List Byte) : Bool := at2 l 12 == 0x8100

/-- MAX_LEN in force on port p (R199, R205). -/
def State.maxLen (s : State) (p : Nat) : Nat := max 1518 (min 9216 (s.get (F.MAC_PORT_CFG_MAX_LEN p)))

/-- The upper limit of a frame's length on port p (R199). -/
def State.upperLimit (s : State) (p : Nat) (tag : Bool) : Nat := if tag then min 9216 (s.maxLen p + 4) else s.maxLen p

/-- The destination address passes the filter of port p (R200). -/
def State.addressPasses (s : State) (p : Nat) (dest : List Byte) : Bool :=
  (List.range 16).any (fun a => s.on (F.MAC_PORT_ADDR_VALID p a) && s.get (F.MAC_PORT_ADDR_ADDR p a) == ofBytesLE dest) ||
    (s.on (F.MAC_PORT_CFG_BCAST p) && dest == List.replicate 6 0xFF)

/-- The classes of R199, in the order of its table. -/
inductive RxClass where
  | fragment | jabber | runt | oversize | fcs | pause | control | filtered | good
  deriving DecidableEq, Repr

/-- The MAC sees a bad FCS: the FCS is bad, or clause 108 has marked bytes of the frame (R195). -/
def State.fcsBad (s : State) (p : Nat) (l : List Byte) : Bool := !fcsGood l || (s.lane p).marked

/-- Classify a received frame by the first line of R199 that applies. -/
def State.classify (s : State) (p : Nat) (l : List Byte) : RxClass :=
  let n := l.length
  if n < 14 then .fragment
  else if 9216 < n then .jabber
  else if n < 64 then .runt
  else if s.upperLimit p (tagged l) < n then .oversize
  else if s.fcsBad p l then .fcs
  else if at2 l 12 = 0x8808 then (if at2 l 14 = 1 then .pause else .control)
  else if !s.addressPasses p (l.take 6) then .filtered
  else .good

/-- The counter of a class (R199). -/
def RxClass.counter (p : Nat) : RxClass → Fld
  | .fragment | .runt => F.MAC_PORT_RX_RUNT_N p
  | .jabber | .oversize => F.MAC_PORT_RX_OVERSIZE_N p
  | .fcs => F.MAC_PORT_RX_FCS_N p
  | .pause => F.MAC_PORT_RX_PAUSE_N p
  | .control => F.MAC_PORT_RX_CTRL_DROP_N p
  | .filtered => F.MAC_PORT_RX_FILTERED_N p
  | .good => F.MAC_PORT_RX_OK_N p

/-! ## Stamps -/

/-- A receive unit interval in fs as a fraction, by mode (R217). -/
def uiOf : Nat → Nat × Nat
  | 1 => (6400000, 66) | 2 => (2560000, 66) | _ => (800000, 1)

/-- Nominal span between two marks, in units of State.now, by mode (R217): 409.6 ns, 163.84 ns, 102.4 ns. -/
def markSpan : Nat → Nat
  | 1 => 2048 * 2 ^ 32 | 2 => 8192 * 2 ^ 32 / 10 | _ => 512 * 2 ^ 32

/-- The receive offset of port p in fs (R217). -/
def State.rxOffset (s : State) (p : Nat) : Int :=
  s.get (F.LN_LANE_RX_LAT_LAT p) + s.get (F.LN_LANE_FEC_LAT_RX p) + s.getI (F.MAC_PORT_RX_EXTRA_EXTRA p)

/-- t_in of a timestamp point that lies num/den fs after the edge at e and marks of mean period span/k, truncated to 2^-32 ns (R217, R218). -/
def stampTime (e marks span k num den : Nat) (ofs : Int) : Nat :=
  let ns32 : Int := (((e * k + marks * span) * den * 10 ^ 6 : Nat) : Int) + ((num : Int) - ofs * den) * (2 ^ 32 * 5 * k : Nat)
  (ns32 / (5 * k * den * 10 ^ 6 : Nat)).toNat * 5

/-- The lane's phase is held: the needed edge has no VALID stamp, or a dip or a calibration of CH12 + p is under way (R218). -/
def State.phaseHeld (s : State) (p mark : Nat) : Bool :=
  !((s.port p).edges.any (fun e => e.1 == mark)) || s.on F.PM_STAT_DIP || s.on (F.IE_CH_STAT_CAL_BUSY (12 + p))

/-- The valid edges that a stamp which needs a given mark rests on: those at or before it, newest first, or, where the needed mark lies before
them all, none. -/
def State.edgesTo (s : State) (p mark : Nat) : List (Nat × Nat) := (s.port p).edges.filter (fun e => decide (e.1 ≤ mark))

/-- Mean period of the latest valid edges, as a span in units of State.now over a number of marks; the nominal one where only one edge is held
(R217, R218; the nominal one is a DESIGN CHOICE, log entry 40). -/
def State.meanMark (s : State) (p : Nat) (edges : List (Nat × Nat)) : Nat × Nat :=
  match edges with
  | a :: b :: l => let z := l.getLastD b; (a.2 - z.2, max 1 (a.1 - z.1))
  | _ => (markSpan (s.laneMode p), 1)

/-- The ingress stamp of a frame (R217, R218): its timestamp point lies ui unit intervals after the mark that is back marks before the latest one.
Without a valid edge since LOCKED the stamp is not VALID and its time, in 2^-32 ns, is a free value of two words (log entry 1). -/
def State.ingressStamp (s : State) (p back ui : Nat) : TStamp :=
  let mark := (s.port p).marks - back
  let edges := s.edgesTo p mark
  let held := s.phaseHeld p mark
  match edges with
  | [] => { time := ((Config.freeValue s.free).toNat * 2 ^ 64 + (Config.freeValue (s.free + 1)).toNat) * 5, valid := false, held := held }
  | e :: _ =>
    let (span, k) := s.meanMark p edges
    let (num, den) := uiOf (s.laneMode p)
    { time := stampTime e.2 (mark - e.1) span k (ui * num) den (s.rxOffset p), valid := s.on (F.AP_PORT_STAT_CAL_OK p), held := held }

/-- A stamp is formed and counted (R217, R218); the two words of a free time have been taken. -/
def State.countStamp (s : State) (p : Nat) (t : TStamp) : State :=
  let u := { s with free := s.free + 2 }.count (F.AP_PORT_CNT_IN_STAMP_N p) 1
  (u.when t.held (·.count (F.AP_PORT_CNT_IN_HELD_N p) 1)).when (!t.valid) (·.count (F.AP_PORT_CNT_IN_INVALID_N p) 1)

/-- A mark of lane n has passed on CH12 + n; only a valid edge is held, the latest 65 of them, which make 64 periods (R217, R218). -/
def State.markEdge (s : State) (n : Nat) (st : Option Stamp) : State :=
  s.setPort n (fun p =>
    { p with marks := p.marks + 1,
             edges := match st with | some st => ((p.marks + 1, st.corr) :: p.edges).take 65 | none => p.edges })

/-! ## Receive -/

/-- PAUSE_RECEIVED (R201): a valid PAUSE frame starts, replaces or ends the pause interval. -/
def State.pauseFrame (s : State) (p : Nat) (l : List Byte) : State :=
  let dest := l.take 6
  let mine := dest == [0x01, 0x80, 0xC2, 0x00, 0x00, 0x01] ||
    (List.range 16).any (fun a => s.on (F.MAC_PORT_ADDR_VALID p a) && s.get (F.MAC_PORT_ADDR_ADDR p a) == ofBytesLE dest &&
      ofBytesLE dest % 2 == 0)
  let q := at2 l 16
  let now := s.nowFs
  if !s.on (F.MAC_PORT_CFG_PAUSE_RX_EN p) || !mine || !s.on (F.LN_LANE_STAT_LINK p) then s
  else if q = 0 then s.endPause p now
  else
    let until_ := now + q * s.quantum p
    match (s.wire.macs.getD p {}).pauseTo with
    | some e =>
      if now < e then s.setMac p (fun m => { m with pauseTo := some until_ })
      else (s.endPause p now).setMac p (fun m => { m with pauseFrom := now, pauseTo := some until_ })
    | none => s.setMac p (fun m => { m with pauseFrom := now, pauseTo := some until_ })

/-- A frame is delivered with its stamp to the receive buffer of its port (R199, R217). -/
def State.deliver (s : State) (p : Nat) (l : List Byte) (st : TStamp) (runt big : Bool) : State :=
  let f : RxFrame := { bytes := l, stamp := st, fcs := s.fcsBad p l, runt := runt, oversize := big, arrived := s.now }
  (s.countTraffic p false l.length).setMac p (fun m => { m with rx := m.rx ++ [f] })

/-- Bytes in the receive buffer of port p (R200). -/
def State.rxBytes (s : State) (p : Nat) : Nat := (((s.wire.macs.getD p {}).rx).map (fun f => f.bytes.length)).sum

/-- A frame of this class goes to the fabric (R199): a good one, and an error frame where ERR_DELIVER asks for it and its address passes. -/
def State.delivers (s : State) (p : Nat) (l : List Byte) : Bool :=
  let errors := s.on (F.MAC_PORT_CFG_ERR_DELIVER p) && s.addressPasses p (l.take 6)
  match s.classify p l with
  | .good => true
  | .runt | .oversize | .fcs => errors
  | .pause | .control | .filtered | .fragment | .jabber => false

/-- The receive buffer cannot take the frame (R200). -/
def State.rxFull (s : State) (p : Nat) (l : List Byte) : Bool := decide (16384 < s.rxBytes p + l.length)

/-- A received frame (R199 to R201): one that goes to the fabric and does not fit into the buffer counts as overflow alone, every other one in
the counter of its class. -/
def State.rxFrame (s : State) (p : Nat) (l : List Byte) (st : TStamp) : State :=
  let c := s.classify p l
  if s.delivers p l && s.rxFull p l then (s.count (F.MAC_PORT_RX_OVF_N p) 1).eventOnce (F.MAC_PORT_EVT_RX_OVF p) 0x060B p 0
  else
    let t := s.count (c.counter p) 1
    if s.delivers p l then t.deliver p l st (c == .runt) (c == .oversize)
    else match c with
      | .pause => t.pauseFrame p l
      | .control => t.eventOnce (F.MAC_PORT_EVT_CTRL_DROP p) 0x0607 p 0
      | .fragment | .jabber | .runt | .oversize | .fcs | .filtered | .good => t

/-- The MAC of port p receives: it is enabled, its lane is LOCKED and no image reload resets it (R203, R241). -/
def State.macReceives (s : State) (p : Nat) : Bool :=
  s.on (F.MAC_PORT_CFG_EN p) && s.laneState p == laneLocked && s.get F.DF_STAT_STATE != 2

/-- MAC_RX_FRAME (R199, R200, R217): a frame from its destination address to its FCS, whose timestamp point lies ui unit intervals after the mark
that is back marks before the latest. Every received frame is stamped and its stamp counted; what clause 108 marked in it is spent (R195). -/
def execMacRxFrame (p : Fin 6) (bytes : List Byte) (back ui : Nat) (s : State) : Host.Outcome State Fault Refusal :=
  running s fun s =>
    s.when (s.macReceives p) (fun s =>
      let st := s.ingressStamp p back ui
      ((s.countStamp p st).rxFrame p bytes st).setLane p (fun l => { l with marked := false }))

/-- PAUSE_EXPIRY (R201). -/
def execPauseExpiry (p : Fin 6) (s : State) : Host.Outcome State Fault Refusal :=
  running s fun s => s.endPause p ((s.wire.macs.getD p {}).pauseTo.getD 0)

/-! ## Transmit -/

/-- The tag of a message's frame. -/
def Msg.tagged (m : Msg) : Bool := match m.peer with | none => Machine.tagged m.bytes | some p => p.vlan.isSome

/-- L of a message as sent: padded to 64 bytes (R202). -/
def Msg.sentLen (m : Msg) : Nat := max 64 m.frameLen

/-- The message exceeds the MAC's upper limit on port p (R202). -/
def State.tooLong (s : State) (p : Nat) (m : Msg) : Bool := s.upperLimit p m.tagged < m.sentLen

/-- What the MAC appends (R202): zero bytes up to 60, and the FCS. A message that goes to a peer stands here without its transport headers, so that
the FCS over them is not formed (log entry 40). -/
def Msg.tail (m : Msg) : List Byte :=
  let pad := List.replicate (60 - (m.frameLen - 4)) 0
  match m.peer with
  | none => pad ++ fcsOf (m.bytes ++ pad)
  | some _ => pad

/-- A frame starts on port p at a position in fs and occupies the line for dur fs (R202, R208, R211). Port 5 is then out of LPI (R196). -/
def State.startFrame (s : State) (p start dur : Nat) (m : Msg) : State :=
  let t := ((s.count (F.MAC_PORT_TX_OK_N p) 1).countTraffic p true m.sentLen).put (F.LN_LANE_STAT_LPI_TX p) 0
  (t.setPort p (fun q => { q with busyFrom := start, busyTo := start + dur })).emit (.frame p start m m.tail)

/-- Queue a non-appointed frame on port p (R215); one above the MAC's limit is dropped and counted (R202). A queued frame ends LPI at once
on port 5 (R196). -/
def State.queueNa (s : State) (p : Nat) (m : Msg) : State :=
  if s.tooLong p m then (s.count (F.MAC_PORT_TX_OVERSIZE_N p) 1).eventOnce (F.MAC_PORT_EVT_TX_OVERSIZE p) 0x0609 p 0
  else (s.setPort p (fun q => { q with na := q.na ++ [⟨m, s.now⟩] })).when (p == 5) State.wakeLpi

end Sys2Proof.Machine
end

