-- ==== Sys2Proof/Machine/Appoint.lean ====
section
/-! DEFINITION. Egress appointments (chapter 11): the start grid, booking, hand-off, misses, non-appointed frames, latency calibration. -/
namespace Sys2Proof.Machine

/-- Grid period P of port p in fs; 0 with no mode (R207). -/
def State.gridP (s : State) (p : Nat) : Nat :=
  match s.laneMode p with
  | 1 => 3200000 | 2 => 1280000 | 3 => 16000000 | _ => 0

/-- Octet time t_o of port p in fs (R207). -/
def State.octet (s : State) (p : Nat) : Nat :=
  match s.laneMode p with
  | 1 => 800000 | 2 => 320000 | 3 => 8000000 | _ => 0

/-- dtx of port p in fs (R207). -/
def State.dtx (s : State) (p : Nat) : Int :=
  8 * s.octet p + s.get (F.LN_LANE_FEC_LAT_TX p) + s.get (F.LN_LANE_TX_LAT_LAT p) + s.getI (F.MAC_PORT_TX_EXTRA_EXTRA p)

/-- AP_PORTp_STAT.BOOKED and GRID and the offsets in force follow the port (R207, R217, R224). -/
def State.showPort (s : State) (p : Nat) : State :=
  let grid := match s.laneMode p with | 1 => 2 | 2 => 1 | 3 => 3 | _ => 0
  let t := (s.put (F.AP_PORT_STAT_BOOKED p) (s.port p).slots.length).put (F.AP_PORT_STAT_GRID p) grid
  (t.putI (F.AP_PORT_TXOFS_OFS p) (s.dtx p)).putI (F.AP_PORT_RXOFS_OFS p) (s.rxOffset p)

/-- Smallest grid position of port p at or after x fs (R207). -/
def State.gridAt (s : State) (p : Nat) (x : Int) : Int :=
  let per : Int := s.gridP p
  let ofs : Int := s.get (F.AP_PORT_STAT_GRID_OFS p)
  if per = 0 then x else ofs + -((ofs - x) / per) * per

/-- Occupancy O of a frame of length len on port p (R208). -/
def State.occupancy (s : State) (p len : Nat) : Nat :=
  let o := (max 64 len + 20) * s.octet p
  let per := s.gridP p
  if per = 0 then o else (o + per - 1) / per * per

/-- AP_CFG fields with their limits, in fs (R224). -/
def State.leadFs (s : State) : Nat := max 150 (min 5000 (s.get F.AP_CFG_LEAD)) * 10000000
def State.marginFs (s : State) : Nat := max 10 (min 200 (s.get F.AP_CFG_MARGIN)) * 10000000
def State.searchFs (s : State) : Nat := max 1 (s.get F.AP_CFG_SEARCH) * 100000000
def State.guardFs (s : State) : Nat := s.get F.AP_CFG_GUARD * 1000000
def State.naWait (s : State) : Nat := max 1 (s.get F.AP_CFG_NA_WAIT) * (tuMs / 10)

/-- A corrected time in fs, rounded up. -/
def fsUp (t : Nat) : Nat := (t * 200000 + 2 ^ 32 - 1) / 2 ^ 32

/-- The least position from x on whose interval of length o meets none of the busy intervals, which come in rising order (R208). -/
def State.fitFrom (s : State) (p : Nat) (o : Int) (x : Int) : List (Int × Int) → Int
  | [] => x
  | (a, b) :: l => s.fitFrom p o (if a < x + o ∧ x < b then s.gridAt p b else x) l

/-- Busy intervals of port p: the frame in transmission, then the booked slots (R208). -/
def State.busyList (s : State) (p : Nat) : List (Int × Int) :=
  let q := s.port p
  ((q.busyFrom : Int), (q.busyTo : Int)) :: q.slots.map (fun x => ((x.start : Int), (x.start + x.dur : Int)))

/-- Fields of AP_PORTp_CNT_REFUSE, numbered as in event 0x0705 (R208, R214). -/
inductive RefuseField where
  | full | nofit | link | uncal
  deriving DecidableEq, Repr

/-- The verdict on a request: the position granted, or the field of the refusal (R208). -/
def State.judgeRequest (s : State) (p len : Nat) (nb : Option Nat) : RefuseField ⊕ Nat :=
  let now := s.now
  if 4096 ≤ (s.port p).slots.length then .inl .full
  else if 9216 < len ∨ now + tuMs < nb.getD 0 then .inl .nofit
  else if !s.on (F.LN_LANE_STAT_LINK p) || !s.on (F.MAC_PORT_CFG_EN p) then .inl .link
  else if !s.on (F.AP_PORT_STAT_CAL_OK p) then .inl .uncal
  else
    let e : Int := max (fsUp now + s.leadFs) (fsUp (nb.getD 0))
    let o := s.occupancy p len
    let x := s.fitFrom p o (s.gridAt p (e - s.dtx p)) (s.busyList p)
    if x + s.dtx p ≤ e + s.searchFs ∧ 0 ≤ x then .inr x.toNat else .inl .nofit

/-- Insert a slot into a calendar by its start position. -/
def insertSlot (x : ApSlot) : List ApSlot → List ApSlot
  | [] => [x]
  | y :: l => if x.start < y.start then x :: y :: l else y :: insertSlot x l

/-- A happening of AP with its flag each time and its event at most once per second per port and reason (R214). -/
def State.apEvent (s : State) (f : Fld) (code p low : Nat) : State :=
  (s.setFlag f).eventLimited ((code * 8 + p) * 16 + low / 16) f code p low

/-- A refusal is counted (R208, R214). -/
def State.refuse (s : State) (p : Nat) : RefuseField → State
  | .full => (s.count (F.AP_PORT_CNT_REFUSE_FULL p) 1).apEvent F.AP_EVT_REFUSE 0x0705 p p
  | .nofit => (s.count (F.AP_PORT_CNT_REFUSE_NOFIT p) 1).apEvent F.AP_EVT_REFUSE 0x0705 p (p + 16)
  | .link => (s.count (F.AP_PORT_CNT_REFUSE_LINK p) 1).apEvent F.AP_EVT_REFUSE 0x0705 p (p + 32)
  | .uncal => (s.count (F.AP_PORT_CNT_REFUSE_UNCAL p) 1).apEvent F.AP_EVT_REFUSE 0x0705 p (p + 48)

/-- AP_REQUEST (R208): a slot is booked and answered, or the request refused. -/
def State.apRequest (s : State) (p len : Nat) (nb : Option Nat) : State × Option ApSlot :=
  match s.judgeRequest p len nb with
  | .inl r => (s.refuse p r, none)
  | .inr x =>
    let slot : ApSlot := { handle := (s.port p).nextHandle, start := x, dur := s.occupancy p len, len := max 64 len,
                           appt := timeOfFs ((x : Int) + s.dtx p).toNat }
    let t := s.setPort p (fun q => { q with slots := insertSlot slot q.slots, nextHandle := q.nextHandle + 1 })
    ((t.count (F.AP_PORT_CNT_GRANT_N p) 1).showPort p, some slot)

/-- Free a slot. -/
def State.freeSlot (s : State) (p handle : Nat) : State :=
  (s.setPort p (fun q => { q with slots := q.slots.filter (fun x => x.handle != handle) })).showPort p

/-- The slot of a handle on port p. -/
def State.slotOf (s : State) (p handle : Nat) : Option ApSlot := (s.port p).slots.find? (fun x => x.handle == handle)

/-- Arrival deadline of a slot (R210). -/
def State.arrivalDeadline (s : State) (x : ApSlot) : Nat := x.appt - s.marginFs * 2 ^ 32 / 200000

/-- The arrival deadline of a slot has passed. At the deadline itself a message still arrives on time (R210) and a release still takes effect
(R222). -/
def State.pastDeadline (s : State) (x : ApSlot) : Bool := decide (s.arrivalDeadline x < s.now)

/-- A slot that is not loaded at its arrival deadline becomes a miss (R210). -/
def State.missLate (s : State) (p : Nat) (x : ApSlot) : State :=
  let t := s.setPort p (fun q => { q with slots := q.slots.map (fun y => if y.handle = x.handle then { y with late := true } else y) })
  (t.count (F.AP_PORT_CNT_MISS_LATE_N p) 1).apEvent F.AP_EVT_MISS_LATE 0x0701 p p

/-- AP_MESSAGE_HANDOFF (R210): a message for a slot loads it, or is discarded as stray or for its length. -/
def State.handOff (s : State) (p handle : Nat) (m : Msg) : State :=
  match s.slotOf p handle with
  | none => s.count (F.AP_PORT_CNT_STRAY_N p) 1
  | some x =>
    if x.late then s.count (F.AP_PORT_CNT_STRAY_N p) 1
    else if s.pastDeadline x then (s.missLate p x).count (F.AP_PORT_CNT_STRAY_N p) 1
    else if x.len < m.sentLen || s.tooLong p m then (s.count (F.AP_PORT_CNT_BADLEN_N p) 1).freeSlot p handle
    else s.setPort p (fun q => { q with slots := q.slots.map (fun y => if y.handle = handle then { y with msg := some m } else y) })

/-- AP_SLOT_RELEASE (R209, R222): up to its arrival deadline. -/
def execApSlotRelease (p : Fin 6) (handle : Nat) (s : State) : Host.Outcome State Fault Refusal :=
  running s fun s =>
    match s.slotOf p handle with
    | some x => if x.late || s.pastDeadline x then s else (s.freeSlot p handle).count (F.AP_PORT_CNT_RELEASED_N p) 1
    | none => s

/-- AP_ARRIVAL_DEADLINE (R210, R222): the deadline has passed with no release and no message. -/
def execApArrivalDeadline (p : Fin 6) (handle : Nat) (s : State) : Host.Outcome State Fault Refusal :=
  running s fun s =>
    match s.slotOf p handle with
    | some x => if x.late || x.msg.isSome || !s.pastDeadline x then s else s.missLate p x
    | none => s

/-- A grid point lies within the pause interval of port p (R201). -/
def State.pausedAt (s : State) (p x : Nat) : Bool :=
  let m := s.wire.macs.getD p {}
  match m.pauseTo with
  | some e => decide (m.pauseFrom ≤ x) && decide (x < e)
  | none => false

/-- AP_GRID_POINT (R211, R212): the booked grid point of the earliest slot of port p. The conditions are checked in the order of R212's table,
so that a slot already counted late counts for a link that is down or a pause as well (DEDUCED, log entry 40). -/
def execApGridPoint (p : Fin 6) (s : State) : Host.Outcome State Fault Refusal :=
  running s fun s =>
    match (s.port p).slots with
    | [] => s
    | x :: _ =>
      let t := s.freeSlot p x.handle
      if !s.on (F.LN_LANE_STAT_LINK p) || !s.on (F.MAC_PORT_CFG_EN p) then
        (t.count (F.AP_PORT_CNT_MISS_LINK_N p) 1).apEvent F.AP_EVT_MISS_LINK 0x0703 p p
      else if s.pausedAt p x.start then (t.count (F.AP_PORT_CNT_MISS_PAUSED_N p) 1).apEvent F.AP_EVT_MISS_PAUSED 0x0702 p p
      else if x.late then t
      else match x.msg with
        | none => (t.count (F.AP_PORT_CNT_MISS_LATE_N p) 1).apEvent F.AP_EVT_MISS_LATE 0x0701 p p
        | some m => (t.count (F.AP_PORT_CNT_SENT_N p) 1).startFrame p x.start x.dur m

/-- An image reload counts every booked slot, loaded or not, as a miss and empties the calendars (R19, R213). Non-appointed frames that wait at
a port are not named there and go on waiting (DESIGN CHOICE, log entry 31). -/
def State.reloadCalendars (s : State) : State :=
  s.forAll (List.range 6) (fun t p =>
    let t := t.forAll (t.port p).slots (fun t _ => (t.count (F.AP_PORT_CNT_MISS_RELOAD_N p) 1).apEvent F.AP_EVT_MISS_RELOAD 0x0704 p p)
    (t.setPort p (fun q => { q with slots := [], held := [] })).showPort p)

/-- NA_FRAME_START (R215): the first waiting frame of port p starts at the next grid position where it fits before the next booked slot. -/
def execNaFrameStart (p : Fin 6) (s : State) : Host.Outcome State Fault Refusal :=
  running s fun s =>
    let q := s.port p
    match q.na with
    | [] => s
    | f :: rest =>
      let x := (s.gridAt p (max (s.nowFs : Int) (max q.busyTo q.wokeAt : Nat))).toNat
      let o := s.occupancy p f.msg.sentLen
      let clear := match q.slots with | [] => true | y :: _ => decide (x + o + s.guardFs ≤ y.start)
      if s.on (F.MAC_PORT_CFG_EN p) && s.on (F.LN_LANE_STAT_LINK p) && !s.pausedAt p x && clear then
        (s.setPort p (fun q => { q with na := rest })).startFrame p x o f.msg
      else s

/-- NA_WAIT_EXPIRY (R215): frames that have waited NA_WAIT are discarded. -/
def execNaWaitExpiry (p : Fin 6) (s : State) : Host.Outcome State Fault Refusal :=
  running s fun s =>
    let old := (s.port p).na.filter (fun f => f.since + s.naWait ≤ s.now)
    let t := s.setPort p (fun q => { q with na := q.na.filter (fun f => s.now < f.since + s.naWait) })
    t.forAll old (fun t _ => (t.count (F.AP_PORT_CNT_NA_DROP_N p) 1).apEvent F.AP_EVT_NA_DROP 0x0706 p p)

/-- Every calendar is empty (R119). -/
def State.calendarsEmpty (s : State) : Bool := s.wire.ports.all (fun q => q.slots.isEmpty)

/-! ## Latency self-calibration -/

/-- A write of AP_CAL_REQ (R219). -/
def State.writeApCalReq (s : State) (v : Word) : State :=
  let p := F.AP_CAL_REQ_PORT.ofWord v
  s.when (F.AP_CAL_REQ_GO.ofWord v == 1 && decide (p ≤ 5) && (s.laneState p == laneDown || s.laneState p == laneIdle)) (·.beginLatCal p)

/-- AP_CAL_REQUEST (R219). -/
def execApCalRequest (path : Path) (v : Word) (s : State) : Host.Outcome State Fault Refusal :=
  running s fun s => s.hostWrite path F.AP_CAL_REQ_GO.off (·.writeApCalReq v)

/-- Difference of two latencies, fs. -/
def latDiff (a b : Nat) : Nat := ((a : Int) - b).natAbs

/-- LAT_CAL_COMPLETE (R219, R220): with the mean latencies and the standard deviations of their two sets, fs. -/
def execLatCalComplete (p : Fin 6) (txLat rxLat : BitVec 32) (txSd rxSd : Nat) (s : State) : Host.Outcome State Fault Refusal :=
  running s fun s =>
    if !s.on (F.AP_PORT_STAT_CAL_BUSY p) then s
    else
      let mode := s.laneMode p + 8 * s.get (F.LN_LANE_CFG_FEC p)
      let moved := (s.port p).calPrev.any (fun e =>
        e.1 == mode && (decide (200000 < latDiff txLat.toNat e.2.1) || decide (200000 < latDiff rxLat.toNat e.2.2)))
      let bad := decide (5000 < txSd) || decide (5000 < rxSd) || moved || (s.port p).calSpoilt
      let t := s.put (F.AP_PORT_STAT_CAL_BUSY p) 0
      let t := if bad then t.event F.AP_EVT_CAL_FAIL 0x0711 p p
        else
          let t := ((t.put (F.LN_LANE_TX_LAT_LAT p) txLat.toNat).put (F.LN_LANE_RX_LAT_LAT p) rxLat.toNat).put (F.AP_PORT_STAT_CAL_OK p) 1
          ((t.setPort p (fun q => { q with calPrev := (mode, txLat.toNat, rxLat.toNat) :: q.calPrev.filter (fun e => e.1 != mode) })).event F.AP_EVT_CAL_DONE 0x0710 p p).showPort p
      t.leaveDown p

end Sys2Proof.Machine
end

