-- ==== Sys2Proof/Machine/Fabric.lean ====
section
/-! DEFINITION. The Drift fabric: host queues, distribution, tokens, cells and crypto lanes (R225 to R234, R278, R279). -/
namespace Sys2Proof.Machine

/-! ## Host queues (R278, R279) -/

/-- Ring size of a host queue from its SIZE field. -/
def ringSize (n : Nat) : Nat := 2 ^ max 4 (min 12 n)

/-- The MSI-X vector of a queue: VEC 0 or 1 acts as 2 (R377). -/
def queueVec (v : Nat) : Nat := max 2 v

/-- The byte of descriptor flags of a frame (R279): VALID, HELD, FCS, RUNT, OVERSIZE, DONE. -/
def RxFrame.descFlags (f : RxFrame) : Nat :=
  f.stamp.valid.toNat + 2 * f.stamp.held.toNat + 4 * f.fcs.toNat + 8 * f.runt.toNat + 16 * f.oversize.toNat + 128

/-- HOST_RX_DELIVER (R278): a frame is placed in receive queue q, or dropped when no descriptor is free. -/
def State.toHost (s : State) (p q : Nat) (f : RxFrame) : State :=
  let t := s.count (F.DF_PORT_CNT_SLOW p) 1
  let n := ringSize (t.get (F.PT_RX_CFG_SIZE q))
  let head := t.get (F.PT_RX_PTR_HEAD q) % n
  if !t.on (F.PT_RX_CFG_EN q) || head == t.get (F.PT_RX_PTR_TAIL q) % n then
    (t.count (F.PT_RX_STAT_DROP q) 1).eventRated (0x0738 * 8 + q) F.PT_EVT_HQ_OVF 0x0738 q q
  else
    let t := t.put (F.PT_RX_PTR_HEAD q) ((head + 1) % n)
    (t.emit (.hostFrame q head f.bytes f.descFlags p f.stamp.time)).signal 3 (queueVec (t.get (F.PT_RX_CFG_VEC q)))

/-- HOST_TX_TAIL_WRITE (R279): descriptors up to TAIL are ready for the part to fetch. -/
def execHostTxTailWrite (path : Path) (q : Fin 8) (v : Word) (s : State) : Host.Outcome State Fault Refusal :=
  running s fun s => s.hostWrite path (F.PT_TX_PTR_TAIL q).off (fun s => s.put (F.PT_TX_PTR_TAIL q) ((F.PT_TX_PTR_TAIL q).ofWord v))

/-- HOST_DESCRIPTOR_FETCHED (R278, R279): the frame of the next descriptor of transmit queue q is queued as a non-appointed frame. -/
def execHostDescriptorFetched (q : Fin 8) (port : Fin 6) (bytes : List Byte) (s : State) : Host.Outcome State Fault Refusal :=
  running s fun s =>
    let n := ringSize (s.get (F.PT_TX_CFG_SIZE q))
    let head := s.get (F.PT_TX_PTR_HEAD q) % n
    if !s.on (F.PT_TX_CFG_EN q) || head == s.get (F.PT_TX_PTR_TAIL q) % n then s
    else
      let t := (s.put (F.PT_TX_PTR_HEAD q) ((head + 1) % n)).queueNa port { bytes := bytes }
      (t.emit (.hostDone q head)).signal 3 (queueVec (t.get (F.PT_TX_CFG_VEC q)))

/-! ## Deadlines (R227) -/

/-- The deadline word of a time: low 34 bits of SEC, and NS; FRAC is dropped. -/
def deadlineWord (t : Nat) : Nat := secOf t % 2 ^ 34 * 2 ^ 30 + t % tuSec / (5 * 2 ^ 32)

/-- A deadline word in ns, modulo 2^34 s. -/
def deadlineNs (d : Nat) : Nat := d / 2 ^ 30 * 10 ^ 9 + d % 2 ^ 30

/-- 2^34 s in ns. -/
def deadlineSpan : Nat := 2 ^ 34 * 10 ^ 9

/-- Deadline d lies at or before deadline e, modulo 2^34 s. -/
def notAfter (d e : Nat) : Bool := (deadlineNs e + deadlineSpan - deadlineNs d % deadlineSpan) % deadlineSpan < deadlineSpan / 2

/-- Corrected time at a gate's latest sample tick, one every 6.4 ns (R227). -/
def State.gateTime (s : State) : Nat := s.now / (32 * 2 ^ 32) * (32 * 2 ^ 32)

/-- A token is late when its deadline word is at or before the corrected time at the gate's latest sample tick (R227). -/
def State.late (s : State) (k : Token) : Bool := notAfter k.deadline (deadlineWord s.gateTime)

/-- DF_FLOEf_STAT.IN_LEVEL of one of the 48 Floes follows the ingress queue. -/
def State.showIngress (s : State) (f : Nat) : State :=
  s.when (decide (f < 48))
    (·.put (F.DF_FLOE_STAT_IN_LEVEL f) (s.df.tokens.filter (fun k => k.floe == f && k.place == .ingress)).length)

/-- Count in a counter of one of the 48 Floes. -/
def State.countFloe (s : State) (counter : Nat → Fld) (f : Nat) : State := s.when (decide (f < 48)) (·.count (counter f) 1)

/-- The token that a job asks an appointment for. -/
def Job.token : Job → Option Nat
  | .cell tok _ _ => some tok
  | _ => none

/-- A lock is held for a token. -/
def BankLock.ofToken (l : BankLock) (tok : Nat) : Bool :=
  match l.holder with
  | .cell _ _ t => t == tok
  | .repair .. => false

/-- What a token has asked for is void: a request for a lane that still waits (R233), a held appointment request (R216), a bank lock with its
unfinished write (R316). -/
def State.forgetToken (s : State) (tok : Nat) : State :=
  { s with
    df.cx := s.df.cx.filter (fun r => r.tok != tok || r.lane.isSome)
    gl.locks := s.gl.locks.filter (fun l => !l.ofToken tok)
    wire.ports := s.wire.ports.map (fun q => { q with held := q.held.filter (fun r => r.job.token != some tok) }) }

/-- Remove a token; its buffer is freed, and what it has asked for is void. -/
def State.dropToken (s : State) (k : Token) : State :=
  ({ s with df.tokens := s.df.tokens.filter (fun (x : Token) => x.id != k.id) }.forgetToken k.id).showIngress k.floe

/-- A late token is dropped where it stands and counted by the gate of Floe f, which found it late (R227). -/
def State.dropLate (s : State) (f : Nat) (k : Token) : State :=
  let t := (s.dropToken k).countFloe F.DF_FLOE_CNT_LATE_N f
  (t.setFlag F.DF_EVT_LATE).eventLimited (0x0723 * 64 + f) F.DF_EVT_LATE 0x0723 f f

/-- A channel record of the running image. -/
def State.chanRec (s : State) (ch : Nat) : Option ChanRec :=
  match s.df.image with
  | some img => (img.graphs.flatMap Graph.chans).find? (fun r => r.id == ch)
  | none => none

/-- The Floe whose gate judges a token where it stands: at the head of a channel the one that the channel ends in (R227). -/
def State.gateOf (s : State) (k : Token) : Nat :=
  match k.place with
  | .chan ch => ((s.chanRec ch).bind (fun r => r.route.getLast?)).getD k.floe
  | .ingress | .cell _ => k.floe

/-- The token stands at the head of its channel or queue, or in a cell (R227). -/
def State.atHead (s : State) (k : Token) : Bool :=
  match k.place with
  | .cell _ => true
  | .ingress => (s.df.tokens.find? (fun x => x.place == .ingress && x.floe == k.floe)).any (fun x => x.id == k.id)
  | .chan ch => (s.df.tokens.find? (fun x => x.place == .chan ch)).any (fun x => x.id == k.id)

/-- TOKEN_LATE (R227): a gate finds token tok late, at the head of its channel or queue or in its cell. -/
def execTokenLate (tok : Nat) (s : State) : Host.Outcome State Fault Refusal :=
  running s fun s =>
    match s.df.tokens.find? (fun k => k.id == tok) with
    | some k => s.when (s.atHead k && s.late k) (·.dropLate (s.gateOf k) k)
    | none => s

/-- Token bytes in the layout of R226. -/
def Token.bytes (k : Token) : List Byte :=
  bytesLE 8 k.deadline ++ bytesLE 4 k.hash ++ bytesLE 1 (k.port % 16 + k.cls % 16 * 16) ++ bytesLE 1 k.flags ++ bytesLE 2 k.buf.length ++
    bytesLE 4 k.id ++ List.replicate 4 0 ++ (k.v.take 5).flatMap (bytesLE 8)

/-! ## Distribution (R231) -/

/-- Bytes of a frame after its tag. -/
def untag (l : List Byte) : List Byte := if tagged l then l.take 12 ++ l.drop 16 else l

/-- IP protocol and offset of the payload of an IP packet in an untagged frame. -/
def ipInfo (l : List Byte) : Option (Nat × Nat) :=
  if at2 l 12 = 0x0800 then some (((l.drop 23).headD 0).toNat, 14 + ((l.drop 14).headD 0).toNat % 16 * 4)
  else if at2 l 12 = 0x86DD then some (((l.drop 20).headD 0).toNat, 54)
  else none

/-- UDP destination port of an untagged frame. -/
def udpDest (l : List Byte) : Option Nat :=
  match ipInfo l with
  | some (17, o) => some (at2 l (o + 2))
  | _ => none

/-- A rule of the ports section matches an untagged frame. -/
def ClassRule.matches (r : ClassRule) (l : List Byte) : Bool :=
  r.ether == at2 l 12 && (r.proto.isNone || r.proto == (ipInfo l).map Prod.fst) && (r.udp.isNone || r.udp == udpDest l)

/-- The flow key (R231): source address, source port and destination port of UDP, or source MAC address and domainNumber of PTP over
IEEE 802.3. -/
def flowKey (l : List Byte) : List Byte :=
  let src := if at2 l 12 = 0x0800 then (l.drop 26).take 4 else (l.drop 22).take 16
  match ipInfo l with
  | some (_, o) => src ++ (l.drop o).take 4
  | none => (l.drop 6).take 6 ++ (l.drop 18).take 1

/-- Floe that distribution entry h names (R231, R247). -/
def State.distFloe (s : State) (h : Nat) : Nat :=
  let f : Fld := ⟨0x0C0100 + h / 8 % 32 * 8, h % 8 * 8, 6, 0, .rw, 19⟩
  min 47 (s.get f)

/-- Tokens in the ingress queue of a Floe. -/
def State.ingressLevel (s : State) (f : Nat) : Nat := (s.df.tokens.filter (fun k => k.floe == f && k.place == .ingress)).length

/-- A frame of a time class becomes a token, whose message leaves out the FCS, or is dropped on a full ingress queue (R228, R231). -/
def State.ingress (s : State) (p cls : Nat) (f : RxFrame) : State :=
  let h := crc32c (flowKey (untag f.bytes))
  let floe := s.distFloe (h % 256)
  if 64 ≤ s.ingressLevel floe then
    let t := (s.count (F.DF_FLOE_CNT_INOVF_N floe) 1).count (F.DF_PORT_CNT_DROP p) 1
    (t.setFlag F.DF_EVT_INOVF).eventRated (0x0724 * 8 + p) F.DF_EVT_INOVF 0x0724 p 0
  else
    let start := if f.stamp.valid then f.stamp.time else s.now
    let ttl := max 100 (min 8000 (s.get F.DF_CFG_TTL))
    let k : Token :=
      { id := s.df.nextTok, floe := floe, place := .ingress, deadline := deadlineWord (start + ttl * tuUs), hash := h, port := p, cls := cls % 16,
        flags := f.stamp.valid.toNat + 2 * f.stamp.held.toNat + 4 * f.fcs.toNat + 8 * f.runt.toNat + 16 * f.oversize.toNat +
          32 * (tagged f.bytes).toNat,
        v := [0, 0, 0, 0, 0], buf := f.bytes.take (f.bytes.length - 4), fcs := f.bytes.drop (f.bytes.length - 4), stamp := f.stamp }
    let t := { s with df.tokens := s.df.tokens ++ [k], df.nextTok := s.df.nextTok + 1 }
    (t.count (F.DF_FLOE_CNT_IN_N floe) 1).showIngress floe

/-- DISTRIBUTOR_INGRESS (R200, R231): the oldest frame of port p's receive buffer is taken. -/
def execDistributorIngress (p : Fin 6) (s : State) : Host.Outcome State Fault Refusal :=
  running s fun s =>
    match (s.wire.macs.getD p {}).rx, s.df.image with
    | f :: rest, some img =>
      if s.get F.DF_STAT_STATE ≠ 1 then s
      else
        let t := s.setMac p (fun m => { m with rx := rest })
        match img.classes.find? (fun r => r.matches (untag f.bytes)) with
        | some r => if r.timed && f.bytes.length ≤ img.bufSize then t.ingress p r.cls f else t.toHost p r.queue f
        | none => t.toHost p 0 f
    | _, _ => s

/-! ## Cells (R229) -/

/-- The cell at site c of Floe f. -/
def State.cellAt (s : State) (f c : Nat) : Option CellRec :=
  match s.df.image with
  | some img => (img.graphs.find? (fun g => g.floe == f)).bind (fun g => g.cells[c]?)
  | none => none

/-- Capacity of a channel: 2 tokens within a Floe, 4 on the mesh (R225). -/
def State.chanRoom (s : State) (ch : Nat) : Nat :=
  match s.chanRec ch with
  | some r => if r.route.length ≤ 1 then 2 else 4
  | none => 2

/-- The place that a cell takes tokens from: an input channel, or the ingress queue of its Floe for a cell without one. -/
def CellRec.source (r : CellRec) (input : Nat) : Place :=
  match r.inputs[input]? with
  | some ch => .chan ch
  | none => .ingress

/-- The token at the head of a cell's input. -/
def State.headToken (s : State) (f : Nat) (r : CellRec) (input : Nat) : Option Token :=
  s.df.tokens.find? (fun k => match r.source input with
    | .ingress => r.inputs.isEmpty && k.place == .ingress && k.floe == f
    | pl => k.place == pl)

/-- Move a token to a place of Floe f, behind the tokens there. -/
def State.moveToken (s : State) (k : Token) (f : Nat) (pl : Place) : State :=
  ({ s with df.tokens := s.df.tokens.filter (fun (x : Token) => x.id != k.id) ++ [{ k with floe := f, place := pl }] }.showIngress k.floe).showIngress f

/-- Pass a token to output o of a cell, of which there are four: none while the channel is full; an output that the image leaves unconnected
drops the token. -/
def State.passToken (s : State) (f : Nat) (r : CellRec) (k : Token) (o : Nat) : Option State :=
  match (r.outputs.take 4)[o]? with
  | some ch =>
    if (s.df.tokens.filter (fun (x : Token) => x.place == .chan ch && x.id != k.id)).length < s.chanRoom ch then
      some (s.moveToken { k with out := none } f (.chan ch))
    else none
  | none => some (s.dropToken k)

/-- Pass a token to output o of cell c, or hold it in the cell while the output channel is full (R229). -/
def State.deliverToken (s : State) (f c : Nat) (r : CellRec) (k : Token) (o : Nat) : State :=
  (s.passToken f r k o).getD (s.moveToken { k with out := some o } f (.cell c))

/-- The token that cell c of Floe f holds. -/
def State.tokenIn (s : State) (f c : Nat) : Option Token := s.df.tokens.find? (fun k => k.floe == f && k.place == .cell c)

/-- A cell's turn: it delivers the token it holds once the output has room, and takes no other before. Else it accepts the token at the head of an
input: it consults the gate, and then acts (R227, R229). -/
def State.accept (s : State) (f c input : Nat) (act : State → CellRec → Token → State) : State :=
  match s.cellAt f c with
  | none => s
  | some r =>
    if s.get F.DF_STAT_STATE != 1 then s
    else match s.tokenIn f c with
      | some k => match k.out with
        | some o => if s.late k then s.dropLate f k else s.deliverToken f c r k o
        | none => s
      | none => match s.headToken f r input with
        | none => s
        | some k => if s.late k then s.dropLate f k else act s r k

/-- V register n of a token. -/
def Token.reg (k : Token) (n : Nat) : Nat := k.v.getD n 0

/-- Write V register n. -/
def Token.setReg (k : Token) (n v : Nat) : Token := { k with v := k.v.set n (v % 2 ^ 64) }

/-- Write a time word into V registers n and n + 1 (R229). -/
def Token.setTime (k : Token) (n t : Nat) : Token := (k.setReg n (secOf t)).setReg (n + 1) (nsfOf t)

/-- Buffer size of the running image (R225). -/
def State.bufSize (s : State) : Nat := match s.df.image with | some img => img.bufSize | none => 0

/-- Store bytes into a buffer of n bytes at an offset. Bytes beyond the message lengthen it; none go beyond the buffer (log entry 7). -/
def Token.store (k : Token) (n off : Nat) (l : List Byte) : Token :=
  let l := l.take (n - off)
  if l.isEmpty then k
  else
    let b := k.buf ++ List.replicate (off + l.length - k.buf.length) 0
    { k with buf := b.take off ++ l ++ b.drop (off + l.length) }

/-- One byte field: buffer offset, V register and byte of it (R229). -/
def Token.parseField (k : Token) (x : Nat × Nat × Nat) : Token :=
  if x.1 < 256 then
    let pos := 2 ^ (8 * (x.2.2 % 8))
    let v := k.reg x.2.1
    k.setReg x.2.1 (v - v / pos % 256 * pos + ((k.buf.drop x.1).headD 0).toNat * pos)
  else k

/-- A token after a parse cell, of at most 32 fields (R229). -/
def Token.parse (k : Token) (fields : List (Nat × Nat × Nat)) : Token := (fields.take 32).foldl Token.parseField k

/-- Output of a parse cell: by class and tag (log entry 7). -/
def Token.parseOutput (k : Token) (outs : List Nat) : Nat := outs.getD (2 * k.cls + k.flags / 32 % 2) 0

/-- Output of a match cell: that of the first of at most eight constants that matches under the mask, else 3 (R229). -/
def Token.matchOutput (k : Token) (v mask : Nat) (arms : List (Nat × Nat)) : Nat :=
  match (arms.take 8).find? (fun a => (k.reg v ^^^ a.1) &&& mask == 0) with | some a => a.2 | none => 3

/-- PARSE_CELL (R229): byte fields of the first 256 bytes go into V0 to V4. -/
def execParseCell (f : Fin 48) (c : Fin 64) (s : State) : Host.Outcome State Fault Refusal :=
  running s fun s => s.accept f c 0 fun s r k =>
    match r.op with
    | .parse fields outs =>
      s.deliverToken f c r (k.parse fields) (k.parseOutput outs)
    | _ => s

/-- MATCH_CELL (R229): the output of the first constant that matches, or output 3. -/
def execMatchCell (f : Fin 48) (c : Fin 64) (s : State) : Host.Outcome State Fault Refusal :=
  running s fun s => s.accept f c 0 fun s r k =>
    match r.op with
    | .compare v mask arms =>
      s.deliverToken f c r k (k.matchOutput v mask arms)
    | _ => s

/-- Result of a 64-bit operation (R229). -/
def AluOp.eval (op : AluOp) (a b : Nat) : Nat :=
  match op with
  | .add => a + b
  | .sub => a + 2 ^ 64 - b
  | .mul => a * b
  | .shl => if b < 64 then a * 2 ^ b else 0
  | .shr => if b < 64 then a / 2 ^ b else 0
  | .and => a &&& b
  | .or => a ||| b
  | .xor => a ^^^ b
  | _ => a

/-- A token after a compute cell, and the output: 0, 1, 2 for less, equal and greater of a comparison, else 0 (log entry 7). -/
def Token.compute (n : Nat) (k : Token) (op : AluOp) (a : Nat) (b : Option Nat) (imm dst : Nat) : Token × Nat :=
  let x := k.reg a
  let y := match b with | some n => k.reg n | none => imm % 2 ^ 64
  match op with
  | .cmp => (k, if x < y then 0 else if x = y then 1 else 2)
  | .byteWrite => (k.store n y [BitVec.ofNat 8 x], 0)
  | .timeAdd =>
    let nsf := k.reg (a + 1) + (match b with | some n => k.reg (n + 1) | none => imm)
    let carry := nsf / (10 ^ 9 * 2 ^ 32)
    let sec := x + (match b with | some n => k.reg n | none => 0) + carry
    ((k.setReg dst (sec % 2 ^ 48)).setReg (dst + 1) (nsf % (10 ^ 9 * 2 ^ 32)), 0)
  | _ =>
    let r := op.eval x y % 2 ^ 64
    if dst = 5 then (if notAfter r k.deadline then { k with deadline := r } else k, 0) else (k.setReg dst r, 0)

/-- COMPUTE_CELL (R228, R229): one 64-bit operation; a later deadline is left unwritten. -/
def execComputeCell (f : Fin 48) (c : Fin 64) (input : Fin 2) (s : State) : Host.Outcome State Fault Refusal :=
  running s fun s => s.accept f c input fun s r k =>
    match r.op with
    | .compute op a b imm dst =>
      let q := k.compute s.bufSize op a b imm dst
      s.deliverToken f c r q.1 q.2
    | _ => s

/-! ## Table cells (R230) -/

/-- Address of entry i of len bytes in a table space: true for Glacier memory; none outside the region or partition. -/
def State.tableAddr (s : State) (f : Nat) (space : TableSpace) (len i : Nat) : Option (Bool × Nat) :=
  match space with
  | .sram base size => if (i + 1) * len ≤ size ∧ base + size ≤ 2 ^ 18 then some (false, f * 2 ^ 18 + base + i * len) else none
  | .glacier part =>
    match (s.df.image.map Image.parts).getD [] |>.find? (fun p => p.id == part) with
    | some p => if (i + 1) * len ≤ p.size then some (true, p.base + i * len) else none
    | none => none

/-- Read an entry: none where it is poisoned or Glacier memory refuses the access. -/
def State.readTable (s : State) (a : Bool × Nat) (len : Nat) : State × Option (List Byte) :=
  if a.1 then (if s.glReady then s.glRead a.2 len else (s, none))
  else if s.gl.floePoison.any (fun w => a.2 < w + 8 && w < a.2 + len) then (s, none)
  else (s, some (readBytes s.df.sram a.2 len))

/-- Write an entry. -/
def State.writeTable (s : State) (a : Bool × Nat) (l : List Byte) : State :=
  if a.1 then s.when s.glReady (·.glWrite a.2 l)
  else { s with df.sram := writeBytes s.df.sram a.2 l, gl.floePoison := s.gl.floePoison.filter (fun w => !(a.2 ≤ w && w + 8 ≤ a.2 + l.length)) }

/-- A table cell's access (R229, R230): the state, the token and the output 0 hit, 1 miss, 2 fault. -/
def State.tableAct (s : State) (f : Nat) (k : Token) (a : Bool × Nat) (len : Nat) (act : TableAct) (buf expect : Nat) : State × Token × Nat :=
  let data (off : Nat) := (k.buf.drop off).take len ++ List.replicate (len - ((k.buf.drop off).take len).length) 0
  match act with
  | .write => (s.writeTable a (data buf), k, 0)
  | _ =>
    let q := s.readTable a len
    match q.2 with
    | none =>
      let t := (q.1.writeTable a (List.replicate len 0)).count (F.DF_FLOE_CNT_POISON_N f) 1
      ((t.setFlag F.DF_EVT_POISON).eventRated (0x0727 * 64 + f) F.DF_EVT_POISON 0x0727 f 0, { k with flags := k.flags ||| 64 }, 2)
    | some l =>
      if act = .cas then (if l == data expect then (q.1.writeTable a (data buf), k, 0) else (q.1, k, 1))
      else (q.1, k.store s.bufSize buf l, if l.all (· == 0) then 1 else 0)

/-- A table cell's turn ends: the token takes the output of its access. -/
def State.tableEnd (s : State) (f c : Nat) (r : CellRec) (k : Token) (a : Bool × Nat) (len : Nat) (act : TableAct) (buf expect : Nat) : State :=
  let q := s.tableAct f k a len act buf expect
  q.1.deliverToken f c r q.2.1 q.2.2

/-- The lock that a table cell holds for the token in it. -/
def State.cellLock (s : State) (f c : Nat) : Option BankLock :=
  s.gl.locks.find? (fun l => match l.holder with | .cell g d _ => g == f && d == c | .repair .. => false)

/-- A table cell takes a token (R229, R230, R316): an index outside faults. A compare-and-swap in Glacier memory takes the lock of the entry's bank
and keeps the token until its next turn; every access waits for a bank that another holds. -/
def State.tableTake (s : State) (f c : Nat) (r : CellRec) (k : Token) : State :=
  match r.op with
  | .table space len index act buf expect =>
    match s.tableAddr f space (min 64 len) (k.reg index) with
    | some a =>
      if a.1 && (s.lockOf (bankOf a.2)).isSome then s
      else if a.1 && act == .cas && s.glReady then (s.moveToken k f (.cell c)).takeLock (bankOf a.2) (.cell f c k.id)
      else s.tableEnd f c r k a (min 64 len) act buf expect
    | none =>
      let t := s.count (F.DF_FLOE_CNT_BOUNDS_N f) 1
      ((t.setFlag F.DF_EVT_BOUNDS).eventRated (0x0725 * 64 + f) F.DF_EVT_BOUNDS 0x0725 f 0).deliverToken f c r k 2
  | _ => s

/-- A table cell that holds a bank lock ends its compare-and-swap and releases the lock, in a second command (R316; DESIGN CHOICE, log entry 55). -/
def State.tableSwap (s : State) (f c : Nat) (l : BankLock) : State :=
  match s.cellAt f c, s.tokenIn f c with
  | some r, some k =>
    match r.op with
    | .table space len index act buf expect =>
      match s.tableAddr f space (min 64 len) (k.reg index) with
      | some a => (s.freeLock l.bank).tableEnd f c r k a (min 64 len) act buf expect
      | none => s.freeLock l.bank
    | _ => s.freeLock l.bank
  | _, _ => s.freeLock l.bank

/-- TABLE_CELL (R229, R230, R316). -/
def execTableCell (f : Fin 48) (c : Fin 64) (s : State) : Host.Outcome State Fault Refusal :=
  running s fun s =>
    match s.cellLock f c with
    | some l => s.tableSwap f c l
    | none => s.accept f c 0 (fun s r k => s.tableTake f c r k)

/-- A lock is taken from its holder (R230, R316): a table cell's unfinished write is discarded and its token takes the fault output; a row
under repair stays unrepaired until its next error. -/
def State.loseLock (s : State) (l : BankLock) : State :=
  let t := s.freeLock l.bank
  match l.holder with
  | .cell f c _ =>
    match t.cellAt f c, t.tokenIn f c with
    | some r, some k => t.deliverToken f c r k 2
    | _, _ => t
  | .repair row _ => { t with gl.due := t.gl.due.filter (· != l.bank + row * 2 ^ 8), gl.spared := (l.bank + row * 2 ^ 8) :: t.gl.spared }

/-- BANK_LOCK_REVOKE (R230, R316): a bank lock held beyond its limit is revoked. -/
def execBankLockRevoke (bank channel : BitVec 4) (s : State) : Host.Outcome State Fault Refusal :=
  running s fun s =>
    let id : BitVec 8 := bank ++ channel
    match s.lockOf id.toNat with
    | some l => s.when (s.lockOverdue l) (fun s =>
        ((s.loseLock l).count F.GL_CNT_REVOKE_REVOKE 1).eventRated (0x0809 * 8) F.EC_EVT_REVOKE 0x0809 0 id.toNat)
    | none => s

/-! ## Crypto lanes (R232, R233) -/

/-- Lane kind of an operation: 0 AES, 1 SHA-256, 2 public key. -/
def CxOp.kind : CxOp → Nat
  | .sivSeal | .sivOpen | .cmacGen | .cmacVerify => 0
  | .sha | .hmacGen | .hmacVerify | .hmacGen128 | .hmacVerify128 => 1
  | .sign | .verify => 2

/-- Lanes of a kind (R232). -/
def laneCount : Nat → Nat
  | 0 => 24 | 1 => 12 | _ => 2

/-- CX_STAT and CX_LANE_OFF fields of a kind. -/
def cxBusy : Nat → Fld
  | 0 => F.CX_STAT_AES_BUSY | 1 => F.CX_STAT_SHA_BUSY | _ => F.CX_STAT_PK_BUSY
def cxOff : Nat → Fld
  | 0 => F.CX_LANE_OFF_AES | 1 => F.CX_LANE_OFF_SHA | _ => F.CX_LANE_OFF_PK

/-- CX_AGE_MAX and CX_CNT_REVOKE fields of a kind, and the counter of a lane. -/
def cxAge : Nat → Fld
  | 0 => F.CX_AGE_MAX_AES | 1 => F.CX_AGE_MAX_SHA | _ => F.CX_AGE_MAX_PK
def cxRevoked : Nat → Fld
  | 0 => F.CX_CNT_REVOKE_AES | 1 => F.CX_CNT_REVOKE_SHA | _ => F.CX_CNT_REVOKE_PK
def cxCounter : Nat → Nat → Fld
  | 0, l => F.CX_AES_CNT_N l | 1, l => F.CX_SHA_CNT_N l | _, l => F.CX_PK_CNT_N l

/-- Slot types and operation bit that an operation needs (R286, R288); none for plain SHA-256. -/
def CxOp.needs : CxOp → Option (List Nat × Nat)
  | .sivSeal => some ([2], 19)
  | .sivOpen => some ([2], 20)
  | .cmacGen => some ([1], 21)
  | .cmacVerify => some ([1], 22)
  | .sha => none
  | .hmacGen | .hmacGen128 => some ([3], 21)
  | .hmacVerify | .hmacVerify128 => some ([3], 22)
  | .sign => some ([4, 5], 25)
  | .verify => some ([4, 5], 22)

/-- 16-byte blocks of n bytes. -/
def blocks16 (n : Nat) : Nat := (n + 15) / 16

/-- Bytes that an operation puts out, from n input bytes (R232). -/
def CxOp.outLen (op : CxOp) (n : Nat) : Nat :=
  match op with
  | .sivSeal => n + 16
  | .sivOpen => n - 16
  | .cmacGen | .hmacGen128 => 16
  | .sha | .hmacGen => 32
  | .sign => 64
  | .cmacVerify | .hmacVerify | .hmacVerify128 | .verify => 0

/-- Bytes of the authenticator that a verification compares. -/
def CxOp.tagLen : CxOp → Nat
  | .cmacVerify | .hmacVerify128 => 16
  | .hmacVerify => 32
  | .verify => 64
  | .sivSeal | .sivOpen | .cmacGen | .hmacGen128 | .sha | .hmacGen | .sign => 0

/-- Work of an operation in the unit its lane counts: AES blocks, SHA-256 compressions, public-key operations (R248; log entry 3). -/
def CxOp.work (op : CxOp) (ad n : Nat) : Nat :=
  match op with
  | .sivSeal | .sivOpen => 1 + max 1 (blocks16 ad) + max 1 (blocks16 n) + blocks16 n
  | .cmacGen | .cmacVerify => max 1 (blocks16 n)
  | .sha => (n + 72) / 64
  | .hmacGen | .hmacVerify | .hmacGen128 | .hmacVerify128 => (n + 72) / 64 + 1
  | .sign | .verify => 1

/-- Result of a granted operation: the verdict of a verification, and the bytes it puts out. -/
def CxOp.result (op : CxOp) (ty : Nat) (key ad input tag : List Byte) : Bool × List Byte :=
  match op with
  | .sivSeal => (true, Config.aesSiv key [] ad input)
  | .sivOpen => match Config.aesSivOpen key [] ad input with | some l => (true, l) | none => (false, [])
  | .cmacGen => (true, (Config.aesCmac key input).take 16)
  | .cmacVerify => ((Config.aesCmac key input).take 16 == tag.take 16, [])
  | .sha => (true, sha256 input)
  | .hmacGen => (true, hmacSha256 key input)
  | .hmacVerify => (hmacSha256 key input == tag.take 32, [])
  | .hmacGen128 => (true, (hmacSha256 key input).take 16)
  | .hmacVerify128 => ((hmacSha256 key input).take 16 == tag.take 16, [])
  | .sign => (true, (Config.signature ty key input).take 64)
  | .verify => (Config.verifySignature ty (Config.publicKey ty key) input (tag.take 64), [])

/-- Replace the request of a token. -/
def State.setCx (s : State) (tok : Nat) (g : CxReq → CxReq) : State :=
  { s with df.cx := s.df.cx.map (fun r => if r.tok = tok then g r else r) }

/-- Free the lane of a request. -/
def State.freeLane (s : State) (r : CxReq) : State :=
  match r.lane with
  | some l => s.put (cxBusy r.kind) (s.get (cxBusy r.kind) &&& (2 ^ 64 - 1 - 2 ^ l))
  | none => s

/-- The token of an answered request takes an output, or waits in its cell while the channel is full. -/
def State.answerCx (s : State) (r : CxReq) (o : Nat) : State :=
  let t := { s with df.cx := s.df.cx.filter (fun x => x.tok != r.tok) }
  match t.df.tokens.find? (fun k => k.id == r.tok), t.cellAt r.floe r.cell with
  | some k, some cr => t.deliverToken r.floe r.cell cr k o
  | _, _ => t

/-- A request ends with a status that is not OK: the failure output, counted, its output bytes discarded (R232). -/
def State.failCx (s : State) (r : CxReq) (status : Nat) : State :=
  (((s.freeLane r).keyDenied status).countFloe F.DF_FLOE_CNT_CXFAIL_N r.floe).answerCx r 2

/-- Status of a call at its issue (R232, R288): of its key, then 0x03 BADARG where a range lies outside the message or the output outside the
buffer (log entry 7). -/
def State.callStatus (s : State) (k : Token) : CellOp → Nat
  | .crypto _ op slot adOff adLen inOff inLen tagOff outOff =>
    let status := match op.needs with | some (types, bit) => s.keyCheck 8 slot types bit | none => 0
    if status ≠ 0 then status
    else if k.buf.length < adOff + adLen ∨ k.buf.length < inOff + inLen ∨ k.buf.length < tagOff + op.tagLen ∨
      s.bufSize < outOff + op.outLen inLen then 0x03
    else 0
  | _ => 0

/-- The request of a call cell for the token it takes: it names its key from here on (R294). -/
def State.callOf (s : State) (f c : Nat) (k : Token) (port slot : Nat) (op : CxOp) : CxReq :=
  { tok := k.id, floe := f, cell := c, port := 2 * f + port % 2, kind := op.kind, issued := s.now, slot := op.needs.map (fun _ => slot),
    ty := attrType (s.slotAttr slot), key := s.slotKey slot }

/-- CRYPTO_CALL (R229, R232): a call cell issues its operation, or delivers a token that waited for room. -/
def execCryptoCall (f : Fin 48) (c : Fin 64) (s : State) : Host.Outcome State Fault Refusal :=
  running s fun s => s.accept f c 0 fun s r k =>
    match r.op with
    | .crypto port op slot _ _ _ _ _ _ =>
      let q := s.callOf f c k port slot op
      let t := s.moveToken k f (.cell c)
      let status := s.callStatus k r.op
      if status ≠ 0 then t.failCx q status else { t with df.cx := t.df.cx ++ [q] }
    | _ => s

/-- The waiting request that a lane kind grants next: earliest issue time, then lower port (R233). -/
def State.nextCx (s : State) (kind : Nat) : Option CxReq :=
  (s.df.cx.filter (fun r => r.kind == kind && r.lane.isNone)).foldl (fun b r =>
    match b with
    | none => some r
    | some x => if r.issued < x.issued || (r.issued == x.issued && r.port < x.port) then some r else b) none

/-- CRYPTO_LANE_GRANT (R233, R234). -/
def execCryptoLaneGrant (kind : Fin 3) (s : State) : Host.Outcome State Fault Refusal :=
  running s fun s =>
    let taken := s.get (cxBusy kind) ||| s.get (cxOff kind)
    match (List.range (laneCount kind)).find? (fun l => taken / 2 ^ l % 2 == 0), s.nextCx kind with
    | some l, some r =>
      let wait := (s.now - r.issued) / (if kind.val = 2 then tuUs else tuUs / 100)
      let t := (s.put (cxBusy kind) (s.get (cxBusy kind) ||| 2 ^ l)).putSat (cxAge kind) (max wait (s.get (cxAge kind)))
      t.setCx r.tok (fun x => { x with lane := some l, granted := s.now })
    | _, _ => s

/-- The request that holds a lane. -/
def State.holderOf (s : State) (kind lane : Nat) : Option CxReq := s.df.cx.find? (fun r => r.kind == kind && r.lane == some lane)

/-- A crypto operation ends with its result, under the key its call named (R232, R294). -/
def State.completeCx (s : State) (r : CxReq) : State :=
  match s.df.tokens.find? (fun k => k.id == r.tok), (s.cellAt r.floe r.cell).map CellRec.op with
  | some k, some (.crypto _ op _ adOff adLen inOff inLen tagOff outOff) =>
    let range (off n : Nat) := (k.buf.drop off).take n
    let q := op.result r.ty r.key (range adOff adLen) (range inOff inLen) (range tagOff op.tagLen)
    let t := (s.freeLane r).count (cxCounter r.kind (r.lane.getD 0)) (op.work adLen inLen)
    let k' := if q.1 then k.store s.bufSize outOff q.2 else k
    let t := { t with df.tokens := t.df.tokens.map (fun (x : Token) => if x.id = k.id then k' else x) }
    t.answerCx r (if q.1 then 0 else 1)
  | _, _ => (s.freeLane r).answerCx r 2

/-- CRYPTO_OP_COMPLETE (R232). -/
def execCryptoOpComplete (kind : Fin 3) (lane : Nat) (s : State) : Host.Outcome State Fault Refusal :=
  running s fun s =>
    match s.holderOf kind lane with
    | some r => s.completeCx r
    | none => s

/-- Hold limit of a lane kind, in units of State.now (R248). -/
def State.holdMax (s : State) : Nat → Nat
  | 0 => max 1 (s.get F.CX_HOLD_MAX_AES) * (tuUs / 100)
  | 1 => max 1 (s.get F.CX_HOLD_MAX_SHA) * (tuUs / 100)
  | _ => max 1 (s.get F.CX_HOLD_MAX_PK) * tuUs

/-- CRYPTO_LANE_REVOKE (R233): a lane held beyond CX_HOLD_MAX is taken from its holder. -/
def execCryptoLaneRevoke (kind : Fin 3) (lane : Nat) (s : State) : Host.Outcome State Fault Refusal :=
  running s fun s =>
    match s.holderOf kind lane with
    | some r => s.when (decide (r.granted + s.holdMax kind < s.now)) (fun s =>
        ((s.failCx r 0x09).count (cxRevoked kind) 1).event F.CX_EVT_REVOKE 0x0726 lane (kind.val + lane * 256))
    | none => s

/-- Every crypto operation in progress and every call that waits ends with a status (R296, R373). -/
def State.abortCx (s : State) (status : Nat) : State := s.forAll s.df.cx (fun t r => t.failCx r status)

/-- Every crypto call that names a slot ends with a status (R290). -/
def State.abortSlot (s : State) (slot status : Nat) : State :=
  s.forAll (s.df.cx.filter (fun r => r.slot == some slot)) (fun t r => t.failCx r status)

/-! ## Stamp and emit cells (R229) -/

/-- The answer to a stamp cell's appointment request reaches its token: V registers and arrival deadline, or the refused output
(R208, R228, R229). -/
def State.answerCell (s : State) (tok c v : Nat) (a : Option ApSlot) : State :=
  match s.df.tokens.find? (fun k => k.id == tok) with
  | none => s
  | some k =>
    match s.cellAt k.floe c, a with
    | some r, some x =>
      let k' := { k.setTime v x.appt with deadline := deadlineWord (s.arrivalDeadline x), slot := some x.handle }
      s.deliverToken k.floe c r k' 0
    | some r, none => s.deliverToken k.floe c r k 1
    | none, _ => s

/-- A request to port p: held while granting is stopped, else judged at once (R208, R216). -/
def State.holdRequest (s : State) (p len : Nat) (nb : Option Nat) (j : Job) : State :=
  s.setPort p (fun q => { q with held := q.held ++ [⟨len, nb, j⟩] })

/-- STAMP_CELL (R216, R229): an appointment request, the ingress stamp, or a sample of corrected time. -/
def execStampCell (f : Fin 48) (c : Fin 64) (s : State) : Host.Outcome State Fault Refusal :=
  running s fun s => s.accept f c 0 fun s r k =>
    match r.op with
    | .stamp .fetch v => s.deliverToken f c r (k.setTime v k.stamp.time) 0
    | .stamp .sample v => s.deliverToken f c r (k.setTime v s.now) 0
    | .stamp (.appoint nb) v =>
      let at? := nb.map (fun n => k.reg n * tuSec + k.reg (n + 1) * 5)
      let len := k.buf.length + 4
      let t := s.moveToken k f (.cell c)
      if t.on (F.AP_PORT_STAT_HOLD k.port) then t.holdRequest k.port len at? (.cell k.id c v)
      else
        let q := t.apRequest k.port len at?
        q.1.answerCell k.id c v q.2
    | _ => s

/-- A token's frame as a host queue takes it: its message with the FCS, as received where that was bad (R231, R279). -/
def Token.hostBytes (k : Token) : List Byte := k.buf ++ (if k.flags / 4 % 2 = 1 then k.fcs else fcsOf k.buf)

/-- An emit cell hands its token's message on (R229, R231): to a port, a host queue, another Floe's ingress queue, or a counted drop. -/
def State.emitToken (s : State) (f : Nat) (k : Token) : EmitTarget → State
  | .port =>
    let t := s.dropToken k
    match k.slot with
    | some h => t.handOff k.port h { bytes := k.buf }
    | none => t.queueNa k.port { bytes := k.buf }
  | .queue q =>
    (s.dropToken k).toHost k.port (q % 8)
      { bytes := k.hostBytes, stamp := k.stamp, fcs := k.flags / 4 % 2 == 1, runt := k.flags / 8 % 2 == 1, oversize := k.flags / 16 % 2 == 1 }
  | .floe g =>
    let g := min 47 g
    if 64 ≤ s.ingressLevel g then
      let t := (s.dropToken k).count (F.DF_FLOE_CNT_INOVF_N g) 1
      (t.setFlag F.DF_EVT_INOVF).eventRated (0x0724 * 8 + k.port) F.DF_EVT_INOVF 0x0724 k.port 0
    else (s.moveToken k g .ingress).count (F.DF_FLOE_CNT_IN_N g) 1
  | .drop => (s.dropToken k).count (F.DF_FLOE_CNT_DROP_N f) 1

/-- EMIT_CELL (R229, R231). -/
def execEmitCell (f : Fin 48) (c : Fin 64) (s : State) : Host.Outcome State Fault Refusal :=
  running s fun s => s.accept f c 0 fun s r k =>
    match r.op with
    | .emit target => s.emitToken f k target
    | _ => s

end Sys2Proof.Machine
end

