-- ==== Sys2Proof/Machine/Leap.lean ====
section
/-! DEFINITION. The leap table and what follows from it: UTC, NTP timestamps and smear (R33 to R39, R273 to R276), and ESMC (R277). -/
namespace Sys2Proof.Machine

/-! ## The table -/

/-- An entry of the leap table: effective TAI second, offset Δ, source (R33, R282). -/
structure Leap where
  te : Nat
  delta : Int
  src : Nat
  deriving DecidableEq, Repr

/-- The valid entries, by rising effective second (R273). -/
def State.leaps (s : State) : List Leap :=
  (List.range 64).filterMap (fun j =>
    if s.on (F.PT_LEAP_VALID j) then some ⟨s.get (F.PT_LEAP_TE j), s.getI (F.PT_LEAP_DELTA j), s.get (F.PT_LEAP_SRC j)⟩ else none)

/-- Show a table of at most 64 entries. -/
def State.putLeaps (s : State) (l : List Leap) : State :=
  let t := s.forAll (List.range 64) (fun t j =>
    let e := l.getD j ⟨0, 0, 0⟩
    (((t.put (F.PT_LEAP_TE j) e.te).putI (F.PT_LEAP_DELTA j) e.delta).put (F.PT_LEAP_SRC j) e.src).putB (F.PT_LEAP_VALID j)
      (decide (j < l.length)))
  t.put F.PT_LEAP_CFG_COUNT l.length

/-- The last entry that applies at TAI second t. -/
def State.leapAt (s : State) (t : Nat) : Option Leap := (s.leaps.filter (fun e => e.te ≤ t)).getLast?

/-- Δ(t) of R33; none while UTC is unknown. -/
def State.delta (s : State) (t : Nat) : Option Int := (s.leapAt t).map Leap.delta

/-- The copy of the table in Glacier memory is brought up to date (R273). -/
def State.copyLeaps (s : State) : State := s.writeCopy leapCopy ((List.range 64).map (fun j => s.word (fieldsAt (F.PT_LEAP_TE j).off)))

/-- The table as a copy holds it. -/
def State.showLeaps (s : State) (l : List Nat) : State :=
  let t := s.forAll l.zipIdx (fun t e => t.putWord (fieldsAt (F.PT_LEAP_TE e.2).off) e.1)
  t.put F.PT_LEAP_CFG_COUNT t.leaps.length

/-- An accepted change (R273): the copy follows, the version counts and event 0x0733 names entry and source. -/
def State.leapChanged (s : State) (j src : Nat) : State :=
  (s.copyLeaps.put F.PT_LEAP_CFG_VER (s.get F.PT_LEAP_CFG_VER + 1)).event F.PT_EVT_LEAP 0x0733 0 (j % 64 + src * 256)

/-- A write or offer is refused with a reason (R273, R274). -/
def State.leapRefused (s : State) (reason : Nat) : State := s.event F.PT_EVT_LEAP_REJ 0x0734 0 reason

/-- What R273 finds wrong between an entry and the next: 0 nothing, 1 the step, 2 the day boundary. -/
def leapStep (a b : Leap) : Nat :=
  if b.delta ≠ a.delta + 1 ∧ b.delta ≠ a.delta - 1 then 1
  else if ((b.te : Int) - max a.delta b.delta + 1) % 86400 ≠ 0 then 2
  else 0

/-- What R273 finds wrong with a new entry between its neighbours; an end of the table sets no condition. -/
def leapFault (before : List Leap) (e : Leap) (after : List Leap) : Nat :=
  let a := match before.getLast? with | some x => leapStep x e | none => 0
  if a ≠ 0 then a else match after.head? with | some x => leapStep e x | none => 0

/-- An insertion (R273): it replaces the entry with the same tₑ; into a full table it drops the entry with the smallest tₑ. -/
def State.insertLeap (s : State) (e : Leap) : State :=
  let others := s.leaps.filter (fun x => x.te != e.te)
  let before := others.filter (fun x => x.te < e.te)
  let after := others.filter (fun x => e.te < x.te)
  let fault := leapFault before e after
  if fault ≠ 0 then s.leapRefused fault
  else
    let full := decide (64 ≤ others.length)
    let before' := if full then before.drop 1 else before
    let after' := if full && before.isEmpty then after.drop 1 else after
    let t := s.when full (·.event F.PT_EVT_LEAP_FULL 0x073B 0 0)
    (t.putLeaps (before' ++ e :: after')).leapChanged before'.length e.src

/-- A deletion (R273). -/
def State.deleteLeap (s : State) (te : Nat) : State :=
  match s.leaps.findIdx? (fun e => e.te == te) with
  | some j => (s.putLeaps (s.leaps.filter (fun e => e.te != te))).leapChanged j 1
  | none => s

/-- A write of PT_LEAP_WR (R273, R282). -/
def State.writeLeap (s : State) (v : Word) : State :=
  let te := F.PT_LEAP_WR_TE.ofWord v
  match F.PT_LEAP_WR_OP.ofWord v with
  | 1 => s.insertLeap ⟨te, signedOf 10 (F.PT_LEAP_WR_DELTA.ofWord v), 1⟩
  | 2 => s.deleteLeap te
  | _ => s

/-- The word of PT_LEAP_WR. -/
def leapWord (te : BitVec 48) (delta : BitVec 10) (op : Nat) : Word := BitVec.ofNat 64 (te.toNat + delta.toNat * 2 ^ 48 + op * 2 ^ 58)

/-- LEAP_INSERT (R273). -/
def execLeapInsert (path : Path) (te : BitVec 48) (delta : BitVec 10) (s : State) : Host.Outcome State Fault Refusal :=
  running s fun s => s.hostWrite path F.PT_LEAP_WR_TE.off (·.writeLeap (leapWord te delta 1))

/-- LEAP_DELETE (R273). -/
def execLeapDelete (path : Path) (te : BitVec 48) (s : State) : Host.Outcome State Fault Refusal :=
  running s fun s => s.hostWrite path F.PT_LEAP_WR_TE.off (·.writeLeap (leapWord te 0 2))

/-- LEAP_OFFER (R274): an automatic source offers an entry; one that the table already holds changes nothing. -/
def State.offerLeap (s : State) (e : Leap) : State :=
  let near (x : Leap) : Bool := ((x.te : Int) - e.te).natAbs ≤ 86400
  if s.leaps.any (fun x => x.src ≤ 1 && near x && !(x.te == e.te && x.delta == e.delta)) then s.leapRefused 3
  else if s.leaps.any (fun x => x.te == e.te && x.delta == e.delta) then s
  else s.insertLeap e

/-- A received current offset against Δ: a difference is reported once per change (R274). -/
def State.checkOffset (s : State) (source : Nat) (offset : Int) : State :=
  if s.delta s.sec = some offset then { s with pt.offsets := assign none source none s.pt.offsets }
  else if s.pt.offsets.getD source none = some offset then s
  else { s with pt.offsets := assign none source (some offset) s.pt.offsets }.leapRefused 4

/-! ## Leap indicator, smear and NTP timestamps -/

/-- Consecutive entries of a table. -/
def leapPairs (l : List Leap) : List (Leap × Leap) := l.zip l.tail

/-- The leap whose UTC day contains TAI second t: 1 insertion, 2 deletion, 0 none (R275). -/
def State.leapPending (s : State) (t : Nat) : Nat :=
  match (leapPairs s.leaps).find? (fun x => decide ((x.2.te : Int) - max x.1.delta x.2.delta + 1 - 86400 + x.1.delta ≤ t) && decide (t < x.2.te)) with
  | some x => if x.1.delta < x.2.delta then 1 else 2
  | none => 0

/-- SMEAR_EN and half window of class k in force (R276). -/
def State.smearOf (s : State) (k : Nat) : Bool × Nat :=
  match s.pt.smear.getD k none with
  | some x => x
  | none => (s.on (F.PT_CLASS_SMEAR_EN k), max 3600 (min 86400 (s.get (F.PT_CLASS_HALF k))))

/-- The leap in whose smear window of class k second t lies (R39, R276). -/
def State.smearAt (s : State) (k t : Nat) : Option (Leap × Leap) :=
  let q := s.smearOf k
  if q.1 then (leapPairs s.leaps).find? (fun x => decide (x.2.te ≤ t + q.2) && decide (t < x.2.te + q.2)) else none

/-- s(t) of class k at time t as a fraction in State.now units: numerator and denominator (R33, R39); 0 while UTC is unknown. -/
def State.utcOffset (s : State) (k t : Nat) : Int × Nat :=
  match s.smearAt k (secOf t) with
  | some (a, b) =>
    let w := 2 * (s.smearOf k).2
    let t0 : Int := ((b.te : Int) - (s.smearOf k).2) * tuSec
    (a.delta * tuSec * w + (b.delta - a.delta) * ((t : Int) - t0), w)
  | none => ((s.delta (secOf t)).getD 0 * tuSec, 1)

/-- The NTP timestamp of a time word less an offset num/den (R36, R37): seconds modulo 2^32 above the fraction. -/
def ntpStamp (t : Nat) (off : Int × Nat) : Nat :=
  let x : Int := ((t / 5 * 5 : Nat) + 2208988800 * tuSec : Int) * off.2 - off.1
  ((2 * x * 2 ^ 32 + (tuSec * off.2 : Nat)) / (2 * tuSec * off.2 : Nat) % 2 ^ 64).toNat

/-- The NTP timestamp that class k is served for time t. -/
def State.ntpTime (s : State) (k t : Nat) : Nat := ntpStamp t (s.utcOffset k t)

/-- Δ(t) - s(t) of class k in ps, rounded to the nearest (R272). -/
def State.smearOffset (s : State) (k t : Nat) : Int :=
  let q := s.utcOffset k t
  roundDiv (((s.delta (secOf t)).getD 0 * tuSec * q.2 - q.1) * 200) (2 ^ 32 * q.2)

/-- A write of PT_CLASSk (R276): SMEAR_EN and HALF of an open window stay in force until it ends. -/
def State.latchSmear (s : State) (k : Nat) : State :=
  if (s.smearAt k s.sec).isSome then { s with pt.smear := assign none k (some (s.smearOf k)) s.pt.smear } else s

/-- SMEAR_WINDOW_END (R276): the settings kept for a window that is over give way to the written ones. -/
def execSmearWindowEnd (k : Fin 8) (s : State) : Host.Outcome State Fault Refusal :=
  running s fun s => s.when (s.smearAt k s.sec).isNone (fun s => { s with pt.smear := assign none k none s.pt.smear })

/-! ## ESMC (R277) -/

/-- The port whose lane feeds the active SYNCE slot. -/
def State.syncePort (s : State) : Option Nat :=
  match s.activeSlot with
  | some n => if s.slotType n = 5 then some (s.get (F.RS_REF_CFG_SRC n)) else none
  | none => none

/-- QL that lane p sends (R167, R277). -/
def State.qlOf (s : State) (p : Nat) : Nat :=
  if s.on (F.PT_PORT_ESMC_QL_OVR_EN p) then s.get (F.PT_PORT_ESMC_QL_OVR p)
  else if s.syncePort = some p then 0xF
  else s.mapSsm

/-- The ESMC PDU of a QL in a slow-protocol frame (ITU-T G.8264; log entry 8). -/
def State.esmcFrame (s : State) (p : Nat) (event : Bool) (ql : Nat) : Msg :=
  { bytes := [0x01, 0x80, 0xC2, 0x00, 0x00, 0x02] ++ bytesLE 6 (s.get (F.MAC_PORT_ADDR_ADDR p 0)) ++ [0x88, 0x09, 0x0A, 0x00, 0x19, 0xA7, 0x00, 0x01] ++
      [BitVec.ofNat 8 (0x10 + 8 * event.toNat), 0, 0, 0, 0x01, 0x00, 0x04, BitVec.ofNat 8 (ql % 16)] }

/-- Change what the protocol tables remember of port p. -/
def State.setPt (s : State) (p : Nat) (f : PtPort → PtPort) : State := { s with pt.ports := alter {} p f s.pt.ports }

/-- What the protocol tables remember of port p. -/
def State.ptPort (s : State) (p : Nat) : PtPort := s.pt.ports.getD p {}

/-- Send an ESMC PDU on lane p where the MAC is enabled. -/
def State.sendEsmc (s : State) (p : Nat) (event : Bool) : State :=
  (s.setPt p (fun q => { q with qlSent := s.qlOf p })).when (s.on (F.PT_PORT_ESMC_TX_EN p)) (·.queueNa p (s.esmcFrame p event (s.qlOf p)))

/-- An event PDU goes out at once on every lane whose QL has changed. -/
def State.esmcChanges (s : State) : State :=
  s.forAll [0, 1, 2, 3, 5] (fun t p => t.when (t.qlOf p != (t.ptPort p).qlSent) (·.sendEsmc p true))

/-- ESMC_INFO_SEND. -/
def execEsmcInfoSend (p : Fin 6) (s : State) : Host.Outcome State Fault Refusal :=
  running s fun s => s.when (p.val != 4 && s.get F.DF_STAT_STATE == 1) (·.sendEsmc p false)

/-- ESMC_RECEIVED: an information or event PDU with its QL. -/
def execEsmcReceived (p : Fin 6) (event : Bool) (ql : BitVec 4) (s : State) : Host.Outcome State Fault Refusal :=
  running s fun s =>
    if p.val = 4 || !s.on (F.PT_PORT_ESMC_RX_EN p) then s
    else
      let old := s.get (F.PT_PORT_ESMC_QL_RX p)
      let t := (s.put (F.PT_PORT_ESMC_QL_RX p) ql.toNat).when (!event) (fun t =>
        (t.put (F.PT_PORT_ESMC_RX_OK p) 1).setPt p (fun q => { q with esmcAt := some s.now }))
      t.when (old != ql.toNat) (·.event F.PT_EVT_QL 0x0736 p (p + old * 16 + ql.toNat * 256))

/-- Five seconds have passed without an information PDU on lane p (R277). -/
def State.esmcSilent (s : State) (p : Nat) : Bool :=
  match (s.ptPort p).esmcAt with
  | some t => decide (t + 5 * tuSec ≤ s.now)
  | none => true

/-- ESMC_TIMEOUT. -/
def execEsmcTimeout (p : Fin 6) (s : State) : Host.Outcome State Fault Refusal :=
  running s fun s =>
    if s.on (F.PT_PORT_ESMC_RX_OK p) && s.esmcSilent p then (s.put (F.PT_PORT_ESMC_RX_OK p) 0).event F.PT_EVT_ESMC_TO 0x0737 p p else s

end Sys2Proof.Machine
end

