-- ==== Sys2Proof/Machine/Serve.lean ====
section
/-! DEFINITION. What the serving programs share: keys, client classes, rate buckets, appointed messages, the NTP server and the PTP message
formats (R161 to R166, R249 to R253, R260 to R272). -/
namespace Sys2Proof.Machine

/-! ## Keys and partitions -/

/-- Client port p serves no time at all (R262). -/
def State.silenced (s : State) (p : Nat) : Bool := s.keysGone && !s.on F.PT_UNAUTH_ALLOWED_ALLOWED && p ≤ 3

/-- The serving programs run (R240, R241, R280). -/
def State.serving (s : State) : Bool := s.get F.DF_STAT_STATE == 1

/-- The Glacier address of n bytes at an offset of a partition that the image declares, where they can be accessed. -/
def State.partAt (s : State) (part off n : Nat) : Option Nat :=
  match ((s.df.image.map Image.parts).getD []).find? (fun p => p.id == part) with
  | some p => if s.glReady && decide (off + n ≤ p.size) then some (p.base + off) else none
  | none => none

/-- Write bytes at an offset of a Glacier partition. -/
def State.writePart (s : State) (part off : Nat) (l : List Byte) : State :=
  match s.partAt part off l.length with
  | some a => s.glWrite a l
  | none => s

/-- Read n bytes at an offset of a Glacier partition. A poisoned entry is freed: it reads as 0 and is written back so (R230, R308); the flag says so. -/
def State.takePart (s : State) (part off n : Nat) : State × List Byte × Bool :=
  let zeros := List.replicate n 0
  match s.partAt part off n with
  | some a =>
    let q := s.glRead a n
    match q.2 with
    | some l => (q.1, l, false)
    | none => (q.1.glWrite a zeros, zeros, true)
  | none => (s, zeros, false)

/-- The bytes alone. -/
def State.readPart (s : State) (part off n : Nat) : State × List Byte :=
  let q := s.takePart part off n
  (q.1, q.2.1)

/-! ## Client classes and rate buckets (R266 to R268) -/

/-- The first n bits of two byte strings agree. -/
def prefixEq (n : Nat) (a b : List Byte) : Bool :=
  let m := min n (8 * a.length)
  ofBytesBE a / 2 ^ (8 * a.length - m) == ofBytesBE b / 2 ^ (8 * b.length - m)

/-- An address in the layout of PT_CLASSMAPm_ADDR_HI and _LO. -/
def mapAddress (v6 : Bool) (hi lo : Nat) : List Byte := if v6 then bytesBE 8 hi ++ bytesBE 8 lo else bytesBE 4 lo

/-- The client class of a request from a peer on port p (R266). -/
def State.classOf (s : State) (p : Nat) (r : Peer) : Nat :=
  let fits (m : Nat) : Bool :=
    let v6 := s.on (F.PT_CLASSMAP_CTL_V6 m)
    s.on (F.PT_CLASSMAP_CTL_VALID m) && s.get (F.PT_CLASSMAP_CTL_PORTS m) / 2 ^ p % 2 == 1 && r.transport == (if v6 then 2 else 1) &&
      prefixEq (s.get (F.PT_CLASSMAP_CTL_LEN m)) (mapAddress v6 (s.get (F.PT_CLASSMAP_ADDR_HI_ADDR m)) (s.get (F.PT_CLASSMAP_ADDR_LO_ADDR m))) r.ip
  match (List.range 16).find? fits with
  | some m => s.get (F.PT_CLASSMAP_CTL_CLASS m)
  | none => 0

/-- The first n bits of an address, the rest 0. -/
def maskBits (n : Nat) (l : List Byte) : List Byte :=
  let m := 8 * l.length - min n (8 * l.length)
  bytesBE l.length (ofBytesBE l / 2 ^ m * 2 ^ m)

/-- Bucket key of a peer in a class (R267). -/
def State.bucketKey (s : State) (k : Nat) (r : Peer) : List Byte :=
  match r.transport with
  | 0 => r.mac
  | 1 => r.ip
  | _ => maskBits (max 48 (min 128 (s.get (F.PT_CLASS_PREFIX6 k)))) r.ip

/-- The moment a request is charged at: its stamp, or the present for an invalid one (R228, R267). -/
def State.chargeTime (s : State) (st : TStamp) : Nat := (if st.valid then st.time else s.now) * 1024 / tuSec % 2 ^ 32

/-- A bucket after the refill of R267: deficit and KOD, from its word. -/
def refill (word now rate : Nat) : Nat :=
  let e := (now + 2 ^ 32 - word % 2 ^ 32) % 2 ^ 32
  word / 2 ^ 32 % 2 ^ 16 - (if e < 2 ^ 31 then e else 0) * rate / 64

/-- A bucket's word. -/
def bucketWord (now deficit : Nat) (kod : Bool) : List Byte := bytesLE 8 (now + deficit * 2 ^ 32 + kod.toNat * 2 ^ 48)

/-- What the token bucket says of a request. -/
inductive RateVerdict where
  | allowed | kiss | limited
  deriving DecidableEq, Repr

/-- A request of class k is charged (R267, R268); kod where the request can be answered with a kiss-o'-death. -/
def State.charge (s : State) (k : Nat) (r : Peer) (st : TStamp) (kod : Bool) : State × RateVerdict :=
  let rate := s.get (F.PT_CLASS_RATE k)
  let part := (s.df.image.map Image.buckets).getD 0
  if rate = 0 then (s, .allowed)
  else
    let at_ := crc32c (BitVec.ofNat 8 k :: s.bucketKey k r) % 2 ^ 24 * 8
    let q := s.readPart part at_ 8
    let word := ofBytesLE q.2
    let now := s.chargeTime st
    let deficit := refill word now rate
    let old := word / 2 ^ 48 % 2 == 1
    if deficit + 256 ≤ max 1 (s.get (F.PT_CLASS_BURST k)) * 256 then (q.1.writePart part at_ (bucketWord now (deficit + 256) false), .allowed)
    else if kod && s.on (F.PT_CLASS_KOD_EN k) && !old then (q.1.writePart part at_ (bucketWord now deficit true), .kiss)
    else (q.1.writePart part at_ (bucketWord now deficit old), .limited)

/-! ## PTP settings of a port (R249, R251) -/

/-- ROLE of port p: 0 off, 1 grandmaster, 2 client (R249, R282). -/
def State.ptpRole (s : State) (p : Nat) : Nat := if p ≤ 3 then s.get (F.PT_PORT_PTP_ROLE p) % 3 else 0

/-- PROFILE of port p. -/
def State.ptpProfile (s : State) (p : Nat) : Nat := s.get (F.PT_PORT_PTP_PROFILE p) % 3

/-- Default domain of a profile, and its range (R251). -/
def profileDomain : Nat → Nat × Nat × Nat
  | 1 => (24, 24, 43) | 2 => (44, 44, 63) | _ => (0, 0, 127)

/-- domainNumber of port p (R251). -/
def State.ptpDomain (s : State) (p : Nat) : Nat :=
  let (d, lo, hi) := profileDomain (s.ptpProfile p)
  let v := s.get (F.PT_PORT_PTP_DOMAIN p)
  if lo ≤ v ∧ v ≤ hi then v else d

/-- Transport of port p: 0 IEEE 802.3, 1 UDP/IPv4, 2 UDP/IPv6 (R250, R251). -/
def State.ptpTransport (s : State) (p : Nat) : Nat :=
  let v := s.get (F.PT_PORT_PTP_TRANSPORT p)
  match s.ptpProfile p with
  | 1 => 0
  | 2 => if v = 2 then 2 else 1
  | _ => if v = 3 then 1 else v

/-- priority1 of port p (R251). -/
def State.ptpPrio1 (s : State) (p : Nat) : Nat := if s.ptpProfile p = 0 then s.get (F.PT_PORT_PTP_PRIO1 p) else 128

/-- The multicast destination of port p's event or general messages (R251). -/
def State.multicast (s : State) (p : Nat) (event : Bool) : Peer :=
  let udp := if event then 319 else 320
  match s.ptpTransport p with
  | 0 => { transport := 0, mac := if s.ptpProfile p = 1 && s.on (F.PT_PORT_PTP_MCAST_ALT p) then [0x01, 0x80, 0xC2, 0x00, 0x00, 0x0E]
                                  else [0x01, 0x1B, 0x19, 0x00, 0x00, 0x00] }
  | 1 => { transport := 1, mac := [0x01, 0x00, 0x5E, 0x00, 0x01, 0x81], ip := [224, 0, 1, 129], udp := udp }
  | _ => { transport := 2, mac := [0x33, 0x33, 0x00, 0x00, 0x01, 0x81], ip := [0xFF, 0x0E] ++ List.replicate 12 0 ++ [0x01, 0x81], udp := udp }

/-- sourcePortIdentity of port p (R252). -/
def State.portIdentity (s : State) (p : Nat) : List Byte := bytesBE 8 (s.get F.PT_CLOCK_ID_ID) ++ bytesBE 2 (p + 1)

/-- Port p may send PTP messages (R252, R262). -/
def State.ptpSends (s : State) (p : Nat) : Bool :=
  s.serving && s.on F.PT_CLOCK_ID_ID && !(s.keysGone && s.on (F.PT_PORT_PTP_AUTH_REQ p)) && !s.silenced p

/-! ## PTP messages (R32, R252, R253, R260, R271); layouts of IEEE 1588-2019 (log entry 8) -/

/-- A time as a PTP timestamp: ten bytes of SEC and NS, and the 2^-16 ns that go into correctionField (R32). -/
def ptpStamp (t : Nat) : List Byte × Int := (bytesBE 6 (secOf t) ++ bytesBE 4 (nsfOf t / 2 ^ 32), nsfOf t % 2 ^ 32 / 2 ^ 16)

/-- A signed number in two's complement, big-endian. -/
def bytesI (n : Nat) (v : Int) : List Byte := bytesBE n (v % (2 ^ (8 * n) : Nat)).toNat

/-- The Bursis flag byte (R271, R272). -/
def State.bursisFlags (s : State) (bound : Nat) (held smear : Bool) : Byte :=
  BitVec.ofNat 8 (s.get F.MB_STAT_STATE + 4 * (bound == unbounded).toNat + 8 * s.get F.MB_STAT_STALE + 16 * held.toNat + 32 * smear.toNat)

/-- The 22 bytes that Bursis TLV and extension field share (R271, R272): port, appointed time, quantisation term. -/
def State.bursisCore (s : State) (p t q : Nat) (held smear : Bool) : List Byte :=
  let b := s.servedBound p t q
  [0x01, s.bursisFlags b held smear] ++ bytesBE 6 b ++ bytesBE 6 (s.get F.MB_SIGMA_SIGMA) ++ bytesBE 4 s.traceArg ++
    bytesBE 4 (min 0xFFFFFFFF (s.pubAge t / tuUs))

/-- The Bursis TLV of port p (R271), nothing where it is off. -/
def State.bursisTlv (s : State) (p t : Nat) (held : Bool) : List Byte :=
  if s.on (F.PT_PORT_PTP_BURSIS p) && s.on F.PT_BURSIS_CFG_ORG_ID then
    [0x80, 0x00, 0x00, 0x1C] ++ bytesBE 3 (s.get F.PT_BURSIS_CFG_ORG_ID) ++ [0x00, 0x00, 0x01] ++ s.bursisCore p t 1 held false
  else []

/-- Length of the AUTHENTICATION TLV that port p adds (R260). -/
def State.authLen (s : State) (p : Nat) : Nat := if s.on (F.PT_PORT_PTP_AUTH_REQ p) then 26 else 0

/-- A PTP header of port p (log entry 8). -/
def State.ptpHeader (s : State) (p type len : Nat) (uni : Bool) (flags : Nat) (corr : Int) (seq ctl : Nat) (log : Int) : List Byte :=
  [BitVec.ofNat 8 type, 0x12] ++ bytesBE 2 len ++ [BitVec.ofNat 8 (s.ptpDomain p), 0, if uni then 4 else 0, BitVec.ofNat 8 flags] ++ bytesI 8 corr ++
    [0, 0, 0, 0] ++ s.portIdentity p ++ bytesBE 2 seq ++ [BitVec.ofNat 8 ctl] ++ bytesI 1 log

/-- A PTP message with its TLVs, before authentication. -/
def State.ptpMessage (s : State) (p type : Nat) (uni : Bool) (flags : Nat) (corr : Int) (seq ctl : Nat) (log : Int) (body : List Byte) : List Byte :=
  s.ptpHeader p type (34 + body.length + s.authLen p) uni flags corr seq ctl log ++ body

/-- Integrity check value under the key of a PT_SPP entry (R260). -/
def State.icv (s : State) (e : Nat) (m : List Byte) : List Byte :=
  let key := s.slotKey (s.get (F.PT_SPP_SLOT e))
  if s.on (F.PT_SPP_ALG e) then (Config.aesCmac key m).take 16 else (hmacSha256 key m).take 16

/-- The vault's verdict on the key of a PT_SPP entry for the fabric, for making (21) or checking (22) an ICV (R245, R288). -/
def State.sppCheck (s : State) (e bit : Nat) : Nat :=
  s.keyCheck 8 (s.get (F.PT_SPP_SLOT e)) [if s.on (F.PT_SPP_ALG e) then 1 else 3] bit

/-- Entry e of PT_SPP is used and port p may use it (R260, R261, R282). -/
def State.sppMay (s : State) (p e : Nat) : Bool := s.on (F.PT_SPP_VALID e) && s.get (F.PT_SPP_PORTS e) / 2 ^ p % 2 == 1

/-- A message as sent: with its AUTHENTICATION TLV under PT_SPP entry e on a port with AUTH_REQ = 1; none where the entry may not be used there
or its key is refused (R260). -/
def State.authenticate (s : State) (p e : Nat) (m : List Byte) : Option (List Byte) :=
  if !s.on (F.PT_PORT_PTP_AUTH_REQ p) then some m
  else if !s.sppMay p e || s.sppCheck e 21 != 0 then none
  else
    let h := m ++ [0x80, 0x09, 0x00, 0x16] ++ bytesBE 1 (s.get (F.PT_SPP_SPP e)) ++ [0] ++ bytesBE 4 (s.get (F.PT_SPP_KEYID e))
    some (h ++ s.icv e h)

/-- clockAccuracy (R165). -/
def State.accuracyNow (s : State) : Nat := accuracyCode (s.boundAt s.now)

/-- timeSource (R252). -/
def State.timeSource (s : State) : Nat :=
  if s.get (F.TK_STAT_STATE s.core) = 4 then 0x60
  else if s.get F.MB_STAT_STATE = 2 then 0xA0
  else match s.activeSlot with
    | none => 0xA0
    | some n => match s.slotType n with | 0 => 0x20 | 3 => 0x10 | 4 | 6 => 0x40 | _ => 0x90

/-- Second flag byte of an Announce at time t (R252, R275). -/
def State.announceFlags (s : State) (t : Nat) : Nat :=
  let lp := s.leapPending (secOf t)
  let st := s.get F.MB_STAT_STATE
  let bounded := s.boundAt t != unbounded
  (lp == 1).toNat + 2 * (lp == 2).toNat + 4 * (s.delta (secOf t)).isSome.toNat + 8 + 16 * (bounded && st == 0).toNat + 32 * (bounded && st ≤ 1).toNat

/-- Body of an Announce of port p at time t (R252). -/
def State.announceBody (s : State) (p t : Nat) : List Byte :=
  (ptpStamp t).1 ++ bytesI 2 ((s.delta (secOf t)).getD 0) ++ [0] ++ bytesBE 1 (s.ptpPrio1 p) ++ bytesBE 1 s.mapClass ++ bytesBE 1 s.accuracyNow ++
    bytesBE 2 (s.get F.PT_CFG_OSLV) ++ bytesBE 1 (s.get (F.PT_PORT_PTP_PRIO2 p)) ++ bytesBE 8 (s.get F.PT_CLOCK_ID_ID) ++ [0, 0] ++
    bytesBE 1 s.timeSource

/-- logMessageInterval: 0x7F in a unicast message (log entry 8). -/
def State.logOf (s : State) (f : Fld) (uni : Bool) : Int := if uni then 0x7F else s.getI f

/-! ## NTP messages (R36, R166, R263 to R272) -/

/-- Reference ID (R264). -/
def State.refId (s : State) : List Byte :=
  let ascii (l : List Nat) : List Byte := l.map (BitVec.ofNat 8)
  if s.get F.MB_STAT_STATE = 2 then ascii [72, 79, 76, 68]
  else match s.activeSlot with
    | none => ascii [72, 79, 76, 68]
    | some n => match s.slotType n with
      | 0 => match s.get F.GN_CFG_TSYS with
        | 0 => ascii [71, 80, 83, 0]
        | 1 => ascii [71, 65, 76, 0]
        | 2 => ascii [66, 68, 83, 0]
        | _ => ascii [81, 90, 83, 83]
      | 1 => ascii [80, 80, 83, 0]
      | 3 => ascii [65, 84, 79, 77]
      | 4 => ascii [80, 84, 80, 0]
      | 6 => ascii [77, 65, 84, 69]
      | _ => ascii [70, 82, 69, 81]

/-- Leap indicator and root dispersion of a response to class k on port p at time t (R166, R264, R275). -/
def State.leapAndDispersion (s : State) (p k t : Nat) : Nat × Nat :=
  let b := s.servedBound p t 117
  if b = unbounded ∨ s.mapStratum = 16 then (3, 0xFFFFFFFF)
  else (if (s.smearAt k (secOf t)).isSome then 0 else s.leapPending (secOf t), min 0xFFFFFFFF (ceilDiv (b * 65536) (10 ^ 12)))

/-- The 48 bytes of an NTP header (RFC 5905; log entry 8). -/
def ntpHeader (li version stratum poll : Nat) (precision disp : Nat) (refId : List Byte) (ref : Nat) (origin : List Byte) (rx tx : Nat) : List Byte :=
  bytesBE 1 (li * 64 + version * 8 + 4) ++ bytesBE 1 stratum ++ bytesBE 1 poll ++ bytesBE 1 precision ++ [0, 0, 0, 0] ++ bytesBE 4 disp ++ refId ++
    bytesBE 8 ref ++ origin ++ bytesBE 8 rx ++ bytesBE 8 tx

/-- An extension field: type, length, and its body padded to a multiple of 4. -/
def ntpField (type : Nat) (body : List Byte) : List Byte :=
  let n := (body.length + 3) / 4 * 4
  bytesBE 2 type ++ bytesBE 2 (n + 4) ++ body ++ List.replicate (n - body.length) 0

/-- NTS authenticator field over the message m (RFC 8915; log entry 8). -/
def ntsAuthenticator (m key nonce plain : List Byte) : List Byte :=
  let text := Config.aesSiv key nonce m plain
  ntpField 0x0404 (bytesBE 2 nonce.length ++ bytesBE 2 text.length ++ nonce ++ text)

/-- The Bursis extension field (R272). -/
def State.bursisField (s : State) (p t : Nat) (r : NtpReply) : List Byte :=
  if r.bursis then
    bytesBE 2 (s.get F.PT_BURSIS_CFG_NTP_TYPE) ++ [0x00, 0x20] ++ s.bursisCore p t 117 r.held (s.smearAt r.cls (secOf t)).isSome ++
      bytesI 6 (s.smearOffset r.cls t)
  else []

/-- An NTP response on port p with its appointed time t (R264, R269, R272). -/
def State.ntpResponse (s : State) (p t : Nat) (r : NtpReply) : List Byte :=
  let q := s.leapAndDispersion p r.cls t
  let ref := match s.mb.trackPub with | some x => s.ntpTime r.cls x | none => 0
  let h := ntpHeader q.1 r.version s.mapStratum r.poll (s.get F.PT_CFG_PRECISION) q.2 s.refId ref r.origin (s.ntpTime r.cls r.rx) (s.ntpTime r.cls t)
  match r.nts with
  | none => h ++ s.bursisField p t r
  | some (uid, key, nonce, plain) =>
    let m := h ++ ntpField 0x0104 uid ++ s.bursisField p t r
    m ++ ntsAuthenticator m key nonce plain

/-! ## Appointed messages (R208, R210) -/

/-- The message of a job on port p for appointed time t: none where it cannot be authenticated (R253, R260, R264). The Clekosal frame is
formed elsewhere. -/
def State.jobBytes (s : State) (p t : Nat) : Job → Option (Peer × List Byte)
  | .sync d uni e seq =>
    let x := ptpStamp t
    (s.authenticate p e (s.ptpMessage p 0 uni 0 x.2 seq 0 (s.logOf (F.PT_PORT_PTP_LOG_SYNC p) uni) (x.1 ++ s.bursisTlv p t false))).map (d, ·)
  | .announce d uni e seq =>
    (s.authenticate p e (s.ptpMessage p 11 uni (s.announceFlags t) 0 seq 5 (s.logOf (F.PT_PORT_PTP_LOG_ANN p) uni)
      (s.announceBody p t ++ s.bursisTlv p t false))).map (d, ·)
  | .delayResp d uni e seq req corr st =>
    let x := ptpStamp st.time
    (s.authenticate p e (s.ptpMessage p 9 uni 0 (corr - x.2) seq 3 (s.logOf (F.PT_PORT_PTP_LOG_DREQ p) uni)
      (x.1 ++ req ++ s.bursisTlv p t st.held))).map (d, ·)
  | .delayReq d uni seq =>
    (s.authenticate p (s.get (F.PT_PORT_PTP_SPP p)) (s.ptpMessage p 1 uni 0 0 seq 1 0x7F (ptpStamp t).1)).map (d, ·)
  | .ntp r => some (r.peer, s.ntpResponse p t r)
  | .cell .. | .time => none

/-- The first bounded response of a start, with the time since power-good (R359, R362, R364). -/
def State.firstServed (s : State) : State :=
  if s.host.started || s.get F.BT_STAT_STATE != 3 || s.on F.MB_STAT_UNB then s
  else
    let ms := (s.get F.PM_RTC_RTC - s.pm.startRtc) * 1000 / 32768
    { (s.putSat F.SY_RST_STAT_START_MS ms).event F.PM_EVT_STARTED 0x0107 0 (ms % 2 ^ 32) with host.started := true }

/-- What the part counts and remembers of a message handed off (R258, R282). -/
def State.jobSent (s : State) (p t : Nat) : Job → State
  | .sync .. => s.count (F.PT_PORT_CNT_SYNC_N p) 1
  | .announce .. => s.count (F.PT_PORT_CNT_ANN_N p) 1
  | .delayResp .. => (s.count (F.PT_PORT_CNT_DRESP_N p) 1).firstServed
  | .delayReq _ _ seq => s.setPt p (fun q => { q with request := some (seq, t) })
  | .ntp r => (s.count (if r.nts.isSome then F.PT_PORT_CNT_NTS_N p else F.PT_PORT_CNT_NTP_N p) 1).firstServed
  | .cell .. | .time => s

/-- The answer to a program's appointment request: the message is formed with its appointed time and handed off (R208, R210). -/
def State.answerServe (s : State) (p : Nat) (j : Job) (a : Option ApSlot) : State :=
  match a with
  | none => s
  | some x =>
    match s.jobBytes p x.appt j with
    | some (d, l) => (s.handOff p x.handle { peer := some d, bytes := l }).jobSent p x.appt j
    | none => s.freeSlot p x.handle

/-- A program asks for an appointment; the request waits while granting is stopped (R208, R216). The length does not depend on the time. -/
def State.appoint (s : State) (p : Nat) (nb : Option Nat) (j : Job) : State :=
  match s.jobBytes p s.now j with
  | none => s
  | some (d, l) =>
    let len := Msg.frameLen { peer := some d, bytes := l }
    if s.on (F.AP_PORT_STAT_HOLD p) then s.holdRequest p len nb j
    else
      let q := s.apRequest p len nb
      q.1.answerServe p j q.2

/-- A non-appointed message of a program (R215). -/
def State.sendNow (s : State) (p : Nat) (d : Peer) (l : List Byte) : State := s.queueNa p { peer := some d, bytes := l }

/-! ## Authentication of received messages (R261) -/

/-- A failure of R261 is counted and reported. -/
def State.authFail (s : State) (p : Nat) : State :=
  ((s.count (F.PT_PORT_CNT_AUTH_FAIL_N p) 1).setFlag F.PT_EVT_AUTH_FAIL).eventLimited (0x0732 * 8 + p) F.PT_EVT_AUTH_FAIL 0x0732 p p

/-- A message with an AUTHENTICATION TLV passes the checks of R261. -/
def State.authGood (s : State) (p : Nat) (a : AuthTlv) : Bool :=
  a.last && a.indicator == 0 &&
    (List.range 16).any (fun e => s.sppMay p e && s.get (F.PT_SPP_SPP e) == a.spp &&
      s.get (F.PT_SPP_KEYID e) == a.keyId && s.sppCheck e 22 == 0 && s.icv e a.covered == a.icv)

/-- A received PTP message is accepted on port p, or dropped with its count (R261, R262); f handles it. -/
def State.accepted (s : State) (p : Nat) (h : PtpHead) (f : State → State) : State :=
  if s.silenced p || (s.keysGone && s.on (F.PT_PORT_PTP_AUTH_REQ p)) then s.count (F.PT_PORT_CNT_AUTH_FAIL_N p) 1
  else match h.auth with
    | some a => if s.authGood p a then f s else s.authFail p
    | none => if s.on (F.PT_PORT_PTP_AUTH_REQ p) then s.authFail p else f s

/-- A message of another transport or domain is not for the port (R249, R250). -/
def State.forPort (s : State) (p : Nat) (h : PtpHead) : Bool := h.peer.transport == s.ptpTransport p && h.domain == s.ptpDomain p

/-- Time t lies in the present supply-dip episode or in the last one (R265). -/
def State.inDip (s : State) (t : Nat) : Bool := decide (s.pm.dipAt ≤ t) && (s.on F.PM_STAT_DIP || decide (t < s.pm.dipTo))

/-- A stamp is unusable under R265. -/
def State.stampBad (s : State) (st : TStamp) : Bool := !st.valid || (st.held && !s.inDip st.time)

/-! ## NTP requests (R263, R268, R269) -/

/-- A kiss-o'-death with a reference ID and the fields that follow the header (R268, R269). -/
def State.kiss (s : State) (r : NtpRequest) (code : List Byte) : List Byte :=
  ntpHeader 3 r.version 0 r.poll (s.get F.PT_CFG_PRECISION) 0 code 0 r.transmit 0 0

/-- "RATE" and "NTSN". -/
def kissRate : List Byte := [82, 65, 84, 69]
def kissNts : List Byte := [78, 84, 83, 78]

/-- The keys in a cookie: client-to-server and server-to-client; none where it does not open (R269, R270). -/
def State.openCookie (s : State) (c : List Byte) : Option (List Byte × List Byte) :=
  let kid := ofBytesBE (c.take 4)
  let slot := if s.on F.PT_NTS_CFG_CUR_VALID && kid == s.get F.PT_NTS_KID_CUR_ID then some (s.get F.PT_NTS_CFG_CUR_SLOT)
    else if s.on F.PT_NTS_CFG_PREV_VALID && kid == s.get F.PT_NTS_KID_PREV_ID then some (s.get F.PT_NTS_CFG_PREV_SLOT) else none
  match slot with
  | none => none
  | some n =>
    if c.length ≠ 104 ∨ s.keyCheck 8 n [2] 20 ≠ 0 then none
    else match Config.aesSivOpen (s.slotKey n) [] (c.take 20) ((c.drop 20).take 82) with
      | some l => if ofBytesBE (l.take 2) = 15 then some ((l.drop 2).take 32, (l.drop 34).take 32) else none
      | none => none

/-- The NTS NAK (R269). -/
def State.ntsNak (s : State) (p : Nat) (r : NtpRequest) (n : NtsFields) : State :=
  let t := (s.count (F.PT_PORT_CNT_NTSN_N p) 1).sendNow p r.peer (s.kiss r kissNts ++ ntpField 0x0104 n.uid)
  (t.setFlag F.PT_EVT_NTSN).eventRated (0x0735 * 8 + p) F.PT_EVT_NTSN 0x0735 p 0

/-- A kiss-o'-death of a rate-limited request; with the server-to-client key it is authenticated (R268). -/
def State.sendKiss (s : State) (p : Nat) (r : NtpRequest) (nts : Option (List Byte × List Byte)) : State :=
  let t := s.count (F.PT_PORT_CNT_KOD_N p) 1
  match nts with
  | none => t.sendNow p r.peer (s.kiss r kissRate)
  | some (uid, key) =>
    let m := s.kiss r kissRate ++ ntpField 0x0104 uid
    t.entropy (fun t nonce => t.sendNow p r.peer (m ++ ntsAuthenticator m key nonce [])) 16

/-- The Bursis field is due in a response to class k (R272). -/
def State.bursisDue (s : State) (k : Nat) (r : NtpRequest) : Bool :=
  r.version == 4 && s.on F.PT_BURSIS_CFG_NTP_TYPE && (s.get (F.PT_CLASS_BURSIS k) == 2 || (s.get (F.PT_CLASS_BURSIS k) == 1 && r.bursis))

/-- A request of class k that the bucket allowed is answered at an appointed time (R264, R269): with the server-to-client key and the plain text of
the keys for an NTS request. -/
def State.answerNtp (s : State) (p k : Nat) (st : TStamp) (r : NtpRequest) (nts : Option (NtsFields × List Byte × List Byte)) : State :=
  let reply : NtpReply :=
    { peer := r.peer, version := r.version, poll := r.poll, origin := r.transmit, rx := st.time, held := st.held, cls := k, bursis := s.bursisDue k r }
  match nts with
  | none => s.appoint p none (.ntp reply)
  | some (n, c2s, s2c) =>
    let slot := s.get F.PT_NTS_CFG_CUR_SLOT
    if s.keyCheck 8 slot [2] 19 ≠ 0 then s.count (F.PT_PORT_CNT_AUTH_FAIL_N p) 1
    else
      s.entropy (fun t nonce =>
        t.cookies (t.get F.PT_NTS_KID_CUR_ID) (t.slotKey slot) ([0x00, 0x0F] ++ c2s ++ s2c)
          (fun u l => u.appoint p none (.ntp { reply with nts := some (n.uid, s2c, nonce,
            (List.range (l.length / 104)).flatMap (fun i => ntpField 0x0204 ((l.drop (104 * i)).take 104))) })) (min 8 (1 + n.placeholders))) 16

/-- A request that the bucket has judged: dropped, kissed off or answered (R267, R268). -/
def State.settleNtp (s : State) (p k : Nat) (st : TStamp) (r : NtpRequest) (nts : Option (NtsFields × List Byte × List Byte)) : RateVerdict → State
  | .limited => s.count (F.PT_PORT_CNT_RATE_DROP_N p) 1
  | .kiss => s.sendKiss p r (nts.map (fun x => (x.1.uid, x.2.2)))
  | .allowed => s.answerNtp p k st r nts

/-- An NTS request (R262, R269): charged (R267), then its cookie is opened and its authenticator checked, unless it is dropped as limited. -/
def State.ntsRequest (s : State) (p k : Nat) (st : TStamp) (r : NtpRequest) (n : NtsFields) : State :=
  if s.keysGone then s.count (F.PT_PORT_CNT_AUTH_FAIL_N p) 1
  else match n.auth, n.cookies with
    | some (nonce, text, ad), [c] =>
      if n.uid.length < 32 then s.count (F.PT_PORT_CNT_UNSUPP_N p) 1
      else
        let q := s.charge k r.peer st true
        if q.2 = .limited then q.1.settleNtp p k st r none .limited
        else match s.openCookie c with
          | none => q.1.ntsNak p r n
          | some (c2s, s2c) =>
            if (Config.aesSivOpen c2s nonce ad text).isNone then q.1.count (F.PT_PORT_CNT_AUTH_FAIL_N p) 1
            else q.1.settleNtp p k st r (some (n, c2s, s2c)) q.2
    | _, _ => s.count (F.PT_PORT_CNT_UNSUPP_N p) 1

/-- A plain NTP request of class k (R267 to R269). -/
def State.plainNtp (s : State) (p k : Nat) (st : TStamp) (r : NtpRequest) : State :=
  if s.on (F.PT_CLASS_NTS_REQ k) then s.count (F.PT_PORT_CNT_AUTH_FAIL_N p) 1
  else
    let q := s.charge k r.peer st true
    q.1.settleNtp p k st r none q.2

/-- NTP_REQUEST (R263, R265, R266, R268, R269) on port p with its ingress stamp and frame, which modes 6 and 7 pass to the host in queue q. -/
def State.ntpRequest (s : State) (p : Nat) (st : TStamp) (r : NtpRequest) (q : Nat) (frame : List Byte) : State :=
  if !s.serving || p == 4 || !s.on (F.PT_PORT_SVC_NTP_EN p) then s
  else if r.mode = 6 ∨ r.mode = 7 then s.toHost p (q % 8) { bytes := frame, stamp := st }
  else if r.length < 48 || (r.version != 3 && r.version != 4) || r.mode != 3 || r.legacyMac then s.count (F.PT_PORT_CNT_UNSUPP_N p) 1
  else if (s.delta (secOf (if st.valid then st.time else s.now))).isNone then s.count (F.PT_PORT_CNT_NOUTC_N p) 1
  else if s.stampBad st then s.count (F.PT_PORT_CNT_STAMP_DROP_N p) 1
  else if s.silenced p then s.count (F.PT_PORT_CNT_AUTH_FAIL_N p) 1
  else
    let k := s.classOf p r.peer
    match r.version, r.nts with
    | 4, some n => s.ntsRequest p k st r n
    | _, _ => s.plainNtp p k st r

/-- NTP_REQUEST. -/
def execNtpRequest (p : Fin 6) (stamp : TStamp) (r : NtpRequest) (q : Nat) (frame : List Byte) (s : State) : Host.Outcome State Fault Refusal :=
  running s fun s => s.ntpRequest p stamp r q frame

end Sys2Proof.Machine
end

