-- ==== Sys2Proof/Machine/Ptp.lean ====
section
/-! DEFINITION. PTP: sessions and their index, unicast negotiation, the grandmaster's instants and responses, the client role (R250 to R259). -/
namespace Sys2Proof.Machine

/-! ## Sessions (R256) -/

/-- An entry of the session table. logs and expiry are of Announce, Sync and Delay_Resp. -/
structure Session where
  transport : Nat
  port : Nat
  authed : Bool
  tagged : Bool
  domain : Nat
  spp : Nat
  id : List Byte
  tci : Nat
  mac : List Byte
  ip : List Byte
  logs : List Nat
  seqSync : Nat
  seqAnn : Nat
  expiry : List Nat
  renewals : Nat
  deriving DecidableEq, Repr

/-- The 64 bytes of a VALID entry (R256). -/
def Session.bytes (x : Session) : List Byte :=
  bytesLE 2 (1 + 2 * x.transport + 8 * x.port + 32 * x.authed.toNat + 64 * x.tagged.toNat) ++ bytesLE 1 x.domain ++ bytesLE 1 x.spp ++
    (x.id ++ List.replicate (10 - x.id.length) 0).take 10 ++ bytesBE 2 x.tci ++ (x.mac ++ List.replicate (6 - x.mac.length) 0).take 6 ++ [0, 0] ++
    (List.replicate (16 - x.ip.length) 0 ++ x.ip).take 16 ++ (List.range 3).flatMap (fun i => bytesLE 1 (x.logs.getD i 0x7F)) ++ [0] ++
    bytesLE 2 x.seqSync ++ bytesLE 2 x.seqAnn ++ (List.range 3).flatMap (fun i => bytesLE 4 (x.expiry.getD i 0)) ++ bytesLE 4 x.renewals

/-- The entry that 64 bytes spell: none where VALID = 0. -/
def Session.ofBytes (l : List Byte) : Option Session :=
  let w := ofBytesLE (l.take 2)
  let byte (i : Nat) : Nat := ((l.drop i).headD 0).toNat
  let tr := bits w 2 1
  if w % 2 = 0 then none
  else some
    { transport := tr, port := bits w 4 3, authed := bits w 5 5 == 1, tagged := bits w 6 6 == 1, domain := byte 2, spp := byte 3,
      id := (l.drop 4).take 10, tci := ofBytesBE ((l.drop 14).take 2), mac := (l.drop 16).take 6,
      ip := if tr = 1 then (l.drop 0x24).take 4 else if tr = 2 then (l.drop 0x18).take 16 else [],
      logs := [byte 0x28, byte 0x29, byte 0x2A], seqSync := ofBytesLE ((l.drop 0x2C).take 2), seqAnn := ofBytesLE ((l.drop 0x2E).take 2),
      expiry := [ofBytesLE ((l.drop 0x30).take 4), ofBytesLE ((l.drop 0x34).take 4), ofBytesLE ((l.drop 0x38).take 4)],
      renewals := ofBytesLE ((l.drop 0x3C).take 4) }

/-- The key of a requester: port, transport address, portIdentity, domainNumber (R256). -/
def sessionKey (port transport : Nat) (mac ip id : List Byte) (domain : Nat) : List Byte :=
  [BitVec.ofNat 8 port] ++ (if transport = 0 then mac else ip) ++ id ++ [BitVec.ofNat 8 domain]

/-- The key of an entry. -/
def Session.key (x : Session) : List Byte := sessionKey x.port x.transport x.mac x.ip x.id x.domain

/-- The key of the sender of a message on port p. -/
def PtpHead.key (h : PtpHead) (p : Nat) : List Byte := sessionKey p h.peer.transport h.peer.mac h.peer.ip h.src h.domain

/-- The two buckets of a key, and its tag (R256). -/
def bucketsOf (key : List Byte) : Nat × Nat := (crc32c key % 2 ^ 20, crc32c (key ++ [0x5A]) % 2 ^ 20)
def tagOf (key : List Byte) : Nat := bits (crc32c key) 30 22

/-- Entries of the session table. -/
def sessionMax : Nat := 4194304

/-- Partitions of the session table and its index. -/
def State.sessionPart (s : State) : Nat := (s.df.image.map Image.sessions).getD 0
def State.indexPart (s : State) : Nat := (s.df.image.map Image.index).getD 0

/-- Entry e, in use, has been freed by poison (R308): it goes back to the free list. -/
def State.loseSession (s : State) (e : Nat) : State :=
  if decide (s.pt.taken ≤ e) || s.pt.freed.contains e then s
  else { s.put F.PT_SESS_COUNT (s.get F.PT_SESS_COUNT - 1) with pt.freed := e :: s.pt.freed }

/-- Read and write an entry. -/
def State.readSession (s : State) (e : Nat) : State × Option Session :=
  let q := s.takePart s.sessionPart (e * 64) 64
  (q.1.when q.2.2 (·.loseSession e), Session.ofBytes q.2.1)
def State.writeSession (s : State) (e : Nat) (x : Session) : State := s.writePart s.sessionPart (e * 64) x.bytes

/-- The 16 slots of a bucket. -/
def State.readBucket (s : State) (b : Nat) : State × List Nat :=
  let q := s.readPart s.indexPart (b * 64) 64
  (q.1, (List.range 16).map (fun i => ofBytesLE ((q.2.drop (4 * i)).take 4)))

/-- Write slot i of a bucket. -/
def State.writeSlot (s : State) (b i v : Nat) : State := s.writePart s.indexPart (b * 64 + i * 4) (bytesLE 4 v)

/-- Look for a key among slots of bucket b: a slot with the key's tag that names a free entry is cleared (R256). -/
def State.findAmong (s : State) (b : Nat) (key : List Byte) : List (Nat × Nat) → State × Option (Nat × Session)
  | [] => (s, none)
  | (w, i) :: rest =>
    if bits w 31 31 = 0 || bits w 30 22 != tagOf key then s.findAmong b key rest
    else
      let q := s.readSession (bits w 21 0)
      match q.2 with
      | none => (q.1.writeSlot b i 0).findAmong b key rest
      | some x => if x.key = key then (q.1, some (bits w 21 0, x)) else q.1.findAmong b key rest

/-- The entry of a key, found through its two buckets (R256). -/
def State.findSession (s : State) (key : List Byte) : State × Option (Nat × Session) :=
  let (b1, b2) := bucketsOf key
  let q := s.readBucket b1
  match q.1.findAmong b1 key q.2.zipIdx with
  | (t, some r) => (t, some r)
  | (t, none) =>
    let q := t.readBucket b2
    q.1.findAmong b2 key q.2.zipIdx

/-- VALID slots of a bucket. -/
def validSlots (l : List Nat) : Nat := (l.filter (fun w => bits w 31 31 == 1)).length

/-- The bucket a new session goes to: the one with fewer VALID slots, b1 on a tie (R256). -/
def State.freeBucket (s : State) (key : List Byte) : Nat × List Nat :=
  let (b1, b2) := bucketsOf key
  let l1 := (s.readBucket b1).2
  let l2 := (s.readBucket b2).2
  if validSlots l2 < validSlots l1 then (b2, l2) else (b1, l1)

/-- The table can hold one more requester of a key (R256). -/
def State.canHold (s : State) (key : List Byte) : Bool :=
  decide (s.get F.PT_SESS_COUNT < sessionMax) && decide (validSlots (s.freeBucket key).2 < 16)

/-- Take a free entry for a key and name it in the index (R256). -/
def State.takeSession (s : State) (key : List Byte) : State × Nat :=
  let (b, l) := s.freeBucket key
  let i := (l.findIdx? (fun w => bits w 31 31 == 0)).getD 0
  let q : State × Nat := match s.pt.freed with
    | e :: rest => ({ s with pt.freed := rest }, e)
    | [] => ({ s with pt.taken := s.pt.taken + 1 }, s.pt.taken)
  ((q.1.count F.PT_SESS_COUNT 1).writeSlot b i (q.2 + tagOf key * 2 ^ 22 + 2 ^ 31), q.2)

/-- Free an entry and clear its index slot (R257). -/
def State.freeSession (s : State) (e : Nat) (key : List Byte) : State :=
  let (b1, b2) := bucketsOf key
  let drop (t : State) (b : Nat) : State :=
    match (t.readBucket b).2.findIdx? (fun w => bits w 31 31 == 1 && bits w 21 0 == e) with
    | some i => t.writeSlot b i 0
    | none => t
  let t := s.writePart s.sessionPart (e * 64) (List.replicate 64 0)
  let t := (drop (drop t b1) b2).put F.PT_SESS_COUNT (s.get F.PT_SESS_COUNT - 1)
  { t with pt.freed := e :: t.pt.freed }

/-- Number of a message type that a session can hold: Announce, Sync, Delay_Resp. -/
def grantIndex : Nat → Option Nat
  | 0xB => some 0 | 0x0 => some 1 | 0x9 => some 2 | _ => none

/-- The message type of a grant. -/
def grantType : Nat → Nat
  | 0 => 0xB | 1 => 0x0 | _ => 0x9

/-- Message rate of a granted period 2^log s, in 1/16 message/s. -/
def rateOf (log : Nat) : Nat := if log = 0x7F then 0 else 2 ^ (4 - signedOf 8 log).toNat

/-- The grant has reached its expiry second (R257). -/
def State.grantOver (s : State) (x : Session) (i : Nat) : Bool :=
  x.logs.getD i 0x7F != 0x7F && decide ((s.sec + 2 ^ 32 - x.expiry.getD i 0 % 2 ^ 32) % 2 ^ 32 < 2 ^ 31)

/-- A grant ends; the entry becomes free when none remains (R257). -/
def State.endGrant (s : State) (e : Nat) (x : Session) (i : Nat) : State × Option Session :=
  let t := s.setPt x.port (fun q => { q with rate := q.rate - rateOf (x.logs.getD i 0x7F) })
  let y := { x with logs := assign 0 i 0x7F x.logs, expiry := assign 0 i 0 x.expiry }
  if y.logs.all (· == 0x7F) then (t.freeSession e x.key, none) else (t.writeSession e y, some y)

/-- GRANT_EXPIRY (R257): of entry e, grant i. -/
def execGrantExpiry (e : BitVec 22) (i : Fin 3) (s : State) : Host.Outcome State Fault Refusal :=
  running s fun s =>
    let q := s.readSession e.toNat
    match q.2 with
    | some x => if s.grantOver x i then (q.1.endGrant e.toNat x i).1 else s
    | none => s

/-- Grants of an entry that have reached their second end first (R280). -/
def State.endOver (s : State) (e : Nat) (x : Session) : List Nat → State × Option Session
  | [] => (s, some x)
  | i :: l =>
    if s.grantOver x i then
      match s.endGrant e x i with
      | (t, some y) => t.endOver e y l
      | (t, none) => (t, none)
    else s.endOver e x l

/-! ## Signaling (R250, R255, R257) -/

/-- The peer of a session's messages. -/
def Session.peer (x : Session) (event : Bool) : Peer :=
  { transport := x.transport, mac := x.mac, ip := x.ip, udp := if event then 319 else 320, vlan := if x.tagged then some x.tci else none }

/-- PT_SPP entry of a session's messages: the session's, or else the port's (R260). -/
def State.sppOf (s : State) (p : Nat) (x : Session) : Nat := if x.spp = 0xFF then s.get (F.PT_PORT_PTP_SPP p) else x.spp

/-- A Signaling message with one TLV, as a non-appointed frame. -/
def State.signaling (s : State) (p : Nat) (d : Peer) (spp : Nat) (target tlv : List Byte) : State :=
  if !s.ptpSends p then s
  else
    let t := s.setPt p (fun q => { q with seqSig := (q.seqSig + 1) % 2 ^ 16 })
    match s.authenticate p spp (s.ptpMessage p 12 true 0 0 (s.ptPort p).seqSig 5 0x7F (target ++ tlv)) with
    | some l => t.sendNow p { d with udp := if d.transport = 0 then 0 else 320 } l
    | none => s

/-- The TLVs of unicast negotiation: REQUEST, GRANT, CANCEL, ACKNOWLEDGE_CANCEL. -/
def requestTlv (type : Nat) (log : Int) (dur : Nat) : List Byte := [0, 4, 0, 6, BitVec.ofNat 8 (type * 16)] ++ bytesI 1 log ++ bytesBE 4 dur
def grantTlv (type : Nat) (log : Int) (dur : Nat) : List Byte :=
  [0, 5, 0, 8, BitVec.ofNat 8 (type * 16)] ++ bytesI 1 log ++ bytesBE 4 dur ++ [0, if dur = 0 then 0 else 1]
def cancelTlv (ack : Bool) (type : Nat) : List Byte := [0, if ack then 7 else 6, 0, 2, BitVec.ofNat 8 (type * 16), 0]

/-- MAX_DUR and the smallest period of a type (R255, R282). -/
def State.maxDur (s : State) : Nat := max 10 (min 1000 (s.get F.PT_UNI_CFG_MAX_DUR))
def State.minLog (s : State) : Nat → Int
  | 0 => max (-3) (s.getI F.PT_UNI_CFG_MIN_LOG_ANN)
  | 1 => max (-7) (s.getI F.PT_UNI_CFG_MIN_LOG_SYNC)
  | _ => max (-7) (s.getI F.PT_UNI_CFG_MIN_LOG_DRESP)

/-- The first PT_SPP entry that an accepted message names; 0xFF for none (R256, R261). -/
def State.sppIndex (s : State) (a : Option AuthTlv) : Nat :=
  match a with
  | none => 0xFF
  | some a => ((List.range 16).find? (fun e => s.on (F.PT_SPP_VALID e) && s.get (F.PT_SPP_SPP e) == a.spp && s.get (F.PT_SPP_KEYID e) == a.keyId)).getD 0xFF

/-- A denial (R255). -/
def State.denyGrant (s : State) (p : Nat) (u : PtpUnicast) : State :=
  (s.count (F.PT_PORT_CNT_GRANT_DENY_N p) 1).signaling p u.head.peer (s.get (F.PT_PORT_PTP_SPP p)) u.head.src (grantTlv u.msgType u.logPeriod 0)

/-- A grant of type i is entered for a session (R255). -/
def State.enterGrant (s : State) (p e i : Nat) (x : Session) (u : PtpUnicast) : State :=
  let dur := max 10 (min s.maxDur u.duration)
  let log := (u.logPeriod % 256).toNat
  let y := { x with logs := assign 0 i log x.logs, expiry := assign 0 i ((s.sec + dur) % 2 ^ 32) x.expiry,
                    renewals := if x.logs.getD i 0x7F = 0x7F then x.renewals else min 0xFFFFFFFF (x.renewals + 1) }
  let t := s.setPt p (fun q => { q with rate := q.rate - rateOf (x.logs.getD i 0x7F) + rateOf log })
  (t.writeSession e y).signaling p u.head.peer (s.sppOf p x) u.head.src (grantTlv u.msgType u.logPeriod dur)

/-- A request for a type that sessions can hold (R255, R280). -/
def State.judgeGrant (s : State) (p i : Nat) (u : PtpUnicast) : State :=
  let key := u.head.key p
  let q := s.findSession key
  let (t, found) : State × Option (Nat × Session) := match q.2 with
    | some (e, x) => let r := q.1.endOver e x [0, 1, 2]; (r.1, r.2.map (fun y => (e, y)))
    | none => (q.1, none)
  let old := match found with | some (_, x) => rateOf (x.logs.getD i 0x7F) | none => 0
  if found.isNone && !t.canHold key then (t.denyGrant p u).event F.PT_EVT_SESS_FULL 0x0730 p 0
  else if 16 * t.get (F.PT_PORT_SVC_BUDGET p) < (t.ptPort p).rate - old + rateOf (u.logPeriod % 256).toNat then
    (t.denyGrant p u).event F.PT_EVT_BUDGET 0x0731 p 0
  else match found with
    | some (e, x) => t.enterGrant p e i x u
    | none =>
      let r := t.takeSession key
      let pe := u.head.peer
      r.1.enterGrant p r.2 i
        { transport := pe.transport, port := p, authed := u.head.auth.isSome, tagged := pe.vlan.isSome, domain := u.head.domain,
          spp := t.sppIndex u.head.auth, id := u.head.src, tci := pe.vlan.getD 0, mac := pe.mac, ip := pe.ip, logs := [0x7F, 0x7F, 0x7F],
          seqSync := 0, seqAnn := 0, expiry := [0, 0, 0], renewals := 0 } u

/-- A PTP message that reaches a port in a role, from the right transport and domain; f handles it once it is accepted. -/
def State.ptpReceive (s : State) (p role : Nat) (h : PtpHead) (f : State → State) : State :=
  if s.serving && s.ptpRole p == role && s.on F.PT_CLOCK_ID_ID && s.forPort p h then s.accepted p h f else s

/-- PTP_UNICAST_REQUEST (R255, R267): with the stamp that charges it. -/
def execPtpUnicastRequest (p : Fin 6) (stamp : TStamp) (u : PtpUnicast) (s : State) : Host.Outcome State Fault Refusal :=
  running s fun s => s.ptpReceive p 1 u.head fun s =>
    let q := s.charge (s.classOf p u.head.peer) u.head.peer stamp false
    if q.2 ≠ .allowed then q.1.count (F.PT_PORT_CNT_RATE_DROP_N p) 1
    else match grantIndex u.msgType with
      | some i => if s.minLog i ≤ u.logPeriod ∧ u.logPeriod ≤ 4 then q.1.judgeGrant p i u else q.1.denyGrant p u
      | none => q.1.denyGrant p u

/-- PTP_CANCEL (R257): the grant ends and the CANCEL is acknowledged. -/
def execPtpCancel (p : Fin 6) (u : PtpUnicast) (s : State) : Host.Outcome State Fault Refusal :=
  running s fun s => s.ptpReceive p 1 u.head fun s =>
    let q := s.findSession (u.head.key p)
    let (t, spp) : State × Nat := match q.2, grantIndex u.msgType with
      | some (e, x), some i => (if x.logs.getD i 0x7F = 0x7F then q.1 else (q.1.endGrant e x i).1, s.sppOf p x)
      | some (_, x), none => (q.1, s.sppOf p x)
      | none, _ => (q.1, s.get (F.PT_PORT_PTP_SPP p))
    t.signaling p u.head.peer spp u.head.src (cancelTlv true u.msgType)

/-! ## Grandmaster (R252 to R254, R257) -/

/-- A period of 2^log s in State.now units. -/
def periodOf (log : Int) : Nat := if 0 ≤ log then tuSec * 2 ^ log.toNat else max 1 (tuSec / 2 ^ (-log).toNat)

/-- The instant k T + phi nearest to the present (R257). -/
def State.instant (s : State) (per phi : Nat) : Nat := (((s.now + per / 2 : Nat) - phi : Int) / per * per + phi).toNat

/-- phi of a session (R257). -/
def Session.phase (x : Session) (per : Nat) : Nat := crc32c x.key % 65536 * per / 65536

/-- A Sync or Announce instant of a multicast profile. -/
def State.multicastInstant (s : State) (p : Nat) (sync : Bool) : State :=
  if s.ptpRole p ≠ 1 ∨ s.ptpProfile p = 2 ∨ !s.ptpSends p then s
  else
    let q := s.ptPort p
    let at_ := s.instant (periodOf (s.getI (if sync then F.PT_PORT_PTP_LOG_SYNC p else F.PT_PORT_PTP_LOG_ANN p))) 0
    let spp := s.get (F.PT_PORT_PTP_SPP p)
    if sync then
      (s.setPt p (fun q => { q with seqSync := (q.seqSync + 1) % 2 ^ 16 })).appoint p (some at_) (.sync (s.multicast p true) false spp q.seqSync)
    else
      (s.setPt p (fun q => { q with seqAnn := (q.seqAnn + 1) % 2 ^ 16 })).appoint p (some at_) (.announce (s.multicast p false) false spp q.seqAnn)

/-- A Sync or Announce instant of a session: not sent at or after the end of its grant (R257). -/
def State.sessionInstant (s : State) (p e : Nat) (sync : Bool) : State :=
  let q := s.readSession e
  match q.2 with
  | none => s
  | some x =>
    let i := if sync then 1 else 0
    let log := x.logs.getD i 0x7F
    let per := periodOf (signedOf 8 log)
    let at_ := s.instant per (x.phase per)
    let ended := decide ((secOf at_ + 2 ^ 32 - x.expiry.getD i 0 % 2 ^ 32) % 2 ^ 32 < 2 ^ 31)
    if x.port ≠ p ∨ log = 0x7F ∨ ended ∨ s.ptpRole p ≠ 1 ∨ !s.ptpSends p then s
    else if sync then
      (q.1.writeSession e { x with seqSync := (x.seqSync + 1) % 2 ^ 16 }).appoint p (some at_) (.sync (x.peer true) true (s.sppOf p x) x.seqSync)
    else
      (q.1.writeSession e { x with seqAnn := (x.seqAnn + 1) % 2 ^ 16 }).appoint p (some at_) (.announce (x.peer false) true (s.sppOf p x) x.seqAnn)

/-- PTP_SYNC_INSTANT (R253): of a multicast profile, or of a session's entry. -/
def execPtpSyncInstant (p : Fin 6) (e : Option (BitVec 22)) (s : State) : Host.Outcome State Fault Refusal :=
  running s fun s => match e with | none => s.multicastInstant p true | some e => s.sessionInstant p e.toNat true

/-- PTP_ANNOUNCE_INSTANT (R252). -/
def execPtpAnnounceInstant (p : Fin 6) (e : Option (BitVec 22)) (s : State) : Host.Outcome State Fault Refusal :=
  running s fun s => match e with | none => s.multicastInstant p false | some e => s.sessionInstant p e.toNat false

/-- The session of a requester that holds a Delay_Resp grant. -/
def State.delayGrant (s : State) (p : Nat) (h : PtpHead) : State × Option Session :=
  let q := s.findSession (h.key p)
  (q.1, (q.2.map Prod.snd).bind (fun x => if x.logs.getD 2 0x7F = 0x7F || s.grantOver x 2 then none else some x))

/-- PTP_DELAY_REQ (R254, R265, R267); a Pdelay message in its place is unsupported on a port in either role (R250). -/
def execPtpDelayReq (p : Fin 6) (stamp : TStamp) (h : PtpHead) (pdelay : Bool) (s : State) : Host.Outcome State Fault Refusal :=
  running s fun s =>
    if !(s.serving && s.ptpRole p != 0 && s.forPort p h) then s
    else if pdelay then s.count (F.PT_PORT_CNT_UNSUPP_N p) 1
    else if s.ptpRole p ≠ 1 then s
    else
      let g := s.delayGrant p h
      if s.ptpProfile p == 2 && g.2.isNone then g.1.count (F.PT_PORT_CNT_UNSUPP_N p) 1
      else if s.stampBad stamp then g.1.count (F.PT_PORT_CNT_STAMP_DROP_N p) 1
      else g.1.ptpReceive p 1 h fun s =>
        let q := s.charge (s.classOf p h.peer) h.peer stamp false
        if q.2 ≠ .allowed then q.1.count (F.PT_PORT_CNT_RATE_DROP_N p) 1
        else match g.2 with
          | some x => q.1.appoint p none (.delayResp (x.peer false) true (s.sppOf p x) h.seq h.src h.corr stamp)
          | none => q.1.appoint p none (.delayResp (s.multicast p false) false (s.get (F.PT_PORT_PTP_SPP p)) h.seq h.src h.corr stamp)

/-- Every grant of port p is cancelled and its entry freed (R257). -/
def State.cancelPort (s : State) (p : Nat) : State :=
  s.forAll (List.range s.pt.taken) (fun t e =>
    let q := t.readSession e
    match q.2 with
    | some x =>
      if x.port = p then
        let u := q.1.forAll [0, 1, 2] (fun u i =>
          if x.logs.getD i 0x7F = 0x7F then u
          else (u.setPt p (fun q => { q with rate := q.rate - rateOf (x.logs.getD i 0x7F) })).signaling p (x.peer false) (s.sppOf p x) x.id
            (cancelTlv false (grantType i)))
        u.freeSession e x.key
      else t
    | none => t)

/-! ## Client (R258, R259, R274) -/

/-- The upstream's address as a peer (R258). -/
def State.upstream (s : State) (p : Nat) : Peer :=
  let v6 := s.ptpTransport p == 2
  { transport := s.ptpTransport p, ip := mapAddress v6 (s.get (F.PT_PORT_UPSTREAM_HI_ADDR p)) (s.get (F.PT_PORT_UPSTREAM_LO_ADDR p)), udp := 320 }

/-- A message may come from the upstream: with UNICAST = 1, from its address. -/
def State.fromUpstream (s : State) (p : Nat) (h : PtpHead) : Bool := !s.on (F.PT_PORT_CLIENT_UNICAST p) || h.peer.ip == (s.upstream p).ip

/-- Order of the data sets of two Announces by the comparison algorithm of IEEE 1588-2019 (R258; log entry 8). -/
def PtpAnnounce.rank (a : PtpAnnounce) : List Nat := [a.prio1, a.gmClass, a.accuracy, a.variance, a.prio2, ofBytesBE a.gmId, a.steps, ofBytesBE a.head.src]

/-- The first of two lists in lexicographic order. -/
def lexLess : List Nat → List Nat → Bool
  | [], _ => false
  | _ :: _, [] => false
  | a :: l, b :: m => decide (a < b) || (a == b && lexLess l m)

/-- Span after which an Announce has timed out: ANN_TO intervals (R259). -/
def State.annSpan (s : State) (p : Nat) : Nat :=
  let n := s.get (F.PT_PORT_CLIENT_ANN_TO p)
  (if n = 0 then 2 else n) * periodOf (if s.on (F.PT_PORT_CLIENT_UNICAST p) then -3 else s.getI (F.PT_PORT_PTP_LOG_ANN p))

/-- Span after which Sync has timed out: 3 intervals (R259). -/
def State.syncSpan (s : State) (p : Nat) : Nat :=
  3 * periodOf (s.getI (if s.on (F.PT_PORT_CLIENT_UNICAST p) then F.PT_PORT_CLIENT_CL_LOG_SYNC p else F.PT_PORT_PTP_LOG_SYNC p))

/-- The last Sync, or the Announce of the grandmaster followed, arrived less than its span ago (R259). -/
def State.syncRecent (s : State) (p : Nat) : Bool := match (s.ptPort p).syncAt with | some t => decide (s.now < t + s.syncSpan p) | none => false
def State.annRecent (s : State) (p : Nat) (src : List Byte) : Bool :=
  (s.ptPort p).announces.any (fun (x : PtpAnnounce × Nat) => x.1.head.src == src && decide (s.now < x.2 + s.annSpan p))

/-- The best of the Announces held. -/
def bestAnnounce (l : List (PtpAnnounce × Nat)) : Option PtpAnnounce :=
  l.foldl (fun b (x : PtpAnnounce × Nat) => match b with | none => some x.1 | some y => if lexLess x.1.rank y.rank then some x.1 else some y) none

/-- The grandmaster followed changes: loss and return of the reference (R258, R95). -/
def State.follow (s : State) (p : Nat) (src : Option (List Byte)) : State :=
  let q := s.ptPort p
  if src = q.followed then s
  else s.setPt p (fun q => { q with followed := src, changed := q.changed || q.followed.isSome, syncOk := false, annOk := false, sync := none,
                                    syncAt := none, request := none, bursis := none })

/-- Why the upstream is rejected, 0 where it is accepted, and its bound (R259). -/
def State.upstreamFault (s : State) (p : Nat) (a : PtpAnnounce) : Nat × Nat :=
  let b := (s.ptPort p).bursis
  let bound := match b with | some x => x.2 | none => accuracyLimit a.accuracy
  let r := if s.get (F.PT_PORT_CLIENT_MAX_CLASS p) < a.gmClass then 1
    else if s.get (F.PT_PORT_CLIENT_MAX_BOUND p) < bound then 2
    else if (b.map Prod.fst).getD false then 3
    else if !a.timeTraceable then 4 else 0
  (r, bound)

/-- The upstream is judged; an entry to rejection writes event 0x073A (R259). -/
def State.judgeUpstream (s : State) (p : Nat) : State :=
  let q := s.ptPort p
  match q.announces.find? (fun (x : PtpAnnounce × Nat) => q.followed == some x.1.head.src) with
  | none => s
  | some (a, _) =>
    let (r, bound) := s.upstreamFault p a
    let t := s.setPt p (fun q => { q with rejected := r != 0, upBound := bound })
    t.when (r != 0 && !q.rejected) (·.event F.PT_EVT_UPSTREAM 0x073A p (p + r * 16))

/-- The active slot is a PTP slot of port p (R274). -/
def State.ptpActive (s : State) (p : Nat) : Bool :=
  match s.activeSlot with
  | some n => s.slotType n == 4 && s.get (F.RS_REF_CFG_SRC n) == p
  | none => false

/-- LEAP_OFFER of an Announce of the active PTP client slot (R274). -/
def State.ptpLeap (s : State) (a : PtpAnnounce) : State :=
  let m : Int := ((s.sec : Int) - a.utcOffset) / 86400 * 86400 + 86400
  if !a.utcValid then s
  else
    let t := s.checkOffset 1 a.utcOffset
    if !s.on F.PT_LEAP_CFG_AUTO_PTP then t
    else if a.leap61 then t.offerLeap ⟨(m + a.utcOffset).toNat, a.utcOffset + 1, 3⟩
    else t.when a.leap59 (·.offerLeap ⟨(m - 1 + a.utcOffset).toNat, a.utcOffset - 1, 3⟩)

/-- PTP_ANNOUNCE_RECEIVED (R258, R259, R274): the condition on Announce holds where the previous one of the sender is recent. -/
def execPtpAnnounceReceived (p : Fin 6) (a : PtpAnnounce) (s : State) : Host.Outcome State Fault Refusal :=
  running s fun s =>
    s.when (s.fromUpstream p a.head) (·.ptpReceive p 2 a.head fun s =>
      let held := (s.ptPort p).announces.filter (fun (x : PtpAnnounce × Nat) => x.1.head.src != a.head.src && decide (s.now < x.2 + s.annSpan p))
      let t := s.setPt p (fun q => { q with announces := held ++ [(a, s.now)] })
      let best := (bestAnnounce (t.ptPort p).announces).map (fun b => b.head.src)
      let t := t.follow p best
      if best = some a.head.src then
        ((t.setPt p (fun q => { q with annOk := s.annRecent p a.head.src })).judgeUpstream p).when (s.ptpActive p) (·.ptpLeap a)
      else t)

/-- The message comes from the grandmaster that the client port follows. -/
def State.fromFollowed (s : State) (p : Nat) (h : PtpHead) : Bool := s.fromUpstream p h && (s.ptPort p).followed == some h.src

/-- A time word formed from a timestamp and a correctionField (R32), State.now units. -/
def ptpTime (sec ns : Nat) (corr : Int) : Int := (timeOf sec (ns * 2 ^ 32) : Int) + corr * (5 * 2 ^ 16)

/-- PTP_SYNC_RECEIVED (R250, R258, R259, R265): the condition on Sync holds where the previous one is recent. -/
def execPtpSyncReceived (p : Fin 6) (stamp : TStamp) (m : PtpSync) (s : State) : Host.Outcome State Fault Refusal :=
  running s fun s =>
    s.when (s.fromFollowed p m.head && !m.twoStep) (·.ptpReceive p 2 m.head fun s =>
      if s.stampBad stamp then s.count (F.PT_PORT_CNT_STAMP_DROP_N p) 1
      else
        let t1 := (ptpTime m.sec m.ns m.head.corr).toNat
        (s.setPt p (fun q => { q with sync := some ⟨t1, stamp.time⟩, syncOk := s.syncRecent p, syncAt := some s.now,
                                      bursis := m.bursis })).judgeUpstream p)

/-- The offset of a completed exchange, State.now units (R258). -/
def exchangeOffset (t1 t2 t3 t4 asym : Int) : Int := roundDiv (((t2 - t1) - (t4 - t3)) * 200 - 2 * asym * 2 ^ 32) 400

/-- PTP_DELAY_RESP_RECEIVED (R258, R265). -/
def execPtpDelayRespReceived (p : Fin 6) (stamp : TStamp) (m : PtpDelayResp) (s : State) : Host.Outcome State Fault Refusal :=
  running s fun s =>
    s.when (s.fromFollowed p m.head && m.requester == s.portIdentity p) (·.ptpReceive p 2 m.head fun s =>
      if s.stampBad stamp then s.count (F.PT_PORT_CNT_STAMP_DROP_N p) 1
      else
        let q := s.ptPort p
        match q.sync, q.request with
        | some x, some (seq, t3) =>
          if seq ≠ m.head.seq then s
          else
            let t4 := ptpTime m.sec m.ns (-m.head.corr)
            let off := exchangeOffset x.t1 x.t2 t3 t4 (s.getI (F.PT_PORT_ASYM_ASYM p))
            s.setPt p (fun q => { q with request := none, offN := q.offN + 1, offSum := q.offSum + off })
        | _, _ => s)

/-- PTP_GRANT_RECEIVED (R258). -/
def execPtpGrantReceived (p : Fin 6) (u : PtpUnicast) (s : State) : Host.Outcome State Fault Refusal :=
  running s fun s =>
    s.when (s.on (F.PT_PORT_CLIENT_UNICAST p) && s.fromUpstream p u.head) (·.ptpReceive p 2 u.head fun s =>
      match grantIndex u.msgType with
      | some i => s.setPt p (fun q => { q with grants := assign 0 i u.duration q.grants, grantAt := assign 0 i s.now q.grantAt })
      | none => s)

/-- The upstream's grant i is held: received, and its duration has not passed (R258). -/
def State.grantHeld (s : State) (p i : Nat) : Bool :=
  let q := s.ptPort p
  q.grants.getD i 0 != 0 && decide (s.now < q.grantAt.getD i 0 + q.grants.getD i 0 * tuSec)

/-- A request for grant i is due: none is held, or half its duration has passed (R258). -/
def State.renewDue (s : State) (p i : Nat) : Bool :=
  let q := s.ptPort p
  !s.grantHeld p i || decide (2 * q.grantAt.getD i 0 + q.grants.getD i 0 * tuSec ≤ 2 * s.now)

/-- CLIENT_GRANT_RENEW (R258): the first request of a grant, and its renewal when half its duration has passed. -/
def execClientGrantRenew (p : Fin 6) (i : Fin 3) (s : State) : Host.Outcome State Fault Refusal :=
  running s fun s =>
    let log : Int := if i.val = 0 then -3 else s.getI (F.PT_PORT_CLIENT_CL_LOG_SYNC p)
    s.when (s.ptpRole p == 2 && s.on (F.PT_PORT_CLIENT_UNICAST p) && s.renewDue p i)
      (·.signaling p (s.upstream p) (s.get (F.PT_PORT_PTP_SPP p)) (List.replicate 10 0xFF) (requestTlv (grantType i) log s.maxDur))

/-- CLIENT_DELAY_REQ_SEND (R258): in unicast only with a Delay_Resp grant. -/
def execClientDelayReqSend (p : Fin 6) (s : State) : Host.Outcome State Fault Refusal :=
  running s fun s =>
    let q := s.ptPort p
    let uni := s.on (F.PT_PORT_CLIENT_UNICAST p)
    let d := if uni then { s.upstream p with udp := 319 } else s.multicast p true
    if s.ptpRole p ≠ 2 ∨ !s.ptpSends p ∨ q.followed.isNone ∨ (uni ∧ !s.grantHeld p 2) then s
    else (s.setPt p (fun q => { q with seqReq := (q.seqReq + 1) % 2 ^ 16 })).appoint p none (.delayReq d uni q.seqReq)

/-- PTP_RECEIPT_TIMEOUT (R259): of Sync, or of the Announce of the grandmaster followed, once its span has passed. -/
def execPtpReceiptTimeout (p : Fin 6) (ann : Bool) (s : State) : Host.Outcome State Fault Refusal :=
  running s fun s =>
    if ann then
      let q := s.ptPort p
      if (q.followed.map (s.annRecent p)).getD false then s
      else
        let rest := q.announces.filter (fun (x : PtpAnnounce × Nat) => q.followed != some x.1.head.src && decide (s.now < x.2 + s.annSpan p))
        let t := s.setPt p (fun q => { q with announces := rest, annOk := false })
        t.follow p ((bestAnnounce rest).map (fun b => b.head.src))
    else s.when (!s.syncRecent p) (·.setPt p (fun q => { q with syncOk := false }))

/-- What a client port remembers of its upstream is forgotten. -/
def State.forgetUpstream (s : State) (p : Nat) : State :=
  s.setPt p (fun q => { q with syncOk := false, annOk := false, rejected := false, changed := false, upBound := unbounded, announces := [],
                               followed := none, bursis := none, sync := none, syncAt := none, request := none, offN := 0, offSum := 0, grants := [0, 0, 0] })

/-- A port leaves a role: a grandmaster cancels its grants, a client those it holds (R250, R257). -/
def State.leaveRole (s : State) (p old new : Nat) : State :=
  if old = new then s
  else if old = 1 then s.cancelPort p
  else if old = 2 then
    let t := s.forAll [0, 1, 2] (fun t i => t.when (s.grantHeld p i)
      (·.signaling p (s.upstream p) (s.get (F.PT_PORT_PTP_SPP p)) (List.replicate 10 0xFF) (cancelTlv false (grantType i))))
    t.forgetUpstream p
  else s

/-- LOG_SYNC, LOG_ANN and LOG_DREQ that a profile loads (R251); G.8275.2 has none. -/
def profileLogs : Nat → Option (Int × Int × Int)
  | 0 | 3 => some (0, 1, 0)
  | 1 => some (-4, -3, -4)
  | _ => none

/-- The fields of PT_PORTp_PTP take the values of a word. -/
def State.putPtp (s : State) (p : Nat) (v : Word) : State :=
  s.forAll [F.PT_PORT_PTP_ROLE p, F.PT_PORT_PTP_PROFILE p, F.PT_PORT_PTP_TRANSPORT p, F.PT_PORT_PTP_MCAST_ALT p, F.PT_PORT_PTP_AUTH_REQ p,
    F.PT_PORT_PTP_DOMAIN p, F.PT_PORT_PTP_LOG_SYNC p, F.PT_PORT_PTP_LOG_ANN p, F.PT_PORT_PTP_LOG_DREQ p, F.PT_PORT_PTP_PRIO1 p, F.PT_PORT_PTP_PRIO2 p,
    F.PT_PORT_PTP_SPP p, F.PT_PORT_PTP_BURSIS p] (fun t f => t.put f (f.ofWord v))

/-- A write of PT_PORTp_PTP (R251, R257): a changed PROFILE loads its defaults in the same write. -/
def State.writePtp (s : State) (p : Nat) (v : Word) : State :=
  let new := (F.PT_PORT_PTP_PROFILE p).ofWord v
  let role := if p ≤ 3 then (F.PT_PORT_PTP_ROLE p).ofWord v % 3 else 0
  let t := (s.leaveRole p (s.ptpRole p) role).putPtp p v
  if new = s.get (F.PT_PORT_PTP_PROFILE p) then t
  else
    let t := t.put (F.PT_PORT_PTP_DOMAIN p) (profileDomain (new % 3)).1
    match profileLogs new with
    | some (a, b, c) => ((t.putI (F.PT_PORT_PTP_LOG_SYNC p) a).putI (F.PT_PORT_PTP_LOG_ANN p) b).putI (F.PT_PORT_PTP_LOG_DREQ p) c
    | none => t

/-- PT_PORT_PTP_WRITE (R251). -/
def execPtPortPtpWrite (path : Path) (p : Fin 6) (v : Word) (s : State) : Host.Outcome State Fault Refusal :=
  running s fun s => s.hostWrite path (F.PT_PORT_PTP_ROLE p).off (·.writePtp p v)

/-- The mean of the offsets that a client port completed since the previous update goes to its slots (R258). -/
def State.feedPtp (s : State) : State :=
  s.forAll [0, 1, 2, 3] (fun t p =>
    let q := t.ptPort p
    if q.offN = 0 then t
    else (t.setPt p (fun q => { q with offN := 0, offSum := 0 })).offsetToSlots 4 (some p) (roundDiv q.offSum q.offN))

/-- The change of a followed grandmaster has been seen by an update. -/
def State.clearChanged (s : State) : State := s.forAll [0, 1, 2, 3] (fun t p => t.setPt p (fun q => { q with changed := false }))

end Sys2Proof.Machine
end

