-- ==== Sys2Proof/Machine/Tamper.lean ====
section
/-! DEFINITION. Tamper sources and the tamper response (R295 to R299). -/
namespace Sys2Proof.Machine

/-- The tamper record in the Firn store (R296, R356; log entry 6): TP_STAT and the RTC count. -/
def State.fileTamper (s : State) : State :=
  let w := s.get F.TP_STAT_LATCH + 4 * s.get F.TP_STAT_WHEN + 256 * s.get F.TP_STAT_SRC
  { s with firn := writeBytes s.firn 0x6000 (bytesLE 8 w ++ bytesLE 8 (s.get F.TP_TIME_RTC)) }

/-- The latch is set with its sources, moment and RTC count (R296, step 3). -/
def State.latchTamper (s : State) (src moment : Nat) : State :=
  ((((s.put F.TP_STAT_LATCH 1).put F.TP_STAT_SRC (s.get F.TP_STAT_SRC ||| src)).put F.TP_STAT_WHEN moment).put F.TP_TIME_RTC
    (s.get F.PM_RTC_RTC)).fileTamper

/-- Steps 2 of R296: slots zeroised, operations aborted, the root disabled; fuse programming stops after the entry being burned (R318). -/
def State.zeroise (s : State) : State :=
  let t := (s.abortOp 0x04).zeroSlots
  ({ t with gl.burning := t.gl.burning.take 1 }.put F.KV_STAT_ROOT 3).abortCx 0x04

/-- TAMPER_RESPONSE (R296, R297): with the sources and the moment of detection; a latched part only adds sources. During Névé entry it is
also a wake cause (R354). -/
def State.trip (s : State) (src moment : Nat) : State :=
  let s := if s.get F.PM_STAT_STATE = 1 then { s with pm.wakeOwed := some 5 } else s
  if s.on F.TP_STAT_LATCH then (s.put F.TP_STAT_SRC (s.get F.TP_STAT_SRC ||| src)).fileTamper
  else ((s.zeroise.latchTamper src moment).event F.TP_EVT_TAMPER 0x0910 0 (src + moment * 256)).showKeys

/-- Moment of a detection in the Run state: 0 Run, 1 start-up (R302). -/
def State.tripMoment (s : State) : Nat := if s.get F.BT_STAT_STATE = 3 ∨ s.get F.BT_STAT_STATE = 6 ∨ s.get F.BT_STAT_STATE = 7 then 0 else 1

/-- Input n is enabled, and a level is its tamper level (R295, R302). -/
def State.tamperLevel (s : State) (n : Nat) (level : Bool) : Bool :=
  s.get F.TP_CFG_IN_EN / 2 ^ n % 2 == 1 && (s.get F.TP_CFG_POL / 2 ^ n % 2 == 1) == level

/-- TAMPER_INPUT_ASSERT (R295): TAMP_INn takes a level; at its tamper level debounce begins, and DEBOUNCE = 0 trips with the first sample. -/
def execTamperInputAssert (n : Fin 4) (level : Bool) (s : State) : Host.Outcome State Fault Refusal :=
  running s fun s =>
    if !s.tamperLevel n level then { s with kv.debounce := assign none n none s.kv.debounce }
    else if s.get F.TP_CFG_DEBOUNCE = 0 then s.trip (2 ^ n.val) s.tripMoment
    else { s with kv.debounce := assign none n (some ((s.kv.debounce.getD n none).getD s.now)) s.kv.debounce }

/-- Input n has stood at its tamper level for DEBOUNCE ms (R295, R302). -/
def State.debounced (s : State) (n : Nat) : Bool :=
  match s.kv.debounce.getD n none with
  | some t => decide (t + s.get F.TP_CFG_DEBOUNCE * tuMs ≤ s.now)
  | none => false

/-- TAMPER_DEBOUNCE_EXPIRY (R295). -/
def execTamperDebounceExpiry (n : Fin 4) (s : State) : Host.Outcome State Fault Refusal :=
  running s fun s =>
    s.when (s.debounced n) (fun s => { s with kv.debounce := assign none n none s.kv.debounce }.trip (2 ^ n.val) s.tripMoment)

/-- The voltage monitor trips at a level in mV of VDD_CORE, or at a fall in mV within 20 ns that recovers within 1 µs (R295). -/
def voltageTamper (level fall : Nat) : Bool := decide (900 < level) || decide (100 < fall)

/-- The temperature monitor trips at a die temperature in °C (R295). -/
def tempTamper (t : Int) : Bool := decide (t < -50) || decide (120 < t)

/-- VOLTAGE_MONITOR_TRIP (R295): VDD_CORE in mV, and its fastest fall. -/
def execVoltageMonitorTrip (level fall : Nat) (s : State) : Host.Outcome State Fault Refusal :=
  running s fun s => s.when (s.on F.TP_CFG_VMON && voltageTamper level fall) (fun s => s.trip 16 s.tripMoment)

/-- The die temperature reaches PM_TEMP (R417, R421). -/
def State.showTemp (s : State) (t : Int) : State :=
  let v := clampI (-128) 127 t
  ((s.putI F.PM_TEMP_TJ v).putI F.PM_TEMP_TJ_MAX (max v (s.getI F.PM_TEMP_TJ_MAX))).putB F.PM_TEMP_HOT (decide (110 ≤ t))

/-- TEMP_MONITOR_TRIP (R295, R417): die temperature in °C. -/
def execTempMonitorTrip (t : Int) (s : State) : Host.Outcome State Fault Refusal :=
  running s fun s => (s.showTemp t).when (s.on F.TP_CFG_TMON && tempTamper t) (fun s => s.trip 32 s.tripMoment)

/-- CLOCK_MONITOR_TRIP (R295): a period of the active tick in ps. -/
def execClockMonitorTrip (ps : Nat) (s : State) : Host.Outcome State Fault Refusal :=
  running s fun s => s.when (s.on F.TP_CFG_CMON && (decide (ps < 1200) || decide (2400 < ps))) (fun s => s.trip 64 s.tripMoment)

end Sys2Proof.Machine
end

