-- ==== Sys2Proof/Machine/Mate.lean ====
section
/-! DEFINITION. The Clekosal link and the lease of the ACTIVE role (R331 to R335). -/
namespace Sys2Proof.Machine

/-- Payload bytes of a Clekosal frame type; WAKE has the pattern's 64 bytes in all (R331). -/
def mateFrameLen : Nat → Option Nat
  | 1 => some 74 | 2 => some 1058 | 3 => some 94 | 4 => some 64 | 5 => some 38 | _ => none

/-! ## TIME frames (R332) -/

/-- A TIME frame with its appointed time; none where its key refuses. -/
def State.timeFrame (s : State) (t : Nat) : Option (List Byte) :=
  let (stamp, seq) := s.rd.lastTime.getD (0, 0)
  let m := s.mateBody 1 (bytesLE 8 (secOf t) ++ bytesLE 8 (nsfOf t) ++ bytesLE 8 (secOf stamp) ++ bytesLE 8 (nsfOf stamp) ++ bytesLE 4 seq ++
    bytesLE 8 (s.get F.MB_BOUND_BOUND))
  (s.mateKey 21).map (fun key => m ++ mateIcv key m)

/-- The answer to a TIME frame's appointment request. -/
def State.answerTime (s : State) (a : Option ApSlot) : State :=
  match a with
  | none => s
  | some x =>
    match s.timeFrame x.appt with
    | some l =>
      let t := s.handOff 4 x.handle { bytes := l }
      { t with rd.sent := ((s.rd.mateSeq, x.appt) :: s.rd.sent).take 8, rd.mateSeq := (s.rd.mateSeq + 1) % 2 ^ 32 }
    | none => s.freeSlot 4 x.handle

/-- The answer to any held or fresh appointment request (R208, R216). -/
def State.answerJob (s : State) (p : Nat) (j : Job) (a : Option ApSlot) : State :=
  match j with
  | .cell tok c v => s.answerCell tok c v a
  | .time => s.answerTime a
  | j => s.answerServe p j a

/-- CLEKOSAL_TIME_SEND (R332): at the instant k * 125 ms + 5 ms nearest to the present. -/
def execClekosalTimeSend (s : State) : Host.Outcome State Fault Refusal :=
  running s fun s =>
    if !s.mateLine || (s.mateKey 21).isNone then s
    else
      let at_ := s.instant (125 * tuMs) (5 * tuMs)
      let len := 94
      if s.on (F.AP_PORT_STAT_HOLD 4) then s.holdRequest 4 len (some at_) .time
      else
        let q := s.apRequest 4 len (some at_)
        q.1.answerTime q.2

/-! ## Roles (R333, R334) -/

/-- The chip takes a role, with event 0x0A22; the client lanes follow the gate. -/
def State.setRole (s : State) (role : Nat) : State :=
  let old := s.get F.RD_MATE_STAT_ROLE
  if old = role then s
  else
    let t := (s.put F.RD_MATE_STAT_ROLE role).event F.RD_EVT_ROLE 0x0A22 0 (old + role * 4)
    { t with rd.roleSince := s.now }.forAll [0, 1, 2, 3] State.applyLaneCfg

/-- Place of a copy of the mate's checkpoint in Glacier memory (R332). -/
def mateCopyAt (i : Nat) : Nat := 0x1FD200000 + i * 0x1000

/-- A kept copy of a mate checkpoint whose CRC matches: its SEQ. -/
def State.mateCopySeq (s : State) (i : Nat) : State × Option Nat :=
  if !s.glReady then (s, none)
  else
    let q := s.glRead (mateCopyAt i) 0x1000
    (q.1, q.2.bind (fun b => if ofBytesLE ((b.drop 0xFF8).take 4) = crc32c (b.take 0xFF8) then some (at8 b 0) else none))

/-- The ACTIVE role is taken from a silent mate: event 0x0A22, then an entry with the SEQ of the newest valid mate checkpoint (R334). -/
def State.takeOver (s : State) : State :=
  let t := s.setRole 1
  let a := t.mateCopySeq 0
  let b := a.1.mateCopySeq 1
  match a.2, b.2 with
  | none, none => b.1
  | x, y => b.1.raise 0x0A22 0x13 0 (max (x.getD 0) (y.getD 0))

/-- LEASE in units of State.now (R344). -/
def State.leaseSpan (s : State) : Nat := max 25 (s.get F.RD_MATE_CFG_LEASE) * (10 * tuMs)

/-- For LEASE no TIME frame has come to a chip without a role, or none with the lease flag to one on STANDBY (R333). -/
def State.leaseOver (s : State) : Bool :=
  let since := if s.get F.RD_MATE_STAT_ROLE = 2 then max s.rd.roleSince (s.rd.leaseAt.getD 0) else max s.rd.enAt (s.rd.timeAt.getD 0)
  decide (since + s.leaseSpan ≤ s.now)

/-- MATE_LEASE_EXPIRY (R333): no leased TIME frame for LEASE. -/
def execMateLeaseExpiry (s : State) : Host.Outcome State Fault Refusal :=
  running s fun s =>
    if !s.on F.RD_MATE_CFG_EN || !s.leaseOver then s
    else match s.get F.RD_MATE_STAT_ROLE with
      | 0 => s.setRole 1
      | 2 => s.takeOver
      | _ => s

/-- No TIME frame has verified for four periods of 125 ms (R332). -/
def State.mateSilent (s : State) : Bool :=
  match s.rd.timeAt with
  | some t => decide (t + 500 * tuMs ≤ s.now)
  | none => true

/-- CLEKOSAL_LINK_TIMEOUT (R332). -/
def execClekosalLinkTimeout (s : State) : Host.Outcome State Fault Refusal :=
  running s fun s => s.when (s.on F.RD_MATE_STAT_LINK && s.mateSilent) (fun s => (s.put F.RD_MATE_STAT_LINK 0).event F.RD_EVT_LINK_DOWN 0x0A21 0 0)

/-- A header's lease and role against this chip's (R333): a conflict keeps the earlier active-since time, then the lower MAC address. -/
def State.leaseSeen (s : State) (lease : Bool) (since : Nat) (src : List Byte) : State :=
  match s.get F.RD_MATE_STAT_ROLE with
  | 0 => if lease then s.setRole 2 else s.when (s.on F.RD_MATE_CFG_PREF) (·.setRole 1)
  | 1 =>
    let mine := secOf s.rd.roleSince
    let lower := decide (ofBytesBE src < ofBytesBE (bytesLE 6 (s.get (F.MAC_PORT_ADDR_ADDR 4 0))))
    s.when (lease && (decide (since < mine) || (since == mine && lower))) (·.setRole 2)
  | _ => s

/-- The lease is handed over from orphan hold once the mate's bound is no greater than this chip's own (R334). -/
def State.handOver (s : State) : State :=
  s.when (s.on F.RD_STAT_ORPHAN && s.on F.RD_MATE_CFG_HANDOVER && s.get F.RD_MATE_STAT_ROLE == 1 &&
    decide (s.get F.RD_MATE_BOUND_BOUND ≤ s.boundAt s.now)) (·.setRole 2)

/-! ## Received frames (R331, R332) -/

/-- The mate offset of an exchange is shown and given to the MATE slot; the proof counts it (R332, R340). -/
def State.mateOffset (s : State) (off : Int) : State :=
  let ph := phaseOfSpan off
  let t := (s.putI F.RD_MATE_OFS_OFS (clampI (-2 ^ 63) (2 ^ 63 - 1) ph)).offsetToSlots 6 none off
  let lim := boundSum [s.boundAt s.now, s.get F.RD_MATE_BOUND_BOUND, s.get F.RD_RIME_TOL_TOL_LINK]
  let run := if phasePs ph ≤ lim then s.rd.goodRun + 1 else 0
  { t with rd.goodRun := run, rd.bestRun := max s.rd.bestRun run }

/-- A verified TIME frame: l is the frame, st its ingress stamp. -/
def State.mateTime (s : State) (l : List Byte) (st : TStamp) : State :=
  let word (off : Nat) : Nat := timeOf (at8 l off) (at8 l (off + 8))
  let a := word 30
  let d := word 46
  let seqD := ofBytesLE ((l.drop 62).take 4)
  let t := s.put F.RD_MATE_BOUND_BOUND (min unbounded (at8 l 66))
  let late := match s.rd.wokeAt with | some w => decide (w + tuSec < s.now) | none => false
  let t := if s.on F.RD_MATE_STAT_LINK then t
    else { (t.put F.RD_MATE_STAT_LINK 1).event F.RD_EVT_LINK_UP 0x0A20 0 0 with rd.lateLink := t.rd.lateLink || late, rd.wokeAt := none }
  let t := t.put F.RD_MATE_STAT_MATE_NEVE 0
  let t := match s.rd.sent.find? (fun e => e.1 == seqD) with
    | some (_, c) => if st.valid then t.mateOffset (exchangeOffset a st.time c d (s.getI F.RD_MATE_ASYM_ASYM)) else t
    | none => t
  let lease := ((l.drop 16).headD 0).toNat % 2 == 1
  let t := { t with rd.lastTime := some (st.time, ofBytesLE ((l.drop 18).take 4)), rd.timeAt := some s.now,
                    rd.leaseAt := if lease then some s.now else t.rd.leaseAt }
  (t.leaseSeen lease (at8 l 22) ((l.drop 6).take 6)).handOver

/-- A verified CKPT frame is kept in Glacier memory, in the copy that its segment 0 began. -/
def State.mateSegment (s : State) (l : List Byte) : State :=
  let n := ((l.drop 30).headD 0).toNat % 4
  let copy := if n = 0 then 1 - s.rd.mateCopy else s.rd.mateCopy
  { s.when s.glReady (·.glWrite (mateCopyAt copy + 1024 * n) ((l.drop 34).take 1024)) with rd.mateCopy := copy }

/-- A frame whose ICV fails (R331). -/
def State.mateAuthFail (s : State) : State := (s.count F.RD_CNT_AUTH_FAIL 1).eventRated (0x0A23 * 8) F.RD_EVT_AUTH 0x0A23 0 0

/-- CLEKOSAL_FRAME_RECEIVED (R331): from its destination address on, without its FCS. -/
def execClekosalFrameReceived (l : List Byte) (st : TStamp) (s : State) : Host.Outcome State Fault Refusal :=
  running s fun s =>
    if !s.on F.RD_MATE_CFG_EN || at2 l 12 != 0x88B5 then s
    else
      let type := ((l.drop 15).headD 0).toNat
      match mateFrameLen type, s.mateKey 22 with
      | none, _ | _, none => s.mateAuthFail
      | some n, some key =>
        if l.length < n + 16 ∨ (l.drop n).take 16 ≠ mateIcv key (l.take n) then s.mateAuthFail
        else if type = 4 then s
        else if (l.drop 14).headD 0 ≠ 1 then s
        else match type with
          | 1 => s.mateTime l st
          | 2 => s.mateSegment l
          | 3 => { s.put F.RD_MATE_STAT_MATE_NEVE 1 with rd.matePat := (l.drop 30).take 64 }
          | _ => { s with rd.prove := some (at8 l 30) }

/-- A write of RD_MATE_CFG: a disabled link leaves the chip without a role, and the client lanes follow GATE (R333, R344). -/
def State.writeMateCfg (s : State) (v : Word) : State :=
  let t := s.forAll [F.RD_MATE_CFG_EN, F.RD_MATE_CFG_PREF, F.RD_MATE_CFG_GATE, F.RD_MATE_CFG_NEVE_STBY, F.RD_MATE_CFG_HANDOVER, F.RD_MATE_CFG_LEASE,
    F.RD_MATE_CFG_SLOT] (fun t f => t.put f (f.ofWord v))
  let t := if s.on F.RD_MATE_CFG_EN then t else { t with rd.enAt := s.now, rd.timeAt := none, rd.leaseAt := none }
  (if t.on F.RD_MATE_CFG_EN then t else t.setRole 0).forAll [0, 1, 2, 3] State.applyLaneCfg

end Sys2Proof.Machine
end

