-- ==== Sys2Proof/Machine/Gnss.lean ====
section
/-! DEFINITION. GNSS baseband (chapter 07): sample clocks, front-end control, the timing solution, position, spoof guard, Flake mode, kept data. -/
namespace Sys2Proof.Machine

/-! ## Bands and starts (R129, R146) -/

/-- Band b (0 A, 1 B) is in use. -/
def State.bandOk (s : State) (b : Nat) : Bool := s.get F.GN_STAT_BANDS_OK / 2 ^ b % 2 == 1

/-- Put band b in or out of use. -/
def State.putBand (s : State) (b : Nat) (ok : Bool) : State :=
  let v := s.get F.GN_STAT_BANDS_OK
  s.put F.GN_STAT_BANDS_OK (v - v / 2 ^ b % 2 * 2 ^ b + (if ok then 2 ^ b else 0))

/-- The band is enabled. -/
def State.bandEnabled (s : State) (b : Nat) : Bool := s.on F.GN_CFG_EN && s.on (if b = 0 then F.GN_CFG_BAND_A else F.GN_CFG_BAND_B)

/-- Band b is in use: enabled, with its clock within limits (R129). -/
def State.bandUsed (s : State) (b : Nat) : Bool := s.bandEnabled b && s.bandOk b

/-- Declared rate of a band, kHz (R149). -/
def State.bandRate (s : State) (b : Nat) : Nat := s.get (if b = 0 then F.GN_FE_A_CFG_RATE else F.GN_FE_B_CFG_RATE)

/-- MIN_SV, 0 acting as 1 (R149). -/
def State.minSv (s : State) : Nat := max 1 (s.get F.GN_SOL_CFG_MIN_SV)

/-- An ephemeris is less than 4 h old (R132). -/
def State.fresh4h (s : State) (toe : Nat) : Bool := decide (((s.sec : Int) - toe).natAbs < 14400)

/-- Place of the GNSS record in the Firn store (R356). -/
def gnBase : Nat := 0x4000

/-- The bytes of the GNSS record, where its CRC matches (R145). -/
def State.gnRecord (s : State) : Option (List Byte) :=
  let l := readBytes s.firn gnBase 0x2000
  if ofBytesLE ((l.drop 0x1FF8).take 4) = crc32c (l.take 0x1FF8) ∧ ofBytesLE (l.drop 0x1FFC) = 0 then some l else none

/-- Ten milliseconds in ps, the bound of a hot start and of a snapshot (R143, R146). -/
def tenMs : Nat := 10 ^ 10

/-- The kind of a start (R146): 0 hot, 1 warm, 2 cold; a record that fails its CRC gives event 0x030D and a cold start. -/
def State.startKind (s : State) : State × Nat :=
  match s.gnRecord with
  | none => (s.event F.GN_EVT_FN_BAD 0x030D 0 0, 2)
  | some l =>
    let ephs := (s.gn.ephs.filter (fun e => s.fresh4h e.toe)).length
    let pos := s.on F.GN_POS_STAT_VALID
    if s.gn.hot || (pos && decide (s.minSv ≤ ephs) && decide (s.get F.MB_BOUND_BOUND < tenMs)) then (s, 0)
    else if pos && ((l.drop 0x100).take 0x1000).any (· != 0) then (s, 1)
    else (s, 2)

/-- Survey-in starts from zero (R138). -/
def State.startSurvey (s : State) : State :=
  { (s.put F.GN_POS_STAT_ELAPSED 0).put F.GN_POS_STAT_SURVEY_UNC 0 with
    gn.survey := true, gn.surveyN := 0, gn.surveyX := 0, gn.surveyY := 0, gn.surveyZ := 0, gn.surveyTime := 0 }

/-- A start that is due begins once the baseband is enabled and band A is in use (R146). Survey-in starts from zero where no position is
held (R138). -/
def State.tryStart (s : State) : State :=
  if !(s.gn.startDue && s.on F.GN_CFG_EN && s.bandOk 0 && !s.gn.flake) then s
  else
    let (t, k) := s.startKind
    let t := t.when ((s.get F.GN_POS_CFG_MODE == 0 || s.get F.GN_POS_CFG_MODE == 3) && !s.on F.GN_POS_STAT_VALID) (·.startSurvey)
    { t.put F.GN_STAT_STATE 1 with gn.startDue := false, gn.first := true, gn.kind := k, gn.hot := false, gn.lastEpoch := none }

/-- An occasion of R146 for a start. -/
def State.gnStart (s : State) : State :=
  { s.put F.GN_STAT_STATE (if s.gn.flake then 4 else 1) with gn.startDue := true }.tryStart

/-- The front-end script of each of the two front ends shifts out its SPI words, of which a front end has at most 64 (R130). -/
def State.runScript (s : State) : State :=
  let scripts := (s.df.image.map Image.scripts).getD []
  let t := s.forAll (scripts.take 2).zipIdx (fun t e => t.forAll (e.1.take 64) (fun t w => t.emit (.gnSpi e.2 32 w)))
  { t.put F.GN_FE_SPI_BUSY 1 with gn.script := true }

/-- The channels go idle. -/
def State.idleChannels (s : State) : State :=
  { s with gn.search := [] }.forAll (List.range 128) (fun t p => (t.put (F.GN_CH_STAT_STATE p) 0).put (F.GN_CH_STAT_B_OK p) 0)

/-- The pairs of a system that GN_CFG.SYS does not enable go idle: the system is not tracked (R131). -/
def State.idleSystems (s : State) : State :=
  s.forAll (List.range 128) (fun t p =>
    if t.get (F.GN_CH_STAT_STATE p) = 0 ∨ t.get F.GN_CFG_SYS / 2 ^ t.get (F.GN_CH_STAT_SYS p) % 2 = 1 then t
    else { (t.put (F.GN_CH_STAT_STATE p) 0).put (F.GN_CH_STAT_B_OK p) 0 with gn.search := t.gn.search.filter (· != p) })

/-- A frequency window is given up without a result: its channel is no longer enabled. -/
def State.dropWindow (s : State) (ch : Nat) : State := s.setChan ch (fun c => { c with winEdges := 0, winFirst := none, winLast := none })

/-- The baseband stops (R148, R149). -/
def State.gnStop (s : State) : State :=
  { ((((s.put F.GN_STAT_STATE 0).put F.GN_STAT_BANDS_OK 0).idleChannels).dropWindow 18).dropWindow 19 with
    gn.bad := [false, false], gn.startDue := false, gn.first := false, gn.mark := none }

/-- The sample clock of band b as CH18 or CH19 measured it over the second that ends (R129): none where the clock is absent, with fewer than two
edges since the last check. -/
def State.bandClock (s : State) (b : Nat) : Option IeResult := if (s.chan (18 + b)).winEdges < 2 then none else some (s.windowResult (18 + b))

/-- 500 ppm as a frequency word (R27, R129). -/
def ppm500 : Nat := 500 * 10 ^ 6 * 2 ^ 32

/-- Test band b against its clock (R129): a measured rate within 500 ppm of a declared rate in range puts it in use. A window without a measured
rate, since a dip discarded its first or last stamp, decides nothing (DEDUCED, log entry 38). -/
def State.checkBand (s : State) (b : Nat) (clock : Option IeResult) : State :=
  if !s.bandEnabled b then { s.putBand b false with gn.bad := assign false b false s.gn.bad }
  else
    let decl := s.bandRate b
    let inRange := decide (20460 ≤ decl ∧ decl ≤ 81840)
    if inRange && (match clock with | some r => r.flg / 8 % 2 == 1 | none => false) then s
    else
      let ok := inRange && (match clock with | some r => decide (r.ph.natAbs ≤ ppm500) | none => false)
      let rate : Int := match clock with | some r => decl * 1000 + roundDiv (decl * 1000 * r.ph) (10 ^ 12 * 2 ^ 32) | none => 0
      let was := s.gn.bad.getD b false
      let t := { s.putBand b ok with gn.bad := assign false b (!ok) s.gn.bad, gn.rates := assign 0 b rate.toNat s.gn.rates }
      if !ok && !was then t.event F.GN_EVT_CLK_BAD 0x0301 0 b
      else t.when (ok && was) (·.event F.GN_EVT_CLK_OK 0x0302 0 b)

/-- The frequency window of a band's clock ends with the check (R70, R129); its last edge opens the next where the clock runs. -/
def State.endRateWindow (s : State) (b : Nat) : State :=
  if s.bandEnabled b then s.endWindow (18 + b) (s.bandClock b).isSome else s.dropWindow (18 + b)

/-- Edges of band b's clock that came without an IE_EDGE: they lie between the first and the last stamped edge of its window and count in its
periods (R70; DESIGN CHOICE, log entry 15). -/
def State.moreEdges (s : State) (b n : Nat) : State :=
  s.when (decide (2 ≤ (s.chan (18 + b)).winEdges)) (·.setChan (18 + b) (fun c => { c with winEdges := c.winEdges + n }))

/-- GN_RATE_CHECK (R129): each enabled band's clock is measured and tested. A check whose window a migration meets is skipped (R148). -/
def execGnRateCheck (a b : Nat) (s : State) : Host.Outcome State Fault Refusal :=
  running s fun s =>
    let s := (s.moreEdges 0 a).moreEdges 1 b
    let t := (s.endRateWindow 0).endRateWindow 1
    if s.gn.rateSkip then { t with gn.rateSkip := false }
    else ((t.checkBand 0 (s.bandClock 0)).checkBand 1 (s.bandClock 1)).tryStart

/-- Bits of a transfer (R149). -/
def spiLen (v : Nat) : Nat := max 8 (min 32 v)

/-- A write of GN_FE_SPI (R130). -/
def State.writeGnSpi (s : State) (v : Word) : State :=
  let go := F.GN_FE_SPI_GO.ofWord v == 1
  if go && s.on F.GN_FE_SPI_BUSY then s
  else
    let t := (((s.put F.GN_FE_SPI_DATA (F.GN_FE_SPI_DATA.ofWord v)).put F.GN_FE_SPI_LEN (F.GN_FE_SPI_LEN.ofWord v)).put F.GN_FE_SPI_CS
      (F.GN_FE_SPI_CS.ofWord v)).put F.GN_FE_SPI_DIV (F.GN_FE_SPI_DIV.ofWord v)
    let len := spiLen (F.GN_FE_SPI_LEN.ofWord v)
    t.when go (fun t =>
      { (t.put F.GN_FE_SPI_BUSY 1).emit (.gnSpi (F.GN_FE_SPI_CS.ofWord v) len (F.GN_FE_SPI_DATA.ofWord v % 2 ^ len)) with gn.spi := true })

/-- GN_FE_SPI_TRANSFER (R130): a write of GN_FE_SPI. -/
def execGnFeSpiTransfer (path : Path) (v : Word) (s : State) : Host.Outcome State Fault Refusal :=
  running s fun s => s.hostWrite path F.GN_FE_SPI_DATA.off (·.writeGnSpi v)

/-- GN_FE_SPI_DONE (R130): the transfer ends with the bits received. -/
def execGnFeSpiDone (bits : BitVec 32) (s : State) : Host.Outcome State Fault Refusal :=
  running s fun s =>
    s.when s.gn.spi (fun s =>
      let t := if s.gn.discard then s else s.put F.GN_FE_SPI_DATA (bits.toNat % 2 ^ spiLen (s.get F.GN_FE_SPI_LEN))
      { t.putB F.GN_FE_SPI_BUSY s.gn.script with gn.spi := false, gn.discard := false })

/-- A write of GN_CFG (R130, R131, R146, R148). -/
def State.writeGnCfg (s : State) (v : Word) : State :=
  let was := s.on F.GN_CFG_EN
  let t := s.putWord (fieldsAt F.GN_CFG_EN.off) v.toNat
  let now := t.on F.GN_CFG_EN
  if now && !was then t.idleSystems.runScript.gnStart
  else (t.when (!now && was && !s.gn.script) (·.gnStop)).idleSystems

/-- GN_CFG_WRITE (R146). -/
def execGnCfgWrite (path : Path) (v : Word) (s : State) : Host.Outcome State Fault Refusal :=
  running s fun s => s.hostWrite path F.GN_CFG_EN.off (·.writeGnCfg v)

/-- GN_FE_SCRIPT_DONE (R130, R148). -/
def execGnFeScriptDone (s : State) : Host.Outcome State Fault Refusal :=
  running s fun s =>
    s.when s.gn.script (fun s =>
      let t := { s.putB F.GN_FE_SPI_BUSY s.gn.spi with gn.script := false }
      t.when (!t.on F.GN_CFG_EN) (·.gnStop))

/-! ## The timing solution (R132 to R136) -/

/-- A satellite is used for its own part (R131, R132), with whether band B meets the C/N0 test. -/
def State.satUsable (s : State) (x : GnSat) : Bool :=
  let min := 100 * s.get F.GN_SOL_CFG_CN0_MIN
  s.get F.GN_CFG_SYS / 2 ^ x.sys % 2 == 1 && decide (min ≤ x.cn0A) && decide (Nat.min 90 (s.get F.GN_SOL_CFG_ELEV_MASK) ≤ x.elev) && x.healthy &&
    (match x.eph with | none => false | some toe => s.fresh4h toe) &&
    (s.on F.GN_CFG_IONO || (x.bandB && decide (min ≤ x.cn0B)))

/-- Exclude satellites with the largest residual above the limit while more than keep remain (R133); the list falls by |residual|. -/
def excludeSats (limit keep : Nat) : List GnSat → List GnSat × List GnSat
  | [] => ([], [])
  | x :: l =>
    if limit < x.resid.natAbs ∧ keep ≤ l.length then
      let r := excludeSats limit keep l
      (x :: r.1, r.2)
    else ([], x :: l)

/-- Insert a satellite into a list that falls by |residual|. -/
def insertSat (x : GnSat) : List GnSat → List GnSat
  | [] => [x]
  | y :: l => if y.resid.natAbs < x.resid.natAbs then x :: y :: l else y :: insertSat x l

/-- Satellites by falling |residual|. -/
def bySize (l : List GnSat) : List GnSat := l.foldl (fun acc x => insertSat x acc) []

/-- GN_CHp_STAT of a satellite's channel pair, which tracks it (R147, R149). -/
def State.showSat (s : State) (x : GnSat) (st : Nat) : State :=
  let p := x.pair % 128
  let t := (((s.put (F.GN_CH_STAT_SYS p) x.sys).put (F.GN_CH_STAT_PRN p) x.prn).put (F.GN_CH_STAT_STATE p) st).putB (F.GN_CH_STAT_B_OK p) x.bandB
  let t := ((t.putSat (F.GN_CH_STAT_CN0_A p) (x.cn0A / 50)).putSat (F.GN_CH_STAT_CN0_B p) (x.cn0B / 50)).putSat (F.GN_CH_STAT_ELEV p) x.elev
  { t.putI (F.GN_CH_STAT_RESID p) (clampI (-8388608) 8388607 (roundDiv x.resid 10)) with gn.search := t.gn.search.filter (· != p) }

/-- The channel pairs after an epoch, with event 0x030E for a satellite newly excluded (R133). -/
def State.showSats (s : State) (all used excluded : List GnSat) : State :=
  let t := s.forAll excluded (fun t x => t.when (s.get (F.GN_CH_STAT_STATE (x.pair % 128)) != 5) (·.event F.GN_EVT_SV_EXCL 0x030E (x.pair % 128) 0))
  let t := t.forAll all (fun t x => t.showSat x (if x.eph.isSome then 3 else 2))
  let t := t.forAll used (fun t x => t.showSat x 4)
  let t := t.forAll excluded (fun t x => t.showSat x 5)
  (t.putSat F.GN_STAT_SV_USED used.length).putSat F.GN_STAT_SV_TRACKED all.length

/-- Epoch of TSYS in TAI seconds, and its GPS week (R31). -/
def gnEpochOf : Nat → Nat × Nat
  | 1 => (935280019, 1024) | 2 => (1136073633, 1356) | _ => (315964819, 0)

/-- The full week of a broadcast week of b bits (R38). -/
def State.fullWeek (s : State) (tsys w b : Nat) : Int :=
  let (ofs, first) := gnEpochOf tsys
  let m : Int := 2 ^ b
  if s.on (F.TK_STAT_TIME_SET s.core) then
    let cur := ((s.sec : Int) - ofs) / 604800
    let d := (cur - w) % m
    if 2 * d < m then cur - d else cur - d + m
  else
    let r : Int := ((s.df.image.map Image.gnssWeek).getD 0 : Nat) - first
    r + (w - r) % m

/-- d_eff in ps (R134). -/
def State.gnDelay (s : State) (single : Bool) : Int :=
  let a : Int := s.get F.GN_CAL_A_DELAY
  let b : Int := s.get F.GN_CAL_B_DELAY
  if single then a else roundDiv (22606043 * a - 12606043 * b) 10000000

/-- Reference uncertainty of R135, ps. -/
def State.gnUnc (s : State) (single : Bool) (used : List GnSat) : Nat :=
  let a := s.get F.GN_CAL_A_UNC
  let b := s.get F.GN_CAL_B_UNC
  if a = 0xFFFFFFFF ∨ (!single ∧ b = 0xFFFFFFFF) then unbounded
  else boundSum [(used.map (fun x => x.resid.natAbs)).foldl max 0, (used.map GnSat.accuracy).foldl max 0,
    if s.on F.GN_CFG_TREF then s.get F.GN_SOL_CFG_UTC_ALLOW * 1000 else 0,
    if single then a else ceilDiv (22606043 * a + 12606043 * b) 10000000]

/-- tai of R134 and R136 for an epoch at a corrected time, State.now units; none where UTC is needed and unknown. -/
def State.gnTai (s : State) (e : GnEpoch) (single : Bool) (corr : Nat) : Option Int :=
  let tsys := s.get F.GN_CFG_TSYS
  let sec : Int := s.fullWeek tsys e.week e.weekBits * 604800 + e.tow + (gnEpochOf tsys).1
  let ps : Int := e.ps + s.gnDelay single
  let base (sec ps : Int) : Int := sec * tuSec + roundDiv (ps * 2 ^ 32) 200
  if s.on F.GN_CFG_TREF then
    (s.delta (secOf corr)).map (fun d => base (sec + d - 19 - e.utcLeap) (ps - e.utcPoly))
  else some (base sec ps)

/-- The solution becomes invalid (R147). -/
def State.gnInvalid (s : State) : State :=
  if !s.on F.GN_STAT_SOL_VALID then s
  else ((s.put F.GN_STAT_SOL_VALID 0).when (s.get F.GN_STAT_STATE == 2) (·.put F.GN_STAT_STATE 3)).event F.GN_EVT_SOL_LOST 0x0304 0 0

/-- A valid solution: event 0x0303 where it is the first of a start, or follows an invalid one (R146). -/
def State.gnValid (s : State) : State :=
  let t := { (s.put F.GN_STAT_SOL_VALID 1).when (!s.gn.flake) (·.put F.GN_STAT_STATE 2) with gn.validAt := some s.now }
  if s.gn.first then
    { (t.put F.GN_STAT_START_KIND s.gn.kind).event F.GN_EVT_SOL 0x0303 0 s.gn.kind with gn.first := false }
  else t.when (!s.on F.GN_STAT_SOL_VALID) (·.event F.GN_EVT_SOL 0x0303 0 (s.gn.kind + 256))

/-! ## Spoof guard (R140) -/

/-- The lowest enabled GNSS slot. -/
def State.gnSlot (s : State) : Option Nat := (List.range 16).find? (fun n => s.slotOn n && s.slotType n == 0)

/-- The window that a solution is compared with: the selector's current one, while rejecting the one frozen (R140). -/
def State.guardWindow (s : State) : Option RsWindow :=
  if s.on F.GN_STAT_SPOOF_REJ then s.gn.guard
  else match s.gnSlot with
    | some n => if 2 ≤ s.get (F.RS_REF_STAT_STATE n) then some (s.slot n).win else none
    | none => none

/-- Mean of band A C/N0 over four or more satellites used, and whether their spread is below CN0_SPREAD (R140): 0.01 dB. -/
def State.cn0Of (s : State) (used : List GnSat) : Option (Nat × Bool) :=
  let n := used.length
  if n < 4 then none
  else
    let sum : Nat := (used.map GnSat.cn0A).sum
    let sq : Nat := (used.map (fun x => x.cn0A ^ 2)).sum
    let lim : Nat := n ^ 2 * (10 * s.get F.GN_SPOOF_CN0_SPREAD) ^ 2
    some (sum / n, decide (n * sq - sum ^ 2 < lim))

/-- The evidence flags follow an epoch (R140). -/
def State.gatherEvidence (s : State) (e : GnEpoch) (used : List GnSat) : State :=
  let d : Int := 50 * s.get F.GN_SPOOF_AGC_DELTA
  let c := s.cn0Of used
  let near := s.gn.recent.filter (fun r => decide (s.now ≤ r.1 + tuSec))
  let agc := near.any (fun r => decide (d < (r.2.1 - e.agcA).natAbs) || decide (d < (r.2.2.1 - e.agcB).natAbs))
  let moved := match c with
    | none => false
    | some (m, _) => near.any (fun r => match r.2.2.2 with | none => false | some k => decide (d < ((k : Int) - m).natAbs))
  let spread := match c with | none => false | some (_, b) => b
  let ea := s.gn.evAgc || agc
  let ec := s.gn.evCn0 || moved || spread
  { s with gn.evAgc := ea, gn.evCn0 := ec,
           gn.bothSince := if ea && ec then some (s.gn.bothSince.getD s.now) else none,
           gn.recent := (s.now, e.agcA, e.agcB, c.map (·.1)) :: near }

/-- GN_SPOOF_GUARD (R140) for a valid solution: its measurement against the prediction at the solution's time. -/
def State.spoofGuard (s : State) (x : Sample) : State :=
  let g := match s.guardWindow with | none => 0 | some w => (w.residual x).natAbs
  let b := s.get F.MB_BOUND_BOUND
  let margin := s.get F.GN_SPOOF_MARGIN * 1000
  let flags := s.gn.evAgc || s.gn.evCn0
  let beyond (m : Nat) : Bool := b != unbounded && decide ((b + m) * 65536 < g)
  if !s.on F.GN_STAT_SPOOF_REJ then
    let time := beyond (if flags then 0 else margin)
    let both := match s.gn.bothSince with
      | none => false
      | some t => decide (t + max 1 (s.get F.GN_SPOOF_EVID_TIME) * tuSec ≤ s.now)
    let arg := time.toNat + s.gn.evAgc.toNat * 2 + s.gn.evCn0.toNat * 4
    s.when (s.on F.GN_SPOOF_EN && (time || both)) (fun s =>
      { (s.put F.GN_STAT_SPOOF_REJ 1).event F.GN_EVT_SPOOF 0x0307 0 arg with gn.guard := s.guardWindow, gn.goodSince := none })
  else
    let good := !beyond margin && !flags
    let since := if good then some (s.gn.goodSince.getD s.now) else none
    let done := match since with
      | none => false
      | some t => decide (t + max 1 (s.get F.GN_SPOOF_CLEAR) * tuSec ≤ s.now)
    if done || !s.on F.GN_SPOOF_EN then
      { (s.put F.GN_STAT_SPOOF_REJ 0).event F.GN_EVT_SPOOF_CLR 0x0308 0 0 with gn.guard := none, gn.goodSince := none }
    else { s with gn.goodSince := since }

/-- GN_EVIDENCE_EXPIRY (R140): a flag, 0 AGC or 1 C/N0, clears 60 s after its last cause. -/
def execGnEvidenceExpiry (which : Fin 2) (s : State) : Host.Outcome State Fault Refusal :=
  running s fun s =>
    if which.val = 0 then { s with gn.evAgc := false, gn.bothSince := none } else { s with gn.evCn0 := false, gn.bothSince := none }

/-! ## Position (R138, R139) -/

/-- A position is held: solutions solve time only. -/
def State.posHeld (s : State) : Bool := s.on F.GN_POS_STAT_VALID && !s.gn.survey && s.get F.GN_POS_CFG_MODE != 2

/-- A compact ephemeris: system, satellite and TAI second, then what the decoder gives (R145). -/
def GnEph.record (e : GnEph) : List Byte := bytesLE 1 e.sys ++ bytesLE 1 e.prn ++ bytesLE 6 e.toe ++ e.bytes.take 136 ++ zeros (136 - e.bytes.length)

/-- The compact ephemerides of the satellites used last, at most 24 (R145). -/
def State.recordEphs (s : State) : List Byte :=
  let l := (s.gn.ephs.filter (fun e => s.gn.used.contains (e.sys, e.prn))).take 24
  l.flatMap GnEph.record ++ zeros (3456 - 144 * l.length)

/-- GN_RECORD_WRITE (R145): the record of the present data, with its write count. -/
def State.writeGnRecord (s : State) : State :=
  let count := match s.gnRecord with | some l => ofBytesLE ((l.drop 8).take 8) | none => 0
  let head := bytesLE 8 1 ++ bytesLE 8 (count + 1) ++ bytesLE 8 s.sec ++ bytesLE 8 (nsfOf s.now) ++ bytesLE 8 (s.get F.GN_POS_X_X) ++
    bytesLE 8 (s.get F.GN_POS_Y_Y) ++ bytesLE 8 (s.get F.GN_POS_Z_Z) ++ bytesLE 8 (s.get F.GN_POS_STAT_VALID + s.get F.GN_POS_STAT_SRC * 2)
  let body := head ++ readBytes s.gn.nav 0x40 0x10C0 ++ s.recordEphs ++ zeros 376
  { s with firn := writeBytes s.firn gnBase (body ++ bytesLE 8 (crc32c body)) }

/-- GN_RECORD_WRITE (R145). -/
def execGnRecordWrite (s : State) : Host.Outcome State Fault Refusal := running s (·.writeGnRecord)

/-- Ephemerides of the record (R145): entries that are not blank. -/
def recordEphsOf : Nat → List Byte → List GnEph
  | 0, _ => []
  | n + 1, l =>
    let e : GnEph := { sys := ofBytesLE (l.take 1), prn := ofBytesLE ((l.drop 1).take 1), toe := ofBytesLE ((l.drop 2).take 6),
                       bytes := (l.drop 8).take 136 }
    (if e.prn = 0 then [] else [e]) ++ recordEphsOf n (l.drop 144)

/-- What a main power-up restores from the record (R145, R149); with no valid record the position is lost. -/
def State.loadGnRecord (s : State) : State :=
  match s.gnRecord with
  | none => ((((s.put F.GN_POS_X_X 0).put F.GN_POS_Y_Y 0).put F.GN_POS_Z_Z 0).put F.GN_POS_STAT_VALID 0).put F.GN_POS_STAT_SRC 0
  | some l =>
    let t := ((s.put F.GN_POS_X_X (at8 l 0x20)).put F.GN_POS_Y_Y (at8 l 0x28)).put F.GN_POS_Z_Z (at8 l 0x30)
    let t := (t.put F.GN_POS_STAT_VALID (at8 l 0x38)).put F.GN_POS_STAT_SRC (at8 l 0x38 / 2)
    { t with gn.nav := writeBytes [] 0x40 ((l.drop 0x40).take 0x10C0), gn.ephs := recordEphsOf 24 (l.drop 0x1100) }

/-- GN_SURVEY_COMPLETE (R138, R145). -/
def State.completeSurvey (s : State) : State :=
  let n := s.gn.surveyN
  let t := ((s.putI F.GN_POS_X_X (roundDiv s.gn.surveyX n)).putI F.GN_POS_Y_Y (roundDiv s.gn.surveyY n)).putI F.GN_POS_Z_Z (roundDiv s.gn.surveyZ n)
  let t := { ((t.put F.GN_POS_STAT_VALID 1).put F.GN_POS_STAT_SRC 1).event F.GN_EVT_SURVEYED 0x0305 0 0 with gn.survey := false }
  t.writeGnRecord

/-- A solution epoch of survey-in (R138): its position is averaged, but not while the guard rejects, when the timer pauses too (R148). -/
def State.surveyEpoch (s : State) (e : GnEpoch) : State :=
  if !s.gn.survey || s.on F.GN_STAT_SPOOF_REJ then s
  else
    let span := match s.gn.lastEpoch with | none => 0 | some a => s.now - a
    let time := s.gn.surveyTime + span
    let t := (s.putSat F.GN_POS_STAT_ELAPSED (time / tuSec)).putSat F.GN_POS_STAT_SURVEY_UNC e.posUnc
    let t := match e.position with
      | none => { t with gn.surveyTime := time }
      | some (x, y, z) => { t with gn.surveyTime := time, gn.surveyN := s.gn.surveyN + 1, gn.surveyX := s.gn.surveyX + x,
                                   gn.surveyY := s.gn.surveyY + y, gn.surveyZ := s.gn.surveyZ + z }
    t.when (decide (max 3600 (s.get F.GN_POS_CFG_SURVEY_TIME) * tuSec ≤ time) && decide (e.posUnc ≤ s.get F.GN_POS_CFG_SURVEY_ACC) &&
      decide (0 < t.gn.surveyN)) (·.completeSurvey)

/-- The data decoded since the last epoch is kept (R145). -/
def State.keepNav (s : State) (e : GnEpoch) : State :=
  let nav := e.nav.foldl (fun m x => if 0x40 ≤ x.1 ∧ x.1 < 0x1100 then writeCell x.1 x.2 0 m else m) s.gn.nav
  let news := e.sats.filterMap (fun x => x.eph.map (fun toe => ({ sys := x.sys, prn := x.prn, toe := toe, bytes := x.compact } : GnEph)))
  let olds := s.gn.ephs.filter (fun o => news.all (fun n => n.sys != o.sys || n.prn != o.prn))
  { s with gn.nav := nav, gn.ephs := news ++ olds }

/-- The satellites of an epoch that the baseband tracks (R129, R131, R337): those of enabled systems on pairs that have not failed, each with band
B only while that band is in use. -/
def State.trackedSats (s : State) (e : GnEpoch) : List GnSat :=
  (e.sats.filter (fun x => s.get F.GN_CFG_SYS / 2 ^ x.sys % 2 == 1 && !s.gn.badPairs.contains (x.pair % 128))).map
    (fun x => { x with bandB := x.bandB && s.bandUsed 1 })

/-- Excluded and used satellites of an epoch (R132, R133). -/
def State.satsSplit (s : State) (e : GnEpoch) : List GnSat × List GnSat :=
  excludeSats (s.get F.GN_SOL_CFG_RESID_LIM * 1000) s.minSv (bySize ((s.trackedSats e).filter s.satUsable))

/-- The satellites that an epoch uses (R132, R133). -/
def State.satsOf (s : State) (e : GnEpoch) : List GnSat := (s.satsSplit e).2

/-- Satellites that a valid solution needs (R133): in survey-in and dynamic mode at least 4. -/
def State.satsNeeded (s : State) : Nat := if s.get F.GN_POS_CFG_MODE = 1 ∧ !s.gn.survey then s.minSv else max 4 s.minSv

/-- What jamming is judged by (R141): the band A gain, whether a satellite meets CN0_MIN, and the gain when one last did. -/
def State.watchJam (s : State) (e : GnEpoch) : State :=
  let met := (s.trackedSats e).any (fun x => decide (100 * s.get F.GN_SOL_CFG_CN0_MIN ≤ x.cn0A))
  { s with gn.agcA := e.agcA, gn.cn0Met := met, gn.agcRef := if met then e.agcA else s.gn.agcRef }

/-- A timing solution of an epoch at a stamp, solved as tai (R134, R135, R138 to R140): reported, guarded and delivered to the selector. -/
def State.takeSolution (s : State) (e : GnEpoch) (used : List GnSat) (single : Bool) (st : Stamp) (tai : Int) : State :=
  let off : Int := st.corr - tai
  let unc := s.gnUnc single used
  let x := s.offsetAt st off unc
  let t := s.putI F.GN_SOL_OFS_E (clampI (-2 ^ 63) (2 ^ 63 - 1) (phaseOfSpan off))
  let t := (t.put F.GN_SOL_UNC_UNC unc).putB F.GN_STAT_SINGLE_FREQ single
  let t := (t.spoofGuard x).gnValid.surveyEpoch e
  { t with gn.used := used.map (fun x : GnSat => (x.sys, x.prn)), gn.lastEpoch := some s.now,
           gn.residN := t.gn.residN + used.length, gn.residSum := t.gn.residSum + (used.map GnSat.resid).sum }.sampleToSlots 0 none x

/-- GN_SOLUTION_EPOCH (R132 to R136, R138, R140, R147) with the stamp of its marked sample. -/
def State.solve (s : State) (e : GnEpoch) (stamp : Option Stamp) : State :=
  let s := s.keepNav e
  let (excluded, used) := s.satsSplit e
  let t := ((s.showSats (s.trackedSats e) used excluded).watchJam e).gatherEvidence e used
  if used.length < s.satsNeeded then t.gnInvalid
  else
    let min := 100 * s.get F.GN_SOL_CFG_CN0_MIN
    let single := used.all (fun x => !(x.bandB && decide (min ≤ x.cn0B)))
    match stamp with
    | none => t
    | some st =>
      if st.gen ≠ s.tb.gen then t
      else match s.gnTai e single st.corr with
        | none => t
        | some tai => t.takeSolution e used single st tai

/-- GN_SOLUTION_EPOCH (R133): an epoch of the continuous channels. -/
def execGnSolutionEpoch (e : GnEpoch) (s : State) : Host.Outcome State Fault Refusal :=
  running s fun s =>
    s.when (s.on F.GN_CFG_EN && s.bandOk 0 && !s.gn.flake) (fun s => ({ s with gn.mark := none, gn.markB := none }).solve e s.gn.mark)

/-- GN_POS_AVERAGE (R139): the 60 s average of the residuals. -/
def execGnPosAverage (s : State) : Host.Outcome State Fault Refusal :=
  running s fun s =>
    let n := s.gn.residN
    let t := { s with gn.residN := 0, gn.residSum := 0 }
    if n = 0 ∨ !s.posHeld then t
    else if s.gn.residSum.natAbs ≤ s.get F.GN_POS_CFG_POS_LIM * 1000 * n then { t with gn.badRun := 0 }
    else if s.gn.badRun < 2 then { t with gn.badRun := s.gn.badRun + 1 }
    else
      let t := { (t.event F.GN_EVT_POS_BAD 0x0306 0 0).put F.GN_POS_STAT_VALID 0 with gn.badRun := 0, gn.posWritten := [false, false, false] }
      t.when (s.on F.GN_POS_CFG_AUTO_RESURVEY) (·.startSurvey)

/-- PERIOD of Flake mode in seconds, 0 acting as 1 (R149). -/
def State.flakePeriod (s : State) : Nat := max 1 (s.get F.GN_FLAKE_PERIOD)

/-- How long a valid solution counts, State.now units: 3 s, in Flake mode 2 PERIOD + 2 s (R143, R147). -/
def State.validSpan (s : State) : Nat := (if s.gn.flake then 2 * s.flakePeriod + 2 else 3) * tuSec

/-- GN_SOLUTION_TIMEOUT (R143, R147): the solution becomes invalid where its time has passed. -/
def execGnSolutionTimeout (s : State) : Host.Outcome State Fault Refusal :=
  running s fun s => s.when (match s.gn.validAt with | some v => decide (v + s.validSpan ≤ s.now) | none => true) (·.gnInvalid)

/-- The effective mode: 0b11 acts as 0b00 (R149). -/
def posMode (v : Nat) : Nat := if v = 3 then 0 else v

/-- A write of GN_POS_CFG (R138): each write of MODE enters the mode that it names. -/
def State.writePosCfg (s : State) (v : Word) : State :=
  let t := s.putWord (fieldsAt F.GN_POS_CFG_MODE.off) v.toNat
  if posMode (t.get F.GN_POS_CFG_MODE) = 0 then t.startSurvey
  else { t with gn.survey := false, gn.posWritten := [false, false, false] }

/-- GN_POS_MODE_WRITE (R138). -/
def execGnPosModeWrite (path : Path) (v : Word) (s : State) : Host.Outcome State Fault Refusal :=
  running s fun s => s.hostWrite path F.GN_POS_CFG_MODE.off (·.writePosCfg v)

/-- The register of an axis: 0 X, 1 Y, 2 Z. -/
def posAxis : Fin 3 → Fld
  | 0 => F.GN_POS_X_X | 1 => F.GN_POS_Y_Y | 2 => F.GN_POS_Z_Z

/-- A write of GN_POS_X, Y or Z (R138): the three together enter a position. -/
def State.writePos (s : State) (axis : Fin 3) (v : Word) : State :=
  if s.get F.GN_POS_CFG_MODE ≠ 1 then s
  else
    let w := assign false axis true s.gn.posWritten
    let t := { s.put (posAxis axis) v.toNat with gn.posWritten := w }
    t.when (w.all id) (fun t =>
      { (t.put F.GN_POS_STAT_VALID 1).put F.GN_POS_STAT_SRC 2 with gn.posWritten := [false, false, false], gn.badRun := 0 })

/-- GN_POS_WRITE (R138). -/
def execGnPosWrite (path : Path) (axis : Fin 3) (v : Word) (s : State) : Host.Outcome State Fault Refusal :=
  running s fun s => s.hostWrite path (posAxis axis).off (·.writePos axis v)

/-! ## Channel pairs (R131, R147) -/

/-- CHANNEL_PAIR_LOSES_LOCK (R147): a tracking pair searches around its prediction; it is not used until it tracks again. -/
def execChannelPairLosesLock (p : Fin 128) (s : State) : Host.Outcome State Fault Refusal :=
  running s fun s =>
    s.when (decide (2 ≤ s.get (F.GN_CH_STAT_STATE p))) (fun s =>
      { (s.put (F.GN_CH_STAT_STATE p) 2).put (F.GN_CH_STAT_B_OK p) 0 with gn.search := p.val :: s.gn.search.filter (· != p.val) })

/-- GN_CHANNEL_SEARCH_TIMEOUT (R147): a pair that has searched for 30 s returns to acquisition. -/
def execGnChannelSearchTimeout (p : Fin 128) (s : State) : Host.Outcome State Fault Refusal :=
  running s fun s => s.when (s.gn.search.contains p.val) (fun s =>
    { s.put (F.GN_CH_STAT_STATE p) 1 with gn.search := s.gn.search.filter (· != p.val) })

/-- ACQUISITION_SEARCH_COMPLETE (R131): a satellite found; the pair moves from ACQ to tracking. -/
def execAcquisitionSearchComplete (p : Fin 128) (sys : BitVec 2) (prn : BitVec 8) (s : State) : Host.Outcome State Fault Refusal :=
  running s fun s =>
    s.when (s.on F.GN_CFG_EN && !s.gn.flake && decide (s.get (F.GN_CH_STAT_STATE p) ≤ 1) && !s.gn.badPairs.contains p.val && s.get F.GN_CFG_SYS / 2 ^ sys.toNat % 2 == 1) (fun s =>
      ((s.put (F.GN_CH_STAT_SYS p) sys.toNat).put (F.GN_CH_STAT_PRN p) prn.toNat).put (F.GN_CH_STAT_STATE p) 2)

/-! ## Flake mode (R141 to R144) -/

/-- Flake mode is entered (R142): the continuous channels stop. -/
def State.enterFlake (s : State) (auto : Bool) : State :=
  if s.gn.flake then { s with gn.autoFlake := s.gn.autoFlake && auto }
  else
    let t := { s.idleChannels.event F.GN_EVT_FLAKE 0x030A 0 0 with gn.flake := true, gn.autoFlake := auto, gn.leaving := false }
    t.when (s.on F.GN_CFG_EN) (·.put F.GN_STAT_STATE 4)

/-- The channels restart after Flake mode (R144, R146). -/
def State.restartChannels (s : State) (hot : Bool) : State :=
  { s with gn.leaving := false, gn.hot := hot }.when (s.on F.GN_CFG_EN) (·.gnStart)

/-- Flake mode is left (R142); a capture in progress and its solution complete first (R144). -/
def State.leaveFlake (s : State) : State :=
  if !s.gn.flake then s
  else
    let t := { s.event F.GN_EVT_FLAKE 0x030A 0 1 with gn.flake := false, gn.autoFlake := false }
    if s.gn.capture || s.gn.solving then { t with gn.leaving := true } else t.restartChannels false

/-- The restart that waited for a capture and its solution (R144). -/
def State.finishLeaving (s : State) : State := s.when (s.gn.leaving && !s.gn.capture && !s.gn.solving) (·.restartChannels true)

/-- A write of GN_FLAKE (R142). -/
def State.writeFlake (s : State) (v : Word) : State :=
  let was := s.on F.GN_FLAKE_EN
  let t := s.putWord (fieldsAt F.GN_FLAKE_EN.off) v.toNat
  if t.on F.GN_FLAKE_EN && !was then t.enterFlake false
  else t.when (was && !t.on F.GN_FLAKE_EN) (·.leaveFlake)

/-- GN_FLAKE_WRITE (R142). -/
def execGnFlakeWrite (path : Path) (v : Word) (s : State) : Host.Outcome State Fault Refusal :=
  running s fun s => s.hostWrite path F.GN_FLAKE_EN.off (·.writeFlake v)

/-- The jamming condition (R141): no satellite meets CN0_MIN, and the band A gain has fallen by more than AGC_DELTA since one last did. The rule
does not say from what gain it falls (DESIGN CHOICE, log entry 38). -/
def State.jamming (s : State) : Bool := !s.gn.cn0Met && decide ((50 * s.get F.GN_SPOOF_AGC_DELTA : Nat) < s.gn.agcRef - s.gn.agcA)

/-- GN_JAM_DETECT (R141): the jamming condition has held for 5 s. -/
def execGnJamDetect (s : State) : Host.Outcome State Fault Refusal :=
  running s fun s =>
    s.when (s.on F.GN_CFG_EN && !s.on F.GN_STAT_JAM && s.jamming) (fun s =>
      let t := (s.put F.GN_STAT_JAM 1).event F.GN_EVT_JAM 0x0309 0 0
      t.when (t.on F.GN_FLAKE_AUTO_JAM && !t.gn.flake) (·.enterFlake true))

/-- GN_JAM_CLEAR (R141): 60 s have passed without the jamming condition; Flake mode that jamming entered is left. -/
def execGnJamClear (s : State) : Host.Outcome State Fault Refusal :=
  running s fun s =>
    s.when (s.on F.GN_STAT_JAM && !s.jamming) (fun s =>
      (s.put F.GN_STAT_JAM 0).when (s.gn.autoFlake && !s.on F.GN_FLAKE_EN) (·.leaveFlake))

/-- A snapshot is discarded with a reason (R143). -/
def State.dropSnap (s : State) (reason : Nat) : State := s.event F.GN_EVT_SNAP_DROP 0x030B 0 reason

/-- The second nearest the present time is a multiple of PERIOD (R142). -/
def State.captureDue (s : State) : Bool := (s.now + tuSec / 2) / tuSec % s.flakePeriod == 0

/-- GN_FLAKE_CAPTURE_START (R142, R143): a capture begins at a second that is a multiple of PERIOD, unless the last snapshot is still in work; an export that still waits for ARM
is given up and counted as reason 4 (R144). -/
def execGnFlakeCaptureStart (s : State) : Host.Outcome State Fault Refusal :=
  running s fun s =>
    if !(s.gn.flake && s.on F.GN_CFG_EN && s.bandOk 0 && s.captureDue) then s
    else if s.gn.solving || s.gn.export_ == 2 || s.gn.capture then s.dropSnap 4
    else
      let t := s.when (s.gn.export_ == 1) (·.dropSnap 4)
      { t with gn.export_ := 0, gn.capture := true }

/-- Why a snapshot is discarded at the end of its capture, 0 for none (R143). -/
def State.snapReason (s : State) (stamp : Option Stamp) : Nat :=
  let ephs := (s.gn.ephs.filter (fun e => s.fresh4h e.toe)).length
  if s.on F.GN_FLAKE_SOLVE && decide (ephs < s.minSv) then 1
  else if s.on F.GN_FLAKE_SOLVE && !s.posHeld then 2
  else if s.on F.GN_FLAKE_SOLVE && decide (tenMs < s.get F.MB_BOUND_BOUND) then 3
  else match stamp with
    | none => 5
    | some st => if st.gen ≠ s.tb.gen then 5 else 0

/-- An export begins where the host buffer is ready (R144). -/
def State.beginExport (s : State) : State := { s with gn.export_ := if s.on F.GN_SNAP_HADDR_ARM then 2 else 1 }

/-- Four bits of a captured sample in two's complement (R128): FMT = 1 says that the bus carries offset binary. -/
def fromBus (offsetBinary : Bool) (x : Nat) : Nat := if offsetBinary then (x + 8) % 16 else x

/-- Q inverted (R128); four bits hold no inverse of -8. -/
def invertQ (x : Nat) : Nat := if x = 8 then Config.invertedMinusEight % 16 else (16 - x) % 16

/-- A sample of band b as captured from its bus, I in [3:0] and Q in [7:4] (R128, R144): FMT, then SWAP_IQ, then INV_Q (DESIGN CHOICE for the
order, log entry 38). -/
def State.busSample (s : State) (b : Nat) (x : Byte) : Byte :=
  let on (fa fb : Fld) : Bool := s.on (if b = 0 then fa else fb)
  let i := fromBus (on F.GN_FE_A_CFG_FMT F.GN_FE_B_CFG_FMT) (x.toNat % 16)
  let q := fromBus (on F.GN_FE_A_CFG_FMT F.GN_FE_B_CFG_FMT) (x.toNat / 16)
  let (i, q) := if on F.GN_FE_A_CFG_SWAP_IQ F.GN_FE_B_CFG_SWAP_IQ then (q, i) else (i, q)
  BitVec.ofNat 8 (i + 16 * (if on F.GN_FE_A_CFG_INV_Q F.GN_FE_B_CFG_INV_Q then invertQ q else q))

/-- Samples per band of LEN ms, from 2 to 100, at the measured rate of band A (R129, R142, R149). -/
def State.captureLen (s : State) : Nat := s.gn.rates.getD 0 0 * max 2 (min 100 (s.get F.GN_FLAKE_LEN)) / 1000

/-- GN_CAPTURE_END (R142 to R144): the bytes of both buses over the capture, and the AGC gains. -/
def execGnCaptureEnd (a b : List Byte) (agcA agcB : Int) (s : State) : Host.Outcome State Fault Refusal :=
  running s fun s =>
    s.when s.gn.capture (fun s =>
      let stamp := s.gn.mark
      let s := { s with gn.capture := false, gn.mark := none, gn.markB := none, gn.agcA := agcA }
      let r := s.snapReason stamp
      if r ≠ 0 then (s.dropSnap r).finishLeaving
      else
        let a := (a.take s.captureLen).map (s.busSample 0)
        let b := if s.bandUsed 1 then (b.take a.length).map (s.busSample 1) else []
        let bands := 1 + (if s.bandUsed 1 then 2 else 0)
        let part := (s.df.image.map Image.snapshot).getD 0
        let t := s.writePart part 0 (a ++ b)
        let t := { t with gn.snap := { stamp := stamp, samples := a.length, bands := bands, agcA := agcA, agcB := agcB },
                          gn.solving := s.on F.GN_FLAKE_SOLVE }
        (t.when (s.on F.GN_FLAKE_EXPORT) (·.beginExport)).finishLeaving)

/-- GN_SNAPSHOT_SOLVED (R143): the batch correlator delivers one solution. -/
def execGnSnapshotSolved (e : GnEpoch) (s : State) : Host.Outcome State Fault Refusal :=
  running s fun s =>
    s.when s.gn.solving (fun s => (({ s with gn.solving := false }).solve e s.gn.snap.stamp).finishLeaving)

/-- The exported snapshot (R144). -/
def State.snapBytes (s : State) : State × List Byte :=
  let n := s.gn.snap
  let part := (s.df.image.map Image.snapshot).getD 0
  let q := s.readPart part 0 (n.samples * (if n.bands = 3 then 2 else 1))
  let corr := match n.stamp with | none => 0 | some st => st.corr
  let khz (b : Nat) : Nat := ((s.gn.rates.getD b 0) + 500) / 1000
  (q.1, bytesLE 8 (secOf corr) ++ bytesLE 8 (nsfOf corr) ++ bytesLE 4 (khz 0) ++ bytesLE 4 (khz 1) ++ bytesLE 4 n.samples ++ bytesLE 1 n.bands ++
    zeros 3 ++ bytesLE 4 (n.agcA % 2 ^ 32).toNat ++ bytesLE 4 (n.agcB % 2 ^ 32).toNat ++ zeros 24 ++ q.2 ++
    (if n.bands = 3 then [] else zeros n.samples))

/-- GN_SNAPSHOT_EXPORTED (R144). -/
def execGnSnapshotExported (s : State) : Host.Outcome State Fault Refusal :=
  running s fun s =>
    s.when (s.gn.export_ == 2) (fun s =>
      let q := s.snapBytes
      let t := q.1.emit (.hostMem (s.get F.GN_SNAP_HADDR_ADDR * 4096) q.2)
      { (t.put F.GN_SNAP_HADDR_ARM 0).signalLimited 2 1 with gn.export_ := 0 })

/-- A write of GN_SNAP_HADDR (R144): ARM starts an export that waits. -/
def State.writeSnapAddr (s : State) (v : Word) : State :=
  let t := s.putWord (fieldsAt F.GN_SNAP_HADDR_ARM.off) v.toNat
  t.when (t.on F.GN_SNAP_HADDR_ARM && t.gn.export_ == 1) (·.beginExport)

/-! ## Leap-second data (R137) -/

/-- GN_LEAP_DATA_DECODED (R137, R274): current and future offsets as of GPS, and the week of 8 bits and the day, 1 to 7, at whose end the
future offset takes effect. The week is completed on the count of GPS weeks, whichever system sent it (DESIGN CHOICE, log entry 38). -/
def execGnLeapDataDecoded (sys : BitVec 2) (current future : Int) (week day : Nat) (s : State) : Host.Outcome State Fault Refusal :=
  running s fun s =>
    s.when (s.on F.GN_CFG_EN && sys.toNat == s.get F.GN_CFG_LEAP_SRC) (fun s =>
      let old := current + 19
      let t := s.checkOffset 0 old
      let t :=
        if s.delta s.sec = some old then { t with gn.misOffset := none }
        else if s.gn.misOffset = some old then t
        else { t.event F.GN_EVT_LEAP_MIS 0x030C 0 0 with gn.misOffset := some old }
      if future = current then t
      else
        let w := s.fullWeek 0 week 8
        let midnight : Int := 315964800 + w * 604800 + day * 86400
        let te := midnight + old + min 0 (future - current)
        t.when (s.on F.PT_LEAP_CFG_AUTO_GNSS) (·.offerLeap ⟨te.toNat, future + 19, 2⟩))

end Sys2Proof.Machine
end

