-- ==== Sys2Proof/Machine/Outputs.lean ====
section
/-! DEFINITION. Clock, pulse and time-of-day outputs (chapter 09): output MDLLs, clock outputs, phase-good, pulses, TOD_OUT and TOD_IN. -/
namespace Sys2Proof.Machine

/-! ## Output MDLLs (R174 to R177) -/

/-- What is remembered of CLK_OUTk and PPS_OUTk. -/
def State.clk (s : State) (k : Nat) : OsClk := s.os.clks.getD k {}
def State.setClk (s : State) (k : Nat) (f : OsClk → OsClk) : State := { s with os.clks := alter {} k f s.os.clks }
def State.pps (s : State) (k : Nat) : OsPps := s.os.pps.getD k {}
def State.setPps (s : State) (k : Nat) (f : OsPps → OsPps) : State := { s with os.pps := alter {} k f s.os.pps }

/-- f_OM of OMn is 156.25 MHz * omNum / omDen (R174). -/
def State.omDen (s : State) (n : Nat) : Nat := s.get (F.OS_OM_CFG_DEN n)
def State.omNum (s : State) (n : Nat) : Nat := s.get (F.OS_OM_CFG_INT n) * s.omDen n + s.get (F.OS_OM_CFG_NUM n)

/-- The configuration of OMn is invalid (R175). -/
def State.omBad (s : State) (n : Nat) : Bool :=
  s.omDen n == 0 || decide (s.omDen n ≤ s.get (F.OS_OM_CFG_NUM n)) || decide (s.get (F.OS_OM_CFG_INT n) < 8) ||
    decide (24 < s.get (F.OS_OM_CFG_INT n))

/-- The band entry that covers f_OM: the valid one with the lowest number (R176). -/
def State.omBand (s : State) (n : Nat) : Option Nat :=
  (List.range 64).find? (fun j => s.on (F.OS_OM_BAND_VALID n j) &&
    decide (s.get (F.OS_OM_BAND_MIN n j) * s.omDen n ≤ 156250 * s.omNum n) && decide (156250 * s.omNum n ≤ s.get (F.OS_OM_BAND_MAX n j) * s.omDen n))

/-- OMn is off or begins anew: no lock, nothing wrong with it yet. -/
def State.omClear (s : State) (n : Nat) : State :=
  let t := ((s.put (F.OS_OM_STAT_LOCK n) 0).put (F.OS_OM_STAT_NOBAND n) 0).put (F.OS_OM_STAT_BADCFG n) 0
  { t with os.settling := assign false n false s.os.settling }

/-- Step 1 of R177: OMn checks its configuration and looks up its band. -/
def State.omStart (s : State) (n : Nat) : State :=
  let t := s.omClear n
  if !t.on (F.OS_OM_CFG_EN n) then t
  else if t.omBad n then (t.put (F.OS_OM_STAT_BADCFG n) 1).event F.OS_EVT_BADCFG 0x0503 0 n
  else match t.omBand n with
    | none => (t.put (F.OS_OM_STAT_NOBAND n) 1).event F.OS_EVT_NOBAND 0x0502 0 n
    | some j =>
      let t := (t.put (F.OS_OM_STAT_BAND n) j).put (F.OS_OM_STAT_CODE n) (t.get (F.OS_OM_BAND_CODE n j))
      { t with os.settling := assign false n true t.os.settling }

/-! ## Clock outputs (R179 to R182) -/

/-- The OM of CLK_OUTk and its divider (R189). -/
def State.clkSrc (s : State) (k : Nat) : Nat := s.get (F.OS_CLK_CFG_SRC k)
def State.clkDiv (s : State) (k : Nat) : Nat := let d := s.get (F.OS_CLK_CFG_DIV k); if d = 0 then 2 ^ 24 else d

/-- CLK_OUTk waits for its start point once its OM has locked; a frequency above 800 MHz does not start (R179, R180). -/
def State.armClk (s : State) (k : Nat) : State :=
  let n := s.clkSrc k
  if !(s.on (F.OS_CLK_CFG_EN k) && s.on (F.OS_OM_STAT_LOCK n)) || (s.clk k).active then s
  else if 800000 * s.omDen n * s.clkDiv k < 156250 * s.omNum n then s.event F.OS_EVT_BADCFG 0x0503 0 (0x10 + k)
  else s.setClk k (fun c => { c with armed := true, armAt := s.now })

/-- CLK_OUTk is to stop at its next divider boundary; one that has not started no longer waits (R182). -/
def State.stopClk (s : State) (k : Nat) : State := s.setClk k (fun c => { c with armed := false, stopping := c.active })

/-- CLK_OUTk is to stop at its next divider boundary for a new DIV, SRC or OM configuration, whatever becomes of EN before it (R177, R182). -/
def State.restartClk (s : State) (k : Nat) : State := (s.stopClk k).setClk k (fun c => { c with restart := c.active })

/-- Outputs sourced from OMn. -/
def State.clksOf (s : State) (n : Nat) : List Nat := (List.range 8).filter (fun k => s.clkSrc k == n)

/-- The pin follows the muting of R178: a running output with PG_MUTE = 1 is off while PG = 0. -/
def State.muteClk (s : State) (k : Nat) : State :=
  s.when (s.on (F.OS_CLK_CFG_PG_MUTE k) && !s.on (F.OS_CLK_STAT_PG k)) (·.put (F.OS_CLK_STAT_RUN k) 0)

/-- A write of OS_OMn_CFG (R177). -/
def State.writeOmCfg (s : State) (n : Nat) (v : Word) : State :=
  let t := s.forAll (s.clksOf n) State.restartClk
  (t.putWord (fieldsAt (F.OS_OM_CFG_EN n).off) v.toNat).omStart n

/-- OM_CFG_WRITE (R177). -/
def execOmCfgWrite (path : Path) (n : Fin 4) (v : Word) (s : State) : Host.Outcome State Fault Refusal :=
  running s fun s => s.hostWrite path (F.OS_OM_CFG_EN n).off (·.writeOmCfg n v)

/-- OM_LOCK_DECLARED (R177): LOCKTIME has passed; the enabled outputs wait for their start points. -/
def execOmLockDeclared (n : Fin 4) (s : State) : Host.Outcome State Fault Refusal :=
  running s fun s =>
    s.when (s.os.settling.getD n false) (fun s =>
      let t := { s with os.settling := assign false n false s.os.settling, os.lockAt := assign 0 n s.now s.os.lockAt }
      let t := (t.put (F.OS_OM_STAT_LOCK n) 1).event F.OS_EVT_LOCK 0x0501 0 0
      t.forAll (t.clksOf n) State.armClk)

/-- SM_LOCK_DECLARED (R174): the lane transmitters leave reset. -/
def execSmLockDeclared (s : State) : Host.Outcome State Fault Refusal := 
  running s fun s => (s.put F.OS_SM_STAT_LOCK 1).forAll (List.range 6) (fun t n => (t.put (F.LN_LANE_STAT_TXRST n) 0).leaveDown n)

/-- Oscillator half-period of OMn in ps, rounded down. -/
def State.halfPeriod (s : State) (n : Nat) : Nat := if s.omNum n = 0 then 0 else 3200 * s.omDen n / s.omNum n

/-- FINE as it acts (R189). -/
def fineOf (v : Nat) : Nat := min 1999 v

/-- Period of CLK_OUTk is clkPer / clkFreq units of State.now. -/
def State.clkPer (s : State) (k : Nat) : Nat := 32 * s.clkDiv k * s.omDen (s.clkSrc k) * 2 ^ 32
def State.clkFreq (s : State) (k : Nat) : Nat := max 1 (s.omNum (s.clkSrc k))

/-- FINE as it stands on its ramp of at most 1 ps per output period (R181). -/
def State.fineNow (s : State) (k : Nat) : Nat :=
  let c := s.clk k
  let n := (s.now - c.rampAt) * s.clkFreq k / max 1 (s.clkPer k)
  if c.fineFrom ≤ c.fineTo then min c.fineTo (c.fineFrom + n) else max c.fineTo (c.fineFrom - n)

/-- The delay of CLK_OUTk as half-periods and ps on the fine line (R181): where FINE and the trim exceed the line, one half-period is carried. -/
def State.clkDelay (s : State) (k : Nat) : Nat × Nat :=
  let line := s.fineNow k + s.get (F.OS_CLK_STAT_TRIM k)
  if 1999 < line then ((s.clk k).coarse + 1, line - s.halfPeriod (s.clkSrc k)) else ((s.clk k).coarse, line)

/-- The start point of CLK_OUTk with ALIGN = 1 (R180), units of State.now: the first second boundary at least 1 ms after lock and after EN, and not
before the output began to wait, plus COARSE half-periods and FINE. -/
def State.startPoint (s : State) (k : Nat) : Nat :=
  let n := s.clkSrc k
  let c := s.clk k
  let from_ := max (max (s.os.lockAt.getD n 0) c.enAt + tuMs) c.armAt
  let delay : Int := roundDiv ((16 * s.get (F.OS_CLK_DLY_COARSE k) * s.omDen n * 2 ^ 32 : Nat) : Int) (max 1 (s.omNum n)) +
    roundDiv ((fineOf (s.get (F.OS_CLK_DLY_FINE k)) * 2 ^ 32 : Nat) : Int) 200
  ceilDiv from_ tuSec * tuSec + delay.toNat

/-- CLK_OUTk may start now: with ALIGN = 0 at any divider boundary, with ALIGN = 1 from its start point on (R180). -/
def State.startDue (s : State) (k : Nat) : Bool := !s.on (F.OS_CLK_CFG_ALIGN k) || decide (s.startPoint k ≤ s.now)

/-- CLK_OUT_START (R180, R181): the output starts at its start point. The internal trim of an aligned start is a free value from 0 to one
half-period, because the spec does not give the oscillator's phase (log entry 1). A muted output whose PG returned drives its pin again. -/
def execClkOutStart (k : Fin 8) (s : State) : Host.Outcome State Fault Refusal :=
  running s fun s =>
    s.when ((s.clk k).armed && s.on (F.OS_CLK_CFG_EN k) && s.on (F.OS_OM_STAT_LOCK (s.clkSrc k)) && s.startDue k) (fun s =>
      if (s.clk k).active then (s.setClk k (fun c => { c with armed := false })).put (F.OS_CLK_STAT_RUN k) 1
      else
        let aligned := s.on (F.OS_CLK_CFG_ALIGN k)
        let at_ := s.startPoint k
        s.takeFree fun s v =>
          let trim := if aligned then v.toNat % (s.halfPeriod (s.clkSrc k) + 1) else 0
          let fine := fineOf (s.get (F.OS_CLK_DLY_FINE k))
          let t := s.setClk k (fun c => { active := true, enAt := c.enAt, armAt := c.armAt, edge := if aligned then some at_ else none,
                                          coarse := s.get (F.OS_CLK_DLY_COARSE k), fineFrom := fine, fineTo := fine, rampAt := s.now,
                                          lastMs := s.now / tuMs })
          let t := ((t.put (F.OS_CLK_STAT_TRIM k) trim).put (F.OS_CLK_STAT_RUN k) 1).put (F.OS_CLK_STAT_PG k) 0
          t.muteClk k)

/-- CLK_OUT_STOP (R182): the output stops at its divider boundary, and waits for a new start where it is still enabled. -/
def execClkOutStop (k : Fin 8) (s : State) : Host.Outcome State Fault Refusal :=
  running s fun s =>
    s.when (s.clk k).stopping (fun s =>
      let t := ((s.put (F.OS_CLK_STAT_RUN k) 0).put (F.OS_CLK_STAT_PG k) 0).put (F.OS_CLK_STAT_TRIM k) 0
      (t.setClk k (fun c => { enAt := c.enAt })).armClk k)

/-- What the pin of a clock output does (R179). -/
inductive ClkPin where
  /-- it toggles under an output standard: 0 LVDS, 1 HCSL, 2 LVPECL-compatible -/
  | clock (std : Nat)
  | low
  | highZ
  deriving DecidableEq, Repr

/-- The pin of CLK_OUTk: toggling while RUN = 1, else in the off state that OFF_STATE selects; STD 0b11 acts as 0b00 (R179, R189). -/
def State.clkPin (s : State) (k : Nat) : ClkPin :=
  let std := s.get (F.OS_CLK_CFG_STD k)
  if s.on (F.OS_CLK_STAT_RUN k) then .clock (if std = 3 then 0 else std) else if s.on (F.OS_CLK_CFG_OFF_STATE k) then .highZ else .low

/-- A write of OS_CLKk_CFG (R179, R182): within one output period the value of EN that stands at the divider boundary decides, but a stop owed to
DIV, SRC or the OM stands. -/
def State.writeClkCfg (s : State) (k : Nat) (v : Word) : State :=
  let was := s.on (F.OS_CLK_CFG_EN k)
  let old := (s.clkSrc k, s.clkDiv k)
  let t := s.putWord (fieldsAt (F.OS_CLK_CFG_EN k).off) v.toNat
  let now := t.on (F.OS_CLK_CFG_EN k)
  let t := t.when (now && !was) (·.setClk k (fun c => { c with enAt := s.now }))
  let t := t.when ((t.clkSrc k, t.clkDiv k) != old) (·.restartClk k)
  let t :=
    if !now then t.stopClk k
    else if (t.clkSrc k, t.clkDiv k) ≠ old then t.armClk k
    else if was then t
    else (t.setClk k (fun c => { c with stopping := c.restart })).armClk k
  t.muteClk k

/-- CLK_CFG_WRITE (R182). -/
def execClkCfgWrite (path : Path) (k : Fin 8) (v : Word) (s : State) : Host.Outcome State Fault Refusal :=
  running s fun s => s.hostWrite path (F.OS_CLK_CFG_EN k).off (·.writeClkCfg k v)

/-- A write of OS_CLKk_DLY (R181): while the output is enabled a changed COARSE is rejected, and FINE ramps. -/
def State.writeClkDly (s : State) (k : Nat) (v : Word) : State :=
  let fine := (F.OS_CLK_DLY_FINE k).ofWord v
  let coarse := (F.OS_CLK_DLY_COARSE k).ofWord v
  if !s.on (F.OS_CLK_CFG_EN k) then (s.put (F.OS_CLK_DLY_FINE k) fine).put (F.OS_CLK_DLY_COARSE k) coarse
  else
    let now := s.fineNow k
    let t := (s.put (F.OS_CLK_DLY_FINE k) fine).setClk k (fun c => { c with fineFrom := now, fineTo := fineOf fine, rampAt := s.now })
    t.when (coarse != s.get (F.OS_CLK_DLY_COARSE k)) (·.event F.OS_EVT_DLY_REJ 0x0506 0 0)

/-- CLK_DLY_WRITE (R181). -/
def execClkDlyWrite (path : Path) (k : Fin 8) (v : Word) (s : State) : Host.Outcome State Fault Refusal :=
  running s fun s => s.hostWrite path (F.OS_CLK_DLY_FINE k).off (·.writeClkDly k v)

/-! ## Phase-good (R178) -/

/-- Residual of a measurement against an anchor, in ps, for a period of per / freq units of State.now. -/
def residualPs (d : Int) (per freq : Nat) : Int :=
  let n := roundDiv (d * freq) (max 1 per)
  roundDiv ((d * freq - n * per) * 200) (freq * 2 ^ 32)

/-- PG_ERR saturates at its 32 bits (R189). -/
def State.putErr (s : State) (f : Fld) (e : Int) : State := s.putI f (clampI (-2147483648) 2147483647 e)

/-- A phase-good verdict on output o, 0 to 7 a clock and 8 to 11 a pulse output: the number of in-limit measurements in a row, whether PG was
lost, and the registers (R178). -/
def State.judgePg (s : State) (o : Nat) (pg err : Fld) (good : Nat) (lost : Bool) (e : Int) : State × Nat × Bool :=
  let t := s.putErr err e
  if e.natAbs ≤ s.get F.OS_CFG_PG_LIM then
    let n := good + 1
    if s.on pg || n < max 1 (s.get F.OS_CFG_PG_CNT) then (t, n, lost)
    else ((t.put pg 1).when lost (·.event F.OS_EVT_PG_OK 0x0505 0 o), n, false)
  else if s.on pg then ((t.put pg 0).event F.OS_EVT_PG_LOST 0x0504 0 o, 0, true)
  else (t, 0, lost)

/-- PG_MEASUREMENT of CLK_OUTk (R178): the stamp st of CH22 + k, at its corrected time. -/
def State.measureClk (s : State) (k : Nat) (st : Stamp) : State :=
  let c := s.clk k
  let ms := st.corr / tuMs
  let slow := decide (tuMs * s.clkFreq k < s.clkPer k)
  if !c.active || (!slow && ms ≤ c.lastMs) then s
  else
    let s := s.setClk k (fun c => { c with lastMs := ms })
    match c.anchor with
    | none => s.setClk k (fun c => { c with anchor := some st.corr })
    | some a =>
      let e := residualPs ((st.corr : Int) - a) (s.clkPer k) (s.clkFreq k)
      let (t, good, lost) := s.judgePg k (F.OS_CLK_STAT_PG k) (F.OS_CLK_STAT_PG_ERR k) c.good c.lost e
      let back := t.on (F.OS_CLK_STAT_PG k) && !t.on (F.OS_CLK_STAT_RUN k)
      (t.setClk k (fun c => { c with good := good, lost := lost, armed := back, armAt := if back && !c.armed then s.now else c.armAt })).muteClk k

/-- The PPS output that CH30 measures in a second: the enabled ones take turns (R61, R178). -/
def State.ppsTurn (s : State) (sec : Nat) : Option Nat :=
  let l := (List.range 4).filter (fun k => s.on (F.OS_PPS_CFG_EN k))
  l[sec % max 1 l.length]?

/-- Pulses per second of PPS_OUTk (R189). -/
def State.ppsRate (s : State) (k : Nat) : Nat := max 1 (min 8000 (s.get (F.OS_PPS_CFG_RATE k)))

/-- PG_MEASUREMENT of the PPS outputs (R178): the first stamp of CH30 in a second. -/
def State.measurePps (s : State) (st : Stamp) : State :=
  let sec := secOf st.corr
  match s.ppsTurn sec with
  | none => s
  | some k =>
    if sec = s.os.ppsSec ∨ (s.pps k).last = none then s
    else
      let s := { s with os.ppsSec := sec }
      let c := s.pps k
      match c.anchor with
      | none => s.setPps k (fun c => { c with anchor := some st.corr })
      | some a =>
        let e := residualPs ((st.corr : Int) - a) tuSec (s.ppsRate k)
        let (t, good, lost) := s.judgePg (8 + k) (F.OS_PPS_STAT_PG k) (F.OS_PPS_STAT_PG_ERR k) c.good c.lost e
        t.setPps k (fun c => { c with good := good, lost := lost })

/-! ## Pulse outputs (R183 to R185) -/

/-- Picoseconds in a second. -/
def psSec : Nat := 10 ^ 12

/-- Corrected time in ps, to the nearest. -/
def psOf (t : Nat) : Int := roundDiv (t * 200) (2 ^ 32)

/-- OFFSET times RATE; an offset that reaches the period acts modulo it (R183). -/
def State.ppsOffset (s : State) (k : Nat) : Int :=
  let o := s.getI (F.OS_PPS_OFS_OFFSET k) * s.ppsRate k
  if (psSec : Int) ≤ o.natAbs then o % psSec else o

/-- Leading edge of the grid point N of PPS_OUTk, counted from the epoch, in ps (R183, R184). -/
def State.gridEdge (s : State) (k : Nat) (n : Int) : Int :=
  let ofs := match (s.pps k).phase with | none => s.ppsOffset k | some p => p * s.ppsRate k
  roundDiv (n * psSec + ofs) (s.ppsRate k)

/-- The grid point nearest to the present. -/
def State.nearGrid (s : State) (k : Nat) : Int :=
  let ofs := match (s.pps k).phase with | none => s.ppsOffset k | some p => p * s.ppsRate k
  roundDiv (psOf s.now * s.ppsRate k - ofs) psSec

/-- Length of a pulse in ps (R183, R189). -/
def State.pulseWidth (s : State) (k : Nat) : Nat :=
  let w := max 1 (s.get (F.OS_PPS_CFG_WIDTH k)) * 100000
  if psSec ≤ w * s.ppsRate k then psSec / (2 * s.ppsRate k) else w

/-- A grid point with leading edge e is not to be emitted: it lies before EN or before the time of the last step, or has been emitted (R183, R185). -/
def OsPps.passed (c : OsPps) (e : Nat) : Bool := decide (e < c.from_) || c.done.any (fun r => decide (r.1 ≤ e) && decide (e ≤ r.2))

/-- The runs of emitted grid points with one more, whose predecessor on the grid has its edge at p. -/
def OsPps.emitted (c : OsPps) (p : Int) (e : Nat) : List (Nat × Nat) :=
  match c.done with
  | (a, b) :: l => if (b : Int) = p then (a, e) :: l else (e, e) :: (a, b) :: l
  | [] => [(e, e)]

/-- PPS_PULSE (R183, R185): the pulse of the grid point nearest to the present. -/
def execPpsPulse (k : Fin 4) (s : State) : Host.Outcome State Fault Refusal :=
  running s fun s =>
    let e := (s.gridEdge k (s.nearGrid k)).toNat
    s.when (s.on (F.OS_PPS_CFG_EN k) && !(s.pps k).passed e) (fun s =>
      let t := (s.put (F.OS_PPS_STAT_RUN k) 1).emit (.pulse k e (s.pulseWidth k) (s.on (F.OS_PPS_CFG_POL k)))
      t.setPps k (fun c => { c with last := some e, until_ := e + s.pulseWidth k, done := c.emitted (s.gridEdge k (s.nearGrid k - 1)) e }))

/-- A write of OS_PPSk_CFG (R183, R184): EN from 0 to 1 takes a new grid phase and anchor; EN written 0 lets a pulse in progress complete. -/
def State.writePpsCfg (s : State) (k : Nat) (v : Word) : State :=
  let was := s.on (F.OS_PPS_CFG_EN k)
  let align := (s.get (F.OS_PPS_CFG_ALIGN_MODE k), s.get (F.OS_PPS_CFG_ALIGN_CH k), s.ppsRate k)
  let t := s.putWord (fieldsAt (F.OS_PPS_CFG_EN k).off) v.toNat
  let now := t.on (F.OS_PPS_CFG_EN k)
  let moved := (t.get (F.OS_PPS_CFG_ALIGN_MODE k), t.get (F.OS_PPS_CFG_ALIGN_CH k), t.ppsRate k) ≠ align
  let t := t.when ((now && !was) || moved) (fun t =>
    (t.put (F.OS_PPS_STAT_ALIGNED k) 0).setPps k (fun c => { c with phase := none }))
  let t := t.when (now && (!was || t.ppsRate k != s.ppsRate k)) (fun t =>
    (t.put (F.OS_PPS_STAT_PG k) 0).setPps k (fun c => { c with anchor := none, good := 0, lost := false }))
  let t := t.when (now && !was) (·.setPps k (fun c => { c with from_ := (psOf s.now).toNat }))
  t.when (!now) (fun t =>
    (t.when (decide (((s.pps k).until_ : Int) ≤ psOf s.now)) (·.put (F.OS_PPS_STAT_RUN k) 0)).put (F.OS_PPS_STAT_PG k) 0)

/-- PPS_CFG_WRITE (R183). -/
def execPpsCfgWrite (path : Path) (k : Fin 4) (v : Word) (s : State) : Host.Outcome State Fault Refusal :=
  running s fun s => s.hostWrite path (F.OS_PPS_CFG_EN k).off (·.writePpsCfg k v)

/-- RUN as it reads: a disabled output runs until its last pulse is complete (R183). -/
def State.ppsRuns (s : State) (k : Nat) : Bool :=
  s.on (F.OS_PPS_STAT_RUN k) && (s.on (F.OS_PPS_CFG_EN k) || decide (psOf s.now < (s.pps k).until_))

/-- The shorter way from phase a to phase b modulo a period of psSec / rate, ps. -/
def phaseStep (a b : Int) (rate : Nat) : Int :=
  let d := (b - a) * rate
  roundDiv (d - roundDiv d psSec * psSec) rate

/-- PPS_ALIGN_EDGE (R184): a stamped edge of the alignment channel sets or moves the grid phase. -/
def State.alignEdge (s : State) (ch : Nat) (st : Stamp) : State :=
  s.forAll (List.range 4) (fun t k =>
    let mode := t.get (F.OS_PPS_CFG_ALIGN_MODE k)
    let mine := min 8 (t.get (F.OS_PPS_CFG_ALIGN_CH k)) == ch && t.on (F.OS_PPS_CFG_EN k) && t.on (F.IE_CH_CFG_CORR ch) && t.chMode ch == 0
    if !mine || !(mode == 1 || mode == 2) then t
    else
      let r := t.ppsRate k
      let input := roundDiv (psOf st.corr * r % psSec) r + roundDiv (t.ppsOffset k) r
      let show_ (t : State) (p : Int) : State := (t.put (F.OS_PPS_STAT_ALIGNED k) 1).setPps k (fun c => { c with phase := some p })
      if mode = 1 then (if (t.pps k).phase.isSome then t else show_ t input)
      else
        let cur := (t.pps k).phase.getD (roundDiv (t.ppsOffset k) r)
        let d := phaseStep cur input r
        let m : Int := t.get (F.OS_PPS_CFG_MAXSTEP k)
        show_ t (if m = 0 then cur + d else cur + clampI (-m) m d))

/-- PPS_ALIGN_MISS (R184): three consecutive input edges are missing in track mode. -/
def execPpsAlignMiss (k : Fin 4) (s : State) : Host.Outcome State Fault Refusal :=
  running s fun s =>
    s.when (s.on (F.OS_PPS_CFG_EN k) && s.get (F.OS_PPS_CFG_ALIGN_MODE k) == 2) (·.event F.OS_EVT_ALIGN_MISS 0x0507 0 k)

/-! ## Time of day (R186, R187) -/

/-- One bit and one byte of the CRC-16 of R186, most significant bit first. -/
def crc16Bit (r : Nat) : Nat := if 0x8000 ≤ r then (r * 2 ^^^ 0x1021) % 0x10000 else r * 2
def crc16Byte (r : Nat) (b : Byte) : Nat := crc16Bit (crc16Bit (crc16Bit (crc16Bit (crc16Bit (crc16Bit (crc16Bit (crc16Bit (r ^^^ (b.toNat * 256)))))))))

/-- The CRC-16 of R186. -/
def crc16 (l : List Byte) : Nat := l.foldl crc16Byte 0xFFFF

/-- Leap in the 24 h after a second: 0 none, 1 insertion, 2 deletion (R186). -/
def State.leapSoon (s : State) (sec : Nat) : Nat :=
  match (leapPairs s.leaps).find? (fun p => decide (sec < p.2.te) && decide (p.2.te ≤ sec + 86400)) with
  | none => 0
  | some p => if p.1.delta < p.2.delta then 1 else 2

/-- The Kloentra message of a second (R186); Δ is 0 while UTC is unknown. -/
def State.kloentra (s : State) (sec : Nat) : List Byte :=
  let d := (s.delta sec).getD 0
  let flags := s.get F.MB_STAT_STATE + s.get F.MB_STAT_UNB * 4 + s.get F.MB_STAT_STALE * 8 + s.get (F.TK_STAT_TIME_SET s.core) * 16
  let b := s.get F.MB_BOUND_BOUND
  let ns := if b = unbounded then 0xFFFFFFFF else min 0xFFFFFFFF (ceilDiv b 1000)
  let body : List Byte := [0x01, 0x10] ++ bytesLE 6 sec ++ bytesLE 2 (d % 65536).toNat ++ bytesLE 1 (s.leapSoon sec) ++ bytesLE 1 flags ++
    bytesLE 1 s.mapClass ++ [0] ++ bytesLE 4 ns
  [0x4A, 0x54] ++ body ++ bytesLE 2 (crc16 body)

/-- Year, month and day of a day count from 1970-01-01 (Gregorian calendar). -/
def civilOf (days : Nat) : Nat × Nat × Nat :=
  let z := days + 719468
  let era := z / 146097
  let doe := z % 146097
  let yoe := (doe - doe / 1460 + doe / 36524 - doe / 146096) / 365
  let doy := doe - (365 * yoe + yoe / 4 - yoe / 100)
  let mp := (5 * doy + 2) / 153
  let d := doy - (153 * mp + 2) / 5 + 1
  let m := if mp < 10 then mp + 3 else mp - 9
  (yoe + era * 400 + (if m ≤ 2 then 1 else 0), m, d)

/-- Day count from 1970-01-01 of a date. -/
def daysOf (y m d : Nat) : Int :=
  let y' := if m ≤ 2 then y - 1 else y
  let mp := if 2 < m then m - 3 else m + 9
  ((y' / 400 * 146097 + (y' % 400 * 365 + y' % 400 / 4 - y' % 400 / 100 + ((153 * mp + 2) / 5 + d - 1)) : Nat) : Int) - 719468

/-- Broken-down UTC of a second, with 60 for the inserted one (R34): date, and hours, minutes, seconds. -/
def State.utcOf (s : State) (sec : Nat) : Option ((Nat × Nat × Nat) × Nat × Nat × Nat) :=
  (s.delta sec).map (fun d =>
    let u := ((sec : Int) - d).toNat
    let extra := (leapPairs s.leaps).any (fun p => p.2.te == sec && decide (p.1.delta < p.2.delta))
    let r := u % 86400
    (civilOf (u / 86400), r / 3600, r / 60 % 60, r % 60 + (if extra then 1 else 0)))

/-- n decimal digits of a number, as ASCII. -/
def digits : Nat → Nat → List Byte
  | 0, _ => []
  | n + 1, v => digits n (v / 10) ++ [BitVec.ofNat 8 (48 + v % 10)]

/-- A hexadecimal digit, as ASCII. -/
def hexDigit (v : Nat) : Byte := BitVec.ofNat 8 (if v < 10 then 48 + v else 55 + v)

/-- The checksum of an NMEA 0183 sentence over the bytes between its start and the asterisk. -/
def nmeaSum (l : List Byte) : Nat := l.foldl (fun a b => a ^^^ b.toNat) 0

/-- The ZDA sentence of a second (R186); none while UTC is unknown. -/
def State.zda (s : State) (sec : Nat) : Option (List Byte) :=
  (s.utcOf sec).map (fun u =>
    let (y, m, d) := u.1
    let (h, mi, se) := u.2
    let body := ascii (if s.on F.OS_TOD_CFG_TALKER then "GNZDA," else "GPZDA,") ++ digits 2 h ++ digits 2 mi ++ digits 2 se ++ ascii ".00," ++
      digits 2 d ++ ascii "," ++ digits 2 m ++ ascii "," ++ digits 4 y ++ ascii ",00,00"
    let c := nmeaSum body
    ascii "$" ++ body ++ ascii "*" ++ [hexDigit (c / 16), hexDigit (c % 16), 13, 10])

/-- TOD_OUT_SEND (R186): LAG ms after the second boundary nearest to it; a ZDA is withheld while UTC is unknown, with event 0x0508 once per
loss. -/
def execTodOutSend (s : State) : Host.Outcome State Fault Refusal :=
  running s fun s =>
    if !s.on F.OS_TOD_CFG_EN then s
    else
      let sec := (s.now + tuSec / 2 - s.get F.OS_TOD_CFG_LAG * tuMs) / tuSec
      if !s.on F.OS_TOD_CFG_FMT then s.emit (.tod (s.kloentra sec))
      else match s.zda sec with
        | some l => { s.emit (.tod l) with os.noUtc := false }
        | none => { s.when (!s.os.noUtc) (·.event F.OS_EVT_TOD_NOUTC 0x0508 0 0) with os.noUtc := true }

/-- The value of decimal digits; none for any other character. -/
def decimal : List Byte → Option Nat
  | [] => some 0
  | l => l.foldl (fun a b => match a with
      | none => none
      | some v => if 48 ≤ b.toNat ∧ b.toNat ≤ 57 then some (v * 10 + (b.toNat - 48)) else none) (some 0)

/-- Bytes split at a separator. -/
def splitAtByte (c : Byte) (l : List Byte) : List (List Byte) :=
  l.foldr (fun b acc => if b = c then [] :: acc else match acc with | [] => [[b]] | x :: r => (b :: x) :: r) [[]]

/-- The TAI second of a broken-down UTC second under the leap table (R33, R34, R187): count u of 23:59:60 is that of 23:59:59. -/
def State.taiOf (s : State) (u : Int) (inserted : Bool) : Option Nat :=
  let fits (t : Int) : Bool := decide (0 ≤ t) && s.delta t.toNat == some (t - u) &&
    ((leapPairs s.leaps).any (fun p => (p.2.te : Int) == t && decide (p.1.delta < p.2.delta))) == inserted
  ((s.leaps.map (fun e => u + e.delta)).find? fits).map Int.toNat

/-- The value of a field of exactly n decimal digits. -/
def fixedField (n : Nat) (l : List Byte) : Option Nat := if l.length = n then decimal l else none

/-- The date exists, from 1970 on: it is the date of its own day count. -/
def dateGood (y m d : Nat) : Bool := decide (1970 ≤ y) && decide (1 ≤ m) && decide (m ≤ 12) && decide (1 ≤ d) && civilOf (daysOf y m d).toNat == (y, m, d)

/-- The time of day of a ZDA sentence: seconds of the day, with 59 for the inserted second 23:59:60, and whether it names that second. -/
def zdaTime (l : List Byte) : Option (Nat × Bool) :=
  match fixedField 2 (l.take 2), fixedField 2 ((l.drop 2).take 2), fixedField 2 ((l.drop 4).take 2) with
  | some h, some mi, some se =>
    if l.drop 6 ≠ ascii ".00" ∨ 23 < h ∨ 59 < mi ∨ 60 < se ∨ (se = 60 ∧ (h ≠ 23 ∨ mi ≠ 59)) then none
    else some (h * 3600 + mi * 60 + min se 59, se == 60)
  | _, _, _ => none

/-- The fields of a ZDA sentence in the form of R186: the UTC count and whether it names the inserted second; none where its form, its date or its
checksum fails. R187 names no other form of ZDA, so any other fails (DEDUCED, log entry 39). -/
def zdaFields (l : List Byte) : Option (Int × Bool) :=
  let n := l.length
  let body := (l.drop 1).take (n - 6)
  let c := nmeaSum body
  if n < 12 ∨ l.take 1 ≠ ascii "$" ∨ l.drop (n - 5) ≠ ascii "*" ++ [hexDigit (c / 16), hexDigit (c % 16), 13, 10] then none
  else match splitAtByte 44 body with
    | [name, time, d, m, y, zh, zm] =>
      if (name ≠ ascii "GPZDA" ∧ name ≠ ascii "GNZDA") ∨ zh ≠ ascii "00" ∨ zm ≠ ascii "00" then none
      else match zdaTime time, fixedField 2 d, fixedField 2 m, fixedField 4 y with
        | some t, some d, some m, some y => if dateGood y m d then some (daysOf y m d * 86400 + (t.1 : Nat), t.2) else none
        | _, _, _, _ => none
    | _ => none

/-- A message fails (R187). -/
def State.todBad (s : State) : State := s.count F.OS_TODIN_STAT_BAD 1

/-- A message is accepted (R187). -/
def State.todGood (s : State) (fmt sec : Nat) : State :=
  (((s.put F.OS_TODIN_SEC_SEC sec).put F.OS_TODIN_STAT_VALID 1).put F.OS_TODIN_STAT_FMT fmt).count F.OS_TODIN_STAT_GOOD 1

/-- OS_TODIN_INFO (R187, R189). -/
def State.todInfo (s : State) (delta leap flags cls bound : Nat) : State :=
  ((((s.put F.OS_TODIN_INFO_DELTA delta).put F.OS_TODIN_INFO_LEAP leap).put F.OS_TODIN_INFO_FLAGS flags).put F.OS_TODIN_INFO_CLASS cls).put
    F.OS_TODIN_INFO_BOUND bound

/-- TOD_IN_MESSAGE (R187): the bytes received on TOD_IN. -/
def execTodInMessage (l : List Byte) (s : State) : Host.Outcome State Fault Refusal :=
  running s fun s =>
    if !s.on F.OS_TOD_CFG_IN_EN then s
    else if l.take 2 = [0x4A, 0x54] then
      let body := (l.drop 2).take 18
      let n (o k : Nat) : Nat := ofBytesLE ((l.drop o).take k)
      if l.length ≠ 22 ∨ body.take 2 ≠ [0x01, 0x10] ∨ n 0x14 2 ≠ crc16 body then s.todBad
      else (s.todInfo (n 0x0A 2) (n 0x0C 1) (n 0x0D 1) (n 0x0E 1) (n 0x10 4)).todGood 0 (n 4 6)
    else match zdaFields l with
      | none => s.todBad
      | some (u, ins) => match s.taiOf u ins with
        | none => s.todBad
        | some sec => (s.todInfo 0 0 0 0 0).todGood 1 sec

/-! ## Starts (R177, R188) -/

/-- The outputs begin in their off state, and each enabled OM restarts. -/
def State.startOutputs (s : State) : State :=
  let t := { s.put F.OS_SM_STAT_LOCK 0 with os := { pps := List.replicate 4 { from_ := (psOf s.now).toNat } } }
  let t := t.forAll (List.range 8) (fun t k => (t.put (F.OS_CLK_STAT_RUN k) 0).put (F.OS_CLK_STAT_PG k) 0)
  let t := t.forAll (List.range 4) (fun t k => (t.put (F.OS_PPS_STAT_RUN k) 0).put (F.OS_PPS_STAT_PG k) 0)
  t.forAll (List.range 4) State.omStart

end Sys2Proof.Machine
end

