-- ==== Sys2Proof/Machine/Timekeeping.lean ====
section
/-! DEFINITION. Timekeeping core (chapter 06): the update and its law, core states, steps, manual mode, lockstep. -/
namespace Sys2Proof.Machine

/-! ## Steps and time sets (R119 to R121, R216) -/

/-- A remembered time after the time word has changed by d. -/
def moved (d : Int) (t : Nat) : Nat := ((t : Int) + d).toNat
def movedO (d : Int) (t : Option Nat) : Option Nat := t.map (moved d)

/-- A window of the selector keeps its place against the samples to come. -/
def RsWindow.moved (w : RsWindow) (d : Int) : RsWindow :=
  { w with t0 := Machine.moved d w.t0, anchor := Machine.moved d w.anchor, start := Machine.moved d w.start }

/-- A slot keeps its place against the stepped time; its latest measurement is spent, and its offset has changed by the step, as has the origin
of a reference that carries no time. -/
def RsSlot.moved (c : RsSlot) (d : Int) : RsSlot :=
  { c with origin := c.origin.map (· + d), win := c.win.moved d, fresh := false, goodFrom := movedO d c.goodFrom, wholeSince := movedO d c.wholeSince,
           last := c.last.map (fun x => { x with time := Machine.moved d x.time, off := x.off + d }) }

/-- The latest measurement of a slot has been used. -/
def RsSlot.spent (c : RsSlot) : RsSlot := { c with fresh := false }

/-- What timekeeping, the selector and Moraine remember keeps its distance from the present. -/
def State.movedCore (s : State) (d : Int) : State :=
  { s with
    tk.measAt := movedO d s.tk.measAt, tk.lsTimes := s.tk.lsTimes.map (moved d),
    tk.lockSince := s.tk.lockSince.map (fun t => ((t : Int) + roundDiv d tuSec).toNat),
    rs.slots := s.rs.slots.map (fun c => c.moved d), rs.contestAt := moved d s.rs.contestAt, rs.cmp := s.rs.cmp.moved d,
    mb.lastAllow := moved d s.mb.lastAllow, mb.mapSince := s.mb.mapSince.map (movedO d), mb.orphanAt := movedO d s.mb.orphanAt,
    tb.coastAt := moved d s.tb.coastAt,
    rates := s.rates.map (fun r => { r with last := moved d r.last }),
    host.lastSignal := s.host.lastSignal.map (fun e => (e.1, moved d e.2)),
    pm.dipAt := moved d s.pm.dipAt, pm.dipTo := moved d s.pm.dipTo,
    pm.lastLow := moved d s.pm.lastLow, tk.ckptAt := moved d s.tk.ckptAt,
    rd.trigAt := moved d s.rd.trigAt, rd.roleSince := moved d s.rd.roleSince, rd.timeAt := movedO d s.rd.timeAt, rd.leaseAt := movedO d s.rd.leaseAt,
    rd.enAt := moved d s.rd.enAt, rd.rimeAt := moved d s.rd.rimeAt, rd.retryAt := movedO d s.rd.retryAt, rd.wokeAt := movedO d s.rd.wokeAt,
    rd.testing := s.rd.testing.map (movedO d), rd.sent := [], rd.lastTime := s.rd.lastTime.map (fun x => (moved d x.1, x.2)),
    host.readyAt := moved d s.host.readyAt, host.boxes := s.host.boxes.map (fun b => { b with rungAt := moved d b.rungAt }),
    ie.chans := s.ie.chans.map (fun c => { c with calTime := moved d c.calTime }) }

/-- The wire, the fabric and Glacier memory likewise. -/
def State.movedWire (s : State) (d : Int) : State :=
  let fs := roundDiv (d * 200000) (2 ^ 32)
  { s with
    wire.macs := s.wire.macs.map (fun m => { m with pauseFrom := moved fs m.pauseFrom, pauseTo := movedO fs m.pauseTo,
                                                    rx := m.rx.map (fun f => { f with arrived := moved d f.arrived }) }),
    wire.lanes := s.wire.lanes.map (fun l => { l with idleExit := movedO d l.idleExit }),
    wire.ports := s.wire.ports.map (fun q => { q with busyFrom := moved fs q.busyFrom, busyTo := moved fs q.busyTo,
                                                      na := q.na.map (fun f => { f with since := moved d f.since }),
                                                      wokeAt := moved fs q.wokeAt, edges := q.edges.map (fun e => (e.1, moved d e.2)) }),
    df.cx := s.df.cx.map (fun r => { r with issued := moved d r.issued, granted := moved d r.granted }),
    gl.locks := s.gl.locks.map (fun l => { l with since := moved d l.since }),
    gl.errs := s.gl.errs.map (fun e => (e.1, moved d e.2)), gl.deadline := movedO d s.gl.deadline }

/-- The baseband, the protocols and the outputs likewise: clock anchors advance by the step (R188), the next pulse is the first grid point after the
stepped time (R185), a PTP exchange begun before it is void. -/
def State.movedRest (s : State) (d : Int) : State :=
  { s with
    gn.lastEpoch := movedO d s.gn.lastEpoch, gn.bothSince := movedO d s.gn.bothSince, gn.goodSince := movedO d s.gn.goodSince,
    gn.recent := s.gn.recent.map (fun e => (moved d e.1, e.2)), gn.guard := s.gn.guard.map (fun w => w.moved d), gn.mark := none, gn.markB := none,
    gn.validAt := movedO d s.gn.validAt,
    gn.snap.stamp := s.gn.snap.stamp.map (fun (x : Stamp) => { x with corr := moved d x.corr }),
    os.clks := s.os.clks.map (fun c => { c with anchor := movedO d c.anchor, lastMs := moved d (c.lastMs * tuMs) / tuMs, rampAt := moved d c.rampAt,
                                                 enAt := moved d c.enAt,
                                                 armAt := moved d c.armAt, edge := movedO d c.edge }),
    os.lockAt := s.os.lockAt.map (moved d), os.pps := s.os.pps.map (fun c => { c with from_ := (psOf (moved d s.now)).toNat }),
    pt.ports := s.pt.ports.map (fun q => { q with sync := none, syncAt := movedO d q.syncAt, request := none, offN := 0, offSum := 0,
                                                  grantAt := q.grantAt.map (moved d), esmcAt := movedO d q.esmcAt,
                                                  announces := q.announces.map (fun a => (a.1, moved d a.2)) }),
    kv.debounce := s.kv.debounce.map (movedO d), pc.spoilt := s.pc.spoilt.map (fun _ => true),
    pc.bwStart := s.pc.bwStart.map (moved d), jl.takenAt := movedO d s.jl.takenAt }

/-- GRID_OFS of a port changes by d, in units of State.now, modulo P, rounded to 1 fs. -/
def State.moveGrid (s : State) (d : Int) (p : Nat) : State :=
  let per := s.gridP p
  if per = 0 then s
  else s.put (F.AP_PORT_STAT_GRID_OFS p) (((s.get (F.AP_PORT_STAT_GRID_OFS p) : Int) + roundDiv (d * 200000) (2 ^ 32)) % per).toNat

/-- The time word changes by d at one tick, and the grid offsets by g: a step under R119, which changes the time word by -m x 6.4 ns, changes them
by m x 6.4 ns (R207), a time set by software by the change of the time word (R216). -/
def State.stepBy (s : State) (d g : Int) : State :=
  let t := ((s.movedCore d).movedWire d).movedRest d
  ({ t.closeSegment with now := moved d s.now }).forAll (List.range 6) (fun t p => t.moveGrid g p)

/-- The fabric drops a token whose deadline has passed while its request was held (R216, R227). -/
def State.dropHeldLate (s : State) (j : Job) : State :=
  match j.token with
  | none => s
  | some tok => match s.df.tokens.find? (fun k => k.id == tok) with
    | some k => s.when (s.late k) (·.dropLate k.floe k)
    | none => s

/-- The token that a held request serves is still there. -/
def State.jobLives (s : State) (j : Job) : Bool :=
  match j.token with
  | none => true
  | some tok => s.df.tokens.any (fun k => k.id == tok)

/-- HELD_REQUEST_SERVE (R216): requests held on port p are served in order, with now taken after the step; one whose token is gone or late is not
served and not counted. -/
def State.serveHeld (s : State) (p : Nat) : State :=
  let held := (s.port p).held
  let t := (s.setPort p (fun q => { q with held := [] })).put (F.AP_PORT_STAT_HOLD p) 0
  t.forAll held (fun t r =>
    let t := t.dropHeldLate r.job
    t.when (t.jobLives r.job) (fun t =>
      let q := t.apRequest p r.len r.notBefore
      q.1.answerJob p r.job q.2))

/-- A step in signed ns, rounded to the nearest, ties away from zero, saturating (R119, R120). -/
def stepNs (d : Int) : Nat := word64 (clampI (-2 ^ 63) (2 ^ 63 - 1) (roundDiv d (5 * 2 ^ 32)))

/-- The time set by software has taken effect (R121). -/
def State.afterTimeSet (s : State) : State :=
  let k := s.core
  let t := (s.put (F.TK_STAT_TIME_SET k) 1).tkEvent k F.TK_EVT_TIME_SET 0x040B 0
  { t with tk.takeE0 := match t.activeSlot with | none => false | some n => t.isTimeRef n,
           tk.anchor := none, tk.withheld := false, tk.measAt := none, mb.timeSet := true }

/-- STEP_APPLY (R119 steps 3 and 4): the time word changes, and granting resumes against the changed time. -/
def State.applyStep (s : State) (p : StepPlan) : State :=
  let k := s.core
  let d : Int := match p.soft with | none => p.delta | some t => (t : Int) - s.now
  let t := { s.stepBy d (match p.soft with | none => -d | some _ => d) with tk.step := none }
  let t := match p.soft with
    | none => (t.when p.setsTime (·.put (F.TK_STAT_TIME_SET k) 1)).tkEvent k F.TK_EVT_STEP 0x0406 (stepNs d)
    | some _ => t.afterTimeSet
  t.forAll (List.range 6) State.serveHeld

/-- STEP_DECIDED (R119 steps 1 and 2): granting stops; with every calendar empty the step is applied at once. -/
def State.decideStep (s : State) (p : StepPlan) : State :=
  if s.calendarsEmpty then s.applyStep p
  else { s.forAll (List.range 6) (fun t q => t.put (F.AP_PORT_STAT_HOLD q) 1) with tk.step := some p }

/-- STEP_APPLY (R119). -/
def execStepApply (s : State) : Host.Outcome State Fault Refusal :=
  running s fun s =>
    match s.tk.step with
    | none => s
    | some p => s.when s.calendarsEmpty (·.applyStep p)

/-! ## The law (R110) -/

/-- pi times 2 * 10^30. -/
def twoPi : Nat := 6283185307179586476925286766559

/-- SLEW_MAX as a frequency word LSB count (R127). -/
def State.slewMax (s : State) : Int := max 1 (min 10000000 (s.get F.TK_SLEW_MAX_SLEW_MAX)) * 2 ^ 32

/-- A 64-bit signed register saturates. -/
def State.putSigned (s : State) (f : Fld) (v : Int) : State := s.putI f (clampI (-2 ^ 63) (2 ^ 63 - 1) v)

/-- y = y + dd * dt, with what a measurement adds to y already rounded in: num over den (R110). -/
def State.propagate (s : State) (k : Nat) (num : Int) (den : Nat) : State :=
  let dd := s.getI (F.TK_MODEL_DD_DD k)
  s.putSigned (F.TK_MODEL_Y_Y k) (s.getI (F.TK_MODEL_Y_Y k) + roundDiv (16 * num + dd * den) (16 * den))

/-- The slew term s of core k beside u, taken from left (R110). -/
def State.slew (s : State) (k : Nat) (u : Int) : State × Int :=
  let left := s.getI (F.TK_SLEW_LEFT_LEFT k)
  let lim := s.slewMax - u.natAbs
  let sl := clampI (-lim) lim (left * 2 ^ 20)
  (s.putLeft k (left - roundDiv sl (2 ^ 20)), sl)

/-- The law with a measurement e of the active reference, phase word, dte after the one before; bw in µHz: u and s (R110). -/
def State.law (s : State) (k bw dte : Nat) (e : Int) : State × Int × Int :=
  let e2 := e - s.getI (F.TK_SLEW_LEFT_LEFT k)
  let w := twoPi * bw
  let s := s.putSigned (F.TK_MODEL_DD_DD k) (s.getI (F.TK_MODEL_DD_DD k) + roundDiv (w ^ 3 * dte * e2 * 2 ^ 16) (10 ^ 108 * tuSec))
  let s := s.propagate k (3 * w ^ 2 * dte * e2 * 2 ^ 16) (10 ^ 72 * tuSec)
  let u := clampI (-s.slewMax) s.slewMax (roundDiv (3 * w * e2 * 2 ^ 16) (10 ^ 36))
  let (t, sl) := s.slew k u
  (t, u, sl)

/-- The frequency word is written (R27, R109). -/
def State.putFreq (s : State) (f : Int) : State := s.closeSegment.putI F.TK_TS_FREQ_FREQ (freqSat f)

/-- TK_MODEL_PH, which saturates (R110, R120). -/
def State.putPh (s : State) (k : Nat) (e : Int) : State := s.putSigned (F.TK_MODEL_PH_PH k) e

/-! ## Core states (R114, R115) -/

/-- The active core changes its state at an update (R114, R115, R117). -/
def State.coreTo (s : State) (new : Nat) : State :=
  let k := s.core
  let old := s.get (F.TK_STAT_STATE k)
  if old = new then s
  else
    let t := s.put (F.TK_STAT_STATE k) new
    let t := t.when (old == 3) (·.tkEvent k F.TK_EVT_HOLD_EXIT 0x0405 0)
    match new with
    | 3 => { (t.put (F.TK_HOLD_SEC_SEC k) t.sec).tkEvent k F.TK_EVT_HOLD 0x0404 0 with tk.u := 0 }
    | 4 => { t with tk.u := 0 }
    | _ =>
      if old = 4 then
        { t with tk.takeE0 := match t.activeSlot with | none => false | some n => t.isTimeRef n,
                 tk.anchor := none, tk.withheld := false, tk.measAt := none }
      else t

/-- The state that MODE and RS_STAT.HOLD ask for (R114). -/
def State.wantedState (s : State) : Nat := if s.get F.TK_CTL_MODE = 1 then 4 else if s.on F.RS_STAT_HOLD then 3 else 2

/-! ## The first measurement of a time reference (R117 to R120) -/

/-- e0 / 6.4 ns to the nearest integer, ties away from zero, for e0 in units of State.now (R119). -/
def stepUnits (e0 : Int) : Int := roundDiv e0 (32 * 2 ^ 32)

/-- A step is permitted (R118). -/
def State.stepPermitted (s : State) : Bool :=
  s.on F.TK_CTL_STEP_PERMIT || (s.on (F.TK_STAT_STARTUP s.core) && s.on F.TK_CTL_STARTUP_STEP) || !s.on (F.TK_STAT_TIME_SET s.core)

/-- e0 exceeds a span of ps in the bound format; nothing exceeds an unbounded one (R26). -/
def exceeds (e0 : Int) (ps : Nat) : Bool := ps != unbounded && decide (ps * 2 ^ 32 < e0.natAbs * 200)

/-- TIME_REFERENCE_ACTIVE (R117 to R120): e0 of slot n, State.now units, is stepped, slewed or withheld. -/
def State.firstOffset (s : State) (n : Nat) (e0 : Int) : State :=
  let k := s.core
  let sets := s.slotType n == 0 || s.slotType n == 4 || s.slotType n == 6
  let permit := s.stepPermitted
  let s := { (s.put (F.TK_STAT_STARTUP k) 0).putPh k (phaseOfSpan e0) with tk.takeE0 := false, tk.measAt := none }
  let far := exceeds e0 (2 ^ 46)
  if exceeds e0 (s.get F.TK_STEP_THRESH_THRESH) && permit then
    let m := stepUnits e0
    let rest := e0 - m * (32 * 2 ^ 32)
    (s.putLeft k (phaseOfSpan rest)).decideStep { delta := -(m * (32 * 2 ^ 32)), setsTime := sets }
  else
    let s := s.when (exceeds e0 (s.get F.TK_STEP_THRESH_THRESH) || far) (·.tkEvent k F.TK_EVT_STEP_WITHHELD 0x0407 (stepNs e0))
    if far then { (s.putLeft k 0).setSlot n (fun c => { c with origin := some e0 }) with tk.anchor := some 0, tk.withheld := true }
    else (s.putLeft k (phaseOfSpan e0)).when sets (·.put (F.TK_STAT_TIME_SET k) 1)

/-! ## The update (R109, R110, R125) -/

/-- The active slot's measurement since the last update, if one is valid (R110, R125). -/
def State.measurement (s : State) : Option (Nat × Sample) :=
  match s.activeSlot with
  | none => none
  | some n =>
    let c := s.slot n
    match c.last with
    | some x => if c.fresh && !s.on F.PM_STAT_DIP then some (n, x) else none
    | none => none

/-- A frequency reference, or a withheld offset, is measured from an anchor (R111, R120). -/
def State.anchored (s : State) (n : Nat) : Bool := !s.isTimeRef n || s.tk.withheld

/-- The other core, where it runs the shadow (R338). -/
def State.shadow (s : State) : Option Nat := if s.get (F.TK_STAT_STATE (1 - s.core)) = 6 then some (1 - s.core) else none

/-- The offset of a measurement as the anchor counts it, a phase word (R111, R120). -/
def State.fromOrigin (s : State) (n : Nat) (x : Sample) : Int := phaseOfSpan (x.off - (s.slot n).origin.getD x.off)

/-- The anchor of a frequency reference that has none yet (R111). -/
def State.anchorDue (s : State) : Option Int :=
  match s.activeSlot with
  | none => none
  | some n => if s.isTimeRef n || s.tk.anchor.isSome then none else (s.slot n).last.map (s.fromOrigin n)

/-- The anchor is taken at the update at which a frequency reference becomes active (R111). -/
def State.takeAnchor (s : State) : State := match s.anchorDue with | none => s | some a => { s with tk.anchor := some a }

/-- And what was left of a slew towards another reference goes: corrected time keeps the phase it has at that moment (R111). -/
def State.anchorPhase (s : State) : State :=
  if s.anchorDue.isSome then (s.core :: s.shadow.toList).foldl (fun t k => t.putLeft k 0) s.takeAnchor else s

/-- e of a measurement of slot n as a phase word (R110, R111). -/
def State.errorOf (s : State) (n : Nat) (x : Sample) : Int :=
  if s.anchored n then s.fromOrigin n x - s.tk.anchor.getD (s.fromOrigin n x) else phaseOfSpan x.off

/-- Bandwidth of slot n in µHz (R90, R110). -/
def State.bwNow (s : State) (n : Nat) : Nat := max 100 (s.get (F.RS_REF_BW_BW_NOW n))

/-- Time that the terms with e2 take: since the last update with a measurement of the same reference, 1/16 s at the first (R110). -/
def State.measSpan (s : State) : Nat := match s.tk.measAt with | none => tuSec / 16 | some t => s.now - t

/-- The values of R338 differ by more than the tolerances. -/
def State.shadowDiffers (s : State) (k : Nat) : Bool :=
  let a := s.core
  let diff (f : Nat → Fld) : Nat := (s.getI (f a) - s.getI (f k)).natAbs
  let tolY := s.get F.RD_RIME_TOL_TOL_Y
  decide (tolY * 2 ^ 32 < 100 * diff F.TK_MODEL_Y_Y) || decide (s.get F.RD_RIME_TOL_TOL_DD * 2 ^ 32 < 1000 * diff F.TK_MODEL_DD_DD) ||
    decide (tolY * 65536 < 1600 * diff F.TK_SLEW_LEFT_LEFT)

/-- One update of the shadow run is compared, or skipped in a dip episode; the first 16 are not compared (R338). -/
def State.compareShadow (s : State) : State :=
  match s.shadow with
  | none => s
  | some k =>
    if s.on F.PM_STAT_DIP then { s with rd.skipped := s.rd.skipped + 1 }
    else
      let n := s.rd.compared + 1
      { s with rd.compared := n, rd.coreBad := s.rd.coreBad || (decide (16 < n) && s.shadowDiffers k) }

/-- Do the model's part of an update on the shadow core too; its u and s stay its own. -/
def State.onShadow (s : State) (f : State → Nat → State) : State := match s.shadow with | none => s | some k => f s k

/-- An update in TRACKING with a measurement: the law (R110). -/
def State.trackMeasured (s : State) (n : Nat) (e : Int) : State :=
  let k := s.core
  let dte := s.measSpan
  let s := s.onShadow (fun t j => (t.law j (t.bwNow n) dte e).1)
  let (t, u, sl) := s.law k (s.bwNow n) dte e
  { t.putFreq (-(t.getI (F.TK_MODEL_Y_Y k) + t.tempTerm + u + sl)) with tk.u := u, tk.measAt := some s.now }

/-- An update in TRACKING without a measurement (R110); in a dip episode left stays (R125). -/
def State.trackUnmeasured (s : State) : State :=
  let k := s.core
  let dip := s.on F.PM_STAT_DIP
  let s := s.onShadow (fun t j => let t := t.propagate j 0 1; if dip then t else (t.slew j s.tk.u).1)
  let t := s.propagate k 0 1
  if dip then t.putFreq (-(t.getI (F.TK_MODEL_Y_Y k) + t.tempTerm))
  else
    let (t, sl) := t.slew k t.tk.u
    t.putFreq (-(t.getI (F.TK_MODEL_Y_Y k) + t.tempTerm + t.tk.u + sl))

/-- An update in TRACKING (R110, R111, R117). -/
def State.trackUpdate (s : State) : State :=
  let s := s.anchorPhase
  match s.measurement with
  | none => s.trackUnmeasured
  | some (n, x) =>
    if s.tk.takeE0 && s.isTimeRef n then
      let t := s.firstOffset n x.off
      t.trackMeasured n (t.getI (F.TK_SLEW_LEFT_LEFT t.core))
    else
      let e := s.errorOf n x
      (s.putPh s.core e).trackMeasured n e

/-- An update in HOLDOVER (R116). -/
def State.holdUpdate (s : State) : State :=
  let k := s.core
  let t := (s.onShadow (fun t j => t.propagate j 0 1)).propagate k 0 1
  t.putFreq (-(t.getI (F.TK_MODEL_Y_Y k) + t.tempTerm))

/-- An update in MANUAL (R121): e is shown, and the slew in progress goes on; in a dip episode left stays (R125). -/
def State.manualUpdate (s : State) : State :=
  let k := s.core
  let s := s.takeAnchor
  let s := match s.measurement with | none => s | some (n, x) => s.putPh k (s.errorOf n x)
  if s.on F.PM_STAT_DIP then s.putFreq (s.getI F.TK_MAN_FREQ_FREQ)
  else
    let s := s.onShadow (fun t j => (t.slew j 0).1)
    let (t, sl) := s.slew k 0
    t.putFreq (t.getI F.TK_MAN_FREQ_FREQ - sl)

/-- Step 4 of a migration at an update, after the update's own word, which it restates as it does y (R49, R50, R105). -/
def State.migrateUpdate (s : State) : State :=
  let old := s.freqWord
  let new := restateFreq old s.tb.ratio
  let tc := s.tempTerm
  let t := s.switchTick
  let dy := tc - t.tempTerm + old - new
  let t := t.forAll (s.core :: s.shadow.toList) (fun t k => t.putSigned (F.TK_MODEL_Y_Y k) (t.getI (F.TK_MODEL_Y_Y k) + dy))
  let t := { t.putFreq new with gn.rateSkip := true }
  let t := { (t.rsMigrated (old - new)).ieMigrated with
    gn.guard := t.gn.guard.map (fun (w : RsWindow) => w.migrated t.now (old - new)) }
  t.forAll (List.range 6) (fun t p => t.setPort p (fun q => { q with calSpoilt := true }))

/-- What a performed update leaves for the fits of chapters 03 and 06 and for Moraine (R57, R116, R155). -/
def State.afterUpdate (s : State) : State :=
  let k := s.core
  let st := s.get (F.TK_STAT_STATE k)
  let tracking := st == 2
  let good := tracking && (match s.activeSlot with | none => false | some n => s.get (F.RS_REF_STAT_STATE n) == 3)
  let t := { s with tk.lastE := ((s.getI (F.TK_MODEL_PH_PH k)).natAbs :: s.tk.lastE).take 16,
                    tk.lockSince := if good then some (s.tk.lockSince.getD s.sec) else none,
                    tk.dayTrack := s.tk.dayTrack && tracking }
  match s.thermDelivered with
  | some a =>
    if s.get F.TB_STAT_ACT = 0 then
      let y := s.getI (F.TK_MODEL_Y_Y k)
      { t with tk.fitN := s.tk.fitN + 1, tk.fitA := s.tk.fitA + a, tk.fitY := s.tk.fitY + y, tk.fitAA := s.tk.fitAA + a * a,
               tk.fitAY := s.tk.fitAY + a * y }
    else t
  | none => t

/-- The first time reference has become active, and its e0 has been taken or, in MANUAL, is not (R118). -/
def State.startedUp (s : State) : Bool :=
  match s.activeSlot with
  | none => false
  | some n => s.isTimeRef n && (!s.tk.takeE0 || s.get (F.TK_STAT_STATE s.core) == 4)

/-- REF, FREQ_ONLY and STARTUP of the active core (R111, R118, R120, R127); the measurements of this update are spent. -/
def State.endUpdate (s : State) : State :=
  let k := s.core
  let only := s.get (F.TK_STAT_STATE k) == 2 && (match s.activeSlot with | none => false | some n => s.anchored n)
  let t := (s.put (F.TK_STAT_REF k) (s.get F.RS_STAT_ACTIVE)).putB (F.TK_STAT_FREQ_ONLY k) only
  let t := t.when s.startedUp (·.put (F.TK_STAT_STARTUP k) 0)
  { t with rs.slots := t.rs.slots.map RsSlot.spent }.compareShadow

/-- The measurements since the last update are not used. -/
def State.spendSamples (s : State) : State := { s with rs.slots := s.rs.slots.map RsSlot.spent }

/-- The update of the active core (R110, R114, R120, R125). Where step 4 of a migration takes the update, or a software time set waits for its
calendars, a first offset is left to a later update, from a fresh measurement; everything else of the update takes place, and the migration
restates its result (DEDUCED, log entry 36). -/
def State.runUpdate (s : State) : State :=
  let t := s.coreTo s.wantedState
  let t := t.when (t.tk.withheld && t.on F.TK_CTL_STEP_PERMIT) (fun t =>
    { t with tk.withheld := false, tk.takeE0 := true, tk.anchor := none })
  let mig := t.tb.migStep == 4
  let t := t.when (t.tk.takeE0 && (mig || t.tk.step.isSome)) State.spendSamples
  let t := match t.get (F.TK_STAT_STATE t.core) with
    | 2 => t.trackUpdate
    | 3 => t.holdUpdate
    | _ => t.manualUpdate
  (t.when mig State.migrateUpdate).afterUpdate.endUpdate

/-- The selector's and the core's part of a schedule point (R92, R109). -/
def State.beginUpdate (s : State) : State :=
  let t := (s.feedPtp.selectorUpdate).esmcChanges
  { t with tk.points := t.tk.points + 1 }.clearChanged

/-- TK_UPDATE (R109, R110). An update within a switchover gap is not performed, nor one within a step's pause; a software time set comes first
(R125). -/
def execTkUpdate (s : State) : Host.Outcome State Fault Refusal :=
  running s fun s =>
    let t := s.beginUpdate
    if !t.coreLive || t.tk.step.isSome then t
    else match t.tk.setTime with
      | none => t.runUpdate
      | some time =>
        (({ t with tk.setTime := none }).decideStep { delta := 0, setsTime := true, soft := some time }).runUpdate

/-- UPDATE_MISS (R109): the frequency word stays; the miss counts and may trigger a switchover. -/
def execUpdateMiss (s : State) : Host.Outcome State Fault Refusal :=
  running s fun s =>
    let t := s.beginUpdate
    if !t.coreLive then t
    else
      let k := t.core
      let t := (t.count (F.TK_MISS_UPD_MISS k) 1).tkEvent k F.TK_EVT_UPD_MISS 0x0401 0
      t.when (t.on F.TK_CTL_MISS_SWITCH && !t.on F.PM_STAT_DIP) (·.trigger 3)

/-- LOCKSTEP_MISMATCH (R112): the halves are reloaded from the agreed copy; a third disagreement within 1 s of the first sets LS_FAIL. -/
def execLockstepMismatch (s : State) : Host.Outcome State Fault Refusal :=
  running s fun s =>
    let k := s.core
    let t := (s.count F.TK_TS_STAT_LS_ERR 1).tkEvent k F.TK_EVT_LS_ERR 0x0403 0
    let near := s.tk.lsTimes.filter (fun x => decide (s.now ≤ x + tuSec))
    let t := { t with mb.owed := t.mb.owed ++ [Allowance.lockstep], tk.lsTimes := (s.now :: near).take 2 }
    t.when (decide (2 ≤ near.length)) (fun t => (t.put F.TK_TS_STAT_LS_FAIL 1).trigger 5)

/-! ## Manual mode (R121) -/

/-- A write of TK_CTL (R114, R121, R127): a change of the effective MODE writes event 0x0408 with argument 0; the update follows it. -/
def State.writeTkCtl (s : State) (v : Word) : State :=
  let was := s.get F.TK_CTL_MODE == 1
  let t := s.putWord (fieldsAt F.TK_CTL_MODE.off) v.toNat
  t.when ((t.get F.TK_CTL_MODE == 1) != was) (·.tkEvent s.core F.TK_EVT_MODE 0x0408 0)

/-- TK_MODE_WRITE (R121). -/
def execTkModeWrite (path : Path) (v : Word) (s : State) : Host.Outcome State Fault Refusal :=
  running s fun s => s.hostWrite path F.TK_CTL_MODE.off (·.writeTkCtl v)

/-- A manual write has its effect in MODE = MANUAL; in AUTO it is dropped with event 0x0408, argument 1 (R121). -/
def State.manual (s : State) (f : State → State) : State :=
  if s.get F.TK_CTL_MODE = 1 then f s else s.tkEvent s.core F.TK_EVT_MODE 0x0408 1

/-- A write of TK_MAN_PHASE (R121). -/
def State.writeManPhase (s : State) (v : Word) : State :=
  s.manual (fun s => s.putLeft s.core (s.getI (F.TK_SLEW_LEFT_LEFT s.core) + v.toInt))

/-- TK_MAN_PHASE_WRITE (R121). -/
def execTkManPhaseWrite (path : Path) (v : Word) (s : State) : Host.Outcome State Fault Refusal :=
  running s fun s => s.hostWrite path F.TK_MAN_PHASE_PHASE.off (·.writeManPhase v)

/-- A write of TK_SET_NSF (R25): held until TK_SET_SEC is written. -/
def State.writeSetNsf (s : State) (v : Word) : State := s.manual (fun s => { s with tk.heldNsf := some v.toNat })

/-- TK_SET_NSF_WRITE (R25). -/
def execTkSetNsfWrite (path : Path) (v : Word) (s : State) : Host.Outcome State Fault Refusal :=
  running s fun s => s.hostWrite path F.TK_SET_NSF_NS.off (·.writeSetNsf v)

/-- A write of TK_SET_SEC (R24, R25, R121): the pair is set at the next update, or dropped whole where its NS exceeds 999,999,999. With no write
of TK_SET_NSF held, NSF is what the pair took last, 0 at first (DESIGN CHOICE, log entry 51). -/
def State.writeSetSec (s : State) (v : Word) : State :=
  s.manual (fun s =>
    let nsf := s.tk.heldNsf.getD s.tk.setNsf
    if 999999999 < nsf / 2 ^ 32 then { s with tk.heldNsf := none }
    else { s with tk.setTime := some (timeOf (v.toNat % 2 ^ 48) nsf), tk.heldNsf := none, tk.setNsf := nsf })

/-- TK_SET_SEC_WRITE (R121). -/
def execTkSetSecWrite (path : Path) (v : Word) (s : State) : Host.Outcome State Fault Refusal :=
  running s fun s => s.hostWrite path F.TK_SET_SEC_SEC.off (·.writeSetSec v)

/-! ## Temperature (R116) -/

/-- The least-squares line of y against a: C in LSB 2^-16 ppt per code, and the code at which it is zero, which a level line does not
determine; none where the samples determine no line. -/
def State.tempFit (s : State) : Option (Int × Option Int) :=
  let n : Int := s.tk.fitN
  let den := n * s.tk.fitAA - s.tk.fitA * s.tk.fitA
  let num := n * s.tk.fitAY - s.tk.fitA * s.tk.fitY
  if den ≤ 0 then none
  else
    let c := clampI (-2147483648) 2147483647 (roundDiv num (den * 65536).toNat)
    if num = 0 then some (c, none)
    else
      let zero := roundDiv ((s.tk.fitA * num - s.tk.fitY * den) * (if num < 0 then -1 else 1)) (n * num.natAbs).toNat
      some (c, some (clampI 0 4095 zero))

/-- TEMPCO_REFIT (R116): at a TAI day boundary. What the day's samples do not determine of the line, C and A_REF or
A_REF alone, is a free value (log entry 1). -/
def execTempcoRefit (s : State) : Host.Outcome State Fault Refusal :=
  running s fun s =>
    let k := s.core
    let t :=
      if s.on F.TK_CTL_TEMPCO_LEARN && s.tk.dayTrack then
        let t := match s.tempFit with
          | some (c, some a) => (s.putI F.TK_TEMPCO_C c).putI F.TK_TEMPCO_A_REF a
          | some (c, none) => s.takeFree fun s a => (s.putI F.TK_TEMPCO_C c).put F.TK_TEMPCO_A_REF a.toNat
          | none => s.takeFree fun s c => s.takeFree fun s a => (s.put F.TK_TEMPCO_C c.toNat).put F.TK_TEMPCO_A_REF a.toNat
        (t.put F.TK_TEMPCO_LEARNED 1).tkEvent k F.TK_EVT_TEMPCO 0x0409 0
      else s
    { t with tk.fitN := 0, tk.fitA := 0, tk.fitY := 0, tk.fitAA := 0, tk.fitAY := 0,
             tk.dayTrack := s.coreLive && s.get (F.TK_STAT_STATE k) == 2 }

end Sys2Proof.Machine
end

