-- ==== Sys2Proof/Machine/Publish.lean ====
section
/-! DEFINITION. Moraine at the schedule points and the hour (R150, R160, R169), and what an edge on a channel does beyond the channel itself. -/
namespace Sys2Proof.Machine

/-- MB_PUBLICATION (R150): the QL of each lane follows the map (R277). -/
def execMbPublication (s : State) : Host.Outcome State Fault Refusal := running s fun s => s.publish.esmcChanges

/-- STALE_REEVALUATE (R160). -/
def execStaleReevaluate (s : State) : Host.Outcome State Fault Refusal :=
  running s fun s => s.when (s.on F.MB_STAT_STALE) (fun s => s.staleMap.esmcChanges)

/-! ## Attestation (R169) -/

/-- The extremes that an attestation states for the hour (R169): while the publication is stale both carry the inflated bound of the hour (R171). -/
def State.hourExtremes (s : State) : Nat × Nat :=
  if s.on F.MB_STAT_STALE then (s.boundAt s.now, s.boundAt s.now) else (s.mb.hourMax, s.mb.hourMin)

/-- The 96-byte message of an attestation. -/
def State.attestMessage (s : State) : List Byte :=
  bytesLE 8 (s.sec / 3600 * 3600) ++ bytesLE 8 0 ++ bytesLE 8 (s.mb.attSeq + 1) ++ bytesLE 8 (s.get F.JL_SEALED_K) ++ s.lastSeal ++
    bytesLE 8 s.hourExtremes.1 ++ bytesLE 8 s.hourExtremes.2 ++ bytesLE 8 s.traceArg ++ bytesLE 8 (s.get F.SY_DEVID_LO_ID)

/-- An attestation fails, and the record of the hour before is lost with its sequence (R169). -/
def State.attestFails (s : State) : State :=
  let t := s.forAll (List.range 20) (fun t w => t.put (F.MB_ATT_DATA w) 0)
  { (t.put F.MB_ATT_STAT_VALID 0).put F.MB_ATT_STAT_SEQ 0 with mb.signing := none }.event F.MB_EVT_ATT_FAIL 0x0417 0 0

/-- ATTESTATION_START (R169): at the hour, where ATT_EN = 1, the message is built for signing under the key of slot 0; the hour's extremes begin
anew in any case. -/
def execAttestationStart (s : State) : Host.Outcome State Fault Refusal :=
  running s fun s =>
    let t := { s with mb.hourMax := s.boundAt s.now, mb.hourMin := s.boundAt s.now }
    t.when (s.on F.MB_CFG_ATT_EN) (fun t =>
      let m := s.attestMessage
      let t := { t with mb.attSeq := s.mb.attSeq + 1 }
      let status := t.keyCheck 9 0 [4] 25
      if status ≠ 0 then (t.keyDenied status).attestFails else { t with mb.signing := some m })

/-- ATTESTATION_COMPLETE (R169): the signer answers, or the signing fails. -/
def execAttestationComplete (ok : Bool) (s : State) : Host.Outcome State Fault Refusal :=
  running s fun s =>
    match s.mb.signing with
    | none => s
    | some m =>
      if !ok then s.attestFails
      else
        let record := m ++ (Config.signature (attrType (s.slotAttr 0)) (readCell 0 [] s.kv.slots) m).take 64
        let t := s.forAll (List.range 20) (fun t w => t.put (F.MB_ATT_DATA w) (at8 record (8 * w)))
        let t := { (t.put F.MB_ATT_STAT_VALID 1).put F.MB_ATT_STAT_SEQ s.mb.attSeq with mb.signing := none }
        (t.event F.MB_EVT_ATT 0x0416 0 s.mb.attSeq).signalLimited 1 2

/-! ## Latched reads (R80, R173) -/

/-- Latch the register at an offset with a value: its next read returns it. -/
def State.latch (s : State) (off v : Nat) : State := { s with latches := insertCell off v (dropCell off s.latches) }

/-- Latch registers at their present values. -/
def State.latchAll (s : State) (offs : List Nat) : State := s.forAll offs (fun t off => t.latch off (s.word (fieldsAt off)))

/-- MB_ATT_STAT_READ (R173): the read latches MB_ATT0 to MB_ATT19. -/
def execMbAttStatRead (path : Path) (s : State) : Host.Outcome State Fault Refusal :=
  running s fun s =>
    let off := F.MB_ATT_STAT_VALID.off
    s.hostRead path off (fun s =>
      (s.latchAll ((List.range 20).map (fun w => (F.MB_ATT_DATA w).off))).emit (.readData off (BitVec.ofNat 64 (s.word (fieldsAt off)))))

/-- IE_ST_STAT_READ (R80): the read latches the engine's results. -/
def execIeStStatRead (path : Path) (m : Fin 8) (s : State) : Host.Outcome State Fault Refusal :=
  running s fun s =>
    let off := (F.IE_ST_STAT_N_DONE m).off
    s.hostRead path off (fun s =>
      (s.latchAll ((List.range 9).map (fun i => (F.IE_ST_MEAN_MEAN m).off + 8 * i))).emit
        (.readData off (BitVec.ofNat 64 (s.word (fieldsAt off)))))

/-! ## Edges (R64, R61) -/

/-- IE_EDGE (R64): an edge on a channel is stamped and delivered to the buffer and the engines, to the reference selector, and to the block
that owns the channel: marks of CH12 to CH17 to AP, CH20 and CH21 to GN, CH22 to CH30 to OS, and CH0 to CH8 to pulse alignment; the windows of CH18 and CH19 wait for the baseband's check. back is the edge's
distance in ticks before the present one, code the TAC code. -/
def execIeEdge (ch : Fin 32) (rising : Bool) (back code : Nat) (s : State) : Host.Outcome State Fault Refusal :=
  running s fun s =>
    let last := (s.chan ch).last
    match s.ieEdge ch rising back code with
    | (t, none) => (t.when (12 ≤ ch.val && ch.val < 18) (·.markEdge (ch - 12) none)).when (s.edgeFate ch rising back code == .stamped) (·.seeEdge ch (s.tickBack back % 2 ^ 48, 0))
    | (t, some st) =>
      let mig := match last with | none => false | some a => crossMigration a st
      let t := t.refEdge ch st
      let n := ch.val
      if n < 9 then t.alignEdge n st
      else if 12 ≤ n && n < 18 then t.markEdge (n - 12) (some st)
      else if n = 20 then { t with gn.mark := some st }
      else if n = 21 then { t with gn.markB := some st }
      else if 22 ≤ n && n < 30 then t.when (!mig) (·.measureClk (n - 22) st)
      else if n = 30 then t.when (!mig) (·.measurePps st)
      else t

end Sys2Proof.Machine
end

