-- ==== Sys2Proof/Machine/Rime.lean ====
section
/-! DEFINITION. The Rime pass, the mate proof and the standby's Névé timer (R335 to R341). -/
namespace Sys2Proof.Machine

/-! ## Start (R336, R337) -/

/-- A happening that defers a pass is in progress (R336). -/
def State.rimeBlocked (s : State) : Bool :=
  s.on F.RD_STAT_SW || s.on F.RD_STAT_ORPHAN || s.get F.BT_STAT_STATE == 6 || s.on F.TB_STAT_MIG || s.on F.PM_STAT_DIP

/-- The pass is deferred by 1 h, or after three deferrals skipped for the day (R336). -/
def State.deferRime (s : State) : State :=
  if 3 ≤ s.rd.deferrals then { s.event F.RD_EVT_RIME_DEFER 0x0A13 0 2 with rd.deferrals := 0, rd.retryAt := none }
  else { s.event F.RD_EVT_RIME_DEFER 0x0A13 0 1 with rd.deferrals := s.rd.deferrals + 1, rd.retryAt := some (s.now + 3600 * tuSec) }

/-- The start instant has come: START seconds after the midnight of UTC, or of TAI while UTC is unknown, or the retry of a deferred pass (R336). -/
def State.rimeDue (s : State) : Bool :=
  match s.rd.retryAt with
  | some t => decide (t ≤ s.now)
  | none => decide (((s.sec : Int) - (s.delta s.sec).getD 0) % 86400 = (min 86399 (s.get F.RD_RIME_CFG_START) : Nat))

/-- SHADOW in seconds (R344). -/
def State.shadowSpan (s : State) : Nat := max 10 (s.get F.RD_RIME_CFG_SHADOW)

/-- The running pass is n seconds old (R337). -/
def State.rimeAge (s : State) (n : Nat) : Bool := decide (s.rd.rimeAt + n * tuSec ≤ s.now)

/-- Step 1 of R337: the standby core loads the last sealed checkpoint, catches up and enters SHADOW. -/
def State.beginShadow (s : State) : State :=
  match s.standbyCore, s.newestCheckpoint with
  | some k, some (slot, b) =>
    let anchor := s.tk.anchor
    let t := (s.loadModel k slot b).replays k (s.tk.points - s.tk.ckptPoint)
    { t.put (F.TK_STAT_STATE k) 6 with tk.anchor := anchor }
  | _, _ => s

/-- Channels that step 2 of R337 calibrates: CH12 to CH17 only with LANE_CAL = 1 or without their lane's link. -/
def State.rimeCal (s : State) (n : Nat) : Bool :=
  s.autoCal n && (decide (n < 12) || decide (17 < n) || s.on F.RD_RIME_CFG_LANE_CAL || !s.on (F.LN_LANE_STAT_LINK (n - 12)))

/-- The pass starts (R337). -/
def State.startRime (s : State) : State :=
  if s.get F.RD_RIME_STAT_STATE ≠ 0 then s
  else if s.rimeBlocked then s.deferRime
  else
    let t := (s.beginShadow.put F.RD_RIME_STAT_STATE 1).event F.RD_EVT_RIME_START 0x0A10 0 0
    let t := { t with rd.compared := 0, rd.skipped := 0, rd.coreBad := false, rd.tacBad := false, rd.result := 0,
                      rd.rimeAt := s.now, rd.retryAt := none }
    (t.forAll (List.range 32) (fun t n => t.when (t.rimeCal n) (·.queueCal n))).showStandby

/-- RIME_PASS_START (R336): the start instant of the day, or the retry of a deferred pass. -/
def execRimePassStart (s : State) : Host.Outcome State Fault Refusal := running s fun s => s.when (s.on F.RD_RIME_CFG_EN && s.rimeDue) (·.startRime)

/-- A write of RD_RIME_REQ (R336, R344). -/
def State.writeRimeReq (s : State) (v : Word) : State := s.when (F.RD_RIME_REQ_GO.ofWord v == 1) (·.startRime)

/-- RIME_REQUEST (R336). -/
def execRimeRequest (path : Path) (v : Word) (s : State) : Host.Outcome State Fault Refusal :=
  running s fun s => s.hostWrite path F.RD_RIME_REQ_GO.off (·.writeRimeReq v)

/-! ## Items (R337 to R339) -/

/-- Step 3: the lanes of a kind that failed are out of arbitration, and those that passed are in it (R234). -/
def State.lanesTested (s : State) (kind failed : Nat) : State :=
  let old := s.get (cxOff kind)
  let t := s.put (cxOff kind) failed
  t.forAll (List.range (laneCount kind)) (fun t l =>
    match old.testBit l, failed.testBit l with
    | false, true => t.event F.CX_EVT_LANE_OFF 0x0728 l 0
    | true, false => t.event F.CX_EVT_LANE_ON 0x0729 l 0
    | _, _ => t)

/-- Step 4: a spare that fails is unusable; one that serves a soft repair is replaced, with source 2 (R314, R337). -/
def State.spareFailed (s : State) (bank spare : Nat) : State :=
  let t := if s.gl.badSpares.contains (bank, spare) then s else { s with gl.badSpares := s.gl.badSpares ++ [(bank, spare)] }
  let serves (j : Nat) : Bool :=
    let e := s.get (F.EC_SOFT_ENTRY j)
    repairValid e && bits e 7 0 == bank && bits e 27 23 == spare
  let t := match (List.range 256).find? serves with
    | none => t
    | some j =>
      if (t.freeSpare bank).isNone then t.event F.EC_EVT_NO_SPARE 0x0806 0 0
      else
        let row := bits (t.get (F.EC_SOFT_ENTRY j)) 22 8
        (t.put (F.EC_SOFT_ENTRY j) 0).repairRow bank row 2
  t.put F.EC_REPAIR_STAT_MIN_FREE t.minFree

/-- Step 5: failed channel pairs are not used until they pass a later pass (R337). -/
def State.pairsTested (s : State) (pairs : List Nat) : State :=
  { s with gn.badPairs := pairs }.forAll pairs (fun t p => t.when (decide (p < 128)) (·.put (F.GN_CH_STAT_STATE p) 0))

/-- A band entry that a refit may change: any entry of an OM that is not enabled, the entry in use of one that is (R339). -/
def State.refits (s : State) (om j : Nat) : Bool :=
  decide (om < 4) && decide (j < 64) && (!s.on (F.OS_OM_CFG_EN om) || s.get (F.OS_OM_STAT_BAND om) == j)

/-- The register words of the band tables, in order. -/
def State.bandWords (s : State) : List Nat :=
  (List.range 4).flatMap (fun om => (List.range 64).map (fun j => s.word (fieldsAt (F.OS_OM_BAND_MIN om j).off)))

/-- Step 6: the refitted entries, and the copy in Glacier memory (R339). -/
def State.bandsRefitted (s : State) (l : List (Nat × Nat × Nat × Nat)) : State :=
  let t := s.forAll l (fun t e =>
    t.when (s.refits e.1 e.2.1) (fun t => (t.putSat (F.OS_OM_BAND_MIN e.1 e.2.1) e.2.2.1).putSat (F.OS_OM_BAND_MAX e.1 e.2.1) e.2.2.2))
  t.when (!l.isEmpty) (fun t => t.writeCopy bandCopy t.bandWords)

/-! ## End (R338, R340, R341) -/

/-- The Rime record (R341): RD_RIME_STAT, RD_STAT and RD_MATE_STAT, with a CRC-32C over the bytes before it. -/
def State.fileRime (s : State) : State :=
  let l := bytesLE 8 (s.word (fieldsAt F.RD_RIME_STAT_STATE.off)) ++ bytesLE 8 (s.word (fieldsAt F.RD_STAT_SW.off)) ++
    bytesLE 8 (s.word (fieldsAt F.RD_MATE_STAT_LINK.off)) ++ zeros 32
  { s with firn := writeBytes s.firn 0x6C40 (l ++ bytesLE 4 (crc32c l)) }

/-- The pass ends with the failed items of its result: bit 0 core, 1 TAC, 2 spares, 3 crypto, 4 GNSS, 5 bands, 6 mate (R341, R344). -/
def State.endRime (s : State) (r : Nat) : State :=
  let t := ((s.put F.RD_RIME_STAT_STATE 0).put F.RD_RIME_STAT_RESULT r).put F.RD_RIME_STAT_SEC s.sec
  let t := if r.testBit 0 || r.testBit 6 then t.event F.RD_EVT_RIME_FAIL 0x0A12 0 (r % 256) else t.event F.RD_EVT_RIME_PASS 0x0A11 0 0
  let t := { t with rd.itemFail := r &&& 0x3E != 0, rd.deferrals := 0 }.fileRime
  t.when (t.get F.RD_MATE_STAT_ROLE == 2) (fun t => t.mateSend 5 (bytesLE 8 (t.word (fieldsAt F.RD_RIME_STAT_STATE.off))))

/-- Step 8 of R337: the mate proof begins, with WAKE to a mate in Névé (R340). -/
def State.beginProof (s : State) : State :=
  let t := { s.put F.RD_RIME_STAT_STATE 2 with rd.goodRun := 0, rd.bestRun := 0, rd.prove := none, rd.wokeAt := none, rd.lateLink := false }
  t.when (t.on F.RD_MATE_STAT_MATE_NEVE) (fun t =>
    { t.sendWake.event F.RD_EVT_WAKE 0x0A24 0 0 with rd.wokeAt := some t.now })

/-- A chip that holds the STANDBY role reports its pass and proves no mate; every other one does where R337 asks for it. -/
def State.provesMate (s : State) : Bool := s.on F.RD_RIME_CFG_MATE && s.on F.RD_MATE_CFG_EN && s.get F.RD_MATE_STAT_ROLE != 2

/-- The comparison counts as not run (R338): no shadow core ran, or more than half of the updates were skipped. -/
def State.shadowNotRun (s : State) : Bool :=
  s.shadow.isNone || decide (s.rd.compared + s.rd.skipped < 2 * s.rd.skipped)

/-- Steps 2 to 6 of a pass that is in its shadow run. -/
def State.rimeItems (s : State) (x : RimeFound) : State :=
  let t := s.forAll [0, 1, 2] (fun t k => t.lanesTested k (x.lanes.getD k 0 % 2 ^ laneCount k))
  let t := t.forAll x.spares (fun t e => t.when (decide (e.1 < 256) && decide (e.2 < 32)) (·.spareFailed e.1 e.2))
  (t.pairsTested x.pairs).bandsRefitted x.bands

/-- Failed items but the core's and the mate's. -/
def State.rimeResult (s : State) (x : RimeFound) : Nat :=
  (if s.rd.tacBad then 2 else 0) + (if x.spares.isEmpty then 0 else 4) +
    (if [0, 1, 2].all (fun k => x.lanes.getD k 0 % 2 ^ laneCount k == 0) then 0 else 8) + (if x.pairs.isEmpty then 0 else 16) +
    (if x.bandFail then 32 else 0)

/-- RIME_BAD of core k (R326). -/
def State.putRimeBad (s : State) (k : Nat) (b : Bool) : State := if k = 0 then s.putB F.RD_STAT_RIME_BAD_A b else s.putB F.RD_STAT_RIME_BAD_B b

/-- The shadow run concludes with what the pass has found (R337 steps 2 to 7, R338). -/
def State.endShadow (s : State) (x : RimeFound) : State :=
  let t := s.rimeItems x
  match s.shadow with
  | none => (t.put F.RD_RIME_STAT_STATE 0).deferRime
  | some k =>
    let t := t.put (F.TK_STAT_STATE k) 0
    if s.shadowNotRun then (t.put F.RD_RIME_STAT_STATE 0).deferRime.showStandby
    else
      let bad := s.rd.coreBad || x.missed
      let r := s.rimeResult x + bad.toNat
      let t := { t.putRimeBad k bad with rd.result := r }.showStandby
      if t.provesMate then t.beginProof else t.endRime r

/-- RIME_SHADOW_END (R337, R338): the shadow run of SHADOW seconds is over. -/
def execRimeShadowEnd (x : RimeFound) (s : State) : Host.Outcome State Fault Refusal :=
  running s fun s => s.when (s.get F.RD_RIME_STAT_STATE == 1 && s.rimeAge s.shadowSpan) (·.endShadow x)

/-- The proof passes (R340): the link is up, in time where the mate was woken; its pass shows no core or mate failure; eight consecutive
exchanges met the tolerance. -/
def State.mateProved (s : State) : Bool :=
  s.on F.RD_MATE_STAT_LINK && !s.rd.lateLink && decide (8 ≤ s.rd.bestRun) &&
    (match s.rd.prove with | some w => !w.testBit 8 && !w.testBit 14 | none => false)

/-- RIME_MATE_PROOF_END (R340, R341): the proof has passed, or its 65 s are over. -/
def execRimeMateProofEnd (s : State) : Host.Outcome State Fault Refusal :=
  running s fun s =>
    s.when (s.get F.RD_RIME_STAT_STATE == 2 && (s.mateProved || s.rimeAge (s.shadowSpan + 65))) (fun s =>
      let ok := s.mateProved
      let t := { s.putB F.RD_MATE_STAT_MATE_AVAIL ok with rd.wokeAt := none }
      t.endRime (s.rd.result + (if ok then 0 else 64)))

/-! ## Névé requests (R335, R353) -/

/-- What defers a Névé request (R353). -/
def State.neveBlocked (s : State) : Bool :=
  s.on F.RD_STAT_SW || s.on F.RD_STAT_ORPHAN || s.get F.BT_STAT_STATE == 6 || s.on F.TB_STAT_MIG || s.get F.RD_RIME_STAT_STATE != 0 ||
    s.on F.PM_STAT_DIP

/-- Step 1 of Névé entry: granting stops, and LN0 to LN3 and LN5 go to electrical idle (R353). -/
def State.beginNeve (s : State) : State :=
  let t := { s.put F.PM_STAT_STATE 1 with pm.neveWaits := false, pm.wakeOwed := none, pm.neveRtc := s.get F.PM_RTC_RTC }
  let t := t.forAll (List.range 6) (fun t p => t.put (F.AP_PORT_STAT_HOLD p) 1)
  t.forAll [0, 1, 2, 3, 5] (fun t n => t.when (t.laneState n != laneOff && t.laneState n != laneIdle) (·.enterIdle n))

/-- A valid Névé request: ignored while entry runs, refused in tamper hold, else deferred or begun (R353, R361). -/
def State.requestNeve (s : State) : State :=
  if s.get F.PM_STAT_STATE = 1 then s
  else if s.on F.TP_STAT_HOLD then s.event F.PM_EVT_NEVE_REJ 0x0112 0 1
  else if s.neveBlocked then { s.event F.PM_EVT_NEVE_REJ 0x0112 0 3 with pm.neveWaits := true }
  else s.beginNeve

/-- A write of SY_NEVE (R353). -/
def State.writeNeve (s : State) (v : Word) : State :=
  if F.SY_NEVE_GO.ofWord v = 0 ∨ s.get F.PM_STAT_STATE = 1 then s
  else if F.SY_NEVE_CONFIRM.ofWord v ≠ 0x4E then s.event F.PM_EVT_NEVE_REJ 0x0112 0 (if s.on F.TP_STAT_HOLD then 1 else 2)
  else s.requestNeve

/-- NEVE_REQUEST (R353). -/
def execNeveRequest (path : Path) (v : Word) (s : State) : Host.Outcome State Fault Refusal :=
  running s fun s => s.hostWrite path F.SY_NEVE_GO.off (·.writeNeve v)

/-- STANDBY_NEVE_TIMER (R335): 60 s after the chip became STANDBY, SLEEP with the wake pattern, then a Névé request. -/
def execStandbyNeveTimer (s : State) : Host.Outcome State Fault Refusal :=
  running s fun s =>
    if s.get F.RD_MATE_STAT_ROLE = 2 ∧ s.on F.RD_MATE_CFG_NEVE_STBY ∧ s.on F.RD_MATE_STAT_MATE_AVAIL ∧ s.rd.roleSince + 60 * tuSec ≤ s.now then
      (s.mateSend 3 ((List.range 8).flatMap (fun i => bytesLE 8 (s.get (F.LN_WAKE_PAT_PAT i))))).requestNeve
    else s

/-! ## Mailbox revocation (R330) -/

/-- A supervisor core that has held the mailbox of function n for longer than MBOX_HOLD loses it, with a status. -/
def State.endBox (s : State) (n status : Nat) (l : List Byte) : State :=
  let b := s.host.boxes.getD n {}
  let b' := { b with doorbell := false, status := status, done := true, rtag := b.tag, rpayload := l.take 2040, reply := none }
  { s with host.boxes := assign {} n b' s.host.boxes }.signal n 0

/-- The mailbox of function n is held for longer than MBOX_HOLD (R330, R344). -/
def State.boxOverdue (s : State) (n : Nat) : Bool :=
  let b := s.host.boxes.getD n {}
  b.doorbell && decide (b.rungAt + max 1 (s.get F.RD_CFG_MBOX_HOLD) * tuMs < s.now)

/-- MBOX_REVOKE (R330). -/
def execMboxRevoke (fn : Fin 6) (s : State) : Host.Outcome State Fault Refusal :=
  running s fun s =>
    s.when (s.boxOverdue fn) (fun s =>
      ((s.endBox fn 0x06 []).count F.RD_CNT_MBOX_REVOKE 1).event F.RD_EVT_MBOX_REVOKE 0x0A08 0 0)

end Sys2Proof.Machine
end

