-- ==== Sys2Proof/Machine/Boot.lean ====
section
/-! DEFINITION. Fodra images and their checks, the load of an image, and the rest of a start (R235 to R242, R359, R360, R380 to R382). -/
namespace Sys2Proof.Machine

/-! ## Image checks (R235 to R239) -/

/-- Little-endian field of n bytes at an offset of a byte list. -/
def leAt (l : List Byte) (off n : Nat) : Nat := ofBytesLE ((l.drop off).take n)

/-- A section of the directory: type, offset, length, CRC (R235). -/
structure Section where
  type : Nat
  off : Nat
  len : Nat
  crc : Nat
  deriving DecidableEq, Repr

/-- The section directory of an image (R235). -/
def imageSections (l : List Byte) : List Section :=
  (List.range (leAt l 0x10 2)).map (fun i =>
    let a := 0x40 + 16 * i
    ⟨leAt l a 2, leAt l (a + 4) 4, leAt l (a + 8) 4, leAt l (a + 12) 4⟩)

/-- The bytes of a section. -/
def Section.bytes (x : Section) (l : List Byte) : List Byte := (l.drop x.off).take x.len

/-- Check 1 of R239: magic, format version, total length, and the section count of R235. -/
def headerGood (l : List Byte) : Bool :=
  l.take 4 == [0x46, 0x4F, 0x44, 0x52] && leAt l 4 2 == 1 && leAt l 0x0C 4 == l.length && decide (l.length ≤ 2 ^ 24) && decide (leAt l 0x10 2 ≤ 96)

/-- The image key: of the boot ROM, or the customer key whose digest OTP holds; none where OTP holds no digest (R237, log entry 2). -/
def State.imageKey (s : State) (customer : Bool) : Option (List Byte) :=
  if !customer then some Config.imageKey
  else
    let d := (List.range 4).flatMap (fun w => bytesLE 8 (s.get (F.KV_IMGKEY_DIGEST w)))
    if d.all (· == 0) then none else some (Config.customerKey d)

/-- Check 2: the signature over every byte before it (R237). -/
def State.signatureGood (s : State) (l : List Byte) : Bool :=
  match (imageSections l).find? (fun x => x.type == 0x000F), s.imageKey (leAt l 0x12 1 % 2 == 1) with
  | some x, some key => Config.verifySignature 4 key (l.take x.off) ((x.bytes l).take 64)
  | _, _ => false

/-- Check 4: the required sections are there, the signature last, no type but that of Floe graphs twice, and one graph per Floe used (R236). -/
def sectionsGood (i : Image) : Bool :=
  let types := (imageSections i.bytes).map Section.type
  let floes := i.graphs.map Graph.floe
  [0x0002, 0x0004, 0x000A, 0x000F].all types.contains && types.getLast? == some 0x000F &&
    types.all (fun t => t == 0x0005 || types.count t == 1) && types.count 0x0005 == floes.length && floes.all (fun f => floes.count f == 1)

/-- Insert a graph section by its Floe number. -/
def insertGraph (x : Nat × Section) : List (Nat × Section) → List (Nat × Section)
  | [] => [x]
  | y :: l => if x.1 < y.1 then x :: y :: l else y :: insertGraph x l

/-- Check 5: the certificate's digest of the Floe graph sections in Floe order and the distribution (R238). -/
def digestGood (i : Image) : Bool :=
  let xs := imageSections i.bytes
  let floes := ((i.graphs.map Graph.floe).zip (xs.filter (fun x => x.type == 0x0005))).foldr insertGraph []
  let dist := (xs.filter (fun x => x.type == 0x0006)).flatMap (fun x => x.bytes i.bytes)
  match xs.find? (fun x => x.type == 0x000A) with
  | some c => (c.bytes i.bytes).take 32 == sha256 (floes.flatMap (fun x => x.2.bytes i.bytes) ++ dist)
  | none => false

/-- Check 6: at most 16,384 ranks of 16 bits, one for each channel of the graphs, and every cell's input channels rank below its output
channels (R238). -/
def ranksGood (i : Image) : Bool :=
  let chans := (i.graphs.flatMap Graph.chans).map ChanRec.id
  decide (i.ranks.length ≤ 16384) && i.ranks.all (fun r => decide (r < 2 ^ 16)) && chans.all (fun c => decide (c < i.ranks.length)) && i.graphs.all (fun g => g.cells.all (fun c => c.inputs.all (fun a => c.outputs.all (fun b =>
    match i.ranks[a]?, i.ranks[b]? with
    | some x, some y => decide (x < y)
    | _, _ => false))))

/-- Two Floes are mesh neighbours (R225). -/
def meshNeighbours (a b : Nat) : Bool :=
  let d (x y : Nat) : Nat := (x - y) + (y - x)
  decide (a < 48) && decide (b < 48) && d (a / 8) (b / 8) + d (a % 8) (b % 8) == 1

/-- A route goes from neighbour to neighbour. -/
def routeGood : List Nat → Bool
  | a :: b :: l => meshNeighbours a b && routeGood (b :: l)
  | [a] => decide (a < 48)
  | [] => false

/-- The cell calls a crypto port of its Floe. -/
def CellOp.cxPort : CellOp → Option Nat
  | .crypto p .. => some p
  | _ => none

/-- Check 7: cells, crypto ports, SRAM and routes, and the buffer size (R225; that a size outside 256 to 2,048 bytes is rejected here is a DESIGN
CHOICE, log entry 7). -/
def resourcesGood (i : Image) : Bool :=
  decide (256 ≤ i.bufSize) && decide (i.bufSize ≤ 2048) && i.graphs.all (fun g => decide (g.floe < 48) && decide (g.cells.length ≤ 64) && decide (g.sram ≤ 0x40000) &&
    (g.cells.filterMap (fun c => c.op.cxPort)).all (fun p => decide (p < 2)) && g.chans.all (fun c => routeGood c.route))

/-- Check 8: MODE, FEC and TRAIN of lane n form a combination of R190. -/
def laneGood (n : Nat) (c : Nat × Nat × Nat) : Bool :=
  match c with
  | (1, fec, train) => decide (fec ≤ 1) && decide (train ≤ 1)
  | (2, fec, train) => n != 5 && decide (fec ≤ 2) && decide (train ≤ 1)
  | (3, fec, train) => n == 5 && fec == 0 && train == 0
  | _ => false

/-- Registers that take an image value at every load, by chapter (R240). -/
def everyLoad : List RegForm :=
  [F.R_LN_LANE_CFG, F.R_LN_LANE_EQ, F.R_MAC_PORT_CFG, F.R_MAC_PORT_ADDR, F.R_AP_CFG, F.R_DF_CFG, F.R_DF_DIST, F.R_CX_HOLD_MAX, F.R_PT_CFG,
   F.R_PT_CLOCK_ID, F.R_PT_UNI_CFG, F.R_PT_BURSIS_CFG, F.R_PT_SPP, F.R_PT_CLASS, F.R_PT_CLASSMAP_ADDR_HI, F.R_PT_CLASSMAP_ADDR_LO,
   F.R_PT_CLASSMAP_CTL, F.R_PT_PORT_PTP, F.R_PT_PORT_SVC, F.R_PT_PORT_CLIENT, F.R_PT_PORT_ASYM, F.R_PT_PORT_UPSTREAM_HI, F.R_PT_PORT_UPSTREAM_LO,
   F.R_PT_PORT_ESMC]

/-- Registers that take an image value at the first load after a chip reset or main power-up, by chapter (R240). -/
def firstLoads : List RegForm :=
  [F.R_TB_SRC_CFG, F.R_IE_CAL_CFG, F.R_RS_CFG, F.R_RS_TYPE_BW, F.R_RS_REF_CFG, F.R_RS_REF_BW, F.R_RS_REF_LIM, F.R_RS_REF_QUAL, F.R_TK_CTL, F.R_TK_SLEW_MAX,
   F.R_TK_STEP_THRESH, F.R_TK_MAN_FREQ, F.R_GN_CFG, F.R_GN_FE_A_CFG, F.R_GN_FE_B_CFG, F.R_GN_FE_SPI, F.R_GN_SOL_CFG, F.R_GN_POS_CFG, F.R_GN_CAL_A, F.R_GN_CAL_B,
   F.R_GN_SPOOF, F.R_GN_FLAKE] ++
  [F.R_MB_CFG, F.R_MB_ALLOW_CFG, F.R_MB_PORT_UNC, F.R_MB_PORT_UNC_HI, F.R_MB_OSC, F.R_MB_MAP, F.R_MB_REF_CAL, F.R_OS_CFG, F.R_OS_OM_CFG,
   F.R_OS_OM_LOCKTIME, F.R_OS_OM_BAND, F.R_OS_CLK_CFG, F.R_OS_CLK_DLY, F.R_OS_PPS_CFG, F.R_OS_PPS_OFS, F.R_OS_TOD_CFG, F.R_RD_CFG, F.R_RD_RIME_CFG,
   F.R_RD_RIME_TOL, F.R_RD_MATE_CFG, F.R_RD_MATE_ADDR, F.R_RD_MATE_ASYM, F.R_GL_LOCK_MAX, F.R_GL_SCRUB_RATE, F.R_EC_REPAIR_CFG, F.R_PM_CFG,
   F.R_PM_NEVE_CFG, F.R_SY_WDOG]

/-- The offset names a register of one of these forms. -/
def inForms (l : List RegForm) (off : Nat) : Bool := l.any (fun r => (r.index off).isSome)

/-- CFG, IN and NOM of CH0 to CH11 take image values; those of CH12 to CH31 take none (chapter 4). -/
def channelPreset (off : Nat) : Bool :=
  inForms [{ F.R_IE_CH_CFG with n1 := 12 }, { F.R_IE_CH_IN with n1 := 12 }, { F.R_IE_CH_NOM with n1 := 12 }] off

/-- The offset is of a register that takes an image value at the first load only. -/
def firstOnly (off : Nat) : Bool := inForms firstLoads off || channelPreset off

/-- Check 11: partitions that overlap or lie beyond 8 GiB or in the system area, sizes that are no multiple of 1 MiB, or no 1 GiB journal
partition (R236, R304). -/
def partsGood (l : List PartRec) : Bool :=
  l.all (fun p => p.base % 2 ^ 20 == 0 && p.size % 2 ^ 20 == 0 && decide (0 < p.size) && decide (p.base + p.size ≤ 0x1FC000000) && decide (p.kind ≤ 2)) &&
    (l.zipIdx).all (fun p => (l.zipIdx).all (fun q =>
      p.2 == q.2 || decide (p.1.base + p.1.size ≤ q.1.base) || decide (q.1.base + q.1.size ≤ p.1.base))) &&
    l.any (fun p => p.kind == 1 && p.size == 2 ^ 30)

/-- Check 10: the TTL of the channels section, and one that a preset gives, lie in the range of DF_CFG (R227, R247). -/
def ttlGood (i : Image) : Bool :=
  let good (t : Nat) : Bool := decide (100 ≤ t) && decide (t ≤ 8000)
  i.ttl.all good && i.presets.all (fun p => p.1 != F.DF_CFG_TTL.off || good (p.2 % 2 ^ F.DF_CFG_TTL.width))

/-- The reason for which the loader rejects an image; 0 where it accepts it (R239). -/
def State.imageFault (s : State) (i : Image) : Nat :=
  let l := i.bytes
  if !headerGood l then 1
  else if !s.signatureGood l then 2
  else if !(imageSections l).all (fun x => crc32c (x.bytes l) == x.crc) then 3
  else if !sectionsGood i then 4
  else if !digestGood i then 5
  else if !ranksGood i then 6
  else if !resourcesGood i then 7
  else if !((i.lanes.zipIdx).all (fun c => laneGood c.2 c.1) && i.lanes.length == 6) then 8
  else if !i.presets.all (fun p => inForms everyLoad p.1 || firstOnly p.1) then 9
  else if !ttlGood i then 10
  else if !partsGood i.parts then 11
  else 0

/-- Table-layout version and image version. -/
def Image.layout (i : Image) : Nat := leAt i.bytes 6 2
def Image.version (i : Image) : Nat := leAt i.bytes 8 4

/-! ## What a load writes (R240 to R242) -/

/-- Write the RW fields of a register that a preset gives; a frequency correction saturates (R27). -/
def State.putPreset (s : State) (off v : Nat) : State :=
  if off = F.TK_MAN_FREQ_FREQ.off then s.putI F.TK_MAN_FREQ_FREQ (freqSat (signedOf 64 (v % 2 ^ 64)))
  else s.forAll (fieldsAt off) (fun t f => t.when (f.acc == .rw) (·.put f (v / 2 ^ f.lo)))

/-- FEC latencies of a mode and FEC, transmit and receive, in fs (R191). -/
def fecLatency (mode fec : Nat) : Nat × Nat :=
  match mode, fec with
  | 1, 1 => (12800000, 204800000)
  | 2, 1 => (5120000, 81920000)
  | 2, 2 => (10240000, 250880000)
  | _, _ => (0, 0)

/-- The ports section's MODE, FEC and TRAIN of lane n; a change takes a lane that runs to DOWN
(R190, R203), and one of MODE or FEC clears CAL_OK (R220). Without training the taps in use are the static ones (R192). -/
def State.loadLane (s : State) (n : Nat) (c : Nat × Nat × Nat) : State :=
  let old := (s.get (F.LN_LANE_CFG_MODE n), s.get (F.LN_LANE_CFG_FEC n), s.get (F.LN_LANE_CFG_TRAIN n))
  let t := ((s.put (F.LN_LANE_CFG_MODE n) c.1).put (F.LN_LANE_CFG_FEC n) c.2.1).put (F.LN_LANE_CFG_TRAIN n) c.2.2
  let lat := fecLatency c.1 c.2.1
  let t := (t.put (F.LN_LANE_FEC_LAT_TX n) lat.1).put (F.LN_LANE_FEC_LAT_RX n) lat.2
  let t := t.when (old.1 != c.1 || old.2.1 != c.2.1) (·.put (F.AP_PORT_STAT_CAL_OK n) 0)
  let t := t.when (c.2.2 == 0) (·.useStatic n)
  t.when (old != c && t.laneState n != laneOff) (fun t => (t.enterDown n 6).applyLaneCfg n)

/-- DF_DIST from the distribution section (R236). -/
def State.loadDist (s : State) (l : List Nat) : State :=
  s.forAll (List.range (min 32 (l.length / 8))) (fun t r =>
    t.forAll (fieldsAt (F.DF_DIST_FLOE0 r).off) (fun t f => t.put f (l.getD (8 * r + f.lo / 8) 0)))

/-- DF_STAT and DF_FLOEf_STAT as the image leaves them. -/
def State.showFabric (s : State) (i : Image) : State :=
  let t := ((s.put F.DF_STAT_FLOES i.graphs.length).put F.DF_STAT_LAYOUT i.layout).put F.DF_STAT_IMG_VER i.version
  t.forAll (List.range 48) (fun t f =>
    let n := ((i.graphs.find? (fun g => g.floe == f)).map (fun g => g.cells.length)).getD 0
    ((t.put (F.DF_FLOE_STAT_CELLS f) n).put (F.DF_FLOE_STAT_IN_LEVEL f) 0).putB (F.DF_FLOE_STAT_EN f) (n != 0))

/-- The presets of a load: those of every load, and those of the first load only at it. RS_REFn_CFG loads its type's defaults, and the image's
limits stand over them, whatever their order (R93, R240). Of LN_LANEn_CFG every load sets MODE, FEC and TRAIN; the fields that software writes take
the image's value at the first load, where the lanes start (R203; DEDUCED, log entry 54). -/
def State.loadPresets (s : State) (i : Image) (first : Bool) : State :=
  let l := (i.macs ++ i.presets).filter (fun p => first || inForms everyLoad p.1)
  let cfg (off : Nat) : Bool := inForms [F.R_RS_REF_CFG] off
  let late (off : Nat) : Bool := inForms [F.R_RS_REF_LIM, F.R_RS_REF_QUAL] off
  let t := s.forAll (l.filter (fun p => !cfg p.1 && !late p.1 && (first || !inForms [F.R_LN_LANE_CFG] p.1))) (fun t p => t.putPreset p.1 p.2)
  let t := t.forAll (l.filter (fun p => cfg p.1)) (fun t p => t.writeRefCfg ((p.1 - 0x041000) / 0x100) (BitVec.ofNat 64 p.2))
  t.forAll (l.filter (fun p => late p.1)) (fun t p => t.putPreset p.1 p.2)

/-- Everything that an accepted image writes into registers. -/
def State.loadRegisters (s : State) (i : Image) (first : Bool) : State :=
  let t := s.loadPresets i first
  let t := t.forAll i.lanes.zipIdx (fun t c => t.loadLane c.2 c.1)
  let t := t.loadDist i.dist
  let t := match i.ttl with | some v => t.put F.DF_CFG_TTL v | none => t
  (t.showFabric i).forAll (List.range 6) State.showPort

/-- A partition of the new image keeps its contents (R242). -/
def keepsPart (old : Option Image) (new : Image) (p : PartRec) : Bool :=
  p.kind == 1 || (match old with | some o => o.layout == new.layout && o.parts.contains p | none => false)

/-- Clear a partition to its empty state. -/
def State.clearPart (s : State) (p : PartRec) : State :=
  { s with gl.cells := s.gl.cells.filter (fun (c : Nat × Nat) => decide (c.1 < p.base) || decide (p.base + p.size ≤ c.1)) }

/-- The session table is empty. -/
def State.noSessions (s : State) : State :=
  { s.put F.PT_SESS_COUNT 0 with pt.freed := [], pt.taken := 0, pt.ports := s.pt.ports.map (fun (q : PtPort) => { q with rate := 0 }) }

/-- Keep or clear the partitions of the image that has just become the running one (R242). -/
def State.settleParts (s : State) (old : Option Image) (i : Image) : State :=
  let gone := i.parts.filter (fun p => !keepsPart old i p)
  let t := s.forAll gone State.clearPart
  let t := if gone.any (fun p => p.id == i.sessions || p.id == i.index) then t.noSessions
    else t.put F.PT_SESS_COUNT (t.pt.taken - t.pt.freed.length)
  t.when (!gone.isEmpty && old.isSome) (fun t => t.event F.DF_EVT_INOVF 0x0724 0 (2 ^ 63 + gone.length % 256))

/-- Every token of the fabric is discarded and counted; calls in a lane complete with their output discarded (R241). -/
def State.discardTokens (s : State) : State :=
  let n := s.df.tokens.length
  let t := s.count F.DF_CNT_RELOAD_TOKENS n
  { t with df.tokens := [], df.cx := t.df.cx.filter (fun (r : CxReq) => r.lane.isSome),
           gl.locks := t.gl.locks.filter (fun l => match l.holder with | .cell .. => false | .repair .. => true) }

/-- Steps 2 to 4 of an image reload (R203, R213, R241): letter I reaches the fabric, calendars and MACs. The windows of
slots that measure through a MAC overlap it (R105). -/
def State.reload (s : State) (i : Image) : State :=
  let t := s.forAll (List.range 8) (fun t k => t.latchSmear k)
  let t := t.forAll (List.range 16) (fun t n => t.when (t.slotOfMac n) (·.spoilWindow n))
  let t := (t.reloadCalendars.event F.DF_EVT_RELOAD 0x0722 0 0).discardTokens
  let roles := (List.range 4).map (fun p => t.ptpRole p)
  let t := t.forAll (List.range 6) (fun t p => t.endPause p t.nowFs)
  let t := { t with wire.macs := List.replicate 6 {}, df.before := t.df.image, df.image := some i, df.sram := [] }
  let t := (t.resetFields .I (fun w => w == 0x0A) true).resetFields .I (fun w => decide (0x0B ≤ w) && decide (w ≤ 0x0E)) false
  let t := (t.settleParts t.df.before i).loadRegisters i false
  let t := t.forAll (List.range 4) (fun t p => t.leaveRole p (roles.getD p 0) (t.ptpRole p))
  (t.put F.DF_STAT_STATE 1).event F.DF_EVT_LOADED 0x0721 0 (i.layout + i.version * 2 ^ 32)

/-! ## The rest of a start (R242, R359 steps 4 to 8, R360) -/

/-- The band tables of a start: the refitted copy in Glacier memory where it can be read and is valid, else the image's band section (R176). -/
def State.fillBands (s : State) (i : Image) : State :=
  let q := s.readCopy bandCopy 256
  match q.2 with
  | some l => q.1.forAll l.zipIdx (fun t e => t.putWord (fieldsAt (F.OS_OM_BAND_MIN (e.2 / 64) (e.2 % 64)).off) e.1)
  | none => q.1.forAll i.bands (fun t e =>
      t.when (decide (e.1 < 4) && decide (e.2.1 < 64)) (·.putWord (fieldsAt (F.OS_OM_BAND_MIN e.1 e.2.1).off) e.2.2))

/-- The leap table of a start: the copy in Glacier memory, or the image's protocol constants at the first load after a main power-up and where the
copy is invalid (R273, R308). -/
def State.fillLeaps (s : State) (i : Image) : State :=
  let q := if s.df.coldLoad then (s, none) else s.readCopy leapCopy 64
  match q.2 with
  | some l => q.1.showLeaps l
  | none => (q.1.putLeaps (i.leaps.map (fun e => ⟨e.1, e.2, 0⟩))).copyLeaps

/-- The lanes leave reset into DOWN, and the outputs, the baseband and the calibrations begin (R40, R48, R82, R146, R174, R188). -/
def State.startUnits (s : State) : State :=
  let t := s.startOutputs.forAll (List.range 6) (fun t n => (t.put (F.LN_LANE_STAT_TXRST n) 1).applyLaneCfg n)
  let t := { t.queueAutoAll with rd.enAt := t.now }
  let t := t.when (t.on F.GN_FLAKE_EN) (·.enterFlake false)
  t.when (t.on F.GN_CFG_EN) (fun t => t.runScript.gnStart)

/-- Event 0x0106 of a start that found the battery domain reset: written once events are kept (R355, R394). -/
def State.tellBattery (s : State) : State :=
  if s.kv.batLost then { s with kv.batLost := false }.event F.PM_EVT_BAT_LOST 0x0106 0 0 else s

/-- The core resumes, the journal goes on and the keys are refilled (R359 step 6): from here on events are kept. -/
def State.startTime (s : State) (mainLost : Bool) : State :=
  let t := { s with quiet := false }.tellBattery
  let c := t.get F.SY_RST_CAUSE_CAUSE
  let t := if c = 0 ∨ c = 6 then t else t.event F.PM_EVT_CHIPRST 0x0120 0 (c + t.get F.SY_RST_CAUSE_RAIL * 256)
  let t := t.startFromCheckpoint
  let t := t.startJournal mainLost (t.on F.SY_RST_CAUSE_BAT_LOST)
  t.refillKeys.showKeys

/-- An accepted image continues the start to the Run state (R359 steps 4 to 8). -/
def State.startWith (s : State) (i : Image) (src : Nat) : State :=
  let mainLost := s.df.coldLoad
  let t := (s.loadRegisters i true).sourcesConfigured
  let t := t.event F.DF_EVT_LOADED 0x0721 0 (i.layout + i.version * 2 ^ 32)
  let t := { t with df.image := some i }.glWake
  let t := (t.settleParts t.df.before i).replaySoft.fillLeaps i
  let t := ((t.fillBands i).startTime mainLost).startUnits
  let t := ((t.put F.DF_STAT_STATE 1).put F.BT_STAT_STATE 3).put F.BT_STAT_IMG_SLOT src
  { t with df.firstLoad := false, df.coldLoad := false }

/-! ## Boot (R380 to R382) -/

/-- A copy of the boot directory, where its CRC holds: preferred firmware slot, preferred image slot, write count (R380). -/
def State.directory (s : State) (copy : Nat) : Option (Nat × Nat × Nat) :=
  let l := readBytes s.host.flash (copy * 0x1000) 16
  if leAt l 12 4 = crc32c (l.take 12) then some (leAt l 0 4 % 2, leAt l 4 4 % 2, leAt l 8 4) else none

/-- The directory in use, with its copy: the valid one with the greater write count (R380). -/
def State.bootDirectory (s : State) : Option (Nat × (Nat × Nat × Nat)) :=
  match s.directory 0, s.directory 1 with
  | some a, some b => if b.2.2 < a.2.2 then some (0, a) else some (1, b)
  | some a, none => some (0, a)
  | none, some b => some (1, b)
  | none, none => none

/-- Preferred slots: A where there is no valid directory. -/
def State.preferred (s : State) : Nat × Nat := match s.bootDirectory with | some (_, f, i, _) => (f, i) | none => (0, 0)

/-- A boot wait is entered (R381). -/
def State.bootWait (s : State) (st : Nat) : State := (s.put F.BT_STAT_STATE st).event F.BT_EVT_WAIT 0x0B12 0 0

/-- Tamper hold (R298). -/
def State.tamperHold (s : State) : State := ((s.put F.TP_STAT_HOLD 1).put F.BT_STAT_STATE 7).event F.TP_EVT_HOLD 0x0912 0 0

/-- The start goes on to the image load: from the preferred flash slot, or from the host (R380, R381). -/
def State.loadImage (s : State) : State :=
  if s.get F.BT_STAT_SRC = 1 then s.bootWait 5
  else { s.put F.BT_STAT_STATE 2 with df.loading := some s.preferred.2, host.second := false }

/-- Firmware runs: the rollback counter rises to its number (R380), and the start goes on unless a tamper is latched (R298). -/
def State.runFirmware (s : State) (f : Firmware) (slot : Nat) : State :=
  let t := ((s.put F.SY_FW_VER_VER f.version).put F.SY_FW_VER_SLOT (min 1 slot)).put F.BT_STAT_FW_SLOT (min 1 slot)
  let t := { t with host.rollback := max t.host.rollback f.rollback }
  if t.on F.TP_STAT_LATCH then t.tamperHold else t.loadImage

/-- A firmware object is accepted (R380). -/
def State.firmwareGood (s : State) (f : Option Firmware) : Option Firmware := f.filter (fun f => decide (s.host.rollback ≤ f.rollback))

/-- The boot ROM verifies the firmware of the preferred slot, then that of the other (R380, R381). -/
def State.bootFirmware (s : State) (b : Boot) : State :=
  if b.host then (s.put F.BT_STAT_SRC 1).bootWait 4
  else
    let s := (s.put F.BT_STAT_SRC 0).put F.BT_STAT_STATE 1
    let p := s.preferred.1
    let slot (k : Nat) : Option Firmware := s.firmwareGood (if k = 0 then b.fwA else b.fwB)
    match slot p, slot (1 - p) with
    | some f, _ => s.runFirmware f p
    | none, some f => ((s.put F.BT_STAT_FW_FALLBACK 1).event F.BT_EVT_FALLBACK 0x0B10 0 ((1 - p) * 2)).runFirmware f (1 - p)
    | none, none => s.bootWait 4

/-- Steps 1 to 3 of a start (R298, R359): the tamper latch, the root, the firmware. -/
def State.bootRom (s : State) (b : Boot) : State := (if s.on F.TP_STAT_LATCH then s else s.regenerate b.puf).bootFirmware b

/-- An image is rejected at a start: the other flash slot follows, then the wait (R239, R381). -/
def State.imageRejected (s : State) (reason src : Nat) : State :=
  let t := { s.event F.DF_EVT_REJECT 0x0720 0 reason with df.loading := none }
  if t.get F.BT_STAT_STATE = 6 then t.put F.BT_STAT_STATE 3
  else if src < 2 ∧ !s.host.second then
    { (t.put F.BT_STAT_IMG_FALLBACK 1).event F.BT_EVT_FALLBACK 0x0B10 0 (1 + (1 - src) * 2) with
      df.loading := some (1 - src), host.second := true }
  else (t.put F.BT_STAT_IMG_FALLBACK 0).bootWait 5

/-- IMAGE_CHECK_COMPLETE (R239 to R242, R381): the staged image is checked, and rejected or accepted. -/
def execImageCheckComplete (img : Image) (s : State) : Host.Outcome State Fault Refusal :=
  running s fun s =>
    match s.df.loading, s.host.fetch with
    | some src, none =>
      let reason := s.imageFault img
      if reason ≠ 0 then s.imageRejected reason src
      else
        let t := { s with df.loading := none }
        if t.get F.BT_STAT_STATE = 6 then
          ((t.reload img).put F.BT_STAT_STATE 3).put F.BT_STAT_IMG_SLOT src |>.put F.BT_STAT_IMG_FALLBACK 0
        else if t.on F.TP_STAT_LATCH then t.tamperHold
        else t.startWith img src
    | _, _ => s

/-- Why a reload is refused (R382); 0 where it is not. -/
def State.reloadReason (s : State) (src kind : Nat) : Nat :=
  let st := s.get F.BT_STAT_STATE
  if st = 0 ∨ st = 1 ∨ st = 2 ∨ st = 6 ∨ (st = 4 ∧ kind = 0) ∨ s.host.fetch.isSome then 1
  else if s.on F.TP_STAT_HOLD then 2
  else if s.on F.RD_STAT_SW ∨ s.on F.RD_STAT_ORPHAN then 3
  else if s.get F.PM_STAT_STATE = 1 then 4
  else if (kind = 1 ∧ st ≠ 4) ∨ src = 3 ∨ (kind = 1 ∧ src ≠ 2) then 5
  else 0

/-- A write of BT_RELOAD (R381, R382). -/
def State.writeReload (s : State) (v : Word) : State :=
  if F.BT_RELOAD_GO.ofWord v = 0 then s
  else
    let src := F.BT_RELOAD_SRC.ofWord v
    let kind := F.BT_RELOAD_KIND.ofWord v
    let reason := s.reloadReason src kind
    if reason ≠ 0 then s.event F.BT_EVT_RELOAD_REJ 0x0B11 0 reason
    else if kind = 1 then { s with host.fetch := some 1 }
    else
      let t := { s with df.loading := some src, host.second := true, host.fetch := if src = 2 then some 0 else none }
      if s.get F.BT_STAT_STATE = 3 then t.put F.BT_STAT_STATE 6
      else if src = 2 then t else t.put F.BT_STAT_STATE 2

/-- IMAGE_RELOAD_REQUEST (R382). -/
def execImageReloadRequest (path : Path) (v : Word) (s : State) : Host.Outcome State Fault Refusal :=
  running s fun s => s.hostWrite path F.BT_RELOAD_GO.off (·.writeReload v)

/-- BT_LOAD_FIRMWARE (R381): the write with KIND = 1. -/
def execBtLoadFirmware (path : Path) (v : Word) (s : State) : Host.Outcome State Fault Refusal :=
  running s fun s => s.hostWrite path F.BT_RELOAD_GO.off (·.writeReload (v ||| 4))

/-- HOST_FETCH_COMPLETE (R381): the object is there; firmware with its verification. -/
def execHostFetchComplete (fw : Option Firmware) (s : State) : Host.Outcome State Fault Refusal :=
  running s fun s =>
    match s.host.fetch with
    | none => s
    | some 0 =>
      let t := { s with host.fetch := none }
      t.when (t.get F.BT_STAT_STATE == 5) (·.put F.BT_STAT_STATE 2)
    | some _ =>
      let t := { s with host.fetch := none }
      match t.firmwareGood fw with
      | some f => t.runFirmware f 2
      | none => t

/-- A fetch from the host buffer aborts: a boot wait stays, and a reload ends with the running image kept (R367, R381, R383). -/
def State.abortFetch (s : State) : State :=
  if s.host.fetch.isNone then s
  else
    let t := { s with host.fetch := none, df.loading := none }
    t.when (t.get F.BT_STAT_STATE == 6) (·.put F.BT_STAT_STATE 3)

end Sys2Proof.Machine
end

