-- ==== Sys2Proof/Machine/Power.lean ====
section
/-! DEFINITION. Rails, dip episodes, operating states and resets (R345 to R364), with tamper sampling, the secure clear and the SRAM scrubber. -/
namespace Sys2Proof.Machine

/-! ## Rails and dip episodes (R345 to R350) -/

/-- Rail r is, or is not, above its warning level. -/
def State.putRail (s : State) (r : Nat) (ok : Bool) : State :=
  let m := s.get F.PM_STAT_RAIL_OK
  let bit := m / 2 ^ r % 2
  s.put F.PM_STAT_RAIL_OK (if ok then m + (1 - bit) * 2 ^ r else m - bit * 2 ^ r)

/-- RAIL_BELOW_WARNING (R349): a main rail falls below its warning level, for ns nanoseconds so far. A dip of 200 ns or less has ended; during an
episode every one belongs to it. -/
def execRailBelowWarning (rail : Fin 11) (ns : Nat) (s : State) : Host.Outcome State Fault Refusal :=
  running s fun s =>
    let t := s.putRail rail (ns ≤ 200)
    if s.on F.PM_STAT_DIP then { t with pm.dipRails := t.pm.dipRails ||| 2 ^ rail.val, pm.lastLow := s.now } else t

/-- A dip spoils what other blocks measure: observation windows (R105), latency calibrations (R220), a migration's comparison (R56), the
engine (R79, R84). A requested migration that is already in its steps 1 to 3 goes on, its comparison of whole ticks alone, and is not forced
(DEDUCED, log entry 33). -/
def State.dipSpoils (s : State) : State :=
  let t := { s with
    rs.slots := s.rs.slots.map (fun (c : RsSlot) => { c with win := { c.win with noY := true, noD := true } })
    wire.ports := s.wire.ports.map (fun (p : ApPort) => { p with calSpoilt := true })
    tb.coarse := s.tb.coarse || s.tb.migStep == 3
    mb.owed := s.mb.owed ++ [Allowance.dip] }
  t.ieDipBegins

/-- DIP_START (R349, R350): the episode of a rail begins, with a checkpoint (R122), sealed in time or not (R125), and one dip allowance (R158). -/
def execDipStart (dip : Fin 11 × Bool) (s : State) : Host.Outcome State Fault Refusal :=
  running s fun s =>
    if s.on F.PM_STAT_DIP then s
    else
      let t := (s.putRail dip.1 false).put F.PM_STAT_DIP 1
      let t := { t with pm.dipAt := s.now, pm.lastLow := s.now, pm.dipRails := 2 ^ dip.1.val }
      ((t.event F.PM_EVT_DIP 0x0101 0 dip.1.val).dipSpoils).checkpoint dip.2

/-- DIP_END (R349): no rail has been low for 1 ms, and the episode ends; a migration that waited starts, and rejected calibrations are retried (R56, R84). -/
def execDipEnd (s : State) : Host.Outcome State Fault Refusal :=
  running s fun s =>
    if !s.on F.PM_STAT_DIP || decide (s.now < s.pm.lastLow + tuMs) then s
    else
      let us := (roundDiv (s.now - s.pm.dipAt : Nat) tuUs).toNat
      let t := (s.put F.PM_STAT_DIP 0).put F.PM_STAT_RAIL_OK (s.get F.PM_STAT_RAIL_OK ||| 0x7FF)
      let t := ((t.putSat F.PM_DIP_STAT_LAST us).count F.PM_DIP_STAT_COUNT 1).put F.PM_DIP_STAT_RAILS s.pm.dipRails
      let t := { t.putSat F.PM_DIP_MAX_MAX (max us (s.get F.PM_DIP_MAX_MAX)) with pm.dipTo := s.now }
      ((t.event F.PM_EVT_DIP_END 0x0102 0 (min us 0xFFFFFFFF * 2 ^ 32)).resumeWaitingMigration).retryCals

/-- VBAT_MEASURE (R348): the hourly reading in mV. -/
def execVbatMeasure (mv : BitVec 12) (s : State) : Host.Outcome State Fault Refusal :=
  running s fun s =>
    let low := decide (mv.toNat < 2200)
    let t := ((s.put F.PM_VBAT_MV mv.toNat).putB F.PM_STAT_VBAT_LOW low).putRail 11 !low
    t.when low (·.event F.PM_EVT_VBAT_LOW 0x0105 0 0)

/-- AGEING_COMPARE (R419, R420): the slowdown of each pair, LSB 0.01 %; skipped during a dip episode. -/
def execAgeingCompare (core tb : BitVec 16) (s : State) : Host.Outcome State Fault Refusal :=
  running s fun s =>
    if s.on F.PM_STAT_DIP then s
    else
      let lvl := s.get F.PM_AGE_WARN_LVL
      ((s.put F.PM_AGE_CORE core.toNat).put F.PM_AGE_TB tb.toNat).putB F.PM_AGE_WARN (decide (lvl ≤ core.toNat) || decide (lvl ≤ tb.toNat))

/-! ## What a reset or a state change reaches beside the registers (R357, R358) -/

/-- The wire, clock and processing blocks begin anew, and nothing waits in them. -/
def State.loseUnits (s : State) : State :=
  { s with latches := [], tick := 0, past := [], rates := [], mb := {}, ie := { gates := s.ie.gates }, tk := {}, rs := {}, wire := {}, pc := {}, os := {},
           tb := { warmPin := s.tb.warmPin, lockPin := s.tb.lockPin }, jl.queue := [], jl.dropPend := 0,
           rd := { itemFail := s.rd.itemFail, mateCopy := s.rd.mateCopy },
           kv := { helper := s.kv.helper, lcSealed := s.kv.lcSealed, firnOwed := s.kv.firnOwed, batLost := s.kv.batLost },
           host := { flash := s.host.flash, rollback := s.host.rollback }, pm := {} }

/-- What a chip reset or Névé loses: Glacier memory and what it holds stay (R317, R358). -/
def State.loseChip (s : State) : State :=
  let t := s.loseUnits
  { t with gl.back := [], gl.floePoison := [], gl.burning := [],
           gn := { ephs := s.gn.ephs, nav := s.gn.nav, badPairs := s.gn.badPairs },
           pt := { freed := s.pt.freed, taken := s.pt.taken, ports := s.pt.ports.map (fun (q : PtPort) => { rate := q.rate }) } }

/-- What main power loss loses: everything outside the Firn domain and OTP (R357). -/
def State.loseMain (s : State) : State :=
  let t := s.loseUnits
  { t with now := 0, quiet := true, gl := { fuse := s.gl.fuse, badSpares := s.gl.badSpares }, gn := { badPairs := s.gn.badPairs }, pt := {}, df := {} }

/-- Glacier memory is in self-refresh before a reset reaches its controllers' registers, and stays in it (R317). -/
def State.intoRefresh (s : State) : State := if s.get F.GL_STAT_STATE = 1 then s.glSleep else s

/-- Registers go by letter; GL_STAT shows self-refresh where the memory is in it (R317, R358). -/
def State.resetChip (s : State) (l : Letter) : State :=
  let g := s.get F.GL_STAT_STATE
  (s.resetFields l (fun _ => true) true).when (g == 2) (·.put F.GL_STAT_STATE 2)

/-- CHIP_RESET (R357): the reset takes effect with a cause and, for a brown-out, a rail. A brown-out waits for no repair (R317). -/
def State.chipReset (s : State) (cause rail : Nat) : State :=
  let s := if cause = 4 then { s with gl.locks := [] } else s
  let t := (s.intoRefresh.resetChip .C).loseChip
  { t with now := 0, quiet := true, power := .held, pm.cause := cause, pm.rail := rail,
           df := { before := s.df.image <|> s.df.before, coldLoad := s.df.coldLoad } }

/-- A running part, or one in Névé, takes a chip reset (R352). -/
def State.resettable (s : State) : Bool := s.power == .run || s.power == .neve

/-- BROWN_OUT (R351): a main rail other than VDDIO_B, VDD_DRAM and VPP_DRAM reaches its reset level. -/
def execBrownOut (rail : Fin 12) (s : State) : Host.Outcome State Fault Refusal :=
  running s fun s => s.when (!([7, 8, 10, 11] : List Nat).contains rail.val) (·.chipReset 4 rail)

/-- RESET_N_ASSERT (R357): RESET_N low for ns nanoseconds. Below 100 ns it is ignored; from 1 µs on it resets; what lies between is not said, and
a free value decides (log entry 1). -/
def execResetNAssert (ns : Nat) (s : State) : Host.Outcome State Fault Refusal :=
  always s fun s =>
    if ns < 100 ∨ !s.resettable then s
    else if 1000 ≤ ns then s.chipReset 1 0
    else s.takeFree (fun t w => t.when (w.getLsbD 0) (·.chipReset 1 0))

/-- A write of SY_CHIPRST (R364). -/
def State.writeChiprst (s : State) (v : Word) : State :=
  s.when (F.SY_CHIPRST_CONFIRM.ofWord v == 0x5AC3 && F.SY_CHIPRST_GO.ofWord v == 1) (·.chipReset 2 0)

/-- SY_CHIPRST_GO (R364). -/
def execSyChiprstGo (path : Path) (v : Word) (s : State) : Host.Outcome State Fault Refusal :=
  running s fun s => s.hostWrite path F.SY_CHIPRST_GO.off (·.writeChiprst v)

/-- WATCHDOG_EXPIRY (R357): the watchdog has not been serviced for TIMEOUT. -/
def execWatchdogExpiry (s : State) : Host.Outcome State Fault Refusal := running s fun s => s.when (s.on F.SY_WDOG_EN) (·.chipReset 3 0)

/-- The battery domain is lost (R355, R357): everything but OTP, with the Firn store and the chain of the journal. -/
def State.loseBattery (s : State) : State :=
  { s.resetFields .B (fun _ => true) true with firn := [], jl := {}, kv.batLost := true, kv.firnOwed := false }

/-- MAIN_POWER_LOSS (R351): with VBAT in mV at that moment; below 1.8 V the battery domain goes too. -/
def execMainPowerLoss (vbat : Nat) (s : State) : Host.Outcome State Fault Refusal :=
  always s fun s =>
    if s.power = .firn then s
    else
      let t := { (s.resetFields .M (fun _ => true) true).loseMain with power := .firn }
      if vbat < 1800 then t.loseBattery else t.put F.PM_STAT_ON_VBAT 1

/-- VBAT_LOSS (R355, R361): VBAT falls below 1.8 V; only with main power off is anything lost. -/
def execVbatLoss (s : State) : Host.Outcome State Fault Refusal := always s fun s => if s.power = .firn then s.loseBattery else s

/-! ## Starts (R347, R359, R360) -/

/-- Power-good, or the end of internal reset: XO runs, TM-A locks, the timebase and its warm-up timer start, the migration to PRI is owed, and the
cause is recorded (R40, R46, R48, R364). Whether events are kept is given (R394). -/
def State.powerGood (s : State) (cause rail : Nat) (quiet : Bool) : State :=
  let t := ((s.put F.SY_RST_CAUSE_CAUSE cause).put F.SY_RST_CAUSE_RAIL rail).putB F.SY_RST_CAUSE_BAT_LOST s.kv.batLost
  let t := ((t.put F.PM_STAT_RAIL_OK (if s.kv.batLost then 0x7FF else 0xFFF)).put F.PM_STAT_ON_VBAT 0).put F.TB_STAT_TMA_LOCK 1
  let tb : TbPart :=
    { running := [true, false, false], startMig := true, warmStart := s.tick, warmPin := s.tb.warmPin, lockPin := s.tb.lockPin }
  { t with power := .run, quiet := quiet, pm.startRtc := s.get F.PM_RTC_RTC, pm.cause := cause, pm.rail := rail, tb := tb }.updateLock.updateWarm

/-- A main power-up that finds the battery domain reset: a tamper where TP_CFG says so (R295, R355). -/
def State.batteryFound (s : State) : State := s.when (s.kv.batLost && s.on F.TP_CFG_VBAT_LOSS) (·.trip 128 1)

/-- A tamper that the battery domain latched in Firn (R297). -/
def State.firnTamper (s : State) : State :=
  if s.kv.firnOwed then { s.event F.TP_EVT_FIRN 0x0911 0 (s.get F.TP_TIME_RTC) with kv.firnOwed := false } else s

/-- Main power is off, or the part has never started. -/
def State.coldStart (s : State) : Bool := s.power == .firn || (s.power == .run && s.get F.BT_STAT_STATE == 0)

/-- MAIN_POWER_UP (R359): power-good starts the cold start-up sequence. -/
def execMainPowerUp (b : Boot) (s : State) : Host.Outcome State Fault Refusal :=
  always s fun s => s.when s.coldStart (fun s => (((s.powerGood 0 0 true).batteryFound.firnTamper).loadGnRecord).bootRom b)

/-- CHIP_RESET_START (R360): internal reset ends. -/
def execChipResetStart (b : Boot) (s : State) : Host.Outcome State Fault Refusal :=
  always s fun s => s.when (s.power == .held) (fun s => (s.powerGood s.pm.cause s.pm.rail true).bootRom b)

/-! ## Névé (R353, R354) -/

/-- The mate's WAKE woke the chip, which runs its own pass at once (R340 step 2). -/
def State.provePass (s : State) : State := s.when (s.on F.RD_MATE_CFG_EN) (·.startRime)

/-- Steps 4 to 8 of an exit: the retained configuration and image go on (R354). -/
def State.finishExit (s : State) (cause : Nat) : State :=
  let t := { s with pm.exiting := none }.glWake
  let t := (t.putWord (fieldsAt F.SY_FW_VER_VER.off) s.pm.kept.1).putWord (fieldsAt F.BT_STAT_SRC.off) s.pm.kept.2
  let t := match t.df.image with
    | none => t
    | some i =>
      let t := (((t.settleParts (some i) i).showFabric i).fillBands i).fillLeaps i
      t.forAll (List.range 6) (fun t n =>
        let lat := fecLatency (t.get (F.LN_LANE_CFG_MODE n)) (t.get (F.LN_LANE_CFG_FEC n))
        (((t.put (F.LN_LANE_FEC_LAT_TX n) lat.1).put (F.LN_LANE_FEC_LAT_RX n) lat.2).useStatic n).showPort n)
  let t := (t.startTime false).startUnits
  let t := ((t.put F.DF_STAT_STATE 1).put F.BT_STAT_STATE 3).put F.PM_STAT_STATE 0
  let t := { t.event F.PM_EVT_NEVE_EXIT 0x0111 0 cause with pins.wake := false }
  t.when (cause == 1) (fun t => (t.event (F.LN_LANE_EVT_WAKE 4) 0x0608 4 0).provePass)

/-- NEVE_EXIT (R354): a wake cause arrives. A latched tamper stops the exit in tamper hold (R297, R298); a retained firmware that fails its check
makes it a chip reset with cause 5. -/
def State.wake (s : State) (cause : Nat) (b : Boot) : State :=
  let kept := s.pm.kept
  let t := s.powerGood 6 0 false
  let t := { (t.put F.SY_RST_CAUSE_WAKE cause).put F.PM_STAT_STATE 2 with pins.wake := true, pm.exiting := some cause, pm.kept := kept }
  let t := if t.on F.TP_STAT_LATCH then t else t.regenerate b.puf
  if !b.retained then t.chipReset 5 0
  else if t.on F.TP_STAT_LATCH then
    (t.when (cause == 5) (fun t => t.event F.TP_EVT_TAMPER 0x0910 0 (t.get F.TP_STAT_SRC + t.get F.TP_STAT_WHEN * 256))).tamperHold
  else t.finishExit cause

/-- The waiting events enter the journal (R353 step 2). -/
def State.flushJournal (s : State) : State :=
  let t := if 0 < s.jl.dropPend then { s.writeOwn 0x0B22 (min s.jl.dropPend 0xFFFFFFFF) with jl.dropPend := 0 } else s
  { t with jl.queue := [] }.forAll t.jl.queue State.writeEntry

/-- Steps 2 to 5 of Névé entry (R353). -/
def State.fallAsleep (s : State) : State :=
  let t := (((s.writeGnRecord).checkpoint true).event F.PM_EVT_NEVE 0x0110 0 0).flushJournal
  let kept := (t.word (fieldsAt F.SY_FW_VER_VER.off), t.word (fieldsAt F.BT_STAT_SRC.off))
  let u := (t.zeroSlots.intoRefresh.resetChip .N).loseChip
  { u with power := .neve, pm.wakeOwed := t.pm.wakeOwed, pm.neveRtc := t.pm.neveRtc, pm.kept := kept,
           df := { image := t.df.image, before := t.df.before, firstLoad := t.df.firstLoad, coldLoad := t.df.coldLoad } }

/-- NEVE_ENTRY (R353): the calendars have drained. A deferred entry begins here; a wake cause that arrived during entry takes effect. -/
def execNeveEntry (b : Boot) (s : State) : Host.Outcome State Fault Refusal :=
  running s fun s =>
    let t := s.when (s.pm.neveWaits && !s.neveBlocked) (·.beginNeve)
    if t.get F.PM_STAT_STATE ≠ 1 ∨ !t.calendarsEmpty then t
    else
      let u := t.fallAsleep
      match u.pm.wakeOwed with
      | some c => u.wake c b
      | none => u

/-- A wake cause: it wakes a part in Névé, and is kept during entry (R354). -/
def State.wakeCause (s : State) (cause : Nat) (b : Boot) : State :=
  if s.power = .neve then s.wake cause b
  else if s.power = .run ∧ s.get F.PM_STAT_STATE = 1 then { s with pm.wakeOwed := some (s.pm.wakeOwed.getD cause) }
  else s

/-- SVC_CS_WAKE (R354). -/
def execSvcCsWake (b : Boot) (s : State) : Host.Outcome State Fault Refusal :=
  always s fun s => s.when (s.on F.PM_NEVE_CFG_WAKE_SVC) (·.wakeCause 2 b)

/-- WAKE_SEC RTC seconds have passed since Névé entry (R354, R363). -/
def State.rtcWakeDue (s : State) : Bool :=
  s.on F.PM_NEVE_CFG_WAKE_RTC && decide (s.pm.neveRtc + max 1 (s.get F.PM_NEVE_CFG_WAKE_SEC) * 32768 ≤ s.get F.PM_RTC_RTC)

/-- NEVE_RTC_WAKE (R354). -/
def execNeveRtcWake (b : Boot) (s : State) : Host.Outcome State Fault Refusal :=
  always s fun s => s.when s.rtcWakeDue (·.wakeCause 3 b)

/-- GPIO_WAKE (R354): a GPIO that the Fodra image assigns as a wake input. -/
def execGpioWake (gpio : Fin 16) (b : Boot) (s : State) : Host.Outcome State Fault Refusal :=
  always s fun s =>
    s.when (s.on F.PM_NEVE_CFG_WAKE_GPIO && (match s.df.image with | some i => i.wakeGpios.contains gpio.val | none => false)) (·.wakeCause 4 b)

/-- A frame matches the wake pattern of LN4 (R198). -/
def State.wakeMatch (s : State) (l : List Byte) : Bool :=
  let mask := s.get F.LN_WAKE_MASK_MASK
  let pat := (List.range 8).flatMap (fun w => bytesLE 8 (s.get (F.LN_WAKE_PAT_PAT w)))
  s.on (F.LN_LANE_CFG_WAKE_EN 4) && mask != 0 && decide (64 ≤ l.length) && fcsGood l &&
    (List.range 64).all (fun i => !mask.testBit i || l.getD i 0 == pat.getD i 0)

/-- WAKE_PATTERN_MATCH (R198): a frame, with its FCS, reaches LN4 in Névé or during entry. -/
def execWakePatternMatch (bytes : List Byte) (b : Boot) (s : State) : Host.Outcome State Fault Refusal :=
  always s fun s => s.when (s.wakeMatch bytes) (·.wakeCause 1 b)

/-! ## Tamper sampling and the secure clear (R295 to R298) -/

/-- Tamper inputs at their tamper level, as bits of TP_STAT.SRC. -/
def State.inputSources (s : State) (levels : BitVec 4) : Nat :=
  (List.range 4).foldl (fun a n => a + (if s.tamperLevel n (levels.getLsbD n) then 2 ^ n else 0)) 0

/-- TAMPER_SAMPLE (R295, R297): a sample of the battery domain at 4 Hz, in Névé with the voltage and temperature monitors, in Firn of the inputs
alone. VDD_CORE in mV, its fall in mV, the die temperature in °C. -/
def execTamperSample (levels : BitVec 4) (volt fall : Nat) (temp : Int) (b : Boot) (s : State) : Host.Outcome State Fault Refusal :=
  always s fun s =>
    let inputs := s.inputSources levels
    let mons := (if s.on F.TP_CFG_VMON && voltageTamper volt fall then 16 else 0) + (if s.on F.TP_CFG_TMON && tempTamper temp then 32 else 0)
    let src := match s.power with | .neve => inputs + mons | .firn => inputs | _ => 0
    if src = 0 then s
    else if s.on F.TP_STAT_LATCH then (s.put F.TP_STAT_SRC (s.get F.TP_STAT_SRC ||| src)).fileTamper
    else match s.power with
      | .neve => { s.latchTamper src 2 with pins.tamper := true }.wake 5 b
      | _ => { s.latchTamper src 3 with kv.firnOwed := true }

/-- Steps 1 to 5 of a secure clear (R298); after a Névé exit that stopped in hold, the exit goes on. -/
def State.secureClear (s : State) (puf : List (Option Nat)) : State :=
  let t := (((s.eraseRecord.put F.TP_STAT_LATCH 0).put F.TP_STAT_SRC 0).put F.TP_STAT_WHEN 0).put F.TP_STAT_HOLD 0
  let t := (t.fileTamper.regenerate puf).event F.TP_EVT_CLEAR 0x0913 0 0
  match t.pm.exiting with
  | some cause => t.finishExit cause
  | none => t.loadImage

/-- A write of TP_CLEAR that reaches the register (R298): it acts in tamper hold. -/
def State.writeTpClear (s : State) (path : Path) (v : Word) (puf : List (Option Nat)) : State :=
  if F.TP_CLEAR_CODE.ofWord v ≠ 0xC1EA then s.accessEvent path F.BT_EVT_REFUSED 0x0B04 F.TP_CLEAR_GO.off
  else s.when (F.TP_CLEAR_GO.ofWord v == 1 && s.on F.TP_STAT_HOLD) (·.secureClear puf)

/-- SECURE_CLEAR (R298, R299, R379). -/
def execSecureClear (path : Path) (v : Word) (puf : List (Option Nat)) (s : State) : Host.Outcome State Fault Refusal :=
  running s fun s => s.hostWrite path F.TP_CLEAR_GO.off (·.writeTpClear path v puf)

/-! ## The SRAM scrubber (R309, R311) -/

/-- Memory and offset of an uncorrectable byte as event 0x080B gives them. -/
def SramHit.place : SramHit → Nat × Nat
  | .floe f off => (0, f * 2 ^ 18 + off)
  | .mailbox fn => (1, fn.val)
  | .slot k => (2, k.val)
  | .core => (3, 0)
  | .firn off _ => (4, off)
  | .other mem off => (mem % 16, off)

/-- The consequence of an uncorrectable byte (R309). -/
def State.sramUncorrectable (s : State) (h : SramHit) : State :=
  let t := (s.count F.EC_SR_CNT_UNCORR 1).event F.EC_EVT_SR_UNCORR 0x080B 0 (h.place.1 + h.place.2 % 2 ^ 32 * 2 ^ 32)
  match h with
  | .floe f off => { t with gl.floePoison := (f * 2 ^ 18 + off) / 8 * 8 :: t.gl.floePoison.filter (· != (f * 2 ^ 18 + off) / 8 * 8) }
  | .mailbox fn => t.when (t.host.boxes.getD fn {}).doorbell (·.endBox fn 0x07 [])
  | .slot k => (t.slotEcc k).abortSlot k 0x07
  | .core => t.trigger 4
  | .firn off v => { t with firn := writeCell (off % 0x8000) v 0 t.firn }
  | .other _ _ => t

/-- SRAM_SCRUB_WALK (R311): a walk meets uncorrectable bytes, and corrects corr single errors. -/
def execSramScrubWalk (hits : List SramHit) (corr : Nat) (s : State) : Host.Outcome State Fault Refusal :=
  running s fun s => (s.count F.EC_SR_CNT_CORR corr).forAll hits State.sramUncorrectable

end Sys2Proof.Machine
end

