-- ==== Sys2Proof/Machine/Units.lean ====
section
/-! DEFINITION. Unit resets (R325, R358, R373). -/
namespace Sys2Proof.Machine

/-- Registers of a unit's window go by letter U, its hardware with them (R358). -/
def State.resetUnit (s : State) (win : Nat) : State := s.resetFields .U (· == win) true

/-- Why a unit reset is refused: the status of its interlock, 0 where it is permitted (R373). -/
def State.unitBlocked (s : State) (unit : Nat) : Nat :=
  let st (k : Nat) : Nat := s.get (F.TK_STAT_STATE k)
  let seq := [0, 1, 2, 6].contains (s.get F.BT_STAT_STATE) || s.df.loading.isSome || s.get F.RD_RIME_STAT_STATE != 0 || s.on F.EC_REPAIR_STAT_RUN
  match unit with
  | 0x01 => if (st 0 = 0 ∨ st 0 = 5) ∧ !s.on (F.TK_STAT_ACTIVE 0) then 0 else 0x08
  | 0x02 => if (st 1 = 0 ∨ st 1 = 5) ∧ !s.on (F.TK_STAT_ACTIVE 1) then 0 else 0x08
  | 0x03 => if s.on F.RD_STAT_SW || s.tk.step.isSome || s.tb.migStep == 4 then 0x01 else 0
  | 0x04 => if s.on F.RS_STAT_HOLD || st s.core == 4 then 0 else 0x08
  | 0x05 | 0x06 => if s.on F.RD_STAT_SW then 0x01 else 0
  | 0x08 => if (List.range 8).any (fun k => s.on (F.OS_CLK_STAT_RUN k)) || (List.range 4).any s.ppsRuns then 0x08 else 0
  | 0x0D | 0x0E => if seq then 0x01 else 0
  | _ => 0

/-- TKA or TKB (R325): the core is FAILED while its self-test runs. -/
def State.unitCore (s : State) (k : Nat) : State :=
  ((s.resetCore k).put (F.TK_STAT_STATE k) 5).showStandby

/-- The time synthesizer (R112, R158): reloaded from the agreed copy, with time word and frequency word kept. TK_TS_STAT goes by letter U. -/
def State.unitSynth (s : State) : State :=
  { ((s.put F.TK_TS_STAT_LS_ERR 0).put F.TK_TS_STAT_LS_FAIL 0).put F.TK_TS_STAT_HELD 0 with mb.owed := s.mb.owed ++ [Allowance.lockstep], tk.lsTimes := [] }

/-- The interval engine (R82): every channel uncalibrated, its enabled automatic channels queued; port stamps are not VALID meanwhile. -/
def State.unitIe (s : State) : State :=
  let t := s.resetUnit 0x03
  ({ t with ie := { gates := s.ie.gates }, wire.ports := t.wire.ports.map (fun (p : ApPort) => { p with edges := [], marks := 0 }) }).queueAutoAll

/-- The reference selector: every slot passes through OFF to ABSENT, and no reference is active (R115). -/
def State.unitRs (s : State) : State :=
  let t := s.forAll (List.range 16) (fun t n => t.enterSlot n 0 0)
  let t := { t.resetUnit 0x04 with rs := { choice := s.rs.choice } }
  (t.forAll (List.range 16) (fun t n => t.when (t.slotOn n) (·.enterSlot n 1 0))).put F.RS_STAT_HOLD 1

/-- Moraine: terms and P0 reset, unbounded, with the attestation sequence of the last checkpoint (R170); a bound or a state that this changes is
recorded (R168, R172). -/
def State.unitMb (s : State) : State :=
  let seq := match s.newestCheckpoint with | some (_, b) => at8 b 0x140 | none => 0
  let t := { s.resetUnit 0x06 with mb := { attSeq := seq } }
  let t := ((t.loadP0 unbounded t.point).put F.MB_STAT_UNB 1).put F.MB_STAT_STATE 2
  let t := t.when (!s.on F.MB_STAT_UNB) (·.event F.MB_EVT_UNB 0x0411 0 0)
  t.when (!s.on F.MB_STAT_UNB || s.get F.MB_STAT_STATE != 2) (·.traceRecord)

/-- The baseband: its channels restart, with configuration and held position kept (R146). -/
def State.unitGn (s : State) : State :=
  let t := { s.resetUnit 0x08 with gn := { ephs := s.gn.ephs, nav := s.gn.nav, badPairs := s.gn.badPairs, flake := s.gn.flake, autoFlake := s.gn.autoFlake } }
  if s.gn.autoFlake && !s.on F.GN_FLAKE_EN then t.leaveFlake else t.when (t.on F.GN_CFG_EN) (·.gnStart)

/-- Output synthesis: OM status cleared; the lane synthesizer stays locked. -/
def State.unitOs (s : State) : State := { s.resetUnit 0x07 with os := {} }.put F.OS_SM_STAT_LOCK (s.get F.OS_SM_STAT_LOCK)

/-- Crypto lanes: operations in progress return ABORTED. -/
def State.unitCx (s : State) : State := (s.abortCx 0x09).resetUnit 0x0E

/-- Protocol tables: client exchanges restart; sessions, buckets and the leap table stay. -/
def State.unitPt (s : State) : State := (s.forAll (List.range 6) State.forgetUpstream).resetUnit 0x0D

/-- Performance counters (R402): selections, values, PC_OVF and bandwidth monitors. -/
def State.unitPc (s : State) : State := { s.resetUnit 0x14 with pc := {} }

/-- A supervisor core: a mailbox it holds returns ABORTED. -/
def State.unitSuper (s : State) (k : Nat) : State :=
  s.forAll (List.range 6) (fun t n => t.when ((t.host.boxes.getD n {}).doorbell && (t.host.boxes.getD n {}).core == k) (·.endBox n 0x09 []))

/-- The effect of a permitted unit reset. -/
def State.unitEffect (s : State) (unit : Nat) : State :=
  match unit with
  | 0x01 => s.unitCore 0
  | 0x02 => s.unitCore 1
  | 0x03 => s.unitSynth
  | 0x04 => s.unitIe
  | 0x05 => s.unitRs
  | 0x06 => s.unitMb
  | 0x07 => s.unitGn
  | 0x08 => s.unitOs
  | 0x09 => s.unitCx
  | 0x0A => s.unitPt
  | 0x0B => s.resetUnit 0x15
  | 0x0C => s.unitPc
  | 0x0D => s.unitSuper 0
  | _ => s.unitSuper 1

/-- A unit reset is requested (R364, R373): dropped while another runs, refused by its interlock, or begun. Other unit numbers are ignored. -/
def State.unitReset (s : State) (unit : Nat) : State :=
  if unit = 0 ∨ 0x0E < unit then s
  else if s.on F.SY_RST_STAT_UNIT_BUSY then s.event F.PM_EVT_URESET 0x0121 0 (unit + 256)
  else if s.unitBlocked unit ≠ 0 then s.unitDone unit (s.unitBlocked unit)
  else { (s.unitEffect unit).put F.SY_RST_STAT_UNIT_BUSY 1 with pm.unit := unit }

/-- A write of SY_URESET. -/
def State.writeUreset (s : State) (v : Word) : State := s.when (F.SY_URESET_GO.ofWord v == 1) (·.unitReset (F.SY_URESET_UNIT.ofWord v))

/-- A unit reset requested through a path by a write of SY_URESET with GO = 1. -/
def State.hostUnit (s : State) (path : Path) (unit : Nat) : State := s.hostWrite path F.SY_URESET_GO.off (·.unitReset unit)

/-- URESET_CORE (R373): unit 0x01 or 0x02. -/
def execUresetCore (path : Path) (k : Fin 2) (s : State) : Host.Outcome State Fault Refusal := running s (·.hostUnit path (k + 1))

/-- URESET_TIME_SYNTH (R373): unit 0x03. -/
def execUresetTimeSynth (path : Path) (s : State) : Host.Outcome State Fault Refusal := running s (·.hostUnit path 0x03)

/-- URESET_IE (R373): unit 0x04. -/
def execUresetIe (path : Path) (s : State) : Host.Outcome State Fault Refusal := running s (·.hostUnit path 0x04)

/-- URESET_RS (R373): unit 0x05. -/
def execUresetRs (path : Path) (s : State) : Host.Outcome State Fault Refusal := running s (·.hostUnit path 0x05)

/-- URESET_MB (R373): unit 0x06. -/
def execUresetMb (path : Path) (s : State) : Host.Outcome State Fault Refusal := running s (·.hostUnit path 0x06)

/-- URESET_GN (R373): unit 0x07. -/
def execUresetGn (path : Path) (s : State) : Host.Outcome State Fault Refusal := running s (·.hostUnit path 0x07)

/-- URESET_OS (R373): unit 0x08. -/
def execUresetOs (path : Path) (s : State) : Host.Outcome State Fault Refusal := running s (·.hostUnit path 0x08)

/-- URESET_CX (R373): unit 0x09. -/
def execUresetCx (path : Path) (s : State) : Host.Outcome State Fault Refusal := running s (·.hostUnit path 0x09)

/-- URESET_PT (R373): unit 0x0A. -/
def execUresetPt (path : Path) (s : State) : Host.Outcome State Fault Refusal := running s (·.hostUnit path 0x0A)

/-- URESET_JL (R373): unit 0x0B. -/
def execUresetJl (path : Path) (s : State) : Host.Outcome State Fault Refusal := running s (·.hostUnit path 0x0B)

/-- URESET_PC (R373): unit 0x0C. -/
def execUresetPc (path : Path) (s : State) : Host.Outcome State Fault Refusal := running s (·.hostUnit path 0x0C)

/-- URESET_SUPERVISOR (R373): unit 0x0D or 0x0E. -/
def execUresetSupervisor (path : Path) (k : Fin 2) (s : State) : Host.Outcome State Fault Refusal := running s (·.hostUnit path (0x0D + k))

/-- URESET_COMPLETE (R373). -/
def execUresetComplete (s : State) : Host.Outcome State Fault Refusal :=
  running s fun s => s.when (s.on F.SY_RST_STAT_UNIT_BUSY) (fun s => { s.put F.SY_RST_STAT_UNIT_BUSY 0 with pm.unit := 0 }.unitDone s.pm.unit 0)

end Sys2Proof.Machine
end

