-- ==== Sys2Proof/Machine/Access.lean ====
section
/-! DEFINITION. Reads and writes of any register by its offset: access codes, side effects, computed views (R3 to R5, R25, R74, R80, R368 to R370). -/
namespace Sys2Proof.Machine

/-- Which register of a form lies at an offset: its two indices. -/
def RegForm.place (r : RegForm) (off : Nat) : Option (Nat × Nat) :=
  match r.index off with
  | none => none
  | some _ =>
    let d := off - r.base
    let i := if r.s1 = 0 then 0 else d / r.s1
    let e := d - i * r.s1
    some (i, if r.s2 = 0 then 0 else e / r.s2)

/-- The shared TK registers answer at the same offsets from either base (chapter 6). -/
def canonical (off : Nat) : Nat := if 0x058000 ≤ off ∧ off < 0x058100 then off - 0x8000 else off

/-! ## Writes -/

/-- The lifecycle seal is past: RWL fields are read only (R5). It comes at PROVISION to FIELD alone; a part that retires from PROVISION has
never been sealed (R292). -/
def State.sealed (s : State) : Bool := s.kv.lcSealed

/-- A whole-register write reaches one field under its access code (R5). -/
def State.writeField (s : State) (v : Word) (f : Fld) : State :=
  match f.acc with
  | .rw => s.put f (f.ofWord v)
  | .w1c => s.put f (s.get f - (s.get f &&& f.ofWord v))
  | .rwl => if s.sealed then s else s.put f (f.ofWord v)
  | .ro | .wo | .rc => s

/-- A whole-register write to a register without effects of its own; after the seal one with RWL fields is refused (R5, R370). -/
def State.writePlain (s : State) (path : Path) (off : Nat) (v : Word) : State :=
  let fs := fieldsAt off
  let t := s.forAll fs (fun t f => t.writeField v f)
  t.when (s.sealed && fs.any (fun f => f.acc == .rwl)) (·.accessEvent path F.BT_EVT_REFUSED 0x0B04 off)

/-- Software writes of RATE and T0DAY are dropped while MODE = 0b10; values that software writes are not learned ones (R57). -/
def State.writeXoAge (s : State) (v : Word) : State :=
  let t := s.put F.TB_XO_AGE_MODE (F.TB_XO_AGE_MODE.ofWord v)
  if s.get F.TB_XO_AGE_MODE = 2 then t
  else ((t.put F.TB_XO_AGE_RATE (F.TB_XO_AGE_RATE.ofWord v)).put F.TB_XO_AGE_T0DAY (F.TB_XO_AGE_T0DAY.ofWord v)).put F.TB_XO_AGE_LEARNED 0

/-- FOFS likewise. -/
def State.writeXoFofs (s : State) (v : Word) : State :=
  if s.get F.TB_XO_AGE_MODE = 2 then s else (s.put F.TB_XO_FOFS_FOFS v.toNat).put F.TB_XO_AGE_LEARNED 0

/-- C and A_REF are dropped while TEMPCO_LEARN = 1 (R116). -/
def State.writeTempco (s : State) (v : Word) : State :=
  if s.on F.TK_CTL_TEMPCO_LEARN then s
  else ((s.put F.TK_TEMPCO_C (F.TK_TEMPCO_C.ofWord v)).put F.TK_TEMPCO_A_REF (F.TK_TEMPCO_A_REF.ofWord v)).put F.TK_TEMPCO_LEARNED 0

/-- EN of TB_THERM going to 1 starts the sampling afresh (R59). -/
def State.writeTherm (s : State) (v : Word) : State :=
  let t := (s.put F.TB_THERM_BIAS (F.TB_THERM_BIAS.ofWord v)).put F.TB_THERM_EN (F.TB_THERM_EN.ofWord v)
  t.when (!s.on F.TB_THERM_EN && t.on F.TB_THERM_EN) (·.restartTherm)

/-- A write of TK_MAN_FREQ: the correction saturates at ±200 ppm (R27). -/
def State.writeManFreq (s : State) (v : Word) : State := s.putI F.TK_MAN_FREQ_FREQ (freqSat v.toInt)

/-- A channel that becomes enabled stamps its first qualifying edge (R68), and no window of another gate is open (R75); registers of CH12 to CH31 are read only (R62). -/
def State.writeChCfg (s : State) (n : Nat) (path : Path) (v : Word) : State :=
  if 12 ≤ n then s
  else
    let t := s.writePlain path (F.IE_CH_CFG_EN n).off v
    let gate (s : State) : Nat × Nat × Nat := (s.get (F.IE_CH_CFG_GATE_SEL n), s.get (F.IE_CH_CFG_GATE_MODE n), s.get (F.IE_CH_CFG_GATE_POL n))
    let t := t.when (gate s != gate t) (·.setChan n (fun c => { c with gateOpen := false, gateTo := none, gateIgn := false }))
    t.when (!s.on (F.IE_CH_CFG_EN n) && t.on (F.IE_CH_CFG_EN n)) (·.setChan n (fun c =>
      { c with gateOpen := false, gateTo := none, skip := 0, accepted := none, last := none, start := none, winEdges := 0, winFirst := none, winLast := none }))

/-- An extra latency of a port changes its offsets at once (R221). -/
def State.writeExtra (s : State) (p : Nat) (path : Path) (off : Nat) (v : Word) : State := (s.writePlain path off v).showPort p

/-- A secure clear by a plain register write: what the root's regeneration finds is a free value (log entry 1). -/
def State.clearTamper (s : State) (path : Path) (v : Word) : State :=
  s.takeFree (fun t w => t.writeTpClear path v (if w.getLsbD 0 then [some (w.toNat / 2 % 65536)] else [none, none, none]))

/-- A write with effects of its own: what each such register does, by its form and indices. -/
def effects (path : Path) (off : Nat) (v : Word) : List (RegForm × (State → Nat → Nat → State)) :=
  [ (F.R_TB_SRC_CFG, fun s _ _ => (s.writePlain path off v).sourcesConfigured),
    (F.R_TB_SRC_REQ, fun s _ _ => s.writeTbSrcReq v),
    (F.R_TB_XO_AGE, fun s _ _ => s.writeXoAge v),
    (F.R_TB_XO_FOFS, fun s _ _ => s.writeXoFofs v),
    (F.R_TB_THERM, fun s _ _ => s.writeTherm v),
    (F.R_IE_CH_CFG, fun s n _ => s.writeChCfg n path v),
    (F.R_IE_CH_NOM, fun s n _ => if 12 ≤ n then s else s.writePlain path off v),
    (F.R_IE_ST_CFG, fun s m _ => s.writeStCfg m v),
    (F.R_IE_CAL_REQ, fun s _ _ => s.writeCalReq v),
    (F.R_RS_SEL, fun s _ _ => s.writeRsSel v),
    (F.R_RS_REF_CFG, fun s n _ => s.writeRefCfg n v),
    (F.R_TK_CTL, fun s _ _ => s.writeTkCtl v),
    (F.R_TK_MAN_FREQ, fun s _ _ => s.writeManFreq v),
    (F.R_TK_MAN_PHASE, fun s _ _ => s.writeManPhase v),
    (F.R_TK_SET_SEC, fun s _ _ => s.writeSetSec v),
    (F.R_TK_SET_NSF, fun s _ _ => s.writeSetNsf v),
    (F.R_TK_TEMPCO, fun s _ _ => s.writeTempco v),
    (F.R_GN_CFG, fun s _ _ => s.writeGnCfg v),
    (F.R_GN_FE_SPI, fun s _ _ => s.writeGnSpi v),
    (F.R_GN_POS_CFG, fun s _ _ => s.writePosCfg v),
    (F.R_GN_POS_X, fun s _ _ => s.writePos 0 v),
    (F.R_GN_POS_Y, fun s _ _ => s.writePos 1 v),
    (F.R_GN_POS_Z, fun s _ _ => s.writePos 2 v),
    (F.R_GN_FLAKE, fun s _ _ => s.writeFlake v),
    (F.R_GN_SNAP_HADDR, fun s _ _ => s.writeSnapAddr v),
    (F.R_MB_REF_CAL, fun s n _ => s.writeRefCal n v),
    (F.R_OS_OM_CFG, fun s n _ => s.writeOmCfg n v),
    (F.R_OS_CLK_CFG, fun s k _ => s.writeClkCfg k v),
    (F.R_OS_CLK_DLY, fun s k _ => s.writeClkDly k v),
    (F.R_OS_PPS_CFG, fun s k _ => s.writePpsCfg k v) ] ++
  [ (F.R_LN_LANE_CFG, fun s n _ => s.writeLaneCfg n v),
    (F.R_LN_LANE_EQ, fun s n _ => s.writeLaneEq n v),
    (F.R_LN_LANE5_LPI, fun s _ _ => s.writeLpi v),
    (F.R_MAC_PORT_TX_EXTRA, fun s p _ => s.writeExtra p path off v),
    (F.R_MAC_PORT_RX_EXTRA, fun s p _ => s.writeExtra p path off v),
    (F.R_AP_CAL_REQ, fun s _ _ => s.writeApCalReq v),
    (F.R_PT_UNAUTH_ALLOWED, fun s _ _ => (s.writePlain path off v).showKeys),
    (F.R_PT_LEAP_WR, fun s _ _ => s.writeLeap v),
    (F.R_PT_CLASS, fun s k _ => (s.latchSmear k).writePlain path off v),
    (F.R_PT_PORT_PTP, fun s p _ => s.writePtp p v),
    (F.R_PT_PORT_ESMC, fun s _ _ => (s.writePlain path off v).esmcChanges),
    (F.R_KV_LC, fun s _ _ => s.writeKvLc v),
    (F.R_KV_OP, fun s _ _ => s.writeKvOp v),
    (F.R_TP_CLEAR, fun s _ _ => s.clearTamper path v),
    (F.R_GL_SCRUB_RATE, fun s _ _ => s.writeScrubRate v),
    (F.R_EC_FUSE_REQ, fun s _ _ => s.writeFuseReq v),
    (F.R_RD_SWITCH, fun s _ _ => s.writeRdSwitch v),
    (F.R_RD_RIME_REQ, fun s _ _ => s.writeRimeReq v),
    (F.R_RD_MATE_CFG, fun s _ _ => s.writeMateCfg v),
    (F.R_SY_URESET, fun s _ _ => s.writeUreset v),
    (F.R_SY_CHIPRST, fun s _ _ => s.writeChiprst v),
    (F.R_SY_NEVE, fun s _ _ => s.writeNeve v),
    (F.R_BT_RELOAD, fun s _ _ => s.writeReload v),
    (F.R_PC_SEL, fun s n _ => s.writePcSel n v),
    (F.R_PC_BW_CFG, fun s p _ => s.writeBwCfg p v) ]

/-- A whole-register write that has reached its block. -/
def State.writeReg (s : State) (path : Path) (off : Nat) (v : Word) : State :=
  let off := canonical off
  match (effects path off v).findSome? (fun e => (e.1.place off).map (fun ij => e.2 s ij.1 ij.2)) with
  | some t => t
  | none => s.writePlain path off v

/-- A write of a path: judged, dropped with event 0x0B03 unless it is one whole aligned register, else carried out (R3, R368, R370). -/
def State.accessWrite (s : State) (path : Path) (off width : Nat) (v : Word) : State :=
  s.hostWrite path off (fun s =>
    if width = 8 ∧ off % 8 = 0 then s.writeReg path off v else s.accessEvent path F.BT_EVT_NARROW 0x0B03 off)

/-- REGISTER_WRITE (R5). -/
def execRegisterWrite (path : Path) (off : BitVec 25) (width : BitVec 4) (v : Word) (s : State) : Host.Outcome State Fault Refusal :=
  running s (·.accessWrite path off.toNat width.toNat v)

/-! ## Reads -/

/-- Minutes since the calibration of a channel (R85). -/
def State.calAge (s : State) (n : Nat) : Nat :=
  if (s.chan n).unc.isNone then 0xFFFF else min 0xFFFF ((s.now - (s.chan n).calTime) / (60 * tuSec))

/-- IE_CHn_CFG of a channel that a block owns, as it reads (R62). -/
def State.showOwned (s : State) (n : Nat) : State :=
  if n < 12 then s
  else (((s.putB (F.IE_CH_CFG_EN n) (s.chanEnabled n)).put (F.IE_CH_CFG_MODE n) (s.chMode n)).put (F.IE_CH_CFG_PRESCALE n) (s.chPrescale n)).put (F.IE_CH_CFG_CORR n) 1

/-- Quanta left of a pause interval, a part of one counted whole (R201). -/
def State.pauseLeft (s : State) (p : Nat) : Nat :=
  match (s.wire.macs.getD p {}).pauseTo with
  | none => 0
  | some e => (e - s.nowFs + s.quantum p - 1) / s.quantum p

/-- Fields that report a present condition which other state holds, written into a copy of the state that only the read sees. -/
def State.shown (s : State) (off : Nat) : State :=
  let views : List (RegForm × (Nat → State)) :=
    [ (F.R_TB_STAT, fun _ => s.put F.TB_STAT_WARM_ELAPSED s.warmElapsed),
      (F.R_IE_CH_CFG, fun n => s.showOwned n),
      (F.R_IE_CH_NOM, fun n => s.put (F.IE_CH_NOM_NOM n) (s.chNom n)),
      (F.R_IE_CH_STAT, fun n => s.put (F.IE_CH_STAT_LEVEL n) (s.chan n).buf.length),
      (F.R_IE_CH_UNC, fun n => s.put (F.IE_CH_UNC_AGE n) (s.calAge n)),
      (F.R_TK_TS_SEC, fun _ => s.put F.TK_TS_SEC_SEC s.sec),
      (F.R_TK_TS_NSF, fun _ => (s.put F.TK_TS_NSF_FRAC (nsfOf s.now)).put F.TK_TS_NSF_NS (nsfOf s.now / 2 ^ 32)),
      (F.R_MAC_PORT_STAT, fun p => (s.putB (F.MAC_PORT_STAT_PAUSED p) (s.pauseLeft p != 0)).put (F.MAC_PORT_STAT_PAUSE_LEFT p) (s.pauseLeft p)),
      (F.R_OS_PPS_STAT, fun k => s.putB (F.OS_PPS_STAT_RUN k) (s.ppsRuns k)),
      (F.R_PC_CNT, fun n => s.put (F.PC_CNT_PAIR n) (s.counterWord n / 2 ^ 32)) ]
  (views.findSome? (fun e => (e.1.place off).map (fun ij => e.2 ij.1))).getD s

/-- The word of a register: its fields but the write-only ones. -/
def State.readable (s : State) (off : Nat) : Nat := s.word ((fieldsAt off).filter (fun f => f.acc != .wo))

/-- Registers that the read of a register latches (R25, R80, R173). -/
def latchedBy (off : Nat) : List Nat :=
  if off = F.TK_TS_SEC_SEC.off then [F.TK_TS_NSF_NS.off]
  else if off = F.MB_PUB_SEC_SEC.off then [F.MB_PUB_NSF_NSF.off]
  else if off = F.MB_ATT_STAT_VALID.off then (List.range 20).map (fun w => (F.MB_ATT_DATA w).off)
  else match F.R_IE_ST_STAT.place off, F.R_IE_CH_RES_SEC.place off with
    | some (m, _), _ => (List.range 9).map (fun i => (F.IE_ST_MEAN_MEAN m).off + 8 * i)
    | none, some (n, _) => [(F.IE_CH_RES_NSF_NS n).off]
    | none, none => []

/-- A read clears the RC fields of its register (R5). -/
def State.clearRc (s : State) (off : Nat) : State := s.forAll ((fieldsAt off).filter (fun f => f.acc == .rc)) State.clear

/-- The Firn store as the FN window returns it: the vault record reads as 0 (R369). -/
def State.fnWord (s : State) (off : Nat) : Nat := if 0x6400 ≤ off ∧ off < 0x6800 then 0 else ofBytesLE (readBytes s.firn off 8)

/-- A whole-register read that has reached its block, with its side effects: the state after it, and the value. -/
def State.readReg (s : State) (path : Path) (off : Nat) : State × Nat :=
  let off := canonical off
  if 0x170000 ≤ off then (s, s.fnWord (off - 0x170000))
  else if path = .spi ∧ (F.R_KV_DATA.place off).isSome then (s, 0)
  else match s.latches.find? (fun e => e.1 == off) with
    | some e => ({ s with latches := dropCell off s.latches }, e.2)
    | none =>
      match F.R_IE_CH_RES_RAW.place off, F.R_JL_WIN.place off, F.R_JL_WSEAL.place off with
      | some (n, _), _, _ => let r := s.readResRaw n; (r.1, r.2.toNat)
      | _, some (w, _), _ => s.readWin path w
      | _, _, some (w, _) => s.readWseal path w
      | _, _, _ =>
        let v := (s.shown off).readable off
        let t := s.forAll (latchedBy off) (fun t a => t.latch a ((s.shown a).readable a))
        (t.clearRc off, v)

/-- Read consecutive registers, the lowest first. -/
def State.readRegs (s : State) (path : Path) (off : Nat) : Nat → State × List Byte
  | 0 => (s, [])
  | n + 1 =>
    let r := s.readReg path off
    let q := r.1.readRegs path (off + 8) n
    (q.1, bytesLE 8 r.2 ++ q.2)

/-- A read of a path: one whole register, or the addressed bytes of every register that holds one (R3). -/
def State.accessRead (s : State) (path : Path) (off width : Nat) : State :=
  s.hostRead path off (fun s =>
    if width = 8 ∧ off % 8 = 0 then
      let r := s.readReg path off
      r.1.emit (.readData off (BitVec.ofNat 64 r.2))
    else
      let r := s.readRegs path (off / 8 * 8) ((off % 8 + width + 7) / 8)
      r.1.emit (.readBytes off ((r.2.drop (off % 8)).take width)))

/-- RC_FIELD_READ (R5): a read of any register, with the effects of its access codes. -/
def execRcFieldRead (path : Path) (off : BitVec 25) (width : BitVec 4) (s : State) : Host.Outcome State Fault Refusal :=
  running s (·.accessRead path off.toNat width.toNat)

/-- TIME_WORD_SEC_READ (R25): a whole read of a SEC register. -/
def execTimeWordSecRead (path : Path) (off : BitVec 25) (s : State) : Host.Outcome State Fault Refusal := running s (·.accessRead path off.toNat 8)

/-- FOREIGN_ACCESS (R368): an access of a function to a block it does not own. -/
def execForeignAccess (path : Path) (off : BitVec 25) (write : Bool) (s : State) : Host.Outcome State Fault Refusal :=
  running s fun s => if write then s.hostWrite path off.toNat id else s.hostRead path off.toNat id

end Sys2Proof.Machine
end

