-- ==== Sys2Proof/Machine/Host.lean ====
section
/-! DEFINITION. Function-level reset, PERST_N, the link, mailboxes and SVC_SPI (R365 to R367, R371, R372, R374 to R379, R383). -/
namespace Sys2Proof.Machine

/-! ## The endpoint (R365, R367) -/

/-- Identity of function n: Vendor ID, Device ID, class code and Revision ID (R365). -/
def identity (n : Nat) : Nat × Nat × Nat × Nat := (0x1F3C, 0x9640 + n, if n = 5 then 0x1080 else 0x0880, 0xB0)

/-- The endpoint may train the link: PERST_N is released, and was at least 20 ms ago (R372). -/
def State.mayTrain (s : State) : Bool := !s.host.perst && decide (s.host.readyAt ≤ s.now)

/-- PCIE_LINK_CHANGE (R372, R384): event 0x0B01 at a change of the link. -/
def execPcieLinkChange (up : Bool) (s : State) : Host.Outcome State Fault Refusal :=
  running s fun s =>
    s.when (s.host.link != up && (!up || s.mayTrain)) (fun s =>
      { s with host.link := up }.event F.BT_EVT_LINK 0x0B01 0 (if up then 1 else 0))

/-- PCIE_COMPLETION_TIMEOUT (R367): the error is logged, event 0x0B05 is written, and a host-boot fetch of PF0 fails. -/
def execPcieCompletionTimeout (fn : Fin 6) (s : State) : Host.Outcome State Fault Refusal :=
  running s fun s =>
    let t := { s with host.aer := assign false fn true s.host.aer }.event F.BT_EVT_CTO 0x0B05 0 fn
    t.when (fn.val == 0) (·.abortFetch)

/-! ## The contents of the flash (R380) -/

/-- Firmware and image slots of the flash: first byte and size (R380). -/
def flashSlots : List (Nat × Nat) := [(0x0100000, 0x200000), (0x0300000, 0x200000), (0x1000000, 0x1000000), (0x2000000, 0x1000000)]

/-- Bytes of the smallest flash, 64 MiB (R380). -/
def flashSize : Nat := 0x4000000

/-- A range lies in one slot. -/
def inSlot (off n : Nat) (x : Nat × Nat) : Bool := decide (x.1 ≤ off) && decide (off + n ≤ x.1 + x.2)

/-- The range lies in one slot, and not in that of the running firmware (R376). -/
def State.flashOpen (s : State) (off n : Nat) : Bool :=
  flashSlots.any (inSlot off n) && !(s.get F.BT_STAT_SRC == 0 && inSlot off n (0x100000 + s.get F.BT_STAT_FW_SLOT * 0x200000, 0x200000))

/-- The boot directory with new preferences, written over the copy that is not in use (R380). -/
def State.writeDirectory (s : State) (fw img : Nat) : State :=
  let r := match s.bootDirectory with
    | some (c, _, _, n) => (1 - c, n + 1)
    | none => (0, 1)
  let l := bytesLE 4 fw ++ bytesLE 4 img ++ bytesLE 4 r.2
  { s with host.flash := writeBytes s.host.flash (r.1 * 0x1000) (l ++ bytesLE 4 (crc32c l)) }

/-! ## Mailboxes (R374 to R376) -/

/-- The mailbox of a function. -/
def State.box (s : State) (fn : Nat) : Mailbox := s.host.boxes.getD fn {}

/-- Replace the mailbox of a function. -/
def State.setBox (s : State) (fn : Nat) (b : Mailbox) : State := { s with host.boxes := assign {} fn b s.host.boxes }

/-- MAILBOX_DOORBELL (R375): the command is copied and DONE cleared; ignored while DOORBELL reads 1. -/
def execMailboxDoorbell (fn : Fin 6) (code tag len : BitVec 16) (payload : List Byte) (core : Fin 2) (s : State) :
    Host.Outcome State Fault Refusal :=
  running s fun s =>
    if s.host.perst || s.host.flr.getD fn.val false || (s.box fn).doorbell then s
    else
      s.setBox fn { s.box fn with
        doorbell := true, rungAt := s.now, code := code.toNat, tag := tag.toNat, len := len.toNat, payload := payload.take 2032, core := core, done := false,
        reply := none }

/-- The core takes a command of the code: the action runs and leaves its reply. Functions that the table does not name get 0x02 (R376). -/
def State.takeCommand (s : State) (fn code : Nat) (all : Bool) (f : State → Mailbox → State × (Nat × List Byte)) : State :=
  let b := s.box fn
  if b.doorbell = false ∨ b.code ≠ code ∨ b.reply ≠ none then s
  else if !all && fn != 0 then s.setBox fn { b with reply := some (0x02, []) }
  else
    let r := f s b
    r.1.setBox fn { b with reply := some r.2 }

/-- What INFO returns: SY_ID, SY_FW_VER and BT_STAT, each little-endian. -/
def State.info (s : State) : List Byte :=
  [F.SY_ID_VENDOR.off, F.SY_FW_VER_VER.off, F.BT_STAT_SRC.off].flatMap (fun o => bytesLE 8 (s.word (fieldsAt o)))

/-- FLASH_WRITE: the offset, then the data. -/
def State.flashWrite (s : State) (b : Mailbox) : State × (Nat × List Byte) :=
  let off := leAt b.payload 0 4
  let data := (b.payload.drop 4).take (b.len - 4)
  if b.len < 4 ∨ 2032 < b.len ∨ data.length ≠ b.len - 4 ∨ s.flashOpen off (b.len - 4) = false then (s, (0x03, []))
  else ({ s with host.flash := writeBytes s.host.flash off data }, (0x00, []))

/-- FLASH_READ: the offset, then the number of bytes; 2,040 where the command gives none. -/
def State.flashRead (s : State) (b : Mailbox) : State × (Nat × List Byte) :=
  let off := leAt b.payload 0 4
  let n := if 8 ≤ b.len then leAt b.payload 4 4 else 2040
  if b.len < 4 ∨ 2032 < b.len ∨ 2040 < n ∨ flashSize < off + n then (s, (0x03, []))
  else (s, (0x00, readBytes s.host.flash off n))

/-- Two bytes of arguments, each a kind or slot of 0 or 1. -/
def twoArgs (b : Mailbox) : Option (Nat × Nat) :=
  let x := leAt b.payload 0 1
  let y := leAt b.payload 1 1
  if b.len < 2 ∨ 2032 < b.len ∨ 1 < x ∨ 1 < y then none else some (x, y)

/-- VERIFY: kind and slot; what the check finds is given. -/
def State.verify (s : State) (b : Mailbox) (ok : Bool) : State × (Nat × List Byte) :=
  (s, (if (twoArgs b).isSome && ok then 0x00 else 0x03, []))

/-- SET_PREF: the preferred firmware and image slots. -/
def State.setPref (s : State) (b : Mailbox) : State × (Nat × List Byte) :=
  match twoArgs b with
  | none => (s, (0x03, []))
  | some (fw, img) => (s.writeDirectory fw img, (0x00, []))

/-- MB_CMD_INFO (R376). -/
def execMbCmdInfo (fn : Fin 6) (s : State) : Host.Outcome State Fault Refusal :=
  running s fun s => s.takeCommand fn 0x0001 true (fun s _ => (s, (0x00, s.info)))

/-- MB_CMD_FLASH_WRITE (R376). -/
def execMbCmdFlashWrite (fn : Fin 6) (s : State) : Host.Outcome State Fault Refusal :=
  running s fun s => s.takeCommand fn 0x0010 false State.flashWrite

/-- MB_CMD_FLASH_READ (R376). -/
def execMbCmdFlashRead (fn : Fin 6) (s : State) : Host.Outcome State Fault Refusal :=
  running s fun s => s.takeCommand fn 0x0011 false State.flashRead

/-- MB_CMD_VERIFY (R376). -/
def execMbCmdVerify (fn : Fin 6) (ok : Bool) (s : State) : Host.Outcome State Fault Refusal :=
  running s fun s => s.takeCommand fn 0x0012 false (fun s b => s.verify b ok)

/-- MB_CMD_SET_PREF (R376). -/
def execMbCmdSetPref (fn : Fin 6) (s : State) : Host.Outcome State Fault Refusal :=
  running s fun s => s.takeCommand fn 0x0013 false State.setPref

/-- A code of the table of R376. -/
def knownCode (c : Nat) : Bool := ([0x0001, 0x0010, 0x0011, 0x0012, 0x0013] : List Nat).contains c

/-- MAILBOX_RESPONSE (R375): the core's reply, or 0x03 for an unknown code, becomes the response. -/
def execMailboxResponse (fn : Fin 6) (s : State) : Host.Outcome State Fault Refusal :=
  running s fun s =>
    let b := s.box fn
    if b.doorbell = false then s
    else match b.reply with
      | some (status, l) => s.endBox fn status l
      | none => s.when (!knownCode b.code) (·.endBox fn 0x03 [])

/-! ## Function-level reset and PERST_N (R357, R371, R372, R383) -/

/-- Return every field of some registers to its reset value. -/
def State.clearRegs (s : State) (offs : List Nat) : State := s.forAll offs (fun t o => t.forAll (fieldsAt o) State.clear)

/-- Registers of the host queues (R278). -/
def queueRegs : List Nat :=
  (List.range 8).flatMap (fun q => [0, 8, 16, 24].flatMap (fun d => [0x0D2000 + 0x20 * q + d, 0x0D2200 + 0x20 * q + d]))

/-- A flash write under way completes before its mailbox goes (R383). -/
def State.finishFlash (s : State) : State :=
  let b := s.box 0
  s.when (b.doorbell && b.code == 0x0010 && b.reply.isNone) (fun s => (s.flashWrite b).1)

/-- The fetch of a host boot aborts; a reload goes on (R383). -/
def State.abortHostBoot (s : State) : State := s.when (s.get F.BT_STAT_STATE == 4 || s.get F.BT_STAT_STATE == 5) (·.abortFetch)

/-- Further state that a function-level reset of one function clears (R371). -/
def State.flrFurther (s : State) (fn : Nat) : State :=
  match fn with
  | 0 => (s.clearRegs [F.BT_HOST_ADDR_ADDR.off, F.BT_HOST_LEN_LEN.off]).abortHostBoot
  | 2 => { (s.clearRegs [F.GN_SNAP_HADDR_ARM.off]).clear F.GN_FE_SPI_DATA with
      gn.discard := s.gn.spi, gn.export_ := if s.gn.export_ = 2 then 1 else s.gn.export_ }
  | 3 => s.clearRegs queueRegs
  | 4 => { s.resetFields .F (fun w => w == 0x14) false with pc := {} }
  | 5 =>
    { s.clearRegs ([F.KV_OP_OP.off, F.KV_OP_ATTR_ATTR.off, F.KV_OP_STAT_STATUS.off] ++
        (List.range 128).map (fun w => (F.KV_DATA_DATA w).off)) with kv.op := none }
  | _ => s

/-- The state that a function-level reset clears: mailbox, MSI-X table and pending bits, and the further state (R371). -/
def State.flrClear (s : State) (fn : Nat) : State :=
  let t := s.when (fn == 0) State.finishFlash
  let t := { t.setBox fn {} with host.msixTable := assign [] fn [] t.host.msixTable, host.msixPending := assign 0 fn 0 t.host.msixPending }
  t.flrFurther fn

/-- FUNCTION_LEVEL_RESET (R371). -/
def execFunctionLevelReset (fn : Fin 6) (s : State) : Host.Outcome State Fault Refusal :=
  running s fun s => { s.flrClear fn with host.flr := assign false fn true s.host.flr }

/-- FUNCTION_LEVEL_RESET_COMPLETE (R371): event 0x0B06. -/
def execFunctionLevelResetComplete (fn : Fin 6) (s : State) : Host.Outcome State Fault Refusal :=
  running s fun s =>
    s.when (s.host.flr.getD fn.val false) (fun s =>
      { s with host.flr := assign false fn false s.host.flr }.event F.BT_EVT_FLR 0x0B06 0 fn)

/-- PERST_ASSERT (R357, R372). -/
def execPerstAssert (s : State) : Host.Outcome State Fault Refusal :=
  running s fun s =>
    let t := s.forAll (List.range 6) State.flrClear
    { t with host.perst := true, host.link := false, host.flr := List.replicate 6 false, host.aer := List.replicate 6 false }

/-- PERST_RELEASE (R372): event 0x0B07; the endpoint is ready for link training 20 ms later. -/
def execPerstRelease (s : State) : Host.Outcome State Fault Refusal :=
  running s fun s => s.when s.host.perst (fun s => { s with host.perst := false, host.readyAt := s.now + 20 * tuMs }.event F.BT_EVT_PERST 0x0B07 0 0)

/-! ## Service SPI (R378, R379) -/

/-- The 1.5 ms after power-good of a main power-up have passed, by the RTC of 32,768 Hz (R378). -/
def State.svcUp (s : State) : Bool :=
  s.get F.SY_RST_CAUSE_CAUSE != 0 || decide (3 * 32768 ≤ 2000 * (s.get F.PM_RTC_RTC - s.pm.startRtc))

/-- SVC_SPI answers: from 1.5 ms after power-good, and not during a Névé exit unless tamper hold has ended it (R378, R383). -/
def State.svcAnswers (s : State) : Bool := s.svcUp && (s.get F.PM_STAT_STATE != 2 || s.on F.TP_STAT_HOLD)

/-- An offset refuses the frame (R378). -/
def svcOffsetBad (off : Nat) : Bool := decide (0x1800000 ≤ off) || off % 8 != 0

/-- Records in STATUS how the last access ended (R378). -/
def State.svcEnded (s : State) (refused : Bool) : State := { s with host.svcRefused := refused }

/-- The words of a READ frame, each at offset + 8 from the one before. -/
def State.svcReads (s : State) (off : Nat) : Nat → State
  | 0 => s
  | n + 1 =>
    let t := if svcOffsetBad off then (s.emit (.readData off 0)).svcEnded true else (s.accessRead .spi off 8).svcEnded false
    t.svcReads (off + 8) n

/-- SVC_READ (R378, R379): a frame of n words. -/
def execSvcRead (off : BitVec 32) (n : Nat) (s : State) : Host.Outcome State Fault Refusal :=
  running s fun s => s.when s.svcAnswers (·.svcReads off.toNat n)

/-- A write through SVC_SPI reaches its register: served, and no field of it is sealed (R5, R379). -/
def State.svcTakes (s : State) (off : Nat) : Bool :=
  s.judge .spi off true == .served && !(s.sealed && (fieldsAt off).any (fun f => f.acc == .rwl))

/-- One word of a WRITE frame. -/
def State.svcWriteWord (s : State) (off : Nat) (v : Word) : State :=
  if svcOffsetBad off then { s with host.svcTaken := false, host.svcRefused := true }
  else
    let taken := s.svcTakes off
    { s.accessWrite .spi off 8 v with host.svcTaken := taken, host.svcRefused := !taken && s.judge .spi off true != .reserved }

/-- The words of a WRITE frame, each at offset + 8 from the one before. -/
def State.svcWrites (s : State) (off : Nat) : List Word → State
  | [] => s
  | v :: l => (s.svcWriteWord off v).svcWrites (off + 8) l

/-- SVC_WRITE (R378, R379): a frame whose data are no whole number of words, or none, is dropped. -/
def execSvcWrite (off : BitVec 32) (words : List Word) (tail : Fin 64) (s : State) : Host.Outcome State Fault Refusal :=
  running s fun s =>
    s.when s.svcAnswers (fun s =>
      if tail.val ≠ 0 ∨ words = [] then { s with host.svcTaken := false } else s.svcWrites off.toNat words)

/-- The STATUS byte (R378). -/
def State.svcByte (s : State) : Nat :=
  let st := s.get F.BT_STAT_STATE
  let b (x : Bool) (k : Nat) : Nat := if x then 2 ^ k else 0
  b s.host.svcTaken 0 + b s.host.svcRefused 1 + b (st == 0 || st == 1 || st == 4) 2 + b (s.on F.TP_STAT_HOLD) 3 + b (s.get F.PM_STAT_STATE == 2) 4

/-- SVC_STATUS (R378). -/
def execSvcStatus (s : State) : Host.Outcome State Fault Refusal :=
  running s fun s => s.when s.svcAnswers (fun s => s.emit (.readBytes 0 (bytesLE 1 s.svcByte)))

end Sys2Proof.Machine
end

