-- ==== Sys2Proof/Machine/Dispatch.lean ====
section
/-! DEFINITION. One arm per command: its meaning, called directly. -/
namespace Sys2Proof.Machine

/-- The effect of a command on everything but the queue. -/
def exec (i : Instr) (s : State) : Host.Outcome State Fault Refusal :=
  match i with
  | .registerWrite path off width v => Sys2Proof.Machine.execRegisterWrite path off width v s
  | .rcFieldRead path off width => Sys2Proof.Machine.execRcFieldRead path off width s
  | .foreignAccess path off write => Sys2Proof.Machine.execForeignAccess path off write s
  | .timeWordSecRead path off => Sys2Proof.Machine.execTimeWordSecRead path off s
  | .monitorWindowEnd xo ocxo atom rtc => Sys2Proof.Machine.execMonitorWindowEnd xo ocxo atom rtc s
  | .sourceMissingEdge src => Sys2Proof.Machine.execSourceMissingEdge src s
  | .atomLockChange level => Sys2Proof.Machine.execAtomLockChange level s
  | .ocxoWarmChange level => Sys2Proof.Machine.execOcxoWarmChange level s
  | .warmTimerExpiry => Sys2Proof.Machine.execWarmTimerExpiry s
  | .tbSrcReqGo path v => Sys2Proof.Machine.execTbSrcReqGo path v s
  | .shadowLockDetected => Sys2Proof.Machine.execShadowLockDetected s
  | .shadowLockTimeout => Sys2Proof.Machine.execShadowLockTimeout s
  | .migCompareEnd ratio newTicks oldTicks => Sys2Proof.Machine.execMigCompareEnd ratio newTicks oldTicks s
  | .oldMdllPowerOff => Sys2Proof.Machine.execOldMdllPowerOff s
  | .xoAgeLearn => Sys2Proof.Machine.execXoAgeLearn s
  | .thermSample microvolts => Sys2Proof.Machine.execThermSample microvolts s
  | .ieEdge ch rising back code => Sys2Proof.Machine.execIeEdge ch rising back code s
  | .intervalStartTimeout ch => Sys2Proof.Machine.execIntervalStartTimeout ch s
  | .gateTransition gate level => Sys2Proof.Machine.execGateTransition gate level s
  | .ieResRawRead path ch => Sys2Proof.Machine.execIeResRawRead path ch s
  | .ieStCfgWrite path m v => Sys2Proof.Machine.execIeStCfgWrite path m v s
  | .ieStStatRead path m => Sys2Proof.Machine.execIeStStatRead path m s
  | .ieCalReqGo path ch => Sys2Proof.Machine.execIeCalReqGo path ch s
  | .ieCalReqAll path ch => Sys2Proof.Machine.execIeCalReqAll path ch s
  | .calPeriodExpiry ch => Sys2Proof.Machine.execCalPeriodExpiry ch s
  | .calTempTrigger ch => Sys2Proof.Machine.execCalTempTrigger ch s
  | .calStart => Sys2Proof.Machine.execCalStart s
  | .calWaitTimeout => Sys2Proof.Machine.execCalWaitTimeout s
  | .calComplete distinct below known => Sys2Proof.Machine.execCalComplete distinct below known s
  | .calAgeStale ch => Sys2Proof.Machine.execCalAgeStale ch s
  | .refPresenceTimeout ch two => Sys2Proof.Machine.execRefPresenceTimeout ch two s
  | .rsWindowEnd n => Sys2Proof.Machine.execRsWindowEnd n s
  | .rsSelWrite path v => Sys2Proof.Machine.execRsSelWrite path v s
  | .rsRefCfgWrite path n v => Sys2Proof.Machine.execRsRefCfgWrite path n v s
  | .rsDisagreeCompare => Sys2Proof.Machine.execRsDisagreeCompare s
  | .tkUpdate => Sys2Proof.Machine.execTkUpdate s
  | .stepApply => Sys2Proof.Machine.execStepApply s
  | .updateMiss => Sys2Proof.Machine.execUpdateMiss s
  | .lockstepMismatch => Sys2Proof.Machine.execLockstepMismatch s
  | .tkModeWrite path v => Sys2Proof.Machine.execTkModeWrite path v s
  | .tkManPhaseWrite path v => Sys2Proof.Machine.execTkManPhaseWrite path v s
  | .tkSetNsfWrite path v => Sys2Proof.Machine.execTkSetNsfWrite path v s
  | .tkSetSecWrite path v => Sys2Proof.Machine.execTkSetSecWrite path v s
  | .tempcoRefit => Sys2Proof.Machine.execTempcoRefit s
  | .checkpointWrite sealed => Sys2Proof.Machine.execCheckpointWrite sealed s
  | .checkpointMiss => Sys2Proof.Machine.execCheckpointMiss s
  | .ckptPortRevoke => Sys2Proof.Machine.execCkptPortRevoke s
  | .gnRateCheck a b => Sys2Proof.Machine.execGnRateCheck a b s
  | .gnFeSpiTransfer path v => Sys2Proof.Machine.execGnFeSpiTransfer path v s
  | .gnFeSpiDone bits => Sys2Proof.Machine.execGnFeSpiDone bits s
  | .gnCfgWrite path v => Sys2Proof.Machine.execGnCfgWrite path v s
  | .gnFeScriptDone => Sys2Proof.Machine.execGnFeScriptDone s
  | .gnSolutionEpoch e => Sys2Proof.Machine.execGnSolutionEpoch e s
  | .gnPosAverage => Sys2Proof.Machine.execGnPosAverage s
  | .gnSolutionTimeout => Sys2Proof.Machine.execGnSolutionTimeout s
  | .gnChannelSearchTimeout p => Sys2Proof.Machine.execGnChannelSearchTimeout p s
  | .gnEvidenceExpiry which => Sys2Proof.Machine.execGnEvidenceExpiry which s
  | .gnJamDetect => Sys2Proof.Machine.execGnJamDetect s
  | .gnJamClear => Sys2Proof.Machine.execGnJamClear s
  | .gnFlakeWrite path v => Sys2Proof.Machine.execGnFlakeWrite path v s
  | .gnFlakeCaptureStart => Sys2Proof.Machine.execGnFlakeCaptureStart s
  | .gnCaptureEnd a b agcA agcB => Sys2Proof.Machine.execGnCaptureEnd a b agcA agcB s
  | .gnSnapshotSolved e => Sys2Proof.Machine.execGnSnapshotSolved e s
  | .gnSnapshotExported => Sys2Proof.Machine.execGnSnapshotExported s
  | .gnRecordWrite => Sys2Proof.Machine.execGnRecordWrite s
  | .gnPosWrite path axis v => Sys2Proof.Machine.execGnPosWrite path axis v s
  | .gnPosModeWrite path v => Sys2Proof.Machine.execGnPosModeWrite path v s
  | .gnLeapDataDecoded sys current future week day => Sys2Proof.Machine.execGnLeapDataDecoded sys current future week day s
  | .mbPublication => Sys2Proof.Machine.execMbPublication s
  | .publicationMiss => Sys2Proof.Machine.execPublicationMiss s
  | .staleReevaluate => Sys2Proof.Machine.execStaleReevaluate s
  | .staleMaxExpiry => Sys2Proof.Machine.execStaleMaxExpiry s
  | .attestationStart => Sys2Proof.Machine.execAttestationStart s
  | .attestationComplete ok => Sys2Proof.Machine.execAttestationComplete ok s
  | .mbAttStatRead path => Sys2Proof.Machine.execMbAttStatRead path s
  | .mbRefCalWrite path n v => Sys2Proof.Machine.execMbRefCalWrite path n v s
  | .smLockDeclared => Sys2Proof.Machine.execSmLockDeclared s
  | .omCfgWrite path n v => Sys2Proof.Machine.execOmCfgWrite path n v s
  | .omLockDeclared n => Sys2Proof.Machine.execOmLockDeclared n s
  | .clkCfgWrite path k v => Sys2Proof.Machine.execClkCfgWrite path k v s
  | .clkOutStart k => Sys2Proof.Machine.execClkOutStart k s
  | .clkOutStop k => Sys2Proof.Machine.execClkOutStop k s
  | .clkDlyWrite path k v => Sys2Proof.Machine.execClkDlyWrite path k v s
  | .ppsCfgWrite path k v => Sys2Proof.Machine.execPpsCfgWrite path k v s
  | .ppsPulse k => Sys2Proof.Machine.execPpsPulse k s
  | .ppsAlignMiss k => Sys2Proof.Machine.execPpsAlignMiss k s
  | .todOutSend => Sys2Proof.Machine.execTodOutSend s
  | .todInMessage l => Sys2Proof.Machine.execTodInMessage l s
  | .lnLaneCfgWrite path n v => Sys2Proof.Machine.execLnLaneCfgWrite path n v s
  | .lnSignalPresent n => Sys2Proof.Machine.execLnSignalPresent n s
  | .lnSignalLoss n => Sys2Proof.Machine.execLnSignalLoss n s
  | .lnSignalAbsentTimeout n => Sys2Proof.Machine.execLnSignalAbsentTimeout n s
  | .lnBlockLock n headers => Sys2Proof.Machine.execLnBlockLock n headers s
  | .lnBlockLockLoss n headers => Sys2Proof.Machine.execLnBlockLockLoss n headers s
  | .lnFecLockChange n held => Sys2Proof.Machine.execLnFecLockChange n held s
  | .lnFaultReceived n fault => Sys2Proof.Machine.execLnFaultReceived n fault s
  | .lnAnComplete => Sys2Proof.Machine.execLnAnComplete s
  | .lnTrainingComplete n pre main post => Sys2Proof.Machine.execLnTrainingComplete n pre main post s
  | .lnTrainingTimeout n => Sys2Proof.Machine.execLnTrainingTimeout n s
  | .lnEqWrite path n v => Sys2Proof.Machine.execLnEqWrite path n v s
  | .lnFecUncorrectable n blocks => Sys2Proof.Machine.execLnFecUncorrectable n blocks s
  | .lnIdleEnter path n => Sys2Proof.Machine.execLnIdleEnter path n s
  | .lnIdleExit path n => Sys2Proof.Machine.execLnIdleExit path n s
  | .lpiEnter => Sys2Proof.Machine.execLpiEnter s
  | .lpiWake => Sys2Proof.Machine.execLpiWake s
  | .lpiReceived n on => Sys2Proof.Machine.execLpiReceived n on s
  | .wakePatternMatch bytes b => Sys2Proof.Machine.execWakePatternMatch bytes b s
  | .macRxFrame p bytes back ui => Sys2Proof.Machine.execMacRxFrame p bytes back ui s
  | .pauseExpiry p => Sys2Proof.Machine.execPauseExpiry p s
  | .apSlotRelease p handle => Sys2Proof.Machine.execApSlotRelease p handle s
  | .apArrivalDeadline p handle => Sys2Proof.Machine.execApArrivalDeadline p handle s
  | .apGridPoint p => Sys2Proof.Machine.execApGridPoint p s
  | .naFrameStart p => Sys2Proof.Machine.execNaFrameStart p s
  | .naWaitExpiry p => Sys2Proof.Machine.execNaWaitExpiry p s
  | .apCalRequest path v => Sys2Proof.Machine.execApCalRequest path v s
  | .latCalComplete p txLat rxLat txSd rxSd => Sys2Proof.Machine.execLatCalComplete p txLat rxLat txSd rxSd s
  | .distributorIngress p => Sys2Proof.Machine.execDistributorIngress p s
  | .parseCell f c => Sys2Proof.Machine.execParseCell f c s
  | .matchCell f c => Sys2Proof.Machine.execMatchCell f c s
  | .computeCell f c input => Sys2Proof.Machine.execComputeCell f c input s
  | .tableCell f c => Sys2Proof.Machine.execTableCell f c s
  | .cryptoCall f c => Sys2Proof.Machine.execCryptoCall f c s
  | .cryptoLaneGrant kind => Sys2Proof.Machine.execCryptoLaneGrant kind s
  | .cryptoOpComplete kind lane => Sys2Proof.Machine.execCryptoOpComplete kind lane s
  | .cryptoLaneRevoke kind lane => Sys2Proof.Machine.execCryptoLaneRevoke kind lane s
  | .stampCell f c => Sys2Proof.Machine.execStampCell f c s
  | .emitCell f c => Sys2Proof.Machine.execEmitCell f c s
  | .tokenLate tok => Sys2Proof.Machine.execTokenLate tok s
  | .imageReloadRequest path v => Sys2Proof.Machine.execImageReloadRequest path v s
  | .btLoadFirmware path v => Sys2Proof.Machine.execBtLoadFirmware path v s
  | .hostFetchComplete fw => Sys2Proof.Machine.execHostFetchComplete fw s
  | .imageCheckComplete img => Sys2Proof.Machine.execImageCheckComplete img s
  | .ptpSyncInstant p e => Sys2Proof.Machine.execPtpSyncInstant p e s
  | .ptpAnnounceInstant p e => Sys2Proof.Machine.execPtpAnnounceInstant p e s
  | .ptpDelayReq p stamp h pdelay => Sys2Proof.Machine.execPtpDelayReq p stamp h pdelay s
  | .ptpUnicastRequest p stamp u => Sys2Proof.Machine.execPtpUnicastRequest p stamp u s
  | .ptpCancel p u => Sys2Proof.Machine.execPtpCancel p u s
  | .grantExpiry e k => Sys2Proof.Machine.execGrantExpiry e k s
  | .ptPortPtpWrite path p v => Sys2Proof.Machine.execPtPortPtpWrite path p v s
  | .ptpSyncReceived p stamp m => Sys2Proof.Machine.execPtpSyncReceived p stamp m s
  | .ptpDelayRespReceived p stamp m => Sys2Proof.Machine.execPtpDelayRespReceived p stamp m s
  | .ptpAnnounceReceived p a => Sys2Proof.Machine.execPtpAnnounceReceived p a s
  | .ptpGrantReceived p u => Sys2Proof.Machine.execPtpGrantReceived p u s
  | .clientDelayReqSend p => Sys2Proof.Machine.execClientDelayReqSend p s
  | .clientGrantRenew p k => Sys2Proof.Machine.execClientGrantRenew p k s
  | .ptpReceiptTimeout p ann => Sys2Proof.Machine.execPtpReceiptTimeout p ann s
  | .ntpRequest p stamp r q frame => Sys2Proof.Machine.execNtpRequest p stamp r q frame s
  | .leapInsert path te delta => Sys2Proof.Machine.execLeapInsert path te delta s
  | .leapDelete path te => Sys2Proof.Machine.execLeapDelete path te s
  | .smearWindowEnd k => Sys2Proof.Machine.execSmearWindowEnd k s
  | .esmcInfoSend p => Sys2Proof.Machine.execEsmcInfoSend p s
  | .esmcReceived p event ql => Sys2Proof.Machine.execEsmcReceived p event ql s
  | .esmcTimeout p => Sys2Proof.Machine.execEsmcTimeout p s
  | .hostTxTailWrite path q v => Sys2Proof.Machine.execHostTxTailWrite path q v s
  | .hostDescriptorFetched q port bytes => Sys2Proof.Machine.execHostDescriptorFetched q port bytes s
  | .pcieCompletionTimeout fn => Sys2Proof.Machine.execPcieCompletionTimeout fn s
  | .kvDerive path slot tslot len => Sys2Proof.Machine.execKvDerive path slot tslot len s
  | .kvImport path slot tslot len => Sys2Proof.Machine.execKvImport path slot tslot len s
  | .kvZeroise path slot tslot len => Sys2Proof.Machine.execKvZeroise path slot tslot len s
  | .kvPubkey path slot tslot len => Sys2Proof.Machine.execKvPubkey path slot tslot len s
  | .kvSign path slot tslot len => Sys2Proof.Machine.execKvSign path slot tslot len s
  | .kvVerify path slot tslot len => Sys2Proof.Machine.execKvVerify path slot tslot len s
  | .kvMac path slot tslot len => Sys2Proof.Machine.execKvMac path slot tslot len s
  | .kvEncrypt path slot tslot len => Sys2Proof.Machine.execKvEncrypt path slot tslot len s
  | .kvDecrypt path slot tslot len => Sys2Proof.Machine.execKvDecrypt path slot tslot len s
  | .kvMint path slot tslot len => Sys2Proof.Machine.execKvMint path slot tslot len s
  | .kvRotate path slot tslot len => Sys2Proof.Machine.execKvRotate path slot tslot len s
  | .kvRandom path slot tslot len => Sys2Proof.Machine.execKvRandom path slot tslot len s
  | .kvOpComplete => Sys2Proof.Machine.execKvOpComplete s
  | .lcToProvision path confirm => Sys2Proof.Machine.execLcToProvision path confirm s
  | .lcToField path confirm => Sys2Proof.Machine.execLcToField path confirm s
  | .lcToReturn path confirm => Sys2Proof.Machine.execLcToReturn path confirm s
  | .lcToRetired path confirm => Sys2Proof.Machine.execLcToRetired path confirm s
  | .tamperInputAssert n level => Sys2Proof.Machine.execTamperInputAssert n level s
  | .tamperDebounceExpiry n => Sys2Proof.Machine.execTamperDebounceExpiry n s
  | .voltageMonitorTrip level fall => Sys2Proof.Machine.execVoltageMonitorTrip level fall s
  | .tempMonitorTrip t => Sys2Proof.Machine.execTempMonitorTrip t s
  | .clockMonitorTrip ps => Sys2Proof.Machine.execClockMonitorTrip ps s
  | .tamperSample levels volt fall temp b => Sys2Proof.Machine.execTamperSample levels volt fall temp b s
  | .secureClear path v puf => Sys2Proof.Machine.execSecureClear path v puf s
  | .glCorrectedWriteback => Sys2Proof.Machine.execGlCorrectedWriteback s
  | .glScrubWord upsets => Sys2Proof.Machine.execGlScrubWord upsets s
  | .scrubPassEnd => Sys2Proof.Machine.execScrubPassEnd s
  | .scrubPassDeadline => Sys2Proof.Machine.execScrubPassDeadline s
  | .glScrubRateWrite path v => Sys2Proof.Machine.execGlScrubRateWrite path v s
  | .sramScrubWalk hits corr => Sys2Proof.Machine.execSramScrubWalk hits corr s
  | .glRowRepair bank row => Sys2Proof.Machine.execGlRowRepair bank row s
  | .bankLockRevoke bank channel => Sys2Proof.Machine.execBankLockRevoke bank channel s
  | .fuseProgramRequest path v => Sys2Proof.Machine.execFuseProgramRequest path v s
  | .fuseBurnComplete verified => Sys2Proof.Machine.execFuseBurnComplete verified s
  | .selfCheckMismatch => Sys2Proof.Machine.execSelfCheckMismatch s
  | .controlFlowWatchdog => Sys2Proof.Machine.execControlFlowWatchdog s
  | .rdSwitchWrite path v => Sys2Proof.Machine.execRdSwitchWrite path v s
  | .switchoverResume => Sys2Proof.Machine.execSwitchoverResume s
  | .coreSelftestComplete k pass => Sys2Proof.Machine.execCoreSelftestComplete k pass s
  | .mboxRevoke fn => Sys2Proof.Machine.execMboxRevoke fn s
  | .clekosalTimeSend => Sys2Proof.Machine.execClekosalTimeSend s
  | .clekosalFrameReceived l st => Sys2Proof.Machine.execClekosalFrameReceived l st s
  | .clekosalLinkTimeout => Sys2Proof.Machine.execClekosalLinkTimeout s
  | .mateLeaseExpiry => Sys2Proof.Machine.execMateLeaseExpiry s
  | .standbyNeveTimer => Sys2Proof.Machine.execStandbyNeveTimer s
  | .rimePassStart => Sys2Proof.Machine.execRimePassStart s
  | .rimeRequest path v => Sys2Proof.Machine.execRimeRequest path v s
  | .rimeShadowEnd x => Sys2Proof.Machine.execRimeShadowEnd x s
  | .rimeMateProofEnd => Sys2Proof.Machine.execRimeMateProofEnd s
  | .railBelowWarning rail ns => Sys2Proof.Machine.execRailBelowWarning rail ns s
  | .dipStart dip => Sys2Proof.Machine.execDipStart dip s
  | .dipEnd => Sys2Proof.Machine.execDipEnd s
  | .brownOut rail => Sys2Proof.Machine.execBrownOut rail s
  | .mainPowerLoss vbat => Sys2Proof.Machine.execMainPowerLoss vbat s
  | .vbatLoss => Sys2Proof.Machine.execVbatLoss s
  | .mainPowerUp b => Sys2Proof.Machine.execMainPowerUp b s
  | .resetNAssert ns => Sys2Proof.Machine.execResetNAssert ns s
  | .syChiprstGo path v => Sys2Proof.Machine.execSyChiprstGo path v s
  | .watchdogExpiry => Sys2Proof.Machine.execWatchdogExpiry s
  | .chipResetStart b => Sys2Proof.Machine.execChipResetStart b s
  | .neveRequest path v => Sys2Proof.Machine.execNeveRequest path v s
  | .neveEntry b => Sys2Proof.Machine.execNeveEntry b s
  | .svcCsWake b => Sys2Proof.Machine.execSvcCsWake b s
  | .neveRtcWake b => Sys2Proof.Machine.execNeveRtcWake b s
  | .gpioWake gpio b => Sys2Proof.Machine.execGpioWake gpio b s
  | .vbatMeasure mv => Sys2Proof.Machine.execVbatMeasure mv s
  | .uresetCore path k => Sys2Proof.Machine.execUresetCore path k s
  | .uresetTimeSynth path => Sys2Proof.Machine.execUresetTimeSynth path s
  | .uresetIe path => Sys2Proof.Machine.execUresetIe path s
  | .uresetRs path => Sys2Proof.Machine.execUresetRs path s
  | .uresetMb path => Sys2Proof.Machine.execUresetMb path s
  | .uresetGn path => Sys2Proof.Machine.execUresetGn path s
  | .uresetOs path => Sys2Proof.Machine.execUresetOs path s
  | .uresetCx path => Sys2Proof.Machine.execUresetCx path s
  | .uresetPt path => Sys2Proof.Machine.execUresetPt path s
  | .uresetJl path => Sys2Proof.Machine.execUresetJl path s
  | .uresetPc path => Sys2Proof.Machine.execUresetPc path s
  | .uresetSupervisor path k => Sys2Proof.Machine.execUresetSupervisor path k s
  | .uresetComplete => Sys2Proof.Machine.execUresetComplete s
  | .functionLevelReset fn => Sys2Proof.Machine.execFunctionLevelReset fn s
  | .perstAssert => Sys2Proof.Machine.execPerstAssert s
  | .perstRelease => Sys2Proof.Machine.execPerstRelease s
  | .pcieLinkChange up => Sys2Proof.Machine.execPcieLinkChange up s
  | .mailboxDoorbell fn code tag len payload core => Sys2Proof.Machine.execMailboxDoorbell fn code tag len payload core s
  | .mbCmdInfo fn => Sys2Proof.Machine.execMbCmdInfo fn s
  | .mbCmdFlashWrite fn => Sys2Proof.Machine.execMbCmdFlashWrite fn s
  | .mbCmdFlashRead fn => Sys2Proof.Machine.execMbCmdFlashRead fn s
  | .mbCmdVerify fn ok => Sys2Proof.Machine.execMbCmdVerify fn ok s
  | .mbCmdSetPref fn => Sys2Proof.Machine.execMbCmdSetPref fn s
  | .mailboxResponse fn => Sys2Proof.Machine.execMailboxResponse fn s
  | .svcRead off n => Sys2Proof.Machine.execSvcRead off n s
  | .svcWrite off words tail => Sys2Proof.Machine.execSvcWrite off words tail s
  | .svcStatus => Sys2Proof.Machine.execSvcStatus s
  | .pcSelWrite path n v => Sys2Proof.Machine.execPcSelWrite path n v s
  | .counterWrap n => Sys2Proof.Machine.execCounterWrap n s
  | .bwCfgWrite path p v => Sys2Proof.Machine.execBwCfgWrite path p v s
  | .bwWindowEnd p => Sys2Proof.Machine.execBwWindowEnd p s
  | .userPageRead off write => Sys2Proof.Machine.execUserPageRead off write s
  | .journalEventRaise code src inst arg => Sys2Proof.Machine.execJournalEventRaise code src inst arg s
  | .journalEntryWrite => Sys2Proof.Machine.execJournalEntryWrite s
  | .journalBlockSeal => Sys2Proof.Machine.execJournalBlockSeal s
  | .journalHourPad => Sys2Proof.Machine.execJournalHourPad s
  | .ageingCompare core tb => Sys2Proof.Machine.execAgeingCompare core tb s
  | .functionLevelResetComplete fn => Sys2Proof.Machine.execFunctionLevelResetComplete fn s
  | .sampleTick n rtc => Sys2Proof.Machine.execSampleTick n rtc s
  | .channelPairLosesLock p => Sys2Proof.Machine.execChannelPairLosesLock p s
  | .acquisitionSearchComplete p sys prn => Sys2Proof.Machine.execAcquisitionSearchComplete p sys prn s

end Sys2Proof.Machine
end

