-- ==== Sys2Proof/Safety.lean ====
section
/-! DEFINITION. The terms that statements about the block use: completing, what a command leaves alone, what it logs, and the invariant of the
status pins. -/
namespace Sys2Proof.Machine

/-- The command completes from s, in a state with P. -/
def Does (c : Instr) (s : State) (P : State → Prop) : Prop := ∃ t, exec c s = .next t ∧ P t

/-- A field that any raised event may change: those of the counter block PC, and the count of dropped journal entries (R386, R394). -/
def Fld.tallied (f : Fld) : Bool := f.key / 4194304 == 0x14 || f.key == F.JL_STAT_DROPPED.key

/-- Every register field but fs and what events tally reads in t as in s. -/
def Keeps (s t : State) (fs : List Fld) : Prop := ∀ f : Fld, f.key ∉ fs.map Fld.key → f.tallied = false → t.get f = s.get f

/-- t differs from s at most in the fields fs, in what events tally, and in what events and signals write: the journal queue, the memory of
limited vectors and events, the messages sent out, and the status pins. -/
def Frame (s t : State) (fs : List Fld) : Prop :=
  Keeps s t fs ∧
  t = { s with cells := t.cells, outs := t.outs, rates := t.rates, pins := t.pins, jl.queue := t.jl.queue, jl.dropPend := t.jl.dropPend,
               host.lastSignal := t.host.lastSignal }

/-- t differs from s at most in register fields of one block window, in what events tally, and in what events and signals write. -/
def FrameIn (s t : State) (window : Nat) : Prop :=
  (∀ f : Fld, f.key / 4194304 ≠ window → f.tallied = false → t.get f = s.get f) ∧
  t = { s with cells := t.cells, outs := t.outs, rates := t.rates, pins := t.pins, jl.queue := t.jl.queue, jl.dropPend := t.jl.dropPend,
               host.lastSignal := t.host.lastSignal }

/-- The message m is the first that the command sends; messages of events and pins may follow it. -/
def Sends (s t : State) (m : OutMsg) : Prop := (m :: s.outs) <:+ t.outs

/-- t has one more journal entry waiting than s, where events are kept and the queue has room (R394). -/
def Logs (s t : State) (code src inst arg : Nat) : Prop :=
  s.quiet = false → s.jl.queue.length < 1024 → t.jl.queue = s.jl.queue ++ [⟨code, src, inst, arg % 2 ^ 64⟩]

/-- t has the journal entries of s. -/
def LogsNone (s t : State) : Prop := t.jl.queue = s.jl.queue

/-- Cell site c of Floe f takes tokens: the fabric runs and the cell holds none (R229). -/
def State.cellOpen (s : State) (f c : Nat) : Bool := (s.tokenIn f c).isNone && s.get F.DF_STAT_STATE == 1

/-- Channel ch has room for token k (R225). -/
def State.roomFor (s : State) (k : Token) (ch : Nat) : Bool :=
  decide ((s.df.tokens.filter (fun (x : Token) => x.place == .chan ch && x.id != k.id)).length < s.chanRoom ch)

/-- Token k stands last, in place pl of Floe f; the other tokens stand as before. -/
def Moved (s t : State) (k : Token) (f : Nat) (pl : Place) : Prop :=
  t.df.tokens = s.df.tokens.filter (fun (x : Token) => x.id != k.id) ++ [{ k with floe := f, place := pl }]

/-- Token k is gone; the other tokens stand as before. -/
def Dropped (s t : State) (k : Token) : Prop := t.df.tokens = s.df.tokens.filter (fun (x : Token) => x.id != k.id)

/-- Cell c of Floe f, with record r, delivers token k as k' to output o: the token stands last in the output's channel, waits in the cell where
that has no room, and is gone where the output is unconnected (R225, R229). -/
def Delivers (f c : Nat) (r : CellRec) (k k' : Token) (o : Nat) (s t : State) : Prop :=
  (∀ ch : Nat, (r.outputs.take 4)[o]? = some ch →
    (s.roomFor k ch = true → Moved s t { k' with id := k.id, out := none } f (.chan ch)) ∧
    (s.roomFor k ch = false → Moved s t { k' with id := k.id, out := some o } f (.cell c))) ∧
  ((r.outputs.take 4)[o]? = none → Dropped s t k)

/-- Port p takes the unauthenticated PTP messages of a sender in a role: 1 grandmaster, 2 client (R250, R261, R262). -/
def State.hears (s : State) (p role : Nat) (h : PtpHead) : Bool :=
  s.serving && s.ptpRole p == role && s.on F.PT_CLOCK_ID_ID && s.forPort p h && !s.silenced p && !s.on (F.PT_PORT_PTP_AUTH_REQ p) && h.auth.isNone

/-- How many slots a request for length len on port p is granted: 1 or 0 (R208). -/
def State.granted (s : State) (p len : Nat) (nb : Option Nat) : Nat := (s.apRequest p len nb).2.toList.length

/-- Every register field but fs reads in t as a reset of letter l leaves it: as in s where it is kept through l, else its reset value (R6, R358). -/
def ResetTo (s t : State) (l : Letter) (fs : List Fld) : Prop :=
  ∀ f : Fld, fieldOfKey f.key = some f → f.key ∉ fs.map Fld.key → t.get f = if f.keptThrough l then s.get f else f.reset

/-- The commands that act in a part that is not in the Run state: power, resets, starts, wake causes, tamper samples, and the
sample tick, with which the RTC counts (R352 to R360). -/
def actsOutsideRun : Instr → Bool
  | .mainPowerUp .. | .mainPowerLoss .. | .vbatLoss | .chipResetStart .. | .resetNAssert .. | .svcCsWake .. | .neveRtcWake .. | .gpioWake .. |
    .wakePatternMatch .. | .tamperSample .. | .sampleTick .. => true
  | _ => false

/-- The status pins show their conditions (R408, R413): in the Run state those that the chapters name; under a held reset ALARM_N asserted, and
TAMPER_N where the latch is set; in Firn all released; in Névé held. -/
def State.pinsTrue (s : State) : Prop :=
  match s.power with
  | .run => s.pins.alarm = s.alarmDue ∧ s.pins.degrade = s.degradeDue ∧ s.pins.tamper = s.on F.TP_STAT_LATCH
  | .held => s.pins = { alarm := true, degrade := false, tamper := s.on F.TP_STAT_LATCH, wake := false }
  | .firn => s.pins = { alarm := false, degrade := false, tamper := false, wake := false }
  | .neve => True

end Sys2Proof.Machine
end

