-- ==== Sys2Proof/WellFormed.lean ====
section
/-! DEFINITION. Which commands are well formed: the limits the spec sets on operands that their types do not. A meaning is total and does not
rest on them. -/
namespace Sys2Proof

open Machine

/-- The root regenerates in at most three attempts (R283). -/
def Machine.Boot.wf (b : Boot) : Bool := decide (b.puf.length ≤ 3)

/-- The command is well formed: access widths (R3), counts and list lengths (R81, R128, R137, R239, R374). -/
def Instr.wf : Instr → Bool
  | .registerWrite _ _ width _ => decide (1 ≤ width.toNat) && decide (width.toNat ≤ 8)
  | .rcFieldRead _ _ width => decide (1 ≤ width.toNat) && decide (width.toNat ≤ 8)
  | .foreignAccess _ _ _ => true
  | .timeWordSecRead _ off => off.toNat % 8 == 0
  | .monitorWindowEnd _ _ _ _ => true
  | .sourceMissingEdge _ => true
  | .atomLockChange _ => true
  | .ocxoWarmChange _ => true
  | .warmTimerExpiry => true
  | .tbSrcReqGo _ _ => true
  | .shadowLockDetected => true
  | .shadowLockTimeout => true
  | .migCompareEnd _ _ oldTicks => decide (0 < oldTicks)
  | .oldMdllPowerOff => true
  | .xoAgeLearn => true
  | .thermSample _ => true
  | .ieEdge _ _ _ _ => true
  | .intervalStartTimeout _ => true
  | .gateTransition _ _ => true
  | .ieResRawRead _ _ => true
  | .ieStCfgWrite _ _ _ => true
  | .ieStStatRead _ _ => true
  | .ieCalReqGo _ _ => true
  | .ieCalReqAll _ _ => true
  | .calPeriodExpiry _ => true
  | .calTempTrigger _ => true
  | .calStart => true
  | .calWaitTimeout => true
  | .calComplete distinct below known =>
    decide (distinct ≤ 4096) && below.length == 257 && known.length == 3 && known.all (fun l => (l.map (fun e => e.2)).sum == 4096)
  | .calAgeStale _ => true
  | .refPresenceTimeout _ _ => true
  | .rsWindowEnd _ => true
  | .rsSelWrite _ _ => true
  | .rsRefCfgWrite _ _ _ => true
  | .rsDisagreeCompare => true
  | .tkUpdate => true
  | .stepApply => true
  | .updateMiss => true
  | .lockstepMismatch => true
  | .tkModeWrite _ _ => true
  | .tkManPhaseWrite _ _ => true
  | .tkSetNsfWrite _ _ => true
  | .tkSetSecWrite _ _ => true
  | .tempcoRefit => true
  | .checkpointWrite _ => true
  | .checkpointMiss => true
  | .ckptPortRevoke => true
  | .mbPublication => true
  | .publicationMiss => true
  | .staleReevaluate => true
  | .staleMaxExpiry => true
  | .mbRefCalWrite _ _ _ => true
  | .selfCheckMismatch => true
  | .controlFlowWatchdog => true
  | .rdSwitchWrite _ _ => true
  | .switchoverResume => true
  | .coreSelftestComplete _ _ => true
  | .lnLaneCfgWrite _ _ _ => true
  | .lnIdleEnter _ _ => true
  | .lnIdleExit _ _ => true
  | .lnSignalPresent _ => true
  | .lnSignalLoss _ => true
  | .lnSignalAbsentTimeout _ => true
  | .lnBlockLock _ _ => true
  | .lnBlockLockLoss _ _ => true
  | .lnFecLockChange _ _ => true
  | .lnFaultReceived _ _ => true
  | .lnAnComplete => true
  | .lnTrainingComplete _ _ _ _ => true
  | .lnTrainingTimeout _ => true
  | .lnEqWrite _ _ _ => true
  | .lnFecUncorrectable _ _ => true
  | .lpiEnter => true
  | .lpiWake => true
  | .lpiReceived _ _ => true
  | .macRxFrame _ _ _ _ => true
  | .pauseExpiry _ => true
  | .apSlotRelease _ _ => true
  | .apArrivalDeadline _ _ => true
  | .apGridPoint _ => true
  | .naFrameStart _ => true
  | .naWaitExpiry _ => true
  | .apCalRequest _ _ => true
  | .latCalComplete _ _ _ _ _ => true
  | .glCorrectedWriteback => true
  | .glScrubWord upsets => upsets.all (fun u => decide (u.2 < 72))
  | .scrubPassEnd => true
  | .scrubPassDeadline => true
  | .glScrubRateWrite _ _ => true
  | .glRowRepair _ _ => true
  | .fuseProgramRequest _ _ => true
  | .fuseBurnComplete _ => true
  | .kvDerive _ _ _ _ => true
  | .kvImport _ _ _ _ => true
  | .kvZeroise _ _ _ _ => true
  | .kvPubkey _ _ _ _ => true
  | .kvSign _ _ _ _ => true
  | .kvVerify _ _ _ _ => true
  | .kvMac _ _ _ _ => true
  | .kvEncrypt _ _ _ _ => true
  | .kvDecrypt _ _ _ _ => true
  | .kvMint _ _ _ _ => true
  | .kvRotate _ _ _ _ => true
  | .kvRandom _ _ _ _ => true
  | .kvOpComplete => true
  | .lcToProvision _ _ => true
  | .lcToField _ _ => true
  | .lcToReturn _ _ => true
  | .lcToRetired _ _ => true
  | .counterWrap _ => true
  | .pcSelWrite _ _ _ => true
  | .bwCfgWrite _ _ _ => true
  | .bwWindowEnd _ => true
  | .userPageRead _ _ => true
  | .journalEventRaise code _ _ _ => code.toNat != 0
  | .journalEntryWrite => true
  | .journalBlockSeal => true
  | .journalHourPad => true
  | .sampleTick n _ => decide (0 < n)
  | .distributorIngress _ => true
  | .parseCell _ _ => true
  | .matchCell _ _ => true
  | .computeCell _ _ _ => true
  | .tableCell _ _ => true
  | .cryptoCall _ _ => true
  | .cryptoLaneGrant _ => true
  | .cryptoOpComplete _ _ => true
  | .cryptoLaneRevoke _ _ => true
  | .stampCell _ _ => true
  | .emitCell _ _ => true
  | .tokenLate _ => true
  | .bankLockRevoke _ _ => true
  | .hostTxTailWrite _ _ _ => true
  | .hostDescriptorFetched _ _ _ => true
  | .leapInsert _ _ _ => true
  | .leapDelete _ _ => true
  | .smearWindowEnd _ => true
  | .esmcInfoSend _ => true
  | .esmcReceived _ _ _ => true
  | .esmcTimeout _ => true
  | .ntpRequest _ _ _ q _ => decide (q < 8)
  | .grantExpiry _ _ => true
  | .ptpUnicastRequest _ _ _ => true
  | .ptpCancel _ _ => true
  | .ptpSyncInstant _ _ => true
  | .ptpAnnounceInstant _ _ => true
  | .ptpDelayReq _ _ _ _ => true
  | .ptpAnnounceReceived _ _ => true
  | .ptpSyncReceived _ _ _ => true
  | .ptpDelayRespReceived _ _ _ => true
  | .ptpGrantReceived _ _ => true
  | .clientGrantRenew _ _ => true
  | .clientDelayReqSend _ => true
  | .ptpReceiptTimeout _ _ => true
  | .ptPortPtpWrite _ _ _ => true
  | .tamperInputAssert _ _ => true
  | .tamperDebounceExpiry _ => true
  | .voltageMonitorTrip _ _ => true
  | .tempMonitorTrip _ => true
  | .clockMonitorTrip _ => true
  | .clekosalTimeSend => true
  | .mateLeaseExpiry => true
  | .clekosalLinkTimeout => true
  | .clekosalFrameReceived _ _ => true
  | .gnRateCheck _ _ => true
  | .gnFeSpiTransfer _ _ => true
  | .gnFeSpiDone _ => true
  | .gnCfgWrite _ _ => true
  | .gnFeScriptDone => true
  | .gnSolutionEpoch e => decide (e.sats.length ≤ 128)
  | .gnPosAverage => true
  | .gnSolutionTimeout => true
  | .gnChannelSearchTimeout _ => true
  | .gnEvidenceExpiry _ => true
  | .gnJamDetect => true
  | .gnJamClear => true
  | .gnFlakeWrite _ _ => true
  | .gnFlakeCaptureStart => true
  | .gnCaptureEnd a b _ _ => a.length == b.length || b.isEmpty
  | .gnSnapshotSolved e => decide (e.sats.length ≤ 128)
  | .gnSnapshotExported => true
  | .gnRecordWrite => true
  | .gnPosWrite _ _ _ => true
  | .gnPosModeWrite _ _ => true
  | .gnLeapDataDecoded _ _ _ _ day => decide (1 ≤ day) && decide (day ≤ 7)
  | .channelPairLosesLock _ => true
  | .acquisitionSearchComplete _ _ _ => true
  | .smLockDeclared => true
  | .omCfgWrite _ _ _ => true
  | .omLockDeclared _ => true
  | .clkCfgWrite _ _ _ => true
  | .clkOutStart _ => true
  | .clkOutStop _ => true
  | .clkDlyWrite _ _ _ => true
  | .ppsCfgWrite _ _ _ => true
  | .ppsPulse _ => true
  | .ppsAlignMiss _ => true
  | .todOutSend => true
  | .todInMessage _ => true
  | .attestationStart => true
  | .attestationComplete _ => true
  | .mbAttStatRead _ => true
  | .mboxRevoke _ => true
  | .standbyNeveTimer => true
  | .rimePassStart => true
  | .rimeRequest _ _ => true
  | .rimeShadowEnd _ => true
  | .rimeMateProofEnd => true
  | .railBelowWarning _ _ => true
  | .dipStart _ => true
  | .dipEnd => true
  | .brownOut _ => true
  | .mainPowerLoss _ => true
  | .vbatLoss => true
  | .mainPowerUp b => b.wf
  | .resetNAssert _ => true
  | .syChiprstGo _ _ => true
  | .watchdogExpiry => true
  | .chipResetStart b => b.wf
  | .neveRequest _ _ => true
  | .neveEntry b => b.wf
  | .svcCsWake b => b.wf
  | .neveRtcWake b => b.wf
  | .gpioWake _ b => b.wf
  | .wakePatternMatch _ b => b.wf
  | .vbatMeasure _ => true
  | .ageingCompare _ _ => true
  | .uresetCore _ _ => true
  | .uresetTimeSynth _ => true
  | .uresetIe _ => true
  | .uresetRs _ => true
  | .uresetMb _ => true
  | .uresetGn _ => true
  | .uresetOs _ => true
  | .uresetCx _ => true
  | .uresetPt _ => true
  | .uresetJl _ => true
  | .uresetPc _ => true
  | .uresetSupervisor _ _ => true
  | .uresetComplete => true
  | .functionLevelReset _ => true
  | .functionLevelResetComplete _ => true
  | .perstAssert => true
  | .perstRelease => true
  | .pcieLinkChange _ => true
  | .pcieCompletionTimeout _ => true
  | .mailboxDoorbell _ _ _ _ payload _ => decide (payload.length ≤ 2032)
  | .mbCmdInfo _ => true
  | .mbCmdFlashWrite _ => true
  | .mbCmdFlashRead _ => true
  | .mbCmdVerify _ _ => true
  | .mbCmdSetPref _ => true
  | .mailboxResponse _ => true
  | .svcRead _ n => decide (0 < n)
  | .svcWrite _ _ _ => true
  | .svcStatus => true
  | .imageReloadRequest _ _ => true
  | .btLoadFirmware _ _ => true
  | .hostFetchComplete _ => true
  | .imageCheckComplete img => decide (img.bytes.length ≤ 2 ^ 24)
  | .tamperSample _ _ _ _ b => b.wf
  | .secureClear _ _ puf => decide (puf.length ≤ 3)
  | .sramScrubWalk _ _ => true

end Sys2Proof
end

