-- ==== Sys2Proof/Certificates/Slice0/Obligations.lean ====
section
/-! DEFINITION. What the provers are asked to prove about the block. -/
open Sys2Proof Sys2Proof.Machine

/-- A tick source's conditions follow the monitor, its missing edge, the lock pin and warm-up. In the Run state each command completes, and its result stands whatever failure or migration it sets off. MONITOR_WINDOW_END: each source's count of consecutive passing windows rises by one up to ten where its window passes and returns to 0 where it does not. SOURCE_MISSING_EDGE of XO, OCXO or ATOM: the source no longer passes and its count is 0. ATOM_LOCK_CHANGE: ATOM_LOCK shows the pin's level against its polarity. OCXO_WARM_CHANGE and WARM_TIMER_EXPIRY: OCXO_WARM shows the condition of WARM_MODE with the new pin or the expired timer. (R44, R45, R46) -/
def Obligations.TickSourceConditionsFollowTheirInputs : Prop :=
  (∀ (s : State) (xo ocxo atom rtc : Option Int), s.power = .run → Does (.monitorWindowEnd xo ocxo atom rtc) s fun t => ∀ i < 3,
      t.tb.passes.getD i 0 = if windowPasses s.monLimit [xo, ocxo, atom, rtc] i then min 10 (s.tb.passes.getD i 0 + 1) else 0) ∧
  (∀ (s : State) (src : Source), s.power = .run → src ≠ .rtc → Does (.sourceMissingEdge src) s fun t => t.get src.okFld = 0 ∧ t.tb.passes.getD src.code 0 = 0) ∧
  (∀ (s : State) (level : Bool), s.power = .run →
    Does (.atomLockChange level) s fun t => t.get F.TB_STAT_ATOM_LOCK = if level = s.on F.TB_SRC_CFG_ATOM_LOCK_POL then 1 else 0) ∧
  (∀ (s : State) (level : Bool), s.power = .run →
    Does (.ocxoWarmChange level) s fun t => t.tb.warmPin = level ∧
      t.get F.TB_STAT_OCXO_WARM = if State.warmNow { s with tb.warmPin := level } then 1 else 0) ∧
  (∀ s : State, s.power = .run →
    Does .warmTimerExpiry s fun t => t.tb.warmTimer = true ∧
      t.get F.TB_STAT_OCXO_WARM = if State.warmNow { s with tb.warmTimer := true } then 1 else 0)

/-- A tick migration is requested, locked, compared, aborted and ended as its steps say. In the Run state. A served TB_SRC_REQ write with GO = 1: with a reason against it, event 0x0206 carries the reason and no other field changes; accepted outside a dip episode, step 1 begins on the target with MIG = 1; accepted in one, the request waits. SHADOW_LOCK_DETECTED in step 1: the shadow's lock shows and the comparison begins, coarse where a dip episode lasts. SHADOW_LOCK_TIMEOUT in step 1: the migration aborts with event flag MIG_ABORT; where the old tick does not coast and no migration to PRI is still owed, MIG is 0, no step is left and event 0x0203 is logged. MIG_COMPARE_END in step 3: r is stored, the coarse one where TAC results do not count. OLD_MDLL_POWER_OFF in step 5: the shadow's lock is 0 and the migration is over. (R49, R51, R52, R56) -/
def Obligations.MigrationGoesThroughItsSteps : Prop :=
  (∀ (s : State) (path : Path) (v : Word), s.power = .run → s.judge path F.TB_SRC_REQ_GO.off true = .served → F.TB_SRC_REQ_GO.ofWord v = 1 →
    let target := F.TB_SRC_REQ_TARGET.ofWord v
    (s.requestReason target ≠ 0 → Does (.tbSrcReqGo path v) s fun t =>
      Frame s t [F.TB_EVT_REQ_REJ] ∧ t.get F.TB_EVT_REQ_REJ = 1 ∧ Logs s t 0x0206 0x02 0 (s.requestReason target)) ∧
    (s.requestReason target = 0 → s.on F.PM_STAT_DIP = false → Does (.tbSrcReqGo path v) s fun t =>
      t.get F.TB_STAT_MIG = 1 ∧ t.tb.migStep = 1 ∧ t.tb.target = Source.ofCode target ∧
        Keeps s t [F.TB_STAT_MIG, F.TB_STAT_TMA_LOCK, F.TB_STAT_TMB_LOCK]) ∧
    (s.requestReason target = 0 → s.on F.PM_STAT_DIP = true → Does (.tbSrcReqGo path v) s fun t =>
      Frame { s with tb.waiting := some (Source.ofCode target) } t [])) ∧
  (∀ s : State, s.power = .run → s.tb.migStep = 1 → Does .shadowLockDetected s fun t =>
    t.get s.shadowLock = 1 ∧ Frame { s with tb.migStep := 3, tb.coarse := s.on F.PM_STAT_DIP } t [s.shadowLock]) ∧
  (∀ s : State, s.power = .run → s.tb.migStep = 1 → Does .shadowLockTimeout s fun t =>
    t.get F.TB_EVT_MIG_ABORT = 1 ∧ (s.tb.coasting = false → s.tb.startMig = false → t.get F.TB_STAT_MIG = 0 ∧ t.tb.migStep = 0 ∧
      Keeps s t [F.TB_STAT_MIG, s.shadowLock, F.TB_EVT_MIG_ABORT] ∧ Logs s t 0x0203 0x02 0 0)) ∧
  (∀ (s : State) (ratio : Int) (newTicks oldTicks : Nat), s.power = .run → s.tb.migStep = 3 →
    Does (.migCompareEnd ratio newTicks oldTicks) s fun t => t.tb.migStep = 4 ∧ Keeps s t [F.TB_MIG_RATIO_RATIO] ∧
      t.tb.ratio = if s.tb.coarse || s.on F.PM_STAT_DIP then coarseRatio newTicks oldTicks else ratio) ∧
  (∀ s : State, s.power = .run → s.tb.migStep = 5 → Does .oldMdllPowerOff s fun t =>
    t.get s.shadowLock = 0 ∧ Frame { s with tb.migStep := 0 } t [s.shadowLock])

/-- The learned ageing values are overwritten at a day boundary, and a thermistor sample enters the mean. In the Run state. XO_AGE_LEARN in learned mode, at a TAI day boundary after 72 h locked: FOFS and RATE take the next two free values (the spec does not state what is learned), T0DAY takes the day, and event 0x0207 is logged. THERM_SAMPLE with EN = 1: CODE takes floor(V * 4096 / 1.8 V), the sample joins the latest 16, and AVG is their truncated mean, 0 before there are 16; the sixteenth code in a row at 4,092 or above sets OPEN and its flag. With EN = 0 a sample changes nothing. (R57, R59) -/
def Obligations.OscillatorLearningAndTemperatureSamples : Prop :=
  (∀ s : State, s.power = .run → s.get F.TB_XO_AGE_MODE = 2 → s.sec % 86400 = 0 → s.lockedFor 259200 = true →
    Does .xoAgeLearn s fun t => t.get F.TB_XO_FOFS_FOFS = (Config.freeValue s.free).toNat % 2 ^ F.TB_XO_FOFS_FOFS.width ∧
      t.get F.TB_XO_AGE_RATE = (Config.freeValue (s.free + 1)).toNat % 2 ^ F.TB_XO_AGE_RATE.width ∧ t.free = s.free + 2 ∧
      t.get F.TB_XO_AGE_T0DAY = s.sec / 86400 % 2 ^ F.TB_XO_AGE_T0DAY.width ∧ t.get F.TB_EVT_AGE_LEARN = 1 ∧
      Keeps s t [F.TB_XO_FOFS_FOFS, F.TB_XO_AGE_RATE, F.TB_XO_AGE_T0DAY, F.TB_XO_AGE_LEARNED, F.TB_EVT_AGE_LEARN]) ∧
  (∀ (s : State) (uv : Nat), s.power = .run → s.on F.TB_THERM_EN = true →
    Does (.thermSample uv) s fun t => t.get F.TB_THERM_CODE = min (uv * 4096 / 1800000) 4095 ∧
      t.tb.therm = (thermCode uv :: s.tb.therm).take 16 ∧
      t.get F.TB_THERM_AVG = (if t.tb.therm.length = 16 then t.tb.therm.sum / 16 else 0) % 4096 ∧
      (s.on F.TB_THERM_OPEN = false → 15 ≤ s.tb.openRun → 4092 ≤ thermCode uv → t.get F.TB_THERM_OPEN = 1 ∧ t.get F.TB_EVT_THERM_OPEN = 1)) ∧
  (∀ (s : State) (uv : Nat), s.power = .run → s.on F.TB_THERM_EN = false → Does (.thermSample uv) s fun t => Frame s t [])

/-- An edge is skipped, dropped, missed or stamped and delivered, and timeouts clear what waited for one. In the Run state. IE_EDGE: a skipped edge uses up one place of the prescaler; one within 40 ns of the last accepted edge counts in RATE; one during a calibration counts in CALMISS. A stamped edge outside a dip episode on an ungated software channel in timestamp mode with room in its buffer stores one result, with the raw stamp word and phi of its TAC code; one on CH20 becomes the baseband's mark. INTERVAL_START_TIMEOUT discards the waiting start and counts it in UNPAIRED. REF_PRESENCE_TIMEOUT ends the presence of a reference once 1.5 P, or 2 P, has passed after its last stamped edge, and before that changes nothing. (R64, R68, R69, R72, R83, R89) -/
def Obligations.EdgeIsStampedAndStored : Prop :=
  (∀ (s : State) (ch : Fin 32) (rising : Bool) (back code : Nat), s.power = .run → let fate := s.edgeFate ch rising back code
    (fate = .skipped → Does (.ieEdge ch rising back code) s fun t => (t.chan ch).skip = (s.chan ch).skip - 1 ∧ Keeps s t []) ∧
    (fate = .rateDropped → Does (.ieEdge ch rising back code) s fun t => Keeps s t [F.IE_CH_STAT_RATE ch] ∧
      t.get (F.IE_CH_STAT_RATE ch) = min (s.get (F.IE_CH_STAT_RATE ch) + 1) (2 ^ (F.IE_CH_STAT_RATE ch).width - 1)) ∧
    (fate = .calMissed → Does (.ieEdge ch rising back code) s fun t => Keeps s t [F.IE_CH_STAT_CALMISS ch] ∧ (t.chan ch).calGap = true ∧
      t.get (F.IE_CH_STAT_CALMISS ch) = min (s.get (F.IE_CH_STAT_CALMISS ch) + 1) (2 ^ (F.IE_CH_STAT_CALMISS ch).width - 1)) ∧
    (fate = .stamped → s.on F.PM_STAT_DIP = false → ch.val < 12 → s.chMode ch = 0 → s.gated ch = false → (s.chan ch).buf.length < 256 →
      Does (.ieEdge ch rising back code) s fun t => (t.chan ch).buf.dropLast = (s.chan ch).buf ∧
        (t.chan ch).buf.getLast?.map (fun r => (r.raw, r.ph)) = some ((s.stampOf ch rising back code).word, (s.chan ch).phi code)) ∧
    (fate = .stamped → s.on F.PM_STAT_DIP = false → ch.val = 20 →
      Does (.ieEdge ch rising back code) s fun t => t.gn.mark = some (s.stampOf ch rising back code))) ∧
  (∀ (s : State) (ch : Fin 32), s.power = .run → (s.chan ch).start.isSome = true →
    Does (.intervalStartTimeout ch) s fun t => (t.chan ch).start = none ∧ Keeps s t [F.IE_CH_STAT_UNPAIRED ch] ∧
      t.get (F.IE_CH_STAT_UNPAIRED ch) = min (s.get (F.IE_CH_STAT_UNPAIRED ch) + 1) (2 ^ (F.IE_CH_STAT_UNPAIRED ch).width - 1)) ∧
  (∀ (s : State) (ch : Fin 32) (two : Bool), s.power = .run →
    (s.edgeOverdue ch (if two then 4 else 3) = true → Does (.refPresenceTimeout ch two) s fun t => t.rs.near15.getD ch true = false ∧
      (two = true → t.rs.near20.getD ch true = false) ∧ Frame { s with rs.near15 := t.rs.near15, rs.near20 := t.rs.near20 } t []) ∧
    (s.edgeOverdue ch (if two then 4 else 3) = false → Does (.refPresenceTimeout ch two) s fun t => Frame s t []))

/-- A gate input opens and closes windows, a result is read once, and a statistics block starts and stops. In the Run state. GATE_TRANSITION: the gate input has the level; where it changes, every enabled channel that it gates has its window open at the channel's active level, and in level mode closed at the other; only the interval engine changes. IE_RES_RAW_READ, served: the value sent is the oldest result's raw word, 0 from an empty buffer; that result leaves the buffer; RES_PH, RES_SEC, RES_NSF and RES_FLG hold its value, corrected time and flags, zeros from an empty buffer. IE_ST_CFG_WRITE, served: SRC, CONT and N take the written values; with EN = 1 the engine starts a fresh block and SEQ is 0, with EN = 0 it stops with what it has gathered. IE_ST_STAT_READ, served: the status word is sent and the nine result registers are latched at their present values. (R74, R75, R79, R80) -/
def Obligations.GatesAndStatisticsFollowTheirRegisters : Prop :=
  (∀ (s : State) (gate : Fin 2) (level : Bool), s.power = .run →
    Does (.gateTransition gate level) s fun t => t.ie.gates.getD gate.val false = level ∧ FrameIn { s with ie := t.ie } t 0x03 ∧
      (s.ie.gates.getD gate.val false = level → t.ie = s.ie ∧ Keeps s t []) ∧
      (∀ n < 32, s.ie.gates.getD gate.val false ≠ level → s.chanEnabled n = true → s.get (F.IE_CH_CFG_GATE_SEL n) = gate.val + 1 →
        (level = s.on (F.IE_CH_CFG_GATE_POL n) → (t.chan n).gateOpen = true) ∧
        (level ≠ s.on (F.IE_CH_CFG_GATE_POL n) → s.on (F.IE_CH_CFG_GATE_MODE n) = false → (t.chan n).gateOpen = false))) ∧
  (∀ (s : State) (path : Path) (ch : Fin 32), s.power = .run → s.judge path (F.IE_CH_RES_RAW_RAW ch).off false = .served →
    let r := (s.chan ch).buf.headD {}
    Does (.ieResRawRead path ch) s fun t =>
      Sends s t (.readData (F.IE_CH_RES_RAW_RAW ch).off (if (s.chan ch).buf = [] then 0 else r.raw)) ∧ (t.chan ch).buf = (s.chan ch).buf.tail ∧
      (∀ n, n ≠ ch.val → t.chan n = s.chan n) ∧
      (-2 ^ 63 ≤ r.ph → r.ph < 2 ^ 63 → t.getI (F.IE_CH_RES_PH_PH ch) = r.ph) ∧ t.get (F.IE_CH_RES_SEC_SEC ch) = secOf r.corr % 2 ^ 48 ∧
      t.get (F.IE_CH_RES_NSF_NS ch) = nsfOf r.corr / 2 ^ 32 ∧ t.get (F.IE_CH_RES_NSF_FRAC ch) = nsfOf r.corr % 2 ^ 32 ∧
      t.get (F.IE_CH_RES_FLG_EDGE ch) = r.flg % 2 ∧ t.get (F.IE_CH_RES_FLG_CAL_STALE ch) = r.flg / 2 % 2 ∧
      t.get (F.IE_CH_RES_FLG_MIG ch) = r.flg / 4 % 2 ∧ t.get (F.IE_CH_RES_FLG_EMPTY ch) = r.flg / 8 % 2 ∧
      t.get (F.IE_CH_RES_FLG_GATE_IGN ch) = r.flg / 16 % 2 ∧ t.get (F.IE_CH_RES_FLG_CORR_VALID ch) = r.flg / 32 % 2 ∧
      t.get (F.IE_CH_RES_FLG_CALGAP ch) = r.flg / 64 % 2 ∧ t.get (F.IE_CH_RES_FLG_COUNT ch) = r.flg / 2 ^ 16 % 2 ^ 24 ∧
      Frame { s with ie := t.ie } t [F.IE_CH_RES_PH_PH ch, F.IE_CH_RES_SEC_SEC ch, F.IE_CH_RES_NSF_NS ch, F.IE_CH_RES_NSF_FRAC ch,
        F.IE_CH_RES_FLG_EDGE ch, F.IE_CH_RES_FLG_CAL_STALE ch, F.IE_CH_RES_FLG_MIG ch, F.IE_CH_RES_FLG_EMPTY ch, F.IE_CH_RES_FLG_GATE_IGN ch,
        F.IE_CH_RES_FLG_CORR_VALID ch, F.IE_CH_RES_FLG_CALGAP ch, F.IE_CH_RES_FLG_COUNT ch]) ∧
  (∀ (s : State) (path : Path) (m : Fin 8) (v : Word), s.power = .run → s.judge path (F.IE_ST_CFG_EN m).off true = .served →
    Does (.ieStCfgWrite path m v) s fun t => t.get (F.IE_ST_CFG_EN m) = (F.IE_ST_CFG_EN m).ofWord v ∧
      t.get (F.IE_ST_CFG_SRC m) = (F.IE_ST_CFG_SRC m).ofWord v ∧ t.get (F.IE_ST_CFG_CONT m) = (F.IE_ST_CFG_CONT m).ofWord v ∧
      t.get (F.IE_ST_CFG_N m) = (F.IE_ST_CFG_N m).ofWord v ∧
      (if (F.IE_ST_CFG_EN m).ofWord v = 1 then t.engine m = freshBlock true (s.on F.PM_STAT_DIP) ∧ t.get (F.IE_ST_STAT_SEQ m) = 0
       else t.engine m = { s.engine m with run := false } ∧ t.get (F.IE_ST_STAT_SEQ m) = s.get (F.IE_ST_STAT_SEQ m)) ∧
      (∀ k, k ≠ m.val → t.engine k = s.engine k) ∧ t.ie.chans = s.ie.chans ∧
      Frame { s with ie := t.ie } t [F.IE_ST_CFG_EN m, F.IE_ST_CFG_SRC m, F.IE_ST_CFG_CONT m, F.IE_ST_CFG_N m, F.IE_ST_STAT_SEQ m]) ∧
  (∀ (s : State) (path : Path) (m : Fin 8), s.power = .run → s.judge path (F.IE_ST_STAT_DONE m).off false = .served →
    Does (.ieStStatRead path m) s fun t =>
      Sends s t (.readData (F.IE_ST_STAT_DONE m).off (BitVec.ofNat 64 (s.word (fieldsAt (F.IE_ST_STAT_DONE m).off)))) ∧
      (∀ i < 9, let off := (F.IE_ST_MEAN_MEAN m).off + 8 * i; readCell off 0 t.latches = s.word (fieldsAt off)) ∧
      Frame { s with latches := t.latches } t [])

/-- Channel calibrations are queued once, begin in order, end with a table or event 0x0211, and grow stale. In the Run state. A served IE_CAL_REQ write with GO queues CH, and with ALL every enabled channel, unless queued or in calibration. CAL_PERIOD_EXPIRY queues a channel the part calibrates on its own once its calibration is older than PERIOD; CAL_TEMP_TRIGGER, once the die temperature has moved by more than TEMP_DELTA, queues it, or, where AUTO is 0 or SKIP masks the channel, makes its calibration stale; before that both change nothing. CAL_START begins the oldest queued calibration, on a slow channel within 100 µs after a stamped edge, and CAL_WAIT_TIMEOUT that of a slow channel. CAL_COMPLETE ends it: with 3,900 codes hit, the gain from 0.95 to 1.05, the residual within 1 ps and no dip or migration meanwhile, the channel has the fitted table, its UNC and event 0x0210; else event 0x0211, the old table, and a retry where a dip or migration spoilt it. CAL_AGE_STALE makes a calibration older than twice PERIOD stale with event 0x0212. The events' argument is the channel (the model's choice, log entry 19). (R81, R82, R83, R84, R85) -/
def Obligations.CalibrationIsQueuedRunAndJudged : Prop :=
  (∀ (s : State) (path : Path) (ch : BitVec 5), s.power = .run → s.judge path F.IE_CAL_REQ_GO.off true = .served →
    (Does (.ieCalReqGo path ch) s fun t => Frame { s with ie.queue :=
      (if s.ie.queue.contains ch.toNat || s.calCurrent == some ch.toNat then s.ie.queue else s.ie.queue ++ [ch.toNat]) } t []) ∧
    (Does (.ieCalReqAll path ch) s fun t => Frame { s with ie.queue := t.ie.queue } t [] ∧ s.ie.queue <+: t.ie.queue ∧
      (∀ n < 32, s.chanEnabled n = true → n ∈ t.ie.queue ∨ s.calCurrent = some n) ∧
      (∀ n ∈ t.ie.queue.drop s.ie.queue.length, n < 32 ∧ s.chanEnabled n = true))) ∧
  (∀ (s : State) (ch : Fin 32), s.power = .run →
    let queued : State := { s with ie.queue :=
      (if s.ie.queue.contains ch.val || s.calCurrent == some ch.val then s.ie.queue else s.ie.queue ++ [ch.val]) }
    let left := s.on F.IE_CAL_CFG_AUTO = false ∨ s.get F.IE_CAL_CFG_SKIP / 2 ^ ch.val % 2 = 1
    let stale (c : Instr) := Does c s fun t => (t.chan ch).stale = true ∧ t.get (F.IE_CH_STAT_CAL_STALE ch) = 1 ∧ t.get F.IE_EVT_CAL_STALE = 1 ∧
      Frame { s with ie := t.ie } t [F.IE_CH_STAT_CAL_STALE ch, F.IE_CH_UNC_UNC ch, F.IE_CAL_STAT_VALID, F.IE_EVT_CAL_STALE] ∧ Logs s t 0x0212 0x03 ch ch
    (s.autoCal ch = true → s.calOlder ch 1 = true → Does (.calPeriodExpiry ch) s fun t => Frame queued t []) ∧
    (s.autoCal ch = false ∨ s.calOlder ch 1 = false → Does (.calPeriodExpiry ch) s fun t => Frame s t []) ∧
    (s.calMoved ch = true → s.autoCal ch = true → Does (.calTempTrigger ch) s fun t => Frame queued t []) ∧
    (s.calMoved ch = true → left → (s.chan ch).stale = false → stale (.calTempTrigger ch)) ∧
    (s.calMoved ch = false → Does (.calTempTrigger ch) s fun t => Frame s t []) ∧
    (s.calOlder ch 2 = true → (s.chan ch).stale = false → stale (.calAgeStale ch)) ∧
    (s.calOlder ch 2 = false → Does (.calAgeStale ch) s fun t => Frame s t [])) ∧
  (∀ (s : State) (ch : Fin 32) (rest : List Nat), s.power = .run → s.ie.queue = ch.val :: rest → s.on F.IE_CAL_STAT_BUSY = false →
    let begins (c : Instr) := Does c s fun t => t.get F.IE_CAL_STAT_BUSY = 1 ∧ t.get F.IE_CAL_STAT_CUR = ch.val ∧
      t.get (F.IE_CH_STAT_CAL_BUSY ch) = 1 ∧ t.ie.queue = rest ∧ t.ie.calLog = max 16 (min 24 (s.get F.IE_CAL_CFG_LOG2_COUNT)) ∧ t.ie.chans = s.ie.chans ∧
      Frame { s with ie := t.ie, wire.ports := t.wire.ports } t [F.IE_CAL_STAT_BUSY, F.IE_CAL_STAT_CUR, F.IE_CH_STAT_CAL_BUSY ch]
    (s.calSlow ch = false ∨ s.edgeJustStamped ch = true → begins .calStart) ∧
    (s.calSlow ch = true → s.edgeJustStamped ch = false → Does .calStart s fun t => Frame s t []) ∧
    (s.calSlow ch = true → begins .calWaitTimeout) ∧ (s.calSlow ch = false → Does .calWaitTimeout s fun t => Frame s t [])) ∧
  (∀ (s : State) (ch : Fin 32) (distinct : Nat) (below : List Nat) (known : List (List (Nat × Nat))), s.power = .run →
    s.on F.IE_CAL_STAT_BUSY = true → s.get F.IE_CAL_STAT_CUR = ch.val →
    let table := provisionalTable below (2 ^ s.ie.calLog)
    let means := provisionalMeans table known
    let gain := fitLine means knownPositions
    let good := 3900 ≤ distinct ∧ gainOk gain = true ∧ calResidual gain means ≤ 65536 ∧ s.ie.calSpoilt = false
    Does (.calComplete distinct below known) s fun t => t.get F.IE_CAL_STAT_BUSY = 0 ∧ t.get (F.IE_CH_STAT_CAL_BUSY ch) = 0 ∧
      Frame { s with ie := t.ie, rd.tacBad := t.rd.tacBad } t [F.IE_CAL_STAT_BUSY, F.IE_CAL_STAT_CUR, F.IE_CH_STAT_CAL_BUSY ch, F.IE_CH_STAT_CAL_STALE ch,
        F.IE_CH_UNC_UNC ch, F.IE_CH_UNC_AGE ch, F.IE_CH_UNC_TEMP_CAL ch, F.IE_CAL_STAT_VALID, F.IE_EVT_CAL_DONE, F.IE_EVT_CAL_FAIL] ∧
      (good → (t.chan ch).table = fittedTable gain means table ∧ (t.chan ch).unc = some (calUnc ch (calResidual gain means)) ∧
        (t.chan ch).stale = false ∧ (t.chan ch).calTime = s.now ∧ t.get (F.IE_CH_UNC_UNC ch) = min (calUnc ch (calResidual gain means)) 0xFFFFFFFF ∧
        t.get F.IE_EVT_CAL_DONE = 1 ∧ Logs s t 0x0210 0x03 ch ch) ∧
      (¬good → t.ie.chans = s.ie.chans ∧ t.get F.IE_EVT_CAL_FAIL = 1 ∧ Logs s t 0x0211 0x03 ch ch ∧
        (s.ie.calSpoilt = true → if s.on F.PM_STAT_DIP = true ∨ s.on F.TB_STAT_MIG = true then t.ie.retry = s.ie.retry ++ [ch.val]
          else ch.val ∈ t.ie.queue)))

/-- Observation windows end and begin, a selection is accepted or rejected, a type loads its defaults, references are compared. In the Run state. RS_WINDOW_END of a slot with windows, outside a dip episode and a reload of its MAC: the next window begins at this instant with the prediction frozen; where the window gave a y, the slot and RS_REFn_MEAS.Y take it; a window without one leaves SLOPE; BW_NOW takes BW with BW_FIX = 1. A slot OFF or ABSENT, or frozen, changes nothing. RS_SEL_WRITE, served: AUTO = 1 or a usable slot is accepted and waits for an update; else event 0x0227 carries the slot and RS_SEL is unchanged. RS_REF_CFG_WRITE, served: the fields take the written values, and a changed TYPE below 7 loads that type's limits; no other field changes. RS_DISAGREE_COMPARE with no contest in force and no unusable active slot: the means start afresh; without a disagreeing pair only RS_STAT is shown anew; the outlier that the arbiters find is disqualified; a pair that no arbiter resolves begins a contest with event 0x0225. In a dip episode no field changes. (R92, R93, R97, R101, R102, R103, R105) -/
def Obligations.ReferenceSelectorActsOnItsCommands : Prop :=
  (∀ (s : State) (n : Fin 16), s.power = .run → (2 ≤ s.get (F.RS_REF_STAT_STATE n) → s.slotFrozen n = false → Does (.rsWindowEnd n) s fun t =>
      (t.slot n).win = s.newWindow ∧ (t.slot n).ended = true ∧ (∀ k, k ≠ n.val → t.slot k = s.slot k) ∧
      Frame { s with rs := t.rs, free := t.free } t [F.RS_REF_STAT_SLOPE n, F.RS_REF_MEAS_Y n, F.RS_REF_EXCESS_EXCESS n, F.RS_REF_BW_BW_NOW n] ∧
      ((s.slot n).win.noY = true → t.on (F.RS_REF_STAT_SLOPE n) = s.on (F.RS_REF_STAT_SLOPE n) ∧ t.get (F.RS_REF_MEAS_Y n) = s.get (F.RS_REF_MEAS_Y n)) ∧
      (∀ y, (s.slot n).win.noY = false → (s.slot n).win.slope = some y → (t.slot n).y = some y ∧
        t.getI (F.RS_REF_MEAS_Y n) = clampI (-2 ^ 31) (2 ^ 31 - 1) (roundDiv y (2 ^ 32))) ∧
      (s.on (F.RS_REF_CFG_BW_FIX n) = true → t.get (F.RS_REF_BW_BW_NOW n) = bwLimit (s.get (F.RS_REF_BW_BW n)))) ∧
    (s.get (F.RS_REF_STAT_STATE n) < 2 ∨ s.slotFrozen n = true → Does (.rsWindowEnd n) s fun t => Frame s t [])) ∧
  (∀ (s : State) (path : Path) (v : Word), s.power = .run → s.judge path F.RS_SEL_REF.off true = .served →
    let ref := F.RS_SEL_REF.ofWord v
    (F.RS_SEL_AUTO.ofWord v = 1 ∨ s.usable ref = true → Does (.rsSelWrite path v) s fun t => t.get F.RS_SEL_REF = ref ∧
      t.get F.RS_SEL_AUTO = F.RS_SEL_AUTO.ofWord v ∧ t.rs.selPending = true ∧ t.rs.slots = s.rs.slots ∧ t.rs.choice = s.rs.choice ∧
      Frame { s with rs := t.rs } t [F.RS_SEL_REF, F.RS_SEL_AUTO]) ∧
    (F.RS_SEL_AUTO.ofWord v = 0 → s.usable ref = false → Does (.rsSelWrite path v) s fun t => Frame s t [F.RS_EVT_SEL_REJ] ∧
      t.get F.RS_EVT_SEL_REJ = 1 ∧ Logs s t 0x0227 0x04 0 ref)) ∧
  (∀ (s : State) (path : Path) (n : Fin 16) (v : Word), s.power = .run → s.judge path (F.RS_REF_CFG_EN n).off true = .served →
    let type := (F.RS_REF_CFG_TYPE n).ofWord v
    let fields := [F.RS_REF_CFG_EN n, F.RS_REF_CFG_TYPE n, F.RS_REF_CFG_SRC n, F.RS_REF_CFG_RANK n, F.RS_REF_CFG_BW_FIX n, F.RS_REF_CFG_PPS_USE n]
    let limits := [F.RS_REF_LIM_FSOFT n, F.RS_REF_LIM_FHARD n, F.RS_REF_LIM_WSOFT n, F.RS_REF_LIM_WHARD n, F.RS_REF_QUAL_QUAL_TIME n,
      F.RS_REF_QUAL_OBS n, F.RS_REF_QUAL_HOLDOFF n, F.RS_REF_QUAL_DRIFT_LIM n, F.RS_REF_QUAL_DRIFT_CNT n]
    Does (.rsRefCfgWrite path n v) s fun t => fields.map t.get = fields.map (fun f => f.ofWord v) ∧
      (type ≠ s.slotType n → type < 7 → limits.map t.get = typeDefaults type ++ [10, 100, 4]) ∧
      (type = s.slotType n ∨ type = 7 → limits.map t.get = limits.map s.get) ∧
      Frame { s with rs := t.rs } t (F.RS_REF_BW_BW_NOW n :: fields ++ limits)) ∧
  (∀ s : State, s.power = .run → s.on F.PM_STAT_DIP = false → s.on F.RS_CONTEST_VALID = false →
    (∀ a, s.activeSlot = some a → s.usable a = true) →
    let shown := [F.RS_STAT_QUALMASK, F.RS_STAT_CONTMASK, F.RS_STAT_DRIFTMASK, F.RS_STAT_CAND, F.RS_STAT_CAND_VALID, F.RS_STAT_FALLEN]
    (Does .rsDisagreeCompare s fun t => t.rs.cmp = s.newWindow ∧ ∀ n < 16, (t.slot n).meanN = 0 ∧ (t.slot n).meanSum = 0) ∧
    (s.worstPair = none → Does .rsDisagreeCompare s fun t => Frame { s with rs := t.rs } t shown) ∧
    (∀ (a b : Nat) (time : Bool) (d : Nat), s.worstPair = some (a, b, time, d) →
      (∀ n, s.outlier time a b (s.arbiters time a b) = some n → Does .rsDisagreeCompare s fun t => t.get (F.RS_REF_STAT_STATE n) = 5 ∧
        t.get (F.RS_REF_STAT_CAUSE n) = s.outlierCause n ∧ t.get F.RS_EVT_DISQ = 1 ∧ t.on F.RS_CONTEST_VALID = false) ∧
      (s.outlier time a b (s.arbiters time a b) = none →
        Does .rsDisagreeCompare s fun t => t.get F.RS_CONTEST_VALID = 1 ∧ t.get F.RS_CONTEST_A = a ∧ t.get F.RS_CONTEST_B = b ∧
          t.on F.RS_CONTEST_KIND = !time ∧ t.get (F.RS_REF_STAT_CONTESTED a) = 1 ∧ t.get (F.RS_REF_STAT_CONTESTED b) = 1 ∧
          t.get F.RS_EVT_CONTEST = 1 ∧ Logs s t 0x0225 0x04 0 (a + b * 16) ∧
          Frame { s with rs := t.rs } t (shown ++ [F.RS_CONTEST_VALID, F.RS_CONTEST_A, F.RS_CONTEST_B, F.RS_CONTEST_KIND, F.RS_CONTEST_DISAG,
            F.RS_REF_STAT_CONTESTED a, F.RS_REF_STAT_CONTESTED b, F.RS_EVT_CONTEST])))) ∧
  (∀ s : State, s.power = .run → s.on F.PM_STAT_DIP = true → Does .rsDisagreeCompare s fun t => Frame { s with rs := t.rs } t [])

/-- A schedule point, a step, a missed update and a lockstep error change the time synthesizer as stated. In the Run state. TK_UPDATE counts the schedule point; after the selector's part of it (s'), a core that does not run, or a step that waits, leaves all else; with no step, time set or switch of tick pending: in MANUAL the core is in MANUAL, and outside a dip episode takes the slew from what is left, within SLEW_MAX, and the frequency word is TK_MAN_FREQ less the slew; in AUTO with no reference active the core is in HOLDOVER, y grows by dd over 1/16 s, and the frequency word is -(y + tc); each word saturates. STEP_APPLY with every calendar empty adds the decided step, or sets the time decided, ends it and resumes granting; while a slot is booked, or with no step decided, it does nothing. UPDATE_MISS of a live core counts the point and the miss and leaves the frequency word; with MISS_SWITCH = 1 outside a dip it triggers a switchover of cause 3. LOCKSTEP_MISMATCH counts in LS_ERR, owes Moraine the allowance and leaves time and frequency word; the third within 1 s sets LS_FAIL. (R109, R112, R116, R119, R121, R127) -/
def Obligations.UpdatesStepsAndLockstepErrors : Prop :=
  (∀ s : State, s.power = .run → let s' := s.beginUpdate
    let k := s'.core
    Does .tkUpdate s fun t => t.tk.points = s.tk.points + 1 ∧ (s'.coreLive = false ∨ s'.tk.step.isSome = true → Frame s' t []) ∧
      (k < 2 → s'.coreLive = true → s'.tk.step = none → s'.tk.setTime = none → s'.tb.migStep ≠ 4 →
        (s'.get F.TK_CTL_MODE = 1 → t.get (F.TK_STAT_STATE k) = 4 ∧
          (s'.on F.PM_STAT_DIP = true → t.getI (F.TK_SLEW_LEFT_LEFT k) = s'.getI (F.TK_SLEW_LEFT_LEFT k) ∧
            t.getI F.TK_TS_FREQ_FREQ = freqSat (s'.getI F.TK_MAN_FREQ_FREQ)) ∧
          (s'.on F.PM_STAT_DIP = false → let left := s'.getI (F.TK_SLEW_LEFT_LEFT k)
            let slew := clampI (-s'.slewMax) s'.slewMax (left * 2 ^ 20)
            t.getI (F.TK_SLEW_LEFT_LEFT k) = clampI (-2 ^ 63) (2 ^ 63 - 1) (left - roundDiv slew (2 ^ 20)) ∧
            t.getI F.TK_TS_FREQ_FREQ = freqSat (s'.getI F.TK_MAN_FREQ_FREQ - slew))) ∧
        (s'.get F.TK_CTL_MODE ≠ 1 → s'.on F.RS_STAT_HOLD = true → t.get (F.TK_STAT_STATE k) = 3 ∧
          t.getI (F.TK_MODEL_Y_Y k) = clampI (-2 ^ 63) (2 ^ 63 - 1) (s'.getI (F.TK_MODEL_Y_Y k) + roundDiv (s'.getI (F.TK_MODEL_DD_DD k)) 16) ∧
          t.getI F.TK_TS_FREQ_FREQ = freqSat (-(t.getI (F.TK_MODEL_Y_Y k) + s'.tempTerm))))) ∧
  (∀ s : State, s.power = .run → s.core < 2 →
    (∀ p : StepPlan, s.tk.step = some p → s.calendarsEmpty = true → Does .stepApply s fun t => t.tk.step = none ∧
      (∀ q < 6, t.get (F.AP_PORT_STAT_HOLD q) = 0) ∧
      (p.soft = none → t.now = ((s.now : Int) + p.delta).toNat ∧ t.get (F.TK_EVT_STEP s.core) = 1 ∧
        (p.setsTime = true → t.get (F.TK_STAT_TIME_SET s.core) = 1)) ∧
      (∀ time, p.soft = some time → t.now = time ∧ t.get (F.TK_EVT_TIME_SET s.core) = 1 ∧ t.get (F.TK_STAT_TIME_SET s.core) = 1)) ∧
    (s.tk.step = none ∨ s.calendarsEmpty = false → Does .stepApply s fun t => Frame s t [])) ∧
  (∀ s : State, s.power = .run → let s' := s.beginUpdate
    let k := s'.core
    Does .updateMiss s fun t => t.tk.points = s.tk.points + 1 ∧ (s'.coreLive = false → Frame s' t []) ∧
      (k < 2 → s'.coreLive = true → t.get F.TK_TS_FREQ_FREQ = s'.get F.TK_TS_FREQ_FREQ ∧ t.get (F.TK_EVT_UPD_MISS k) = 1 ∧
        t.get (F.TK_MISS_UPD_MISS k) = min (s'.get (F.TK_MISS_UPD_MISS k) + 1) (2 ^ 16 - 1) ∧
        (s'.on F.TK_CTL_MISS_SWITCH = false ∨ s'.on F.PM_STAT_DIP = true → Frame s' t [F.TK_MISS_UPD_MISS k, F.TK_EVT_UPD_MISS k] ∧
          Logs s' t 0x0401 0x05 k 0) ∧
        (s'.on F.TK_CTL_MISS_SWITCH = true → s'.on F.PM_STAT_DIP = false → s'.on F.RD_STAT_SW = false → t.get F.RD_STAT_LAST_CAUSE = 3))) ∧
  (∀ s : State, s.power = .run → s.core < 2 → let near := s.tk.lsTimes.filter (fun x => decide (s.now ≤ x + tuSec))
    Does .lockstepMismatch s fun t => Allowance.lockstep ∈ t.mb.owed ∧ t.now = s.now ∧ t.get F.TK_TS_FREQ_FREQ = s.get F.TK_TS_FREQ_FREQ ∧
      t.get F.TK_TS_STAT_LS_ERR = min (s.get F.TK_TS_STAT_LS_ERR + 1) (2 ^ 16 - 1) ∧ t.get (F.TK_EVT_LS_ERR s.core) = 1 ∧
      (near.length < 2 → Logs s t 0x0403 0x05 s.core 0 ∧
        Frame { s with mb.owed := s.mb.owed ++ [.lockstep], tk.lsTimes := (s.now :: near).take 2 } t [F.TK_TS_STAT_LS_ERR, F.TK_EVT_LS_ERR s.core]) ∧
      (2 ≤ near.length → t.get F.TK_TS_STAT_LS_FAIL = 1))

/-- Manual mode is entered and left, takes a phase and a time, and the temperature fit is renewed. In the Run state, each write served. TK_MODE_WRITE writes every field of TK_CTL, and a change into or out of MANUAL logs event 0x0408 with argument 0. In MANUAL, TK_MAN_PHASE adds to what is left to slew, saturating, TK_SET_NSF is held, and TK_SET_SEC completes the pair for the next update, or drops it whole where its NS exceeds 999,999,999; with no NSF held, the pair takes the NSF it took last (the model's choice, log entry 51). Outside MANUAL each of the three changes nothing but event 0x0408 with argument 1. TEMPCO_REFIT with learning and a whole day of tracking sets C, A_REF and LEARNED; what the day's samples do not determine of the line is a free value. The day's sums start afresh in every case, and nothing else changes. (R24, R25, R114, R116, R121) -/
def Obligations.ManualModeWritesAndTemperatureFit : Prop :=
  (∀ (s : State) (path : Path) (v : Word), s.power = .run → s.judge path F.TK_CTL_MODE.off true = .served →
    Does (.tkModeWrite path v) s fun t => (∀ f ∈ fieldsAt F.TK_CTL_MODE.off, t.get f = f.ofWord v) ∧
      Frame s t (F.TK_EVT_MODE s.core :: fieldsAt F.TK_CTL_MODE.off) ∧
      (¬(s.get F.TK_CTL_MODE = 1 ↔ F.TK_CTL_MODE.ofWord v = 1) → Logs s t 0x0408 (F.TK_EVT_MODE s.core).window s.core 0) ∧
      ((s.get F.TK_CTL_MODE = 1 ↔ F.TK_CTL_MODE.ofWord v = 1) → LogsNone s t)) ∧
  (∀ (s : State) (path : Path) (v : Word), s.power = .run → s.judge path F.TK_MAN_PHASE_PHASE.off true = .served →
    s.get F.TK_CTL_MODE = 1 → Does (.tkManPhaseWrite path v) s fun t =>
      t.getI (F.TK_SLEW_LEFT_LEFT s.core) = clampI (-2 ^ 63) (2 ^ 63 - 1) (s.getI (F.TK_SLEW_LEFT_LEFT s.core) + v.toInt) ∧
      Frame s t [F.TK_SLEW_LEFT_LEFT s.core, F.TK_STAT_SLEWING s.core]) ∧
  (∀ (s : State) (path : Path) (v : Word), s.power = .run → s.judge path F.TK_SET_NSF_NS.off true = .served → s.get F.TK_CTL_MODE = 1 →
    Does (.tkSetNsfWrite path v) s fun t => Frame { s with tk.heldNsf := some v.toNat } t []) ∧
  (∀ (s : State) (path : Path) (v : Word), s.power = .run → s.judge path F.TK_SET_SEC_SEC.off true = .served → s.get F.TK_CTL_MODE = 1 →
    let nsf := s.tk.heldNsf.getD s.tk.setNsf
    (nsf / 2 ^ 32 ≤ 999999999 → Does (.tkSetSecWrite path v) s fun t =>
      Frame { s with tk.setTime := some (timeOf (v.toNat % 2 ^ 48) nsf), tk.heldNsf := none, tk.setNsf := nsf } t []) ∧
    (999999999 < nsf / 2 ^ 32 → Does (.tkSetSecWrite path v) s fun t => Frame { s with tk.heldNsf := none } t [])) ∧
  (∀ (s : State) (path : Path) (v : Word), s.power = .run → s.get F.TK_CTL_MODE ≠ 1 → s.judge path F.TK_MAN_PHASE_PHASE.off true = .served →
    ∀ c ∈ [Instr.tkManPhaseWrite path v, .tkSetNsfWrite path v, .tkSetSecWrite path v], Does c s fun t =>
      Frame s t [F.TK_EVT_MODE s.core] ∧ Logs s t 0x0408 (F.TK_EVT_MODE s.core).window s.core 1) ∧
  (∀ s : State, s.power = .run → Does .tempcoRefit s fun t =>
    (t.tk.fitN, t.tk.fitA, t.tk.fitY, t.tk.fitAA, t.tk.fitAY) = (0, 0, 0, 0, 0) ∧
    (s.on F.TK_CTL_TEMPCO_LEARN = true → s.tk.dayTrack = true → t.get F.TK_TEMPCO_LEARNED = 1 ∧
      Frame { s with tk := t.tk, free := t.free } t [F.TK_TEMPCO_C, F.TK_TEMPCO_A_REF, F.TK_TEMPCO_LEARNED, F.TK_EVT_TEMPCO s.core] ∧
      Logs s t 0x0409 (F.TK_EVT_TEMPCO s.core).window s.core 0 ∧
      (∀ (c : Int) (a : Option Int), s.tempFit = some (c, a) → t.getI F.TK_TEMPCO_C = c ∧
        t.get F.TK_TEMPCO_A_REF = (a.map Int.toNat).getD ((Config.freeValue s.free).toNat % 2 ^ 12)) ∧
      (s.tempFit = none → t.get F.TK_TEMPCO_C = (Config.freeValue s.free).toNat % 2 ^ 32 ∧
        t.get F.TK_TEMPCO_A_REF = (Config.freeValue (s.free + 1)).toNat % 2 ^ 12)) ∧
    (s.on F.TK_CTL_TEMPCO_LEARN = false ∨ s.tk.dayTrack = false → Frame { s with tk := t.tk } t []))

/-- A checkpoint goes into the alternate Firn slot, leaving the rest of the store, and a missed one is counted. In the Run state with a live core. CHECKPOINT_WRITE writes the checkpoint's bytes into the next slot and no other byte of the Firn store, the slots alternate and SEQ rises; sealed, its last word is its CRC-32C and TK_CKPT_SEQ takes its number; unsealed, that word is 0 and it holds the port. CHECKPOINT_MISS of a checkpoint not sealed at the next checkpoint instant counts in CKPT_MISS with event 0x0402. CKPT_PORT_REVOKE frees the port once 10 µs have passed since the write began; before that, and a miss before the instant or without an unsealed checkpoint, changes nothing. Without a live core a write or a miss changes nothing. (R122, R126, R329) -/
def Obligations.CheckpointsAreWrittenSealedAndMissed : Prop :=
  (∀ (s : State) (sealed : Bool), s.power = .run → s.coreLive = true → let slot := s.tk.nextSlot
    let body := s.ckptBody s.tk.nextSeq
    Does (.checkpointWrite sealed) s fun t => t.tk.nextSlot = 1 - slot ∧ t.tk.nextSeq = s.tk.nextSeq + 1 ∧ t.tk.ckptBusy = (!sealed) ∧
      t.tk.unsealed = (if sealed then none else some slot) ∧ t.tk.ckptAt = s.now ∧
      t.firn = writeBytes s.firn (slot * 0x1000) (body ++ if sealed then le8 (crc32c body) else zeros 8) ∧
      (∀ a : Nat, a < slot * 0x1000 ∨ slot * 0x1000 + 0x1000 ≤ a → byteAt t.firn a = byteAt s.firn a) ∧
      t.get (F.TK_STAT_SLOT s.core) = slot % 2 ∧
      (sealed = true → t.get (F.TK_CKPT_SEQ_SEQ s.core) = s.tk.nextSeq % 2 ^ 64 ∧
        Frame { s with firn := t.firn, tk := t.tk, wire.ports := t.wire.ports, rd.mateSeq := t.rd.mateSeq } t [F.TK_STAT_SLOT s.core, F.TK_CKPT_SEQ_SEQ s.core]) ∧
      (sealed = false → Frame { s with firn := t.firn, tk := t.tk } t [F.TK_STAT_SLOT s.core])) ∧
  (∀ s : State, s.power = .run → s.coreLive = true → s.tk.unsealed.isSome = true → s.ckptInstant = true → Does .checkpointMiss s fun t =>
    t.get (F.TK_MISS_CKPT_MISS s.core) = min (s.get (F.TK_MISS_CKPT_MISS s.core) + 1) (2 ^ 16 - 1) ∧
    Frame { s with tk.unsealed := none } t [F.TK_MISS_CKPT_MISS s.core, F.TK_EVT_CKPT_MISS s.core] ∧
    Logs s t 0x0402 (F.TK_EVT_CKPT_MISS s.core).window s.core 0) ∧
  (∀ s : State, s.power = .run → s.tk.unsealed = none ∨ s.ckptInstant = false → Does .checkpointMiss s fun t => Frame s t []) ∧
  (∀ s : State, s.power = .run → (s.tk.ckptAt + 10 * tuUs < s.now → Does .ckptPortRevoke s fun t => Frame { s with tk.ckptBusy := false } t []) ∧
    (s.now ≤ s.tk.ckptAt + 10 * tuUs → Does .ckptPortRevoke s fun t => Frame s t [])) ∧
  (∀ s : State, s.power = .run → s.coreLive = false → ∀ c ∈ [Instr.checkpointWrite true, .checkpointWrite false, .checkpointMiss],
    Does c s fun t => Frame s t [])

/-- A switchover trigger fences the active core, the target resumes, and without a standby the part enters orphan hold. In the Run state. SELF_CHECK_MISMATCH (cause 1) and CONTROL_FLOW_WATCHDOG (cause 2) with a live active core and no switchover in progress: it is FAILED and no longer active, the cause and the moment are kept, the time synthesizer is held, Moraine owes the allowance; with a standby available the other core starts and SW = 1, else orphan hold begins. RD_SWITCH_WRITE, served with GO = 1: refused with its reason in event 0x0A07 for a wrong CONFIRM, a switchover in progress or no standby, else it triggers cause 6, or in orphan hold starts the standby core; with GO = 0 it changes nothing. SWITCHOVER_RESUME with a valid checkpoint makes the target the active core in the state that MODE and HOLD ask for, with the checkpoint's drift and, no point missed, its rate, releases the hold, counts the switchover and its gap and ends an orphan hold that it was to end; with none the target fails and orphan hold begins. CORE_SELFTEST_COMPLETE once 20 ms have passed returns a core that passes, where a valid checkpoint exists, to STANDBY with event 0x0A05, or starts it where orphan hold ends on its own, else writes event 0x0A06; before that it changes nothing. (R321, R322, R323, R324, R325, R327, R328, R343) -/
def Obligations.SwitchoverFencesAndResumes : Prop :=
  (∀ s : State, s.power = .run → s.core < 2 → s.coreLive = true → s.on F.RD_STAT_SW = false →
    ∀ e ∈ [(Instr.selfCheckMismatch, 1), (Instr.controlFlowWatchdog, 2)], Does e.1 s fun t =>
      t.get (F.TK_STAT_STATE s.core) = 5 ∧ t.get (F.TK_STAT_ACTIVE s.core) = 0 ∧ t.get F.RD_STAT_LAST_CAUSE = e.2 ∧ t.get F.TK_TS_STAT_HELD = 1 ∧
      t.rd.trigAt = s.now ∧ t.mb.owed = s.mb.owed ++ [.switch] ∧ t.get F.RD_EVT_TRIG = 1 ∧
      (s.on F.RD_STAT_SB_AVAIL = true → t.get F.RD_STAT_SW = 1 ∧ t.get F.RD_STAT_SB_AVAIL = 0 ∧ t.get (F.TK_STAT_STATE (1 - s.core)) = 1 ∧
        (s.get F.RD_RIME_STAT_STATE ≠ 1 → Logs s t 0x0A01 0x13 s.core (e.2 + s.core * 16))) ∧
      (s.on F.RD_STAT_SB_AVAIL = false → t.get F.RD_STAT_SW = 0 ∧ t.on F.RD_STAT_ORPHAN = true)) ∧
  (∀ (s : State) (path : Path) (v : Word), s.power = .run → s.judge path F.RD_SWITCH_GO.off true = .served →
    let refused (reason : Nat) := Does (.rdSwitchWrite path v) s fun t =>
      Frame s t [F.RD_EVT_SW_REJ] ∧ t.get F.RD_EVT_SW_REJ = 1 ∧ Logs s t 0x0A07 0x13 0 reason
    (F.RD_SWITCH_GO.ofWord v = 0 → Does (.rdSwitchWrite path v) s fun t => Frame s t []) ∧
    (F.RD_SWITCH_GO.ofWord v = 1 → F.RD_SWITCH_CONFIRM.ofWord v ≠ 0x3C → refused 3) ∧
    (F.RD_SWITCH_GO.ofWord v = 1 → F.RD_SWITCH_CONFIRM.ofWord v = 0x3C →
      (s.on F.RD_STAT_SW = true → refused 2) ∧
      (s.on F.RD_STAT_SW = false → s.on F.RD_STAT_ORPHAN = false → s.on F.RD_STAT_SB_AVAIL = false → refused 1) ∧
      (s.on F.RD_STAT_SW = false → s.on F.RD_STAT_ORPHAN = true → s.standbyCore = none → refused 1) ∧
      (s.on F.RD_STAT_SW = false → s.on F.RD_STAT_ORPHAN = false → s.on F.RD_STAT_SB_AVAIL = true → s.core < 2 → s.coreLive = true →
        Does (.rdSwitchWrite path v) s fun t => t.get F.RD_STAT_SW = 1 ∧ t.get F.RD_STAT_LAST_CAUSE = 6 ∧ t.rd.hostSwitch = some s.core ∧
          t.get (F.TK_STAT_STATE s.core) = 5 ∧ t.get (F.TK_STAT_STATE (1 - s.core)) = 1) ∧
      (∀ k, s.on F.RD_STAT_SW = false → s.on F.RD_STAT_ORPHAN = true → s.standbyCore = some k →
        Does (.rdSwitchWrite path v) s fun t => t.get F.RD_STAT_SW = 1 ∧ t.get (F.TK_STAT_STATE k) = 1 ∧
          Frame { s with rd.exiting := true, rd.trigAt := s.now } t [F.RD_STAT_SW, F.TK_STAT_STATE k, F.RD_STAT_SB_AVAIL]))) ∧
  (∀ s : State, s.power = .run → s.on F.RD_STAT_SW = true → (∀ a, s.rd.hostSwitch = some a → a < 2 ∧ a ≠ s.target) →
    (∀ (slot : Nat) (b : List Byte), s.newestCheckpoint = some (slot, b) → Does .switchoverResume s fun t => t.get (F.TK_STAT_ACTIVE s.target) = 1 ∧
      t.get F.RD_STAT_ACTIVE_CORE = s.target ∧ t.get F.RD_STAT_SW = 0 ∧ t.get F.TK_TS_STAT_HELD = 0 ∧
      t.get (F.TK_STAT_STATE s.target) = s.startedState ∧ t.get (F.TK_MODEL_DD_DD s.target) = at8 b 0x40 ∧
      (s.tk.points = s.tk.ckptPoint → t.get (F.TK_MODEL_Y_Y s.target) = at8 b 0x38) ∧
      t.get F.RD_STAT_LAST_GAP = min ((s.now - s.rd.trigAt) / tuUs) (2 ^ 16 - 1) ∧ t.get F.RD_EVT_DONE = 1 ∧
      t.get F.RD_STAT_SW_COUNT = min (s.get F.RD_STAT_SW_COUNT + 1) (2 ^ 16 - 1) ∧ (s.rd.exiting = true → t.get F.RD_STAT_ORPHAN = 0)) ∧
    (s.newestCheckpoint = none → Does .switchoverResume s fun t => t.get (F.TK_STAT_STATE s.target) = 5 ∧ t.get F.RD_STAT_SW = 0 ∧
      t.on F.RD_STAT_ORPHAN = true)) ∧
  (∀ (s : State) (k : Fin 2) (pass : Bool), s.power = .run →
    (s.tested k = false → Does (.coreSelftestComplete k pass) s fun t => Frame s t []) ∧
    (s.tested k = true → Does (.coreSelftestComplete k pass) s fun t => t.rd.testing.getD k none = none ∧
      (pass = true → s.newestCheckpoint.isSome = true → t.get F.RD_EVT_SELFTEST_OK = 1 ∧ Logs s t 0x0A05 0x13 k 0 ∧
        (s.on F.RD_STAT_ORPHAN = false ∨ s.on F.RD_STAT_SW = true ∨ s.on F.RD_CFG_ORPHAN_AUTO = false → t.get (F.TK_STAT_STATE k) = 0 ∧
          Frame { s with rd.testing := t.rd.testing } t [F.TK_STAT_STATE k, F.RD_STAT_SB_AVAIL, F.RD_EVT_SELFTEST_OK]) ∧
        (s.on F.RD_STAT_ORPHAN = true → s.on F.RD_STAT_SW = false → s.on F.RD_CFG_ORPHAN_AUTO = true →
          t.get (F.TK_STAT_STATE k) = 1 ∧ t.get F.RD_STAT_SW = 1)) ∧
      (pass = false ∨ s.newestCheckpoint = none → Frame { s with rd.testing := t.rd.testing } t [F.RD_EVT_SELFTEST_FAIL] ∧
        Logs s t 0x0A06 0x13 k (if pass then 2 else 1))))

/-- A publication writes its registers together, and a missed or stale one shows and ages as stated. In the Run state. MB_PUBLICATION: STALE is 0, SEQ rises by one, the published time is the schedule point, STATE is the one R151 gives, the bound is at most "unbounded", UNB is 1 exactly where it is unbounded; it is unbounded while the active core's TIME_SET is 0, and out of TRACK where it was unbounded and no checkpoint's P0 waits; else it is the sum of its eight components; no allowance stays owed. PUBLICATION_MISS sets STALE and its flag and counts. STALE_REEVALUATE of a stale publication takes a later map entry that its bound at this instant matches, and no other register of Moraine changes; of a fresh one it changes nothing. STALE_MAX_EXPIRY writes event 0x0419 once per stale publication whose age exceeds STALE_MAX, and else changes nothing. MB_REF_CAL_WRITE, served, writes the slot's values, with a trace record where the slot is active. (R28, R120, R150, R151, R152, R157, R158, R160, R164, R168) -/
def Obligations.PublicationBoundsAreConsistent : Prop :=
  (∀ s : State, s.power = .run → Does .mbPublication s fun t => t.get F.MB_STAT_STALE = 0 ∧
    t.get F.MB_STAT_SEQ = (s.get F.MB_STAT_SEQ + 1) % 2 ^ 32 ∧ t.get F.MB_PUB_SEC_SEC = s.point / 16 % 2 ^ 48 ∧
    t.get F.MB_PUB_NSF_NSF = s.point % 16 * 62500000 * 2 ^ 32 ∧ t.get F.MB_STAT_STATE = s.mbStateNow % 4 ∧ t.get F.MB_BOUND_BOUND ≤ unbounded ∧
    t.on F.MB_STAT_UNB = (t.get F.MB_BOUND_BOUND == unbounded) ∧ t.mb.owed = [] ∧
    (s.on (F.TK_STAT_TIME_SET s.core) = false → t.get F.MB_BOUND_BOUND = unbounded) ∧
    (s.on F.MB_STAT_UNB = true → s.mbStateNow ≠ 0 → s.mb.ckptP0 = none → t.get F.MB_BOUND_BOUND = unbounded) ∧
    (s.on (F.TK_STAT_TIME_SET s.core) = true → s.on F.MB_STAT_UNB = false ∨ s.mbStateNow = 0 ∨ s.mb.ckptP0.isSome = true → s.get F.RS_STAT_ACTIVE < 16 →
      (∀ f ∈ [F.MB_ALLOW_ACC_ACC, F.RS_CONTEST_DISAG, F.RS_REF_EXCESS_EXCESS (s.get F.RS_STAT_ACTIVE)], s.get f < 2 ^ 48) →
      t.get F.MB_BOUND_BOUND = boundSum ([F.MB_COMP_REF_REF, F.MB_COMP_MEAS_MEAS, F.MB_COMP_TRACK_TRACK, F.MB_COMP_HOLD_HOLD,
        F.MB_COMP_ALLOW_ALLOW, F.MB_COMP_EXCESS_EXCESS, F.MB_COMP_CONTEST_CONTEST, F.MB_COMP_COAST_COAST].map t.get))) ∧
  (∀ s : State, s.power = .run → Does .publicationMiss s fun t => t.get F.MB_STAT_STALE = 1 ∧
    t.get F.MB_MISS_PUB_MISS = min (s.get F.MB_MISS_PUB_MISS + 1) (2 ^ 16 - 1) ∧ t.get F.MB_EVT_PUB_MISS = 1 ∧
    Frame s t [F.MB_STAT_STALE, F.MB_MISS_PUB_MISS, F.MB_EVT_PUB_MISS] ∧ Logs s t 0x0410 0x06 0 0) ∧
  (∀ s : State, s.power = .run → s.on F.MB_STAT_STALE = true → let m := s.mapMatch (s.get F.MB_STAT_STATE) (s.boundAt s.now)
    Does .staleReevaluate s fun t => t.mb = s.mb ∧ (s.mapEntry < m → t.mapEntry = m ∧ t.get F.MB_EVT_MAP = 1) ∧
      (m ≤ s.mapEntry → t.get F.MB_STAT_MAP = s.get F.MB_STAT_MAP) ∧
      (∀ f : Fld, f.key / 4194304 = 0x06 → f.key ∉ [F.MB_STAT_MAP.key, F.MB_EVT_MAP.key] → t.get f = s.get f)) ∧
  (∀ s : State, s.power = .run → s.on F.MB_STAT_STALE = false → ∀ c ∈ [Instr.staleReevaluate, .staleMaxExpiry], Does c s fun t => Frame s t []) ∧
  (∀ s : State, s.power = .run → s.on F.MB_STAT_STALE = true →
    (s.mb.staleMax = false → s.staleLimit < s.pubAge s.now → Does .staleMaxExpiry s fun t =>
      Frame { s with mb.staleMax := true } t [F.MB_EVT_STALE_MAX] ∧ t.get F.MB_EVT_STALE_MAX = 1 ∧ Logs s t 0x0419 0x06 0 0) ∧
    (s.mb.staleMax = true ∨ s.pubAge s.now ≤ s.staleLimit → Does .staleMaxExpiry s fun t => Frame s t [])) ∧
  (∀ (s : State) (path : Path) (n : Fin 16) (v : Word), s.power = .run → s.judge path (F.MB_REF_CAL_UNC n).off true = .served →
    let fields := [F.MB_REF_CAL_UNC n, F.MB_REF_CAL_REC_ID n, F.MB_REF_CAL_ST n, F.MB_REF_CAL_ST_EN n]
    Does (.mbRefCalWrite path n v) s fun t => fields.map t.get = fields.map (fun f => f.ofWord v) ∧
      (s.activeSlot = some n.val → t.get F.MB_EVT_TRACE = 1 ∧ Logs s t 0x0413 0x06 0 t.traceArg ∧ Frame s t (F.MB_EVT_TRACE :: fields)) ∧
      (s.activeSlot ≠ some n.val → LogsNone s t ∧ Frame s t fields))

/-- An attestation is built at the hour, signed or failed, and its status read latches it. In the Run state. ATTESTATION_START begins the hour's extremes at the bound as served now; with ATT_EN = 1 it takes the next number, and where the key of slot 0 may sign, the 96-byte message waits for the signer, else the record of the hour before is lost, VALID is 0 and event flag ATT_FAIL is set; with ATT_EN = 0 nothing else changes. ATTESTATION_COMPLETE of a waiting message: signed, VALID is 1, SEQ is the number, the record is the message and the first 64 bytes of the signer's answer, and event 0x0416 carries the number; failed, the record is lost, VALID is 0 and event 0x0417 is written; with no message waiting it changes nothing. MB_ATT_STAT_READ, served, sends the status word and latches the record's words. The signature itself is an opaque function of key and message (the model's choice, log entry 2). (R169, R171, R173) -/
def Obligations.AttestationsAreSignedAndLatched : Prop :=
  let record := (List.range 20).map F.MB_ATT_DATA
  let lost (t : State) := t.mb.signing = none ∧ t.get F.MB_ATT_STAT_VALID = 0 ∧ t.get F.MB_EVT_ATT_FAIL = 1 ∧ ∀ f ∈ record, t.get f = 0
  (∀ s : State, s.power = .run → s.on F.MB_CFG_ATT_EN = true → Does .attestationStart s fun t => t.mb.attSeq = s.mb.attSeq + 1 ∧
    t.mb.hourMax = s.boundAt s.now ∧ t.mb.hourMin = s.boundAt s.now ∧
    (s.keyCheck 9 0 [4] 25 = 0 → t.mb.signing = some s.attestMessage ∧ Frame { s with mb := t.mb } t []) ∧
    (s.keyCheck 9 0 [4] 25 ≠ 0 → lost t ∧
      Frame { s with mb := t.mb } t ([F.MB_ATT_STAT_VALID, F.MB_ATT_STAT_SEQ, F.MB_EVT_ATT_FAIL, F.KV_CNT_DENY, F.KV_EVT_DENY] ++ record))) ∧
  (∀ s : State, s.power = .run → s.on F.MB_CFG_ATT_EN = false → Does .attestationStart s fun t =>
    Frame { s with mb.hourMax := s.boundAt s.now, mb.hourMin := s.boundAt s.now } t []) ∧
  (∀ s : State, s.power = .run → ∀ m : List Byte, s.mb.signing = some m →
    (Does (.attestationComplete true) s fun t => t.get F.MB_ATT_STAT_VALID = 1 ∧ t.get F.MB_ATT_STAT_SEQ = s.mb.attSeq % 2 ^ 32 ∧
      (∀ w < 20, t.get (F.MB_ATT_DATA w) = at8 (m ++ (Config.signature (attrType (s.slotAttr 0)) (readCell 0 [] s.kv.slots) m).take 64) (8 * w)) ∧
      t.get F.MB_EVT_ATT = 1 ∧ Logs s t 0x0416 0x06 0 s.mb.attSeq ∧
      Frame { s with mb.signing := none } t ([F.MB_ATT_STAT_VALID, F.MB_ATT_STAT_SEQ, F.MB_EVT_ATT] ++ record)) ∧
    (Does (.attestationComplete false) s fun t => lost t ∧ Logs s t 0x0417 0x06 0 0 ∧
      Frame { s with mb.signing := none } t ([F.MB_ATT_STAT_VALID, F.MB_ATT_STAT_SEQ, F.MB_EVT_ATT_FAIL] ++ record))) ∧
  (∀ (s : State) (ok : Bool), s.power = .run → s.mb.signing = none → Does (.attestationComplete ok) s fun t => Frame s t []) ∧
  (∀ (s : State) (path : Path), s.power = .run → s.judge path F.MB_ATT_STAT_VALID.off false = .served → Does (.mbAttStatRead path) s fun t =>
    Sends s t (.readData F.MB_ATT_STAT_VALID.off (BitVec.ofNat 64 (s.word (fieldsAt F.MB_ATT_STAT_VALID.off)))) ∧
    (∀ f ∈ record, readCell f.off 0 t.latches = s.word (fieldsAt f.off)) ∧ Frame { s with latches := t.latches } t [])

/-- A lane's state follows its register, its signal and its block lock, and LINK follows the state. In the Run state. A served write of LN_LANEn_CFG takes EN, IDLE and AN and leaves MODE, FEC, TRAIN and the other lanes; EN = 0 gives OFF; EN = 1 with IDLE = 1, or on a client lane that a STANDBY chip gates, gives IDLE; else OFF becomes DOWN, IDLE becomes HUNT and any other state stays. LN5 in 1000BASE-X with AN advertises PAUSE and ASM_DIR equal to PAUSE_RX_EN. LN_IDLE_ENTER puts an enabled lane that is not OFF into IDLE, silent, and LN_IDLE_EXIT an idle one into HUNT. Signal lets a DOWN lane hunt that nothing keeps there; a loss is remembered, and lasting it takes a hunting or locked lane DOWN, with its static taps and its latency calibration begun. A hunting lane locks after LOCK_CNT valid headers in a row, in 1000BASE-X as clause 36 decides; an invalid one starts the run afresh. A locked lane unlocks at UNLOCK_BAD invalid ones, counts it, returns to HUNT and clears LINK, with event 0x0602 and cause 2 where it was set; valid ones keep it. Invalid headers count in BAD_HDR; after a reported loss nothing is judged. (R190, R192, R194, R197, R201, R204, R219, R333) -/
def Obligations.LanesAreEnabledIdledLockedAndLost : Prop :=
  (∀ (s : State) (path : Path) (n : Fin 6) (v : Word), s.power = .run → s.judge path (F.LN_LANE_CFG_EN n).off true = .served →
    let idle := (F.LN_LANE_CFG_IDLE n).ofWord v = 1 ∨ s.clientGated n = true
    (Does (.lnLaneCfgWrite path n v) s fun t =>
      (∀ f ∈ [F.LN_LANE_CFG_EN n, F.LN_LANE_CFG_IDLE n, F.LN_LANE_CFG_AN n], t.get f = f.ofWord v) ∧
      (∀ f ∈ [F.LN_LANE_CFG_MODE n, F.LN_LANE_CFG_FEC n, F.LN_LANE_CFG_TRAIN n], t.get f = s.get f) ∧
      (∀ m : Fin 6, m ≠ n → t.lane m = s.lane m ∧ t.laneState m = s.laneState m) ∧ t.on (F.LN_LANE_STAT_LINK n) = t.linkDue n ∧
      ((F.LN_LANE_CFG_EN n).ofWord v = 0 → t.laneState n = laneOff) ∧
      ((F.LN_LANE_CFG_EN n).ofWord v = 1 → (idle → t.laneState n = laneIdle) ∧
        (¬idle → t.laneState n = if s.laneState n = laneOff then laneDown else if s.laneState n = laneIdle then laneHunt else s.laneState n)) ∧
      (n.val = 5 → s.laneMode 5 = 3 → (F.LN_LANE_CFG_AN n).ofWord v = 1 →
        t.pauseAdvert = some (s.on (F.MAC_PORT_CFG_PAUSE_RX_EN 5), s.on (F.MAC_PORT_CFG_PAUSE_RX_EN 5)))) ∧
    (s.on (F.LN_LANE_CFG_EN n) = true → s.laneState n ≠ laneOff → s.laneState n ≠ laneIdle → Does (.lnIdleEnter path n) s fun t =>
      t.laneState n = laneIdle ∧ t.get (F.LN_LANE_CFG_IDLE n) = 1 ∧ t.get (F.LN_LANE_STAT_LINK n) = 0 ∧ t.lineOut n = .quiet ∧
      (s.on (F.LN_LANE_STAT_LINK n) = true → Logs s t 0x0602 0x09 n 5)) ∧
    (s.on (F.LN_LANE_CFG_EN n) = true → s.laneState n = laneIdle → s.clientGated n = false → Does (.lnIdleExit path n) s fun t =>
      t.get (F.LN_LANE_CFG_IDLE n) = 0 ∧ t.laneState n = laneHunt ∧
      Frame (s.setLane n (fun l => { l with trained := true, goodRun := 0, idleExit := some s.now })) t [F.LN_LANE_CFG_IDLE n, F.LN_LANE_STAT_STATE n])) ∧
  (∀ (s : State) (n : Fin 6), s.power = .run →
    (Does (.lnSignalPresent n) s fun t => (t.lane n).signal = true ∧ (t.lane n).loss = false ∧
      Frame { s with wire.lanes := t.wire.lanes } t [F.LN_LANE_STAT_STATE n] ∧
      (s.laneState n = laneDown → s.on (F.AP_PORT_STAT_CAL_BUSY n) = false → s.on (F.LN_LANE_STAT_TXRST n) = false →
        s.on (F.LN_LANE_CFG_TRAIN n) = false ∨ (s.lane n).trained = true → t.laneState n = laneHunt) ∧
      (s.laneState n ≠ laneDown → t.laneState n = s.laneState n)) ∧
    (Does (.lnSignalLoss n) s fun t => Frame (s.setLane n (fun l => { l with loss := true })) t []) ∧
    ((s.lane n).loss = false → Does (.lnSignalAbsentTimeout n) s fun t => Frame s t []) ∧
    ((s.lane n).loss = true → s.laneState n = laneHunt ∨ s.laneState n = laneLocked → Does (.lnSignalAbsentTimeout n) s fun t =>
      t.laneState n = laneDown ∧ t.get (F.LN_LANE_STAT_LINK n) = 0 ∧ t.get (F.AP_PORT_STAT_CAL_BUSY n) = 1 ∧ (t.lane n).signal = false ∧
      t.get (F.LN_LANE_EQ_T_PRE n) = s.get (F.LN_LANE_EQ_PRE n) % 2 ^ 4 ∧ t.get (F.LN_LANE_EQ_T_MAIN n) = s.get (F.LN_LANE_EQ_MAIN n) % 2 ^ 6 ∧
      t.get (F.LN_LANE_EQ_T_POST n) = s.get (F.LN_LANE_EQ_POST n) % 2 ^ 5 ∧ (s.on (F.LN_LANE_STAT_LINK n) = true → Logs s t 0x0602 0x09 n 1)) ∧
    ((s.lane n).loss = true → s.laneState n ≠ laneHunt → s.laneState n ≠ laneLocked → Does (.lnSignalAbsentTimeout n) s fun t =>
      Frame (s.setLane n (fun l => { l with signal := false, loss := false })) t [])) ∧
  (∀ (s : State) (n : Fin 6) (headers : List Bool), s.power = .run →
    let bad := headers.count false
    let counted (t : State) := t.get (F.LN_LANE_CNT_HDR_BAD_HDR n) = min (s.get (F.LN_LANE_CNT_HDR_BAD_HDR n) + bad) (2 ^ 32 - 1)
    let locks := Does (.lnBlockLock n headers) s fun t => t.laneState n = laneLocked ∧ t.on (F.LN_LANE_STAT_LINK n) = t.linkDue n
    let unlocks := Does (.lnBlockLockLoss n headers) s fun t => t.laneState n = laneHunt ∧ counted t ∧
      t.get (F.LN_LANE_CNT_HDR_LOCK_LOSS n) = min (s.get (F.LN_LANE_CNT_HDR_LOCK_LOSS n) + 1) (2 ^ 32 - 1) ∧ t.get (F.LN_LANE_STAT_LINK n) = 0 ∧
      t.get (F.LN_LANE_STAT_FEC_LOCK n) = 0 ∧ (s.on (F.LN_LANE_STAT_LINK n) = true → Logs s t 0x0602 0x09 n 2)
    (s.laneState n ≠ laneHunt ∨ (s.lane n).loss = true → Does (.lnBlockLock n headers) s fun t => Frame s t []) ∧
    (s.laneState n ≠ laneLocked ∨ (s.lane n).loss = true → Does (.lnBlockLockLoss n headers) s fun t => Frame s t []) ∧
    (s.laneState n = laneHunt → (s.lane n).loss = false → bad ≠ 0 → Does (.lnBlockLock n headers) s counted) ∧
    (s.laneState n = laneLocked → (s.lane n).loss = false → bad ≠ 0 → Does (.lnBlockLockLoss n headers) s counted) ∧
    (s.laneState n = laneHunt → (s.lane n).loss = false → s.laneMode n = 3 → locks) ∧
    (s.laneState n = laneHunt → (s.lane n).loss = false → s.laneMode n ≠ 3 →
      (bad = 0 → headers ≠ [] → s.lockCount n ≤ (s.lane n).goodRun + headers.length → locks) ∧
      (bad = 0 → (s.lane n).goodRun + headers.length < s.lockCount n → Does (.lnBlockLock n headers) s fun t => t.laneState n = laneHunt ∧
        (t.lane n).goodRun = (s.lane n).goodRun + headers.length ∧ Frame { s with wire.lanes := t.wire.lanes } t []) ∧
      (headers = [false] → Does (.lnBlockLock n headers) s fun t =>
        Frame (s.setLane n (fun l => { l with goodRun := 0 })) t [F.LN_LANE_CNT_HDR_BAD_HDR n])) ∧
    (s.laneState n = laneLocked → (s.lane n).loss = false → s.laneMode n = 3 → unlocks) ∧
    (s.laneState n = laneLocked → (s.lane n).loss = false → s.laneMode n ≠ 3 →
      (headers = List.replicate (s.unlockBad n) false → unlocks) ∧
      (bad = 0 → Does (.lnBlockLockLoss n headers) s fun t => t.laneState n = laneLocked ∧ Frame { s with wire.lanes := t.wire.lanes } t [])))

/-- Training, FEC lock, received faults, auto-negotiation and low-power idle act on their lane. In the Run state. A training in progress that completes puts the taps found in force, clears STATIC, and a lane with signal hunts; one that times out writes event 0x0603, starts again from the static taps and, at the RETRYth failure in a row, goes on with them, STATIC = 1. FEC lock on a locked lane with FEC, and a fault received on a locked BASE-R lane, show in LN_LANEn_STAT, and LINK follows its conditions; with FEC lock lost the lane sends remote fault (that this is a local fault is DEDUCED, log entry 54), with a fault received idle. So LINK follows when auto-negotiation completes on LN5. Blocks that FEC decoded count, and in clause 108 an uncorrectable one marks its frame. LPI_ENTER, where port 5 may enter LPI, shows LPI_TX on LN5, which sends LPI; LPI_WAKE, where a frame or a slot calls for the line, clears it, and frames wait for TW; LPI received shows in LPI_RX, with event 0x0606 for the first on a client lane since link-up. A served write of LN_LANEn_EQ is taken where PRE + MAIN + POST is at most 63, and the taps in use follow it where they are the static ones, else event 0x0605 stands for it. What does not apply to the lane changes nothing. (R190, R192, R193, R194, R195, R196) -/
def Obligations.LaneTrainingFecFaultsAndLowPowerIdle : Prop :=
  let taps (n : Fin 6) := [F.LN_LANE_EQ_T_PRE n, F.LN_LANE_EQ_T_MAIN n, F.LN_LANE_EQ_T_POST n]
  let static (s t : State) (n : Fin 6) := t.get (F.LN_LANE_EQ_T_PRE n) = s.get (F.LN_LANE_EQ_PRE n) % 2 ^ 4 ∧
    t.get (F.LN_LANE_EQ_T_MAIN n) = s.get (F.LN_LANE_EQ_MAIN n) % 2 ^ 6 ∧ t.get (F.LN_LANE_EQ_T_POST n) = s.get (F.LN_LANE_EQ_POST n) % 2 ^ 5
  let frame (s t : State) (fs : List Fld) := Frame { s with wire.lanes := t.wire.lanes } t fs
  (∀ (s : State) (n : Fin 6), s.power = .run →
    (s.training n = true →
      (∀ (pre : BitVec 4) (main : BitVec 6) (post : BitVec 5), Does (.lnTrainingComplete n pre main post) s fun t =>
        t.get (F.LN_LANE_STAT_STATIC n) = 0 ∧ t.get (F.LN_LANE_EQ_T_PRE n) = pre.toNat ∧ t.get (F.LN_LANE_EQ_T_MAIN n) = main.toNat ∧
        t.get (F.LN_LANE_EQ_T_POST n) = post.toNat ∧ (t.lane n).trained = true ∧ (t.lane n).fails = 0 ∧
        ((s.lane n).signal = true → t.laneState n = laneHunt) ∧ frame s t (F.LN_LANE_STAT_STATIC n :: F.LN_LANE_STAT_STATE n :: taps n)) ∧
      ((s.lane n).fails + 1 < s.get (F.LN_LANE_EQ_RETRY n) → Does (.lnTrainingTimeout n) s fun t => (t.lane n).fails = (s.lane n).fails + 1 ∧
        static s t n ∧ t.laneState n = laneDown ∧ frame s t (F.LN_LANE_EVT_TRAIN_FAIL n :: taps n) ∧ Logs s t 0x0603 0x09 n 0) ∧
      (s.get (F.LN_LANE_EQ_RETRY n) ≤ (s.lane n).fails + 1 → Does (.lnTrainingTimeout n) s fun t => t.get (F.LN_LANE_STAT_STATIC n) = 1 ∧
        static s t n ∧ (t.lane n).trained = true ∧ (t.lane n).fails = 0 ∧ ((s.lane n).signal = true → t.laneState n = laneHunt) ∧
        Logs s t 0x0603 0x09 n 0)) ∧
    (s.training n = false → (∀ (pre : BitVec 4) (main : BitVec 6) (post : BitVec 5), Does (.lnTrainingComplete n pre main post) s fun t => Frame s t []) ∧
      Does (.lnTrainingTimeout n) s fun t => Frame s t [])) ∧
  (∀ (s : State) (path : Path) (n : Fin 6) (v : Word), s.power = .run → s.judge path (F.LN_LANE_EQ_PRE n).off true = .served →
    let set := [F.LN_LANE_EQ_PRE n, F.LN_LANE_EQ_MAIN n, F.LN_LANE_EQ_POST n, F.LN_LANE_EQ_RETRY n]
    let sum := (F.LN_LANE_EQ_PRE n).ofWord v + (F.LN_LANE_EQ_MAIN n).ofWord v + (F.LN_LANE_EQ_POST n).ofWord v
    (sum ≤ 63 → Does (.lnEqWrite path n v) s fun t => (∀ f ∈ set, t.get f = f.ofWord v) ∧
      (if s.on (F.LN_LANE_CFG_TRAIN n) = false ∨ s.on (F.LN_LANE_STAT_STATIC n) = true ∧ (s.lane n).trained = true then
        static t t n ∧ Frame s t (set ++ taps n) else Frame s t set)) ∧
    (63 < sum → Does (.lnEqWrite path n v) s fun t => Frame s t [F.LN_LANE_EVT_EQ_REJ n] ∧ Logs s t 0x0605 0x09 n 0)) ∧
  (∀ (s : State) (n : Fin 6) (b : Bool), s.power = .run →
    let sends := s.on (F.LN_LANE_STAT_TXRST n) = false ∧ s.on (F.AP_PORT_STAT_CAL_BUSY n) = false
    (s.laneState n = laneLocked →
      (s.on (F.LN_LANE_CFG_FEC n) = true → Does (.lnFecLockChange n b) s fun t => t.on (F.LN_LANE_STAT_FEC_LOCK n) = b ∧
        t.on (F.LN_LANE_STAT_LINK n) = t.linkDue n ∧ (sends → s.laneMode n ≠ 3 → b = false → t.lineOut n = .remoteFault)) ∧
      (s.laneMode n ≠ 3 → Does (.lnFaultReceived n b) s fun t => t.on (F.LN_LANE_STAT_RX_FAULT n) = b ∧
        t.on (F.LN_LANE_STAT_LINK n) = t.linkDue n ∧ (sends → s.localFault n = false → b = true → t.lineOut n = .idle))) ∧
    (s.laneState n ≠ laneLocked ∨ s.on (F.LN_LANE_CFG_FEC n) = false → Does (.lnFecLockChange n b) s fun t => Frame s t []) ∧
    (s.laneState n ≠ laneLocked ∨ s.laneMode n = 3 → Does (.lnFaultReceived n b) s fun t => Frame s t [])) ∧
  (∀ s : State, s.power = .run →
    let due := s.laneMode 5 = 3 ∧ s.laneState 5 = laneLocked ∧ s.on (F.LN_LANE_CFG_AN 5) = true
    (due → Does .lnAnComplete s fun t => (t.lane 5).an = true ∧ t.on (F.LN_LANE_STAT_LINK 5) = true) ∧
    (¬due → Does .lnAnComplete s fun t => Frame s t [])) ∧
  (∀ (s : State) (n : Fin 6) (blocks : Nat × Nat), s.power = .run →
    let fec := s.on (F.LN_LANE_CFG_FEC n) = true ∧ s.laneState n = laneLocked
    (fec → Does (.lnFecUncorrectable n blocks) s fun t =>
      t.get (F.LN_LANE_CNT_FEC_CORR n) = min (s.get (F.LN_LANE_CNT_FEC_CORR n) + blocks.1) (2 ^ (F.LN_LANE_CNT_FEC_CORR n).width - 1) ∧
      t.get (F.LN_LANE_CNT_FEC_UNCORR n) = min (s.get (F.LN_LANE_CNT_FEC_UNCORR n) + blocks.2) (2 ^ (F.LN_LANE_CNT_FEC_UNCORR n).width - 1) ∧
      (s.get (F.LN_LANE_CFG_FEC n) = 2 → 0 < blocks.2 → (t.lane n).marked = true) ∧ (s.get (F.LN_LANE_CFG_FEC n) = 1 → t.lane n = s.lane n) ∧
      frame s t [F.LN_LANE_CNT_FEC_CORR n, F.LN_LANE_CNT_FEC_UNCORR n, F.LN_LANE_EVT_FEC_UNCORR n]) ∧
    (¬fec → Does (.lnFecUncorrectable n blocks) s fun t => Frame s t [])) ∧
  (∀ s : State, s.power = .run →
    let called := s.wakeDue = true ∨ (s.port 5).na ≠ []
    (s.lpiDue = true → Does .lpiEnter s fun t => t.get (F.LN_LANE_STAT_LPI_TX 5) = 1 ∧ (s.lineOut 5 = .frames → t.lineOut 5 = .lpi) ∧
      Frame s t [F.LN_LANE_STAT_LPI_TX 5]) ∧
    (s.lpiDue = false → Does .lpiEnter s fun t => Frame s t []) ∧
    (called → Does .lpiWake s fun t => t.get (F.LN_LANE_STAT_LPI_TX 5) = 0 ∧
      (s.on (F.LN_LANE_STAT_LPI_TX 5) = true → (t.port 5).wokeAt = s.nowFs + max 1 (s.get F.LN_LANE5_LPI_TW) * 1000000000) ∧
      Frame { s with wire.ports := t.wire.ports } t [F.LN_LANE_STAT_LPI_TX 5]) ∧
    (¬called → Does .lpiWake s fun t => Frame s t [])) ∧
  (∀ (s : State) (n : Fin 6) (b : Bool), s.power = .run →
    let first := b = true ∧ n.val < 4 ∧ s.on (F.LN_LANE_STAT_LINK n) = true ∧ (s.lane n).lpiSeen = false
    (s.laneState n = laneLocked → Does (.lpiReceived n b) s fun t => t.on (F.LN_LANE_STAT_LPI_RX n) = b ∧
      frame s t [F.LN_LANE_STAT_LPI_RX n, F.LN_LANE_EVT_LPI_RX n] ∧ (first → Logs s t 0x0606 0x09 n 0) ∧ (¬first → LogsNone s t)) ∧
    (s.laneState n ≠ laneLocked → Does (.lpiReceived n b) s fun t => Frame s t []))

/-- A received frame is stamped and counted in its class, is delivered where it is good, and a pause ends with its quanta counted. In the Run state. MAC_RX_FRAME on a port that does not receive (disabled, lane not LOCKED, or image reload) changes nothing. On one that receives, the frame's ingress stamp counts in AP_PORTn_CNT_IN_STAMP, and in its HELD and INVALID counters where it is so; a frame for the fabric that would overfill the 16 KiB buffer then counts in RX_OVF alone; every other frame counts in the counter of its class: a good frame joins the receive buffer last, with its stamp; a filtered, fragment or jabber frame changes nothing else; a PAUSE frame to the PAUSE address, with PAUSE_RX_EN and LINK, starts a pause interval of its quanta, and one of 0 quanta ends it. PAUSE_EXPIRY of a running pause interval ends it and adds its whole quanta to PAUSEQ; without one it changes nothing. (R199, R200, R201, R203, R217) -/
def Obligations.FramesAreClassifiedAndPausesEnd : Prop :=
  let up (s t : State) (f : Fld) (n : Nat) := t.get f = min (s.get f + n) (2 ^ f.width - 1)
  (∀ (s : State) (p : Fin 6) (bytes : List Byte) (back ui : Nat), s.power = .run →
    let st := s.ingressStamp p back ui
    let stamps := [F.AP_PORT_CNT_IN_STAMP_N p, F.AP_PORT_CNT_IN_HELD_N p, F.AP_PORT_CNT_IN_INVALID_N p]
    let upIf (t : State) (b : Bool) (f : Fld) := if b then up s t f 1 else t.get f = s.get f
    let stamped (t : State) := upIf t true (F.AP_PORT_CNT_IN_STAMP_N p) ∧ upIf t st.held (F.AP_PORT_CNT_IN_HELD_N p) ∧
      upIf t (!st.valid) (F.AP_PORT_CNT_IN_INVALID_N p) ∧ (t.lane p).marked = false
    let frame (t : State) (fs : List Fld) := Frame ({ s with free := s.free + 2 }.setLane p (fun l => { l with marked := false })) t fs
    let f := (s.classify p bytes).counter p
    (s.macReceives p = false → Does (.macRxFrame p bytes back ui) s fun t => Frame s t []) ∧
    (s.macReceives p = true → s.delivers p bytes = true → s.rxFull p bytes = true → Does (.macRxFrame p bytes back ui) s fun t =>
      stamped t ∧ up s t (F.MAC_PORT_RX_OVF_N p) 1 ∧ frame t (F.MAC_PORT_RX_OVF_N p :: F.MAC_PORT_EVT_RX_OVF p :: stamps)) ∧
    (s.macReceives p = true → s.delivers p bytes = false ∨ s.rxFull p bytes = false → Does (.macRxFrame p bytes back ui) s fun t =>
      stamped t ∧ up s t f 1 ∧ t.get (F.MAC_PORT_RX_OVF_N p) = s.get (F.MAC_PORT_RX_OVF_N p) ∧
      (s.classify p bytes = .good → (t.wire.macs.getD p {}).rx = (s.wire.macs.getD p {}).rx ++
        [{ bytes := bytes, stamp := st, fcs := false, runt := false, oversize := false, arrived := s.now }]) ∧
      (s.classify p bytes ∈ [RxClass.filtered, .fragment, .jabber] → frame t (f :: stamps)) ∧
      (s.classify p bytes = .pause → bytes.take 6 = [0x01, 0x80, 0xC2, 0x00, 0x00, 0x01] → s.on (F.MAC_PORT_CFG_PAUSE_RX_EN p) = true →
        s.on (F.LN_LANE_STAT_LINK p) = true → (t.wire.macs.getD p {}).pauseTo =
          if at2 bytes 16 = 0 then none else some (s.nowFs + at2 bytes 16 * s.quantum p)))) ∧
  (∀ (s : State) (p : Fin 6), s.power = .run →
    (∀ e : Nat, (s.wire.macs.getD p {}).pauseTo = some e → Does (.pauseExpiry p) s fun t => (t.wire.macs.getD p {}).pauseTo = none ∧
      up s t (F.MAC_PORT_CNT_PAUSEQ_N p) ((e - (s.wire.macs.getD p {}).pauseFrom) / s.quantum p) ∧
      Frame { s with wire.macs := t.wire.macs } t [F.MAC_PORT_CNT_PAUSEQ_N p]) ∧
    ((s.wire.macs.getD p {}).pauseTo = none → Does (.pauseExpiry p) s fun t => Frame s t []))

/-- A slot is released, missed or sent at its grid point, and a non-appointed frame starts or ages out. In the Run state. Releasing a slot up to its arrival deadline frees it and counts; past the deadline, or with an unknown handle, it changes nothing. Past its arrival deadline a slot with no message counts once as MISS_LATE and stays in the calendar, late; a loaded one, one already late and one before its deadline are left. At a grid point the earliest slot leaves the calendar: with no link or MAC it counts in MISS_LINK, else in a pause in MISS_PAUSED, else unloaded and not yet counted in MISS_LATE, else loaded in SENT and its frame goes out at its start, with padding and FCS, the line occupied; an empty calendar changes nothing. That a slot already late still counts for a link that is down or a pause is DEDUCED (log entry 40). A waiting frame starts at the first grid position at which the line is free, where link, MAC, pause and the next slot allow, else it waits; those that have waited NA_WAIT leave the queue and count. (R196, R202, R209, R210, R211, R212, R214, R215, R222) -/
def Obligations.AppointmentsAreReleasedMissedOrSent : Prop :=
  let up (s t : State) (f : Fld) (n : Nat) := t.get f = min (s.get f + n) (2 ^ f.width - 1)
  let frame (s t : State) (fs : List Fld) := Frame { s with wire.ports := t.wire.ports } t fs
  let shown (p : Fin 6) := [F.AP_PORT_STAT_BOOKED p, F.AP_PORT_STAT_GRID p, F.AP_PORT_TXOFS_OFS p, F.AP_PORT_RXOFS_OFS p]
  (∀ (s : State) (p : Fin 6) (h : Nat), s.power = .run →
    (∀ x : ApSlot, s.slotOf p h = some x →
      (x.late = false → s.pastDeadline x = false → Does (.apSlotRelease p h) s fun t =>
        (t.port p).slots = (s.port p).slots.filter (fun y => y.handle != h) ∧ up s t (F.AP_PORT_CNT_RELEASED_N p) 1 ∧
        frame s t (F.AP_PORT_CNT_RELEASED_N p :: shown p)) ∧
      (x.late = true ∨ s.pastDeadline x = true → Does (.apSlotRelease p h) s fun t => Frame s t []) ∧
      (x.late = false → x.msg = none → s.pastDeadline x = true → Does (.apArrivalDeadline p h) s fun t =>
        up s t (F.AP_PORT_CNT_MISS_LATE_N p) 1 ∧ t.get F.AP_EVT_MISS_LATE = 1 ∧ frame s t [F.AP_PORT_CNT_MISS_LATE_N p, F.AP_EVT_MISS_LATE] ∧
        (t.port p).slots = (s.port p).slots.map (fun y => if y.handle = x.handle then { y with late := true } else y)) ∧
      (x.late = true ∨ x.msg.isSome = true ∨ s.pastDeadline x = false → Does (.apArrivalDeadline p h) s fun t => Frame s t [])) ∧
    (s.slotOf p h = none → ∀ c ∈ [Instr.apSlotRelease p h, .apArrivalDeadline p h], Does c s fun t => Frame s t [])) ∧
  (∀ (s : State) (p : Fin 6), s.power = .run →
    ((s.port p).slots = [] → Does (.apGridPoint p) s fun t => Frame s t []) ∧
    (∀ (x : ApSlot) (l : List ApSlot), (s.port p).slots = x :: l → (∀ y ∈ l, y.handle ≠ x.handle) →
      let misses (f e : Fld) := Does (.apGridPoint p) s fun t => (t.port p).slots = l ∧ up s t f 1 ∧ t.get e = 1 ∧ frame s t (f :: e :: shown p)
      let linked := s.on (F.LN_LANE_STAT_LINK p) = true ∧ s.on (F.MAC_PORT_CFG_EN p) = true
      (¬linked → misses (F.AP_PORT_CNT_MISS_LINK_N p) F.AP_EVT_MISS_LINK) ∧
      (linked → s.pausedAt p x.start = true → misses (F.AP_PORT_CNT_MISS_PAUSED_N p) F.AP_EVT_MISS_PAUSED) ∧
      (linked → s.pausedAt p x.start = false →
        (x.late = true → Does (.apGridPoint p) s fun t => (t.port p).slots = l ∧ frame s t (shown p)) ∧
        (x.late = false → x.msg = none → misses (F.AP_PORT_CNT_MISS_LATE_N p) F.AP_EVT_MISS_LATE) ∧
        (∀ m : Msg, x.late = false → x.msg = some m → Does (.apGridPoint p) s fun t => (t.port p).slots = l ∧ Sends s t (.frame p x.start m m.tail) ∧
          (t.port p).busyFrom = x.start ∧ (t.port p).busyTo = x.start + x.dur ∧ up s t (F.AP_PORT_CNT_SENT_N p) 1 ∧
          up s t (F.MAC_PORT_TX_OK_N p) 1 ∧ t.get (F.LN_LANE_STAT_LPI_TX p) = 0 ∧
          Keeps s t (F.AP_PORT_CNT_SENT_N p :: F.MAC_PORT_TX_OK_N p :: F.LN_LANE_STAT_LPI_TX p :: shown p))))) ∧
  (∀ (s : State) (p : Fin 6), s.power = .run →
    let old := (s.port p).na.filter (fun f => f.since + s.naWait ≤ s.now)
    let x := (s.gridAt p (max (s.nowFs : Int) (max (s.port p).busyTo (s.port p).wokeAt : Nat))).toNat
    (∀ (f : NaFrame) (rest : List NaFrame), (s.port p).na = f :: rest →
      let o := s.occupancy p f.msg.sentLen
      let clear := s.on (F.MAC_PORT_CFG_EN p) = true ∧ s.on (F.LN_LANE_STAT_LINK p) = true ∧ s.pausedAt p x = false ∧
        ∀ y : ApSlot, (s.port p).slots.head? = some y → x + o + s.guardFs ≤ y.start
      (clear → Does (.naFrameStart p) s fun t => (t.port p).na = rest ∧ (t.port p).slots = (s.port p).slots ∧ (t.port p).busyTo = x + o ∧
        Sends s t (.frame p x f.msg f.msg.tail) ∧ up s t (F.MAC_PORT_TX_OK_N p) 1 ∧ Keeps s t [F.MAC_PORT_TX_OK_N p, F.LN_LANE_STAT_LPI_TX p]) ∧
      (¬clear → Does (.naFrameStart p) s fun t => Frame s t [])) ∧
    ((s.port p).na = [] → Does (.naFrameStart p) s fun t => Frame s t []) ∧
    (Does (.naWaitExpiry p) s fun t => (t.port p).na = (s.port p).na.filter (fun f => s.now < f.since + s.naWait) ∧
      frame s t [F.AP_PORT_CNT_NA_DROP_N p, F.AP_EVT_NA_DROP] ∧
      (old ≠ [] → up s t (F.AP_PORT_CNT_NA_DROP_N p) old.length ∧ t.get F.AP_EVT_NA_DROP = 1)))

/-- Latency calibration begins on a port whose lane is down or idle, and is accepted or rejected on completion. In the Run state. A served write of AP_CAL_REQ with GO = 1 for a port 0 to 5 whose lane is DOWN or IDLE sets CAL_BUSY; with GO = 0, another port or another lane state it changes nothing. LAT_CAL_COMPLETE of a running calibration clears CAL_BUSY, and a DOWN lane with signal that nothing else keeps there hunts. With a standard deviation above 5 ps, a mean more than 200 ps from the previous value of the lane's mode and FEC, or a dip, migration or channel calibration within it, event 0x0711 is written and latencies and CAL_OK stay; else the two latencies are taken, CAL_OK is 1, event 0x0710 is written and the means are the mode's previous values. With none running it changes nothing. (R219, R220) -/
def Obligations.LatencyCalibrationIsBegunAndJudged : Prop :=
  (∀ (s : State) (path : Path) (v : Word), s.power = .run → s.judge path F.AP_CAL_REQ_GO.off true = .served →
    let p := F.AP_CAL_REQ_PORT.ofWord v
    let begins := F.AP_CAL_REQ_GO.ofWord v = 1 ∧ p ≤ 5 ∧ (s.laneState p = laneDown ∨ s.laneState p = laneIdle)
    (begins → Does (.apCalRequest path v) s fun t => t.get (F.AP_PORT_STAT_CAL_BUSY p) = 1 ∧
      (t.port p).calSpoilt = (s.on F.PM_STAT_DIP || s.on F.TB_STAT_MIG || s.on (F.IE_CH_STAT_CAL_BUSY (12 + p))) ∧
      Frame { s with wire.ports := t.wire.ports } t [F.AP_PORT_STAT_CAL_BUSY p]) ∧
    (¬begins → Does (.apCalRequest path v) s fun t => Frame s t [])) ∧
  (∀ (s : State) (p : Fin 6) (tx rx : BitVec 32) (tsd rsd : Nat), s.power = .run →
    let mode := s.laneMode p + 8 * s.get (F.LN_LANE_CFG_FEC p)
    let moved := ∃ e ∈ (s.port p).calPrev, e.1 = mode ∧ (200000 < latDiff tx.toNat e.2.1 ∨ 200000 < latDiff rx.toNat e.2.2)
    let bad := 5000 < tsd ∨ 5000 < rsd ∨ moved ∨ (s.port p).calSpoilt = true
    let ends (t : State) (fs : List Fld) := t.get (F.AP_PORT_STAT_CAL_BUSY p) = 0 ∧
      (s.laneState p = laneDown → (s.lane p).signal = true → s.on (F.LN_LANE_STAT_TXRST p) = false →
        s.on (F.LN_LANE_CFG_TRAIN p) = false ∨ (s.lane p).trained = true → t.laneState p = laneHunt) ∧
      Frame { s with wire.ports := t.wire.ports, wire.lanes := t.wire.lanes } t (F.AP_PORT_STAT_CAL_BUSY p :: F.LN_LANE_STAT_STATE p :: fs)
    (s.on (F.AP_PORT_STAT_CAL_BUSY p) = false → Does (.latCalComplete p tx rx tsd rsd) s fun t => Frame s t []) ∧
    (s.on (F.AP_PORT_STAT_CAL_BUSY p) = true → bad → Does (.latCalComplete p tx rx tsd rsd) s fun t =>
      ends t [F.AP_EVT_CAL_FAIL] ∧ t.get F.AP_EVT_CAL_FAIL = 1 ∧ t.wire.ports = s.wire.ports ∧ Logs s t 0x0711 0x0B p p) ∧
    (s.on (F.AP_PORT_STAT_CAL_BUSY p) = true → ¬bad → Does (.latCalComplete p tx rx tsd rsd) s fun t =>
      ends t [F.AP_EVT_CAL_DONE, F.AP_PORT_STAT_CAL_OK p, F.LN_LANE_TX_LAT_LAT p, F.LN_LANE_RX_LAT_LAT p, F.AP_PORT_STAT_BOOKED p,
        F.AP_PORT_STAT_GRID p, F.AP_PORT_TXOFS_OFS p, F.AP_PORT_RXOFS_OFS p] ∧
      t.get (F.AP_PORT_STAT_CAL_OK p) = 1 ∧ t.get (F.LN_LANE_TX_LAT_LAT p) = tx.toNat ∧ t.get (F.LN_LANE_RX_LAT_LAT p) = rx.toNat ∧
      (t.port p).calPrev.head? = some (mode, tx.toNat, rx.toNat) ∧ t.get F.AP_EVT_CAL_DONE = 1 ∧ Logs s t 0x0710 0x0B p p))

/-- A stored byte decodes clean, and with any one of its 13 bits flipped decodes to its data. For every byte d, the codeword of d decodes to d with no error, and with any single one of its thirteen stored bits flipped it decodes, corrected, to d. The poison codeword decodes as uncorrectable. (R306) -/
def Obligations.EveryStoredByteIsCorrectedOfOneError : Prop :=
  (∀ d : Fin 256, decode13 (encode13 d) = .clean d ∧ ∀ i : Fin 13, decode13 (encode13 d ^^^ 2 ^ i.val) = .fixed d) ∧ decode13 poison13 = .bad

/-- A waiting correction is written back, the scrubber walks the memory, and a pass ends, is late or restarts its deadline. In the Run state. With Glacier ready the oldest waiting correction is stored and no other byte changes; else nothing happens. The scrubber reads the next word and moves on eight bytes, where memory is ready, scrubbing enabled, the pass unfinished and the bank not locked; in any case the upsets have struck. A clean word stays; one with a single error counts in CORR and its correction waits; an uncorrectable one is poisoned in all eight bytes, and counts, with its address and event 0x0802, unless it was poisoned before. A finished pass counts in PASSES, starts again at 0 with event 0x0805 and a new deadline; an unfinished one at its deadline counts in MISS with event 0x0804. A served write of GL_SCRUB_RATE takes RATE and EN and restarts the deadline over the bytes that remain. (R306, R307, R308, R310, R318) -/
def Obligations.GlacierWritesBackScrubsAndPoisons : Prop :=
  let up (s t : State) (f : Fld) := t.get f = min (s.get f + 1) (2 ^ f.width - 1)
  (∀ s : State, s.power = .run →
    (∀ (b : Nat × Nat) (l : List (Nat × Nat)), s.gl.back = b :: l → s.glReady = true → Does .glCorrectedWriteback s fun t =>
      t.glCode b.1 = b.2 % 2 ^ 13 ∧ (∀ a : Nat, a ≠ b.1 → t.glCode a = s.glCode a) ∧
      Frame { s with gl.cells := t.gl.cells, gl.back := l.filter (fun c => c.1 != b.1) } t []) ∧
    (s.glReady = false ∨ s.gl.back = [] → Does .glCorrectedWriteback s fun t => Frame s t []) ∧
    (∀ ups : List (Nat × Nat),
      let w := s.get F.EC_SCRUB_STAT_POS
      let u := s.glUpset ups
      let moves (P : State → Prop) := Does (.glScrubWord ups) s fun t => t.get F.EC_SCRUB_STAT_POS = (w + 8) % 2 ^ F.EC_SCRUB_STAT_POS.width ∧
        t.gl.passDone = decide (w + 8 = 2 ^ 33) ∧ Frame { u with gl := t.gl } t
          [F.EC_SCRUB_STAT_POS, F.EC_GL_CNT_CORR, F.EC_GL_CNT_UNCORR, F.EC_GL_ERRADDR_ADDR, F.EC_EVT_POISON] ∧ P t
      let dec (i : Fin 8) := decode13 (u.glCode (w + i))
      (s.glReady = false ∨ s.on F.GL_SCRUB_RATE_EN = false ∨ s.gl.passDone = true ∨ (s.lockOf (bankOf w)).isSome = true →
        Does (.glScrubWord ups) s fun t => Frame u t []) ∧
      (s.glReady = true → s.on F.GL_SCRUB_RATE_EN = true → s.gl.passDone = false → s.lockOf (bankOf w) = none → w % 8 = 0 → w < 2 ^ 33 →
        ((∀ i, ∃ d, dec i = .clean d) → moves fun t => Frame { u with gl.passDone := t.gl.passDone } t [F.EC_SCRUB_STAT_POS]) ∧
        (∀ (i : Fin 8) (d : Nat), dec i = .fixed d → (∀ j, j ≠ i → ∃ e, dec j = .clean e) → moves fun t => up s t F.EC_GL_CNT_CORR ∧
          (w + i.val, encode13 d) ∈ t.gl.back ∧ t.gl.cells = u.gl.cells ∧ LogsNone s t) ∧
        (∀ i, dec i = .bad → moves fun t => (∀ j : Fin 8, t.glCode (w + j) = poison13) ∧
          ((∃ j : Fin 8, u.glCode (w + j) ≠ poison13) → up s t F.EC_GL_CNT_UNCORR ∧ t.get F.EC_GL_ERRADDR_ADDR = w ∧
            t.get F.EC_EVT_POISON = 1 ∧ Logs s t 0x0802 0x12 0 w)))) ∧
    (s.gl.passDone = true → Does .scrubPassEnd s fun t => t.get F.EC_SCRUB_STAT_POS = 0 ∧
      t.get F.EC_SCRUB_STAT_PASSES = (s.get F.EC_SCRUB_STAT_PASSES + 1) % 2 ^ F.EC_SCRUB_STAT_PASSES.width ∧
      Frame { s with gl.passDone := false, gl.deadline := some (s.now + s.scrubTime (2 ^ 33)) } t [F.EC_SCRUB_STAT_POS, F.EC_SCRUB_STAT_PASSES] ∧
      Logs s t 0x0805 0x12 0 0) ∧
    (s.gl.passDone = false → Does .scrubPassEnd s fun t => Frame s t []) ∧
    (∀ d : Nat, s.gl.deadline = some d → d ≤ s.now → s.gl.passDone = false → Does .scrubPassDeadline s fun t => up s t F.EC_SCRUB_STAT_MISS ∧
      Frame { s with gl.deadline := none } t [F.EC_SCRUB_STAT_MISS, F.EC_EVT_SCRUB_MISS] ∧ Logs s t 0x0804 0x12 0 0) ∧
    (s.gl.passDone = true ∨ (∀ d : Nat, s.gl.deadline = some d → s.now < d) → Does .scrubPassDeadline s fun t => Frame s t [])) ∧
  (∀ (s : State) (path : Path) (v : Word), s.power = .run → s.judge path F.GL_SCRUB_RATE_RATE.off true = .served →
    Does (.glScrubRateWrite path v) s fun t => (∀ f ∈ [F.GL_SCRUB_RATE_RATE, F.GL_SCRUB_RATE_EN], t.get f = f.ofWord v) ∧
      Frame { s with gl.deadline := some (s.now + t.scrubTime (2 ^ 33 - s.get F.EC_SCRUB_STAT_POS)) } t [F.GL_SCRUB_RATE_RATE, F.GL_SCRUB_RATE_EN])

/-- A row that qualifies moves to a spare through a soft-table entry, and soft entries are burned into fuses. In the Run state. With Glacier ready and AUTO = 1, a row with poison or with more than THRESH errors in 24 h, not revoked since its last error, has its repair begin, which takes the bank's lock; the next GL_ROW_REPAIR for the row ends it (two commands: the model's form, log entry 55): the row takes the lowest free spare and the first free soft entry, with event 0x0803, and the lock is free. With no spare or entry, event 0x0806 and nothing else; a row that does not qualify, or whose bank another holds, changes nothing. A served write of EC_FUSE_REQ that lacks CONFIRM = 0x5A or GO, comes in another life cycle or while RUN = 1 changes nothing; else RUN is 1 with every VALID entry to burn, or, with none or a full bank, event 0x0807 at once. A burn that verifies moves its entry into the fuse bank and clears it; one that fails leaves it, with event 0x0808; the last one ends with event 0x0807. (R312, R313, R314, R315, R316) -/
def Obligations.RowsAreRepairedAndFusesBurned : Prop :=
  (∀ (s : State) (bank : BitVec 8) (row : BitVec 15), s.power = .run →
    let id := bank.toNat + row.toNat * 2 ^ 8
    let poisoned := s.gl.due.contains id = true
    let qualifies := s.glReady = true ∧ s.on F.EC_REPAIR_CFG_AUTO = true ∧ s.gl.spared.contains id = false ∧
      (poisoned ∨ max 1 (s.get F.EC_REPAIR_CFG_THRESH) < s.rowErrors id)
    let source := if s.gl.due.contains id then 1 else 0
    let refused (u : State) := Does (.glRowRepair bank row) s fun t => t.gl.spared.contains id = true ∧
      Frame { u with gl.spared := t.gl.spared } t [F.EC_EVT_NO_SPARE] ∧ Logs s t 0x0806 0x12 0 0
    (s.lockOf bank.toNat = none → ¬qualifies → Does (.glRowRepair bank row) s fun t => Frame s t []) ∧
    (s.lockOf bank.toNat = none → qualifies →
      (s.freeSpare bank.toNat = none ∨ s.freeSoft = none → refused s) ∧
      (s.freeSpare bank.toNat ≠ none → s.freeSoft ≠ none → Does (.glRowRepair bank row) s fun t =>
        Frame (s.takeLock bank.toNat (.repair row.toNat source)) t [])) ∧
    (∀ l : BankLock, s.lockOf bank.toNat = some l →
      ((∀ src, l.holder ≠ .repair row.toNat src) → Does (.glRowRepair bank row) s fun t => Frame s t []) ∧
      (∀ src, l.holder = .repair row.toNat src →
        (s.freeSpare bank.toNat = none ∨ s.freeSoft = none → refused (s.freeLock bank.toNat)) ∧
        (∀ k j : Nat, s.freeSpare bank.toNat = some k → s.freeSoft = some j → Does (.glRowRepair bank row) s fun t =>
          t.get (F.EC_SOFT_ENTRY j) = (id + k * 2 ^ 23 + src * 2 ^ 28 + 2 ^ 31) % 2 ^ (F.EC_SOFT_ENTRY j).width ∧
          t.gl.due.contains id = false ∧ t.lockOf bank.toNat = none ∧
          Keeps s t [F.EC_SOFT_ENTRY j, F.EC_REPAIR_STAT_SOFT, F.EC_REPAIR_STAT_MIN_FREE, F.EC_EVT_REPAIR] ∧
          Logs s t 0x0803 0x12 0 (id + k * 2 ^ 24))))) ∧
  (∀ (s : State) (path : Path) (v : Word), s.power = .run → s.judge path F.EC_FUSE_REQ_GO.off true = .served →
    let accepted := F.EC_FUSE_REQ_CONFIRM.ofWord v = 0x5A ∧ F.EC_FUSE_REQ_GO.ofWord v = 1 ∧ (s.get F.KV_STAT_LC = 1 ∨ s.get F.KV_STAT_LC = 2) ∧
      s.on F.EC_REPAIR_STAT_RUN = false
    let entries := (List.range 256).filter (fun j => repairValid (s.get (F.EC_SOFT_ENTRY j)))
    (¬accepted → Does (.fuseProgramRequest path v) s fun t => Frame s t []) ∧
    (accepted → entries ≠ [] → s.gl.fuse.length < 1024 → Does (.fuseProgramRequest path v) s fun t => t.get F.EC_REPAIR_STAT_RUN = 1 ∧
      Frame { s with gl.burning := entries, gl.burned := 0 } t [F.EC_REPAIR_STAT_RUN]) ∧
    (accepted → entries = [] ∨ 1024 ≤ s.gl.fuse.length → Does (.fuseProgramRequest path v) s fun t => t.get F.EC_REPAIR_STAT_RUN = 0 ∧
      Frame { s with gl.burning := [], gl.burned := 0 } t [F.EC_REPAIR_STAT_RUN, F.EC_EVT_FUSE_DONE] ∧ Logs s t 0x0807 0x12 0 0)) ∧
  (∀ s : State, s.power = .run →
    (s.gl.burning = [] → ∀ b : Bool, Does (.fuseBurnComplete b) s fun t => Frame s t []) ∧
    (∀ (j : Nat) (l : List Nat), j < 256 → s.gl.burning = j :: l →
      (Does (.fuseBurnComplete true) s fun t => t.gl.fuse = s.gl.fuse ++ [s.get (F.EC_SOFT_ENTRY j)] ∧ t.gl.burned = s.gl.burned + 1 ∧
        t.get (F.EC_SOFT_ENTRY j) = 0 ∧ Keeps s t [F.EC_SOFT_ENTRY j, F.EC_REPAIR_STAT_SOFT, F.EC_REPAIR_STAT_FUSE, F.EC_REPAIR_STAT_MIN_FREE,
          F.EC_REPAIR_STAT_RUN, F.EC_EVT_FUSE_DONE]) ∧
      (Does (.fuseBurnComplete false) s fun t => t.gl.fuse = s.gl.fuse ∧ t.get F.EC_EVT_FUSE_FAIL = 1 ∧
        Keeps s t [F.EC_EVT_FUSE_FAIL, F.EC_REPAIR_STAT_RUN, F.EC_EVT_FUSE_DONE]) ∧
      (l = [] → (Does (.fuseBurnComplete true) s fun t => t.get F.EC_REPAIR_STAT_RUN = 0 ∧ t.gl.burning = [] ∧ Logs s t 0x0807 0x12 0 (s.gl.burned + 1)) ∧
        (Does (.fuseBurnComplete false) s fun t => t.get F.EC_REPAIR_STAT_RUN = 0 ∧ t.gl.burning = []))))

/-- A key is granted only if latch, type, life cycle, master and operation all allow it, and the first failure is answered. For every state, master, slot, list of suitable types and operation bit: with the tamper latch set, or the root disabled by RETURN, the status is 0x04; else, with an empty slot or an unsuitable type, 0x05; else, with the present life cycle not named in the attribute word, 0x08; else, with the master's bit clear, or the bit of its world, or the operation's bit clear, 0x02; else 0x00. The status is 0x00 exactly where every condition holds. (R288, R284, R296) -/
def Obligations.KeyUseIsGrantedInOrder : Prop :=
  ∀ (s : State) (m slot op : Nat) (types : List Nat),
    let a := s.slotAttr slot
    let open_ := s.on F.TP_STAT_LATCH = false ∧ s.get F.KV_STAT_ROOT ≠ 3
    let suits := attrSuits a types = true
    let cycle := bits a 18 14 / 2 ^ s.get F.KV_STAT_LC % 2 = 1
    let master := bits a 11 0 / 2 ^ m % 2 = 1 ∧ bits a (if masterSecure m then 12 else 13) (if masterSecure m then 12 else 13) = 1
    let oper := bits a op op = 1
    (¬open_ → s.keyCheck m slot types op = 0x04) ∧ (open_ → ¬suits → s.keyCheck m slot types op = 0x05) ∧
    (open_ → suits → ¬cycle → s.keyCheck m slot types op = 0x08) ∧
    (open_ → suits → cycle → ¬(master ∧ oper) → s.keyCheck m slot types op = 0x02) ∧
    (s.keyCheck m slot types op = 0 ↔ open_ ∧ suits ∧ cycle ∧ master ∧ oper)

/-- A vault operation starts where none runs, is refused where its key denies it, and answers on completion. In the Run state, on a served write. While BUSY = 1 each of the twelve operations is dropped and STATUS reads 0x01. Else each sets BUSY and holds its answer: a keyed operation whose key check fails holds that status and no output; SIGN of at most 448 bytes holds the signature and MAC the code under a granted key; IMPORT and ZEROISE of slot 0 to 7 hold 0x03 with the vault open; with the tamper latch every one holds 0x04. KV_OP_COMPLETE puts the status in KV_OP_STAT and the output with its length in KV_DATA, clears BUSY and signals vector 1 of PF5; a slot that the operation fills then holds its key, a slot it clears none, and a rotation makes the new NTS key current and the old one previous; with no operation it changes nothing. (R288, R291, R293, R294, R377) -/
def Obligations.VaultOperationsStartAndAnswer : Prop :=
  (∀ (s : State) (path : Path) (slot tslot : BitVec 7) (len : BitVec 11), s.power = .run → s.judge path F.KV_OP_GO.off true = .served →
    let cmds := [Instr.kvDerive path slot tslot len, .kvImport path slot tslot len, .kvZeroise path slot tslot len, .kvPubkey path slot tslot len,
      .kvSign path slot tslot len, .kvVerify path slot tslot len, .kvMac path slot tslot len, .kvEncrypt path slot tslot len,
      .kvDecrypt path slot tslot len, .kvMint path slot tslot len, .kvRotate path slot tslot len, .kvRandom path slot tslot len]
    (s.on F.KV_OP_STAT_BUSY = true → ∀ c ∈ cmds, Does c s fun t => t.get F.KV_OP_STAT_STATUS = 1 ∧ Frame s t [F.KV_OP_STAT_STATUS]) ∧
    (s.on F.KV_OP_STAT_BUSY = false → ∀ c ∈ cmds, Does c s fun t => t.get F.KV_OP_STAT_BUSY = 1 ∧ t.kv.op.isSome = true ∧
      Keeps s t [F.KV_OP_STAT_BUSY, F.KV_CNT_DENY, F.KV_EVT_DENY]) ∧
    (s.on F.KV_OP_STAT_BUSY = false → s.on F.TP_STAT_LATCH = true → ∀ c ∈ cmds, Does c s fun t => t.kv.op.map (·.status) = some 0x04) ∧
    (s.on F.KV_OP_STAT_BUSY = false →
      (∀ c ∈ [(Instr.kvSign path slot tslot len, [4, 5], 25), (.kvVerify path slot tslot len, [1, 3, 4, 5], 22), (.kvMac path slot tslot len, [1, 3], 21),
          (.kvEncrypt path slot tslot len, [2], 19), (.kvDecrypt path slot tslot len, [2], 20)],
        s.keyCheck 7 slot.toNat c.2.1 c.2.2 ≠ 0 → Does c.1 s fun t =>
          t.kv.op = some { slot := slot.toNat, status := s.keyCheck 7 slot.toNat c.2.1 c.2.2 }) ∧
      (s.keyCheck 7 slot.toNat [4, 5] 25 = 0 → len.toNat ≤ 448 → Does (.kvSign path slot tslot len) s fun t => t.kv.op = some
        { slot := slot.toNat, status := 0, out := (Config.signature (attrType (s.slotAttr slot.toNat)) (s.slotKey slot.toNat) (s.kvData 0 len.toNat)).take 64 }) ∧
      (s.keyCheck 7 slot.toNat [1, 3] 21 = 0 → len.toNat ≤ 1024 → Does (.kvMac path slot tslot len) s fun t => t.kv.op = some
        { slot := slot.toNat, status := 0, out := macOf (attrType (s.slotAttr slot.toNat)) (s.slotKey slot.toNat) (s.kvData 0 len.toNat) }) ∧
      (s.on F.TP_STAT_LATCH = false → s.get F.KV_STAT_ROOT = 1 → tslot.toNat < 8 →
        (Does (.kvZeroise path slot tslot len) s fun t => t.kv.op.map (·.status) = some 0x03) ∧
        (s.get F.KV_STAT_LC = 2 → Does (.kvImport path slot tslot len) s fun t => t.kv.op.map (·.status) = some 0x03)))) ∧
  (∀ s : State, s.power = .run →
    (∀ o : KvOp, s.kv.op = some o →
      (Does .kvOpComplete s fun t => t.kv.op = none ∧ t.get F.KV_OP_STAT_BUSY = 0 ∧
        t.get F.KV_OP_STAT_STATUS = o.status % 2 ^ F.KV_OP_STAT_STATUS.width ∧
        (o.out.length ≤ 1024 → t.get F.KV_OP_STAT_OUT_LEN = o.out.length ∧ t.kvData 0 o.out.length = o.out) ∧
        (o.effect = .none → t.kv = { s.kv with op := none } ∧ Sends s t (.msix 5 1))) ∧
      (∀ k : Nat, o.effect = .clear k → k < 128 → o.out.length ≤ 1024 → Does .kvOpComplete s fun t => t.slotKey k = [] ∧ t.slotAttr k = 0) ∧
      (∀ (k attr : Nat) (key : List Byte), o.effect = .fill k key attr → k < 128 → o.out.length ≤ 1024 → Does .kvOpComplete s fun t => t.slotKey k = key ∧
        t.slotAttr k = attr % 2 ^ 31 + 2 ^ 31) ∧
      (∀ kid k : Nat, o.effect = .rotate kid k → k < 128 → o.out.length ≤ 1024 → Does .kvOpComplete s fun t => t.slotKey k = ntsKey kid ∧ t.get F.PT_NTS_CFG_CUR_VALID = 1 ∧
        t.get F.PT_NTS_KID_PREV_ID = s.get F.PT_NTS_KID_CUR_ID % 2 ^ 32 ∧ t.get F.PT_NTS_KID_CUR_ID = kid % 2 ^ 32 ∧ t.get F.KV_EVT_ROTATE = 1)) ∧
    (s.kv.op = none → Does .kvOpComplete s fun t => Frame s t []))

/-- The life cycle moves along its table only, with CONFIRM, and a refused request answers LIFECYCLE. In the Run state, on a served write. BLANK goes to PROVISION, PROVISION to FIELD, and PROVISION, FIELD or RETURN to RETIRED, with event 0x0904; the first makes the helper data, the second sets the seal for good, the last erases the helper data; FIELD goes to RETURN where the data window holds a signature of the device ID by the boot key, which disables the root and zeroises every slot. Another CONFIRM drops the request with event 0x0904 and argument 0xFF. Any other pair of states changes nothing but KV_OP_STAT.STATUS, which reads 0x08. No request takes the life cycle to a lower state. (R283, R292) -/
def Obligations.LifeCycleMovesForward : Prop :=
  ∀ (s : State) (path : Path) (confirm : BitVec 8), s.power = .run → s.judge path F.KV_LC_GO.off true = .served →
    let signed := Config.verifySignature 4 Config.bootKey (bytesLE 8 (s.get F.SY_DEVID_LO_ID)) (s.kvData 0 64)
    let lc := s.get F.KV_STAT_LC
    let cmds := [(Instr.lcToProvision path confirm, 1, lc == 0), (.lcToField path confirm, 2, lc == 1), (.lcToReturn path confirm, 3, lc == 2 && signed),
      (.lcToRetired path confirm, 4, lc == 1 || lc == 2 || lc == 3)]
    ∀ c ∈ cmds,
      (confirm.toNat ≠ 0xA5 → Does c.1 s fun t => Frame s t [F.KV_EVT_LC] ∧ Logs s t 0x0904 0x0F 0 0xFF) ∧
      (confirm.toNat = 0xA5 → c.2.2 = true → Does c.1 s fun t => t.get F.KV_STAT_LC = c.2.1 ∧ lc < t.get F.KV_STAT_LC ∧
        (c.2.1 = 1 → t.kv.helper = true) ∧ (c.2.1 = 2 → t.kv.lcSealed = true) ∧ (c.2.1 = 4 → t.kv.helper = false) ∧
        (c.2.1 = 3 → t.get F.KV_STAT_ROOT = 3 ∧ (∀ k < 128, t.slotKey k = [] ∧ t.slotAttr k = 0) ∧
          (s.quiet = false → s.jl.queue.length < 1024 → (s.jl.queue ++ [⟨0x0904, 0x0F, 0, lc + 48⟩]) <+: t.jl.queue)) ∧
        (c.2.1 ≠ 3 → Frame { s with kv := t.kv } t [F.KV_STAT_LC, F.KV_EVT_LC] ∧ t.kv.slots = s.kv.slots ∧
          Logs s t 0x0904 0x0F 0 (lc + c.2.1 * 16))) ∧
      (confirm.toNat = 0xA5 → c.2.2 = false → Does c.1 s fun t => t.get F.KV_OP_STAT_STATUS = 8 ∧ Frame s t [F.KV_OP_STAT_STATUS])

/-- A raised event waits in order or is dropped and counted, and the oldest waiting entry is written under the next number. In the Run state. JOURNAL_EVENT_RAISE puts the event last in the queue while it holds fewer than 1,024, else it is dropped and DROPPED counts. JOURNAL_ENTRY_WRITE, 40 sample ticks after the last and outside a reset of its unit: with entries dropped, event 0x0B22 is written with their number and the queue stays; else the oldest entry leaves the queue and its 32 bytes go into the Firn tail at its number modulo 256, other bytes of the store unchanged, and into the ring where Glacier memory holds one; NEXT rises by one. Sooner, in a reset of its unit, or with an empty queue and nothing dropped it changes nothing. (R373, R392, R393, R394) -/
def Obligations.JournalQueuesAndWritesInOrder : Prop :=
  (∀ (s : State) (code : BitVec 16) (src inst : BitVec 8) (arg : Word), s.power = .run → s.quiet = false →
    (s.jl.queue.length < 1024 → Does (.journalEventRaise code src inst arg) s fun t =>
      t.jl.queue = s.jl.queue ++ [⟨code.toNat, src.toNat, inst.toNat, arg.toNat⟩] ∧ t.get F.JL_STAT_DROPPED = s.get F.JL_STAT_DROPPED ∧ Frame s t []) ∧
    (1024 ≤ s.jl.queue.length → Does (.journalEventRaise code src inst arg) s fun t => t.jl.queue = s.jl.queue ∧
      t.jl.dropPend = s.jl.dropPend + 1 ∧
      t.get F.JL_STAT_DROPPED = min (s.get F.JL_STAT_DROPPED + 1) (2 ^ F.JL_STAT_DROPPED.width - 1) ∧ Frame s t [])) ∧
  (∀ s : State, s.power = .run →
    let e := s.get F.JL_NEXT_E
    let place := 0x2000 + e % 256 * 32
    let writes (j : JEvent) (t : State) := t.firn = writeBytes s.firn place (entryBytes s.now e j) ∧
      t.jl.unsealed = s.jl.unsealed ++ entryBytes s.now e j ∧ t.get F.JL_NEXT_E = (e + 1) % 2 ^ F.JL_NEXT_E.width ∧
      (∀ a : Nat, a < place ∨ place + 32 ≤ a → byteAt t.firn a = byteAt s.firn a) ∧
      (∀ b : Nat, s.journalBase = some b → s.glReady = true → t.gl = (s.glWrite (b + e % 2 ^ 25 * 32) (entryBytes s.now e j)).gl) ∧
      (s.journalBase = none ∨ s.glReady = false → t.gl = s.gl) ∧ t.jl.takenAt = some s.now ∧
      Frame { s with jl := t.jl, firn := t.firn, gl := t.gl } t [F.JL_NEXT_E, F.JL_OLDEST_E]
    (s.entryDue = true →
      (∀ (j : JEvent) (rest : List JEvent), s.jl.queue = j :: rest → s.jl.dropPend = 0 → Does .journalEntryWrite s fun t => t.jl.queue = rest ∧ writes j t) ∧
      (0 < s.jl.dropPend → Does .journalEntryWrite s fun t => t.jl.dropPend = 0 ∧ t.jl.queue = s.jl.queue ∧
        writes ⟨0x0B22, 0x15, 0, min s.jl.dropPend 0xFFFFFFFF⟩ t)) ∧
    (s.entryDue = false ∨ s.jl.queue = [] ∧ s.jl.dropPend = 0 → Does .journalEntryWrite s fun t => Frame s t []))

/-- A block of 64 entries is sealed over the last seal, and an hour pads the open block and seals it. In the Run state. JOURNAL_BLOCK_SEAL with fewer than 64 unsealed entries changes nothing; else JL_SEAL_LAST takes the SHA-256 digest of the last seal, the block number and the 64 entries, JL_SEALED takes the block number, the seal goes into its place of Glacier memory where that serves accesses, and those entries are no longer unsealed. JOURNAL_HOUR_PAD once in the first second of a TAI hour: with nothing unsealed it only remembers the hour; else full blocks are sealed, pad entries fill an open one, NEXT counts them, and it is sealed. Outside that second, or a second time in it, it changes nothing. (R395) -/
def Obligations.BlocksAreSealedInChain : Prop :=
  ∀ s : State, s.power = .run →
    let digest := sha256 (s.lastSeal ++ bytesLE 8 s.jl.blocks ++ s.jl.unsealed.take 2048)
    let n := s.jl.unsealed.length / 32
    let pads := (64 - n % 64) % 64
    (s.jl.unsealed.length < 2048 → Does .journalBlockSeal s fun t => Frame s t []) ∧
    (2048 ≤ s.jl.unsealed.length → Does .journalBlockSeal s fun t =>
      t.jl.unsealed = s.jl.unsealed.drop 2048 ∧ t.jl.blocks = s.jl.blocks + 1 ∧
      t.get F.JL_SEALED_K = s.jl.blocks % 2 ^ F.JL_SEALED_K.width ∧
      (∀ w < 4, t.get (F.JL_SEAL_LAST_SEAL w) = ofBytesLE ((digest.drop (8 * w)).take 8)) ∧
      t.gl = (if s.glReady then (s.glWrite (sealAddr s.jl.blocks) digest).gl else s.gl) ∧
      Frame { s with jl := t.jl, firn := t.firn, gl := t.gl } t (F.JL_SEALED_K :: (List.range 4).map F.JL_SEAL_LAST_SEAL)) ∧
    (s.padDue = false → Does .journalHourPad s fun t => Frame s t []) ∧
    (s.padDue = true → s.jl.unsealed = [] → Does .journalHourPad s fun t => Frame { s with jl.padHour := some (s.sec / 3600) } t []) ∧
    (s.padDue = true → 0 < n → s.jl.unsealed.length % 32 = 0 → Does .journalHourPad s fun t =>
      t.jl.unsealed = [] ∧ t.jl.blocks = s.jl.blocks + (n + 63) / 64 ∧ t.jl.padHour = some (s.sec / 3600) ∧
      (0 < pads → t.get F.JL_NEXT_E = (s.get F.JL_NEXT_E + pads) % 2 ^ F.JL_NEXT_E.width) ∧
      Keeps s t (F.JL_NEXT_E :: F.JL_OLDEST_E :: F.JL_SEALED_K :: (List.range 4).map F.JL_SEAL_LAST_SEAL))

/-- A counter takes its selection and wraps with its overflow bit, and a bandwidth window reports and starts again. In the Run state. A served write of PC_SELn takes the selection, CLR = 1 clears the counter, and no register outside PC changes. An enabled counter at its largest value that is no upper half wraps to 0, sets its bit of PC_OVF where it is unchained, and where chained carries into its partner; one below it, or disabled, is left. A served write of PC_BWp_CFG takes W and EN, its window begins now, and with CLR = 1 LAST and MAX clear. BW_WINDOW_END of an enabled monitor at the end of its window reports both counts in LAST, MAX and MIN unless a step struck it, both begin again at 0 and the next window follows; before the end, or disabled, it changes nothing. A read of the user page answers the counter's value where USER_EN is set, else all ones; a write changes no register outside PC; PF4 in reset answers all ones and takes none. (R386, R388, R389, R390, R391) -/
def Obligations.CountersCountWrapAndReport : Prop :=
  (∀ (s : State) (n : Fin 256), s.power = .run →
    let full := s.get (F.PC_CNT_VALUE n) = 2 ^ 32 - 1 ∧ s.on (F.PC_SEL_EN n) = true ∧ s.chained n = false
    (full → Does (.counterWrap n) s fun t => t.get (F.PC_CNT_VALUE n) = 0 ∧ Frame s t [] ∧
      (s.on (F.PC_SEL_CHAIN n) = false → t.get (F.PC_OVF_OVF (n / 64)) / 2 ^ (n.val % 64) % 2 = 1) ∧
      (n.val % 2 = 0 → s.on (F.PC_SEL_CHAIN n) = true → t.get (F.PC_CNT_VALUE (n + 1)) = (s.get (F.PC_CNT_VALUE (n + 1)) + 1) % 2 ^ 32)) ∧
    (¬full → Does (.counterWrap n) s fun t => Frame s t [] ∧ t.get (F.PC_CNT_VALUE n) = s.get (F.PC_CNT_VALUE n))) ∧
  (∀ (s : State) (path : Path) (n : Fin 256) (v : Word), s.power = .run → s.judge path (F.PC_SEL_EN n).off true = .served →
    Does (.pcSelWrite path n v) s fun t => Frame s t [] ∧
      (∀ f ∈ [F.PC_SEL_EN n, F.PC_SEL_IRQ n, F.PC_SEL_KIND n, F.PC_SEL_UNIT n, F.PC_SEL_CODE_N n, F.PC_SEL_MASK n], t.get f = f.ofWord v) ∧
      ((F.PC_SEL_CLR n).ofWord v = 1 → t.get (F.PC_CNT_VALUE n) = 0) ∧
      ((F.PC_SEL_CLR n).ofWord v = 0 → t.get (F.PC_CNT_VALUE n) = s.get (F.PC_CNT_VALUE n))) ∧
  (∀ (s : State) (path : Path) (p : Fin 6) (v : Word), s.power = .run → s.judge path (F.PC_BW_CFG_W p).off true = .served →
    Does (.bwCfgWrite path p v) s fun t => (∀ f ∈ [F.PC_BW_CFG_W p, F.PC_BW_CFG_EN p], t.get f = f.ofWord v) ∧
      Frame { s with pc := t.pc } t [] ∧ t.pc.bwStart.getD p 0 = s.now ∧ t.pc.rxBytes.getD p 0 = 0 ∧ t.pc.txBytes.getD p 0 = 0 ∧
      ((F.PC_BW_CFG_CLR p).ofWord v = 1 → ∀ f ∈ [F.PC_BW_RX_LM_LAST p, F.PC_BW_RX_LM_MAX p, F.PC_BW_TX_LM_LAST p, F.PC_BW_TX_LM_MAX p], t.get f = 0)) ∧
  (∀ (s : State) (p : Fin 6), s.power = .run →
    let regs := [F.PC_BW_RX_LM_LAST p, F.PC_BW_RX_LM_MAX p, F.PC_BW_RX_MIN_MIN p, F.PC_BW_TX_LM_LAST p, F.PC_BW_TX_LM_MAX p, F.PC_BW_TX_MIN_MIN p]
    let rx := min (s.pc.rxBytes.getD p 0) 0xFFFFFFFF
    let tx := min (s.pc.txBytes.getD p 0) 0xFFFFFFFF
    let ends (P : State → Prop) := Does (.bwWindowEnd p) s fun t => Frame { s with pc := t.pc } t [] ∧ t.pc.bwStart.getD p 0 = s.bwEnd p ∧
      t.pc.rxBytes.getD p 0 = 0 ∧ t.pc.txBytes.getD p 0 = 0 ∧ t.pc.spoilt.getD p false = false ∧ P t
    (s.on (F.PC_BW_CFG_EN p) = true → s.bwEnd p ≤ s.now →
      (s.pc.spoilt.getD p false = false → ends fun t =>
        t.get (F.PC_BW_RX_LM_LAST p) = rx ∧ t.get (F.PC_BW_RX_LM_MAX p) = max rx (s.get (F.PC_BW_RX_LM_MAX p)) % 2 ^ 32 ∧
        t.get (F.PC_BW_RX_MIN_MIN p) = min rx (s.get (F.PC_BW_RX_MIN_MIN p)) ∧
        t.get (F.PC_BW_TX_LM_LAST p) = tx ∧ t.get (F.PC_BW_TX_LM_MAX p) = max tx (s.get (F.PC_BW_TX_LM_MAX p)) % 2 ^ 32 ∧
        t.get (F.PC_BW_TX_MIN_MIN p) = min tx (s.get (F.PC_BW_TX_MIN_MIN p))) ∧
      (s.pc.spoilt.getD p false = true → ends fun t => ∀ f ∈ regs, t.get f = s.get f)) ∧
    (s.on (F.PC_BW_CFG_EN p) = false ∨ s.now < s.bwEnd p → Does (.bwWindowEnd p) s fun t => Frame s t [] ∧ ∀ f ∈ regs, t.get f = s.get f)) ∧
  (∀ (s : State) (off : BitVec 12), s.power = .run →
    let o := off.toNat / 8 * 8
    let dead := s.host.perst = true ∨ s.host.flr.getD 4 false = true
    let answers (v : Word) := Does (.userPageRead off false) s fun t => Frame s t [] ∧ Sends s t (.readData o v)
    (¬dead → s.on F.PC_USER_EN_EN = true → answers (BitVec.ofNat 64 (s.userPage o))) ∧
    (¬dead → s.on F.PC_USER_EN_EN = false → answers (BitVec.allOnes 64)) ∧ (dead → answers (BitVec.allOnes 64)) ∧
    (Does (.userPageRead off true) s fun t => Frame s t [] ∧ (dead → LogsNone s t)))

/-- Sample ticks advance corrected time by 6.4 ns each in the Run state, and elsewhere only the RTC counts. SAMPLE_TICK of n ticks and r counts of the RTC adds r to PM_RTC, modulo its width, in every power state. In the Run state corrected time advances by n times 6.4 ns and, outside the counter block, no other register changes; at a zero frequency word the raw tick advances by 4n. In the other states nothing else changes. That time passes by this command only is the model's own choice (log entry 9). (R23, R27, R113, R352, R355, R386) -/
def Obligations.TimePassesBySampleTicks : Prop :=
  ∀ (s : State) (n r : Nat),
    (s.power = .run → Does (.sampleTick n r) s fun t => t.get F.PM_RTC_RTC = (s.get F.PM_RTC_RTC + r) % 2 ^ F.PM_RTC_RTC.width ∧
      t.now = s.now + n * (32 * 2 ^ 32) ∧ Keeps s t [F.PM_RTC_RTC] ∧ (s.getI F.TK_TS_FREQ_FREQ = 0 → t.tick = s.tick + n * 4 * 2 ^ 32)) ∧
    (s.power ≠ .run → Does (.sampleTick n r) s fun t => t = s.put F.PM_RTC_RTC (s.get F.PM_RTC_RTC + r))

/-- A cell delivers what it holds, drops a late token, or acts on the token at its head and passes it to an output. In the Run state. A cell that holds a token for an output tries again and takes no other; one that waits for an answer, has no token at its head or stands in a fabric that does not run changes nothing. A late token is dropped and counted in LATE of the cell's Floe. Else the cell acts, and the token goes to the output's channel, waits in the cell where that is full, and is dropped where the output is unconnected: PARSE with its fields, by class and tag; MATCH to the first matching constant's output, else 3; COMPUTE with its result; TABLE with its access, a write storing the entry and no other byte, out of bounds counting BOUNDS and going to 2; a compare-and-swap in Glacier first takes the bank's lock, and the next turn ends it, passes the token and frees the lock (two turns: the model's form, log entry 55). STAMP fetch, sample and appoint pass it with its time, a refused request to 1, a held one waiting. EMIT sends, queues, moves, hands off or drops it. CRYPTO holds it with its request queued, or a refused call to 2. Output numbers and operand layout are the model's choice (log entry 7). (R208, R209, R210, R216, R226, R227, R228, R229, R230, R231, R232, R316) -/
def Obligations.CellsAcceptActAndPassTheirToken : Prop :=
  ∀ (s : State) (f : Fin 48) (c : Fin 64), s.power = .run →
    let up (t : State) (g : Fld) := t.get g = min (s.get g + 1) (2 ^ g.width - 1)
    let first := [Instr.parseCell f c, .matchCell f c, .computeCell f c 0, .tableCell f c, .stampCell f c, .emitCell f c, .cryptoCall f c]
    let all := Instr.computeCell f c 1 :: first
    let still (i : Instr) := Does i s fun t => Frame s t []
    let late (i : Instr) (k : Token) := Does i s fun t => Dropped s t k ∧ up t (F.DF_FLOE_CNT_LATE_N f) ∧
      Keeps s t [F.DF_FLOE_CNT_LATE_N f, F.DF_EVT_LATE, F.DF_FLOE_STAT_IN_LEVEL k.floe]
    (s.cellLock f c = none → s.cellAt f c = none ∨ s.get F.DF_STAT_STATE ≠ 1 ∨ (∃ k, s.tokenIn f c = some k ∧ k.out = none) → ∀ i ∈ all, still i) ∧
    (∀ r : CellRec, s.cellAt f c = some r →
      let delivers (k k' : Token) (o : Nat) (t : State) := Delivers f c r k k' o s t
      (∀ (k : Token) (o : Nat), s.cellLock f c = none → s.get F.DF_STAT_STATE = 1 → s.tokenIn f c = some k → k.out = some o → ∀ i ∈ all,
        (s.late k = true → late i k) ∧ (s.late k = false → Does i s (delivers k k o))) ∧
      (∀ (l : BankLock) (k : Token) (space : TableSpace) (len index buf expect : Nat) (act : TableAct) (a : Bool × Nat), s.cellLock f c = some l →
        s.tokenIn f c = some k → r.op = .table space len index act buf expect → s.tableAddr f space (min 64 len) (k.reg index) = some a →
        let q := (s.freeLock l.bank).tableAct f k a (min 64 len) act buf expect
        Does (.tableCell f c) s fun t => delivers k q.2.1 q.2.2 t ∧ t.gl.cells = q.1.gl.cells ∧ t.lockOf l.bank = none) ∧
      (s.cellLock f c = none → s.cellOpen f c = true →
        ((∀ n : Fin 2, s.headToken f r n = none) → ∀ i ∈ all, still i) ∧
        (∀ k : Token, s.headToken f r 0 = some k → s.late k = true → ∀ i ∈ first, late i k) ∧
        (∀ (op : AluOp) (a : Nat) (b : Option Nat) (imm dst : Nat) (n : Fin 2) (k : Token), r.op = .compute op a b imm dst → s.headToken f r n = some k →
          s.late k = false → Does (.computeCell f c n) s
            (delivers k (k.compute s.bufSize op a b imm dst).1 (k.compute s.bufSize op a b imm dst).2)) ∧
        (∀ k : Token, s.headToken f r 0 = some k → s.late k = false →
          (∀ (fields : List (Nat × Nat × Nat)) (outs : List Nat), r.op = .parse fields outs →
            Does (.parseCell f c) s (delivers k (k.parse fields) (k.parseOutput outs))) ∧
          (∀ (v mask : Nat) (arms : List (Nat × Nat)), r.op = .compare v mask arms →
            Does (.matchCell f c) s (delivers k k (k.matchOutput v mask arms))) ∧
          (∀ (space : TableSpace) (len index buf expect : Nat) (act : TableAct), r.op = .table space len index act buf expect →
            let n := min 64 len
            (∀ a : Bool × Nat, s.tableAddr f space n (k.reg index) = some a →
              let q := s.tableAct f k a n act buf expect
              (a.1 = true → (s.lockOf (bankOf a.2)).isSome = true → still (.tableCell f c)) ∧
              (a.1 = false ∨ s.lockOf (bankOf a.2) = none → a.1 = false ∨ act ≠ .cas ∨ s.glReady = false →
                Does (.tableCell f c) s fun t => delivers k q.2.1 q.2.2 t ∧ t.df.sram = q.1.df.sram ∧ t.gl.cells = q.1.gl.cells ∧
                  (a.1 = false → act = .write → q.2.2 = 0 ∧ q.2.1 = k ∧
                    readBytes t.df.sram a.2 n = (k.buf.drop buf).take n ++ List.replicate (n - ((k.buf.drop buf).take n).length) 0 ∧
                    ∀ x : Nat, x < a.2 ∨ a.2 + n ≤ x → byteAt t.df.sram x = byteAt s.df.sram x)) ∧
              (a.1 = true → s.lockOf (bankOf a.2) = none → act = .cas → s.glReady = true → Does (.tableCell f c) s fun t =>
                Moved s t k f (.cell c) ∧ t.gl = { s.gl with locks := s.gl.locks ++ [⟨bankOf a.2, .cell f c k.id, s.now⟩] })) ∧
            (s.tableAddr f space n (k.reg index) = none → Does (.tableCell f c) s fun t => delivers k k 2 t ∧ t.df.sram = s.df.sram ∧
              t.gl.cells = s.gl.cells ∧ up t (F.DF_FLOE_CNT_BOUNDS_N f) ∧ t.get F.DF_EVT_BOUNDS = 1)) ∧
          (∀ (act : StampAct) (v : Nat), r.op = .stamp act v →
            (act = .fetch → Does (.stampCell f c) s (delivers k (k.setTime v k.stamp.time) 0)) ∧
            (act = .sample → Does (.stampCell f c) s (delivers k (k.setTime v s.now) 0)) ∧
            (∀ nb : Option Nat, act = .appoint nb → k.port < 6 →
              let time := nb.map (fun n => k.reg n * tuSec + k.reg (n + 1) * 5)
              let len := k.buf.length + 4
              (s.on (F.AP_PORT_STAT_HOLD k.port) = true → Does (.stampCell f c) s fun t => Moved s t k f (.cell c) ∧
                (t.port k.port).held = (s.port k.port).held ++ [⟨len, time, .cell k.id c v⟩]) ∧
              (s.on (F.AP_PORT_STAT_HOLD k.port) = false →
                ((s.apRequest k.port len time).2 = none → Does (.stampCell f c) s (delivers k k 1)) ∧
                (∀ x : ApSlot, (s.apRequest k.port len time).2 = some x → Does (.stampCell f c) s fun t =>
                  delivers k { k.setTime v x.appt with deadline := deadlineWord (s.arrivalDeadline x), slot := some x.handle } 0 t ∧
                  (t.port k.port).slots = insertSlot x (s.port k.port).slots)))) ∧
          (∀ e : EmitTarget, r.op = .emit e →
            (e = .drop → Does (.emitCell f c) s fun t => Dropped s t k ∧ up t (F.DF_FLOE_CNT_DROP_N f)) ∧
            (∀ g : Fin 48, e = .floe g → (s.ingressLevel g < 64 → Does (.emitCell f c) s fun t => Moved s t k g .ingress ∧ up t (F.DF_FLOE_CNT_IN_N g)) ∧
              (64 ≤ s.ingressLevel g → Does (.emitCell f c) s fun t => Dropped s t k ∧ up t (F.DF_FLOE_CNT_INOVF_N g) ∧ t.get F.DF_EVT_INOVF = 1)) ∧
            (∀ q : Nat, e = .queue q → k.port < 6 → Does (.emitCell f c) s fun t => Dropped s t k ∧ up t (F.DF_PORT_CNT_SLOW k.port)) ∧
            (e = .port → k.port < 6 → k.slot = none → s.tooLong k.port { bytes := k.buf } = false → Does (.emitCell f c) s fun t => Dropped s t k ∧
              (t.port k.port).na = (s.port k.port).na ++ [⟨{ bytes := k.buf }, s.now⟩]) ∧
            (∀ (h : Nat) (x : ApSlot), e = .port → k.port < 6 → k.slot = some h → s.slotOf k.port h = some x → x.late = false → s.pastDeadline x = false →
              ({ bytes := k.buf } : Msg).sentLen ≤ x.len → s.tooLong k.port { bytes := k.buf } = false → Does (.emitCell f c) s fun t => Dropped s t k ∧
                (t.port k.port).slots = (s.port k.port).slots.map (fun y => if y.handle = h then { y with msg := some { bytes := k.buf } } else y)) ∧
            (∀ h : Nat, e = .port → k.port < 6 → k.slot = some h → s.slotOf k.port h = none → Does (.emitCell f c) s fun t => Dropped s t k ∧
              up t (F.AP_PORT_CNT_STRAY_N k.port))) ∧
          (∀ (port : Nat) (op : CxOp) (slot a b d e g o : Nat), r.op = .crypto port op slot a b d e g o →
            (s.callStatus k r.op = 0 → Does (.cryptoCall f c) s fun t => Moved s t k f (.cell c) ∧ t.df.cx = s.df.cx ++ [s.callOf f c k port slot op]) ∧
            (s.callStatus k r.op ≠ 0 → Does (.cryptoCall f c) s fun t => delivers k k 2 t ∧ up t (F.DF_FLOE_CNT_CXFAIL_N f))))))

/-- A free crypto lane goes to the earliest waiting call, and is freed when the operation ends or is revoked. In the Run state, for each lane kind. CRYPTO_LANE_GRANT with a waiting request and a lane neither busy nor off marks the lowest such lane busy and gives it to that request, from now on; with none waiting or no lane it changes nothing. CRYPTO_OP_COMPLETE of a request frees its lane, adds its work to the lane's counter, and delivers its token, with the bytes put out, to output 0, or to 1 where a verification fails, under the key that its call named. CRYPTO_LANE_REVOKE of a lane held beyond CX_HOLD_MAX frees it, delivers the token to output 2, counts in CX_CNT_REVOKE and the Floe's CXFAIL and writes event 0x0726; sooner it changes nothing. Of a lane that no request holds both change nothing. Operand layout and units of work are the model's choice (log entries 3 and 7). (R229, R232, R233, R234, R248, R294) -/
def Obligations.CryptoLanesAreGrantedFreedAndRevoked : Prop :=
  ∀ (s : State) (kind : Fin 3) (lane : Fin 24), s.power = .run → lane.val < laneCount kind →
    let up (t : State) (g : Fld) (n : Nat) := t.get g = min (s.get g + n) (2 ^ g.width - 1)
    let free := (List.range (laneCount kind)).find? (fun l => (s.get (cxBusy kind) ||| s.get (cxOff kind)) / 2 ^ l % 2 == 0)
    (∀ r : CxReq, s.nextCx kind = some r → ∀ l : Nat, free = some l → Does (.cryptoLaneGrant kind) s fun t =>
      t.get (cxBusy kind) = (s.get (cxBusy kind) ||| 2 ^ l) % 2 ^ (cxBusy kind).width ∧
      Frame { s with df.cx := s.df.cx.map (fun q => if q.tok = r.tok then { q with lane := some l, granted := s.now } else q) } t [cxBusy kind, cxAge kind]) ∧
    (s.nextCx kind = none ∨ free = none → Does (.cryptoLaneGrant kind) s fun t => Frame s t []) ∧
    (s.holderOf kind lane = none → ∀ c ∈ [Instr.cryptoOpComplete kind lane, .cryptoLaneRevoke kind lane], Does c s fun t => Frame s t []) ∧
    (∀ r : CxReq, s.holderOf kind lane = some r →
      let frees (t : State) := t.get (cxBusy kind) / 2 ^ lane.val % 2 = 0 ∧ t.df.cx = s.df.cx.filter (fun q => q.tok != r.tok)
      (s.now ≤ r.granted + s.holdMax kind → Does (.cryptoLaneRevoke kind lane) s fun t => Frame s t []) ∧
      (r.granted + s.holdMax kind < s.now → Does (.cryptoLaneRevoke kind lane) s fun t => frees t ∧ up t (cxRevoked kind) 1 ∧
        (r.floe < 48 → up t (F.DF_FLOE_CNT_CXFAIL_N r.floe) 1) ∧ t.get F.CX_EVT_REVOKE = 1 ∧
        ∀ (k : Token) (cr : CellRec), s.df.tokens.find? (fun k => k.id == r.tok) = some k → s.cellAt r.floe r.cell = some cr →
          Delivers r.floe r.cell cr k k 2 s t) ∧
      (Does (.cryptoOpComplete kind lane) s frees) ∧
      (∀ (k : Token) (cr : CellRec) (port : Nat) (op : CxOp) (slot ad adLen inp inLen tag out : Nat),
        s.df.tokens.find? (fun k => k.id == r.tok) = some k → s.cellAt r.floe r.cell = some cr → cr.op = .crypto port op slot ad adLen inp inLen tag out →
        let range (off n : Nat) := (k.buf.drop off).take n
        let q := op.result r.ty r.key (range ad adLen) (range inp inLen) (range tag op.tagLen)
        Does (.cryptoOpComplete kind lane) s fun t => up t (cxCounter kind lane) (op.work adLen inLen) ∧
          (q.1 = true → Delivers r.floe r.cell cr k (k.store s.bufSize out q.2) 0 s t) ∧ (q.1 = false → Delivers r.floe r.cell cr k k 1 s t)))

/-- A received frame becomes a token or goes to a host queue; host descriptors, late tokens and revoked bank locks act as stated. In the Run state. DISTRIBUTOR_INGRESS with the fabric running takes the oldest frame of a port: one of a time class that fits a buffer becomes a token, last in the ingress queue its flow hash names, with its message, stamp and deadline, or is dropped and counted where that is full; every other goes to its receive queue, 0 where no rule matches, where a full or disabled queue drops and counts it; with no frame, no image or a fabric that does not run it changes nothing. A served write of a transmit TAIL takes its value. HOST_DESCRIPTOR_FETCHED of an enabled queue with descriptors moves HEAD and queues the frame on its port, or counts it where too long; else it changes nothing. TOKEN_LATE drops and counts a late token at the head of its channel or queue, else nothing. BANK_LOCK_REVOKE of a lock held beyond its limit frees it, counts, delivers a cell's token to its fault output with memory unchanged, and keeps a row from repair until its next error; of another it changes nothing. (R200, R202, R215, R226, R227, R228, R230, R231, R278, R279, R316) -/
def Obligations.FramesReachTokensAndHostQueues : Prop :=
  let up (s t : State) (g : Fld) := t.get g = min (s.get g + 1) (2 ^ g.width - 1)
  (∀ (s : State) (p : Fin 6), s.power = .run →
    (∀ (x : RxFrame) (rest : List RxFrame), (s.wire.macs.getD p {}).rx = x :: rest →
      ∀ img : Image, s.df.image = some img → s.get F.DF_STAT_STATE = 1 →
        let takes (P : State → Prop) := Does (.distributorIngress p) s fun t => (t.wire.macs.getD p {}).rx = rest ∧ P t
        let hosts (q : Nat) :=
          let n := ringSize (s.get (F.PT_RX_CFG_SIZE q))
          let head := s.get (F.PT_RX_PTR_HEAD q) % n
          let room := s.on (F.PT_RX_CFG_EN q) = true ∧ head ≠ s.get (F.PT_RX_PTR_TAIL q) % n
          (¬room → takes fun t => t.df.tokens = s.df.tokens ∧ up s t (F.PT_RX_STAT_DROP q) ∧ up s t (F.DF_PORT_CNT_SLOW p)) ∧
          (room → takes fun t => t.df.tokens = s.df.tokens ∧ t.get (F.PT_RX_PTR_HEAD q) = (head + 1) % n ∧ up s t (F.DF_PORT_CNT_SLOW p) ∧
            Sends s t (.hostFrame q head x.bytes x.descFlags p x.stamp.time))
        let rule := img.classes.find? (fun r => r.matches (untag x.bytes))
        (rule = none → hosts 0) ∧
        (∀ c : ClassRule, rule = some c → c.queue < 8 → c.timed = false ∨ img.bufSize < x.bytes.length → hosts c.queue) ∧
        (∀ c : ClassRule, rule = some c → c.timed = true → x.bytes.length ≤ img.bufSize →
          let h := crc32c (flowKey (untag x.bytes))
          let floe := s.distFloe (h % 256)
          (s.ingressLevel floe < 64 → takes fun t => up s t (F.DF_FLOE_CNT_IN_N floe) ∧ ∃ k : Token, t.df.tokens = s.df.tokens ++ [k] ∧ k.floe = floe ∧
            k.place = .ingress ∧ k.hash = h ∧ k.port = p ∧ k.cls = c.cls % 16 ∧ k.buf = x.bytes.take (x.bytes.length - 4) ∧ k.stamp = x.stamp ∧
            k.deadline = deadlineWord ((if x.stamp.valid then x.stamp.time else s.now) + max 100 (min 8000 (s.get F.DF_CFG_TTL)) * tuUs)) ∧
          (64 ≤ s.ingressLevel floe → takes fun t => t.df.tokens = s.df.tokens ∧ up s t (F.DF_FLOE_CNT_INOVF_N floe) ∧
            up s t (F.DF_PORT_CNT_DROP p) ∧ t.get F.DF_EVT_INOVF = 1))) ∧
    ((s.wire.macs.getD p {}).rx = [] ∨ s.df.image = none ∨ s.get F.DF_STAT_STATE ≠ 1 → Does (.distributorIngress p) s fun t => Frame s t [])) ∧
  (∀ (s : State) (path : Path) (q : Fin 8) (v : Word), s.power = .run → s.judge path (F.PT_TX_PTR_TAIL q).off true = .served →
    Does (.hostTxTailWrite path q v) s fun t => t.get (F.PT_TX_PTR_TAIL q) = (F.PT_TX_PTR_TAIL q).ofWord v ∧ Frame s t [F.PT_TX_PTR_TAIL q]) ∧
  (∀ (s : State) (q : Fin 8) (p : Fin 6) (bytes : List Byte), s.power = .run →
    let n := ringSize (s.get (F.PT_TX_CFG_SIZE q))
    let head := s.get (F.PT_TX_PTR_HEAD q) % n
    let ready := s.on (F.PT_TX_CFG_EN q) = true ∧ head ≠ s.get (F.PT_TX_PTR_TAIL q) % n
    (ready → s.tooLong p { bytes := bytes } = false → Does (.hostDescriptorFetched q p bytes) s fun t =>
      t.get (F.PT_TX_PTR_HEAD q) = (head + 1) % n ∧ (t.port p).na = (s.port p).na ++ [⟨{ bytes := bytes }, s.now⟩] ∧ Sends s t (.hostDone q head)) ∧
    (ready → s.tooLong p { bytes := bytes } = true → Does (.hostDescriptorFetched q p bytes) s fun t =>
      t.get (F.PT_TX_PTR_HEAD q) = (head + 1) % n ∧ (t.port p).na = (s.port p).na ∧ up s t (F.MAC_PORT_TX_OVERSIZE_N p)) ∧
    (¬ready → Does (.hostDescriptorFetched q p bytes) s fun t => Frame s t [])) ∧
  (∀ (s : State) (tok : Nat), s.power = .run →
    (∀ k : Token, s.df.tokens.find? (fun k => k.id == tok) = some k →
      (s.atHead k = true → s.late k = true → Does (.tokenLate tok) s fun t => Dropped s t k ∧
        t.get F.DF_EVT_LATE = 1 ∧ (s.gateOf k < 48 → up s t (F.DF_FLOE_CNT_LATE_N (s.gateOf k)))) ∧
      (s.atHead k = false ∨ s.late k = false → Does (.tokenLate tok) s fun t => Frame s t [])) ∧
    (s.df.tokens.find? (fun k => k.id == tok) = none → Does (.tokenLate tok) s fun t => Frame s t [])) ∧
  (∀ (s : State) (bank channel : BitVec 4), s.power = .run →
    let id := (bank ++ channel : BitVec 8).toNat
    (∀ l : BankLock, s.lockOf id = some l →
      (s.lockOverdue l = false → Does (.bankLockRevoke bank channel) s fun t => Frame s t []) ∧
      (s.lockOverdue l = true → Does (.bankLockRevoke bank channel) s fun t =>
        up s t F.GL_CNT_REVOKE_REVOKE ∧ t.lockOf id = none ∧ t.gl.cells = s.gl.cells ∧
        (∀ row src, l.holder = .repair row src → t.gl.spared.contains (id + row * 2 ^ 8) = true ∧
          Frame { s with gl := t.gl } t [F.GL_CNT_REVOKE_REVOKE, F.EC_EVT_REVOKE]) ∧
        (∀ f c tok r k, l.holder = .cell f c tok → s.cellAt f c = some r → s.tokenIn f c = some k → Delivers f c r k k 2 s t))) ∧
    (s.lockOf id = none → Does (.bankLockRevoke bank channel) s fun t => Frame s t []))

/-- A leap entry is inserted, deleted or refused with its reason, and a smear window ends. In the Run state, on a served write. LEAP_INSERT of an entry that fits its neighbours puts it into the table as entered by the host between them, in place of one with its second, and where the table is full the first entry goes; VER counts and event flag LEAP is set; one that does not fit changes nothing but event 0x0734 with the reason. LEAP_DELETE of a second in the table leaves no entry with that second and VER counts; of a second that is not there it changes nothing. Neither changes a register outside PT. SMEAR_WINDOW_END of a class outside its smear window puts its written SMEAR_EN and HALF in force and changes no register; inside the window it changes nothing. (R273, R275, R276, R282) -/
def Obligations.LeapTableChangesAndIsRefused : Prop :=
  (∀ (s : State) (path : Path) (te : BitVec 48) (delta : BitVec 10), s.power = .run → s.judge path F.PT_LEAP_WR_TE.off true = .served →
    let e : Leap := ⟨te.toNat, signedOf 10 delta.toNat, 1⟩
    let before := s.leaps.filter (fun x => x.te < e.te)
    let after := s.leaps.filter (fun x => e.te < x.te)
    let fault := leapFault before e after
    let changed (t : State) := t.get F.PT_LEAP_CFG_VER = (s.get F.PT_LEAP_CFG_VER + 1) % 2 ^ F.PT_LEAP_CFG_VER.width ∧ t.get F.PT_EVT_LEAP = 1 ∧
      FrameIn { s with gl := t.gl } t 0x0D
    (fault = 0 → Does (.leapInsert path te delta) s fun t => e ∈ t.leaps ∧ changed t ∧ ((∀ x ∈ s.leaps, x.te < 2 ^ 48) →
      (before.length + after.length < 64 → t.leaps.map Leap.te = before.map Leap.te ++ e.te :: after.map Leap.te) ∧
      (before.length + after.length = 64 → before ≠ [] → t.leaps.map Leap.te = (before.drop 1).map Leap.te ++ e.te :: after.map Leap.te))) ∧
    (fault ≠ 0 → Does (.leapInsert path te delta) s fun t => Frame s t [F.PT_EVT_LEAP_REJ] ∧ Logs s t 0x0734 0x0D 0 fault) ∧
    ((∀ x ∈ s.leaps, x.te ≠ te.toNat) → Does (.leapDelete path te) s fun t => Frame s t []) ∧
    ((s.leaps.any (fun x => x.te == te.toNat)) = true → (∀ x ∈ s.leaps, x.te < 2 ^ 48) → Does (.leapDelete path te) s fun t =>
      t.leaps.map Leap.te = (s.leaps.filter (fun x => x.te != te.toNat)).map Leap.te ∧ changed t ∧
      t.get F.PT_LEAP_CFG_COUNT = (s.leaps.filter (fun x => x.te != te.toNat)).length % 2 ^ F.PT_LEAP_CFG_COUNT.width)) ∧
  (∀ (s : State) (k : Fin 8), s.power = .run →
    (s.smearAt k s.sec = none → Does (.smearWindowEnd k) s fun t =>
      t.smearOf k = (s.on (F.PT_CLASS_SMEAR_EN k), max 3600 (min 86400 (s.get (F.PT_CLASS_HALF k)))) ∧ Frame { s with pt.smear := t.pt.smear } t []) ∧
    (s.smearAt k s.sec ≠ none → Does (.smearWindowEnd k) s fun t => Frame s t []))

/-- ESMC information goes out on an enabled lane, a received QL is shown, and its absence is noticed. In the Run state. ESMC_INFO_SEND on a lane other than LN4, fabric running: with TX_EN the PDU with the lane's QL is queued, without it none; else nothing changes. ESMC_RECEIVED on such a lane with RX_EN: QL_RX shows the QL, an information PDU sets RX_OK, and a changed QL writes event 0x0736 with the port, the old and the new QL; else nothing changes. ESMC_TIMEOUT with RX_OK = 1, five seconds or more after the last information PDU, clears it with event 0x0737; with RX_OK = 0, or sooner, nothing changes. (R167, R277) -/
def Obligations.EsmcIsSentReceivedAndTimesOut : Prop :=
  ∀ (s : State) (p : Fin 6), s.power = .run →
    let sends := p.val ≠ 4 ∧ s.get F.DF_STAT_STATE = 1
    let takes := p.val ≠ 4 ∧ s.on (F.PT_PORT_ESMC_RX_EN p) = true
    (sends → s.on (F.PT_PORT_ESMC_TX_EN p) = true → Does (.esmcInfoSend p) s fun t =>
      (t.port p).na = (s.port p).na ++ [⟨s.esmcFrame p false (s.qlOf p), s.now⟩] ∧ (t.ptPort p).qlSent = s.qlOf p) ∧
    (sends → s.on (F.PT_PORT_ESMC_TX_EN p) = false → Does (.esmcInfoSend p) s fun t =>
      (t.ptPort p).qlSent = s.qlOf p ∧ Frame { s with pt.ports := t.pt.ports } t []) ∧
    (¬sends → Does (.esmcInfoSend p) s fun t => Frame s t []) ∧
    (∀ (event : Bool) (ql : BitVec 4),
      (¬takes → Does (.esmcReceived p event ql) s fun t => Frame s t []) ∧
      (takes → Does (.esmcReceived p event ql) s fun t => t.get (F.PT_PORT_ESMC_QL_RX p) = ql.toNat ∧
        (event = false → t.get (F.PT_PORT_ESMC_RX_OK p) = 1 ∧ (t.ptPort p).esmcAt = some s.now) ∧
        (event = true → t.get (F.PT_PORT_ESMC_RX_OK p) = s.get (F.PT_PORT_ESMC_RX_OK p) ∧ t.ptPort p = s.ptPort p) ∧
        Frame { s with pt.ports := t.pt.ports } t [F.PT_PORT_ESMC_QL_RX p, F.PT_PORT_ESMC_RX_OK p, F.PT_EVT_QL] ∧
        (s.get (F.PT_PORT_ESMC_QL_RX p) ≠ ql.toNat → Logs s t 0x0736 0x0D p (p + s.get (F.PT_PORT_ESMC_QL_RX p) * 16 + ql.toNat * 256)) ∧
        (s.get (F.PT_PORT_ESMC_QL_RX p) = ql.toNat → LogsNone s t))) ∧
    (s.on (F.PT_PORT_ESMC_RX_OK p) = true → s.esmcSilent p = true → Does (.esmcTimeout p) s fun t => t.get (F.PT_PORT_ESMC_RX_OK p) = 0 ∧
      Frame s t [F.PT_PORT_ESMC_RX_OK p, F.PT_EVT_ESMC_TO] ∧ Logs s t 0x0737 0x0D p p) ∧
    (s.on (F.PT_PORT_ESMC_RX_OK p) = false ∨ s.esmcSilent p = false → Does (.esmcTimeout p) s fun t => Frame s t [])

/-- An NTP request is ignored, dropped under the first count that applies, kissed off, or answered at an appointed time. In the Run state. A request on a port that does not serve NTP, or with the fabric not running, changes nothing; modes 6 and 7 go to the host. Else an unsupported one counts in UNSUPP; one while UTC is unknown counts in NOUTC; one with an unusable stamp in STAMP_DROP; one on a silenced port in AUTH_FAIL; a plain one of a class that requires NTS in AUTH_FAIL; an NTS one while keys are gone in AUTH_FAIL, with a missing field in UNSUPP; and none of these changes another register. The bucket of the class then drops a request, counted in RATE_DROP, kisses it off, counted in KOD, or allows it. An NTS one whose cookie does not open counts in NTSN, one whose authenticator fails in AUTH_FAIL. An allowed plain request, on a port with granting open and of a class without a rate, counts in CNT_NTP exactly where its appointment is granted. (R262, R263, R264, R265, R266, R267, R268, R269) -/
def Obligations.NtpRequestsAreJudgedInOrder : Prop :=
  ∀ (s : State) (p : Fin 6) (x : TStamp) (r : NtpRequest) (q : Fin 8) (frame : List Byte), s.power = .run →
    let on := s.serving = true ∧ p.val ≠ 4 ∧ s.on (F.PT_PORT_SVC_NTP_EN p) = true
    let fits := 48 ≤ r.length ∧ (r.version = 3 ∨ r.version = 4) ∧ r.mode = 3 ∧ r.legacyMac = false
    let utc := (s.delta (secOf (if x.valid then x.time else s.now))).isSome = true
    let k := s.classOf p r.peer
    let reply : NtpReply := { peer := r.peer, version := r.version, poll := r.poll, origin := r.transmit, rx := x.time, held := x.held, cls := k, bursis := s.bursisDue k r }
    let does (P : State → Prop) := Does (.ntpRequest p x r q frame) s P
    let up (t : State) (f : Fld) := t.get f = min (s.get f + 1) (2 ^ f.width - 1)
    let counts (f : Fld) := does fun t => up t f ∧ Frame s t [f]
    let good := on ∧ fits ∧ utc ∧ s.stampBad x = false ∧ s.silenced p = false
    let verdict := (s.charge k r.peer x true).2
    (¬on → does fun t => Frame s t []) ∧
    (on → r.mode = 6 ∨ r.mode = 7 → does fun t => up t (F.DF_PORT_CNT_SLOW p) ∧ t.df = s.df) ∧
    (on → r.mode ≠ 6 → r.mode ≠ 7 →
      (¬fits → counts (F.PT_PORT_CNT_UNSUPP_N p)) ∧ (fits → ¬utc → counts (F.PT_PORT_CNT_NOUTC_N p)) ∧
      (fits → utc → s.stampBad x = true → counts (F.PT_PORT_CNT_STAMP_DROP_N p)) ∧
      (fits → utc → s.stampBad x = false → s.silenced p = true → counts (F.PT_PORT_CNT_AUTH_FAIL_N p))) ∧
    (good → r.nts = none ∨ r.version = 3 →
      (s.on (F.PT_CLASS_NTS_REQ k) = true → counts (F.PT_PORT_CNT_AUTH_FAIL_N p)) ∧
      (s.on (F.PT_CLASS_NTS_REQ k) = false →
        (verdict = .limited → does fun t => up t (F.PT_PORT_CNT_RATE_DROP_N p) ∧ (t.port p) = s.port p) ∧
        (verdict = .kiss → s.tooLong p { peer := some r.peer, bytes := s.kiss r kissRate } = false → does fun t => up t (F.PT_PORT_CNT_KOD_N p) ∧
          (t.port p).na = (s.port p).na ++ [⟨{ peer := some r.peer, bytes := s.kiss r kissRate }, s.now⟩]) ∧
        (s.get (F.PT_CLASS_RATE k) = 0 → s.on (F.AP_PORT_STAT_HOLD p) = false →
          let n := s.granted p (Msg.frameLen { peer := some r.peer, bytes := s.ntpResponse p s.now reply }) none
          (n = 1 → does fun t => up t (F.PT_PORT_CNT_NTP_N p) ∧ up t (F.AP_PORT_CNT_GRANT_N p)) ∧
          (n = 0 → does fun t => t.get (F.PT_PORT_CNT_NTP_N p) = s.get (F.PT_PORT_CNT_NTP_N p) ∧ t.port p = s.port p)))) ∧
    (∀ n : NtsFields, good → r.version = 4 → r.nts = some n →
      let slot := s.get F.PT_NTS_CFG_CUR_SLOT
      (s.keysGone = true → counts (F.PT_PORT_CNT_AUTH_FAIL_N p)) ∧
      (s.keysGone = false → n.auth = none ∨ n.cookies.length ≠ 1 ∨ n.uid.length < 32 → counts (F.PT_PORT_CNT_UNSUPP_N p)) ∧
      (∀ (nonce text ad c : List Byte), s.keysGone = false → n.auth = some (nonce, text, ad) → n.cookies = [c] → 32 ≤ n.uid.length →
        (verdict = .limited → does fun t => up t (F.PT_PORT_CNT_RATE_DROP_N p) ∧ t.port p = s.port p) ∧
        (s.get (F.PT_CLASS_RATE k) = 0 →
          (s.openCookie c = none → does fun t => up t (F.PT_PORT_CNT_NTSN_N p) ∧ t.get F.PT_EVT_NTSN = 1) ∧
          (∀ keys : List Byte × List Byte, s.openCookie c = some keys →
            (Config.aesSivOpen keys.1 nonce ad text = none → counts (F.PT_PORT_CNT_AUTH_FAIL_N p)) ∧
            (Config.aesSivOpen keys.1 nonce ad text ≠ none → s.keyCheck 8 slot [2] 19 ≠ 0 → counts (F.PT_PORT_CNT_AUTH_FAIL_N p))))))

/-- A grandmaster port enters and denies grants, acknowledges a CANCEL, sends at its instants and answers Delay_Req. In the Run state. On a port in another role a request, a CANCEL, an instant and a Delay_Req change nothing; a Pdelay message in either role counts in UNSUPP. On a grandmaster port that hears the sender: one over its class's rate counts in RATE_DROP; on a class without a rate, a type or period that cannot be granted counts in GRANT_DENY; so does a new requester with no room in the table, with event flag SESS_FULL, or in the budget, with BUDGET; a granted one counts in PT_SESS.COUNT and adds its rate, and a renewal replaces it; a CANCEL ends the grant it names and is acknowledged. A multicast Sync or Announce instant takes the next sequenceId, and it, or that of a session within its grant, counts where its appointment is granted. An unusable stamp counts in STAMP_DROP, a Delay_Req without a grant in unicast in UNSUPP, and another in DRESP where granted. GRANT_EXPIRY of a grant at its end takes its rate off the port, else nothing changes. (R250, R252, R253, R254, R255, R256, R257, R265, R267) -/
def Obligations.GrandmasterGrantsDeniesAndAnswers : Prop :=
  let up (s t : State) (f : Fld) := t.get f = min (s.get f + 1) (2 ^ f.width - 1)
  let where_ (s t : State) (n : Nat) (f : Fld) := (n = 1 → up s t f) ∧ (n = 0 → t.get f = s.get f)
  (∀ (s : State) (p : Fin 6) (x : TStamp) (u : PtpUnicast) (e : Option (BitVec 22)), s.power = .run →
    (s.ptpRole p ≠ 1 →
      ∀ c ∈ [Instr.ptpUnicastRequest p x u, .ptpCancel p u, .ptpSyncInstant p e, .ptpAnnounceInstant p e, .ptpDelayReq p x u.head false],
        Does c s fun t => Frame s t []) ∧
    (s.serving = true → s.ptpRole p ≠ 0 → s.forPort p u.head = true → Does (.ptpDelayReq p x u.head true) s fun t =>
      Frame s t [F.PT_PORT_CNT_UNSUPP_N p] ∧ up s t (F.PT_PORT_CNT_UNSUPP_N p))) ∧
  (∀ (s : State) (p : Fin 6) (x : TStamp) (u : PtpUnicast), s.power = .run → s.hears p 1 u.head = true →
    let key := u.head.key p
    let q := s.findSession key
    let rate := (s.ptPort p).rate
    let asked := rateOf (u.logPeriod % 256).toNat
    let asks (P : State → Prop) := Does (.ptpUnicastRequest p x u) s P
    let denies (P : State → Prop) := asks fun t => up s t (F.PT_PORT_CNT_GRANT_DENY_N p) ∧ (t.ptPort p).rate = rate ∧ P t
    ((s.charge (s.classOf p u.head.peer) u.head.peer x false).2 ≠ .allowed → asks fun t => up s t (F.PT_PORT_CNT_RATE_DROP_N p)) ∧
    (s.get (F.PT_CLASS_RATE (s.classOf p u.head.peer)) = 0 →
      ((∀ i, grantIndex u.msgType = some i → ¬(s.minLog i ≤ u.logPeriod ∧ u.logPeriod ≤ 4)) → denies fun t => t.pt.taken = s.pt.taken) ∧
      (∀ i : Nat, grantIndex u.msgType = some i → s.minLog i ≤ u.logPeriod → u.logPeriod ≤ 4 →
        (q.2 = none → q.1.canHold key = false → denies fun t => t.get F.PT_EVT_SESS_FULL = 1) ∧
        (q.2 = none → q.1.canHold key = true → 16 * s.get (F.PT_PORT_SVC_BUDGET p) < rate + asked → denies fun t => t.get F.PT_EVT_BUDGET = 1) ∧
        (q.2 = none → q.1.canHold key = true → rate + asked ≤ 16 * s.get (F.PT_PORT_SVC_BUDGET p) → asks fun t =>
          t.get F.PT_SESS_COUNT = q.1.get F.PT_SESS_COUNT + 1 ∧ (t.ptPort p).rate = rate + asked) ∧
        (∀ (e : Nat) (y : Session), q.2 = some (e, y) → (∀ j : Fin 3, s.grantOver y j = false) →
          let kept := rate - rateOf (y.logs.getD i 0x7F)
          (kept + asked ≤ 16 * s.get (F.PT_PORT_SVC_BUDGET p) → asks fun t => (t.ptPort p).rate = kept + asked) ∧
          (16 * s.get (F.PT_PORT_SVC_BUDGET p) < kept + asked → denies fun t => t.get F.PT_EVT_BUDGET = 1)))) ∧
    (q.2 = none → s.ptpSends p = true → u.head.src.length ≤ 10 → Does (.ptpCancel p u) s fun t =>
      (t.port p).na.length = (s.port p).na.length + 1 ∧ (t.ptPort p).seqSig = ((s.ptPort p).seqSig + 1) % 2 ^ 16) ∧
    (∀ (e : Nat) (y : Session) (i : Nat), q.2 = some (e, y) → grantIndex u.msgType = some i → y.logs.getD i 0x7F ≠ 0x7F →
      Does (.ptpCancel p u) s fun t => (t.ptPort y.port).rate = (s.ptPort y.port).rate - rateOf (y.logs.getD i 0x7F))) ∧
  (∀ (s : State) (p : Fin 6), s.power = .run → s.ptpRole p = 1 →
    let instants (e : Option (BitVec 22)) := [Instr.ptpSyncInstant p e, .ptpAnnounceInstant p e]
    (s.ptpProfile p = 2 ∨ s.ptpSends p = false → ∀ c ∈ instants none, Does c s fun t => Frame s t []) ∧
    (s.ptpProfile p ≠ 2 → s.ptpSends p = true → s.on (F.AP_PORT_STAT_HOLD p) = false →
      (∀ x : Peer × List Byte, s.jobBytes p s.now (.sync (s.multicast p true) false (s.get (F.PT_PORT_PTP_SPP p)) (s.ptPort p).seqSync) = some x →
        Does (.ptpSyncInstant p none) s fun t => (t.ptPort p).seqSync = ((s.ptPort p).seqSync + 1) % 2 ^ 16 ∧
          where_ s t (s.granted p (Msg.frameLen { peer := some x.1, bytes := x.2 }) (some (s.instant (periodOf (s.getI (F.PT_PORT_PTP_LOG_SYNC p))) 0)))
            (F.PT_PORT_CNT_SYNC_N p)) ∧
      (∀ x : Peer × List Byte, s.jobBytes p s.now (.announce (s.multicast p false) false (s.get (F.PT_PORT_PTP_SPP p)) (s.ptPort p).seqAnn) = some x →
        Does (.ptpAnnounceInstant p none) s fun t => (t.ptPort p).seqAnn = ((s.ptPort p).seqAnn + 1) % 2 ^ 16 ∧
          where_ s t (s.granted p (Msg.frameLen { peer := some x.1, bytes := x.2 }) (some (s.instant (periodOf (s.getI (F.PT_PORT_PTP_LOG_ANN p))) 0)))
            (F.PT_PORT_CNT_ANN_N p))) ∧
    (∀ e : BitVec 22, (s.readSession e.toNat).2 = none → ∀ c ∈ instants (some e), Does c s fun t => Frame s t []) ∧
    (∀ (e : BitVec 22) (y : Session) (sync : Bool), (s.readSession e.toNat).2 = some y →
      let i := if sync then 1 else 0
      let c := if sync then Instr.ptpSyncInstant p (some e) else .ptpAnnounceInstant p (some e)
      let per := periodOf (signedOf 8 (y.logs.getD i 0x7F))
      let at_ := s.instant per (y.phase per)
      let sends := y.port = p.val ∧ y.logs.getD i 0x7F ≠ 0x7F ∧ 2 ^ 31 ≤ (secOf at_ + 2 ^ 32 - y.expiry.getD i 0 % 2 ^ 32) % 2 ^ 32 ∧ s.ptpSends p = true
      let job := if sync then Job.sync (y.peer true) true (s.sppOf p y) y.seqSync else .announce (y.peer false) true (s.sppOf p y) y.seqAnn
      (¬sends → Does c s fun t => Frame s t []) ∧
      (sends → s.on (F.AP_PORT_STAT_HOLD p) = false → ∀ x : Peer × List Byte, s.jobBytes p s.now job = some x → Does c s fun t =>
        where_ s t (s.granted p (Msg.frameLen { peer := some x.1, bytes := x.2 }) (some at_))
          (if sync then F.PT_PORT_CNT_SYNC_N p else F.PT_PORT_CNT_ANN_N p)))) ∧
  (∀ (s : State) (p : Fin 6) (x : TStamp) (h : PtpHead), s.power = .run → s.hears p 1 h = true →
    let g := (s.delayGrant p h).2
    let job := match g with
      | some y => Job.delayResp (y.peer false) true (s.sppOf p y) h.seq h.src h.corr x
      | none => Job.delayResp (s.multicast p false) false (s.get (F.PT_PORT_PTP_SPP p)) h.seq h.src h.corr x
    let asks (P : State → Prop) := Does (.ptpDelayReq p x h false) s P
    (s.ptpProfile p = 2 → g = none → asks fun t => up s t (F.PT_PORT_CNT_UNSUPP_N p)) ∧
    (s.ptpProfile p ≠ 2 ∨ g ≠ none →
      (s.stampBad x = true → asks fun t => up s t (F.PT_PORT_CNT_STAMP_DROP_N p)) ∧
      (s.stampBad x = false → s.get (F.PT_CLASS_RATE (s.classOf p h.peer)) = 0 → s.on (F.AP_PORT_STAT_HOLD p) = false →
        ∀ y : Peer × List Byte, s.jobBytes p s.now job = some y → asks fun t =>
          where_ s t (s.granted p (Msg.frameLen { peer := some y.1, bytes := y.2 }) none) (F.PT_PORT_CNT_DRESP_N p)))) ∧
  (∀ (s : State) (e : BitVec 22) (i : Fin 3), s.power = .run →
    (∀ x : Session, (s.readSession e.toNat).2 = some x →
      (s.grantOver x i = true → Does (.grantExpiry e i) s fun t =>
        (t.ptPort x.port).rate = (s.ptPort x.port).rate - rateOf (x.logs.getD i 0x7F)) ∧
      (s.grantOver x i = false → Does (.grantExpiry e i) s fun t => Frame s t [])) ∧
    ((s.readSession e.toNat).2 = none → Does (.grantExpiry e i) s fun t => Frame s t []))

/-- A client port follows the grandmaster heard, completes exchanges, renews its grants and notices timeouts. In the Run state, on a client port that hears the sender; in another role nothing changes. An Announce replaces the held one of its sender, others within their timeout stay, and the best sender is followed; where that is this one, the Announce condition holds if the previous one was recent, and the upstream is judged. A one-step Sync of the one followed with a usable stamp sets the waiting exchange and its condition, with an unusable one it counts in STAMP_DROP; a two-step one changes nothing. A Delay_Resp that answers the request sent completes one offset. A GRANT sets its duration held. CLIENT_GRANT_RENEW queues a request once half the duration has passed or none is held; CLIENT_DELAY_REQ_SEND takes the next sequenceId, in unicast with a grant. A Sync timeout once its span has passed clears that condition; an Announce timeout drops what is too old and follows the best left. A served write of PT_PORTp_PTP takes ROLE and PROFILE, and a PROFILE that stays takes every field. (R250, R251, R258, R259, R265) -/
def Obligations.ClientFollowsItsUpstream : Prop :=
  let ports (s t : State) (fs : List Fld) := Frame { s with pt.ports := t.pt.ports } t fs
  let drops (s t : State) (p : Fin 6) := Frame s t [F.PT_PORT_CNT_STAMP_DROP_N p] ∧
    t.get (F.PT_PORT_CNT_STAMP_DROP_N p) = min (s.get (F.PT_PORT_CNT_STAMP_DROP_N p) + 1) (2 ^ (F.PT_PORT_CNT_STAMP_DROP_N p).width - 1)
  (∀ (s : State) (p : Fin 6) (x : TStamp) (i : Fin 3) (a : PtpAnnounce) (m : PtpSync) (d : PtpDelayResp) (u : PtpUnicast), s.power = .run → s.ptpRole p ≠ 2 →
    ∀ c ∈ [Instr.ptpAnnounceReceived p a, .ptpSyncReceived p x m, .ptpDelayRespReceived p x d, .ptpGrantReceived p u, .clientGrantRenew p i,
      .clientDelayReqSend p], Does c s fun t => Frame s t []) ∧
  (∀ (s : State) (p : Fin 6) (a : PtpAnnounce), s.power = .run →
    let held := (s.ptPort p).announces.filter (fun (x : PtpAnnounce × Nat) => x.1.head.src != a.head.src && decide (s.now < x.2 + s.annSpan p)) ++ [(a, s.now)]
    (s.fromUpstream p a.head = false → Does (.ptpAnnounceReceived p a) s fun t => Frame s t []) ∧
    (s.hears p 2 a.head = true → s.fromUpstream p a.head = true → Does (.ptpAnnounceReceived p a) s fun t => (t.ptPort p).announces = held ∧
      (t.ptPort p).followed = (bestAnnounce held).map (fun b => b.head.src) ∧
      ((t.ptPort p).followed = some a.head.src → (t.ptPort p).annOk = s.annRecent p a.head.src ∧ ((s.ptPort p).followed = some a.head.src →
        (t.ptPort p).rejected = ((s.upstreamFault p a).1 != 0) ∧ (t.ptPort p).upBound = (s.upstreamFault p a).2)))) ∧
  (∀ (s : State) (p : Fin 6) (x : TStamp) (m : PtpSync), s.power = .run → s.hears p 2 m.head = true → s.fromFollowed p m.head = true →
    (m.twoStep = true → Does (.ptpSyncReceived p x m) s fun t => Frame s t []) ∧
    (m.twoStep = false → s.stampBad x = true → Does (.ptpSyncReceived p x m) s fun t => drops s t p) ∧
    (m.twoStep = false → s.stampBad x = false → Does (.ptpSyncReceived p x m) s fun t => (t.ptPort p).syncOk = s.syncRecent p ∧
      (t.ptPort p).syncAt = some s.now ∧ (t.ptPort p).sync = some ⟨(ptpTime m.sec m.ns m.head.corr).toNat, x.time⟩ ∧ (t.ptPort p).bursis = m.bursis ∧
      ports s t [F.PT_EVT_UPSTREAM])) ∧
  (∀ (s : State) (p : Fin 6) (x : TStamp) (m : PtpDelayResp), s.power = .run → s.hears p 2 m.head = true → s.fromFollowed p m.head = true →
    m.requester = s.portIdentity p →
    (s.stampBad x = true → Does (.ptpDelayRespReceived p x m) s fun t => drops s t p) ∧
    (s.stampBad x = false → (s.ptPort p).sync = none ∨ (s.ptPort p).request = none → Does (.ptpDelayRespReceived p x m) s fun t => Frame s t []) ∧
    (s.stampBad x = false → ∀ e : PtExchange, (s.ptPort p).sync = some e → ∀ r : Nat × Nat, (s.ptPort p).request = some r →
      (r.1 = m.head.seq → Does (.ptpDelayRespReceived p x m) s fun t => (t.ptPort p).offN = (s.ptPort p).offN + 1 ∧ (t.ptPort p).request = none ∧
        (t.ptPort p).offSum = (s.ptPort p).offSum +
          exchangeOffset e.t1 e.t2 r.2 (ptpTime m.sec m.ns (-m.head.corr)) (s.getI (F.PT_PORT_ASYM_ASYM p)) ∧ ports s t []) ∧
      (r.1 ≠ m.head.seq → Does (.ptpDelayRespReceived p x m) s fun t => Frame s t []))) ∧
  (∀ (s : State) (p : Fin 6) (u : PtpUnicast), s.power = .run →
    let takes := s.fromUpstream p u.head = true ∧ s.on (F.PT_PORT_CLIENT_UNICAST p) = true
    (¬takes ∨ grantIndex u.msgType = none ∧ s.hears p 2 u.head = true → Does (.ptpGrantReceived p u) s fun t => Frame s t []) ∧
    (s.hears p 2 u.head = true → takes → ∀ i : Nat, grantIndex u.msgType = some i → Does (.ptpGrantReceived p u) s fun t =>
      (t.ptPort p).grants.getD i 0 = u.duration ∧ (t.ptPort p).grantAt.getD i 0 = s.now ∧ ports s t [])) ∧
  (∀ (s : State) (p : Fin 6) (i : Fin 3), s.power = .run →
    let uni := s.on (F.PT_PORT_CLIENT_UNICAST p) = true
    let asks := s.ptpSends p = true ∧ (s.ptPort p).followed.isSome = true ∧ (uni → s.grantHeld p 2 = true)
    let rest := (s.ptPort p).announces.filter
      (fun (x : PtpAnnounce × Nat) => (s.ptPort p).followed != some x.1.head.src && decide (s.now < x.2 + s.annSpan p))
    let recent := ∃ src, (s.ptPort p).followed = some src ∧ s.annRecent p src = true
    (¬uni ∨ s.renewDue p i = false → Does (.clientGrantRenew p i) s fun t => Frame s t []) ∧
    (s.ptpRole p = 2 → uni → s.renewDue p i = true → s.ptpSends p = true → s.on (F.PT_PORT_PTP_AUTH_REQ p) = false →
      Does (.clientGrantRenew p i) s fun t => (t.port p).na.length = (s.port p).na.length + 1) ∧
    (s.ptpRole p = 2 → asks → Does (.clientDelayReqSend p) s fun t => (t.ptPort p).seqReq = ((s.ptPort p).seqReq + 1) % 2 ^ 16) ∧
    (¬asks → Does (.clientDelayReqSend p) s fun t => Frame s t []) ∧
    (s.syncRecent p = false → Does (.ptpReceiptTimeout p false) s fun t => (t.ptPort p).syncOk = false ∧
      (t.ptPort p).announces = (s.ptPort p).announces ∧ ports s t []) ∧
    (s.syncRecent p = true → Does (.ptpReceiptTimeout p false) s fun t => Frame s t []) ∧
    (¬recent → Does (.ptpReceiptTimeout p true) s fun t => (t.ptPort p).announces = rest ∧ (t.ptPort p).annOk = false ∧
      (t.ptPort p).followed = (bestAnnounce rest).map (fun b => b.head.src) ∧ ports s t []) ∧
    (recent → Does (.ptpReceiptTimeout p true) s fun t => Frame s t [])) ∧
  (∀ (s : State) (path : Path) (p : Fin 6) (v : Word), s.power = .run → s.judge path (F.PT_PORT_PTP_ROLE p).off true = .served →
    Does (.ptPortPtpWrite path p v) s fun t => (∀ f ∈ [F.PT_PORT_PTP_ROLE p, F.PT_PORT_PTP_PROFILE p, F.PT_PORT_PTP_AUTH_REQ p], t.get f = f.ofWord v) ∧
      ((F.PT_PORT_PTP_PROFILE p).ofWord v = s.get (F.PT_PORT_PTP_PROFILE p) → ∀ f ∈ fieldsAt (F.PT_PORT_PTP_ROLE p).off, f.acc = .rw → t.get f = f.ofWord v) ∧
      ((F.PT_PORT_PTP_PROFILE p).ofWord v = 1 → s.get (F.PT_PORT_PTP_PROFILE p) ≠ 1 → t.get (F.PT_PORT_PTP_DOMAIN p) = 24 ∧
        t.getI (F.PT_PORT_PTP_LOG_SYNC p) = -4 ∧ t.getI (F.PT_PORT_PTP_LOG_ANN p) = -3))

/-- A tamper source that trips latches with source, moment and RTC count, empties the slots and disables the root; once latched it only adds its source. In the Run state. The following trip: an enabled input at its tamper level with DEBOUNCE = 0, an input that has stood at its tamper level for DEBOUNCE, and the voltage, temperature and clock monitors, enabled and outside their limits. On a part not latched LATCH is 1, WHEN and TP_TIME show moment and RTC count, SRC holds the source, every slot is empty, the root is disabled and event 0x0910 is written with source and moment. On a latched part only SRC changes, gaining the source, and no event is written; a temperature sample also shows in PM_TEMP. With DEBOUNCE above 0 an assertion begins debounce, which a further one does not restart; a level that is not the tamper level ends it; a disabled monitor, or debounce that does not run or has not yet run out, trips nothing. (R284, R290, R295, R296, R297, R302, R417) -/
def Obligations.TamperSourcesLatchAndZeroise : Prop :=
  ∀ (s : State) (n : Fin 4) (level : Bool) (mv fall ps : Nat) (deg : Int), s.power = .run →
    let temps := [F.PM_TEMP_TJ, F.PM_TEMP_TJ_MAX, F.PM_TEMP_HOT]
    let trips := [
      (Instr.tamperInputAssert n level, s.tamperLevel n level && s.get F.TP_CFG_DEBOUNCE == 0, 2 ^ n.val),
      (.tamperDebounceExpiry n, s.debounced n, 2 ^ n.val),
      (.voltageMonitorTrip mv fall, s.on F.TP_CFG_VMON && voltageTamper mv fall, 16),
      (.tempMonitorTrip deg, s.on F.TP_CFG_TMON && tempTamper deg, 32),
      (.clockMonitorTrip ps, s.on F.TP_CFG_CMON && (decide (ps < 1200) || decide (2400 < ps)), 64)]
    (∀ e ∈ trips, let shown := if e.2.2 = 32 then temps else []
      (e.2.1 = true →
        (s.on F.TP_STAT_LATCH = false → Does e.1 s fun t => t.get F.TP_STAT_LATCH = 1 ∧
          t.get F.TP_STAT_SRC = (s.get F.TP_STAT_SRC ||| e.2.2) % 2 ^ F.TP_STAT_SRC.width ∧ t.get F.TP_STAT_WHEN = s.tripMoment ∧
          t.get F.TP_TIME_RTC = s.get F.PM_RTC_RTC % 2 ^ F.TP_TIME_RTC.width ∧ t.get F.KV_STAT_ROOT = 3 ∧
          (∀ k < 128, t.slotKey k = [] ∧ t.slotAttr k = 0) ∧ t.get F.TP_EVT_TAMPER = 1 ∧
          (s.quiet = false → s.jl.queue.length < 1024 →
            (s.jl.queue ++ [⟨0x0910, F.TP_EVT_TAMPER.window, 0, e.2.2 + s.tripMoment * 256⟩]) <+: t.jl.queue)) ∧
        (s.on F.TP_STAT_LATCH = true → Does e.1 s fun t => Keeps s t (F.TP_STAT_SRC :: shown) ∧ LogsNone s t ∧
          t.get F.TP_STAT_SRC = (s.get F.TP_STAT_SRC ||| e.2.2) % 2 ^ F.TP_STAT_SRC.width)) ∧
      (e.2.1 = false → Does e.1 s fun t => Frame { s with kv.debounce := t.kv.debounce } t shown ∧ LogsNone s t)) ∧
    (s.tamperLevel n level = true → 0 < s.get F.TP_CFG_DEBOUNCE → Does (.tamperInputAssert n level) s fun t =>
      t.kv.debounce.getD n none = some ((s.kv.debounce.getD n none).getD s.now)) ∧
    (s.tamperLevel n level = false → Does (.tamperInputAssert n level) s fun t => t.kv.debounce.getD n none = none)

/-- The mate link sends at its instant, judges a received frame, goes down when silent, and an expired lease takes the role. In the Run state. CLEKOSAL_TIME_SEND without a mate line or a usable key changes nothing; else, with granting open and its slot granted, the next sequence number is used, and while granting is stopped the request waits. A received frame of another Ethertype, or with the link disabled, changes nothing; one whose type, length or ICV fails counts in RD_CNT.AUTH_FAIL and changes no other register but its event flag. A verified TIME frame shows LINK, the mate's bound and no Névé, its stamp and the moment are kept, and with the lease flag it makes a chip without a role STANDBY; CKPT is kept in Glacier memory; SLEEP shows MATE_NEVE and keeps its pattern; PROVE keeps its word. CLEKOSAL_LINK_TIMEOUT of a link that is up and has verified no TIME frame for 500 ms clears LINK with event 0x0A21, else it changes nothing. MATE_LEASE_EXPIRY, after LEASE without a lease, makes a chip without a role or on STANDBY ACTIVE; sooner, on an ACTIVE chip or with the link disabled it changes nothing. (R216, R331, R332, R333, R334, R340, R416) -/
def Obligations.MateLinkSendsReceivesAndLeases : Prop :=
  ∀ s : State, s.power = .run →
    let at_ := s.instant (125 * tuMs) (5 * tuMs)
    (s.mateLine = false ∨ s.mateKey 21 = none → Does .clekosalTimeSend s fun t => Frame s t []) ∧
    (s.mateLine = true → (s.mateKey 21).isSome = true → s.on (F.AP_PORT_STAT_HOLD 4) = true → Does .clekosalTimeSend s fun t =>
      (t.port 4).held = (s.port 4).held ++ [⟨94, some at_, .time⟩] ∧ Frame { s with wire.ports := t.wire.ports } t []) ∧
    (s.mateLine = true → (s.mateKey 21).isSome = true → s.on (F.AP_PORT_STAT_HOLD 4) = false → Does .clekosalTimeSend s fun t =>
      t.rd.mateSeq = if s.granted 4 94 (some at_) = 1 then (s.rd.mateSeq + 1) % 2 ^ 32 else s.rd.mateSeq) ∧
    (∀ (l : List Byte) (x : TStamp),
      let type := ((l.drop 15).headD 0).toNat
      let takes := s.on F.RD_MATE_CFG_EN = true ∧ at2 l 12 = 0x88B5
      let verified := ∃ n key, mateFrameLen type = some n ∧ s.mateKey 22 = some key ∧ n + 16 ≤ l.length ∧ (l.drop n).take 16 = mateIcv key (l.take n)
      let good := takes ∧ verified ∧ (l.drop 14).headD 0 = 1
      let lease := ((l.drop 16).headD 0).toNat % 2 = 1
      let does (P : State → Prop) := Does (.clekosalFrameReceived l x) s P
      (¬takes ∨ verified ∧ (type = 4 ∨ (l.drop 14).headD 0 ≠ 1) → does fun t => Frame s t []) ∧
      (takes → ¬verified → does fun t => Frame s t [F.RD_CNT_AUTH_FAIL, F.RD_EVT_AUTH] ∧
        t.get F.RD_CNT_AUTH_FAIL = min (s.get F.RD_CNT_AUTH_FAIL + 1) (2 ^ F.RD_CNT_AUTH_FAIL.width - 1)) ∧
      (good → type = 1 → does fun t => t.get F.RD_MATE_STAT_LINK = 1 ∧ t.get F.RD_MATE_STAT_MATE_NEVE = 0 ∧
        t.get F.RD_MATE_BOUND_BOUND = min unbounded (at8 l 66) ∧ t.rd.timeAt = some s.now ∧
        t.rd.lastTime = some (x.time, ofBytesLE ((l.drop 18).take 4)) ∧ (lease → t.rd.leaseAt = some s.now) ∧
        (lease → s.get F.RD_MATE_STAT_ROLE = 0 → t.get F.RD_MATE_STAT_ROLE = 2) ∧ (s.get F.RD_MATE_STAT_ROLE = 2 → t.get F.RD_MATE_STAT_ROLE = 2)) ∧
      (good → type = 2 → does fun t => Keeps s t [] ∧ t.rd = { s.rd with mateCopy := t.rd.mateCopy } ∧
        (s.glReady = true → t.gl.cells = (s.glWrite (mateCopyAt t.rd.mateCopy + 1024 * (((l.drop 30).headD 0).toNat % 4)) ((l.drop 34).take 1024)).gl.cells)) ∧
      (good → type = 3 → does fun t => t.get F.RD_MATE_STAT_MATE_NEVE = 1 ∧
        Frame { s with rd.matePat := (l.drop 30).take 64 } t [F.RD_MATE_STAT_MATE_NEVE]) ∧
      (good → type = 5 → does fun t => Frame { s with rd.prove := some (at8 l 30) } t [])) ∧
    (s.on F.RD_MATE_STAT_LINK = true → s.mateSilent = true → Does .clekosalLinkTimeout s fun t => t.get F.RD_MATE_STAT_LINK = 0 ∧
      Frame s t [F.RD_MATE_STAT_LINK, F.RD_EVT_LINK_DOWN] ∧ Logs s t 0x0A21 0x13 0 0) ∧
    (s.on F.RD_MATE_STAT_LINK = false ∨ s.mateSilent = false → Does .clekosalLinkTimeout s fun t => Frame s t []) ∧
    (s.on F.RD_MATE_CFG_EN = true → s.leaseOver = true → s.get F.RD_MATE_STAT_ROLE = 0 ∨ s.get F.RD_MATE_STAT_ROLE = 2 → Does .mateLeaseExpiry s fun t =>
      t.get F.RD_MATE_STAT_ROLE = 1 ∧ t.rd.roleSince = s.now ∧ t.get F.RD_EVT_ROLE = 1) ∧
    (s.on F.RD_MATE_CFG_EN = false ∨ s.leaseOver = false ∨ s.get F.RD_MATE_STAT_ROLE = 1 → Does .mateLeaseExpiry s fun t => Frame s t [])

/-- The baseband starts and stops, its clocks are checked, its SPI words move, and its channel pairs search and lose lock. In the Run state. A served GN_CFG write takes its fields and idles every pair of a disabled system; enabling runs the front-end scripts with BUSY = 1 and STATE acquiring, or Flake; disabling with no script running stops the baseband. GN_RATE_CHECK puts band b in use exactly where it is enabled, its declared rate is in range and its clock, as CH18+b measured it with the edges that came without a command (log entry 15), is within 500 ppm; a window that a dip spoilt decides nothing (log entry 38), a skipped check only ends its window. A served GN_FE_SPI write with GO while BUSY changes nothing, else it takes its fields, and GO sends the word. GN_FE_SPI_DONE ends a transfer with the bits received, unless discarded; a finished script clears BUSY when no transfer runs, and stops a disabled baseband. A pair found in acquisition tracks with STATE 2; a tracking pair that loses lock searches with STATE 2 and B_OK 0; a search timeout of a searching pair returns it to STATE 1. Each command changes nothing else that its clause names, and nothing at all where its condition does not hold. (R128, R129, R130, R131, R146, R147, R148) -/
def Obligations.GnssFrontEndAndChannelsFollowTheirCommands : Prop :=
  (∀ (s : State) (path : Path) (v : Word), s.power = .run → s.judge path F.GN_CFG_EN.off true = .served →
    Does (.gnCfgWrite path v) s fun t => (∀ f ∈ fieldsAt F.GN_CFG_EN.off, t.get f = f.ofWord v) ∧
      (∀ p : Fin 128, t.get (F.GN_CH_STAT_STATE p) = 0 ∨
        t.get (F.GN_CH_STAT_STATE p) = s.get (F.GN_CH_STAT_STATE p) ∧ F.GN_CFG_SYS.ofWord v / 2 ^ s.get (F.GN_CH_STAT_SYS p) % 2 = 1) ∧
      (F.GN_CFG_EN.ofWord v = 1 → s.on F.GN_CFG_EN = false → t.get F.GN_FE_SPI_BUSY = 1 ∧ t.gn.script = true ∧
        t.get F.GN_STAT_STATE = if s.gn.flake then 4 else 1) ∧
      (F.GN_CFG_EN.ofWord v = 0 → s.on F.GN_CFG_EN = true → s.gn.script = false → t.get F.GN_STAT_STATE = 0 ∧ t.get F.GN_STAT_BANDS_OK = 0 ∧
        t.gn.startDue = false ∧ ∀ p : Fin 128, t.get (F.GN_CH_STAT_STATE p) = 0) ∧
      (F.GN_CFG_EN.ofWord v = 0 → s.on F.GN_CFG_EN = true → s.gn.script = true → t.get F.GN_STAT_STATE = s.get F.GN_STAT_STATE)) ∧
  (∀ (s : State) (path : Path) (v : Word), s.power = .run → s.judge path F.GN_FE_SPI_DATA.off true = .served →
    let set := [F.GN_FE_SPI_DATA, F.GN_FE_SPI_LEN, F.GN_FE_SPI_CS, F.GN_FE_SPI_DIV]
    let len := spiLen (F.GN_FE_SPI_LEN.ofWord v)
    (F.GN_FE_SPI_GO.ofWord v = 1 → s.on F.GN_FE_SPI_BUSY = true → Does (.gnFeSpiTransfer path v) s fun t => Frame s t []) ∧
    (F.GN_FE_SPI_GO.ofWord v = 1 → s.on F.GN_FE_SPI_BUSY = false → Does (.gnFeSpiTransfer path v) s fun t => t.get F.GN_FE_SPI_BUSY = 1 ∧
      (∀ f ∈ set, t.get f = f.ofWord v) ∧ Sends s t (.gnSpi (F.GN_FE_SPI_CS.ofWord v) len (F.GN_FE_SPI_DATA.ofWord v % 2 ^ len)) ∧
      Frame { s with gn.spi := true } t (F.GN_FE_SPI_BUSY :: set)) ∧
    (F.GN_FE_SPI_GO.ofWord v = 0 → Does (.gnFeSpiTransfer path v) s fun t => (∀ f ∈ set, t.get f = f.ofWord v) ∧ Frame s t set)) ∧
  (∀ (s : State) (m n : Nat), s.power = .run →
    let w := (s.moreEdges 0 m).moreEdges 1 n
    let inRange (b : Nat) := 20460 ≤ s.bandRate b ∧ s.bandRate b ≤ 81840
    let spoilt (b : Nat) := ∃ r, w.bandClock b = some r ∧ r.flg / 8 % 2 = 1
    (s.gn.rateSkip = true → Does (.gnRateCheck m n) s fun t => t.gn.rateSkip = false ∧ t.get F.GN_STAT_BANDS_OK = s.get F.GN_STAT_BANDS_OK) ∧
    (s.gn.rateSkip = false → Does (.gnRateCheck m n) s fun t => ∀ b < 2,
      (s.bandEnabled b = false → t.bandOk b = false) ∧
      (s.bandEnabled b = true → inRange b → spoilt b → t.bandOk b = s.bandOk b) ∧
      (s.bandEnabled b = true → ¬(inRange b ∧ spoilt b) →
        (t.bandOk b = true ↔ inRange b ∧ ∃ r, w.bandClock b = some r ∧ r.ph.natAbs ≤ ppm500) ∧
        (t.bandOk b = false → s.gn.bad.getD b false = false → t.get F.GN_EVT_CLK_BAD = 1) ∧
        (t.bandOk b = true → s.gn.bad.getD b false = true → t.get F.GN_EVT_CLK_OK = 1)))) ∧
  (∀ (s : State) (v : BitVec 32), s.power = .run →
    (s.gn.spi = true → Does (.gnFeSpiDone v) s fun t => t.on F.GN_FE_SPI_BUSY = s.gn.script ∧
      t.get F.GN_FE_SPI_DATA = (if s.gn.discard then s.get F.GN_FE_SPI_DATA else v.toNat % 2 ^ spiLen (s.get F.GN_FE_SPI_LEN)) ∧
      Frame { s with gn.spi := false, gn.discard := false } t [F.GN_FE_SPI_DATA, F.GN_FE_SPI_BUSY]) ∧
    (s.gn.spi = false → Does (.gnFeSpiDone v) s fun t => Frame s t []) ∧
    (s.gn.script = true → Does .gnFeScriptDone s fun t => t.gn.script = false ∧ t.on F.GN_FE_SPI_BUSY = s.gn.spi ∧
      (s.on F.GN_CFG_EN = true → Frame { s with gn.script := false } t [F.GN_FE_SPI_BUSY]) ∧
      (s.on F.GN_CFG_EN = false → t.get F.GN_STAT_STATE = 0 ∧ t.get F.GN_STAT_BANDS_OK = 0)) ∧
    (s.gn.script = false → Does .gnFeScriptDone s fun t => Frame s t [])) ∧
  (∀ (s : State) (p : Fin 128), s.power = .run →
    (∀ (sys : BitVec 2) (prn : BitVec 8),
      let found := s.on F.GN_CFG_EN && !s.gn.flake && decide (s.get (F.GN_CH_STAT_STATE p) ≤ 1) && !s.gn.badPairs.contains p.val &&
        s.get F.GN_CFG_SYS / 2 ^ sys.toNat % 2 == 1
      (found = true → Does (.acquisitionSearchComplete p sys prn) s fun t =>
        t.get (F.GN_CH_STAT_SYS p) = sys.toNat ∧ t.get (F.GN_CH_STAT_PRN p) = prn.toNat ∧ t.get (F.GN_CH_STAT_STATE p) = 2 ∧
        Frame s t [F.GN_CH_STAT_SYS p, F.GN_CH_STAT_PRN p, F.GN_CH_STAT_STATE p]) ∧
      (found = false → Does (.acquisitionSearchComplete p sys prn) s fun t => Frame s t [])) ∧
    (2 ≤ s.get (F.GN_CH_STAT_STATE p) → Does (.channelPairLosesLock p) s fun t => t.get (F.GN_CH_STAT_STATE p) = 2 ∧
      t.get (F.GN_CH_STAT_B_OK p) = 0 ∧ t.gn.search.contains p.val = true ∧
      Frame { s with gn.search := t.gn.search } t [F.GN_CH_STAT_STATE p, F.GN_CH_STAT_B_OK p]) ∧
    (s.get (F.GN_CH_STAT_STATE p) < 2 → Does (.channelPairLosesLock p) s fun t => Frame s t []) ∧
    (s.gn.search.contains p.val = true → Does (.gnChannelSearchTimeout p) s fun t => t.get (F.GN_CH_STAT_STATE p) = 1 ∧
      Frame { s with gn.search := s.gn.search.filter (· != p.val) } t [F.GN_CH_STAT_STATE p]) ∧
    (s.gn.search.contains p.val = false → Does (.gnChannelSearchTimeout p) s fun t => Frame s t []))

/-- An epoch with enough satellites gives a solution, one with too few ends it, and the position is entered, averaged and recorded. In the Run state. GN_SOLUTION_EPOCH with the baseband off, band A out of use or Flake mode changes nothing; else it takes the mark away and shows the counts of satellites; with too few used SOL_VALID is 0, without a usable mark or offset it stays, and else GN_SOL_OFS and GN_SOL_UNC take the offset and its uncertainty and SOL_VALID is 1. GN_SOLUTION_TIMEOUT clears SOL_VALID with event 0x0304 once its time has passed, else it changes nothing. GN_POS_AVERAGE starts the next average, counts a held position beyond its limit, and the third time takes VALID away with event 0x0306 and surveys again where AUTO_RESURVEY asks. GN_RECORD_WRITE writes a record that reads back with time and position, in its 8 KiB of the store alone. GN_EVIDENCE_EXPIRY clears its flag. A served axis write in mode 0b01 takes the axis, and the third one makes the position VALID with SRC 2; in another mode it is dropped. A served GN_POS_CFG write takes its fields and enters its mode. Leap data of the source in use keeps or changes the reported difference, and a planned change is offered where AUTO_GNSS asks; data of another source changes nothing. The week is completed on GPS weeks (the model's choice, log entry 38). (R132, R133, R134, R135, R137, R138, R139, R140, R145, R146, R147, R274) -/
def Obligations.GnssSolvesTimeAndKeepsPosition : Prop :=
  (∀ (s : State) (e : GnEpoch), s.power = .run →
    let runs := s.on F.GN_CFG_EN = true ∧ s.bandOk 0 = true ∧ s.gn.flake = false
    let used := s.satsOf e
    let single := used.all (fun x => !(x.bandB && decide (100 * s.get F.GN_SOL_CFG_CN0_MIN ≤ x.cn0B)))
    let does (P : State → Prop) := Does (.gnSolutionEpoch e) s fun t => t.gn.mark = none ∧
      t.get F.GN_STAT_SV_USED = min used.length 255 ∧ t.get F.GN_STAT_SV_TRACKED = min (s.trackedSats e).length 255 ∧ P t
    (¬runs → Does (.gnSolutionEpoch e) s fun t => Frame s t []) ∧
    (runs → used.length < s.satsNeeded → does fun t => t.get F.GN_STAT_SOL_VALID = 0 ∧
      (s.on F.GN_STAT_SOL_VALID = true → t.get F.GN_EVT_SOL_LOST = 1)) ∧
    (runs → s.satsNeeded ≤ used.length → (∀ m, s.gn.mark = some m → m.gen = s.tb.gen → s.gnTai e single m.corr = none) →
      does fun t => t.get F.GN_STAT_SOL_VALID = s.get F.GN_STAT_SOL_VALID) ∧
    (runs → s.satsNeeded ≤ used.length → ∀ (m : Stamp) (tai : Int), s.gn.mark = some m → m.gen = s.tb.gen → s.gnTai e single m.corr = some tai →
      does fun t => t.get F.GN_STAT_SOL_VALID = 1 ∧ t.get F.GN_STAT_STATE = 2 ∧ t.gn.lastEpoch = some s.now ∧ t.gn.validAt = some s.now ∧
        t.get F.GN_SOL_OFS_E = (clampI (-2 ^ 63) (2 ^ 63 - 1) (phaseOfSpan (m.corr - tai)) % 2 ^ 64).toNat ∧
        t.get F.GN_SOL_UNC_UNC = s.gnUnc single used % 2 ^ 48 ∧ t.on F.GN_STAT_SINGLE_FREQ = single)) ∧
  (∀ s : State, s.power = .run →
    let due := ∀ v, s.gn.validAt = some v → v + s.validSpan ≤ s.now
    let next := { s with gn.residN := 0, gn.residSum := 0 }
    let judged := 0 < s.gn.residN ∧ s.posHeld = true
    let within := s.gn.residSum.natAbs ≤ s.get F.GN_POS_CFG_POS_LIM * 1000 * s.gn.residN
    (s.on F.GN_STAT_SOL_VALID = true → due → Does .gnSolutionTimeout s fun t => t.get F.GN_STAT_SOL_VALID = 0 ∧
      t.get F.GN_STAT_STATE = (if s.get F.GN_STAT_STATE = 2 then 3 else s.get F.GN_STAT_STATE) ∧
      Frame s t [F.GN_STAT_SOL_VALID, F.GN_STAT_STATE, F.GN_EVT_SOL_LOST] ∧ Logs s t 0x0304 0x08 0 0) ∧
    (s.on F.GN_STAT_SOL_VALID = false ∨ ¬due → Does .gnSolutionTimeout s fun t => Frame s t []) ∧
    (¬judged → Does .gnPosAverage s fun t => Frame next t []) ∧
    (judged → within → Does .gnPosAverage s fun t => Frame { next with gn.badRun := 0 } t []) ∧
    (judged → ¬within → s.gn.badRun < 2 → Does .gnPosAverage s fun t => Frame { next with gn.badRun := s.gn.badRun + 1 } t []) ∧
    (judged → ¬within → 2 ≤ s.gn.badRun → Does .gnPosAverage s fun t => t.get F.GN_POS_STAT_VALID = 0 ∧ t.gn.badRun = 0 ∧
      (s.on F.GN_POS_CFG_AUTO_RESURVEY = true → t.gn.survey = true ∧ t.get F.GN_POS_STAT_ELAPSED = 0) ∧
      (s.on F.GN_POS_CFG_AUTO_RESURVEY = false → t.gn.survey = s.gn.survey) ∧ Logs s t 0x0306 0x08 0 0 ∧
      Frame { s with gn := t.gn } t [F.GN_POS_STAT_VALID, F.GN_POS_STAT_ELAPSED, F.GN_POS_STAT_SURVEY_UNC, F.GN_EVT_POS_BAD]) ∧
    (Does .gnRecordWrite s fun t => Frame { s with firn := t.firn } t [] ∧ (∀ a : Nat, a < 0x4000 ∨ 0x6000 ≤ a → byteAt t.firn a = byteAt s.firn a) ∧
      ∃ l, t.gnRecord = some l ∧ at8 l 0x10 = s.sec % 2 ^ 64 ∧ at8 l 0x20 = s.get F.GN_POS_X_X % 2 ^ 64 ∧
        at8 l 0x28 = s.get F.GN_POS_Y_Y % 2 ^ 64 ∧ at8 l 0x30 = s.get F.GN_POS_Z_Z % 2 ^ 64) ∧
    (Does (.gnEvidenceExpiry 0) s fun t => Frame { s with gn.evAgc := false, gn.bothSince := none } t []) ∧
    (Does (.gnEvidenceExpiry 1) s fun t => Frame { s with gn.evCn0 := false, gn.bothSince := none } t [])) ∧
  (∀ (s : State) (path : Path) (axis : Fin 3) (v : Word), s.power = .run → s.judge path (posAxis axis).off true = .served →
    let written := assign false axis true s.gn.posWritten
    (s.get F.GN_POS_CFG_MODE ≠ 1 → Does (.gnPosWrite path axis v) s fun t => Frame s t []) ∧
    (s.get F.GN_POS_CFG_MODE = 1 → written.all id = true → Does (.gnPosWrite path axis v) s fun t => t.get (posAxis axis) = v.toNat ∧
      t.get F.GN_POS_STAT_VALID = 1 ∧ t.get F.GN_POS_STAT_SRC = 2 ∧
      Frame { s with gn.posWritten := [false, false, false], gn.badRun := 0 } t [posAxis axis, F.GN_POS_STAT_VALID, F.GN_POS_STAT_SRC]) ∧
    (s.get F.GN_POS_CFG_MODE = 1 → written.all id = false → Does (.gnPosWrite path axis v) s fun t => t.get (posAxis axis) = v.toNat ∧
      Frame { s with gn.posWritten := written } t [posAxis axis])) ∧
  (∀ (s : State) (path : Path) (v : Word), s.power = .run → s.judge path F.GN_POS_CFG_MODE.off true = .served →
    Does (.gnPosModeWrite path v) s fun t => (∀ f ∈ fieldsAt F.GN_POS_CFG_MODE.off, t.get f = f.ofWord v) ∧
      (posMode (F.GN_POS_CFG_MODE.ofWord v) = 0 → t.gn.survey = true ∧ t.gn.surveyN = 0 ∧ t.get F.GN_POS_STAT_ELAPSED = 0) ∧
      (posMode (F.GN_POS_CFG_MODE.ofWord v) ≠ 0 → t.gn.survey = false ∧ t.gn.posWritten = [false, false, false]) ∧
      Frame { s with gn := t.gn } t ([F.GN_POS_STAT_ELAPSED, F.GN_POS_STAT_SURVEY_UNC] ++ fieldsAt F.GN_POS_CFG_MODE.off)) ∧
  (∀ (s : State) (sys : BitVec 2) (current future : Int) (week day : Nat), s.power = .run →
    let old := current + 19
    let taken := s.on F.GN_CFG_EN = true ∧ sys.toNat = s.get F.GN_CFG_LEAP_SRC
    let planned : Int := 315964800 + s.fullWeek 0 week 8 * 604800 + day * 86400 + old + min 0 (future - current)
    let does (P : State → Prop) := Does (.gnLeapDataDecoded sys current future week day) s P
    (¬taken → does fun t => Frame s t []) ∧
    (taken → s.delta s.sec = some old → future = current ∨ s.on F.PT_LEAP_CFG_AUTO_GNSS = false → does fun t =>
      Frame { s with gn.misOffset := none, pt.offsets := assign none 0 none s.pt.offsets } t []) ∧
    (taken → s.delta s.sec ≠ some old → does fun t => t.gn.misOffset = some old ∧
      (s.gn.misOffset ≠ some old → t.get F.GN_EVT_LEAP_MIS = 1)) ∧
    (taken → future ≠ current → s.on F.PT_LEAP_CFG_AUTO_GNSS = true → does fun t => t.leaps = (s.offerLeap ⟨planned.toNat, future + 19, 2⟩).leaps))

/-- Flake mode is entered and left, a capture starts, ends, is solved and is exported. In the Run state. GN_JAM_DETECT of an enabled baseband under the jamming condition sets JAM with event 0x0309, and enters Flake mode where AUTO_JAM is set; GN_JAM_CLEAR without the condition clears JAM, and leaves the Flake mode that jamming alone entered. A served write of GN_FLAKE takes its fields; setting EN enters Flake mode, clearing it leaves, and waits for a capture or solution in work. GN_FLAKE_CAPTURE_START outside Flake mode or off a multiple of PERIOD changes nothing; while a capture, a solution or an export is in work it only writes event 0x030B with reason 4; else a capture begins, and an export that waited for ARM is dropped with reason 4. GN_CAPTURE_END with a reason to discard writes event 0x030B; else the samples of the bands in use, at most LEN ms of them, stand in the snapshot area, the solver starts where SOLVE asks, and the export starts or waits where EXPORT asks. GN_SNAPSHOT_SOLVED ends the solution and delivers it as an epoch would. GN_SNAPSHOT_EXPORTED of a running export writes it to the host and clears ARM. Each changes nothing where nothing is in work. From what gain the AGC falls is the model's choice (log entry 38). (R128, R129, R134, R141, R142, R143, R144) -/
def Obligations.FlakeModeCapturesSolvesAndExports : Prop :=
  (∀ s : State, s.power = .run →
    let jams := s.on F.GN_CFG_EN && !s.on F.GN_STAT_JAM && s.jamming
    let due := s.gn.flake && s.on F.GN_CFG_EN && s.bandOk 0 && s.captureDue
    let busy := s.gn.solving || s.gn.export_ == 2 || s.gn.capture
    (jams = true → Does .gnJamDetect s fun t => t.get F.GN_STAT_JAM = 1 ∧ t.get F.GN_EVT_JAM = 1 ∧
      (s.on F.GN_FLAKE_AUTO_JAM = true → t.gn.flake = true) ∧
      (s.on F.GN_FLAKE_AUTO_JAM = false → Frame s t [F.GN_STAT_JAM, F.GN_EVT_JAM] ∧ Logs s t 0x0309 0x08 0 0)) ∧
    (jams = false → Does .gnJamDetect s fun t => Frame s t []) ∧
    (s.on F.GN_STAT_JAM = true → s.jamming = false → Does .gnJamClear s fun t => t.get F.GN_STAT_JAM = 0 ∧
      (s.gn.autoFlake = true → s.on F.GN_FLAKE_EN = false → t.gn.flake = false) ∧
      (s.gn.autoFlake = false ∨ s.on F.GN_FLAKE_EN = true → Frame s t [F.GN_STAT_JAM])) ∧
    (s.on F.GN_STAT_JAM = false ∨ s.jamming = true → Does .gnJamClear s fun t => Frame s t []) ∧
    (due = false → Does .gnFlakeCaptureStart s fun t => Frame s t []) ∧
    (due = true → busy = true → Does .gnFlakeCaptureStart s fun t => Frame s t [F.GN_EVT_SNAP_DROP] ∧ Logs s t 0x030B 0x08 0 4) ∧
    (due = true → busy = false → s.gn.export_ = 1 → Does .gnFlakeCaptureStart s fun t =>
      Frame { s with gn.capture := true, gn.export_ := 0 } t [F.GN_EVT_SNAP_DROP] ∧ Logs s t 0x030B 0x08 0 4) ∧
    (due = true → busy = false → s.gn.export_ ≠ 1 → Does .gnFlakeCaptureStart s fun t =>
      Frame { s with gn.capture := true, gn.export_ := 0 } t []) ∧
    (s.gn.export_ = 2 → Does .gnSnapshotExported s fun t => t.gn.export_ = 0 ∧ t.get F.GN_SNAP_HADDR_ARM = 0 ∧
      Sends s.snapBytes.1 t (.hostMem (s.get F.GN_SNAP_HADDR_ADDR * 4096) s.snapBytes.2)) ∧
    (s.gn.export_ ≠ 2 → Does .gnSnapshotExported s fun t => Frame s t [])) ∧
  (∀ (s : State) (a b : List Byte) (x y : Int), s.power = .run →
    let ends := { s with gn.capture := false, gn.mark := none, gn.markB := none, gn.agcA := x }
    let samples := (a.take s.captureLen).map (s.busSample 0)
    let others := if s.bandUsed 1 then (b.take samples.length).map (s.busSample 1) else []
    (s.gn.capture = false → Does (.gnCaptureEnd a b x y) s fun t => Frame s t []) ∧
    (s.gn.capture = true → s.snapReason s.gn.mark ≠ 0 → Does (.gnCaptureEnd a b x y) s fun t => t.gn.capture = false ∧ t.gn.mark = none ∧
      t.get F.GN_EVT_SNAP_DROP = 1 ∧ t.gn.solving = s.gn.solving ∧ t.gn.snap = s.gn.snap ∧
      (s.gn.leaving = false → Frame ends t [F.GN_EVT_SNAP_DROP] ∧ Logs s t 0x030B 0x08 0 (s.snapReason s.gn.mark))) ∧
    (s.gn.capture = true → s.snapReason s.gn.mark = 0 → Does (.gnCaptureEnd a b x y) s fun t => t.gn.capture = false ∧ t.gn.mark = none ∧
      t.gn.solving = s.on F.GN_FLAKE_SOLVE ∧ t.gn.snap.stamp = s.gn.mark ∧ t.gn.snap.samples = samples.length ∧
      t.gn.snap.bands = (if s.bandUsed 1 then 3 else 1) ∧
      t.gn.export_ = (if s.on F.GN_FLAKE_EXPORT then if s.on F.GN_SNAP_HADDR_ARM then 2 else 1 else s.gn.export_) ∧
      t.gl.cells = (s.writePart ((s.df.image.map Image.snapshot).getD 0) 0 (samples ++ others)).gl.cells)) ∧
  (∀ (s : State) (e : GnEpoch), s.power = .run →
    let used := s.satsOf e
    let single := used.all (fun x => !(x.bandB && decide (100 * s.get F.GN_SOL_CFG_CN0_MIN ≤ x.cn0B)))
    (s.gn.solving = true → Does (.gnSnapshotSolved e) s fun t => t.gn.solving = false ∧
      (used.length < s.satsNeeded → t.get F.GN_STAT_SOL_VALID = 0) ∧
      (s.satsNeeded ≤ used.length → ∀ (m : Stamp) (tai : Int), s.gn.snap.stamp = some m → m.gen = s.tb.gen → s.gnTai e single m.corr = some tai →
        t.get F.GN_STAT_SOL_VALID = 1 ∧ t.gn.validAt = some s.now ∧ t.get F.GN_SOL_UNC_UNC = s.gnUnc single used % 2 ^ 48 ∧
        t.get F.GN_SOL_OFS_E = (clampI (-2 ^ 63) (2 ^ 63 - 1) (phaseOfSpan (m.corr - tai)) % 2 ^ 64).toNat)) ∧
    (s.gn.solving = false → Does (.gnSnapshotSolved e) s fun t => Frame s t [])) ∧
  (∀ (s : State) (path : Path) (v : Word), s.power = .run → s.judge path F.GN_FLAKE_EN.off true = .served →
    Does (.gnFlakeWrite path v) s fun t => (∀ f ∈ fieldsAt F.GN_FLAKE_EN.off, t.get f = f.ofWord v) ∧
      (F.GN_FLAKE_EN.ofWord v = 1 → s.on F.GN_FLAKE_EN = false → t.gn.flake = true) ∧
      (F.GN_FLAKE_EN.ofWord v = 0 → s.on F.GN_FLAKE_EN = true → t.gn.flake = false ∧
        (s.gn.flake = true → s.gn.capture = true ∨ s.gn.solving = true → t.gn.leaving = true)) ∧
      ((F.GN_FLAKE_EN.ofWord v == 1) = s.on F.GN_FLAKE_EN → Frame s t (fieldsAt F.GN_FLAKE_EN.off)))

/-- An output MDLL checks its configuration, finds its band and locks; its clock outputs arm, start and stop. In the Run state. SM_LOCK_DECLARED sets SM LOCK, takes the lane transmitters out of reset, and a lane that only that kept in DOWN leaves it. A served OS_OMn_CFG write takes its fields, clears LOCK and stops the MDLL's outputs for a restart; an invalid one sets BADCFG, one without a band NOBAND, another takes its band and settles. OM_LOCK_DECLARED of a settling MDLL sets LOCK with event 0x0501 and arms its enabled outputs at or below 800 MHz. A served OS_CLKk_CFG write takes its fields: EN = 0 stops the output, EN = 1 takes back a stop owed to EN alone, a new SRC or DIV stops it for a restart. An armed output of a locked MDLL starts at its start point, with its trim free from 0 to one half-period (log entry 1); a muted one drives its pin again. A stopping output ends with RUN, PG and TRIM 0, its pin in the off state, and waits anew where it is still enabled. An OS_CLKk_DLY write takes FINE, by a ramp where the output is enabled, and COARSE only while it is disabled; a changed COARSE is then rejected with DLY_REJ. Where a condition does not hold, nothing changes. (R174, R175, R176, R177, R178, R179, R180, R181, R182) -/
def Obligations.OutputClocksLockStartAndStop : Prop :=
  (∀ s : State, s.power = .run → Does .smLockDeclared s fun t => t.get F.OS_SM_STAT_LOCK = 1 ∧
    (∀ n < 6, t.get (F.LN_LANE_STAT_TXRST n) = 0 ∧
      t.get (F.LN_LANE_STAT_STATE n) = if s.laneState n == laneDown && (s.lane n).signal && !s.on (F.AP_PORT_STAT_CAL_BUSY n) &&
        (!s.on (F.LN_LANE_CFG_TRAIN n) || (s.lane n).trained) then laneHunt else s.get (F.LN_LANE_STAT_STATE n)) ∧
    Frame { s with wire := t.wire } t
      (F.OS_SM_STAT_LOCK :: (List.range 6).map F.LN_LANE_STAT_TXRST ++ (List.range 6).map F.LN_LANE_STAT_STATE)) ∧
  (∀ (s : State) (path : Path) (n : Fin 4) (v : Word), s.power = .run → s.judge path (F.OS_OM_CFG_EN n).off true = .served →
    let en := (F.OS_OM_CFG_EN n).ofWord v
    Does (.omCfgWrite path n v) s fun t => (∀ f ∈ fieldsAt (F.OS_OM_CFG_EN n).off, t.get f = f.ofWord v) ∧ t.get (F.OS_OM_STAT_LOCK n) = 0 ∧
      (∀ k < 8, s.clkSrc k = n → t.clk k = { s.clk k with armed := false, stopping := (s.clk k).active, restart := (s.clk k).active }) ∧
      (∀ k < 8, s.clkSrc k ≠ n → t.clk k = s.clk k) ∧
      (en = 0 → t.get (F.OS_OM_STAT_BADCFG n) = 0 ∧ t.get (F.OS_OM_STAT_NOBAND n) = 0 ∧ t.os.settling.getD n false = false) ∧
      (en = 1 → t.omBad n = true → t.get (F.OS_OM_STAT_BADCFG n) = 1 ∧ t.get F.OS_EVT_BADCFG = 1 ∧
        Logs s t 0x0503 0x07 0 n ∧ t.os.settling.getD n false = false) ∧
      (en = 1 → t.omBad n = false → t.omBand n = none → t.get (F.OS_OM_STAT_NOBAND n) = 1 ∧ t.get F.OS_EVT_NOBAND = 1 ∧
        Logs s t 0x0502 0x07 0 n ∧ t.os.settling.getD n false = false) ∧
      (∀ j : Nat, en = 1 → t.omBad n = false → t.omBand n = some j → t.get (F.OS_OM_STAT_BAND n) = j ∧
        t.get (F.OS_OM_STAT_CODE n) = s.get (F.OS_OM_BAND_CODE n j) % 2 ^ 8 ∧ t.os.settling.getD n false = true ∧ LogsNone s t) ∧
      Frame { s with os := t.os } t ([F.OS_OM_STAT_LOCK n, F.OS_OM_STAT_NOBAND n, F.OS_OM_STAT_BADCFG n, F.OS_OM_STAT_BAND n, F.OS_OM_STAT_CODE n,
        F.OS_EVT_BADCFG, F.OS_EVT_NOBAND] ++ fieldsAt (F.OS_OM_CFG_EN n).off)) ∧
  (∀ (s : State) (n : Fin 4), s.power = .run →
    (s.os.settling.getD n false = false → Does (.omLockDeclared n) s fun t => Frame s t []) ∧
    (s.os.settling.getD n false = true → Does (.omLockDeclared n) s fun t => t.get (F.OS_OM_STAT_LOCK n) = 1 ∧ t.get F.OS_EVT_LOCK = 1 ∧
      t.os.settling.getD n false = false ∧ t.os.lockAt.getD n 0 = s.now ∧
      Frame { s with os := t.os } t [F.OS_OM_STAT_LOCK n, F.OS_EVT_LOCK, F.OS_EVT_BADCFG] ∧
      (∀ k < 8, s.clkSrc k = n → s.on (F.OS_CLK_CFG_EN k) = true → (s.clk k).active = false →
        156250 * s.omNum n ≤ 800000 * s.omDen n * s.clkDiv k → t.clk k = { s.clk k with armed := true, armAt := s.now }) ∧
      (∀ k < 8, s.clkSrc k ≠ n ∨ s.on (F.OS_CLK_CFG_EN k) = false ∨ (s.clk k).active = true ∨
        800000 * s.omDen n * s.clkDiv k < 156250 * s.omNum n → t.clk k = s.clk k))) ∧
  (∀ (s : State) (path : Path) (k : Fin 8) (v : Word), s.power = .run →
    (s.judge path (F.OS_CLK_CFG_EN k).off true = .served → Does (.clkCfgWrite path k v) s fun t =>
      let en := (F.OS_CLK_CFG_EN k).ofWord v
      let same := t.clkSrc k = s.clkSrc k ∧ t.clkDiv k = s.clkDiv k
      (∀ f ∈ fieldsAt (F.OS_CLK_CFG_EN k).off, t.get f = f.ofWord v) ∧ (∀ j < 8, j ≠ k.val → t.clk j = s.clk j) ∧
      (en = 0 → (t.clk k).armed = false ∧ (t.clk k).stopping = (s.clk k).active) ∧
      (en = 1 → s.on (F.OS_CLK_CFG_EN k) = true → same → t.clk k = s.clk k) ∧
      (en = 1 → s.on (F.OS_CLK_CFG_EN k) = false → same → (s.clk k).active = true →
        t.clk k = { s.clk k with enAt := s.now, stopping := (s.clk k).restart }) ∧
      (en = 1 → ¬same → (s.clk k).active = true → (t.clk k).stopping = true ∧ (t.clk k).restart = true) ∧
      (en = 1 → s.on (F.OS_CLK_CFG_EN k) = false ∨ ¬same → (s.clk k).active = false → s.on (F.OS_OM_STAT_LOCK (t.clkSrc k)) = true →
        156250 * s.omNum (t.clkSrc k) ≤ 800000 * s.omDen (t.clkSrc k) * t.clkDiv k → (t.clk k).armed = true ∧ (t.clk k).armAt = s.now) ∧
      t.get (F.OS_CLK_STAT_RUN k) = (if (F.OS_CLK_CFG_PG_MUTE k).ofWord v = 1 ∧ s.on (F.OS_CLK_STAT_PG k) = false then 0
        else s.get (F.OS_CLK_STAT_RUN k)) ∧
      Frame { s with os := t.os } t ([F.OS_CLK_STAT_RUN k, F.OS_EVT_BADCFG] ++ fieldsAt (F.OS_CLK_CFG_EN k).off)) ∧
    (s.judge path (F.OS_CLK_DLY_FINE k).off true = .served →
      (s.on (F.OS_CLK_CFG_EN k) = false → Does (.clkDlyWrite path k v) s fun t => Frame s t [F.OS_CLK_DLY_FINE k, F.OS_CLK_DLY_COARSE k] ∧
        t.get (F.OS_CLK_DLY_FINE k) = (F.OS_CLK_DLY_FINE k).ofWord v ∧ t.get (F.OS_CLK_DLY_COARSE k) = (F.OS_CLK_DLY_COARSE k).ofWord v) ∧
      (s.on (F.OS_CLK_CFG_EN k) = true → Does (.clkDlyWrite path k v) s fun t => t.get (F.OS_CLK_DLY_FINE k) = (F.OS_CLK_DLY_FINE k).ofWord v ∧
        t.clk k = { s.clk k with fineFrom := s.fineNow k, fineTo := min 1999 ((F.OS_CLK_DLY_FINE k).ofWord v), rampAt := s.now } ∧
        ((F.OS_CLK_DLY_COARSE k).ofWord v ≠ s.get (F.OS_CLK_DLY_COARSE k) → t.get F.OS_EVT_DLY_REJ = 1 ∧ Logs s t 0x0506 0x07 0 0) ∧
        ((F.OS_CLK_DLY_COARSE k).ofWord v = s.get (F.OS_CLK_DLY_COARSE k) → LogsNone s t) ∧
        Frame { s with os := t.os } t [F.OS_CLK_DLY_FINE k, F.OS_EVT_DLY_REJ]))) ∧
  (∀ (s : State) (k : Fin 8), s.power = .run →
    let starts := (s.clk k).armed && s.on (F.OS_CLK_CFG_EN k) && s.on (F.OS_OM_STAT_LOCK (s.clkSrc k)) && s.startDue k
    let std := s.get (F.OS_CLK_CFG_STD k)
    (starts = false → Does (.clkOutStart k) s fun t => Frame s t []) ∧
    (starts = true → (s.clk k).active = true → Does (.clkOutStart k) s fun t => t.get (F.OS_CLK_STAT_RUN k) = 1 ∧
      t.clk k = { s.clk k with armed := false } ∧ Frame { s with os := t.os } t [F.OS_CLK_STAT_RUN k]) ∧
    (starts = true → (s.clk k).active = false → Does (.clkOutStart k) s fun t =>
      (t.clk k).active = true ∧ (t.clk k).armed = false ∧ (t.clk k).stopping = false ∧ (t.clk k).coarse = s.get (F.OS_CLK_DLY_COARSE k) ∧
      (t.clk k).fineTo = min 1999 (s.get (F.OS_CLK_DLY_FINE k)) ∧ t.get (F.OS_CLK_STAT_PG k) = 0 ∧
      (s.on (F.OS_CLK_CFG_PG_MUTE k) = true → t.get (F.OS_CLK_STAT_RUN k) = 0) ∧
      (s.on (F.OS_CLK_CFG_PG_MUTE k) = false → t.get (F.OS_CLK_STAT_RUN k) = 1 ∧ t.clkPin k = .clock (if std = 3 then 0 else std)) ∧
      (s.on (F.OS_CLK_CFG_ALIGN k) = false → t.get (F.OS_CLK_STAT_TRIM k) = 0 ∧ (t.clk k).edge = none) ∧
      (s.on (F.OS_CLK_CFG_ALIGN k) = true → t.get (F.OS_CLK_STAT_TRIM k) ≤ s.halfPeriod (s.clkSrc k) ∧ (t.clk k).edge = some (s.startPoint k)) ∧
      Frame { s with os := t.os, free := t.free } t [F.OS_CLK_STAT_RUN k, F.OS_CLK_STAT_PG k, F.OS_CLK_STAT_TRIM k]) ∧
    ((s.clk k).stopping = true → Does (.clkOutStop k) s fun t => t.get (F.OS_CLK_STAT_RUN k) = 0 ∧ t.get (F.OS_CLK_STAT_PG k) = 0 ∧
      t.get (F.OS_CLK_STAT_TRIM k) = 0 ∧ (t.clk k).active = false ∧ (t.clk k).stopping = false ∧
      t.clkPin k = (if s.on (F.OS_CLK_CFG_OFF_STATE k) then .highZ else .low) ∧
      (s.clkSrc k < 4 → (t.clk k).armed = (s.on (F.OS_CLK_CFG_EN k) && s.on (F.OS_OM_STAT_LOCK (s.clkSrc k)) &&
        decide (156250 * s.omNum (s.clkSrc k) ≤ 800000 * s.omDen (s.clkSrc k) * s.clkDiv k))) ∧
      Frame { s with os := t.os } t [F.OS_CLK_STAT_RUN k, F.OS_CLK_STAT_PG k, F.OS_CLK_STAT_TRIM k, F.OS_EVT_BADCFG]) ∧
    ((s.clk k).stopping = false → Does (.clkOutStop k) s fun t => Frame s t []))

/-- A pulse of the grid is sent once; time of day is sent in its format, and a received message is taken or counted as bad. In the Run state. PPS_PULSE of a disabled output, or of a grid point that has been emitted, lies before EN or was passed over by a step, changes nothing; else it emits the pulse with RUN = 1, and that grid point is not emitted again. A served OS_PPSk_CFG write takes its fields; enabling takes a new grid phase and anchor from the present on, another alignment or rate a new phase; EN = 0 clears PG, and RUN once the last pulse is complete. PPS_ALIGN_MISS in track mode of an enabled output sets ALIGN_MISS with event 0x0507, else it changes nothing. TOD_OUT_SEND sends the Kloentra message of 22 bytes that passes its own CRC, or with FMT = 1 the ZDA sentence; while UTC is unknown the sentence is withheld, with event 0x0508 once. TOD_IN_MESSAGE with the receiver enabled counts in BAD and changes nothing else where the form, the CRC or the checksum fails, or where a ZDA finds UTC unknown; a right Kloentra message gives SEC, INFO, VALID, FMT 0, and counts in GOOD; a right ZDA sentence gives its TAI second, FMT 1 and an INFO of 0. (R183, R184, R185, R186, R187) -/
def Obligations.PulsesAndTimeOfDayAreSentAndTaken : Prop :=
  (∀ (s : State) (k : Fin 4), s.power = .run →
    let e := (s.gridEdge k (s.nearGrid k)).toNat
    let aligned (u : State) := (u.get (F.OS_PPS_CFG_ALIGN_MODE k), u.get (F.OS_PPS_CFG_ALIGN_CH k), u.ppsRate k)
    (s.on (F.OS_PPS_CFG_EN k) = false ∨ (s.pps k).passed e = true → Does (.ppsPulse k) s fun t => Frame s t []) ∧
    (s.on (F.OS_PPS_CFG_EN k) = true → (s.pps k).passed e = false → Does (.ppsPulse k) s fun t => t.get (F.OS_PPS_STAT_RUN k) = 1 ∧
      Sends s t (.pulse k e (s.pulseWidth k) (s.on (F.OS_PPS_CFG_POL k))) ∧ (t.pps k).last = some e ∧ (t.pps k).until_ = e + s.pulseWidth k ∧
      ((∀ r ∈ (s.pps k).done, r.1 ≤ r.2) → (t.pps k).passed e = true) ∧ Frame { s with os := t.os } t [F.OS_PPS_STAT_RUN k]) ∧
    (s.on (F.OS_PPS_CFG_EN k) = true → s.get (F.OS_PPS_CFG_ALIGN_MODE k) = 2 → Does (.ppsAlignMiss k) s fun t => Frame s t [F.OS_EVT_ALIGN_MISS] ∧
      t.get F.OS_EVT_ALIGN_MISS = 1 ∧ Logs s t 0x0507 0x07 0 k) ∧
    (s.on (F.OS_PPS_CFG_EN k) = false ∨ s.get (F.OS_PPS_CFG_ALIGN_MODE k) ≠ 2 → Does (.ppsAlignMiss k) s fun t => Frame s t []) ∧
    (∀ (path : Path) (v : Word), s.judge path (F.OS_PPS_CFG_EN k).off true = .served → Does (.ppsCfgWrite path k v) s fun t =>
      let en := (F.OS_PPS_CFG_EN k).ofWord v
      (∀ f ∈ fieldsAt (F.OS_PPS_CFG_EN k).off, t.get f = f.ofWord v) ∧
      (s.on (F.OS_PPS_CFG_EN k) = false → en = 1 → t.get (F.OS_PPS_STAT_ALIGNED k) = 0 ∧ t.get (F.OS_PPS_STAT_PG k) = 0 ∧
        (t.pps k).phase = none ∧ (t.pps k).anchor = none ∧ (t.pps k).from_ = (psOf s.now).toNat) ∧
      (aligned t ≠ aligned s → t.get (F.OS_PPS_STAT_ALIGNED k) = 0 ∧ (t.pps k).phase = none) ∧
      (en = 0 → t.get (F.OS_PPS_STAT_PG k) = 0 ∧
        t.get (F.OS_PPS_STAT_RUN k) = if ((s.pps k).until_ : Int) ≤ psOf s.now then 0 else s.get (F.OS_PPS_STAT_RUN k)) ∧
      (en = 1 → s.on (F.OS_PPS_CFG_EN k) = true → aligned t = aligned s → Frame s t (fieldsAt (F.OS_PPS_CFG_EN k).off)) ∧
      Frame { s with os := t.os } t ([F.OS_PPS_STAT_ALIGNED k, F.OS_PPS_STAT_PG k, F.OS_PPS_STAT_RUN k] ++ fieldsAt (F.OS_PPS_CFG_EN k).off))) ∧
  (∀ s : State, s.power = .run →
    let sec := (s.now + tuSec / 2 - s.get F.OS_TOD_CFG_LAG * tuMs) / tuSec
    (s.on F.OS_TOD_CFG_EN = false → Does .todOutSend s fun t => Frame s t []) ∧
    (s.on F.OS_TOD_CFG_EN = true → s.on F.OS_TOD_CFG_FMT = false → Does .todOutSend s fun t => Frame s t [] ∧ Sends s t (.tod (s.kloentra sec)) ∧
      (s.kloentra sec).length = 22 ∧ (s.kloentra sec).take 4 = [0x4A, 0x54, 0x01, 0x10] ∧ ofBytesLE (((s.kloentra sec).drop 4).take 6) = sec % 2 ^ 48 ∧
      ofBytesLE ((s.kloentra sec).drop 0x14) = crc16 (((s.kloentra sec).drop 2).take 18)) ∧
    (∀ l : List Byte, s.on F.OS_TOD_CFG_EN = true → s.on F.OS_TOD_CFG_FMT = true → s.zda sec = some l → Does .todOutSend s fun t =>
      Sends s t (.tod l) ∧ Frame { s with os.noUtc := false } t [] ∧ LogsNone s t) ∧
    (s.on F.OS_TOD_CFG_EN = true → s.on F.OS_TOD_CFG_FMT = true → s.zda sec = none → Does .todOutSend s fun t =>
      (∀ l : List Byte, OutMsg.tod l ∈ t.outs → OutMsg.tod l ∈ s.outs) ∧ Frame { s with os.noUtc := true } t [F.OS_EVT_TOD_NOUTC] ∧
      (s.os.noUtc = false → t.get F.OS_EVT_TOD_NOUTC = 1 ∧ Logs s t 0x0508 0x07 0 0) ∧ (s.os.noUtc = true → Frame s t []))) ∧
  (∀ (s : State) (l : List Byte), s.power = .run →
    let n (o k : Nat) : Nat := ofBytesLE ((l.drop o).take k)
    let info := [F.OS_TODIN_INFO_DELTA, F.OS_TODIN_INFO_LEAP, F.OS_TODIN_INFO_FLAGS, F.OS_TODIN_INFO_CLASS, F.OS_TODIN_INFO_BOUND]
    let right := l.length = 22 ∧ (l.drop 2).take 2 = [0x01, 0x10] ∧ n 0x14 2 = crc16 ((l.drop 2).take 18)
    let bad := Does (.todInMessage l) s fun t => Frame s t [F.OS_TODIN_STAT_BAD] ∧ t.get F.OS_TODIN_STAT_BAD = min (s.get F.OS_TODIN_STAT_BAD + 1) 65535
    let good (fmt sec : Nat) (given : List Nat) := Does (.todInMessage l) s fun t =>
      Frame s t ([F.OS_TODIN_SEC_SEC, F.OS_TODIN_STAT_VALID, F.OS_TODIN_STAT_FMT, F.OS_TODIN_STAT_GOOD] ++ info) ∧
      t.get F.OS_TODIN_SEC_SEC = sec % 2 ^ 48 ∧ t.get F.OS_TODIN_STAT_VALID = 1 ∧ t.get F.OS_TODIN_STAT_FMT = fmt ∧
      t.get F.OS_TODIN_STAT_GOOD = min (s.get F.OS_TODIN_STAT_GOOD + 1) 65535 ∧ info.map t.get = given
    (s.on F.OS_TOD_CFG_IN_EN = false → Does (.todInMessage l) s fun t => Frame s t []) ∧
    (s.on F.OS_TOD_CFG_IN_EN = true → l.take 2 = [0x4A, 0x54] →
      (¬right → bad) ∧ (right → good 0 (n 4 6) [n 0x0A 2, n 0x0C 1 % 4, n 0x0D 1 % 32, n 0x0E 1, n 0x10 4])) ∧
    (s.on F.OS_TOD_CFG_IN_EN = true → l.take 2 ≠ [0x4A, 0x54] →
      ((∀ x, zdaFields l = some x → s.taiOf x.1 x.2 = none) → bad) ∧
      (∀ (x : Int × Bool) (sec : Nat), zdaFields l = some x → s.taiOf x.1 x.2 = some sec → good 1 sec [0, 0, 0, 0, 0])))

/-- A Rime pass starts, is deferred or skipped, concludes its shadow run and its mate proof; a Névé request is begun, deferred or refused. In the Run state. RIME_PASS_START before its instant, or while a pass runs, changes nothing; while a happening blocks the pass it is deferred by 1 h with event 0x0A13, and the fourth time skipped; else STATE is 1 with event 0x0A10, and a standby core that finds a checkpoint is in SHADOW. A request by GO acts alike at any instant. RIME_SHADOW_END after SHADOW seconds defers the pass where no shadow run counts; else it shows the result in the core's RIME_BAD, the lanes and the channel pairs, and the pass ends with its result and event 0x0A11 or 0x0A12, or goes on to the mate proof. RIME_MATE_PROOF_END of a proof that has passed or whose time is over shows MATE_AVAIL, and bit 6 of the result where it failed. SY_NEVE with GO and a wrong CONFIRM is refused with event 0x0112, as is a right one in tamper hold; else a right one begins entry, or is deferred. STANDBY_NEVE_TIMER of a chip on STANDBY for 60 s, with its timer enabled and its mate available, asks for Névé. MBOX_REVOKE of a mailbox held beyond MBOX_HOLD ends it with status 0x06, its vector, a count and event 0x0A08. Where a condition does not hold, nothing changes. (R326, R330, R335, R336, R337, R338, R340, R341, R344, R353, R361) -/
def Obligations.RimePassStartsProvesAndEnds : Prop :=
  (∀ s : State, s.power = .run →
    let idle := s.get F.RD_RIME_STAT_STATE = 0
    let due := s.on F.RD_RIME_CFG_EN = true ∧ s.rimeDue = true
    let proven := s.get F.RD_RIME_STAT_STATE = 2 ∧ (s.mateProved = true ∨ s.rimeAge (s.shadowSpan + 65) = true)
    let sleepy := s.get F.RD_MATE_STAT_ROLE = 2 ∧ s.on F.RD_MATE_CFG_NEVE_STBY = true ∧ s.on F.RD_MATE_STAT_MATE_AVAIL = true ∧
      s.rd.roleSince + 60 * tuSec ≤ s.now
    let deferred (t : State) := t.get F.RD_EVT_RIME_DEFER = 1 ∧ Frame { s with rd := t.rd } t [F.RD_EVT_RIME_DEFER] ∧
      (s.rd.deferrals < 3 → t.rd.deferrals = s.rd.deferrals + 1 ∧ t.rd.retryAt = some (s.now + 3600 * tuSec) ∧ Logs s t 0x0A13 0x13 0 1) ∧
      (3 ≤ s.rd.deferrals → t.rd.deferrals = 0 ∧ t.rd.retryAt = none ∧ Logs s t 0x0A13 0x13 0 2)
    let started (t : State) := t.get F.RD_RIME_STAT_STATE = 1 ∧ t.get F.RD_EVT_RIME_START = 1 ∧ t.rd.compared = 0 ∧ t.rd.skipped = 0 ∧
      t.rd.result = 0 ∧ t.rd.rimeAt = s.now ∧ Logs s t 0x0A10 0x13 0 0 ∧
      (∀ k : Nat, s.standbyCore = some k → s.newestCheckpoint ≠ none → t.get (F.TK_STAT_STATE k) = 6)
    (¬due ∨ ¬idle → Does .rimePassStart s fun t => Frame s t []) ∧
    (due → idle → s.rimeBlocked = true → Does .rimePassStart s deferred) ∧
    (due → idle → s.rimeBlocked = false → Does .rimePassStart s started) ∧
    (∀ (path : Path) (v : Word), s.judge path F.RD_RIME_REQ_GO.off true = .served →
      (F.RD_RIME_REQ_GO.ofWord v = 0 ∨ ¬idle → Does (.rimeRequest path v) s fun t => Frame s t []) ∧
      (F.RD_RIME_REQ_GO.ofWord v = 1 → idle → s.rimeBlocked = true → Does (.rimeRequest path v) s deferred) ∧
      (F.RD_RIME_REQ_GO.ofWord v = 1 → idle → s.rimeBlocked = false → Does (.rimeRequest path v) s started)) ∧
    (¬proven → Does .rimeMateProofEnd s fun t => Frame s t []) ∧
    (proven → Does .rimeMateProofEnd s fun t => t.get F.RD_RIME_STAT_STATE = 0 ∧
      t.get F.RD_MATE_STAT_MATE_AVAIL = s.mateProved.toNat ∧ t.get F.RD_RIME_STAT_SEC = s.sec % 2 ^ F.RD_RIME_STAT_SEC.width ∧
      t.get F.RD_RIME_STAT_RESULT = (s.rd.result + (if s.mateProved then 0 else 64)) % 2 ^ F.RD_RIME_STAT_RESULT.width ∧
      (s.mateProved = false → s.rd.result < 64 → t.get F.RD_EVT_RIME_FAIL = 1)) ∧
    (¬sleepy → Does .standbyNeveTimer s fun t => Frame s t []) ∧
    (sleepy → s.get F.PM_STAT_STATE = 0 → s.on F.TP_STAT_HOLD = false → Does .standbyNeveTimer s fun t =>
      (s.neveBlocked = false → t.get F.PM_STAT_STATE = 1 ∧ ∀ p < 6, t.get (F.AP_PORT_STAT_HOLD p) = 1) ∧
      (s.neveBlocked = true → t.get F.PM_STAT_STATE = 0 ∧ t.pm.neveWaits = true ∧ t.get F.PM_EVT_NEVE_REJ = 1))) ∧
  (∀ (s : State) (x : RimeFound), s.power = .run →
    let ends := s.get F.RD_RIME_STAT_STATE = 1 ∧ s.rimeAge s.shadowSpan = true
    let bad := s.rd.coreBad || x.missed
    (¬ends → Does (.rimeShadowEnd x) s fun t => Frame s t []) ∧
    (ends → s.shadow = none ∨ s.shadowNotRun = true → Does (.rimeShadowEnd x) s fun t =>
      t.get F.RD_RIME_STAT_STATE = 0 ∧ t.get F.RD_EVT_RIME_DEFER = 1 ∧ t.gn.badPairs = x.pairs) ∧
    (∀ k : Nat, s.shadow = some k → ends → s.shadowNotRun = false → Does (.rimeShadowEnd x) s fun t =>
      t.get (if k = 0 then F.RD_STAT_RIME_BAD_A else F.RD_STAT_RIME_BAD_B) = bad.toNat ∧
      (∀ j < 3, t.get (cxOff j) = x.lanes.getD j 0 % 2 ^ laneCount j) ∧ t.gn.badPairs = x.pairs ∧ t.shadow ≠ some k ∧
      (s.provesMate = false → t.get F.RD_RIME_STAT_STATE = 0 ∧ t.get F.RD_RIME_STAT_RESULT = s.rimeResult x + bad.toNat ∧
        (bad = true → t.get F.RD_EVT_RIME_FAIL = 1) ∧ (bad = false → t.get F.RD_EVT_RIME_PASS = 1)) ∧
      (s.provesMate = true → t.get F.RD_RIME_STAT_STATE = 2 ∧ t.rd.result = s.rimeResult x + bad.toNat))) ∧
  (∀ (s : State) (path : Path) (v : Word), s.power = .run → s.judge path F.SY_NEVE_GO.off true = .served →
    let asks := F.SY_NEVE_GO.ofWord v = 1 ∧ s.get F.PM_STAT_STATE ≠ 1
    let does (P : State → Prop) := Does (.neveRequest path v) s P
    (¬asks → does fun t => Frame s t []) ∧
    (asks → F.SY_NEVE_CONFIRM.ofWord v ≠ 0x4E → does fun t =>
      Frame s t [F.PM_EVT_NEVE_REJ] ∧ Logs s t 0x0112 0x01 0 (if s.on F.TP_STAT_HOLD then 1 else 2)) ∧
    (asks → F.SY_NEVE_CONFIRM.ofWord v = 0x4E → s.on F.TP_STAT_HOLD = true → does fun t =>
      Frame s t [F.PM_EVT_NEVE_REJ] ∧ Logs s t 0x0112 0x01 0 1) ∧
    (asks → F.SY_NEVE_CONFIRM.ofWord v = 0x4E → s.on F.TP_STAT_HOLD = false → s.neveBlocked = false → does fun t =>
      t.get F.PM_STAT_STATE = 1 ∧ ∀ p < 6, t.get (F.AP_PORT_STAT_HOLD p) = 1) ∧
    (asks → F.SY_NEVE_CONFIRM.ofWord v = 0x4E → s.on F.TP_STAT_HOLD = false → s.neveBlocked = true → does fun t =>
      Frame { s with pm.neveWaits := true } t [F.PM_EVT_NEVE_REJ] ∧ Logs s t 0x0112 0x01 0 3)) ∧
  (∀ (s : State) (fn : Fin 6), s.power = .run →
    (s.boxOverdue fn = true → Does (.mboxRevoke fn) s fun t =>
      Frame { s with host.boxes := t.host.boxes } t [F.RD_CNT_MBOX_REVOKE, F.RD_EVT_MBOX_REVOKE] ∧
      t.get F.RD_CNT_MBOX_REVOKE = min (s.get F.RD_CNT_MBOX_REVOKE + 1) (2 ^ F.RD_CNT_MBOX_REVOKE.width - 1) ∧ Logs s t 0x0A08 0x13 0 0 ∧
      (t.box fn).doorbell = false ∧ (t.box fn).status = 6 ∧ (t.box fn).done = true ∧ (t.box fn).rtag = (s.box fn).tag ∧ (t.box fn).rpayload = [] ∧
      Sends s t (.msix fn 0)) ∧
    (s.boxOverdue fn = false → Does (.mboxRevoke fn) s fun t => Frame s t []))

/-- A dip episode begins and ends with its record; VBAT, ageing and SRAM scrubber readings reach their registers. In the Run state. A rail below its warning level for more than 200 ns shows in RAIL_OK, and within an episode joins its rails and keeps the episode open. DIP_START outside an episode sets DIP with its event, spoils every observation window, owes one dip allowance, and with a running core writes a checkpoint, sealed or left holding its port; within an episode it changes nothing. DIP_END of an episode in which no rail has been low for 1 ms clears DIP, gives LAST its duration in µs, RAILS its rails, counts in COUNT, raises MAX and writes event 0x0102; sooner, or outside one, it changes nothing. A VBAT reading is kept; below 2,200 mV VBAT_LOW is 1 with event 0x0105. An ageing comparison outside an episode gives CORE, TB and WARN; within one it is skipped. A scrubber walk counts corrected and uncorrectable bytes and acts on them: a Floe byte is poisoned, a held mailbox returns 0x07, a Firn byte is corrupt. (R92, R105, R122, R125, R158, R309, R311, R348, R349, R350, R419, R420) -/
def Obligations.DipsAreTimedAndReadingsAreKept : Prop :=
  (∀ (s : State) (rail : Fin 11) (ns : Nat) (sealed : Bool), s.power = .run →
    let rails (t : State) (ok : Bool) := (t.get F.PM_STAT_RAIL_OK).testBit rail = ok ∧
      ∀ r < 12, r ≠ rail.val → (t.get F.PM_STAT_RAIL_OK).testBit r = (s.get F.PM_STAT_RAIL_OK).testBit r
    (s.on F.PM_STAT_DIP = false → Does (.railBelowWarning rail ns) s fun t => Frame s t [F.PM_STAT_RAIL_OK] ∧ rails t (decide (ns ≤ 200))) ∧
    (s.on F.PM_STAT_DIP = true → Does (.railBelowWarning rail ns) s fun t => rails t (decide (ns ≤ 200)) ∧
      Frame { s with pm.dipRails := s.pm.dipRails ||| 2 ^ rail.val, pm.lastLow := s.now } t [F.PM_STAT_RAIL_OK]) ∧
    (s.on F.PM_STAT_DIP = false → Does (.dipStart (rail, sealed)) s fun t => t.get F.PM_STAT_DIP = 1 ∧ t.get F.PM_EVT_DIP = 1 ∧
      t.pm.dipAt = s.now ∧ t.pm.lastLow = s.now ∧ t.pm.dipRails = 2 ^ rail.val ∧ t.mb.owed = s.mb.owed ++ [Allowance.dip] ∧ rails t false ∧
      t.now = s.now ∧ t.tb.coarse = (s.tb.coarse || s.tb.migStep == 3) ∧
      (∀ n < s.rs.slots.length, (t.slot n).win.noY = true ∧ (t.slot n).win.noD = true) ∧
      (s.coreLive = false → t.firn = s.firn ∧ t.tk = s.tk) ∧
      (s.coreLive = true → t.tk.nextSlot = 1 - s.tk.nextSlot ∧ t.tk.nextSeq = s.tk.nextSeq + 1 ∧ t.tk.ckptBusy = !sealed ∧
        t.tk.unsealed = (if sealed then none else some s.tk.nextSlot) ∧
        ∀ a : Nat, a < s.tk.nextSlot * 0x1000 ∨ (s.tk.nextSlot + 1) * 0x1000 ≤ a → byteAt t.firn a = byteAt s.firn a)) ∧
    (s.on F.PM_STAT_DIP = true → Does (.dipStart (rail, sealed)) s fun t => Frame s t [])) ∧
  (∀ s : State, s.power = .run →
    let us := (roundDiv (s.now - s.pm.dipAt : Nat) tuUs).toNat
    (s.on F.PM_STAT_DIP = true → s.pm.lastLow + tuMs ≤ s.now → Does .dipEnd s fun t =>
      t.get F.PM_STAT_DIP = 0 ∧ t.get F.PM_EVT_DIP_END = 1 ∧ t.get F.PM_DIP_STAT_LAST = min us (2 ^ F.PM_DIP_STAT_LAST.width - 1) ∧
      t.get F.PM_DIP_STAT_COUNT = min (s.get F.PM_DIP_STAT_COUNT + 1) (2 ^ F.PM_DIP_STAT_COUNT.width - 1) ∧
      t.get F.PM_DIP_STAT_RAILS = s.pm.dipRails % 2 ^ F.PM_DIP_STAT_RAILS.width ∧ t.pm.dipTo = s.now ∧
      t.get F.PM_DIP_MAX_MAX = min (max us (s.get F.PM_DIP_MAX_MAX)) (2 ^ F.PM_DIP_MAX_MAX.width - 1) ∧
      (∀ r < 11, (t.get F.PM_STAT_RAIL_OK).testBit r = true) ∧
      (s.quiet = false → s.jl.queue.length < 1024 →
        (s.jl.queue ++ [⟨0x0102, 0x01, 0, min us 0xFFFFFFFF * 2 ^ 32 % 2 ^ 64⟩]) <+: t.jl.queue)) ∧
    (s.on F.PM_STAT_DIP = false ∨ s.now < s.pm.lastLow + tuMs → Does .dipEnd s fun t => Frame s t [])) ∧
  (∀ (s : State) (mv : BitVec 12) (core tb : BitVec 16), s.power = .run →
    (Does (.vbatMeasure mv) s fun t => Frame s t [F.PM_VBAT_MV, F.PM_STAT_VBAT_LOW, F.PM_STAT_RAIL_OK, F.PM_EVT_VBAT_LOW] ∧ t.get F.PM_VBAT_MV = mv.toNat ∧
      t.get F.PM_STAT_VBAT_LOW = (decide (mv.toNat < 2200)).toNat ∧ (t.get F.PM_STAT_RAIL_OK).testBit 11 = decide (2200 ≤ mv.toNat) ∧
      (mv.toNat < 2200 → t.get F.PM_EVT_VBAT_LOW = 1 ∧ Logs s t 0x0105 0x01 0 0) ∧ (2200 ≤ mv.toNat → LogsNone s t)) ∧
    (s.on F.PM_STAT_DIP = true → Does (.ageingCompare core tb) s fun t => Frame s t []) ∧
    (s.on F.PM_STAT_DIP = false → Does (.ageingCompare core tb) s fun t => Frame s t [F.PM_AGE_CORE, F.PM_AGE_TB, F.PM_AGE_WARN] ∧
      t.get F.PM_AGE_CORE = core.toNat ∧ t.get F.PM_AGE_TB = tb.toNat ∧
      t.get F.PM_AGE_WARN = (decide (s.get F.PM_AGE_WARN_LVL ≤ max core.toNat tb.toNat)).toNat)) ∧
  (∀ (s : State) (corr floe off : Nat) (v : Byte) (fn : Fin 6), s.power = .run →
    let one := [F.EC_SR_CNT_CORR, F.EC_SR_CNT_UNCORR, F.EC_EVT_SR_UNCORR]
    let at_ := (floe * 2 ^ 18 + off) / 8 * 8
    (Does (.sramScrubWalk [] corr) s fun t => Frame s t [F.EC_SR_CNT_CORR] ∧
      t.get F.EC_SR_CNT_CORR = min (s.get F.EC_SR_CNT_CORR + corr) (2 ^ F.EC_SR_CNT_CORR.width - 1)) ∧
    (∀ h ∈ [SramHit.floe floe off, .mailbox fn, .firn off v, .other floe off], Does (.sramScrubWalk [h] corr) s fun t => Keeps s t one ∧
      t.get F.EC_SR_CNT_CORR = min (s.get F.EC_SR_CNT_CORR + corr) (2 ^ F.EC_SR_CNT_CORR.width - 1) ∧
      t.get F.EC_SR_CNT_UNCORR = min (s.get F.EC_SR_CNT_UNCORR + 1) (2 ^ F.EC_SR_CNT_UNCORR.width - 1) ∧ t.get F.EC_EVT_SR_UNCORR = 1 ∧
      Logs s t 0x080B 0x12 0 (h.place.1 + h.place.2 % 2 ^ 32 * 2 ^ 32)) ∧
    (Does (.sramScrubWalk [.floe floe off] corr) s fun t =>
      Frame { s with gl.floePoison := at_ :: s.gl.floePoison.filter (· != at_) } t one) ∧
    ((s.box fn).doorbell = true → Does (.sramScrubWalk [.mailbox fn] corr) s fun t => (t.box fn).doorbell = false ∧ (t.box fn).status = 7 ∧
      Frame { s with host.boxes := t.host.boxes } t one) ∧
    (off < 0x8000 → Does (.sramScrubWalk [.firn off v] corr) s fun t => Frame { s with firn := writeCell off v 0 s.firn } t one))

/-- Brown-out, RESET_N, SY_CHIPRST and the watchdog make a chip reset; main power loss and battery loss reach what their letters name. A chip reset lets repairs in progress complete, which a brown-out does not, and holds the part with its cause: every register but GL_STAT.STATE that letter C does not keep returns to its reset value, the others stay, as do the Firn store, the contents of Glacier memory, the flash and the rollback counter; no image runs, no event waits and none is kept. A brown-out in the Run state of a rail other than VDD_DRAM, VPP_DRAM, VDDIO_B and VBAT makes one with cause 4; RESET_N low for 1 µs or more, in the Run state or Névé, with cause 1; SY_CHIPRST with its confirmation with cause 2; the watchdog, where enabled, with cause 3. RESET_N low below 100 ns changes nothing. Main power loss from any other state enters Firn: with VBAT at or above 1.8 V letter M rules and the Firn store stays; below it that is lost too; Glacier memory is lost either way. VBAT loss acts in Firn alone. (R6, R317, R318, R351, R352, R355, R357, R358, R361, R364) -/
def Obligations.ResetsReachWhatTheirLetterNames : Prop :=
  let chip := fun (s : State) (cause rail : Nat) (t : State) => t.power = .held ∧ t.quiet = true ∧ t.pm.cause = cause ∧ t.pm.rail = rail ∧
    ResetTo s t .C [F.GL_STAT_STATE] ∧ t.firn = s.firn ∧ t.gl.cells = s.gl.cells ∧ t.host.flash = s.host.flash ∧
    t.host.rollback = s.host.rollback ∧ t.jl.queue = [] ∧ t.df.image = none ∧ t.df.tokens = []
  (∀ (s : State) (rail : Fin 12), s.power = .run →
    (rail.val ∈ [7, 8, 10, 11] → Does (.brownOut rail) s fun t => Frame s t []) ∧
    (rail.val ∉ [7, 8, 10, 11] → Does (.brownOut rail) s (chip s 4 rail)) ∧
    (s.on F.SY_WDOG_EN = true → Does .watchdogExpiry s (chip s.intoRefresh 3 0)) ∧ (s.on F.SY_WDOG_EN = false → Does .watchdogExpiry s fun t => Frame s t [])) ∧
  (∀ (s : State) (ns : Nat),
    (ns < 100 ∨ s.resettable = false → Does (.resetNAssert ns) s fun t => Frame s t []) ∧
    (1000 ≤ ns → s.resettable = true → Does (.resetNAssert ns) s (chip s.intoRefresh 1 0)) ∧
    (100 ≤ ns → ns < 1000 → s.resettable = true → Does (.resetNAssert ns) s fun t => t.power = s.power ∨ t.power = .held)) ∧
  (∀ (s : State) (path : Path) (v : Word), s.power = .run → s.judge path F.SY_CHIPRST_GO.off true = .served →
    (F.SY_CHIPRST_CONFIRM.ofWord v = 0x5AC3 → F.SY_CHIPRST_GO.ofWord v = 1 → Does (.syChiprstGo path v) s (chip s.intoRefresh 2 0)) ∧
    (F.SY_CHIPRST_CONFIRM.ofWord v ≠ 0x5AC3 ∨ F.SY_CHIPRST_GO.ofWord v = 0 → Does (.syChiprstGo path v) s fun t => Frame s t [])) ∧
  (∀ (s : State) (vbat : Nat),
    (s.power = .firn → Does (.mainPowerLoss vbat) s fun t => Frame s t []) ∧
    (s.power ≠ .firn → 1800 ≤ vbat → Does (.mainPowerLoss vbat) s fun t => t.power = .firn ∧ ResetTo s t .M [F.PM_STAT_ON_VBAT] ∧
      t.get F.PM_STAT_ON_VBAT = 1 ∧ t.firn = s.firn ∧ t.gl.cells = [] ∧ t.host.flash = s.host.flash) ∧
    (s.power ≠ .firn → vbat < 1800 → Does (.mainPowerLoss vbat) s fun t => t.power = .firn ∧ t.firn = [] ∧ t.kv.batLost = true ∧ t.gl.cells = [] ∧
      (∀ f : Fld, fieldOfKey f.key = some f → f.keptThrough .M = false ∨ f.keptThrough .B = false → t.get f = f.reset)) ∧
    (s.power = .firn → Does .vbatLoss s fun t => t.power = .firn ∧ ResetTo s t .B [] ∧ t.firn = [] ∧ t.kv.batLost = true) ∧
    (s.power ≠ .firn → Does .vbatLoss s fun t => Frame s t []))

/-- A start records its cause and boots the firmware of the preferred slot, then of the other, or waits for the host; the secure clear ends tamper hold. MAIN_POWER_UP starts a part that is in Firn or has never started, CHIP_RESET_START one that a reset holds; any other part is unchanged. Unless a battery loss is owed, the part then runs with the cause of the start in SY_RST_CAUSE and TM-A, the MDLL of reset, locked. With GPIO15 high it waits for firmware with SRC 1 and STATE 4. Else the good firmware of the preferred slot runs, or that of the other with FW_FALLBACK 1, or it waits in STATE 4. Firmware that runs gives SY_FW_VER, raises the rollback counter, and goes on to the image load, or to tamper hold where a tamper is latched. In the Run state, TP_CLEAR with its code in tamper hold clears LATCH, SRC, WHEN and HOLD, and the start goes on; out of hold it changes nothing; a wrong code is refused. (R283, R298, R347, R357, R359, R360, R364, R380, R381) -/
def Obligations.StartsRunTheBootRom : Prop :=
  (∀ (s : State) (b : Boot),
    let begins := [(Instr.mainPowerUp b, s.coldStart, 0, 0), (.chipResetStart b, s.power == .held, s.pm.cause, s.pm.rail)]
    let slot (k : Nat) : Option Firmware := s.firmwareGood (if k = 0 then b.fwA else b.fwB)
    let ran (f : Firmware) (k : Nat) (t : State) : Prop := t.get F.SY_FW_VER_VER = f.version % 2 ^ F.SY_FW_VER_VER.width ∧ t.get F.SY_FW_VER_SLOT = k ∧
      t.get F.BT_STAT_FW_SLOT = k ∧ t.host.rollback = max s.host.rollback f.rollback ∧
      (s.on F.TP_STAT_LATCH = true → t.get F.TP_STAT_HOLD = 1 ∧ t.get F.BT_STAT_STATE = 7) ∧
      (s.on F.TP_STAT_LATCH = false → t.get F.BT_STAT_STATE = 2 ∧ t.df.loading = some s.preferred.2)
    ∀ e ∈ begins,
      (e.2.1 = false → Does e.1 s fun t => Frame s t []) ∧
      (e.2.1 = true → s.kv.batLost = false → Does e.1 s fun t => t.power = .run ∧ t.get F.SY_RST_CAUSE_CAUSE = e.2.2.1 % 2 ^ F.SY_RST_CAUSE_CAUSE.width ∧
        t.get F.SY_RST_CAUSE_RAIL = e.2.2.2 % 2 ^ F.SY_RST_CAUSE_RAIL.width ∧ (s.on F.TB_STAT_ACT_TM = false → t.get F.TB_STAT_TMA_LOCK = 1) ∧ t.get F.PM_STAT_ON_VBAT = 0 ∧
        (b.host = true → t.get F.BT_STAT_SRC = 1 ∧ t.get F.BT_STAT_STATE = 4) ∧
        (∀ f : Firmware, slot s.preferred.1 = some f → b.host = false → ran f s.preferred.1 t ∧ t.get F.BT_STAT_SRC = 0) ∧
        (∀ f : Firmware, slot (1 - s.preferred.1) = some f → b.host = false → slot s.preferred.1 = none →
          ran f (1 - s.preferred.1) t ∧ t.get F.BT_STAT_FW_FALLBACK = 1) ∧
        (slot 0 = none → slot 1 = none → b.host = false → t.get F.BT_STAT_STATE = 4))) ∧
  (∀ (s : State) (path : Path) (v : Word) (puf : List (Option Nat)), s.power = .run → s.judge path F.TP_CLEAR_GO.off true = .served →
    (F.TP_CLEAR_CODE.ofWord v ≠ 0xC1EA → Does (.secureClear path v puf) s fun t => Frame s t [F.BT_EVT_REFUSED]) ∧
    (F.TP_CLEAR_CODE.ofWord v = 0xC1EA → F.TP_CLEAR_GO.ofWord v = 0 ∨ s.on F.TP_STAT_HOLD = false → Does (.secureClear path v puf) s fun t => Frame s t []) ∧
    (F.TP_CLEAR_CODE.ofWord v = 0xC1EA → F.TP_CLEAR_GO.ofWord v = 1 → s.on F.TP_STAT_HOLD = true → s.pm.exiting = none →
      Does (.secureClear path v puf) s fun t => t.get F.TP_STAT_LATCH = 0 ∧ t.get F.TP_STAT_SRC = 0 ∧ t.get F.TP_STAT_WHEN = 0 ∧
        t.get F.TP_STAT_HOLD = 0 ∧ t.get F.TP_EVT_CLEAR = 1 ∧ t.get F.BT_STAT_STATE = if s.get F.BT_STAT_SRC = 1 then 5 else 2))

/-- Névé entry empties the slots and keeps the image and Glacier memory outside the journal; a wake cause leads back to Run, to tamper hold or to a chip reset. NEVE_ENTRY without an entry in progress, or with commands in the calendars, leaves the part in Run; else, with no wake owed, the part is in Névé: every slot is empty, what letter N does not keep is at its reset value, the image stays, and so does, with no repair in progress, every byte of Glacier memory outside the journal partition. A wake cause that is not enabled or, of the RTC, not due, or comes in Run outside entry, changes nothing; during entry it is owed. In Névé it leads to Run with cause 6, WAKE, event 0x0111 and STATE 0 where the firmware passes and no tamper is latched; to tamper hold where one is; to a chip reset with cause 5 where the firmware fails. A tamper sample acts in Firn on the inputs and in Névé on the monitors too: it latches source and moment, and wakes a part in Névé; a latched part only gains sources; in Run it changes nothing. (R198, R242, R289, R295, R297, R298, R317, R353, R354, R358) -/
def Obligations.NeveIsEnteredAndLeft : Prop :=
  (∀ (s : State) (b : Boot), s.power = .run →
    (s.get F.PM_STAT_STATE ≠ 1 → s.pm.neveWaits = false ∨ s.neveBlocked = true → Does (.neveEntry b) s fun t => Frame s t []) ∧
    (s.get F.PM_STAT_STATE = 1 → s.calendarsEmpty = false → s.pm.neveWaits = false → Does (.neveEntry b) s fun t => Frame s t []) ∧
    (s.get F.PM_STAT_STATE = 1 → s.calendarsEmpty = true → s.pm.neveWaits = false → s.pm.wakeOwed = none → Does (.neveEntry b) s fun t => t.power = .neve ∧
      (∀ k < 128, t.slotKey k = []) ∧ t.df.image = s.df.image ∧
      ((∀ l ∈ s.gl.locks, ∀ row src, l.holder ≠ .repair row src) → ∀ addr : Nat, s.journalBase.all (fun base => decide (addr < base) || decide (base + 2 ^ 30 ≤ addr)) = true → t.glCode addr = s.glCode addr) ∧
      (∀ f : Fld, fieldOfKey f.key = some f → f.keptThrough .N = false → f.key ≠ F.GL_STAT_STATE.key → t.get f = f.reset))) ∧
  (∀ (s : State) (gpio : Fin 16) (bytes : List Byte) (b : Boot),
    let causes := [(Instr.svcCsWake b, s.on F.PM_NEVE_CFG_WAKE_SVC, 2), (.neveRtcWake b, s.rtcWakeDue, 3),
      (.gpioWake gpio b, s.on F.PM_NEVE_CFG_WAKE_GPIO && (match s.df.image with | some i => i.wakeGpios.contains gpio.val | none => false), 4),
      (.wakePatternMatch bytes b, s.wakeMatch bytes, 1)]
    ∀ e ∈ causes,
      (e.2.1 = false → Does e.1 s fun t => Frame s t []) ∧
      (s.power ≠ .neve → s.power ≠ .run ∨ s.get F.PM_STAT_STATE ≠ 1 → Does e.1 s fun t => Frame s t []) ∧
      (e.2.1 = true → s.power = .run → s.get F.PM_STAT_STATE = 1 → Does e.1 s fun t =>
        Frame { s with pm.wakeOwed := some (s.pm.wakeOwed.getD e.2.2) } t []) ∧
      (e.2.1 = true → s.power = .neve → s.on F.TP_STAT_LATCH = false → b.retained = true → Does e.1 s fun t => t.power = .run ∧
        t.get F.PM_STAT_STATE = 0 ∧ t.get F.SY_RST_CAUSE_CAUSE = 6 ∧ t.get F.SY_RST_CAUSE_WAKE = e.2.2 ∧ t.get F.PM_EVT_NEVE_EXIT = 1 ∧
        t.get F.BT_STAT_STATE = 3 ∧ t.get F.GL_STAT_STATE = 1 ∧ t.df.image = s.df.image ∧ t.pins.wake = false) ∧
      (e.2.1 = true → s.power = .neve → s.on F.TP_STAT_LATCH = true → b.retained = true → Does e.1 s fun t => t.power = .run ∧
        t.get F.PM_STAT_STATE = 2 ∧ t.get F.TP_STAT_HOLD = 1 ∧ t.get F.BT_STAT_STATE = 7 ∧ t.pins.wake = true) ∧
      (e.2.1 = true → s.power = .neve → b.retained = false → Does e.1 s fun t => t.power = .held ∧ t.pm.cause = 5)) ∧
  (∀ (s : State) (levels : BitVec 4) (volt fall : Nat) (temp : Int) (b : Boot),
    let mons := (if s.on F.TP_CFG_VMON && voltageTamper volt fall then 16 else 0) + (if s.on F.TP_CFG_TMON && tempTamper temp then 32 else 0)
    let sample := Instr.tamperSample levels volt fall temp b
    (s.power = .run ∨ s.power = .held → Does sample s fun t => Frame s t []) ∧
    (s.power = .firn → s.inputSources levels = 0 → Does sample s fun t => Frame s t []) ∧
    (s.power = .firn → s.inputSources levels ≠ 0 → s.on F.TP_STAT_LATCH = false → Does sample s fun t => t.power = .firn ∧ t.get F.TP_STAT_LATCH = 1 ∧
      t.get F.TP_STAT_WHEN = 3 ∧ t.get F.TP_STAT_SRC = (s.get F.TP_STAT_SRC ||| s.inputSources levels) % 2 ^ F.TP_STAT_SRC.width ∧
      Keeps s t [F.TP_STAT_LATCH, F.TP_STAT_WHEN, F.TP_STAT_SRC, F.TP_TIME_RTC] ∧ t.kv.firnOwed = true) ∧
    (s.power = .firn ∨ s.power = .neve → (s.inputSources levels + if s.power = .neve then mons else 0) ≠ 0 → s.on F.TP_STAT_LATCH = true →
      Does sample s fun t => Frame { s with firn := t.firn } t [F.TP_STAT_SRC] ∧
        t.get F.TP_STAT_SRC = (s.get F.TP_STAT_SRC ||| (s.inputSources levels + if s.power = .neve then mons else 0)) % 2 ^ F.TP_STAT_SRC.width) ∧
    (s.power = .neve → s.inputSources levels + mons = 0 → Does sample s fun t => Frame s t []) ∧
    (s.power = .neve → s.inputSources levels + mons ≠ 0 → s.on F.TP_STAT_LATCH = false → b.retained = true → Does sample s fun t => t.power = .run ∧
      t.get F.TP_STAT_LATCH = 1 ∧ t.get F.TP_STAT_HOLD = 1 ∧ t.get F.TP_STAT_WHEN = 2 ∧
      t.get F.TP_STAT_SRC = (s.get F.TP_STAT_SRC ||| (s.inputSources levels + mons)) % 2 ^ F.TP_STAT_SRC.width ∧ t.get F.SY_RST_CAUSE_WAKE = 5))

/-- An image or firmware load is refused with its reason, fetched, checked, and rejected or made the running one. In the Run state. A served write of BT_RELOAD with GO = 0 changes nothing; with a reason to refuse, it sets RELOAD_REJ with event 0x0B11; else an image load begins, from the Run state with STATE 6, or a firmware fetch. A completed fetch without one in progress changes nothing; of an image, it is followed by the check; of good firmware, the firmware runs with slot 1 shown; bad firmware is dropped. IMAGE_CHECK_COMPLETE without an object to check changes nothing. An image with a fault writes event 0x0720: a reload goes back to STATE 3 with its image; at a start the other slot follows once, then STATE 5. One without becomes the running image: a reload without tokens, and at a start, unless a tamper is latched, with events kept from then on; the state is then 3. (R239, R240, R241, R242, R298, R380, R381, R382) -/
def Obligations.ImagesAreFetchedCheckedAndLoaded : Prop :=
  (∀ (s : State) (path : Path) (v : Word), s.power = .run → s.judge path F.BT_RELOAD_GO.off true = .served →
    let src := F.BT_RELOAD_SRC.ofWord v
    let kind := F.BT_RELOAD_KIND.ofWord v
    (F.BT_RELOAD_GO.ofWord v = 0 → ∀ c ∈ [Instr.imageReloadRequest path v, .btLoadFirmware path v], Does c s fun t => Frame s t []) ∧
    (F.BT_RELOAD_GO.ofWord v = 1 → s.reloadReason src kind ≠ 0 → Does (.imageReloadRequest path v) s fun t => Frame s t [F.BT_EVT_RELOAD_REJ] ∧
      t.get F.BT_EVT_RELOAD_REJ = 1 ∧ Logs s t 0x0B11 0x16 0 (s.reloadReason src kind)) ∧
    (F.BT_RELOAD_GO.ofWord v = 1 → s.reloadReason src kind = 0 → kind = 0 → Does (.imageReloadRequest path v) s fun t => t.df.loading = some src ∧
      t.host.fetch = (if src = 2 then some 0 else none) ∧ Keeps s t [F.BT_STAT_STATE] ∧ LogsNone s t ∧
      (s.get F.BT_STAT_STATE = 3 → t.get F.BT_STAT_STATE = 6) ∧ (s.get F.BT_STAT_STATE ≠ 3 → src ≠ 2 → t.get F.BT_STAT_STATE = 2)) ∧
    (F.BT_RELOAD_GO.ofWord v = 1 → s.reloadReason src kind = 0 → kind = 1 → ∀ c ∈ [Instr.imageReloadRequest path v, .btLoadFirmware path v],
      Does c s fun t => Frame { s with host.fetch := some 1 } t []) ∧
    (F.BT_RELOAD_GO.ofWord v = 1 → s.reloadReason src 1 ≠ 0 → Does (.btLoadFirmware path v) s fun t => Frame s t [F.BT_EVT_RELOAD_REJ] ∧
      Logs s t 0x0B11 0x16 0 (s.reloadReason src 1))) ∧
  (∀ (s : State) (fw : Option Firmware), s.power = .run →
    (s.host.fetch = none → Does (.hostFetchComplete fw) s fun t => Frame s t []) ∧
    (s.host.fetch = some 0 → Does (.hostFetchComplete fw) s fun t => t.host.fetch = none ∧ Keeps s t [F.BT_STAT_STATE] ∧
      t.get F.BT_STAT_STATE = if s.get F.BT_STAT_STATE = 5 then 2 else s.get F.BT_STAT_STATE) ∧
    (s.host.fetch = some 1 → s.firmwareGood fw = none → Does (.hostFetchComplete fw) s fun t => Frame { s with host.fetch := none } t []) ∧
    (∀ f : Firmware, s.firmwareGood fw = some f → s.host.fetch = some 1 → Does (.hostFetchComplete fw) s fun t => t.host.fetch = none ∧
      t.get F.SY_FW_VER_VER = f.version % 2 ^ F.SY_FW_VER_VER.width ∧ t.get F.BT_STAT_FW_SLOT = 1 ∧ t.host.rollback = max s.host.rollback f.rollback ∧
      t.get F.BT_STAT_STATE = (if s.on F.TP_STAT_LATCH then 7 else if s.get F.BT_STAT_SRC = 1 then 5 else 2))) ∧
  (∀ (s : State) (img : Image), s.power = .run →
    (s.df.loading = none ∨ s.host.fetch ≠ none → Does (.imageCheckComplete img) s fun t => Frame s t []) ∧
    (∀ src : Nat, s.df.loading = some src → s.host.fetch = none → Does (.imageCheckComplete img) s fun t =>
      t.get F.BT_STAT_STATE = (if s.imageFault img = 0 then if s.get F.BT_STAT_STATE ≠ 6 ∧ s.on F.TP_STAT_LATCH = true then 7 else 3
        else if s.get F.BT_STAT_STATE = 6 then 3 else if src < 2 ∧ s.host.second = false then s.get F.BT_STAT_STATE else 5) ∧
      t.df.image = (if s.imageFault img = 0 ∧ ¬(s.get F.BT_STAT_STATE ≠ 6 ∧ s.on F.TP_STAT_LATCH = true) then some img else s.df.image) ∧
      t.df.loading = (if s.imageFault img ≠ 0 ∧ s.get F.BT_STAT_STATE ≠ 6 ∧ src < 2 ∧ s.host.second = false then some (1 - src) else none) ∧
      (if s.imageFault img = 0 then s.get F.BT_STAT_STATE = 6 → t.df.tokens = [] ∧ t.get F.BT_STAT_IMG_SLOT = src % 2 ^ F.BT_STAT_IMG_SLOT.width
        else t.get F.DF_EVT_REJECT = 1 ∧ (s.get F.BT_STAT_STATE = 6 → Frame { s with df.loading := none } t [F.DF_EVT_REJECT, F.BT_STAT_STATE])))) ∧
  (∀ (s : State) (img : Image) (src : Nat), s.power = .run → s.df.loading = some src → s.host.fetch = none → headerGood img.bytes = false →
    s.get F.BT_STAT_STATE = 6 → Does (.imageCheckComplete img) s fun t => t.get F.BT_STAT_STATE = 3 ∧ t.df.image = s.df.image ∧ Logs s t 0x0720 0x0C 0 1)

/-- A unit reset is dropped while another runs, refused by its interlock, or resets its unit and completes. In the Run state, through a path that SY_URESET serves. While UNIT_BUSY is 1 a unit reset only writes event 0x0121 with status 0x01; where its interlock forbids it, LAST_UNIT and LAST_STATUS show it, with the event; else UNIT_BUSY is 1 and the unit is reset: a core is FAILED with its self-test begun and its registers by letter U; the synthesizer has no lockstep error and no hold, and owes an allowance; the reference selector is in HOLD; Moraine is unbounded; an enabled baseband starts anew; the interval engine's, output, crypto, protocol, journal and counter registers follow letter U, no crypto call remains, and no register of another block changes but those that the ended calls' tokens count in; a supervisor core's rung mailboxes return 0x09. URESET_COMPLETE clears UNIT_BUSY and shows the unit with status 0; without a unit reset in progress it changes nothing. (R6, R112, R146, R158, R232, R325, R358, R364, R373, R402) -/
def Obligations.UnitResetsAskTheirInterlock : Prop :=
  (∀ (s : State) (path : Path), s.power = .run → s.judge path F.SY_URESET_GO.off true = .served →
    let units := [(Instr.uresetCore path 0, 1), (.uresetCore path 1, 2), (.uresetTimeSynth path, 3), (.uresetIe path, 4), (.uresetRs path, 5), (.uresetMb path, 6),
      (.uresetGn path, 7), (.uresetOs path, 8), (.uresetCx path, 9), (.uresetPt path, 10), (.uresetJl path, 11), (.uresetPc path, 12),
      (.uresetSupervisor path 0, 13), (.uresetSupervisor path 1, 14)]
    let free (unit : Nat) : Prop := s.on F.SY_RST_STAT_UNIT_BUSY = false ∧ s.unitBlocked unit = 0
    (∀ e ∈ units,
      (s.on F.SY_RST_STAT_UNIT_BUSY = true → Does e.1 s fun t => Frame s t [F.PM_EVT_URESET] ∧ Logs s t 0x0121 0x01 0 (e.2 + 256)) ∧
      (s.on F.SY_RST_STAT_UNIT_BUSY = false → s.unitBlocked e.2 ≠ 0 → Does e.1 s fun t =>
        Frame s t [F.SY_RST_STAT_LAST_UNIT, F.SY_RST_STAT_LAST_STATUS, F.PM_EVT_URESET] ∧ t.get F.SY_RST_STAT_LAST_UNIT = e.2 ∧
        t.get F.SY_RST_STAT_LAST_STATUS = s.unitBlocked e.2 ∧ Logs s t 0x0121 0x01 0 (e.2 + s.unitBlocked e.2 * 256)) ∧
      (free e.2 → Does e.1 s fun t => t.get F.SY_RST_STAT_UNIT_BUSY = 1 ∧ t.pm.unit = e.2 ∧ t.now = s.now ∧ t.firn = s.firn)) ∧
    (∀ k : Fin 2, free (k + 1) → Does (.uresetCore path k) s fun t => t.get (F.TK_STAT_STATE k) = 5 ∧
      t.rd.testing.getD k none = some s.now ∧
      ∀ f : Fld, fieldOfKey f.key = some f → 0x050100 + k * 0x8000 ≤ f.off → f.off < 0x058000 + k * 0x8000 →
        f.key ∉ [(F.TK_STAT_STATE k).key, (F.TK_STAT_ACTIVE k).key] → t.get f = if f.keptThrough .U then s.get f else f.reset) ∧
    (free 3 → Does (.uresetTimeSynth path) s fun t => t.get F.TK_TS_STAT_LS_ERR = 0 ∧ t.get F.TK_TS_STAT_LS_FAIL = 0 ∧ t.get F.TK_TS_STAT_HELD = 0 ∧
      t.mb.owed = s.mb.owed ++ [Allowance.lockstep] ∧ Keeps s t [F.TK_TS_STAT_LS_ERR, F.TK_TS_STAT_LS_FAIL, F.TK_TS_STAT_HELD, F.SY_RST_STAT_UNIT_BUSY]) ∧
    (free 5 → Does (.uresetRs path) s fun t => t.get F.RS_STAT_HOLD = 1) ∧
    (free 6 → Does (.uresetMb path) s fun t => t.get F.MB_STAT_UNB = 1 ∧ t.get F.MB_STAT_STATE = 2) ∧
    (free 7 → s.on F.GN_CFG_EN = true → s.gn.autoFlake = false → Does (.uresetGn path) s fun t =>
      t.get F.GN_STAT_STATE = (if s.gn.flake then 4 else 1) ∧ t.gn.script = false ∧ t.gn.search = []) ∧
    (free 9 → Does (.uresetCx path) s fun t => t.df.cx = []) ∧
    (∀ e ∈ [(Instr.uresetIe path, 4, 0x03), (.uresetOs path, 8, 0x07), (.uresetCx path, 9, 0x0E), (.uresetPt path, 10, 0x0D), (.uresetJl path, 11, 0x15),
        (.uresetPc path, 12, 0x14)],
      free e.2.1 → Does e.1 s fun t => ∀ f : Fld, fieldOfKey f.key = some f → f.key ≠ F.SY_RST_STAT_UNIT_BUSY.key →
        (f.window = e.2.2 → f.key ≠ F.OS_SM_STAT_LOCK.key → t.get f = if f.keptThrough .U then s.get f else f.reset) ∧
        (f.window ≠ e.2.2 → (e.2.1 = 9 → f.window ≠ 0x0C) → t.get f = s.get f)) ∧
    (∀ k : Fin 2, free (13 + k) → Does (.uresetSupervisor path k) s fun t => ∀ n < 6, (s.box n).doorbell = true →
      (t.box n).doorbell = decide ((s.box n).core ≠ k) ∧ ((s.box n).core = k → (t.box n).status = 9))) ∧
  (∀ s : State, s.power = .run →
    (s.on F.SY_RST_STAT_UNIT_BUSY = false → Does .uresetComplete s fun t => Frame s t []) ∧
    (s.on F.SY_RST_STAT_UNIT_BUSY = true → Does .uresetComplete s fun t => t.get F.SY_RST_STAT_UNIT_BUSY = 0 ∧
      t.get F.SY_RST_STAT_LAST_UNIT = s.pm.unit % 2 ^ F.SY_RST_STAT_LAST_UNIT.width ∧ t.get F.SY_RST_STAT_LAST_STATUS = 0 ∧
      Frame { s with pm.unit := 0 } t [F.SY_RST_STAT_UNIT_BUSY, F.SY_RST_STAT_LAST_UNIT, F.SY_RST_STAT_LAST_STATUS, F.PM_EVT_URESET] ∧
      Logs s t 0x0121 0x01 0 s.pm.unit))

/-- An access is judged by its path and window; a plain register takes a write and gives a read by its access codes. In the Run state. A write or read that a function may not make leaves the registers but its event flag, and such a read returns all ones; one that a function-level reset or PERST_N cuts off, or outside the blocks, changes nothing, the read returning all ones or 0. A served write that is no whole aligned register is dropped with NARROW; FOREIGN_ACCESS that is served does nothing. A served write of a plain register takes RW fields, clears W1C bits written 1, takes RWL fields before the seal, and changes no other field. A served whole read of one returns its readable fields and clears RC fields alone. A read of a SEC register of a time word latches its NSF partner: the next read of that, however much later and whatever the registers hold by then, returns the word of the same moment. A register command whose access is not served does what FOREIGN_ACCESS at its register does. A write by offset of a register with a command of its own does what that command does. (R3, R5, R25, R368, R370, R371, R379) -/
def Obligations.RegisterAccessesActByTheirCode : Prop :=
  (∀ (s : State) (path : Path) (off : BitVec 25) (width : BitVec 4) (v : Word), s.power = .run →
    let o := off.toNat
    (s.judge path o true = .foreign → ∀ c ∈ [Instr.registerWrite path off width v, .foreignAccess path off true], Does c s fun t =>
      Frame s t [F.BT_EVT_FOREIGN] ∧ (s.rateDue (0x0B02 * 8 + path.num) = true → t.get F.BT_EVT_FOREIGN = 1)) ∧
    (s.judge path o true = .refused → ∀ c ∈ [Instr.registerWrite path off width v, .foreignAccess path off true], Does c s fun t =>
      Frame s t [F.BT_EVT_REFUSED] ∧ (s.rateDue (0x0B04 * 8 + path.num) = true → t.get F.BT_EVT_REFUSED = 1)) ∧
    (s.judge path o true = .dead ∨ s.judge path o true = .reserved → ∀ c ∈ [Instr.registerWrite path off width v, .foreignAccess path off true],
      Does c s fun t => Frame s t []) ∧
    (∀ write : Bool, s.judge path o write = .served → Does (.foreignAccess path off write) s fun t => Frame s t []) ∧
    (s.judge path o true = .served → width ≠ 8 ∨ o % 8 ≠ 0 → Does (.registerWrite path off width v) s fun t => Frame s t [F.BT_EVT_NARROW]) ∧
    (s.judge path o true = .served → width = 8 → o % 8 = 0 → (effects path (canonical o) v).all (fun e => (e.1.place (canonical o)).isNone) = true →
      Does (.registerWrite path off width v) s fun t => Keeps s t (F.BT_EVT_REFUSED :: fieldsAt (canonical o)) ∧ ∀ f ∈ fieldsAt (canonical o),
        t.get f = match f.acc with
          | .rw => f.ofWord v
          | .w1c => (s.get f - (s.get f &&& f.ofWord v)) % 2 ^ f.width
          | .rwl => if s.sealed then s.get f else f.ofWord v
          | _ => s.get f) ∧
    (s.judge path o false = .foreign → ∀ c ∈ [Instr.rcFieldRead path off width, .timeWordSecRead path off, .foreignAccess path off false], Does c s fun t =>
      Frame s t [F.BT_EVT_FOREIGN] ∧ Sends s t (.readData o (BitVec.allOnes 64))) ∧
    (s.judge path o false = .dead → ∀ c ∈ [Instr.rcFieldRead path off width, .timeWordSecRead path off, .foreignAccess path off false], Does c s fun t =>
      Frame s t [] ∧ Sends s t (.readData o (BitVec.allOnes 64))) ∧
    (s.judge path o false = .reserved → ∀ c ∈ [Instr.rcFieldRead path off width, .timeWordSecRead path off, .foreignAccess path off false], Does c s fun t =>
      Frame s t [] ∧ Sends s t (.readData o 0)) ∧
    (s.judge path o false = .served → width = 8 → o % 8 = 0 → o < 0x170000 → s.latches = [] → (F.R_IE_CH_RES_RAW.place (canonical o)) = none →
      (F.R_JL_WIN.place (canonical o)) = none → (F.R_JL_WSEAL.place (canonical o)) = none → (F.R_KV_DATA.place (canonical o)) = none →
      Does (.rcFieldRead path off width) s fun t =>
        Sends s t (.readData o (BitVec.ofNat 64 ((s.shown (canonical o)).readable (canonical o)))) ∧
        Frame { s with latches := t.latches } t ((fieldsAt (canonical o)).filter (fun f => f.acc == .rc)) ∧ (∀ f ∈ fieldsAt (canonical o), f.acc = .rc → t.get f = f.reset))) ∧
  (∀ (s : State) (path : Path) (later : Nat), s.power = .run → s.judge path F.TK_TS_SEC_SEC.off false = .served →
    (∀ e ∈ s.latches, e.1 ≠ F.TK_TS_SEC_SEC.off) → Does (.timeWordSecRead path (BitVec.ofNat 25 F.TK_TS_SEC_SEC.off)) s fun t =>
      Sends s t (.readData F.TK_TS_SEC_SEC.off (BitVec.ofNat 64 (s.sec % 2 ^ 48))) ∧ Keeps s t [] ∧
      Does (.rcFieldRead path (BitVec.ofNat 25 F.TK_TS_NSF_NS.off) 8) { t with now := later } fun u =>
        Sends t u (.readData F.TK_TS_NSF_NS.off (BitVec.ofNat 64 (nsfOf s.now)))) ∧
  (∀ (s : State) (path : Path) (n : Fin 32) (later : Nat) (cells : List (Nat × Nat)), s.power = .run →
    ∀ e ∈ [(F.TK_TS_SEC_SEC.off, F.TK_TS_NSF_NS.off), (F.MB_PUB_SEC_SEC.off, F.MB_PUB_NSF_NSF.off),
        ((F.IE_CH_RES_SEC_SEC n).off, (F.IE_CH_RES_NSF_NS n).off)],
      s.judge path e.1 false = .served → (∀ l ∈ s.latches, l.1 ≠ e.1) → Does (.timeWordSecRead path (BitVec.ofNat 25 e.1)) s fun t =>
        Sends s t (.readData e.1 (BitVec.ofNat 64 ((s.shown e.1).readable e.1))) ∧ Frame { s with latches := t.latches } t [] ∧
        Does (.rcFieldRead path (BitVec.ofNat 25 e.2) 8) { t with now := later, cells := cells } fun u =>
          Sends t u (.readData e.2 (BitVec.ofNat 64 ((s.shown e.2).readable e.2)))) ∧
  (∀ (s : State) (path : Path) (n : Fin 4) (k : Fin 8) (q : Fin 6) (v : Word), s.power = .run →
    ∀ e ∈ [(Instr.omCfgWrite path n v, (F.OS_OM_CFG_EN n).off), (.clkCfgWrite path k v, (F.OS_CLK_CFG_EN k).off),
        (.clkDlyWrite path k v, (F.OS_CLK_DLY_FINE k).off), (.ppsCfgWrite path n v, (F.OS_PPS_CFG_EN n).off), (.tbSrcReqGo path v, F.TB_SRC_REQ_GO.off),
        (.rsSelWrite path v, F.RS_SEL_REF.off), (.tkModeWrite path v, F.TK_CTL_MODE.off), (.gnCfgWrite path v, F.GN_CFG_EN.off),
        (.lnLaneCfgWrite path q v, (F.LN_LANE_CFG_EN q).off), (.lnEqWrite path q v, (F.LN_LANE_EQ_PRE q).off), (.ptPortPtpWrite path q v, (F.PT_PORT_PTP_ROLE q).off),
        (.glScrubRateWrite path v, F.GL_SCRUB_RATE_RATE.off), (.rdSwitchWrite path v, F.RD_SWITCH_GO.off), (.neveRequest path v, F.SY_NEVE_GO.off),
        (.imageReloadRequest path v, F.BT_RELOAD_GO.off), (.syChiprstGo path v, F.SY_CHIPRST_GO.off)],
      Does e.1 s fun t => Does (.registerWrite path (BitVec.ofNat 25 e.2) 8 v) s fun u => u = t)
 ∧
  (∀ (s : State) (path : Path) (ch : Fin 32) (m j : Fin 8) (n : Fin 16) (p : Fin 6) (g : Fin 4) (x : Fin 256) (axis : Fin 3) (two : Fin 2)
      (v : Word) (w5 : BitVec 5) (slot tslot : BitVec 7) (len : BitVec 11) (confirm : BitVec 8) (te : BitVec 48) (delta : BitVec 10)
      (puf : List (Option Nat)), s.power = .run →
    ∀ e ∈ [(Instr.tbSrcReqGo path v, F.TB_SRC_REQ_GO.off, true), (.ieResRawRead path ch, (F.IE_CH_RES_RAW_RAW ch).off, false),
        (.ieStStatRead path m, (F.IE_ST_STAT_N_DONE m).off, false), (.mbAttStatRead path, F.MB_ATT_STAT_VALID.off, false),
        (.ieStCfgWrite path m v, (F.IE_ST_CFG_EN m).off, true), (.ieCalReqGo path w5, F.IE_CAL_REQ_GO.off, true),
        (.ieCalReqAll path w5, F.IE_CAL_REQ_ALL.off, true), (.rsSelWrite path v, F.RS_SEL_REF.off, true),
        (.rsRefCfgWrite path n v, (F.RS_REF_CFG_EN n).off, true), (.tkModeWrite path v, F.TK_CTL_MODE.off, true),
        (.tkManPhaseWrite path v, F.TK_MAN_PHASE_PHASE.off, true), (.tkSetNsfWrite path v, F.TK_SET_NSF_NS.off, true),
        (.tkSetSecWrite path v, F.TK_SET_SEC_SEC.off, true), (.gnFeSpiTransfer path v, F.GN_FE_SPI_DATA.off, true),
        (.gnCfgWrite path v, F.GN_CFG_EN.off, true), (.gnFlakeWrite path v, F.GN_FLAKE_EN.off, true),
        (.gnPosWrite path axis v, (posAxis axis).off, true), (.gnPosModeWrite path v, F.GN_POS_CFG_MODE.off, true),
        (.mbRefCalWrite path n v, (F.MB_REF_CAL_UNC n).off, true), (.omCfgWrite path g v, (F.OS_OM_CFG_EN g).off, true),
        (.clkCfgWrite path j v, (F.OS_CLK_CFG_EN j).off, true), (.clkDlyWrite path j v, (F.OS_CLK_DLY_FINE j).off, true),
        (.ppsCfgWrite path g v, (F.OS_PPS_CFG_EN g).off, true)] ++
      [(Instr.lnLaneCfgWrite path p v, (F.LN_LANE_CFG_EN p).off, true), (.lnIdleEnter path p, (F.LN_LANE_CFG_EN p).off, true),
        (.lnIdleExit path p, (F.LN_LANE_CFG_EN p).off, true), (.lnEqWrite path p v, (F.LN_LANE_EQ_PRE p).off, true),
        (.apCalRequest path v, F.AP_CAL_REQ_GO.off, true), (.imageReloadRequest path v, F.BT_RELOAD_GO.off, true),
        (.btLoadFirmware path v, F.BT_RELOAD_GO.off, true), (.ptPortPtpWrite path p v, (F.PT_PORT_PTP_ROLE p).off, true),
        (.leapInsert path te delta, F.PT_LEAP_WR_TE.off, true), (.leapDelete path te, F.PT_LEAP_WR_TE.off, true),
        (.hostTxTailWrite path m v, (F.PT_TX_PTR_TAIL m).off, true), (.kvDerive path slot tslot len, F.KV_OP_GO.off, true),
        (.kvImport path slot tslot len, F.KV_OP_GO.off, true), (.kvZeroise path slot tslot len, F.KV_OP_GO.off, true),
        (.kvPubkey path slot tslot len, F.KV_OP_GO.off, true), (.kvSign path slot tslot len, F.KV_OP_GO.off, true),
        (.kvVerify path slot tslot len, F.KV_OP_GO.off, true), (.kvMac path slot tslot len, F.KV_OP_GO.off, true),
        (.kvEncrypt path slot tslot len, F.KV_OP_GO.off, true), (.kvDecrypt path slot tslot len, F.KV_OP_GO.off, true),
        (.kvMint path slot tslot len, F.KV_OP_GO.off, true), (.kvRotate path slot tslot len, F.KV_OP_GO.off, true),
        (.kvRandom path slot tslot len, F.KV_OP_GO.off, true)] ++
      [(Instr.lcToProvision path confirm, F.KV_LC_GO.off, true), (.lcToField path confirm, F.KV_LC_GO.off, true),
        (.lcToReturn path confirm, F.KV_LC_GO.off, true), (.lcToRetired path confirm, F.KV_LC_GO.off, true),
        (.secureClear path v puf, F.TP_CLEAR_GO.off, true), (.glScrubRateWrite path v, F.GL_SCRUB_RATE_RATE.off, true),
        (.fuseProgramRequest path v, F.EC_FUSE_REQ_GO.off, true), (.rdSwitchWrite path v, F.RD_SWITCH_GO.off, true),
        (.rimeRequest path v, F.RD_RIME_REQ_GO.off, true), (.syChiprstGo path v, F.SY_CHIPRST_GO.off, true),
        (.neveRequest path v, F.SY_NEVE_GO.off, true), (.uresetCore path two, F.SY_URESET_GO.off, true),
        (.uresetTimeSynth path, F.SY_URESET_GO.off, true), (.uresetIe path, F.SY_URESET_GO.off, true),
        (.uresetRs path, F.SY_URESET_GO.off, true), (.uresetMb path, F.SY_URESET_GO.off, true), (.uresetGn path, F.SY_URESET_GO.off, true),
        (.uresetOs path, F.SY_URESET_GO.off, true), (.uresetCx path, F.SY_URESET_GO.off, true), (.uresetPt path, F.SY_URESET_GO.off, true),
        (.uresetJl path, F.SY_URESET_GO.off, true), (.uresetPc path, F.SY_URESET_GO.off, true),
        (.uresetSupervisor path two, F.SY_URESET_GO.off, true), (.pcSelWrite path x v, (F.PC_SEL_EN x).off, true),
        (.bwCfgWrite path p v, (F.PC_BW_CFG_W p).off, true)],
      s.judge path e.2.1 e.2.2 ≠ .served → exec e.1 s = exec (.foreignAccess path (BitVec.ofNat 25 e.2.1) e.2.2) s)

/-- The FN window returns the Firn store, but for the vault record, and takes no write; PF4 may not write the journal block. In the Run state. A served whole read at an aligned offset of the FN window returns the eight bytes of the Firn store there, and 0 from byte 0x6400 to 0x67FF. A write into the window by any path that reaches the block changes no register but the event flag, nor the Firn store, and an event 0x0B02 that is due is written; a write by PF4 into the journal block likewise. (R369) -/
def Obligations.FirnWindowReadsTheStoreAndTakesNoWrite : Prop :=
  (∀ (s : State) (path : Path) (word : Fin 4096), s.power = .run → s.judge path (0x170000 + 8 * word) false = .served →
    Does (.rcFieldRead path (BitVec.ofNat 25 (0x170000 + 8 * word)) 8) s fun t => Frame s t [] ∧
      Sends s t (.readData (0x170000 + 8 * word) (BitVec.ofNat 64 (if 0x6400 ≤ 8 * word.val ∧ 8 * word.val < 0x6800 then 0
        else ofBytesLE (readBytes s.firn (8 * word) 8))))) ∧
  (∀ (s : State) (path : Path) (off : BitVec 25) (width : BitVec 4) (v : Word), s.power = .run → s.judge path off.toNat true ≠ .dead →
    (0x170000 ≤ off.toNat ∧ off.toNat < 0x178000) ∨ (path = .pf 4 ∧ 0x150000 ≤ off.toNat ∧ off.toNat < 0x160000) →
    Does (.registerWrite path off width v) s fun t => Frame s t [F.BT_EVT_FOREIGN] ∧
      (s.rateDue (0x0B02 * 8 + path.num) = false → LogsNone s t ∧ Keeps s t []) ∧
      (s.rateDue (0x0B02 * 8 + path.num) = true → t.get F.BT_EVT_FOREIGN = 1 ∧
        Logs s t 0x0B02 0x16 0 (min (s.rateCount (0x0B02 * 8 + path.num) + 1) 0xFFFFFFFF * 2 ^ 32 + off.toNat)))

/-- A function-level reset clears its function's state and no other; PERST_N clears that of all six; link and timeout events follow. In the Run state. A function-level reset of a function cuts its accesses off, empties its mailbox, its MSI-X table and pending bits, and returns to their reset values the further registers that the chapter lists for it; it changes no other register, no other mailbox, no flash but for a write under way through PF0, and writes no event. Its end serves the function again with event 0x0B06; without one in progress it changes nothing. PERST_N does this to every function and takes the link down; its release writes event 0x0B07, and 20 ms later the link may come up. A change of the link writes event 0x0B01; one that is none, or comes up too early, changes nothing. A completion timeout logs the error of its function with event 0x0B05, and for PF0 drops a fetch in progress; a reload then ends in STATE 3. (R357, R367, R371, R372, R383, R384) -/
def Obligations.FunctionLevelResetsClearTheirFunction : Prop :=
  let own : Nat → List Fld := fun n => match n with
    | 0 => [F.BT_HOST_ADDR_ADDR, F.BT_HOST_LEN_LEN]
    | 2 => [F.GN_SNAP_HADDR_ADDR, F.GN_SNAP_HADDR_ARM, F.GN_FE_SPI_DATA]
    | 3 => queueRegs.flatMap fieldsAt
    | 5 => ([F.KV_OP_OP.off, F.KV_OP_ATTR_ATTR.off, F.KV_OP_STAT_STATUS.off] ++ (List.range 128).map (fun w => (F.KV_DATA_DATA w).off)).flatMap fieldsAt
    | _ => []
  (∀ (s : State) (fn : Fin 6), s.power = .run →
    (Does (.functionLevelReset fn) s fun t => t.host.flr.getD fn false = true ∧ t.box fn = {} ∧ t.host.msixTable.getD fn [] = [] ∧
      t.host.msixPending.getD fn 0 = 0 ∧ (∀ k < 6, k ≠ fn.val → t.box k = s.box k ∧ t.host.flr.getD k false = s.host.flr.getD k false ∧
        t.host.msixTable.getD k [] = s.host.msixTable.getD k [] ∧ t.host.msixPending.getD k 0 = s.host.msixPending.getD k 0) ∧
      t.host.link = s.host.link ∧ t.host.perst = s.host.perst ∧ (fn ≠ 0 → t.host.flash = s.host.flash) ∧
      LogsNone s t ∧ (∀ f ∈ own fn, t.get f = f.reset) ∧
      Frame { s with host := t.host, gn.discard := t.gn.discard, gn.export_ := t.gn.export_, pc := t.pc, kv.op := t.kv.op, df.loading := t.df.loading } t (own fn) ∧
      (fn ≠ 2 → t.gn = s.gn) ∧ (fn = 2 → t.gn.discard = s.gn.spi) ∧ (fn ≠ 4 → t.pc = s.pc) ∧ (fn ≠ 5 → t.kv.op = s.kv.op) ∧
      (fn ≠ 0 → t.df.loading = s.df.loading) ∧
      (fn = 4 → t.pc = {} ∧ ∀ n < 256, t.get (F.PC_SEL_EN n) = 0) ∧ (fn = 5 → t.kv.op = none)) ∧
    (s.host.flr.getD fn false = true → Does (.functionLevelResetComplete fn) s fun t => t.host.flr.getD fn true = false ∧
      (∀ k < 6, k ≠ fn.val → t.host.flr.getD k false = s.host.flr.getD k false) ∧
      Frame { s with host.flr := t.host.flr } t [F.BT_EVT_FLR] ∧ t.get F.BT_EVT_FLR = 1 ∧ Logs s t 0x0B06 0x16 0 fn) ∧
    (s.host.flr.getD fn false = false → Does (.functionLevelResetComplete fn) s fun t => Frame s t []) ∧
    (Does (.pcieCompletionTimeout fn) s fun t => t.host.aer.getD fn false = true ∧ (∀ k < 6, k ≠ fn.val → t.host.aer.getD k false = s.host.aer.getD k false) ∧
      t.get F.BT_EVT_CTO = 1 ∧ Logs s t 0x0B05 0x16 0 fn ∧
      (fn ≠ 0 → Frame { s with host.aer := t.host.aer } t [F.BT_EVT_CTO]) ∧
      (fn = 0 → Frame { s with host.aer := t.host.aer, host.fetch := none, df.loading := t.df.loading } t [F.BT_EVT_CTO, F.BT_STAT_STATE] ∧
        (s.host.fetch = none → t.df.loading = s.df.loading ∧ t.get F.BT_STAT_STATE = s.get F.BT_STAT_STATE) ∧
        (s.host.fetch ≠ none → t.df.loading = none ∧
          t.get F.BT_STAT_STATE = if s.get F.BT_STAT_STATE = 6 then 3 else s.get F.BT_STAT_STATE)))) ∧
  (∀ (s : State) (up : Bool), s.power = .run →
    (Does .perstAssert s fun t => t.host.perst = true ∧ t.host.link = false ∧ (∀ k < 6, t.box k = {} ∧ t.host.flr.getD k true = false) ∧
      LogsNone s t ∧ (∀ n < 6, ∀ f ∈ own n, t.get f = f.reset) ∧
      Frame { s with host := t.host, gn.discard := s.gn.spi, gn.export_ := t.gn.export_, pc := {}, kv.op := none, df.loading := t.df.loading } t
        ((List.range 6).flatMap own)) ∧
    (s.host.perst = true → Does .perstRelease s fun t => Frame { s with host.perst := false, host.readyAt := s.now + 20 * tuMs } t [F.BT_EVT_PERST] ∧
      t.get F.BT_EVT_PERST = 1 ∧ Logs s t 0x0B07 0x16 0 0) ∧
    (s.host.perst = false → Does .perstRelease s fun t => Frame s t []) ∧
    (s.host.link = up ∨ (up = true ∧ (s.host.perst = true ∨ s.now < s.host.readyAt)) → Does (.pcieLinkChange up) s fun t => Frame s t []) ∧
    (s.host.link ≠ up → up = false ∨ (s.host.perst = false ∧ s.host.readyAt ≤ s.now) → Does (.pcieLinkChange up) s fun t =>
      Frame { s with host.link := up } t [F.BT_EVT_LINK] ∧ t.get F.BT_EVT_LINK = 1 ∧ Logs s t 0x0B01 0x16 0 up.toNat))

/-- A doorbell takes a command, the core acts on its code and answers; SVC_SPI reads, writes and shows its status. In the Run state. A doorbell of a reachable function with none rung copies the command and clears DONE; one rung again changes nothing. A command's row acts on a rung mailbox of its code without a reply and on nothing else: INFO replies for every function; the others are denied but for PF0; a write lies in one slot that is not the running one, stores its bytes and changes no other; a read returns the flash's bytes; SET_PREF writes the directory copy not in use. MAILBOX_RESPONSE writes reply and tag, sets DONE and signals vector 0; an unknown code answers 0x03. SVC_SPI that does not answer does nothing; SVC_STATUS sends the STATUS byte; a READ frame sends one word per offset from its first on, 0 at a bad one, and reads as any path does; a WRITE frame of no whole number of words is dropped, and a word of one is written as any path's is. (R374, R375, R376, R378, R379, R380) -/
def Obligations.MailboxesAndServiceSpiAnswer : Prop :=
  (∀ (s : State) (fn : Fin 6) (code tag len : BitVec 16) (payload : List Byte) (core : Fin 2), s.power = .run →
    (s.host.perst = true ∨ s.host.flr.getD fn false = true ∨ (s.box fn).doorbell = true → Does (.mailboxDoorbell fn code tag len payload core) s fun t => Frame s t []) ∧
    (s.host.perst = false → s.host.flr.getD fn false = false → (s.box fn).doorbell = false → Does (.mailboxDoorbell fn code tag len payload core) s fun t =>
      Frame { s with host.boxes := t.host.boxes } t [] ∧ (t.box fn).doorbell = true ∧ (t.box fn).rungAt = s.now ∧ (t.box fn).core = core ∧
      (t.box fn).done = false ∧ (t.box fn).reply = none ∧ (t.box fn).code = code.toNat ∧ (t.box fn).tag = tag.toNat ∧
      (t.box fn).len = len.toNat ∧ (t.box fn).payload = payload.take 2032 ∧ ∀ k < 6, k ≠ fn.val → t.box k = s.box k)) ∧
  (∀ (s : State) (fn : Fin 6) (ok : Bool), s.power = .run →
    let b := s.box fn
    let at4 := leAt b.payload 0 4
    let cmds := [(Instr.mbCmdInfo fn, 0x0001), (.mbCmdFlashWrite fn, 0x0010), (.mbCmdFlashRead fn, 0x0011), (.mbCmdVerify fn ok, 0x0012), (.mbCmdSetPref fn, 0x0013)]
    (∀ e ∈ cmds, b.doorbell = false ∨ b.code ≠ e.2 ∨ b.reply ≠ none → Does e.1 s fun t => Frame s t []) ∧
    (∀ e ∈ cmds, b.doorbell = true → b.code = e.2 → b.reply = none → Does e.1 s fun t =>
      Frame { s with host.boxes := t.host.boxes, host.flash := t.host.flash } t [] ∧ t.box fn = { b with reply := (t.box fn).reply } ∧
      (t.box fn).reply ≠ none ∧ (∀ k < 6, k ≠ fn.val → t.box k = s.box k) ∧
      (e.2 ≠ 0x0010 → e.2 ≠ 0x0013 → t.host.flash = s.host.flash) ∧
      (fn ≠ 0 → e.2 ≠ 1 → (t.box fn).reply = some (0x02, []) ∧ t.host.flash = s.host.flash)) ∧
    (b.doorbell = true → b.code = 0x0001 → b.reply = none → Does (.mbCmdInfo fn) s fun t => (t.box fn).reply = some (0, s.info)) ∧
    (fn = 0 → b.doorbell = true → b.code = 0x0010 → b.reply = none → Does (.mbCmdFlashWrite fn) s fun t =>
      (b.len < 4 ∨ 2032 < b.len ∨ s.flashOpen at4 (b.len - 4) = false → (t.box fn).reply = some (0x03, []) ∧ t.host.flash = s.host.flash) ∧
      (4 ≤ b.len → b.len ≤ 2032 → b.len ≤ b.payload.length → s.flashOpen at4 (b.len - 4) = true → (t.box fn).reply = some (0x00, []) ∧
        ∀ i < b.len - 4, byteAt t.host.flash (at4 + i) = b.payload.getD (4 + i) 0) ∧
      (∀ a : Nat, a < at4 ∨ at4 + (b.len - 4) ≤ a → byteAt t.host.flash a = byteAt s.host.flash a)) ∧
    (fn = 0 → b.doorbell = true → b.code = 0x0011 → b.reply = none → Does (.mbCmdFlashRead fn) s fun t =>
      (b.len = 4 → at4 + 2040 ≤ flashSize → (t.box fn).reply = some (0, readBytes s.host.flash at4 2040)) ∧
      (8 ≤ b.len → b.len ≤ 2032 → leAt b.payload 4 4 ≤ 2040 → at4 + leAt b.payload 4 4 ≤ flashSize →
        (t.box fn).reply = some (0, readBytes s.host.flash at4 (leAt b.payload 4 4))) ∧
      (b.len < 4 → (t.box fn).reply = some (0x03, []))) ∧
    (fn = 0 → b.doorbell = true → b.code = 0x0012 → b.reply = none → Does (.mbCmdVerify fn ok) s fun t =>
      (t.box fn).reply = some (if (twoArgs b).isSome ∧ ok = true then 0x00 else 0x03, [])) ∧
    (fn = 0 → b.doorbell = true → b.code = 0x0013 → b.reply = none → Does (.mbCmdSetPref fn) s fun t =>
      (twoArgs b = none → (t.box fn).reply = some (0x03, []) ∧ t.host.flash = s.host.flash) ∧
      (∀ x : Nat × Nat, twoArgs b = some x → (t.box fn).reply = some (0x00, []) ∧ t.host.flash = (s.writeDirectory x.1 x.2).host.flash ∧
        ∀ a : Nat, (∃ r, s.bootDirectory = some r ∧ 0x1000 * r.1 ≤ a ∧ a < 0x1000 * r.1 + 0x1000) ∨ 0x2000 ≤ a →
          byteAt t.host.flash a = byteAt s.host.flash a)) ∧
    (b.doorbell = false → Does (.mailboxResponse fn) s fun t => Frame s t []) ∧
    (∀ r : Nat × List Byte, b.doorbell = true → b.reply = some r ∨ (b.reply = none ∧ knownCode b.code = false ∧ r = (0x03, [])) →
      Does (.mailboxResponse fn) s fun t => Frame { s with host.boxes := t.host.boxes } t [] ∧ (∀ k < 6, k ≠ fn.val → t.box k = s.box k) ∧
      (t.box fn).doorbell = false ∧ (t.box fn).done = true ∧ (t.box fn).status = r.1 ∧ (t.box fn).rtag = b.tag ∧
      (t.box fn).rpayload = r.2.take 2040 ∧ Sends s t (.msix fn 0)) ∧
    (b.doorbell = true → b.reply = none → knownCode b.code = true → Does (.mailboxResponse fn) s fun t => Frame s t [])) ∧
  (∀ (s : State) (off : BitVec 32) (n : Nat) (words : List Word) (tail : Fin 64), s.power = .run →
    (s.svcAnswers = false → ∀ c ∈ [Instr.svcRead off n, .svcWrite off words tail, .svcStatus], Does c s fun t => Frame s t []) ∧
    (s.svcAnswers = true → Does .svcStatus s fun t => Sends s t (.readBytes 0 (bytesLE 1 s.svcByte)) ∧ Frame s t []) ∧
    (s.svcAnswers = true → Does (.svcRead off n) s fun t =>
      let sent (u : State) : List Nat := u.outs.filterMap (fun m => match m with | .readData o _ => some o | _ => none)
      sent t = ((List.range n).map (fun i => off.toNat + 8 * i)).reverse ++ sent s) ∧
    (s.svcAnswers = true → svcOffsetBad off.toNat = true → Does (.svcRead off 1) s fun t => Frame { s with host.svcRefused := true } t [] ∧
      Sends s t (.readData off.toNat 0)) ∧
    (s.svcAnswers = true → svcOffsetBad off.toNat = false → Does (.rcFieldRead .spi (BitVec.ofNat 25 off.toNat) 8) s fun u =>
      Does (.svcRead off 1) s fun t => t = { u with host.svcRefused := false }) ∧
    (s.svcAnswers = true → tail.val ≠ 0 ∨ words = [] → Does (.svcWrite off words tail) s fun t => Frame { s with host.svcTaken := false } t []) ∧
    (∀ v : Word, s.svcAnswers = true → svcOffsetBad off.toNat = true → Does (.svcWrite off [v] 0) s fun t =>
      Frame { s with host.svcTaken := false, host.svcRefused := true } t []) ∧
    (∀ v : Word, s.svcAnswers = true → svcOffsetBad off.toNat = false → Does (.registerWrite .spi (BitVec.ofNat 25 off.toNat) 8 v) s fun u =>
      Does (.svcWrite off [v] 0) s fun t => t = { u with host.svcTaken := s.svcTakes off.toNat, host.svcRefused := t.host.svcRefused } ∧
        t.host.svcRefused = (!s.svcTakes off.toNat && s.judge .spi off.toNat true != .reserved)))

/-- A step runs the command at the front of the queue on the state with the rest of the queue; on an empty queue the block idles. For every state, command and rest of a queue, a step of the state with the command in front of that rest is the command executed on the state whose queue is the rest. With an empty queue a step leaves the state (the model's choice, log entry 9). (R1) -/
def Obligations.StepRunsTheFrontCommand : Prop :=
  (∀ (s : State) (c : Instr) (rest : List Instr), step { s with pending := c :: rest } = exec c { s with pending := rest }) ∧
  (∀ s : State, s.pending = [] → step s = .next s)

/-- After reset the registers show the reset values of their tables, the stores are empty, and the status pins show their conditions. In the state after reset every register field reads as the reset value of its table; among them SY_ID shows vendor 0x1F3C, device 0x9640 and stepping 0xB0, and MB_MAP0 its bound of 100 ns. No command waits, the Firn store, the flash and the journal queue list nothing, and ALARM_N alone is asserted. (R57, R164, R364, R380, R408) -/
def Obligations.ResetShowsItsValuesAndPins : Prop :=
  (∀ f : Fld, State.reset.get f = f.reset) ∧ State.reset.get F.SY_ID_VENDOR = 0x1F3C ∧ State.reset.get F.SY_ID_DEVICE = 0x9640 ∧
    State.reset.get F.SY_ID_STEP = 0xB0 ∧ State.reset.get (F.MB_MAP_BOUND_MAX 0) = 100000 ∧ State.reset.pending = [] ∧ State.reset.firn = [] ∧
    State.reset.host.flash = [] ∧ State.reset.jl.queue = [] ∧ State.reset.pinsTrue ∧
    State.reset.pins = { alarm := true, degrade := false, tamper := false, wake := false }

/-- In every state where the status pins show their conditions, a step of any command leads to one where they do. The status pins show their conditions when, in the Run state, ALARM_N, DEGRADE_N and TAMPER_N are asserted exactly where the chapters name their conditions, under a held reset ALARM_N is asserted and TAMPER_N where the tamper latch is set, in Firn all are released, and in Névé they are held. From every state in which they do, every step of every command answers a next state in which they do. (R296, R357, R377, R408, R413) -/
def Obligations.StatusPinsStayTrue : Prop :=
  ∀ s t : State, s.pinsTrue → step s = .next t → t.pinsTrue

/-- A part that is held in reset, in Névé or in Firn is changed by no command but those of power, wake, tamper sampling and passing time. In a part that is not in the Run state, every command but MAIN_POWER_UP, MAIN_POWER_LOSS, VBAT_LOSS, CHIP_RESET_START, RESET_N_ASSERT, the four wake causes, TAMPER_SAMPLE and SAMPLE_TICK leaves the whole state as it is. (R352, R354, R355, R357, R359, R360) -/
def Obligations.OutsideRunOnlyPowerCommandsAct : Prop :=
  ∀ (c : Instr) (s : State), s.power ≠ .run → actsOutsideRun c = false → exec c s = .next s

/-- A sum of bounds is unbounded where it reaches 2^48 - 1 ps or contains an unbounded term, and exact below. For every list of terms, their sum as a bound is the exact sum where that is below 2^48 - 1 ps, and else 0xFFFF_FFFF_FFFF, unbounded; a sum that contains an unbounded term is unbounded. (R28) -/
def Obligations.BoundArithmeticSaturates : Prop :=
  ∀ l : List Nat, (l.sum < 2 ^ 48 - 1 → boundSum l = l.sum) ∧ (2 ^ 48 - 1 ≤ l.sum → boundSum l = 0xFFFFFFFFFFFF) ∧
    (0xFFFFFFFFFFFF ∈ l → boundSum l = 0xFFFFFFFFFFFF)

/-- An output MDLL whose configuration is written invalid stays disabled, with event 0x0503 and OS_EVT.BADCFG. In the Run state, a served write of OS_OMn_CFG with EN = 1 and DEN = 0, NUM not below DEN, or INT below 8 or above 24 leaves the MDLL without lock and without settling towards one, sets BADCFG in OS_EVT, changes no other register, and writes event 0x0503 with n in the argument. (R175) -/
def Obligations.InvalidOutputConfigurationsAreRefused : Prop :=
  ∀ (s : State) (path : Path) (n : Fin 4) (v : Word), s.power = .run → s.judge path (F.OS_OM_CFG_EN n).off true = .served → (F.OS_OM_CFG_EN n).ofWord v = 1 →
    let den := (F.OS_OM_CFG_DEN n).ofWord v
    (den = 0 ∨ den ≤ (F.OS_OM_CFG_NUM n).ofWord v ∨ (F.OS_OM_CFG_INT n).ofWord v < 8 ∨ 24 < (F.OS_OM_CFG_INT n).ofWord v) →
    Does (.omCfgWrite path n v) s fun t => t.get (F.OS_OM_STAT_LOCK n) = 0 ∧ t.get (F.OS_OM_STAT_BADCFG n) = 1 ∧ t.os.settling.getD n false = false ∧
      (∀ k < 8, s.clkSrc k = n → (t.clk k).armed = false) ∧ t.get F.OS_EVT_BADCFG = 1 ∧
      t.get (F.OS_OM_STAT_NOBAND n) = 0 ∧ (∀ f ∈ fieldsAt (F.OS_OM_CFG_EN n).off, f.acc = .rw → t.get f = f.ofWord v) ∧
      Frame { s with os := t.os } t (fieldsAt (F.OS_OM_CFG_EN n).off ++ [F.OS_OM_STAT_LOCK n, F.OS_OM_STAT_NOBAND n, F.OS_OM_STAT_BADCFG n, F.OS_EVT_BADCFG]) ∧ Logs s t 0x0503 0x07 0 n
end

