-- ==== Sys2Proof/Laws/State.lean ====
section
/-! SUPPORT. One lemma per field of State and update of it, and the reset value of each field. -/
namespace Sys2Proof.Machine

variable (s : State)

@[simp] theorem State.put_pending (f : Fld) (v : Nat) : (s.put f v).pending = s.pending := rfl
@[simp] theorem State.put_latches (f : Fld) (v : Nat) : (s.put f v).latches = s.latches := rfl
@[simp] theorem State.put_now (f : Fld) (v : Nat) : (s.put f v).now = s.now := rfl
@[simp] theorem State.put_tick (f : Fld) (v : Nat) : (s.put f v).tick = s.tick := rfl
@[simp] theorem State.put_past (f : Fld) (v : Nat) : (s.put f v).past = s.past := rfl
@[simp] theorem State.put_power (f : Fld) (v : Nat) : (s.put f v).power = s.power := rfl
@[simp] theorem State.put_quiet (f : Fld) (v : Nat) : (s.put f v).quiet = s.quiet := rfl
@[simp] theorem State.put_free (f : Fld) (v : Nat) : (s.put f v).free = s.free := rfl
@[simp] theorem State.put_outs (f : Fld) (v : Nat) : (s.put f v).outs = s.outs := rfl
@[simp] theorem State.put_rates (f : Fld) (v : Nat) : (s.put f v).rates = s.rates := rfl
@[simp] theorem State.put_pins (f : Fld) (v : Nat) : (s.put f v).pins = s.pins := rfl
@[simp] theorem State.put_firn (f : Fld) (v : Nat) : (s.put f v).firn = s.firn := rfl
@[simp] theorem State.put_jl (f : Fld) (v : Nat) : (s.put f v).jl = s.jl := rfl
@[simp] theorem State.put_host (f : Fld) (v : Nat) : (s.put f v).host = s.host := rfl
@[simp] theorem State.put_tb (f : Fld) (v : Nat) : (s.put f v).tb = s.tb := rfl
@[simp] theorem State.put_pm (f : Fld) (v : Nat) : (s.put f v).pm = s.pm := rfl
@[simp] theorem State.put_rd (f : Fld) (v : Nat) : (s.put f v).rd = s.rd := rfl
@[simp] theorem State.put_mb (f : Fld) (v : Nat) : (s.put f v).mb = s.mb := rfl
@[simp] theorem State.put_ie (f : Fld) (v : Nat) : (s.put f v).ie = s.ie := rfl
@[simp] theorem State.put_tk (f : Fld) (v : Nat) : (s.put f v).tk = s.tk := rfl
@[simp] theorem State.put_rs (f : Fld) (v : Nat) : (s.put f v).rs = s.rs := rfl
@[simp] theorem State.put_wire (f : Fld) (v : Nat) : (s.put f v).wire = s.wire := rfl
@[simp] theorem State.put_pc (f : Fld) (v : Nat) : (s.put f v).pc = s.pc := rfl
@[simp] theorem State.put_pt (f : Fld) (v : Nat) : (s.put f v).pt = s.pt := rfl
@[simp] theorem State.put_df (f : Fld) (v : Nat) : (s.put f v).df = s.df := rfl
@[simp] theorem State.put_gl (f : Fld) (v : Nat) : (s.put f v).gl = s.gl := rfl
@[simp] theorem State.put_kv (f : Fld) (v : Nat) : (s.put f v).kv = s.kv := rfl
@[simp] theorem State.put_gn (f : Fld) (v : Nat) : (s.put f v).gn = s.gn := rfl
@[simp] theorem State.put_os (f : Fld) (v : Nat) : (s.put f v).os = s.os := rfl

@[simp] theorem State.putI_pending (f : Fld) (v : Int) : (s.putI f v).pending = s.pending := rfl
@[simp] theorem State.putI_latches (f : Fld) (v : Int) : (s.putI f v).latches = s.latches := rfl
@[simp] theorem State.putI_now (f : Fld) (v : Int) : (s.putI f v).now = s.now := rfl
@[simp] theorem State.putI_tick (f : Fld) (v : Int) : (s.putI f v).tick = s.tick := rfl
@[simp] theorem State.putI_past (f : Fld) (v : Int) : (s.putI f v).past = s.past := rfl
@[simp] theorem State.putI_power (f : Fld) (v : Int) : (s.putI f v).power = s.power := rfl
@[simp] theorem State.putI_quiet (f : Fld) (v : Int) : (s.putI f v).quiet = s.quiet := rfl
@[simp] theorem State.putI_free (f : Fld) (v : Int) : (s.putI f v).free = s.free := rfl
@[simp] theorem State.putI_outs (f : Fld) (v : Int) : (s.putI f v).outs = s.outs := rfl
@[simp] theorem State.putI_rates (f : Fld) (v : Int) : (s.putI f v).rates = s.rates := rfl
@[simp] theorem State.putI_pins (f : Fld) (v : Int) : (s.putI f v).pins = s.pins := rfl
@[simp] theorem State.putI_firn (f : Fld) (v : Int) : (s.putI f v).firn = s.firn := rfl
@[simp] theorem State.putI_jl (f : Fld) (v : Int) : (s.putI f v).jl = s.jl := rfl
@[simp] theorem State.putI_host (f : Fld) (v : Int) : (s.putI f v).host = s.host := rfl
@[simp] theorem State.putI_tb (f : Fld) (v : Int) : (s.putI f v).tb = s.tb := rfl
@[simp] theorem State.putI_pm (f : Fld) (v : Int) : (s.putI f v).pm = s.pm := rfl
@[simp] theorem State.putI_rd (f : Fld) (v : Int) : (s.putI f v).rd = s.rd := rfl
@[simp] theorem State.putI_mb (f : Fld) (v : Int) : (s.putI f v).mb = s.mb := rfl
@[simp] theorem State.putI_ie (f : Fld) (v : Int) : (s.putI f v).ie = s.ie := rfl
@[simp] theorem State.putI_tk (f : Fld) (v : Int) : (s.putI f v).tk = s.tk := rfl
@[simp] theorem State.putI_rs (f : Fld) (v : Int) : (s.putI f v).rs = s.rs := rfl
@[simp] theorem State.putI_wire (f : Fld) (v : Int) : (s.putI f v).wire = s.wire := rfl
@[simp] theorem State.putI_pc (f : Fld) (v : Int) : (s.putI f v).pc = s.pc := rfl
@[simp] theorem State.putI_pt (f : Fld) (v : Int) : (s.putI f v).pt = s.pt := rfl
@[simp] theorem State.putI_df (f : Fld) (v : Int) : (s.putI f v).df = s.df := rfl
@[simp] theorem State.putI_gl (f : Fld) (v : Int) : (s.putI f v).gl = s.gl := rfl
@[simp] theorem State.putI_kv (f : Fld) (v : Int) : (s.putI f v).kv = s.kv := rfl
@[simp] theorem State.putI_gn (f : Fld) (v : Int) : (s.putI f v).gn = s.gn := rfl
@[simp] theorem State.putI_os (f : Fld) (v : Int) : (s.putI f v).os = s.os := rfl

@[simp] theorem State.putB_pending (f : Fld) (b : Bool) : (s.putB f b).pending = s.pending := rfl
@[simp] theorem State.putB_latches (f : Fld) (b : Bool) : (s.putB f b).latches = s.latches := rfl
@[simp] theorem State.putB_now (f : Fld) (b : Bool) : (s.putB f b).now = s.now := rfl
@[simp] theorem State.putB_tick (f : Fld) (b : Bool) : (s.putB f b).tick = s.tick := rfl
@[simp] theorem State.putB_past (f : Fld) (b : Bool) : (s.putB f b).past = s.past := rfl
@[simp] theorem State.putB_power (f : Fld) (b : Bool) : (s.putB f b).power = s.power := rfl
@[simp] theorem State.putB_quiet (f : Fld) (b : Bool) : (s.putB f b).quiet = s.quiet := rfl
@[simp] theorem State.putB_free (f : Fld) (b : Bool) : (s.putB f b).free = s.free := rfl
@[simp] theorem State.putB_outs (f : Fld) (b : Bool) : (s.putB f b).outs = s.outs := rfl
@[simp] theorem State.putB_rates (f : Fld) (b : Bool) : (s.putB f b).rates = s.rates := rfl
@[simp] theorem State.putB_pins (f : Fld) (b : Bool) : (s.putB f b).pins = s.pins := rfl
@[simp] theorem State.putB_firn (f : Fld) (b : Bool) : (s.putB f b).firn = s.firn := rfl
@[simp] theorem State.putB_jl (f : Fld) (b : Bool) : (s.putB f b).jl = s.jl := rfl
@[simp] theorem State.putB_host (f : Fld) (b : Bool) : (s.putB f b).host = s.host := rfl
@[simp] theorem State.putB_tb (f : Fld) (b : Bool) : (s.putB f b).tb = s.tb := rfl
@[simp] theorem State.putB_pm (f : Fld) (b : Bool) : (s.putB f b).pm = s.pm := rfl
@[simp] theorem State.putB_rd (f : Fld) (b : Bool) : (s.putB f b).rd = s.rd := rfl
@[simp] theorem State.putB_mb (f : Fld) (b : Bool) : (s.putB f b).mb = s.mb := rfl
@[simp] theorem State.putB_ie (f : Fld) (b : Bool) : (s.putB f b).ie = s.ie := rfl
@[simp] theorem State.putB_tk (f : Fld) (b : Bool) : (s.putB f b).tk = s.tk := rfl
@[simp] theorem State.putB_rs (f : Fld) (b : Bool) : (s.putB f b).rs = s.rs := rfl
@[simp] theorem State.putB_wire (f : Fld) (b : Bool) : (s.putB f b).wire = s.wire := rfl
@[simp] theorem State.putB_pc (f : Fld) (b : Bool) : (s.putB f b).pc = s.pc := rfl
@[simp] theorem State.putB_pt (f : Fld) (b : Bool) : (s.putB f b).pt = s.pt := rfl
@[simp] theorem State.putB_df (f : Fld) (b : Bool) : (s.putB f b).df = s.df := rfl
@[simp] theorem State.putB_gl (f : Fld) (b : Bool) : (s.putB f b).gl = s.gl := rfl
@[simp] theorem State.putB_kv (f : Fld) (b : Bool) : (s.putB f b).kv = s.kv := rfl
@[simp] theorem State.putB_gn (f : Fld) (b : Bool) : (s.putB f b).gn = s.gn := rfl
@[simp] theorem State.putB_os (f : Fld) (b : Bool) : (s.putB f b).os = s.os := rfl

@[simp] theorem State.putSat_pending (f : Fld) (v : Nat) : (s.putSat f v).pending = s.pending := rfl
@[simp] theorem State.putSat_latches (f : Fld) (v : Nat) : (s.putSat f v).latches = s.latches := rfl
@[simp] theorem State.putSat_now (f : Fld) (v : Nat) : (s.putSat f v).now = s.now := rfl
@[simp] theorem State.putSat_tick (f : Fld) (v : Nat) : (s.putSat f v).tick = s.tick := rfl
@[simp] theorem State.putSat_past (f : Fld) (v : Nat) : (s.putSat f v).past = s.past := rfl
@[simp] theorem State.putSat_power (f : Fld) (v : Nat) : (s.putSat f v).power = s.power := rfl
@[simp] theorem State.putSat_quiet (f : Fld) (v : Nat) : (s.putSat f v).quiet = s.quiet := rfl
@[simp] theorem State.putSat_free (f : Fld) (v : Nat) : (s.putSat f v).free = s.free := rfl
@[simp] theorem State.putSat_outs (f : Fld) (v : Nat) : (s.putSat f v).outs = s.outs := rfl
@[simp] theorem State.putSat_rates (f : Fld) (v : Nat) : (s.putSat f v).rates = s.rates := rfl
@[simp] theorem State.putSat_pins (f : Fld) (v : Nat) : (s.putSat f v).pins = s.pins := rfl
@[simp] theorem State.putSat_firn (f : Fld) (v : Nat) : (s.putSat f v).firn = s.firn := rfl
@[simp] theorem State.putSat_jl (f : Fld) (v : Nat) : (s.putSat f v).jl = s.jl := rfl
@[simp] theorem State.putSat_host (f : Fld) (v : Nat) : (s.putSat f v).host = s.host := rfl
@[simp] theorem State.putSat_tb (f : Fld) (v : Nat) : (s.putSat f v).tb = s.tb := rfl
@[simp] theorem State.putSat_pm (f : Fld) (v : Nat) : (s.putSat f v).pm = s.pm := rfl
@[simp] theorem State.putSat_rd (f : Fld) (v : Nat) : (s.putSat f v).rd = s.rd := rfl
@[simp] theorem State.putSat_mb (f : Fld) (v : Nat) : (s.putSat f v).mb = s.mb := rfl
@[simp] theorem State.putSat_ie (f : Fld) (v : Nat) : (s.putSat f v).ie = s.ie := rfl
@[simp] theorem State.putSat_tk (f : Fld) (v : Nat) : (s.putSat f v).tk = s.tk := rfl
@[simp] theorem State.putSat_rs (f : Fld) (v : Nat) : (s.putSat f v).rs = s.rs := rfl
@[simp] theorem State.putSat_wire (f : Fld) (v : Nat) : (s.putSat f v).wire = s.wire := rfl
@[simp] theorem State.putSat_pc (f : Fld) (v : Nat) : (s.putSat f v).pc = s.pc := rfl
@[simp] theorem State.putSat_pt (f : Fld) (v : Nat) : (s.putSat f v).pt = s.pt := rfl
@[simp] theorem State.putSat_df (f : Fld) (v : Nat) : (s.putSat f v).df = s.df := rfl
@[simp] theorem State.putSat_gl (f : Fld) (v : Nat) : (s.putSat f v).gl = s.gl := rfl
@[simp] theorem State.putSat_kv (f : Fld) (v : Nat) : (s.putSat f v).kv = s.kv := rfl
@[simp] theorem State.putSat_gn (f : Fld) (v : Nat) : (s.putSat f v).gn = s.gn := rfl
@[simp] theorem State.putSat_os (f : Fld) (v : Nat) : (s.putSat f v).os = s.os := rfl

@[simp] theorem State.count_pending (f : Fld) (n : Nat) : (s.count f n).pending = s.pending := rfl
@[simp] theorem State.count_latches (f : Fld) (n : Nat) : (s.count f n).latches = s.latches := rfl
@[simp] theorem State.count_now (f : Fld) (n : Nat) : (s.count f n).now = s.now := rfl
@[simp] theorem State.count_tick (f : Fld) (n : Nat) : (s.count f n).tick = s.tick := rfl
@[simp] theorem State.count_past (f : Fld) (n : Nat) : (s.count f n).past = s.past := rfl
@[simp] theorem State.count_power (f : Fld) (n : Nat) : (s.count f n).power = s.power := rfl
@[simp] theorem State.count_quiet (f : Fld) (n : Nat) : (s.count f n).quiet = s.quiet := rfl
@[simp] theorem State.count_free (f : Fld) (n : Nat) : (s.count f n).free = s.free := rfl
@[simp] theorem State.count_outs (f : Fld) (n : Nat) : (s.count f n).outs = s.outs := rfl
@[simp] theorem State.count_rates (f : Fld) (n : Nat) : (s.count f n).rates = s.rates := rfl
@[simp] theorem State.count_pins (f : Fld) (n : Nat) : (s.count f n).pins = s.pins := rfl
@[simp] theorem State.count_firn (f : Fld) (n : Nat) : (s.count f n).firn = s.firn := rfl
@[simp] theorem State.count_jl (f : Fld) (n : Nat) : (s.count f n).jl = s.jl := rfl
@[simp] theorem State.count_host (f : Fld) (n : Nat) : (s.count f n).host = s.host := rfl
@[simp] theorem State.count_tb (f : Fld) (n : Nat) : (s.count f n).tb = s.tb := rfl
@[simp] theorem State.count_pm (f : Fld) (n : Nat) : (s.count f n).pm = s.pm := rfl
@[simp] theorem State.count_rd (f : Fld) (n : Nat) : (s.count f n).rd = s.rd := rfl
@[simp] theorem State.count_mb (f : Fld) (n : Nat) : (s.count f n).mb = s.mb := rfl
@[simp] theorem State.count_ie (f : Fld) (n : Nat) : (s.count f n).ie = s.ie := rfl
@[simp] theorem State.count_tk (f : Fld) (n : Nat) : (s.count f n).tk = s.tk := rfl
@[simp] theorem State.count_rs (f : Fld) (n : Nat) : (s.count f n).rs = s.rs := rfl
@[simp] theorem State.count_wire (f : Fld) (n : Nat) : (s.count f n).wire = s.wire := rfl
@[simp] theorem State.count_pc (f : Fld) (n : Nat) : (s.count f n).pc = s.pc := rfl
@[simp] theorem State.count_pt (f : Fld) (n : Nat) : (s.count f n).pt = s.pt := rfl
@[simp] theorem State.count_df (f : Fld) (n : Nat) : (s.count f n).df = s.df := rfl
@[simp] theorem State.count_gl (f : Fld) (n : Nat) : (s.count f n).gl = s.gl := rfl
@[simp] theorem State.count_kv (f : Fld) (n : Nat) : (s.count f n).kv = s.kv := rfl
@[simp] theorem State.count_gn (f : Fld) (n : Nat) : (s.count f n).gn = s.gn := rfl
@[simp] theorem State.count_os (f : Fld) (n : Nat) : (s.count f n).os = s.os := rfl

@[simp] theorem State.clear_pending (f : Fld) : (s.clear f).pending = s.pending := rfl
@[simp] theorem State.clear_latches (f : Fld) : (s.clear f).latches = s.latches := rfl
@[simp] theorem State.clear_now (f : Fld) : (s.clear f).now = s.now := rfl
@[simp] theorem State.clear_tick (f : Fld) : (s.clear f).tick = s.tick := rfl
@[simp] theorem State.clear_past (f : Fld) : (s.clear f).past = s.past := rfl
@[simp] theorem State.clear_power (f : Fld) : (s.clear f).power = s.power := rfl
@[simp] theorem State.clear_quiet (f : Fld) : (s.clear f).quiet = s.quiet := rfl
@[simp] theorem State.clear_free (f : Fld) : (s.clear f).free = s.free := rfl
@[simp] theorem State.clear_outs (f : Fld) : (s.clear f).outs = s.outs := rfl
@[simp] theorem State.clear_rates (f : Fld) : (s.clear f).rates = s.rates := rfl
@[simp] theorem State.clear_pins (f : Fld) : (s.clear f).pins = s.pins := rfl
@[simp] theorem State.clear_firn (f : Fld) : (s.clear f).firn = s.firn := rfl
@[simp] theorem State.clear_jl (f : Fld) : (s.clear f).jl = s.jl := rfl
@[simp] theorem State.clear_host (f : Fld) : (s.clear f).host = s.host := rfl
@[simp] theorem State.clear_tb (f : Fld) : (s.clear f).tb = s.tb := rfl
@[simp] theorem State.clear_pm (f : Fld) : (s.clear f).pm = s.pm := rfl
@[simp] theorem State.clear_rd (f : Fld) : (s.clear f).rd = s.rd := rfl
@[simp] theorem State.clear_mb (f : Fld) : (s.clear f).mb = s.mb := rfl
@[simp] theorem State.clear_ie (f : Fld) : (s.clear f).ie = s.ie := rfl
@[simp] theorem State.clear_tk (f : Fld) : (s.clear f).tk = s.tk := rfl
@[simp] theorem State.clear_rs (f : Fld) : (s.clear f).rs = s.rs := rfl
@[simp] theorem State.clear_wire (f : Fld) : (s.clear f).wire = s.wire := rfl
@[simp] theorem State.clear_pc (f : Fld) : (s.clear f).pc = s.pc := rfl
@[simp] theorem State.clear_pt (f : Fld) : (s.clear f).pt = s.pt := rfl
@[simp] theorem State.clear_df (f : Fld) : (s.clear f).df = s.df := rfl
@[simp] theorem State.clear_gl (f : Fld) : (s.clear f).gl = s.gl := rfl
@[simp] theorem State.clear_kv (f : Fld) : (s.clear f).kv = s.kv := rfl
@[simp] theorem State.clear_gn (f : Fld) : (s.clear f).gn = s.gn := rfl
@[simp] theorem State.clear_os (f : Fld) : (s.clear f).os = s.os := rfl

@[simp] theorem State.emit_pending (m : OutMsg) : (s.emit m).pending = s.pending := rfl
@[simp] theorem State.emit_cells (m : OutMsg) : (s.emit m).cells = s.cells := rfl
@[simp] theorem State.emit_latches (m : OutMsg) : (s.emit m).latches = s.latches := rfl
@[simp] theorem State.emit_now (m : OutMsg) : (s.emit m).now = s.now := rfl
@[simp] theorem State.emit_tick (m : OutMsg) : (s.emit m).tick = s.tick := rfl
@[simp] theorem State.emit_past (m : OutMsg) : (s.emit m).past = s.past := rfl
@[simp] theorem State.emit_power (m : OutMsg) : (s.emit m).power = s.power := rfl
@[simp] theorem State.emit_quiet (m : OutMsg) : (s.emit m).quiet = s.quiet := rfl
@[simp] theorem State.emit_free (m : OutMsg) : (s.emit m).free = s.free := rfl
@[simp] theorem State.emit_rates (m : OutMsg) : (s.emit m).rates = s.rates := rfl
@[simp] theorem State.emit_pins (m : OutMsg) : (s.emit m).pins = s.pins := rfl
@[simp] theorem State.emit_firn (m : OutMsg) : (s.emit m).firn = s.firn := rfl
@[simp] theorem State.emit_jl (m : OutMsg) : (s.emit m).jl = s.jl := rfl
@[simp] theorem State.emit_host (m : OutMsg) : (s.emit m).host = s.host := rfl
@[simp] theorem State.emit_tb (m : OutMsg) : (s.emit m).tb = s.tb := rfl
@[simp] theorem State.emit_pm (m : OutMsg) : (s.emit m).pm = s.pm := rfl
@[simp] theorem State.emit_rd (m : OutMsg) : (s.emit m).rd = s.rd := rfl
@[simp] theorem State.emit_mb (m : OutMsg) : (s.emit m).mb = s.mb := rfl
@[simp] theorem State.emit_ie (m : OutMsg) : (s.emit m).ie = s.ie := rfl
@[simp] theorem State.emit_tk (m : OutMsg) : (s.emit m).tk = s.tk := rfl
@[simp] theorem State.emit_rs (m : OutMsg) : (s.emit m).rs = s.rs := rfl
@[simp] theorem State.emit_wire (m : OutMsg) : (s.emit m).wire = s.wire := rfl
@[simp] theorem State.emit_pc (m : OutMsg) : (s.emit m).pc = s.pc := rfl
@[simp] theorem State.emit_pt (m : OutMsg) : (s.emit m).pt = s.pt := rfl
@[simp] theorem State.emit_df (m : OutMsg) : (s.emit m).df = s.df := rfl
@[simp] theorem State.emit_gl (m : OutMsg) : (s.emit m).gl = s.gl := rfl
@[simp] theorem State.emit_kv (m : OutMsg) : (s.emit m).kv = s.kv := rfl
@[simp] theorem State.emit_gn (m : OutMsg) : (s.emit m).gn = s.gn := rfl
@[simp] theorem State.emit_os (m : OutMsg) : (s.emit m).os = s.os := rfl

@[simp] theorem State.signal_pending (fn vec : Nat) : (s.signal fn vec).pending = s.pending := rfl
@[simp] theorem State.signal_cells (fn vec : Nat) : (s.signal fn vec).cells = s.cells := rfl
@[simp] theorem State.signal_latches (fn vec : Nat) : (s.signal fn vec).latches = s.latches := rfl
@[simp] theorem State.signal_now (fn vec : Nat) : (s.signal fn vec).now = s.now := rfl
@[simp] theorem State.signal_tick (fn vec : Nat) : (s.signal fn vec).tick = s.tick := rfl
@[simp] theorem State.signal_past (fn vec : Nat) : (s.signal fn vec).past = s.past := rfl
@[simp] theorem State.signal_power (fn vec : Nat) : (s.signal fn vec).power = s.power := rfl
@[simp] theorem State.signal_quiet (fn vec : Nat) : (s.signal fn vec).quiet = s.quiet := rfl
@[simp] theorem State.signal_free (fn vec : Nat) : (s.signal fn vec).free = s.free := rfl
@[simp] theorem State.signal_rates (fn vec : Nat) : (s.signal fn vec).rates = s.rates := rfl
@[simp] theorem State.signal_pins (fn vec : Nat) : (s.signal fn vec).pins = s.pins := rfl
@[simp] theorem State.signal_firn (fn vec : Nat) : (s.signal fn vec).firn = s.firn := rfl
@[simp] theorem State.signal_jl (fn vec : Nat) : (s.signal fn vec).jl = s.jl := rfl
@[simp] theorem State.signal_host (fn vec : Nat) : (s.signal fn vec).host = s.host := rfl
@[simp] theorem State.signal_tb (fn vec : Nat) : (s.signal fn vec).tb = s.tb := rfl
@[simp] theorem State.signal_pm (fn vec : Nat) : (s.signal fn vec).pm = s.pm := rfl
@[simp] theorem State.signal_rd (fn vec : Nat) : (s.signal fn vec).rd = s.rd := rfl
@[simp] theorem State.signal_mb (fn vec : Nat) : (s.signal fn vec).mb = s.mb := rfl
@[simp] theorem State.signal_ie (fn vec : Nat) : (s.signal fn vec).ie = s.ie := rfl
@[simp] theorem State.signal_tk (fn vec : Nat) : (s.signal fn vec).tk = s.tk := rfl
@[simp] theorem State.signal_rs (fn vec : Nat) : (s.signal fn vec).rs = s.rs := rfl
@[simp] theorem State.signal_wire (fn vec : Nat) : (s.signal fn vec).wire = s.wire := rfl
@[simp] theorem State.signal_pc (fn vec : Nat) : (s.signal fn vec).pc = s.pc := rfl
@[simp] theorem State.signal_pt (fn vec : Nat) : (s.signal fn vec).pt = s.pt := rfl
@[simp] theorem State.signal_df (fn vec : Nat) : (s.signal fn vec).df = s.df := rfl
@[simp] theorem State.signal_gl (fn vec : Nat) : (s.signal fn vec).gl = s.gl := rfl
@[simp] theorem State.signal_kv (fn vec : Nat) : (s.signal fn vec).kv = s.kv := rfl
@[simp] theorem State.signal_gn (fn vec : Nat) : (s.signal fn vec).gn = s.gn := rfl
@[simp] theorem State.signal_os (fn vec : Nat) : (s.signal fn vec).os = s.os := rfl

end Sys2Proof.Machine
end

