-- ==== Sys2Proof/Laws/Cells.lean ====
section
/-! SUPPORT. Laws of the canonical stores: a read after a write, and the canonical form, which every operation keeps. -/
namespace Sys2Proof.Machine

variable {α : Type}

/-! ## Lists by place -/

theorem getD_alter (d e : α) (f : α → α) (n m : Nat) (l : List α) (h : n < l.length ∨ d = e) :
    (alter d n f l).getD m e = if m = n then f (l.getD n e) else l.getD m e := by
  induction n generalizing m l with
  | zero => cases l <;> cases m <;> simp_all [alter]
  | succ n ih =>
    cases l with
    | nil =>
      have hd : d = e := by simpa using h
      cases m with
      | zero => simp [alter, hd]
      | succ m => simpa [alter] using ih m [] (.inr hd)
    | cons x l =>
      cases m with
      | zero => simp [alter]
      | succ m => simpa [alter] using ih m l (by simpa using h)

theorem getD_assign_same (d e x : α) (n : Nat) (l : List α) : (assign d n x l).getD n e = x := by
  induction n generalizing l with
  | zero => cases l <;> rfl
  | succ n ih => cases l <;> simpa [assign, alter] using ih _

theorem length_alter (d : α) (f : α → α) (n : Nat) (l : List α) : (alter d n f l).length = max (n + 1) l.length := by
  induction n generalizing l with
  | zero => cases l <;> simp [alter]
  | succ n ih => cases l <;> simp [alter, ih]

/-! ## Read after write -/

theorem readCell_drop_same (k : Nat) (d : α) (l : List (Nat × α)) : readCell k d (dropCell k l) = d := by
  induction l with
  | nil => rfl
  | cons c l ih =>
    by_cases h : c.1 = k
    · simpa [dropCell, h] using ih
    · have : (c.1 != k) = true := by simpa using h
      simpa [dropCell, this, readCell, h] using ih

theorem readCell_drop_other {k j : Nat} (h : j ≠ k) (d : α) (l : List (Nat × α)) : readCell j d (dropCell k l) = readCell j d l := by
  induction l with
  | nil => rfl
  | cons c l ih =>
    by_cases hk : c.1 = k
    · have : ¬ c.1 = j := fun e => h (e.symm.trans hk)
      simpa [dropCell, hk, readCell, this, Ne.symm h] using ih
    · have hb : (c.1 != k) = true := by simpa using hk
      have ih' : readCell j d (List.filter (fun c => c.1 != k) l) = readCell j d l := ih
      simp [dropCell, hb, readCell, ih']

theorem readCell_insert_same (k : Nat) (v d : α) (l : List (Nat × α)) (h : ∀ c ∈ l, c.1 ≠ k) : readCell k d (insertCell k v l) = v := by
  induction l with
  | nil => simp [insertCell, readCell]
  | cons c l ih =>
    have hc := h c (by simp)
    by_cases hk : k < c.1
    · simp [insertCell, hk, readCell]
    · simp [insertCell, hk, readCell, hc, ih (fun e he => h e (by simp [he]))]

theorem readCell_insert_other {k j : Nat} (hjk : j ≠ k) (v d : α) (l : List (Nat × α)) :
    readCell j d (insertCell k v l) = readCell j d l := by
  induction l with
  | nil => simp [insertCell, readCell, Ne.symm hjk]
  | cons c l ih =>
    by_cases hk : k < c.1
    · simp [insertCell, hk, readCell, Ne.symm hjk]
    · simp [insertCell, hk, readCell, ih]

theorem dropCell_ne (k : Nat) (l : List (Nat × α)) : ∀ c ∈ dropCell k l, c.1 ≠ k := by
  intro c hc
  simpa using (List.mem_filter.mp hc).2

/-- A read after a write to the same place gives the value written. -/
@[simp] theorem readCell_write_same [DecidableEq α] (k : Nat) (v d : α) (l : List (Nat × α)) : readCell k d (writeCell k v d l) = v := by
  unfold writeCell
  split
  · next h => rw [readCell_drop_same, h]
  · exact readCell_insert_same k v d _ (dropCell_ne k l)

/-- A write leaves every other place alone. -/
theorem readCell_write_other [DecidableEq α] {k j : Nat} (h : j ≠ k) (v d d' : α) (l : List (Nat × α)) :
    readCell j d' (writeCell k v d l) = readCell j d' l := by
  unfold writeCell
  split
  · exact readCell_drop_other h d' l
  · rw [readCell_insert_other h, readCell_drop_other h]

/-! ## The canonical form -/

theorem wf_cons [DecidableEq α] (d : α) (c : Nat × α) (l : List (Nat × α)) :
    Memory.wf d (c :: l) = true ↔ c.2 ≠ d ∧ (∀ e ∈ l, c.1 < e.1) ∧ Memory.wf d l = true := by
  simp [Memory.wf, and_assoc]

/-- Dropping pairs keeps the canonical form. -/
theorem wf_filter [DecidableEq α] (d : α) (p : Nat × α → Bool) (l : List (Nat × α)) (h : Memory.wf d l = true) :
    Memory.wf d (l.filter p) = true := by
  induction l with
  | nil => rfl
  | cons c l ih =>
    obtain ⟨h1, h2, h3⟩ := (wf_cons d c l).mp h
    by_cases hp : p c
    · simp only [List.filter, hp]
      exact (wf_cons d c _).mpr ⟨h1, fun e he => h2 e (List.mem_of_mem_filter he), ih h3⟩
    · simpa [List.filter, hp] using ih h3

theorem mem_insertCell (k : Nat) (v : α) (l : List (Nat × α)) : ∀ e ∈ insertCell k v l, e = (k, v) ∨ e ∈ l := by
  induction l with
  | nil => intro e he; simpa [insertCell] using he
  | cons c l ih =>
    intro e he
    by_cases hk : k < c.1
    · simpa [insertCell, hk] using he
    · rcases List.mem_cons.mp (by simpa [insertCell, hk] using he) with h | h
      · exact .inr (by simp [h])
      · rcases ih e h with h | h
        · exact .inl h
        · exact .inr (by simp [h])

theorem wf_insert [DecidableEq α] (d : α) (k : Nat) (v : α) (hv : v ≠ d) (l : List (Nat × α)) (hk : ∀ c ∈ l, c.1 ≠ k)
    (h : Memory.wf d l = true) : Memory.wf d (insertCell k v l) = true := by
  induction l with
  | nil => simp [insertCell, Memory.wf, hv]
  | cons c l ih =>
    obtain ⟨h1, h2, h3⟩ := (wf_cons d c l).mp h
    by_cases hlt : k < c.1
    · simp only [insertCell, hlt, if_true]
      refine (wf_cons d _ _).mpr ⟨hv, fun e he => ?_, h⟩
      rcases List.mem_cons.mp he with rfl | he
      · exact hlt
      · exact Nat.lt_trans hlt (h2 e he)
    · simp only [insertCell, hlt, if_false]
      refine (wf_cons d _ _).mpr ⟨h1, fun e he => ?_, ih (fun e he => hk e (by simp [he])) h3⟩
      rcases mem_insertCell k v l e he with rfl | he
      · have := hk c (by simp)
        simp only
        omega
      · exact h2 e he

/-- Every write keeps the canonical form. -/
theorem wf_write [DecidableEq α] (k : Nat) (v d : α) (l : List (Nat × α)) (h : Memory.wf d l = true) :
    Memory.wf d (writeCell k v d l) = true := by
  unfold writeCell
  split
  · exact wf_filter d _ l h
  · next hv => exact wf_insert d k v hv _ (dropCell_ne k l) (wf_filter d _ l h)

/-- A write of consecutive bytes keeps it too. -/
theorem wf_writeBytes (m : List Host.Cell) (a : Nat) (l : List Byte) (h : Memory.wf 0 m = true) : Memory.wf 0 (writeBytes m a l) = true := by
  induction l generalizing m a with
  | nil => exact h
  | cons b l ih => exact ih _ _ (wf_write a b 0 m h)

/-- A byte outside the bytes written reads as before. -/
theorem byteAt_writeBytes_other (m : List Host.Cell) (a j : Nat) (l : List Byte) (h : j < a ∨ a + l.length ≤ j) :
    byteAt (writeBytes m a l) j = byteAt m j := by
  induction l generalizing m a with
  | nil => rfl
  | cons b l ih =>
    rw [writeBytes, ih (writeCell a b 0 m) (a + 1) (by simp only [List.length_cons] at h; omega)]
    exact readCell_write_other (by simp only [List.length_cons] at h; omega) b 0 0 m

/-- A byte inside them reads as written. -/
theorem byteAt_writeBytes_in (m : List Host.Cell) (a i : Nat) (l : List Byte) (h : i < l.length) :
    byteAt (writeBytes m a l) (a + i) = l[i] := by
  induction l generalizing m a i with
  | nil => simp at h
  | cons b l ih =>
    cases i with
    | zero =>
      rw [writeBytes, byteAt_writeBytes_other _ _ _ _ (by omega)]
      simp [byteAt]
    | succ i =>
      have := ih (writeCell a b 0 m) (a + 1) i (by simpa using h)
      rw [writeBytes, show a + (i + 1) = a + 1 + i by omega, this]
      rfl

/-! ## Register fields -/

variable (s : State)

/-- A field reads as written, modulo its width. -/
@[simp] theorem State.get_put_same (f : Fld) (v : Nat) : (s.put f v).get f = v % 2 ^ f.width := by simp [State.put, State.get]

/-- A write of a field leaves every field of another place alone. -/
theorem State.get_put_other (f g : Fld) (v : Nat) (h : g.key ≠ f.key) : (s.put f v).get g = s.get g := readCell_write_other h _ _ _ _

/-- The register cells keep their canonical form under a write, if the value written is kept apart by the field's own reset value. -/
theorem State.mem_put_cells (f : Fld) (v : Nat) (c : Nat × Nat) (h : c ∈ (s.put f v).cells) : c = (f.key, v % 2 ^ f.width) ∨ c ∈ s.cells := by
  simp only [State.put, writeCell] at h
  split at h
  · exact .inr (List.mem_of_mem_filter h)
  · rcases mem_insertCell _ _ _ c h with h | h
    · exact .inl h
    · exact .inr (List.mem_of_mem_filter h)

end Sys2Proof.Machine
end

