-- ==== Sys2Proof/Laws/Frame.lean ====
section
/-! SUPPORT. What the shared operations may change, once for each: register writes, messages, signals, events, the status pins. -/
namespace Sys2Proof.Machine

variable {s t u : State} {fs gs : List Fld}

/-! ## The frame as a relation -/

theorem Frame.refl (s : State) (fs : List Fld) : Frame s s fs := ⟨fun _ _ _ => rfl, rfl⟩

theorem Frame.trans (h : Frame s t fs) (g : Frame t u fs) : Frame s u fs := by
  refine ⟨fun f hf ht => (g.1 f hf ht).trans (h.1 f hf ht), ?_⟩
  have h2 := h.2
  have g2 := g.2
  rw [g2, h2]

theorem Frame.mono (h : Frame s t fs) (sub : ∀ k ∈ fs.map Fld.key, k ∈ gs.map Fld.key) : Frame s t gs :=
  ⟨fun f hf ht => h.1 f (fun e => hf (sub _ e)) ht, h.2⟩

/-- A field outside the frame's list reads as before. -/
theorem Frame.get (h : Frame s t fs) (f : Fld) (hf : f.key ∉ fs.map Fld.key) (ht : f.tallied = false) : t.get f = s.get f := h.1 f hf ht

/-! ## Register writes -/

theorem Frame.put (s : State) (f : Fld) (v : Nat) (h : f.key ∈ fs.map Fld.key ∨ f.tallied = true) : Frame s (s.put f v) fs := by
  refine ⟨fun g hg hg2 => State.get_put_other s f g v (fun e => ?_), rfl⟩
  rcases h with h | h
  · exact hg (e ▸ h)
  · have : g.tallied = f.tallied := by simp [Fld.tallied, e]
    simp [this, h] at hg2

theorem Frame.putI (s : State) (f : Fld) (v : Int) (h : f.key ∈ fs.map Fld.key) : Frame s (s.putI f v) fs := Frame.put s f _ (.inl h)
theorem Frame.putB (s : State) (f : Fld) (b : Bool) (h : f.key ∈ fs.map Fld.key) : Frame s (s.putB f b) fs := Frame.put s f _ (.inl h)
theorem Frame.putSat (s : State) (f : Fld) (v : Nat) (h : f.key ∈ fs.map Fld.key) : Frame s (s.putSat f v) fs := Frame.put s f _ (.inl h)
theorem Frame.count (s : State) (f : Fld) (n : Nat) (h : f.key ∈ fs.map Fld.key) : Frame s (s.count f n) fs := Frame.put s f _ (.inl h)
theorem Frame.countTallied (s : State) (f : Fld) (n : Nat) (h : f.tallied = true) : Frame s (s.count f n) fs := Frame.put s f _ (.inr h)
theorem Frame.clear (s : State) (f : Fld) (h : f.key ∈ fs.map Fld.key) : Frame s (s.clear f) fs := Frame.put s f _ (.inl h)

theorem Frame.when (s : State) (b : Bool) (f : State → State) (h : b = true → Frame s (f s) fs) : Frame s (s.when b f) fs := by
  cases b
  · exact Frame.refl s fs
  · exact h rfl

theorem Frame.forAll {α : Type} (l : List α) (f : State → α → State) (h : ∀ t x, x ∈ l → Frame t (f t x) fs) (s : State) :
    Frame s (s.forAll l f) fs := by
  induction l generalizing s with
  | nil => exact Frame.refl s fs
  | cons x l ih => exact (h s x (by simp)).trans (ih (fun t y hy => h t y (by simp [hy])) (f s x))

/-! ## Messages and signals -/

theorem Frame.emit (s : State) (m : OutMsg) (fs : List Fld) : Frame s (s.emit m) fs := ⟨fun _ _ _ => rfl, rfl⟩
theorem Frame.signal (s : State) (fn vec : Nat) (fs : List Fld) : Frame s (s.signal fn vec) fs := Frame.emit s _ fs

theorem Frame.signalLimited (s : State) (fn vec : Nat) (fs : List Fld) : Frame s (s.signalLimited fn vec) fs := by
  unfold State.signalLimited
  split
  · exact ⟨fun _ _ _ => rfl, rfl⟩
  · exact Frame.refl s fs

theorem Frame.setFlag (s : State) (f : Fld) (h : f.key ∈ fs.map Fld.key) : Frame s (s.setFlag f) fs := by
  unfold State.setFlag
  have hp := Frame.put s f 1 (.inl h)
  dsimp only
  split
  · split
    · exact hp.trans (Frame.signalLimited _ _ _ _)
    · exact hp
  · exact hp

/-! ## Counters -/

theorem tallied_pc (f : Fld) (h : f.off / 65536 = 0x14) (hlo : f.lo < 64) : f.tallied = true := by
  have : f.key / 4194304 = 0x14 := by
    unfold Fld.key
    omega
  simp [Fld.tallied, this]

theorem Frame.counterWrapped (s : State) (n : Nat) (hn : n < 256) (fs : List Fld) : Frame s (s.counterWrapped n) fs := by
  unfold State.counterWrapped
  refine (Frame.put s _ _ (.inr (tallied_pc _ ?_ (by simp [F.PC_OVF_OVF])))).trans (Frame.when _ _ _ fun _ => Frame.signalLimited _ _ _ _)
  simp only [F.PC_OVF_OVF]
  omega

theorem Frame.counterPlain (s : State) (n k : Nat) (hn : n < 256) (fs : List Fld) : Frame s (s.counterPlain n k) fs := by
  unfold State.counterPlain
  refine (Frame.put s _ _ (.inr (tallied_pc _ ?_ (by simp [F.PC_CNT_VALUE])))).trans (Frame.when _ _ _ fun _ => Frame.counterWrapped _ n hn fs)
  simp only [F.PC_CNT_VALUE]
  omega

theorem Frame.counterAdd (s : State) (n k : Nat) (hn : n < 256) (fs : List Fld) : Frame s (s.counterAdd n k) fs := by
  unfold State.counterAdd
  refine (Frame.counterPlain s n k hn fs).trans (Frame.when _ _ _ fun h => Frame.counterPlain _ (n + 1) _ ?_ fs)
  have : n % 2 = 0 := by
    simp only [Bool.and_eq_true, beq_iff_eq] at h
    exact h.1
  omega

theorem Frame.countEvent (s : State) (code : Nat) (fs : List Fld) : Frame s (s.countEvent code) fs :=
  Frame.forAll _ _ (fun t n hn => Frame.when t _ _ fun _ => Frame.counterAdd t n 1 (by simpa using hn) fs) s

/-! ## Events -/

theorem Frame.queue (s : State) (q : List JEvent) (n : Nat) (fs : List Fld) : Frame s { s with jl.queue := q, jl.dropPend := n } fs :=
  ⟨fun _ _ _ => rfl, rfl⟩

theorem dropped_tallied : F.JL_STAT_DROPPED.tallied = true := by simp [Fld.tallied]

theorem Frame.raise (s : State) (code src inst arg : Nat) (fs : List Fld) : Frame s (s.raise code src inst arg) fs := by
  unfold State.raise
  have h := Frame.countEvent s code fs
  split
  · exact Frame.refl s fs
  · dsimp only
    split
    · exact h.trans (Frame.queue _ _ _ fs)
    · have hd := Frame.countTallied (fs := fs) (s.countEvent code) F.JL_STAT_DROPPED 1 dropped_tallied
      exact (h.trans hd).trans (Frame.queue _ _ _ fs)

theorem Frame.event (s : State) (f : Fld) (code inst arg : Nat) (h : f.key ∈ fs.map Fld.key) : Frame s (s.event f code inst arg) fs :=
  (Frame.setFlag s f h).trans (Frame.raise _ _ _ _ _ _)

theorem Frame.rates (s : State) (r : List RateEntry) (fs : List Fld) : Frame s { s with rates := r } fs := ⟨fun _ _ _ => rfl, rfl⟩

theorem Frame.eventLimited (s : State) (key : Nat) (f : Fld) (code inst arg : Nat) (h : f.key ∈ fs.map Fld.key) :
    Frame s (s.eventLimited key f code inst arg) fs := by
  unfold State.eventLimited
  dsimp only
  split
  · exact (Frame.rates s _ fs).trans (Frame.event _ f _ _ _ h)
  · exact Frame.rates s _ fs

theorem Frame.accessEvent (s : State) (p : Path) (f : Fld) (code off : Nat) (h : f.key ∈ fs.map Fld.key) :
    Frame s (s.accessEvent p f code off) fs := Frame.eventLimited s _ f _ _ _ h

/-- The end of a command changes the status pins and what it signals, nothing else. -/
theorem Frame.settle (s : State) (fs : List Fld) : Frame s s.settle fs := by
  unfold State.settle
  split
  · exact Frame.refl s fs
  · exact ⟨fun _ _ _ => rfl, rfl⟩
  · exact ⟨fun _ _ _ => rfl, rfl⟩
  · dsimp only [State.when]
    split
    · exact ⟨fun _ _ _ => rfl, rfl⟩
    · exact ⟨fun _ _ _ => rfl, rfl⟩

/-! ## What the end of a command keeps -/

variable (s : State)

@[simp] theorem State.settle_get (f : Fld) : s.settle.get f = s.get f := by
  have h : s.settle.cells = s.cells := by
    unfold State.settle
    split <;> try rfl
    dsimp only [State.when]
    split <;> rfl
  simp [State.get, h]

@[simp] theorem State.settle_getI (f : Fld) : s.settle.getI f = s.getI f := by simp [State.getI]
@[simp] theorem State.settle_on (f : Fld) : s.settle.on f = s.on f := by simp [State.on]

@[simp] theorem State.settle_power : s.settle.power = s.power := by rw [(Frame.settle s []).2]
@[simp] theorem State.settle_pending : s.settle.pending = s.pending := by rw [(Frame.settle s []).2]
@[simp] theorem State.settle_now : s.settle.now = s.now := by rw [(Frame.settle s []).2]
@[simp] theorem State.settle_tick : s.settle.tick = s.tick := by rw [(Frame.settle s []).2]
@[simp] theorem State.settle_free : s.settle.free = s.free := by rw [(Frame.settle s []).2]
@[simp] theorem State.settle_quiet : s.settle.quiet = s.quiet := by rw [(Frame.settle s []).2]
@[simp] theorem State.settle_latches : s.settle.latches = s.latches := by rw [(Frame.settle s []).2]
@[simp] theorem State.settle_firn : s.settle.firn = s.firn := by rw [(Frame.settle s []).2]
@[simp] theorem State.settle_tb : s.settle.tb = s.tb := by rw [(Frame.settle s []).2]
@[simp] theorem State.settle_pm : s.settle.pm = s.pm := by rw [(Frame.settle s []).2]
@[simp] theorem State.settle_rd : s.settle.rd = s.rd := by rw [(Frame.settle s []).2]
@[simp] theorem State.settle_mb : s.settle.mb = s.mb := by rw [(Frame.settle s []).2]
@[simp] theorem State.settle_ie : s.settle.ie = s.ie := by rw [(Frame.settle s []).2]
@[simp] theorem State.settle_tk : s.settle.tk = s.tk := by rw [(Frame.settle s []).2]
@[simp] theorem State.settle_rs : s.settle.rs = s.rs := by rw [(Frame.settle s []).2]
@[simp] theorem State.settle_wire : s.settle.wire = s.wire := by rw [(Frame.settle s []).2]
@[simp] theorem State.settle_pc : s.settle.pc = s.pc := by rw [(Frame.settle s []).2]
@[simp] theorem State.settle_pt : s.settle.pt = s.pt := by rw [(Frame.settle s []).2]
@[simp] theorem State.settle_df : s.settle.df = s.df := by rw [(Frame.settle s []).2]
@[simp] theorem State.settle_gl : s.settle.gl = s.gl := by rw [(Frame.settle s []).2]
@[simp] theorem State.settle_kv : s.settle.kv = s.kv := by rw [(Frame.settle s []).2]
@[simp] theorem State.settle_gn : s.settle.gn = s.gn := by rw [(Frame.settle s []).2]
@[simp] theorem State.settle_os : s.settle.os = s.os := by rw [(Frame.settle s []).2]

@[simp] theorem State.settle_jl : s.settle.jl = s.jl := by
  unfold State.settle
  split <;> try rfl
  dsimp only [State.when]
  split <;> rfl

/-- The end of a command leaves the endpoint as it is, the signals' memory included. -/
@[simp] theorem State.settle_host : s.settle.host = s.host := by
  unfold State.settle
  split <;> try rfl
  dsimp only [State.when]
  split <;> rfl

/-- After a command in any state but Névé the pins show their conditions. -/
theorem State.settle_pinsTrue (h : s.power = .run) : s.settle.pinsTrue := by
  have hp : s.settle.power = .run := by simp [h]
  unfold State.pinsTrue
  rw [hp]
  have ha : s.settle.pins = { alarm := s.alarmDue, degrade := s.degradeDue, tamper := s.on F.TP_STAT_LATCH, wake := s.pins.wake } := by
    unfold State.settle
    rw [h]
    dsimp only [State.when]
    split <;> rfl
  simp only [ha]
  refine ⟨?_, ?_, ?_⟩
  · simp [State.alarmDue]
  · simp [State.degradeDue, State.outputBad]
  · simp

end Sys2Proof.Machine
end

