-- ==== Sys2Proof/Laws/Events.lean ====
section
/-! SUPPORT. What a raised event, a flag and a limited signal leave alone, field by field, and what an event does to its flag and to the journal. -/
namespace Sys2Proof.Machine

variable (s : State)

@[simp] theorem State.signalLimited_pending (fn vec : Nat) : (s.signalLimited fn vec).pending = s.pending := by rw [(Frame.signalLimited s fn vec []).2]
@[simp] theorem State.signalLimited_latches (fn vec : Nat) : (s.signalLimited fn vec).latches = s.latches := by rw [(Frame.signalLimited s fn vec []).2]
@[simp] theorem State.signalLimited_now (fn vec : Nat) : (s.signalLimited fn vec).now = s.now := by rw [(Frame.signalLimited s fn vec []).2]
@[simp] theorem State.signalLimited_tick (fn vec : Nat) : (s.signalLimited fn vec).tick = s.tick := by rw [(Frame.signalLimited s fn vec []).2]
@[simp] theorem State.signalLimited_past (fn vec : Nat) : (s.signalLimited fn vec).past = s.past := by rw [(Frame.signalLimited s fn vec []).2]
@[simp] theorem State.signalLimited_power (fn vec : Nat) : (s.signalLimited fn vec).power = s.power := by rw [(Frame.signalLimited s fn vec []).2]
@[simp] theorem State.signalLimited_quiet (fn vec : Nat) : (s.signalLimited fn vec).quiet = s.quiet := by rw [(Frame.signalLimited s fn vec []).2]
@[simp] theorem State.signalLimited_free (fn vec : Nat) : (s.signalLimited fn vec).free = s.free := by rw [(Frame.signalLimited s fn vec []).2]
@[simp] theorem State.signalLimited_firn (fn vec : Nat) : (s.signalLimited fn vec).firn = s.firn := by rw [(Frame.signalLimited s fn vec []).2]
@[simp] theorem State.signalLimited_tb (fn vec : Nat) : (s.signalLimited fn vec).tb = s.tb := by rw [(Frame.signalLimited s fn vec []).2]
@[simp] theorem State.signalLimited_pm (fn vec : Nat) : (s.signalLimited fn vec).pm = s.pm := by rw [(Frame.signalLimited s fn vec []).2]
@[simp] theorem State.signalLimited_rd (fn vec : Nat) : (s.signalLimited fn vec).rd = s.rd := by rw [(Frame.signalLimited s fn vec []).2]
@[simp] theorem State.signalLimited_mb (fn vec : Nat) : (s.signalLimited fn vec).mb = s.mb := by rw [(Frame.signalLimited s fn vec []).2]
@[simp] theorem State.signalLimited_ie (fn vec : Nat) : (s.signalLimited fn vec).ie = s.ie := by rw [(Frame.signalLimited s fn vec []).2]
@[simp] theorem State.signalLimited_tk (fn vec : Nat) : (s.signalLimited fn vec).tk = s.tk := by rw [(Frame.signalLimited s fn vec []).2]
@[simp] theorem State.signalLimited_rs (fn vec : Nat) : (s.signalLimited fn vec).rs = s.rs := by rw [(Frame.signalLimited s fn vec []).2]
@[simp] theorem State.signalLimited_wire (fn vec : Nat) : (s.signalLimited fn vec).wire = s.wire := by rw [(Frame.signalLimited s fn vec []).2]
@[simp] theorem State.signalLimited_pc (fn vec : Nat) : (s.signalLimited fn vec).pc = s.pc := by rw [(Frame.signalLimited s fn vec []).2]
@[simp] theorem State.signalLimited_pt (fn vec : Nat) : (s.signalLimited fn vec).pt = s.pt := by rw [(Frame.signalLimited s fn vec []).2]
@[simp] theorem State.signalLimited_df (fn vec : Nat) : (s.signalLimited fn vec).df = s.df := by rw [(Frame.signalLimited s fn vec []).2]
@[simp] theorem State.signalLimited_gl (fn vec : Nat) : (s.signalLimited fn vec).gl = s.gl := by rw [(Frame.signalLimited s fn vec []).2]
@[simp] theorem State.signalLimited_kv (fn vec : Nat) : (s.signalLimited fn vec).kv = s.kv := by rw [(Frame.signalLimited s fn vec []).2]
@[simp] theorem State.signalLimited_gn (fn vec : Nat) : (s.signalLimited fn vec).gn = s.gn := by rw [(Frame.signalLimited s fn vec []).2]
@[simp] theorem State.signalLimited_os (fn vec : Nat) : (s.signalLimited fn vec).os = s.os := by rw [(Frame.signalLimited s fn vec []).2]

@[simp] theorem State.setFlag_pending (f : Fld) : (s.setFlag f).pending = s.pending := by rw [(Frame.setFlag (fs := [f]) s f (by simp)).2]
@[simp] theorem State.setFlag_latches (f : Fld) : (s.setFlag f).latches = s.latches := by rw [(Frame.setFlag (fs := [f]) s f (by simp)).2]
@[simp] theorem State.setFlag_now (f : Fld) : (s.setFlag f).now = s.now := by rw [(Frame.setFlag (fs := [f]) s f (by simp)).2]
@[simp] theorem State.setFlag_tick (f : Fld) : (s.setFlag f).tick = s.tick := by rw [(Frame.setFlag (fs := [f]) s f (by simp)).2]
@[simp] theorem State.setFlag_past (f : Fld) : (s.setFlag f).past = s.past := by rw [(Frame.setFlag (fs := [f]) s f (by simp)).2]
@[simp] theorem State.setFlag_power (f : Fld) : (s.setFlag f).power = s.power := by rw [(Frame.setFlag (fs := [f]) s f (by simp)).2]
@[simp] theorem State.setFlag_quiet (f : Fld) : (s.setFlag f).quiet = s.quiet := by rw [(Frame.setFlag (fs := [f]) s f (by simp)).2]
@[simp] theorem State.setFlag_free (f : Fld) : (s.setFlag f).free = s.free := by rw [(Frame.setFlag (fs := [f]) s f (by simp)).2]
@[simp] theorem State.setFlag_firn (f : Fld) : (s.setFlag f).firn = s.firn := by rw [(Frame.setFlag (fs := [f]) s f (by simp)).2]
@[simp] theorem State.setFlag_tb (f : Fld) : (s.setFlag f).tb = s.tb := by rw [(Frame.setFlag (fs := [f]) s f (by simp)).2]
@[simp] theorem State.setFlag_pm (f : Fld) : (s.setFlag f).pm = s.pm := by rw [(Frame.setFlag (fs := [f]) s f (by simp)).2]
@[simp] theorem State.setFlag_rd (f : Fld) : (s.setFlag f).rd = s.rd := by rw [(Frame.setFlag (fs := [f]) s f (by simp)).2]
@[simp] theorem State.setFlag_mb (f : Fld) : (s.setFlag f).mb = s.mb := by rw [(Frame.setFlag (fs := [f]) s f (by simp)).2]
@[simp] theorem State.setFlag_ie (f : Fld) : (s.setFlag f).ie = s.ie := by rw [(Frame.setFlag (fs := [f]) s f (by simp)).2]
@[simp] theorem State.setFlag_tk (f : Fld) : (s.setFlag f).tk = s.tk := by rw [(Frame.setFlag (fs := [f]) s f (by simp)).2]
@[simp] theorem State.setFlag_rs (f : Fld) : (s.setFlag f).rs = s.rs := by rw [(Frame.setFlag (fs := [f]) s f (by simp)).2]
@[simp] theorem State.setFlag_wire (f : Fld) : (s.setFlag f).wire = s.wire := by rw [(Frame.setFlag (fs := [f]) s f (by simp)).2]
@[simp] theorem State.setFlag_pc (f : Fld) : (s.setFlag f).pc = s.pc := by rw [(Frame.setFlag (fs := [f]) s f (by simp)).2]
@[simp] theorem State.setFlag_pt (f : Fld) : (s.setFlag f).pt = s.pt := by rw [(Frame.setFlag (fs := [f]) s f (by simp)).2]
@[simp] theorem State.setFlag_df (f : Fld) : (s.setFlag f).df = s.df := by rw [(Frame.setFlag (fs := [f]) s f (by simp)).2]
@[simp] theorem State.setFlag_gl (f : Fld) : (s.setFlag f).gl = s.gl := by rw [(Frame.setFlag (fs := [f]) s f (by simp)).2]
@[simp] theorem State.setFlag_kv (f : Fld) : (s.setFlag f).kv = s.kv := by rw [(Frame.setFlag (fs := [f]) s f (by simp)).2]
@[simp] theorem State.setFlag_gn (f : Fld) : (s.setFlag f).gn = s.gn := by rw [(Frame.setFlag (fs := [f]) s f (by simp)).2]
@[simp] theorem State.setFlag_os (f : Fld) : (s.setFlag f).os = s.os := by rw [(Frame.setFlag (fs := [f]) s f (by simp)).2]

@[simp] theorem State.countEvent_pending (code : Nat) : (s.countEvent code).pending = s.pending := by rw [(Frame.countEvent s code []).2]
@[simp] theorem State.countEvent_latches (code : Nat) : (s.countEvent code).latches = s.latches := by rw [(Frame.countEvent s code []).2]
@[simp] theorem State.countEvent_now (code : Nat) : (s.countEvent code).now = s.now := by rw [(Frame.countEvent s code []).2]
@[simp] theorem State.countEvent_tick (code : Nat) : (s.countEvent code).tick = s.tick := by rw [(Frame.countEvent s code []).2]
@[simp] theorem State.countEvent_past (code : Nat) : (s.countEvent code).past = s.past := by rw [(Frame.countEvent s code []).2]
@[simp] theorem State.countEvent_power (code : Nat) : (s.countEvent code).power = s.power := by rw [(Frame.countEvent s code []).2]
@[simp] theorem State.countEvent_quiet (code : Nat) : (s.countEvent code).quiet = s.quiet := by rw [(Frame.countEvent s code []).2]
@[simp] theorem State.countEvent_free (code : Nat) : (s.countEvent code).free = s.free := by rw [(Frame.countEvent s code []).2]
@[simp] theorem State.countEvent_firn (code : Nat) : (s.countEvent code).firn = s.firn := by rw [(Frame.countEvent s code []).2]
@[simp] theorem State.countEvent_tb (code : Nat) : (s.countEvent code).tb = s.tb := by rw [(Frame.countEvent s code []).2]
@[simp] theorem State.countEvent_pm (code : Nat) : (s.countEvent code).pm = s.pm := by rw [(Frame.countEvent s code []).2]
@[simp] theorem State.countEvent_rd (code : Nat) : (s.countEvent code).rd = s.rd := by rw [(Frame.countEvent s code []).2]
@[simp] theorem State.countEvent_mb (code : Nat) : (s.countEvent code).mb = s.mb := by rw [(Frame.countEvent s code []).2]
@[simp] theorem State.countEvent_ie (code : Nat) : (s.countEvent code).ie = s.ie := by rw [(Frame.countEvent s code []).2]
@[simp] theorem State.countEvent_tk (code : Nat) : (s.countEvent code).tk = s.tk := by rw [(Frame.countEvent s code []).2]
@[simp] theorem State.countEvent_rs (code : Nat) : (s.countEvent code).rs = s.rs := by rw [(Frame.countEvent s code []).2]
@[simp] theorem State.countEvent_wire (code : Nat) : (s.countEvent code).wire = s.wire := by rw [(Frame.countEvent s code []).2]
@[simp] theorem State.countEvent_pc (code : Nat) : (s.countEvent code).pc = s.pc := by rw [(Frame.countEvent s code []).2]
@[simp] theorem State.countEvent_pt (code : Nat) : (s.countEvent code).pt = s.pt := by rw [(Frame.countEvent s code []).2]
@[simp] theorem State.countEvent_df (code : Nat) : (s.countEvent code).df = s.df := by rw [(Frame.countEvent s code []).2]
@[simp] theorem State.countEvent_gl (code : Nat) : (s.countEvent code).gl = s.gl := by rw [(Frame.countEvent s code []).2]
@[simp] theorem State.countEvent_kv (code : Nat) : (s.countEvent code).kv = s.kv := by rw [(Frame.countEvent s code []).2]
@[simp] theorem State.countEvent_gn (code : Nat) : (s.countEvent code).gn = s.gn := by rw [(Frame.countEvent s code []).2]
@[simp] theorem State.countEvent_os (code : Nat) : (s.countEvent code).os = s.os := by rw [(Frame.countEvent s code []).2]

@[simp] theorem State.raise_pending (code src inst arg : Nat) : (s.raise code src inst arg).pending = s.pending := by rw [(Frame.raise s code src inst arg []).2]
@[simp] theorem State.raise_latches (code src inst arg : Nat) : (s.raise code src inst arg).latches = s.latches := by rw [(Frame.raise s code src inst arg []).2]
@[simp] theorem State.raise_now (code src inst arg : Nat) : (s.raise code src inst arg).now = s.now := by rw [(Frame.raise s code src inst arg []).2]
@[simp] theorem State.raise_tick (code src inst arg : Nat) : (s.raise code src inst arg).tick = s.tick := by rw [(Frame.raise s code src inst arg []).2]
@[simp] theorem State.raise_past (code src inst arg : Nat) : (s.raise code src inst arg).past = s.past := by rw [(Frame.raise s code src inst arg []).2]
@[simp] theorem State.raise_power (code src inst arg : Nat) : (s.raise code src inst arg).power = s.power := by rw [(Frame.raise s code src inst arg []).2]
@[simp] theorem State.raise_quiet (code src inst arg : Nat) : (s.raise code src inst arg).quiet = s.quiet := by rw [(Frame.raise s code src inst arg []).2]
@[simp] theorem State.raise_free (code src inst arg : Nat) : (s.raise code src inst arg).free = s.free := by rw [(Frame.raise s code src inst arg []).2]
@[simp] theorem State.raise_firn (code src inst arg : Nat) : (s.raise code src inst arg).firn = s.firn := by rw [(Frame.raise s code src inst arg []).2]
@[simp] theorem State.raise_tb (code src inst arg : Nat) : (s.raise code src inst arg).tb = s.tb := by rw [(Frame.raise s code src inst arg []).2]
@[simp] theorem State.raise_pm (code src inst arg : Nat) : (s.raise code src inst arg).pm = s.pm := by rw [(Frame.raise s code src inst arg []).2]
@[simp] theorem State.raise_rd (code src inst arg : Nat) : (s.raise code src inst arg).rd = s.rd := by rw [(Frame.raise s code src inst arg []).2]
@[simp] theorem State.raise_mb (code src inst arg : Nat) : (s.raise code src inst arg).mb = s.mb := by rw [(Frame.raise s code src inst arg []).2]
@[simp] theorem State.raise_ie (code src inst arg : Nat) : (s.raise code src inst arg).ie = s.ie := by rw [(Frame.raise s code src inst arg []).2]
@[simp] theorem State.raise_tk (code src inst arg : Nat) : (s.raise code src inst arg).tk = s.tk := by rw [(Frame.raise s code src inst arg []).2]
@[simp] theorem State.raise_rs (code src inst arg : Nat) : (s.raise code src inst arg).rs = s.rs := by rw [(Frame.raise s code src inst arg []).2]
@[simp] theorem State.raise_wire (code src inst arg : Nat) : (s.raise code src inst arg).wire = s.wire := by rw [(Frame.raise s code src inst arg []).2]
@[simp] theorem State.raise_pc (code src inst arg : Nat) : (s.raise code src inst arg).pc = s.pc := by rw [(Frame.raise s code src inst arg []).2]
@[simp] theorem State.raise_pt (code src inst arg : Nat) : (s.raise code src inst arg).pt = s.pt := by rw [(Frame.raise s code src inst arg []).2]
@[simp] theorem State.raise_df (code src inst arg : Nat) : (s.raise code src inst arg).df = s.df := by rw [(Frame.raise s code src inst arg []).2]
@[simp] theorem State.raise_gl (code src inst arg : Nat) : (s.raise code src inst arg).gl = s.gl := by rw [(Frame.raise s code src inst arg []).2]
@[simp] theorem State.raise_kv (code src inst arg : Nat) : (s.raise code src inst arg).kv = s.kv := by rw [(Frame.raise s code src inst arg []).2]
@[simp] theorem State.raise_gn (code src inst arg : Nat) : (s.raise code src inst arg).gn = s.gn := by rw [(Frame.raise s code src inst arg []).2]
@[simp] theorem State.raise_os (code src inst arg : Nat) : (s.raise code src inst arg).os = s.os := by rw [(Frame.raise s code src inst arg []).2]

@[simp] theorem State.event_pending (f : Fld) (code inst arg : Nat) : (s.event f code inst arg).pending = s.pending := by rw [(Frame.event (fs := [f]) s f code inst arg (by simp)).2]
@[simp] theorem State.event_latches (f : Fld) (code inst arg : Nat) : (s.event f code inst arg).latches = s.latches := by rw [(Frame.event (fs := [f]) s f code inst arg (by simp)).2]
@[simp] theorem State.event_now (f : Fld) (code inst arg : Nat) : (s.event f code inst arg).now = s.now := by rw [(Frame.event (fs := [f]) s f code inst arg (by simp)).2]
@[simp] theorem State.event_tick (f : Fld) (code inst arg : Nat) : (s.event f code inst arg).tick = s.tick := by rw [(Frame.event (fs := [f]) s f code inst arg (by simp)).2]
@[simp] theorem State.event_past (f : Fld) (code inst arg : Nat) : (s.event f code inst arg).past = s.past := by rw [(Frame.event (fs := [f]) s f code inst arg (by simp)).2]
@[simp] theorem State.event_power (f : Fld) (code inst arg : Nat) : (s.event f code inst arg).power = s.power := by rw [(Frame.event (fs := [f]) s f code inst arg (by simp)).2]
@[simp] theorem State.event_quiet (f : Fld) (code inst arg : Nat) : (s.event f code inst arg).quiet = s.quiet := by rw [(Frame.event (fs := [f]) s f code inst arg (by simp)).2]
@[simp] theorem State.event_free (f : Fld) (code inst arg : Nat) : (s.event f code inst arg).free = s.free := by rw [(Frame.event (fs := [f]) s f code inst arg (by simp)).2]
@[simp] theorem State.event_firn (f : Fld) (code inst arg : Nat) : (s.event f code inst arg).firn = s.firn := by rw [(Frame.event (fs := [f]) s f code inst arg (by simp)).2]
@[simp] theorem State.event_tb (f : Fld) (code inst arg : Nat) : (s.event f code inst arg).tb = s.tb := by rw [(Frame.event (fs := [f]) s f code inst arg (by simp)).2]
@[simp] theorem State.event_pm (f : Fld) (code inst arg : Nat) : (s.event f code inst arg).pm = s.pm := by rw [(Frame.event (fs := [f]) s f code inst arg (by simp)).2]
@[simp] theorem State.event_rd (f : Fld) (code inst arg : Nat) : (s.event f code inst arg).rd = s.rd := by rw [(Frame.event (fs := [f]) s f code inst arg (by simp)).2]
@[simp] theorem State.event_mb (f : Fld) (code inst arg : Nat) : (s.event f code inst arg).mb = s.mb := by rw [(Frame.event (fs := [f]) s f code inst arg (by simp)).2]
@[simp] theorem State.event_ie (f : Fld) (code inst arg : Nat) : (s.event f code inst arg).ie = s.ie := by rw [(Frame.event (fs := [f]) s f code inst arg (by simp)).2]
@[simp] theorem State.event_tk (f : Fld) (code inst arg : Nat) : (s.event f code inst arg).tk = s.tk := by rw [(Frame.event (fs := [f]) s f code inst arg (by simp)).2]
@[simp] theorem State.event_rs (f : Fld) (code inst arg : Nat) : (s.event f code inst arg).rs = s.rs := by rw [(Frame.event (fs := [f]) s f code inst arg (by simp)).2]
@[simp] theorem State.event_wire (f : Fld) (code inst arg : Nat) : (s.event f code inst arg).wire = s.wire := by rw [(Frame.event (fs := [f]) s f code inst arg (by simp)).2]
@[simp] theorem State.event_pc (f : Fld) (code inst arg : Nat) : (s.event f code inst arg).pc = s.pc := by rw [(Frame.event (fs := [f]) s f code inst arg (by simp)).2]
@[simp] theorem State.event_pt (f : Fld) (code inst arg : Nat) : (s.event f code inst arg).pt = s.pt := by rw [(Frame.event (fs := [f]) s f code inst arg (by simp)).2]
@[simp] theorem State.event_df (f : Fld) (code inst arg : Nat) : (s.event f code inst arg).df = s.df := by rw [(Frame.event (fs := [f]) s f code inst arg (by simp)).2]
@[simp] theorem State.event_gl (f : Fld) (code inst arg : Nat) : (s.event f code inst arg).gl = s.gl := by rw [(Frame.event (fs := [f]) s f code inst arg (by simp)).2]
@[simp] theorem State.event_kv (f : Fld) (code inst arg : Nat) : (s.event f code inst arg).kv = s.kv := by rw [(Frame.event (fs := [f]) s f code inst arg (by simp)).2]
@[simp] theorem State.event_gn (f : Fld) (code inst arg : Nat) : (s.event f code inst arg).gn = s.gn := by rw [(Frame.event (fs := [f]) s f code inst arg (by simp)).2]
@[simp] theorem State.event_os (f : Fld) (code inst arg : Nat) : (s.event f code inst arg).os = s.os := by rw [(Frame.event (fs := [f]) s f code inst arg (by simp)).2]

@[simp] theorem State.eventLimited_pending (key : Nat) (f : Fld) (code inst arg : Nat) : (s.eventLimited key f code inst arg).pending = s.pending := by rw [(Frame.eventLimited (fs := [f]) s key f code inst arg (by simp)).2]
@[simp] theorem State.eventLimited_latches (key : Nat) (f : Fld) (code inst arg : Nat) : (s.eventLimited key f code inst arg).latches = s.latches := by rw [(Frame.eventLimited (fs := [f]) s key f code inst arg (by simp)).2]
@[simp] theorem State.eventLimited_now (key : Nat) (f : Fld) (code inst arg : Nat) : (s.eventLimited key f code inst arg).now = s.now := by rw [(Frame.eventLimited (fs := [f]) s key f code inst arg (by simp)).2]
@[simp] theorem State.eventLimited_tick (key : Nat) (f : Fld) (code inst arg : Nat) : (s.eventLimited key f code inst arg).tick = s.tick := by rw [(Frame.eventLimited (fs := [f]) s key f code inst arg (by simp)).2]
@[simp] theorem State.eventLimited_past (key : Nat) (f : Fld) (code inst arg : Nat) : (s.eventLimited key f code inst arg).past = s.past := by rw [(Frame.eventLimited (fs := [f]) s key f code inst arg (by simp)).2]
@[simp] theorem State.eventLimited_power (key : Nat) (f : Fld) (code inst arg : Nat) : (s.eventLimited key f code inst arg).power = s.power := by rw [(Frame.eventLimited (fs := [f]) s key f code inst arg (by simp)).2]
@[simp] theorem State.eventLimited_quiet (key : Nat) (f : Fld) (code inst arg : Nat) : (s.eventLimited key f code inst arg).quiet = s.quiet := by rw [(Frame.eventLimited (fs := [f]) s key f code inst arg (by simp)).2]
@[simp] theorem State.eventLimited_free (key : Nat) (f : Fld) (code inst arg : Nat) : (s.eventLimited key f code inst arg).free = s.free := by rw [(Frame.eventLimited (fs := [f]) s key f code inst arg (by simp)).2]
@[simp] theorem State.eventLimited_firn (key : Nat) (f : Fld) (code inst arg : Nat) : (s.eventLimited key f code inst arg).firn = s.firn := by rw [(Frame.eventLimited (fs := [f]) s key f code inst arg (by simp)).2]
@[simp] theorem State.eventLimited_tb (key : Nat) (f : Fld) (code inst arg : Nat) : (s.eventLimited key f code inst arg).tb = s.tb := by rw [(Frame.eventLimited (fs := [f]) s key f code inst arg (by simp)).2]
@[simp] theorem State.eventLimited_pm (key : Nat) (f : Fld) (code inst arg : Nat) : (s.eventLimited key f code inst arg).pm = s.pm := by rw [(Frame.eventLimited (fs := [f]) s key f code inst arg (by simp)).2]
@[simp] theorem State.eventLimited_rd (key : Nat) (f : Fld) (code inst arg : Nat) : (s.eventLimited key f code inst arg).rd = s.rd := by rw [(Frame.eventLimited (fs := [f]) s key f code inst arg (by simp)).2]
@[simp] theorem State.eventLimited_mb (key : Nat) (f : Fld) (code inst arg : Nat) : (s.eventLimited key f code inst arg).mb = s.mb := by rw [(Frame.eventLimited (fs := [f]) s key f code inst arg (by simp)).2]
@[simp] theorem State.eventLimited_ie (key : Nat) (f : Fld) (code inst arg : Nat) : (s.eventLimited key f code inst arg).ie = s.ie := by rw [(Frame.eventLimited (fs := [f]) s key f code inst arg (by simp)).2]
@[simp] theorem State.eventLimited_tk (key : Nat) (f : Fld) (code inst arg : Nat) : (s.eventLimited key f code inst arg).tk = s.tk := by rw [(Frame.eventLimited (fs := [f]) s key f code inst arg (by simp)).2]
@[simp] theorem State.eventLimited_rs (key : Nat) (f : Fld) (code inst arg : Nat) : (s.eventLimited key f code inst arg).rs = s.rs := by rw [(Frame.eventLimited (fs := [f]) s key f code inst arg (by simp)).2]
@[simp] theorem State.eventLimited_wire (key : Nat) (f : Fld) (code inst arg : Nat) : (s.eventLimited key f code inst arg).wire = s.wire := by rw [(Frame.eventLimited (fs := [f]) s key f code inst arg (by simp)).2]
@[simp] theorem State.eventLimited_pc (key : Nat) (f : Fld) (code inst arg : Nat) : (s.eventLimited key f code inst arg).pc = s.pc := by rw [(Frame.eventLimited (fs := [f]) s key f code inst arg (by simp)).2]
@[simp] theorem State.eventLimited_pt (key : Nat) (f : Fld) (code inst arg : Nat) : (s.eventLimited key f code inst arg).pt = s.pt := by rw [(Frame.eventLimited (fs := [f]) s key f code inst arg (by simp)).2]
@[simp] theorem State.eventLimited_df (key : Nat) (f : Fld) (code inst arg : Nat) : (s.eventLimited key f code inst arg).df = s.df := by rw [(Frame.eventLimited (fs := [f]) s key f code inst arg (by simp)).2]
@[simp] theorem State.eventLimited_gl (key : Nat) (f : Fld) (code inst arg : Nat) : (s.eventLimited key f code inst arg).gl = s.gl := by rw [(Frame.eventLimited (fs := [f]) s key f code inst arg (by simp)).2]
@[simp] theorem State.eventLimited_kv (key : Nat) (f : Fld) (code inst arg : Nat) : (s.eventLimited key f code inst arg).kv = s.kv := by rw [(Frame.eventLimited (fs := [f]) s key f code inst arg (by simp)).2]
@[simp] theorem State.eventLimited_gn (key : Nat) (f : Fld) (code inst arg : Nat) : (s.eventLimited key f code inst arg).gn = s.gn := by rw [(Frame.eventLimited (fs := [f]) s key f code inst arg (by simp)).2]
@[simp] theorem State.eventLimited_os (key : Nat) (f : Fld) (code inst arg : Nat) : (s.eventLimited key f code inst arg).os = s.os := by rw [(Frame.eventLimited (fs := [f]) s key f code inst arg (by simp)).2]

@[simp] theorem State.accessEvent_pending (p : Path) (f : Fld) (code off : Nat) : (s.accessEvent p f code off).pending = s.pending := by rw [(Frame.accessEvent (fs := [f]) s p f code off (by simp)).2]
@[simp] theorem State.accessEvent_latches (p : Path) (f : Fld) (code off : Nat) : (s.accessEvent p f code off).latches = s.latches := by rw [(Frame.accessEvent (fs := [f]) s p f code off (by simp)).2]
@[simp] theorem State.accessEvent_now (p : Path) (f : Fld) (code off : Nat) : (s.accessEvent p f code off).now = s.now := by rw [(Frame.accessEvent (fs := [f]) s p f code off (by simp)).2]
@[simp] theorem State.accessEvent_tick (p : Path) (f : Fld) (code off : Nat) : (s.accessEvent p f code off).tick = s.tick := by rw [(Frame.accessEvent (fs := [f]) s p f code off (by simp)).2]
@[simp] theorem State.accessEvent_past (p : Path) (f : Fld) (code off : Nat) : (s.accessEvent p f code off).past = s.past := by rw [(Frame.accessEvent (fs := [f]) s p f code off (by simp)).2]
@[simp] theorem State.accessEvent_power (p : Path) (f : Fld) (code off : Nat) : (s.accessEvent p f code off).power = s.power := by rw [(Frame.accessEvent (fs := [f]) s p f code off (by simp)).2]
@[simp] theorem State.accessEvent_quiet (p : Path) (f : Fld) (code off : Nat) : (s.accessEvent p f code off).quiet = s.quiet := by rw [(Frame.accessEvent (fs := [f]) s p f code off (by simp)).2]
@[simp] theorem State.accessEvent_free (p : Path) (f : Fld) (code off : Nat) : (s.accessEvent p f code off).free = s.free := by rw [(Frame.accessEvent (fs := [f]) s p f code off (by simp)).2]
@[simp] theorem State.accessEvent_firn (p : Path) (f : Fld) (code off : Nat) : (s.accessEvent p f code off).firn = s.firn := by rw [(Frame.accessEvent (fs := [f]) s p f code off (by simp)).2]
@[simp] theorem State.accessEvent_tb (p : Path) (f : Fld) (code off : Nat) : (s.accessEvent p f code off).tb = s.tb := by rw [(Frame.accessEvent (fs := [f]) s p f code off (by simp)).2]
@[simp] theorem State.accessEvent_pm (p : Path) (f : Fld) (code off : Nat) : (s.accessEvent p f code off).pm = s.pm := by rw [(Frame.accessEvent (fs := [f]) s p f code off (by simp)).2]
@[simp] theorem State.accessEvent_rd (p : Path) (f : Fld) (code off : Nat) : (s.accessEvent p f code off).rd = s.rd := by rw [(Frame.accessEvent (fs := [f]) s p f code off (by simp)).2]
@[simp] theorem State.accessEvent_mb (p : Path) (f : Fld) (code off : Nat) : (s.accessEvent p f code off).mb = s.mb := by rw [(Frame.accessEvent (fs := [f]) s p f code off (by simp)).2]
@[simp] theorem State.accessEvent_ie (p : Path) (f : Fld) (code off : Nat) : (s.accessEvent p f code off).ie = s.ie := by rw [(Frame.accessEvent (fs := [f]) s p f code off (by simp)).2]
@[simp] theorem State.accessEvent_tk (p : Path) (f : Fld) (code off : Nat) : (s.accessEvent p f code off).tk = s.tk := by rw [(Frame.accessEvent (fs := [f]) s p f code off (by simp)).2]
@[simp] theorem State.accessEvent_rs (p : Path) (f : Fld) (code off : Nat) : (s.accessEvent p f code off).rs = s.rs := by rw [(Frame.accessEvent (fs := [f]) s p f code off (by simp)).2]
@[simp] theorem State.accessEvent_wire (p : Path) (f : Fld) (code off : Nat) : (s.accessEvent p f code off).wire = s.wire := by rw [(Frame.accessEvent (fs := [f]) s p f code off (by simp)).2]
@[simp] theorem State.accessEvent_pc (p : Path) (f : Fld) (code off : Nat) : (s.accessEvent p f code off).pc = s.pc := by rw [(Frame.accessEvent (fs := [f]) s p f code off (by simp)).2]
@[simp] theorem State.accessEvent_pt (p : Path) (f : Fld) (code off : Nat) : (s.accessEvent p f code off).pt = s.pt := by rw [(Frame.accessEvent (fs := [f]) s p f code off (by simp)).2]
@[simp] theorem State.accessEvent_df (p : Path) (f : Fld) (code off : Nat) : (s.accessEvent p f code off).df = s.df := by rw [(Frame.accessEvent (fs := [f]) s p f code off (by simp)).2]
@[simp] theorem State.accessEvent_gl (p : Path) (f : Fld) (code off : Nat) : (s.accessEvent p f code off).gl = s.gl := by rw [(Frame.accessEvent (fs := [f]) s p f code off (by simp)).2]
@[simp] theorem State.accessEvent_kv (p : Path) (f : Fld) (code off : Nat) : (s.accessEvent p f code off).kv = s.kv := by rw [(Frame.accessEvent (fs := [f]) s p f code off (by simp)).2]
@[simp] theorem State.accessEvent_gn (p : Path) (f : Fld) (code off : Nat) : (s.accessEvent p f code off).gn = s.gn := by rw [(Frame.accessEvent (fs := [f]) s p f code off (by simp)).2]
@[simp] theorem State.accessEvent_os (p : Path) (f : Fld) (code off : Nat) : (s.accessEvent p f code off).os = s.os := by rw [(Frame.accessEvent (fs := [f]) s p f code off (by simp)).2]

/-! ## Fields after an event -/

@[simp] theorem State.signalLimited_get (fn vec : Nat) (g : Fld) : (s.signalLimited fn vec).get g = s.get g := by
  unfold State.signalLimited
  split <;> rfl

@[simp] theorem State.emit_get (m : OutMsg) (g : Fld) : (s.emit m).get g = s.get g := rfl
@[simp] theorem State.signal_get (fn vec : Nat) (g : Fld) : (s.signal fn vec).get g = s.get g := rfl

theorem State.setFlag_cells (f : Fld) : (s.setFlag f).cells = (s.put f 1).cells := by
  unfold State.setFlag
  dsimp only
  split
  · split
    · unfold State.signalLimited
      split <;> rfl
    · rfl
  · rfl

theorem State.setFlag_get (f g : Fld) : (s.setFlag f).get g = (s.put f 1).get g := by simp [State.get, State.setFlag_cells]

/-- The event's flag reads 1. -/
theorem State.event_flag (f : Fld) (code inst arg : Nat) (hw : 0 < f.width) (ht : f.tallied = false) :
    (s.event f code inst arg).get f = 1 := by
  have h := (Frame.raise (s.setFlag f) code f.window inst arg []).get f (by simp) ht
  unfold State.event
  rw [h, State.setFlag_get, State.get_put_same, Nat.mod_eq_of_lt]
  exact Nat.one_lt_two_pow (by omega)

/-- An event leaves every other field alone but the tallies. -/
theorem State.event_get_other (f g : Fld) (code inst arg : Nat) (h : g.key ≠ f.key) (ht : g.tallied = false) :
    (s.event f code inst arg).get g = s.get g := (Frame.event (fs := [f]) s f code inst arg (by simp)).get g (by simpa using h) ht

/-- A limited event too. -/
theorem State.accessEvent_get_other (p : Path) (f g : Fld) (code off : Nat) (h : g.key ≠ f.key) (ht : g.tallied = false) :
    (s.accessEvent p f code off).get g = s.get g := (Frame.accessEvent (fs := [f]) s p f code off (by simp)).get g (by simpa using h) ht

/-! ## The journal after an event -/

@[simp] theorem State.signalLimited_jl (fn vec : Nat) : (s.signalLimited fn vec).jl = s.jl := by
  unfold State.signalLimited
  split <;> rfl

@[simp] theorem State.setFlag_jl (f : Fld) : (s.setFlag f).jl = s.jl := by
  unfold State.setFlag
  dsimp only
  split
  · split <;> simp
  · rfl

@[simp] theorem State.counterPlain_jl (n k : Nat) : (s.counterPlain n k).jl = s.jl := by
  unfold State.counterPlain State.counterWrapped State.when
  dsimp only
  split
  · split <;> simp
  · rfl

@[simp] theorem State.counterAdd_jl (n k : Nat) : (s.counterAdd n k).jl = s.jl := by
  unfold State.counterAdd State.when
  dsimp only
  split <;> simp

theorem State.forAll_jl {α : Type} (l : List α) (f : State → α → State) (h : ∀ t x, (f t x).jl = t.jl) (s : State) :
    (s.forAll l f).jl = s.jl := by
  induction l generalizing s with
  | nil => rfl
  | cons x l ih => exact (ih (f s x)).trans (h s x)

@[simp] theorem State.countEvent_jl (code : Nat) : (s.countEvent code).jl = s.jl := by
  refine State.forAll_jl _ _ (fun t n => ?_) s
  unfold State.when
  split <;> simp

/-- A raised event waits in the journal queue, where events are kept and the queue has room (R394). -/
theorem State.raise_queue (code src inst arg : Nat) (hq : s.quiet = false) (hr : s.jl.queue.length < 1024) :
    (s.raise code src inst arg).jl.queue = s.jl.queue ++ [⟨code, src, inst, arg % 2 ^ 64⟩] := by
  simp [State.raise, hq, hr]

theorem State.event_logs (f : Fld) (code inst arg : Nat) : Logs s (s.event f code inst arg) code f.window inst arg := by
  intro hq hr
  have := State.raise_queue (s.setFlag f) code f.window inst arg (by simpa using hq) (by simpa using hr)
  simpa [State.event] using this

/-- The queue never holds more than 1,024 entries through an event (R394). -/
theorem State.raise_length (code src inst arg : Nat) (h : s.jl.queue.length ≤ 1024) :
    (s.raise code src inst arg).jl.queue.length ≤ 1024 := by
  unfold State.raise
  split
  · exact h
  · dsimp only
    split
    · next hl => simp at hl ⊢; omega
    · simpa [State.count, State.putSat] using h

/-! ## The end of a command -/

/-- A meaning in the Run state completes. -/
theorem running_run (f : State → State) (h : s.power = .run) : running s f = .next (f s).settle := by simp [running, h]

/-- Outside the Run state it has no effect. -/
theorem running_off (f : State → State) (h : s.power ≠ .run) : running s f = .next s := by simp [running, h]

theorem State.when_true (f : State → State) : s.when true f = f s := rfl
theorem State.when_false (f : State → State) : s.when false f = s := rfl

/-- A write that its path serves. -/
theorem State.hostWrite_served (p : Path) (off : Nat) (f : State → State) (h : s.judge p off true = .served) : s.hostWrite p off f = f s := by
  simp [State.hostWrite, h]

/-- A read that its path serves. -/
theorem State.hostRead_served (p : Path) (off : Nat) (f : State → State) (h : s.judge p off false = .served) : s.hostRead p off f = f s := by
  simp [State.hostRead, h]

end Sys2Proof.Machine
end

