-- ==== Sys2Proof/Laws/Keeps.lean ====
section
/-! SUPPORT. The field frame of the shared operations, for meanings that also change hidden state. -/
namespace Sys2Proof.Machine

variable {s t u : State} {fs gs : List Fld}

theorem Keeps.refl (s : State) (fs : List Fld) : Keeps s s fs := fun _ _ _ => rfl
theorem Keeps.trans (h : Keeps s t fs) (g : Keeps t u fs) : Keeps s u fs := fun f hf ht => (g f hf ht).trans (h f hf ht)
theorem Keeps.mono (h : Keeps s t fs) (sub : ∀ k ∈ fs.map Fld.key, k ∈ gs.map Fld.key) : Keeps s t gs :=
  fun f hf ht => h f (fun e => hf (sub _ e)) ht
theorem Keeps.get (h : Keeps s t fs) (f : Fld) (hf : f.key ∉ fs.map Fld.key) (ht : f.tallied = false) : t.get f = s.get f := h f hf ht
theorem Frame.keeps (h : Frame s t fs) : Keeps s t fs := h.1

/-- Equal cells hold equal fields. -/
theorem Keeps.ofCells (h : t.cells = s.cells) : Keeps s t fs := fun f _ _ => by simp [State.get, h]

/-- An update after another that keeps the fields. -/
theorem Keeps.next (h : Keeps s t fs) (g : u.cells = t.cells) : Keeps s u fs := h.trans (Keeps.ofCells g)

theorem Keeps.put (h : Keeps s t fs) (f : Fld) (v : Nat) (hf : f.key ∈ fs.map Fld.key) : Keeps s (t.put f v) fs :=
  h.trans (Frame.put t f v (.inl hf)).1
theorem Keeps.putB (h : Keeps s t fs) (f : Fld) (b : Bool) (hf : f.key ∈ fs.map Fld.key) : Keeps s (t.putB f b) fs := h.put f _ hf
theorem Keeps.putI (h : Keeps s t fs) (f : Fld) (v : Int) (hf : f.key ∈ fs.map Fld.key) : Keeps s (t.putI f v) fs := h.put f _ hf
theorem Keeps.putSat (h : Keeps s t fs) (f : Fld) (v : Nat) (hf : f.key ∈ fs.map Fld.key) : Keeps s (t.putSat f v) fs := h.put f _ hf
theorem Keeps.count (h : Keeps s t fs) (f : Fld) (v : Nat) (hf : f.key ∈ fs.map Fld.key) : Keeps s (t.count f v) fs := h.put f _ hf
theorem Keeps.clear (h : Keeps s t fs) (f : Fld) (hf : f.key ∈ fs.map Fld.key) : Keeps s (t.clear f) fs := h.put f _ hf
theorem Keeps.event (h : Keeps s t fs) (f : Fld) (code inst arg : Nat) (hf : f.key ∈ fs.map Fld.key) :
    Keeps s (t.event f code inst arg) fs := h.trans (Frame.event t f code inst arg hf).1
theorem Keeps.accessEvent (h : Keeps s t fs) (p : Path) (f : Fld) (code off : Nat) (hf : f.key ∈ fs.map Fld.key) :
    Keeps s (t.accessEvent p f code off) fs := h.trans (Frame.accessEvent t p f code off hf).1
theorem Keeps.raise (h : Keeps s t fs) (code src inst arg : Nat) : Keeps s (t.raise code src inst arg) fs :=
  h.trans (Frame.raise t code src inst arg fs).1
theorem Keeps.settle (h : Keeps s t fs) : Keeps s t.settle fs := h.trans (Frame.settle t fs).1
theorem Keeps.signal (h : Keeps s t fs) (fn vec : Nat) : Keeps s (t.signal fn vec) fs := h
theorem Keeps.signalLimited (h : Keeps s t fs) (fn vec : Nat) : Keeps s (t.signalLimited fn vec) fs := h.trans (Frame.signalLimited t fn vec fs).1
theorem Keeps.emit (h : Keeps s t fs) (m : OutMsg) : Keeps s (t.emit m) fs := h

theorem Keeps.when (h : Keeps s t fs) (b : Bool) (f : State → State) (g : b = true → Keeps t (f t) fs) : Keeps s (t.when b f) fs := by
  cases b
  · exact h
  · exact h.trans (g rfl)

theorem Keeps.ite {p : Prop} [Decidable p] (h : p → Keeps s t fs) (g : ¬p → Keeps s u fs) : Keeps s (if p then t else u) fs := by
  split
  · next hp => exact h hp
  · next hp => exact g hp

theorem Keeps.forAll {α : Type} (h : Keeps s t fs) (l : List α) (f : State → α → State) (g : ∀ t x, x ∈ l → Keeps t (f t x) fs) :
    Keeps s (t.forAll l f) fs := by
  refine h.trans ?_
  clear h
  induction l generalizing t with
  | nil => exact Keeps.refl t fs
  | cons x l ih => exact (g t x (by simp)).trans (ih (fun t y hy => g t y (by simp [hy])))

end Sys2Proof.Machine
end

