-- ==== Sys2Proof/Laws/Shape.lean ====
section
/-! SUPPORT. Every command but SAMPLE_TICK is one of two shapes: it acts in the Run state alone, or in every state; both end with the pins. -/
namespace Sys2Proof.Machine

/-- Every command is an effect in the Run state, an effect in any state, or a sample tick. -/
theorem exec_shape (c : Instr) (s : State) :
    (∃ f, exec c s = running s f) ∨ (∃ f, exec c s = always s f) ∨ ∃ n rtc, c = .sampleTick n rtc := by
  cases c
  case sampleTick n rtc => exact .inr (.inr ⟨n, rtc, rfl⟩)
  all_goals unfold exec; first | exact .inl ⟨_, rfl⟩ | exact .inr (.inl ⟨_, rfl⟩)

/-- Every command completes. -/
theorem exec_next (c : Instr) (s : State) : ∃ t, exec c s = .next t := by
  obtain ⟨f, h⟩ | ⟨f, h⟩ | ⟨n, rtc, rfl⟩ := exec_shape c s
  · exact ⟨_, h⟩
  · exact ⟨_, h⟩
  · exact ⟨_, rfl⟩

/-- A command that is not of power, wake or passing time acts in the Run state alone. -/
theorem exec_running (c : Instr) (s : State) (h : actsOutsideRun c = false) : ∃ f, exec c s = running s f := by
  cases c
  case sampleTick => cases h
  all_goals unfold exec; first | exact ⟨_, rfl⟩ | cases h

/-- A command ends with the status pins at their conditions. -/
theorem settle_pinsTrue (s : State) : s.settle.pinsTrue := by
  unfold State.settle
  split
  · rename_i h; simp [State.pinsTrue, h]
  · rename_i h; simp [State.pinsTrue, h]
  · rename_i h; simp only [State.pinsTrue, h]; rfl
  · rename_i h
    simp only [State.when]
    split <;> (simp only [State.signal, State.emit, State.pinsTrue, h]; exact ⟨rfl, rfl, rfl⟩)

end Sys2Proof.Machine
end

