-- ==== Sys2Proof/Laws/Timebase.lean ====
section
/-! SUPPORT. What losing or gaining a tick source may change. -/
namespace Sys2Proof.Machine

variable {s t : State}

/-- Fields that a failure, an abort or a forced migration writes. -/
def sourceFields : List Fld :=
  [F.TB_STAT_MIG, F.TB_STAT_TMA_LOCK, F.TB_STAT_TMB_LOCK, F.TB_STAT_COAST, F.TB_EVT_COAST, F.TB_EVT_SRC_FAIL, F.TB_EVT_MIG_ABORT]

theorem shadowLock_mem (s : State) : s.shadowLock.key ∈ sourceFields.map Fld.key := by
  unfold State.shadowLock
  split <;> simp [sourceFields]

/-- What follows a failed or gained source: only its fields, and hidden state of the timebase other than the monitor's and warm-up's. -/
def SourceStep (s t : State) : Prop :=
  Keeps s t sourceFields ∧ t.tb.passes = s.tb.passes ∧ t.tb.running = s.tb.running ∧ t.tb.warmTimer = s.tb.warmTimer ∧
    t.tb.warmPin = s.tb.warmPin ∧ t.tb.therm = s.tb.therm

theorem SourceStep.refl (s : State) : SourceStep s s := ⟨Keeps.refl s _, rfl, rfl, rfl, rfl, rfl⟩
theorem SourceStep.trans {u : State} (h : SourceStep s t) (g : SourceStep t u) : SourceStep s u :=
  ⟨h.1.trans g.1, g.2.1.trans h.2.1, g.2.2.1.trans h.2.2.1, g.2.2.2.1.trans h.2.2.2.1, g.2.2.2.2.1.trans h.2.2.2.2.1,
    g.2.2.2.2.2.trans h.2.2.2.2.2⟩

/-- Queueing calibrations again changes neither registers nor the timebase. -/
theorem forAll_queueCal (l : List Nat) (s : State) : (s.forAll l State.queueCal).cells = s.cells ∧ (s.forAll l State.queueCal).tb = s.tb := by
  induction l generalizing s with
  | nil => exact ⟨rfl, rfl⟩
  | cons n l ih =>
    have h : (s.queueCal n).cells = s.cells ∧ (s.queueCal n).tb = s.tb := by
      unfold State.queueCal
      split <;> exact ⟨rfl, rfl⟩
    exact ⟨(ih (s.queueCal n)).1.trans h.1, (ih (s.queueCal n)).2.trans h.2⟩

theorem retryCals_step (s : State) : s.retryCals.cells = s.cells ∧ s.retryCals.tb = s.tb := by
  unfold State.retryCals
  split
  · exact ⟨rfl, rfl⟩
  · exact forAll_queueCal _ _

theorem sourceStep_startMigration (s : State) (tgt : Source) (forced : Bool) : SourceStep s (s.startMigration tgt forced) := by
  refine ⟨?_, rfl, rfl, rfl, rfl, rfl⟩
  unfold State.startMigration
  exact (((Keeps.refl s _).put F.TB_STAT_MIG 1 (by simp [sourceFields])).put _ 0 (shadowLock_mem s)).next rfl

theorem sourceStep_afterFail (s : State) (ex : Option Source) : SourceStep s (s.afterSourceFail ex) := by
  unfold State.afterSourceFail
  split
  · next tgt _ _ =>
    have h := sourceStep_startMigration s tgt true
    exact ⟨h.1.next rfl, h.2⟩
  · refine ⟨?_, by simp, by simp, by simp, by simp, by simp⟩
    exact ((Keeps.refl s _).put F.TB_STAT_COAST 1 (by simp [sourceFields])).event F.TB_EVT_COAST _ _ _ (by simp [sourceFields])

theorem sourceStep_failed (t : State) (ex : Option Source) (h : SourceStep s t) :
    SourceStep s (if t.migrating then { t with tb.forced := true, mb.owed := t.mb.owed ++ [.migration] } else t.afterSourceFail ex) := by
  split
  · exact h.trans ⟨(Keeps.refl t _).next rfl, rfl, rfl, rfl, rfl, rfl⟩
  · exact h.trans (sourceStep_afterFail t ex)

theorem sourceStep_activeFail (s : State) (ex : Option Source) : SourceStep s (s.activeSourceFail ex) := by
  have he : Keeps s (s.event F.TB_EVT_SRC_FAIL 0x0201 0 0) sourceFields :=
    (Keeps.refl s _).event F.TB_EVT_SRC_FAIL _ _ _ (by simp [sourceFields])
  exact sourceStep_failed _ ex ⟨he.next rfl, by simp, by simp, by simp, by simp, by simp⟩

theorem sourceStep_when (s : State) (b : Bool) (f : State → State) (h : SourceStep s (f s)) : SourceStep s (s.when b f) := by
  cases b
  · exact SourceStep.refl s
  · exact h

theorem sourceStep_owed (s : State) : SourceStep s s.startOwed := by
  unfold State.startOwed
  exact sourceStep_when s _ _ (sourceStep_startMigration s _ false)

theorem sourceStep_abort (s : State) : SourceStep s s.abortMigration := by
  have he : Keeps s (((s.put F.TB_STAT_MIG 0).put s.shadowLock 0).event F.TB_EVT_MIG_ABORT 0x0203 0 0) sourceFields :=
    (((Keeps.refl s _).put F.TB_STAT_MIG 0 (by simp [sourceFields])).put _ 0 (shadowLock_mem s)).event F.TB_EVT_MIG_ABORT _ _ _
      (by simp [sourceFields])
  unfold State.abortMigration
  simp only
  generalize hu : ({ ((s.put F.TB_STAT_MIG 0).put s.shadowLock 0).event F.TB_EVT_MIG_ABORT 0x0203 0 0 with
    tb.migStep := 0, tb.forced := false } : State) = u
  have h : SourceStep s u := by
    subst hu
    exact ⟨he.next rfl, by simp, by simp, by simp, by simp, by simp⟩
  have hr : SourceStep s u.retryCals := by
    obtain ⟨hc, ht⟩ := retryCals_step u
    exact ⟨h.1.next hc, by rw [ht]; exact h.2.1, by rw [ht]; exact h.2.2.1, by rw [ht]; exact h.2.2.2.1, by rw [ht]; exact h.2.2.2.2.1,
      by rw [ht]; exact h.2.2.2.2.2⟩
  split
  · exact hr.trans (sourceStep_activeFail _ _)
  · exact hr.trans (sourceStep_owed _)

theorem sourceStep_lost (s : State) (src : Source) : SourceStep s (s.sourceLost src) := by
  unfold State.sourceLost
  exact (sourceStep_when s _ _ (sourceStep_activeFail s none)).trans (sourceStep_when _ _ _ (sourceStep_abort _))

theorem sourceStep_begin (s : State) (src : Source) : SourceStep s (s.beginMigration src) := by
  unfold State.beginMigration
  split
  · have h := sourceStep_startMigration s src true
    exact ⟨h.1.next rfl, h.2⟩
  · exact sourceStep_startMigration s src false

theorem sourceStep_gained (s : State) (src : Source) : SourceStep s (s.sourceGained src) := by
  unfold State.sourceGained
  split
  · exact sourceStep_when s _ _ (sourceStep_begin s src)
  · exact sourceStep_owed s

theorem sourceStep_forAll {α : Type} (l : List α) (f : State → α → State) (h : ∀ t x, SourceStep t (f t x)) (s : State) :
    SourceStep s (s.forAll l f) := by
  induction l generalizing s with
  | nil => exact SourceStep.refl s
  | cons x l ih => exact (h s x).trans (ih (f s x))

end Sys2Proof.Machine
end

