-- ==== Sys2Proof/Tests/Slice0.lean ====
section
/-! SUPPORT. The model's own tests: witnesses of the hypotheses of the statements, ill-formed commands that the check refuses, and worked
examples of the spec. -/
set_option Elab.async false
namespace Sys2Proof.Machine

/-- A state with some fields set. -/
def also (s : State) (l : List (Fld × Nat)) : State := l.foldl (fun s e => s.put e.1 e.2) s

/-- The reset state with some fields set. -/
def st (l : List (Fld × Nat)) : State := also State.reset l

/-! ## Worked examples of the spec -/

/-- §02, after R35: Δ and the UTC count about the end of 2016. -/
def leap2016 : State := State.reset.putLeaps [⟨1435708835, 36, 0⟩, ⟨1483228836, 37, 0⟩]
theorem test_leapDelta : leap2016.delta 1483228835 = some 36 ∧ leap2016.delta 1483228836 = some 37 := by decide +kernel

/-- §02, after R37: era 1, seconds 0x03D0_E3DB, fraction 530,242,871. -/
theorem test_ntpEra : ntpStamp (timeOf 2150000000 (123456789 * 2 ^ 32)) (37 * tuSec, 1) = 0x03D0E3DB * 2 ^ 32 + 530242871 := by decide +kernel

/-- §02, after R38: GPS week 352 of 10 bits is week 2,400. -/
def week2399 : State := { st [(F.TK_STAT_TIME_SET 0, 1)] with now := timeOf (2399 * 604800 + 315964819) 0 }
theorem test_gpsWeek : week2399.fullWeek 0 352 10 = 2400 := by decide +kernel

/-- §02, after R39: 24 h smear, 3 h before a positive leap: Δ₀ + 0.375 s. -/
def smearing : State := (st [(F.PT_CLASS_SMEAR_EN 1, 1), (F.PT_CLASS_HALF 1, 43200)]).putLeaps [⟨1435708835, 36, 0⟩, ⟨1483228836, 37, 0⟩]
theorem test_smear : smearing.utcOffset 1 (timeOf (1483228836 - 10800) 0) = (((36 * tuSec * 86400 + 375 * (tuSec / 1000) * 86400 : Nat) : Int), 86400) ∧
    smearing.smearOffset 1 (timeOf (1483228836 - 10800) 0) = -375000000000 := by decide +kernel

/-- §03, after R58: the prediction at day 20,530. -/
def ageing : State :=
  { st [(F.TB_XO_FOFS_FOFS, 2500000 * 2 ^ 32), (F.TB_XO_AGE_T0DAY, 20500), (F.TB_XO_AGE_RATE, 0x03E80000)] with now := timeOf (20530 * 86400) 0 }
theorem test_xoAgeing : ageing.xoPrediction = 0x00269AD000000000 := by decide +kernel

/-- §03, after R59: 0.100 V reads as code 227. -/
theorem test_thermCode : thermCode 100000 = 227 := by decide +kernel

/-- §04, after R67: code 6,000 on a table with B[187] and B[188] as given. -/
def tacTable : IeChan := { table := List.replicate 187 0 ++ [153190400, 154009600] }
theorem test_tacPhase : tacTable.interval 6000 = 153600000 ∧ tacTable.phi 6000 = 56115200 := by decide +kernel

/-- §04, after R67: the corrected time word at +1 ppm. -/
def ppmFast : State :=
  { (State.reset.putI F.TK_TS_FREQ_FREQ (10 ^ 6 * 2 ^ 32)) with tick := 7 * 2 ^ 32, now := timeOf 1000 (500000000 * 2 ^ 32) }
theorem test_correctedEdge : ppmFast.correctedOf 0 56115200 = timeOf 1000 (500000000 * 2 ^ 32 + 3677569424) := by decide +kernel

/-- §04, after R80: four periods, SD 119,652. -/
def fourPeriods : State :=
  (State.reset.setEngine 2 (fun e => { e with n := 4, s := 262144, q := 60129542144, x1 := 10 ^ 9, min := 10 ^ 9 - 65536, max := 10 ^ 9 + 196608 })).latchBlock 2
theorem test_statistics : fourPeriods.getI (F.IE_ST_MEAN_MEAN 2) = 10 ^ 9 + 65536 ∧ fourPeriods.get (F.IE_ST_SD_SD 2) = 119652 := by decide +kernel

/-- §05, before R95: the excess of a drifting reference, without and with the slope flag. -/
theorem test_excess : excessOf (62000 * 65536) (50000 * 65536) (some (2500 * 2 ^ 32)) (some (5 * 2 ^ 30)) (1000 * 2 ^ 32) 16 false = 36000 ∧
    excessOf (62000 * 65536) (50000 * 65536) (some (2500 * 2 ^ 32)) (some (5 * 2 ^ 30)) (1000 * 2 ^ 32) 16 true = 36160 := by decide +kernel

/-- §07, after R134: the effective delay of two bands. -/
def gnssCal : State := st [(F.GN_CAL_A_DELAY, 45000), (F.GN_CAL_B_DELAY, 47500), (F.GN_CAL_A_UNC, 500), (F.GN_CAL_B_UNC, 500)]
theorem test_gnssDelay : gnssCal.gnDelay false = 41848 ∧ gnssCal.gnUnc false [] = 1761 + gnssCal.gnUnc true [] - 500 := by decide +kernel

/-- §08, after R171: the hold term after an hour, and the accuracy code. -/
def holding : State :=
  { st [(F.MB_HO_T0_SRC, 1), (F.MB_HO_P0_P0, 3500)] with now := timeOf 3600 0 }
theorem test_holdTerm : holding.holdGrowth = 371300 ∧ { holding with now := timeOf 14400 0 }.holdGrowth = 1564100 := by decide +kernel
theorem test_accuracy : accuracyCode 373450 = 0x23 := by decide +kernel

/-- §11, after R211: the port offset, the appointed start and the occupancy. -/
def port2 : State :=
  { st [(F.LN_LANE_CFG_MODE 2, 2), (F.LN_LANE_TX_LAT_LAT 2, 6532100), (F.MAC_PORT_TX_EXTRA_EXTRA 2, 180000)] with now := timeOf 1000 (500000430 * 2 ^ 32) }
theorem test_appointment : port2.dtx 2 = 9272100 ∧ port2.occupancy 2 294 = 101120000 := by decide +kernel

/-- §11, after R211: the appointed start after a request at 430 ns, and the fraction of the appointed time's NTP timestamp. -/
def port2Up : State := also port2 [(F.LN_LANE_STAT_LINK 2, 1), (F.MAC_PORT_CFG_EN 2, 1), (F.AP_PORT_STAT_CAL_OK 2, 1)]
theorem test_appointedStart : port2Up.judgeRequest 2 294 none = .inr (1000500000000000000 + 4421120000) := by decide +kernel
theorem test_appointedStamp : ntpStamp (timeOfFs (1000500000000000000 + 4421120000 + 9272100)) (0, 1) % 2 ^ 32 = 0x80004A54 := by decide +kernel

/-- §13, after R268: request 11 of the example finds 1,920 and is refused; request 13 finds 1,792. -/
theorem test_bucket : refill 8521215115264 128 32 = 1920 ∧ refill 8246337208320 128 32 = 1856 ∧ refill 7971459301376 128 32 = 1792 := by decide +kernel

/-- §15, after R303: the row of address 0x1_2345_6789. -/
theorem test_dramRow : rowOf 0x123456789 / 2 ^ 8 = 18641 := by decide +kernel

/-- §16, after R324: one replayed schedule point. -/
def catching : State :=
  ((State.reset.putI (F.TK_MODEL_Y_Y 1) 51539607552000).putI (F.TK_MODEL_DD_DD 1) 8589935).putI (F.TK_SLEW_LEFT_LEFT 1) 2621440000
theorem test_replayLeft : (catching.replay 1).getI (F.TK_SLEW_LEFT_LEFT 1) = 2416640000 := by decide +kernel
theorem test_replayY : (catching.replay 1).getI (F.TK_MODEL_Y_Y 1) = 51539608088871 := by decide +kernel

/-- §17, after R350: an episode of 1,489.9 µs. -/
def dipping : State := { st [(F.PM_STAT_DIP, 1)] with now := timeOf 0 (1500100 * 2 ^ 32), pm.dipAt := timeOf 0 (10200 * 2 ^ 32) }
theorem test_dipEnd : Does .dipEnd dipping (fun t => t.get F.PM_DIP_STAT_LAST = 1490 ∧ t.get F.PM_DIP_STAT_COUNT = 1) := ⟨_, rfl, by decide +kernel⟩

/-- §18, after R382: BT_STAT with the fallback image. -/
def fallback : State := st [(F.BT_STAT_IMG_SLOT, 1), (F.BT_STAT_IMG_FALLBACK, 1), (F.BT_STAT_STATE, 3)]
theorem test_btStat : fallback.word (fieldsAt F.BT_STAT_STATE.off) = 0x324 := by decide +kernel

/-- §19, after R389: the carry of PC6 into PC7. -/
def chained6 : State := st [(F.PC_SEL_EN 6, 1), (F.PC_SEL_CHAIN 6, 1), (F.PC_CNT_VALUE 6, 0xFFFFFFC0), (F.PC_CNT_VALUE 7, 3)]
theorem test_chain : (chained6.counterAdd 6 100).get (F.PC_CNT_VALUE 6) = 0x24 ∧ (chained6.counterAdd 6 100).get (F.PC_CNT_VALUE 7) = 4 ∧
    (chained6.counterAdd 6 100).get (F.PC_OVF_OVF 0) = 0x40 ∧ (chained6.counterAdd 6 100).counterWord 6 = 0x400000024 := by decide +kernel

/-- Published check values: CRC-32C and CRC-16 of the nine digits. -/
def nineDigits : List Byte := [0x31, 0x32, 0x33, 0x34, 0x35, 0x36, 0x37, 0x38, 0x39]
theorem test_crc : crc32c nineDigits = 0xE3069283 ∧ crc16 nineDigits = 0x29B1 := by decide +kernel

/-- Published check value: SHA-256 of "abc". -/
theorem test_sha : ofBytesBE (sha256 [0x61, 0x62, 0x63]) = 0xBA7816BF8F01CFEA414140DE5DAE2223B00361A396177A9CB410FF61F20015AD := by decide +kernel

/-! ## Memory at reset is canonical -/

theorem test_resetMemory : Memory.wf 0 State.reset.firn = true := by decide +kernel

/-! ## No word spells a command -/

theorem test_decode : decodeTableWord 64 0 = none ∧ State.reset.withFetchWord 64 0 = State.reset := by decide +kernel

/-! ## Witnesses of the hypotheses of the statements -/

/-! ### TickSourceConditionsFollowTheirInputs -/

def sourcesPass : State := { st [(F.TB_STAT_XO_OK, 1), (F.TB_STAT_OCXO_OK, 1), (F.TB_STAT_OCXO_WARM, 1), (F.TB_STAT_ATOM_OK, 1), (F.TB_STAT_ATOM_LOCK, 1)] with
  tb.passes := [9, 10, 10], tb.lockPin := true }
theorem wit_tickSources : sourcesPass.power = .run ∧ Source.xo ≠ .rtc ∧ sourcesPass.activeSource = .xo := by decide

/-! ### MigrationGoesThroughItsSteps -/

def ocxoDip : State := st [(F.TB_STAT_OCXO_OK, 1), (F.TB_STAT_OCXO_WARM, 1), (F.PM_STAT_DIP, 1)]
def ocxoReady : State := st [(F.TB_STAT_OCXO_OK, 1), (F.TB_STAT_OCXO_WARM, 1)]
def migLocks : State := { st [(F.TB_STAT_MIG, 1)] with tb.migStep := 1, tb.target := .ocxo }
def migCompares : State := { st [(F.TB_STAT_MIG, 1), (F.TB_STAT_TMB_LOCK, 1)] with tb.migStep := 3, tb.target := .ocxo }
def migCoarse : State := { migCompares with tb.coarse := true }
def migEnds : State := { st [(F.TB_STAT_TMA_LOCK, 1), (F.TB_STAT_TMB_LOCK, 1), (F.TB_STAT_ACT_TM, 1), (F.TB_STAT_ACT, 1)] with tb.migStep := 5 }
theorem wit_migRequestRefused : State.reset.judge .spi F.TB_SRC_REQ_GO.off true = .served ∧ F.TB_SRC_REQ_GO.ofWord (4 : Word) = 1 ∧
    State.reset.requestReason (F.TB_SRC_REQ_TARGET.ofWord 4) ≠ 0 := by decide
theorem wit_migRequestTaken : F.TB_SRC_REQ_TARGET.ofWord (5 : Word) = 1 ∧ F.TB_SRC_REQ_GO.ofWord (5 : Word) = 1 ∧
    ocxoReady.judge (.pf 1) F.TB_SRC_REQ_GO.off true = .served ∧ ocxoReady.requestReason 1 = 0 ∧ ocxoReady.on F.PM_STAT_DIP = false ∧
    ocxoDip.judge (.pf 1) F.TB_SRC_REQ_GO.off true = .served ∧ ocxoDip.requestReason 1 = 0 ∧ ocxoDip.on F.PM_STAT_DIP = true := by decide
theorem wit_migSteps : migLocks.power = .run ∧ migLocks.tb.migStep = 1 ∧ migLocks.tb.coasting = false ∧ migLocks.tb.startMig = false ∧
    migCompares.tb.migStep = 3 ∧ migCoarse.tb.coarse = true ∧ migEnds.tb.migStep = 5 := by decide

/-! ### OscillatorLearningAndTemperatureSamples -/

def learning : State := { st [(F.TB_XO_AGE_MODE, 2)] with now := timeOf 259200 0, tk.lockSince := some 0 }
theorem wit_ageLearn : learning.power = .run ∧ learning.get F.TB_XO_AGE_MODE = 2 ∧ learning.sec % 86400 = 0 ∧ learning.lockedFor 259200 = true := by decide
def thermOpen : State := { st [(F.TB_THERM_EN, 1)] with tb.openRun := 15, tb.therm := List.replicate 15 4095 }
def thermOff : State := thermOpen.put F.TB_THERM_EN 0
theorem wit_therm : thermOpen.on F.TB_THERM_EN = true ∧ thermOpen.on F.TB_THERM_OPEN = false ∧ 15 ≤ thermOpen.tb.openRun ∧ 4092 ≤ thermCode 1798243 ∧
    thermCode 1798242 < 4092 ∧ thermOff.on F.TB_THERM_EN = false := by decide

/-! ### EdgeIsStampedAndStored -/

def edgeReady : State := { st [(F.IE_CH_CFG_EN 0, 1), (F.GN_CFG_EN, 1), (F.GN_CFG_BAND_A, 1)] with tick := 2 ^ 48 }
theorem wit_edgeStamped : edgeReady.edgeFate 0 true 0 5000 = .stamped ∧ edgeReady.on F.PM_STAT_DIP = false ∧
    edgeReady.chMode 0 = 0 ∧ edgeReady.gated 0 = false ∧ (edgeReady.chan 0).buf.length < 256 := by decide
theorem wit_edgeMark : edgeReady.edgeFate 20 true 0 5000 = .stamped := by decide
def edgeSkip : State := edgeReady.setChan 0 (fun c => { c with skip := 1 })
def edgeNear : State := edgeReady.setChan 0 (fun c => { c with accepted := some (65536, 0) })
def edgeCal : State := edgeReady.put (F.IE_CH_STAT_CAL_BUSY 0) 1
theorem wit_edgeOthers : edgeSkip.edgeFate 0 true 0 0 = .skipped ∧ edgeNear.edgeFate 0 true 0 0 = .rateDropped ∧
    edgeCal.edgeFate 0 true 0 0 = .calMissed := by decide
def startWaits : State := State.reset.setChan 3 (fun c => { c with start := some { tick := 0, phi := 0, tac := 0, tm := 0, gen := 0, rising := true, corr := 0 } })
theorem wit_startWaits : (startWaits.chan 3).start.isSome = true := by decide
def presenceSeen : State := { st [(F.IE_CH_NOM_NOM 2, 2000 * 65536)] with rs.chanTick := [none, none, some (0, 0)], tick := 2 * 2 ^ 32 }
theorem wit_presence : presenceSeen.edgeOverdue 2 3 = true ∧ presenceSeen.edgeOverdue 2 4 = false ∧ presenceSeen.edgeOverdue 31 4 = true := by decide

/-! ### GatesAndStatisticsFollowTheirRegisters -/

def gateReady : State := st [(F.IE_CH_CFG_EN 1, 1), (F.IE_CH_CFG_GATE_SEL 1, 1), (F.IE_CH_CFG_GATE_POL 1, 1), (F.IE_CH_CFG_EN 11, 1), (F.IE_CH_CFG_GATE_SEL 11, 2), (F.IE_CH_CFG_GATE_POL 11, 0)]
def gateOpened : State := { gateReady.setChan 11 (fun c => { c with gateOpen := true }) with ie.gates := [true, true] }
theorem wit_gate : gateReady.chanEnabled 1 = true ∧ gateReady.get (F.IE_CH_CFG_GATE_SEL 1) = (0 : Fin 2).val + 1 ∧
    gateReady.ie.gates.getD 0 false ≠ true ∧ true = gateReady.on (F.IE_CH_CFG_GATE_POL 1) ∧ gateOpened.chanEnabled 11 = true ∧
    gateOpened.get (F.IE_CH_CFG_GATE_SEL 11) = (1 : Fin 2).val + 1 ∧ gateOpened.ie.gates.getD 1 false ≠ false ∧
    gateOpened.on (F.IE_CH_CFG_GATE_POL 11) = false ∧ gateReady.ie.gates.getD 1 false = false ∧ gateOpened.on (F.IE_CH_CFG_GATE_MODE 11) = false := by decide
def gateCloses : State := { gateReady.setChan 1 (fun c => { c with gateOpen := true }) with ie.gates := [true, false] }
theorem wit_gateCloses : gateCloses.ie.gates.getD 0 false ≠ false ∧ false ≠ gateCloses.on (F.IE_CH_CFG_GATE_POL 1) ∧
    gateCloses.on (F.IE_CH_CFG_GATE_MODE 1) = false := by decide
def oneResult : State := State.reset.setChan 2 (fun c => { c with buf := [{ raw := 7, ph := -2 ^ 63, flg := 2 ^ 40 - 1 }, { raw := 8 }] })
theorem wit_resRead : oneResult.judge (.pf 1) (F.IE_CH_RES_RAW_RAW 2).off false = .served ∧ (oneResult.chan 2).buf.headD {} = { raw := 7, ph := -2 ^ 63, flg := 2 ^ 40 - 1 } ∧
    oneResult.judge .spi (F.IE_CH_RES_RAW_RAW 31).off false = .served ∧ (oneResult.chan 31).buf = [] := by decide
def engineRuns : State := State.reset.setEngine 7 (fun e => { e with run := true, n := 3 })
theorem wit_stats : engineRuns.judge (.pf 1) (F.IE_ST_CFG_EN 7).off true = .served ∧ (F.IE_ST_CFG_EN 7).ofWord (1 : Word) = 1 ∧
    (F.IE_ST_CFG_EN 7).ofWord (0 : Word) ≠ 1 ∧ engineRuns.judge (.pf 1) (F.IE_ST_STAT_DONE 7).off false = .served ∧
    (F.IE_ST_STAT_DONE 7).off = (F.IE_ST_STAT_N_DONE 7).off := by decide

/-! ### CalibrationIsQueuedRunAndJudged -/

def calOn : State := { (st [(F.IE_CH_CFG_EN 5, 1), (F.IE_CAL_CFG_AUTO, 1), (F.IE_CAL_CFG_PERIOD, 1), (F.PM_TEMP_TJ, 30)]).setChan 5 (fun c => { c with unc := some 100, calTime := 0 }) with now := 130 * tuSec }
def calMasked : State := calOn.put F.IE_CAL_CFG_SKIP 32
def calManual : State := calOn.put F.IE_CAL_CFG_AUTO 0
theorem wit_calQueue : calOn.judge .spi F.IE_CAL_REQ_GO.off true = .served ∧ calOn.chanEnabled 5 = true ∧ calOn.autoCal 5 = true ∧
    calOn.calOlder 5 1 = true ∧ calOn.calMoved 5 = true ∧ State.reset.autoCal 5 = false ∧ State.reset.calOlder 5 1 = false ∧
    State.reset.calMoved 5 = false := by decide
theorem wit_calStale : calManual.on F.IE_CAL_CFG_AUTO = false ∧ calMasked.get F.IE_CAL_CFG_SKIP / 2 ^ (5 : Fin 32).val % 2 = 1 ∧
    calManual.calMoved 5 = true ∧ calMasked.calMoved 5 = true ∧ calManual.calOlder 5 2 = true ∧ State.reset.calOlder 31 2 = false ∧
    (calMasked.chan 5).stale = false := by decide
def calWaits : State := { calOn with ie.queue := [5, 6] }
def calSlowly : State := { calWaits.put (F.IE_CH_NOM_NOM 5) (10 ^ 12 * 65536) with ie.queue := [5] }
def calSlowEdge : State := calSlowly.setChan 5 (fun c => { c with last := some { tick := 0, phi := 0, tac := 0, tm := 0, gen := 0, rising := true, corr := 0 } })
theorem wit_calBegins : calWaits.ie.queue = (5 : Fin 32).val :: [6] ∧ calWaits.on F.IE_CAL_STAT_BUSY = false ∧ calWaits.calSlow 5 = false ∧
    calSlowly.ie.queue = (5 : Fin 32).val :: [] ∧ calSlowly.calSlow 5 = true ∧ calSlowly.edgeJustStamped 5 = false ∧ calSlowEdge.calSlow 5 = true ∧
    calSlowEdge.edgeJustStamped 5 = true := by decide
def calRuns : State := also calOn [(F.IE_CAL_STAT_BUSY, 1), (F.IE_CAL_STAT_CUR, 5)]
def calSpoils : State := { calRuns with ie.calSpoilt := true }
def calBelow : List Nat := (List.range 257).map (· * 4096)
def calKnown : List (List (Nat × Nat)) := [[(6144, 4096)], [(4096, 4096)], [(2048, 4096)]]
def calKnownBad : List (List (Nat × Nat)) := [[(6144, 4096)], [(4096, 4096)], [(4095, 4096)]]
theorem wit_calRuns : calRuns.on F.IE_CAL_STAT_BUSY = true ∧ calRuns.get F.IE_CAL_STAT_CUR = (5 : Fin 32).val ∧ calRuns.ie.calLog = 20 ∧
    provisionalMeans (provisionalTable calBelow (2 ^ 20)) calKnown = knownPositions ∧
    gainOk (fitLine knownPositions knownPositions) = true ∧ calResidual (fitLine knownPositions knownPositions) knownPositions ≤ 65536 ∧
    calRuns.ie.calSpoilt = false ∧ calSpoils.ie.calSpoilt = true := by decide +kernel

/-! ### ReferenceSelectorActsOnItsCommands -/

def slotRuns : State := (st [(F.RS_REF_STAT_STATE 3, 3), (F.RS_REF_CFG_EN 3, 1), (F.RS_REF_CFG_BW_FIX 3, 1)]).setSlot 3 (fun c => { c with win := { c.win with noY := false, n := 2, st := 1, stt := 1, ste := 1 } })
def slotBlind : State := slotRuns.setSlot 3 (fun c => { c with win := { c.win with noY := true } })
def slotDips : State := slotRuns.put F.PM_STAT_DIP 1
theorem wit_window : 2 ≤ slotRuns.get (F.RS_REF_STAT_STATE 3) ∧ slotRuns.slotFrozen 3 = false ∧ (slotRuns.slot 3).win.noY = false ∧
    (slotRuns.slot 3).win.slope = some (2 * 10 ^ 6 * 65536) ∧ slotRuns.on (F.RS_REF_CFG_BW_FIX 3) = true ∧ (slotBlind.slot 3).win.noY = true ∧
    slotBlind.slotFrozen 3 = false ∧ slotRuns.get (F.RS_REF_STAT_STATE 4) < 2 ∧ slotDips.slotFrozen 3 = true := by decide
theorem wit_selection : slotRuns.judge (.pf 1) F.RS_SEL_REF.off true = .served ∧ slotRuns.usable (F.RS_SEL_REF.ofWord 3) = true ∧
    F.RS_SEL_AUTO.ofWord (3 : Word) = 0 ∧ slotRuns.usable (F.RS_SEL_REF.ofWord 4) = false ∧ F.RS_SEL_AUTO.ofWord (0x10 : Word) = 1 := by decide
theorem wit_type : (F.RS_REF_CFG_TYPE 15).ofWord (0xFFFFFFFFFFFFFFFF : Word) = 7 ∧ (F.RS_REF_CFG_TYPE 15).ofWord (0 : Word) = 0 ∧
    (F.RS_REF_CFG_TYPE 15).ofWord (2 : Word) = 1 ∧ State.reset.slotType 15 = 7 ∧ State.reset.judge .spi (F.RS_REF_CFG_EN 15).off true = .served := by decide
def disagree : State := ((st [(F.RS_REF_STAT_STATE 0, 3), (F.RS_REF_STAT_STATE 1, 3), (F.RS_STAT_HOLD, 1)]).setSlot 0 (fun c => { c with y := some (10 ^ 18) })).setSlot 1
  (fun c => { c with y := some 0 })
def disagreeThree : State := (disagree.put (F.RS_REF_STAT_STATE 2) 3).setSlot 2 (fun c => { c with y := some 0 })
theorem wit_contest : disagree.worstPair = some (0, 1, false, 10 ^ 18) ∧ disagree.outlier false 0 1 (disagree.arbiters false 0 1) = none ∧
    disagree.activeSlot = none ∧ disagree.on F.RS_CONTEST_VALID = false ∧ State.reset.worstPair = none ∧
    disagreeThree.worstPair = some (0, 1, false, 10 ^ 18) ∧ disagreeThree.outlier false 0 1 (disagreeThree.arbiters false 0 1) = some 0 := by decide
def dipped : State := st [(F.PM_STAT_DIP, 1)]
theorem wit_dipped : dipped.on F.PM_STAT_DIP = true := by decide

/-! ### UpdatesStepsAndLockstepErrors -/

def manualCore : State := st [(F.TK_STAT_ACTIVE 0, 1), (F.TK_STAT_STATE 0, 4), (F.TK_CTL_MODE, 1), (F.TK_MAN_FREQ_FREQ, 2 ^ 40), (F.TK_SLEW_LEFT_LEFT 0, 2 ^ 20), (F.RS_STAT_HOLD, 1)]
def manualDips : State := manualCore.put F.PM_STAT_DIP 1
def heldCore : State := st [(F.TK_STAT_ACTIVE 0, 1), (F.TK_STAT_STATE 0, 3), (F.TK_CTL_MODE, 0), (F.RS_STAT_HOLD, 1), (F.TK_MODEL_Y_Y 0, 2 ^ 63 - 1), (F.TK_MODEL_DD_DD 0, 160)]
def deadCore : State := manualCore.put (F.TK_STAT_STATE 0) 5
theorem wit_manualUpdate : manualCore.beginUpdate.get F.TK_CTL_MODE = 1 ∧ manualCore.beginUpdate.core < 2 ∧ manualCore.beginUpdate.coreLive = true ∧
    manualCore.beginUpdate.tk.step = none ∧ manualCore.beginUpdate.tk.setTime = none ∧ manualCore.beginUpdate.tb.migStep ≠ 4 ∧
    manualCore.beginUpdate.on F.PM_STAT_DIP = false ∧ deadCore.beginUpdate.coreLive = false := by decide +kernel
theorem wit_manualDips : manualDips.beginUpdate.on F.PM_STAT_DIP = true ∧ manualDips.beginUpdate.get F.TK_CTL_MODE = 1 ∧
    manualDips.beginUpdate.coreLive = true ∧ manualDips.beginUpdate.core < 2 := by decide +kernel
theorem wit_heldUpdate : heldCore.beginUpdate.get F.TK_CTL_MODE ≠ 1 ∧ heldCore.beginUpdate.on F.RS_STAT_HOLD = true ∧ heldCore.beginUpdate.coreLive = true ∧
    heldCore.beginUpdate.core < 2 ∧ heldCore.beginUpdate.tk.step = none ∧ heldCore.beginUpdate.tk.setTime = none := by decide +kernel
def stepDecided : State := { manualCore with tk.step := some { delta := 32 * 2 ^ 32, setsTime := false } }
def stepSoft : State := { manualCore with tk.step := some { delta := 0, setsTime := true, soft := some 77 } }
def stepSets : State := { manualCore with tk.step := some { delta := -5, setsTime := true }, now := 5 }
def stepHeld : State := stepDecided.setPort 0 (fun q => { q with slots := [{ handle := 1, start := 0, dur := 64, len := 64, appt := 0 }] })
theorem wit_step : stepDecided.calendarsEmpty = true ∧ stepDecided.tk.step = some { delta := 32 * 2 ^ 32, setsTime := false } ∧ stepDecided.core < 2 ∧
    stepSoft.tk.step = some { delta := 0, setsTime := true, soft := some 77 } ∧ stepSets.tk.step = some { delta := -5, setsTime := true } ∧
    stepHeld.calendarsEmpty = false ∧ stepHeld.tk.step.isSome = true ∧ manualCore.tk.step = none ∧ stepDecided.beginUpdate.tk.step.isSome = true := by decide +kernel
def missStays : State := manualCore.put F.TK_CTL_MISS_SWITCH 0
def missSwitches : State := manualCore.put F.TK_CTL_MISS_SWITCH 1
theorem wit_miss : missStays.beginUpdate.on F.TK_CTL_MISS_SWITCH = false ∧ missSwitches.beginUpdate.on F.TK_CTL_MISS_SWITCH = true ∧
    missSwitches.beginUpdate.on F.PM_STAT_DIP = false ∧ missSwitches.beginUpdate.on F.RD_STAT_SW = false ∧ missSwitches.beginUpdate.coreLive = true := by decide +kernel
def lockstepTwice : State := { manualCore with tk.lsTimes := [0, 0] }
theorem wit_lockstep : 2 ≤ (lockstepTwice.tk.lsTimes.filter (fun x => decide (lockstepTwice.now ≤ x + tuSec))).length ∧ lockstepTwice.core < 2 ∧
    (manualCore.tk.lsTimes.filter (fun x => decide (manualCore.now ≤ x + tuSec))).length < 2 := by decide

/-! ### ManualModeWritesAndTemperatureFit -/

def nsfTooMany : State := { manualCore with tk.heldNsf := some (10 ^ 9 * 2 ^ 32) }
theorem wit_manualWrites : manualCore.judge .spi F.TK_CTL_MODE.off true = .served ∧ manualCore.judge .spi F.TK_MAN_PHASE_PHASE.off true = .served ∧
    manualCore.judge .spi F.TK_SET_NSF_NS.off true = .served ∧ manualCore.judge .spi F.TK_SET_SEC_SEC.off true = .served ∧ manualCore.get F.TK_CTL_MODE = 1 ∧
    State.reset.get F.TK_CTL_MODE ≠ 1 ∧ State.reset.judge .spi F.TK_MAN_PHASE_PHASE.off true = .served ∧
    manualCore.tk.heldNsf.getD manualCore.tk.setNsf / 2 ^ 32 ≤ 999999999 ∧ 999999999 < nsfTooMany.tk.heldNsf.getD nsfTooMany.tk.setNsf / 2 ^ 32 ∧
    F.TK_CTL_MODE.ofWord (1 : Word) = 1 ∧ F.TK_CTL_MODE.ofWord (0 : Word) ≠ 1 := by decide
def learnsTemp : State := { st [(F.TK_CTL_TEMPCO_LEARN, 1)] with tk.dayTrack := true, tk.fitN := 2, tk.fitA := 3, tk.fitAA := 5, tk.fitY := 2 ^ 40, tk.fitAY := 2 ^ 41 }
def learnsLevel : State := { learnsTemp with tk.fitY := 0, tk.fitAY := 0 }
def learnsNothing : State := { learnsTemp with tk.fitN := 0, tk.fitA := 0, tk.fitAA := 0, tk.fitY := 0, tk.fitAY := 0 }
def learnsNever : State := learnsTemp.put F.TK_CTL_TEMPCO_LEARN 0
def learnsLater : State := { learnsTemp with tk.dayTrack := false }
theorem wit_tempco : learnsTemp.on F.TK_CTL_TEMPCO_LEARN = true ∧ learnsTemp.tk.dayTrack = true ∧ learnsTemp.tempFit.isSome = true ∧
    learnsLevel.tempFit = some (0, none) ∧ learnsNothing.tempFit = none ∧ learnsNothing.tk.dayTrack = true ∧ learnsLater.tk.dayTrack = false ∧
    learnsNever.on F.TK_CTL_TEMPCO_LEARN = false := by decide

/-! ### CheckpointsAreWrittenSealedAndMissed -/

def ckptUnsealed : State := { manualCore with tk.unsealed := some 1, tk.ckptBusy := true, now := 125 * tuMs }
def ckptEarly : State := { ckptUnsealed with now := 125 * tuMs - 1 }
theorem wit_checkpoint : manualCore.coreLive = true ∧ ckptUnsealed.coreLive = true ∧ ckptUnsealed.tk.unsealed.isSome = true ∧ ckptUnsealed.ckptInstant = true ∧
    ckptEarly.ckptInstant = false ∧ ckptEarly.tk.unsealed.isSome = true ∧ manualCore.tk.unsealed = none ∧
    ckptUnsealed.tk.ckptAt + 10 * tuUs < ckptUnsealed.now ∧ manualCore.now ≤ manualCore.tk.ckptAt + 10 * tuUs ∧ State.reset.coreLive = false := by decide

/-! ### SwitchoverFencesAndResumes -/

def standbyNone : State := also manualCore [(F.RD_STAT_SB_AVAIL, 0), (F.RD_STAT_RIME_BAD_B, 1)]
def standbyReady : State := manualCore.put F.RD_STAT_SB_AVAIL 1
def standbyRime : State := standbyReady.put F.RD_RIME_STAT_STATE 1
theorem wit_trigger : standbyReady.on F.RD_STAT_SB_AVAIL = true ∧ standbyReady.on F.RD_STAT_SW = false ∧ standbyReady.coreLive = true ∧ standbyReady.core < 2 ∧
    standbyNone.on F.RD_STAT_SB_AVAIL = false ∧ standbyReady.get F.RD_RIME_STAT_STATE ≠ 1 := by decide
def orphaned : State := also manualCore [(F.RD_STAT_ORPHAN, 1), (F.TK_STAT_STATE 0, 5), (F.TK_STAT_ACTIVE 0, 0), (F.TK_STAT_STATE 1, 0)]
def orphanAlone : State := orphaned.put (F.TK_STAT_STATE 1) 5
def switching : State := st [(F.RD_STAT_SW, 1), (F.TK_STAT_STATE 0, 5), (F.TK_STAT_STATE 1, 1), (F.TK_TS_STAT_HELD, 1)]
theorem wit_switchWrite : standbyReady.judge (.pf 0) F.RD_SWITCH_GO.off true = .served ∧ F.RD_SWITCH_GO.ofWord (0x13C : Word) = 1 ∧
    F.RD_SWITCH_CONFIRM.ofWord (0x13C : Word) = 0x3C ∧ F.RD_SWITCH_CONFIRM.ofWord (0x100 : Word) ≠ 0x3C ∧ F.RD_SWITCH_GO.ofWord (0x3C : Word) = 0 ∧
    switching.on F.RD_STAT_SW = true ∧ standbyReady.on F.RD_STAT_ORPHAN = false ∧ orphaned.on F.RD_STAT_ORPHAN = true ∧ orphaned.on F.RD_STAT_SW = false ∧
    orphaned.standbyCore = some 1 ∧ orphanAlone.standbyCore = none ∧ orphanAlone.on F.RD_STAT_ORPHAN = true := by decide
def ckptBytes : List Byte := bytesLE 8 7 ++ List.replicate 0x30 0 ++ bytesLE 8 (2 ^ 40) ++ bytesLE 8 (2 ^ 30)
def ckptHeld : State := { switching with firn := writeBytes (writeBytes [] 0 ckptBytes) 0xFF8 (bytesLE 4 (crc32c (readBytes (writeBytes [] 0 ckptBytes) 0 0xFF8))) }
def ckptMissed : State := { ckptHeld with tk.points := 3, rd.exiting := true, rd.hostSwitch := some 0 }
theorem wit_resume : ckptHeld.on F.RD_STAT_SW = true ∧ ckptHeld.target = 1 ∧ ckptHeld.rd.hostSwitch = none ∧ ckptMissed.rd.hostSwitch = some 0 ∧ ckptHeld.tk.points = ckptHeld.tk.ckptPoint ∧
    ckptMissed.rd.exiting = true := by decide
set_option maxRecDepth 1000000 in
theorem wit_resumes : (ckptHeld.newestCheckpoint.map (fun e => (e.1, at8 e.2 0x40))) = some (0, 2 ^ 30) ∧ switching.newestCheckpoint = none := by decide +kernel
def testingBoth : State := { State.reset with rd.testing := [some 0, some 1], now := 20 * tuMs }
def ckptTested : State := { testingBoth with firn := ckptHeld.firn }
def testedOrphan : State := also ckptTested [(F.RD_STAT_ORPHAN, 1), (F.RD_CFG_ORPHAN_AUTO, 1), (F.TK_STAT_STATE 0, 6), (F.TK_STAT_STATE 1, 5)]
def testedHeld : State := testedOrphan.put F.RD_CFG_ORPHAN_AUTO 0
theorem wit_tested : testingBoth.tested 0 = true ∧ testingBoth.tested 1 = false ∧ ckptTested.tested 0 = true ∧ ckptTested.on F.RD_STAT_ORPHAN = false ∧
    testedOrphan.tested 0 = true ∧ testedOrphan.on F.RD_STAT_ORPHAN = true ∧ testedOrphan.on F.RD_STAT_SW = false ∧
    testedOrphan.on F.RD_CFG_ORPHAN_AUTO = true ∧ testedHeld.on F.RD_CFG_ORPHAN_AUTO = false := by decide
theorem newestCheckpoint_firn (s t : State) (h : s.firn = t.firn) : s.newestCheckpoint = t.newestCheckpoint := by
  unfold State.newestCheckpoint State.validSlot
  rw [h]
theorem wit_testedCkpt : ckptTested.newestCheckpoint = ckptHeld.newestCheckpoint :=
  newestCheckpoint_firn ckptTested ckptHeld (by simp only [ckptTested])
theorem wit_testedNone : testingBoth.newestCheckpoint = switching.newestCheckpoint :=
  newestCheckpoint_firn testingBoth switching (by decide)

/-! ### PublicationBoundsAreConsistent -/

def stalePub : State := st [(F.MB_STAT_STALE, 1), (F.MB_BOUND_BOUND, 100000), (F.MB_STAT_STATE, 0), (F.MB_STAT_MAP, 0), (F.MB_CFG_STALE_MAX, 1)]
def staleLong : State := { stalePub with mb.staleMax := true, now := tuMs }
def staleLater : State := { stalePub with now := tuMs }
def staleDue : State := { stalePub with now := tuMs + 1 }
def pubTimed : State := { st [(F.TK_STAT_TIME_SET 0, 1), (F.TK_STAT_ACTIVE 0, 1), (F.TK_STAT_STATE 0, 2), (F.MB_STAT_UNB, 0), (F.RS_STAT_ACTIVE, 3), (F.RS_REF_STAT_STATE 3, 3), (F.GN_SOL_UNC_UNC, 500)] with now := timeOf 1000 0, mb.owed := [.migration] }
def pubHeld : State := also pubTimed [(F.TK_STAT_STATE 0, 3), (F.MB_STAT_UNB, 1), (F.RS_STAT_HOLD, 1)]
def pubResumed : State := { pubHeld with mb.ckptP0 := some 7 }
theorem wit_publication : State.reset.on (F.TK_STAT_TIME_SET State.reset.core) = false ∧ pubTimed.on (F.TK_STAT_TIME_SET pubTimed.core) = true ∧
    pubTimed.mbStateNow = 0 ∧ pubHeld.mbStateNow ≠ 0 ∧ pubHeld.on F.MB_STAT_UNB = true ∧ pubHeld.mb.ckptP0 = none ∧ pubResumed.mb.ckptP0.isSome = true ∧
    pubTimed.get F.RS_STAT_ACTIVE < 16 ∧ pubTimed.get F.MB_ALLOW_ACC_ACC < 2 ^ 48 ∧ pubTimed.get F.RS_CONTEST_DISAG < 2 ^ 48 ∧
    pubTimed.get (F.RS_REF_EXCESS_EXCESS 3) < 2 ^ 48 := by decide
theorem wit_stale : stalePub.on F.MB_STAT_STALE = true ∧ stalePub.mb.staleMax = false ∧ staleLong.mb.staleMax = true ∧
    State.reset.on F.MB_STAT_STALE = false ∧ staleDue.staleLimit < staleDue.pubAge staleDue.now ∧ staleLater.pubAge staleLater.now ≤ staleLater.staleLimit ∧
    staleLater.mapEntry < staleLater.mapMatch (staleLater.get F.MB_STAT_STATE) (staleLater.boundAt staleLater.now) ∧
    stalePub.mapMatch (stalePub.get F.MB_STAT_STATE) (stalePub.boundAt 0) ≤ stalePub.mapEntry := by decide
def slotActive : State := st [(F.RS_STAT_HOLD, 0), (F.RS_STAT_ACTIVE, 3), (F.RS_REF_STAT_STATE 3, 3)]
theorem wit_refCal : slotActive.activeSlot = some (3 : Fin 16).val ∧ slotActive.activeSlot ≠ some (4 : Fin 16).val ∧
    slotActive.judge (.pf 1) (F.MB_REF_CAL_UNC 3).off true = .served := by decide

/-! ### AttestationsAreSignedAndLatched -/

def attests : State := st [(F.MB_CFG_ATT_EN, 1)]
def attestsKey : State := st [(F.MB_CFG_ATT_EN, 1), (F.KV_SLOT_ATTR_ATTR 0, 2449502720)]
def signing : State := { attests with mb.signing := some (List.replicate 96 1), mb.attSeq := 7 }
def attestsOff : State := st [(F.MB_CFG_ATT_EN, 0)]
theorem wit_attestation : attests.on F.MB_CFG_ATT_EN = true ∧ attests.keyCheck 9 0 [4] 25 ≠ 0 ∧ attestsKey.keyCheck 9 0 [4] 25 = 0 ∧ attestsOff.on F.MB_CFG_ATT_EN = false ∧
    signing.mb.signing = some (List.replicate 96 1) ∧ (List.replicate 96 (1 : Byte)).length = 96 ∧ attests.mb.signing = none ∧
    attests.judge (.pf 1) F.MB_ATT_STAT_VALID.off false = .served := by decide

/-! ### LanesAreEnabledIdledLockedAndLost -/

def laneOn : State := also ((st [(F.LN_LANE_CFG_EN 2, 1), (F.LN_LANE_STAT_STATE 2, 1), (F.LN_LANE_CFG_MODE 2, 1), (F.LN_LANE_STAT_TXRST 2, 0)]).setLane 2 (fun l => { l with trained := true })) [(F.LN_LANE_STAT_TXRST 5, 0)]
def laneIdles : State := st [(F.LN_LANE_CFG_EN 2, 1), (F.LN_LANE_CFG_IDLE 2, 1), (F.LN_LANE_STAT_STATE 2, 4)]
def laneHunts : State := (st [(F.LN_LANE_CFG_EN 5, 1), (F.LN_LANE_STAT_STATE 5, 2), (F.LN_LANE_CFG_MODE 5, 1), (F.LN_LANE_STAT_TXRST 5, 0), (F.LN_LANE_LOCK_LOCK_CNT 5, 64), (F.LN_LANE_LOCK_UNLOCK_BAD 5, 2), (F.LN_LANE_LOCK_UNLOCK_WIN 5, 64)]).setLane 5 (fun l => { l with signal := true, goodRun := 63 })
def laneHuntsX : State := laneHunts.put (F.LN_LANE_CFG_MODE 5) 3
def laneLocks : State := also laneHunts [(F.LN_LANE_STAT_STATE 5, 3), (F.LN_LANE_STAT_LINK 5, 1)]
def laneLocksX : State := also laneLocks [(F.LN_LANE_CFG_MODE 5, 3), (F.LN_LANE_CFG_AN 5, 1)]
def laneLosing : State := laneLocks.setLane 5 (fun l => { l with loss := true })
def laneLosingHunt : State := laneHunts.setLane 5 (fun l => { l with loss := true })
def laneLosingDown : State := laneOn.setLane 2 (fun l => { l with loss := true })
def badOne : List Bool := [false]
def badTwo : List Bool := [false, false]
def goodOne : List Bool := [true]
def noHeaders : List Bool := []
theorem wit_laneWrite : laneOn.judge (.pf 3) (F.LN_LANE_CFG_EN 2).off true = .served ∧ (F.LN_LANE_CFG_EN 2).ofWord (1 : Word) = 1 ∧
    (F.LN_LANE_CFG_IDLE 2).ofWord (1 : Word) = 0 ∧ (F.LN_LANE_CFG_EN 2).ofWord (0 : Word) = 0 ∧ State.reset.laneState 2 = laneOff ∧
    State.reset.clientGated 2 = false ∧ State.reset.judge (.pf 3) (F.LN_LANE_CFG_EN 2).off true = .served ∧ laneOn.on (F.LN_LANE_CFG_EN 2) = true ∧
    laneOn.laneState 2 ≠ laneOff ∧ laneOn.laneState 2 ≠ laneIdle ∧ laneIdles.on (F.LN_LANE_CFG_EN 2) = true ∧ laneIdles.laneState 2 = laneIdle ∧
    laneIdles.clientGated 2 = false ∧ laneIdles.judge (.pf 3) (F.LN_LANE_CFG_EN 2).off true = .served ∧ laneLocksX.laneMode 5 = 3 := by decide
theorem wit_laneSignal : laneOn.laneState 2 = laneDown ∧ laneOn.on (F.AP_PORT_STAT_CAL_BUSY 2) = false ∧ laneOn.on (F.LN_LANE_STAT_TXRST 2) = false ∧
    (laneOn.lane 2).trained = true ∧ laneOn.on (F.LN_LANE_CFG_TRAIN 2) = false ∧ (laneLocks.lane 5).loss = false ∧ (laneLosing.lane 5).loss = true ∧
    laneLosing.laneState 5 = laneLocked ∧ laneLosingHunt.laneState 5 = laneHunt ∧ (laneLosingDown.lane 2).loss = true ∧ laneLosingDown.laneState 2 ≠ laneHunt ∧
    laneLosingDown.laneState 2 ≠ laneLocked := by decide
theorem wit_laneLock : laneHunts.laneState 5 = laneHunt ∧ (laneHunts.lane 5).loss = false ∧ laneHunts.laneMode 5 ≠ 3 ∧ badOne.count false ≠ 0 ∧
    goodOne.count false = 0 ∧ laneHunts.lockCount 5 ≤ (laneHunts.lane 5).goodRun + goodOne.length ∧
    (laneHunts.lane 5).goodRun + noHeaders.length < laneHunts.lockCount 5 ∧ noHeaders.count false = 0 ∧ laneHuntsX.laneMode 5 = 3 ∧
    laneLocks.laneState 5 = laneLocked ∧ (laneLocks.lane 5).loss = false ∧ laneLocks.on (F.LN_LANE_STAT_LINK 5) = true ∧ laneLocks.laneMode 5 ≠ 3 ∧
    badTwo = List.replicate (laneLocks.unlockBad 5) false ∧ laneLocksX.laneMode 5 = 3 ∧ laneLocksX.laneState 5 = laneLocked := by decide

/-! ### LaneTrainingFecFaultsAndLowPowerIdle -/

def laneTrains : State := (st [(F.LN_LANE_CFG_EN 1, 1), (F.LN_LANE_STAT_STATE 1, 1), (F.LN_LANE_CFG_TRAIN 1, 1), (F.LN_LANE_EQ_RETRY 1, 3), (F.LN_LANE_STAT_TXRST 1, 0)]).setLane 1
  (fun l => { l with signal := true })
def laneTrainsLast : State := laneTrains.setLane 1 (fun l => { l with fails := 2 })
def laneTrained : State := (laneTrains.put (F.LN_LANE_STAT_STATIC 1) 1).setLane 1 (fun l => { l with trained := true })
theorem wit_training : laneTrains.training 1 = true ∧ laneTrainsLast.training 1 = true ∧ laneTrained.training 1 = false ∧ (laneTrains.lane 1).signal = true ∧
    (laneTrains.lane 1).fails + 1 < laneTrains.get (F.LN_LANE_EQ_RETRY 1) ∧
    laneTrainsLast.get (F.LN_LANE_EQ_RETRY 1) ≤ (laneTrainsLast.lane 1).fails + 1 ∧
    laneTrains.judge (.pf 3) (F.LN_LANE_EQ_PRE 1).off true = .served ∧ laneTrained.on (F.LN_LANE_STAT_STATIC 1) = true ∧
    (F.LN_LANE_EQ_PRE 1).ofWord (0x83F00 : Word) + (F.LN_LANE_EQ_MAIN 1).ofWord (0x83F00 : Word) + (F.LN_LANE_EQ_POST 1).ofWord (0x83F00 : Word) = 71 ∧
    (F.LN_LANE_EQ_PRE 1).ofWord (0x3F00 : Word) + (F.LN_LANE_EQ_MAIN 1).ofWord (0x3F00 : Word) + (F.LN_LANE_EQ_POST 1).ofWord (0x3F00 : Word) = 63 := by decide
def laneFec : State := laneLocks.put (F.LN_LANE_CFG_FEC 5) 1
def laneFecMarks : State := laneLocks.put (F.LN_LANE_CFG_FEC 5) 2
def laneX : State := also laneLocks [(F.LN_LANE_CFG_MODE 5, 3), (F.LN_LANE_CFG_AN 5, 1)]
def laneClient : State := st [(F.LN_LANE_CFG_EN 3, 1), (F.LN_LANE_STAT_STATE 3, 3), (F.LN_LANE_STAT_LINK 3, 1), (F.LN_LANE_CFG_MODE 3, 1), (F.LN_LANE_STAT_TXRST 3, 0)]
def lpiOn : State := { (also laneLocks [(F.LN_LANE5_LPI_EN, 1), (F.LN_LANE5_LPI_IDLE_TIME, 1), (F.MAC_PORT_CFG_EN 5, 1), (F.LN_LANE_STAT_TXRST 5, 0)]) with now := 10 ^ 15 }
def lpiSleeps : State := lpiOn.put (F.LN_LANE_STAT_LPI_TX 5) 1
def lpiCalled : State := lpiSleeps.setPort 5 (fun q => { q with na := [⟨{ bytes := [1] }, 0⟩] })
theorem wit_laneFec : laneFec.laneState 5 = laneLocked ∧ laneFec.on (F.LN_LANE_CFG_FEC 5) = true ∧ laneLocks.on (F.LN_LANE_CFG_FEC 5) = false ∧
    laneFec.laneMode 5 ≠ 3 ∧ laneFec.on (F.LN_LANE_STAT_TXRST 5) = false ∧ laneFec.on (F.AP_PORT_STAT_CAL_BUSY 5) = false ∧ laneLocks.localFault 5 = false ∧
    laneX.laneMode 5 = 3 ∧ laneX.laneState 5 = laneLocked ∧ laneX.on (F.LN_LANE_CFG_AN 5) = true ∧ laneFec.get (F.LN_LANE_CFG_FEC 5) = 1 ∧
    laneFecMarks.get (F.LN_LANE_CFG_FEC 5) = 2 ∧ State.reset.laneState 5 ≠ laneLocked := by decide
theorem wit_lpi : lpiOn.lpiDue = true ∧ lpiOn.lineOut 5 = .frames ∧ State.reset.lpiDue = false ∧ (lpiCalled.port 5).na ≠ [] ∧
    lpiCalled.on (F.LN_LANE_STAT_LPI_TX 5) = true ∧ lpiOn.wakeDue = false ∧ (lpiOn.port 5).na = [] ∧ laneClient.laneState 3 = laneLocked ∧
    laneClient.on (F.LN_LANE_STAT_LINK 3) = true ∧ (laneClient.lane 3).lpiSeen = false := by decide

/-! ### FramesAreClassifiedAndPausesEnd -/

def macReady : State := also laneLocks [(F.MAC_PORT_CFG_EN 5, 1), (F.MAC_PORT_CFG_BCAST 5, 1), (F.MAC_PORT_CFG_PAUSE_RX_EN 5, 1)]
def macFull : State := macReady.setMac 5 (fun m => { m with rx := List.replicate 16 ⟨List.replicate 1024 0, { time := 0, valid := false, held := false }, false, false, false, 0⟩ })
def macPaused : State := macReady.setMac 5 (fun m => { m with pauseFrom := 0, pauseTo := some 512000000 })
def fragment : List Byte := List.replicate 10 0
def goodFrame : List Byte := List.replicate 60 0xFF ++ fcsOf (List.replicate 60 0xFF)
def pauseBody : List Byte := [0x01, 0x80, 0xC2, 0x00, 0x00, 0x01, 2, 3, 4, 5, 6, 7, 0x88, 0x08, 0, 1, 0, 2] ++ List.replicate 42 0
def pauseFrame : List Byte := pauseBody ++ fcsOf pauseBody
def endPauseBody : List Byte := [0x01, 0x80, 0xC2, 0x00, 0x00, 0x01, 2, 3, 4, 5, 6, 7, 0x88, 0x08, 0, 1, 0, 0] ++ List.replicate 42 0
def endPauseFrame : List Byte := endPauseBody ++ fcsOf endPauseBody
theorem wit_mac : macReady.macReceives 5 = true ∧ State.reset.macReceives 5 = false ∧ macReady.delivers 5 fragment = false ∧
    macReady.classify 5 fragment ∈ [RxClass.filtered, .fragment, .jabber] ∧ (macPaused.wire.macs.getD 5 {}).pauseTo = some 512000000 ∧
    (macReady.wire.macs.getD 5 {}).pauseTo = none ∧ macReady.on (F.MAC_PORT_CFG_PAUSE_RX_EN 5) = true ∧ macReady.on (F.LN_LANE_STAT_LINK 5) = true := by decide
theorem wit_frames : macReady.classify 5 goodFrame = .good ∧ macReady.delivers 5 goodFrame = true ∧ macReady.rxFull 5 goodFrame = false ∧
    macFull.macReceives 5 = true ∧ macFull.delivers 5 goodFrame = true ∧ macFull.rxFull 5 goodFrame = true ∧ macReady.classify 5 pauseFrame = .pause ∧
    pauseFrame.take 6 = [0x01, 0x80, 0xC2, 0x00, 0x00, 0x01] ∧ at2 pauseFrame 16 = 2 ∧ macReady.classify 5 endPauseFrame = .pause ∧
    at2 endPauseFrame 16 = 0 := by decide +kernel

/-! ### AppointmentsAreReleasedMissedOrSent -/

def oneSlot : ApSlot := { handle := 1, start := 0, dur := 64, len := 64, appt := 0 }
def slotBooked : State := macReady.setPort 5 (fun q => { q with slots := [oneSlot, { oneSlot with handle := 2, start := 10 ^ 9 }] })
def slotLoaded : State := macReady.setPort 5 (fun q => { q with slots := [{ oneSlot with msg := some { bytes := [1] } }] })
def slotLate : State := macReady.setPort 5 (fun q => { q with slots := [{ oneSlot with late := true }] })
def slotPast : State := { slotBooked with now := timeOf 1 0 }
def slotLoadedPast : State := { slotLoaded with now := timeOf 1 0 }
def slotAhead : State := macReady.setPort 5 (fun q => { q with slots := [{ oneSlot with start := 10 ^ 15 }] })
def slotPaused : State := slotBooked.setMac 5 (fun m => { m with pauseFrom := 0, pauseTo := some 512000000 })
def slotUnlinked : State := slotBooked.put (F.LN_LANE_STAT_LINK 5) 0
def naWaits : State := macReady.setPort 5 (fun q => { q with na := [⟨{ bytes := [1] }, 0⟩] })
def naBlocked : State := naWaits.setPort 5 (fun q => { q with slots := [{ oneSlot with start := 10 ^ 6 }] })
def naClear : State := naWaits.setPort 5 (fun q => { q with slots := [{ oneSlot with start := 10 ^ 15 }] })
def naOld : State := { naWaits with now := tuSec }
theorem wit_slots : (slotAhead.slotOf 5 1).map (fun x => (x.late, x.msg.isSome, slotAhead.pastDeadline x)) = some (false, false, false) ∧
    (slotPast.slotOf 5 1).map (fun x => (x.late, x.msg.isSome, slotPast.pastDeadline x)) = some (false, false, true) ∧
    (slotLoadedPast.slotOf 5 1).map (fun x => (x.late, x.msg.isSome)) = some (false, true) ∧
    (slotLate.slotOf 5 1).map (fun x => x.late) = some true ∧ macReady.slotOf 5 1 = none := by decide
theorem wit_grid : slotBooked.on (F.LN_LANE_STAT_LINK 5) = true ∧ slotBooked.on (F.MAC_PORT_CFG_EN 5) = true ∧ slotBooked.pausedAt 5 0 = false ∧
    slotPaused.pausedAt 5 0 = true ∧ slotUnlinked.on (F.LN_LANE_STAT_LINK 5) = false ∧ (slotBooked.port 5).slots.head? = some oneSlot ∧
    (∀ y ∈ (slotBooked.port 5).slots.tail, y.handle ≠ oneSlot.handle) ∧ (macReady.port 5).slots = [] ∧ slotLoaded.pausedAt 5 0 = false ∧
    slotLate.pausedAt 5 0 = false := by decide
theorem wit_na : (naWaits.port 5).na.length = 1 ∧ (naWaits.wire.macs.getD 5 {}).pauseTo = none ∧ (naWaits.port 5).slots = [] ∧
    naWaits.on (F.LN_LANE_STAT_LINK 5) = true ∧ naWaits.on (F.MAC_PORT_CFG_EN 5) = true ∧ (macReady.port 5).na = [] ∧
    (naOld.port 5).na.filter (fun f => f.since + naOld.naWait ≤ naOld.now) ≠ [] := by decide
theorem wit_naRoom : (naBlocked.port 5).slots.all (fun y => decide (y.start < (naBlocked.gridAt 5 0).toNat + naBlocked.occupancy 5 64 + naBlocked.guardFs)) = true ∧
    (naClear.port 5).slots.all (fun y => decide ((naClear.gridAt 5 0).toNat + naClear.occupancy 5 64 + naClear.guardFs ≤ y.start)) = true := by decide

/-! ### LatencyCalibrationIsBegunAndJudged -/

def latCals : State := (laneOn.put (F.AP_PORT_STAT_CAL_BUSY 2) 1).setLane 2 (fun l => { l with signal := true })
def latSpoilt : State := latCals.setPort 2 (fun q => { q with calSpoilt := true })
def latAgain : State := latCals.setPort 2 (fun q => { q with calPrev := [(9, 5, 5), (1, 200001, 0)] })
theorem wit_latCal : F.AP_CAL_REQ_GO.ofWord (0xA : Word) = 1 ∧ F.AP_CAL_REQ_PORT.ofWord (0xA : Word) = 2 ∧ laneOn.laneState 2 = laneDown ∧
    laneIdles.laneState 2 = laneIdle ∧ laneOn.judge (.pf 3) F.AP_CAL_REQ_GO.off true = .served ∧ F.AP_CAL_REQ_GO.ofWord (2 : Word) = 0 ∧
    State.reset.on (F.AP_PORT_STAT_CAL_BUSY 2) = false ∧ latCals.on (F.AP_PORT_STAT_CAL_BUSY 2) = true ∧ (latSpoilt.port 2).calSpoilt = true ∧
    (latCals.port 2).calSpoilt = false ∧ (latCals.port 2).calPrev = [] := by decide
theorem wit_latMoved : latAgain.laneMode 2 + 8 * latAgain.get (F.LN_LANE_CFG_FEC 2) = 1 ∧ (latAgain.port 2).calPrev = [(9, 5, 5), (1, 200001, 0)] ∧
    200000 < latDiff 0 200001 ∧ ¬200000 < latDiff 1 200001 ∧ (latCals.lane 2).signal = true ∧ latCals.on (F.LN_LANE_STAT_TXRST 2) = false ∧
    (latCals.lane 2).trained = true := by decide

/-! ### GlacierWritesBackScrubsAndPoisons -/

def glacierOn : State := st [(F.GL_STAT_STATE, 1), (F.GL_SCRUB_RATE_EN, 1)]
def glacierBack : State := { glacierOn with gl.back := [(8, encode13 7)] }
def glacierPassed : State := { glacierOn with gl.passDone := true, gl.deadline := some 0 }
def glacierLate : State := { glacierOn with gl.deadline := some 0, gl.passDone := false, now := 1 }
def glacierFlip : State := { glacierOn with gl.cells := [(3, 1)] }
def glacierBad : State := { glacierOn with gl.cells := [(0, 3), (1, 1)] }
def glacierPoisoned : State := { glacierOn with gl.cells := (List.range 8).map (fun i => (i, poison13)) }
def glacierLocked : State := glacierOn.takeLock 0 (.repair 0 0)
def glacierEnd : State := glacierOn.put F.EC_SCRUB_STAT_POS (2 ^ 33 - 8)
theorem wit_glacier : glacierBack.gl.back = [(8, encode13 7)] ∧ glacierBack.glReady = true ∧ State.reset.glReady = false ∧
    glacierOn.on F.GL_SCRUB_RATE_EN = true ∧ glacierOn.gl.passDone = false ∧ glacierOn.get F.EC_SCRUB_STAT_POS % 8 = 0 ∧
    glacierEnd.get F.EC_SCRUB_STAT_POS < 2 ^ 33 ∧ glacierPassed.gl.passDone = true ∧ glacierLate.gl.deadline = some 0 ∧ 0 ≤ glacierLate.now ∧
    glacierLate.gl.passDone = false ∧ State.reset.gl.deadline = none ∧ glacierOn.judge (.pf 0) F.GL_SCRUB_RATE_RATE.off true = .served := by decide
theorem wit_scrubbed : glacierLocked.lockOf (bankOf (glacierLocked.get F.EC_SCRUB_STAT_POS)) = some ⟨0, .repair 0 0, 0⟩ ∧
    glacierOn.lockOf (bankOf (glacierOn.get F.EC_SCRUB_STAT_POS)) = none ∧ (∀ i : Fin 8, decode13 ((glacierEnd.glUpset []).glCode (2 ^ 33 - 8 + i)) = .clean 0) ∧
    decode13 ((glacierFlip.glUpset []).glCode 3) = .fixed 0 ∧ (∀ i : Fin 8, i ≠ 3 → decode13 ((glacierFlip.glUpset []).glCode i) = .clean 0) ∧
    decode13 ((glacierBad.glUpset []).glCode 0) = .bad ∧ (glacierBad.glUpset []).glCode 0 ≠ poison13 ∧
    decode13 ((glacierPoisoned.glUpset []).glCode 7) = .bad := by decide +kernel

/-! ### RowsAreRepairedAndFusesBurned -/

def rowDue : State := { glacierOn.put F.EC_REPAIR_CFG_AUTO 1 with gl.due := [5 + 9 * 2 ^ 8] }
def rowErrs : State := { also glacierOn [(F.EC_REPAIR_CFG_AUTO, 1), (F.EC_REPAIR_CFG_THRESH, 0)] with gl.errs := [(5 + 9 * 2 ^ 8, 0), (5 + 9 * 2 ^ 8, 0)] }
def rowNoSpare : State := { rowDue with gl.badSpares := (List.range 32).map (fun k => (5, k)) }
def rowNoSoft : State := also rowErrs ((List.range 256).map (fun j => (F.EC_SOFT_ENTRY j, 2 ^ 31 + j)))
def rowHeld : State := rowDue.takeLock 5 (.repair 9 1)
def rowHeldNoSpare : State := rowNoSpare.takeLock 5 (.repair 9 1)
def bankHeld : State := rowDue.takeLock 5 (.cell 3 1 0)
def rowSpared : State := { rowDue with gl.spared := [5 + 9 * 2 ^ 8] }
def softHeld : State := st [(F.EC_SOFT_ENTRY 0, 2 ^ 31 + 5), (F.KV_STAT_LC, 2)]
def softTwo : State := softHeld.put (F.EC_SOFT_ENTRY 255) (2 ^ 31 + 6)
def softNone : State := st [(F.KV_STAT_LC, 1)]
def fuseFull : State := { softHeld with gl.fuse := List.replicate 1024 0 }
def fuseBurns : State := { softHeld.put F.EC_REPAIR_STAT_RUN 1 with gl.burning := [0] }
def fuseBurnsTwo : State := { softTwo.put F.EC_REPAIR_STAT_RUN 1 with gl.burning := [0, 255], gl.burned := 0 }
theorem wit_repair : rowDue.repairSource (5 + 9 * 2 ^ 8) = some 1 ∧ rowErrs.repairSource (5 + 9 * 2 ^ 8) = some 0 ∧
    rowErrs.rowErrors (5 + 9 * 2 ^ 8) = 2 ∧ max 1 (rowErrs.get F.EC_REPAIR_CFG_THRESH) = 1 ∧ rowSpared.repairSource (5 + 9 * 2 ^ 8) = none ∧
    rowDue.lockOf 5 = none ∧ rowDue.freeSpare 5 = some 0 ∧ rowDue.freeSoft = some 0 := by decide
theorem wit_repairEnds : rowHeld.lockOf 5 = some ⟨5, .repair 9 1, 0⟩ ∧ rowHeldNoSpare.lockOf 5 = some ⟨5, .repair 9 1, 0⟩ ∧
    bankHeld.lockOf 5 = some ⟨5, .cell 3 1 0, 0⟩ ∧ rowNoSpare.freeSpare 5 = none ∧ rowNoSoft.freeSoft = none := by decide +kernel
theorem wit_fuses : F.EC_FUSE_REQ_CONFIRM.ofWord (0x15A : Word) = 0x5A ∧ F.EC_FUSE_REQ_GO.ofWord (0x15A : Word) = 1 ∧ softHeld.get F.KV_STAT_LC = 2 ∧
    softHeld.on F.EC_REPAIR_STAT_RUN = false ∧ repairValid (softHeld.get (F.EC_SOFT_ENTRY 0)) = true ∧ softHeld.gl.fuse.length < 1024 ∧
    softNone.get F.KV_STAT_LC = 1 ∧ (List.range 256).filter (fun j => repairValid (softNone.get (F.EC_SOFT_ENTRY j))) = [] ∧
    fuseFull.gl.fuse.length = 1024 ∧ fuseBurns.gl.burning = [0] ∧ fuseBurnsTwo.gl.burning = [0, 255] ∧ softHeld.gl.burning = [] ∧
    softHeld.judge (.pf 0) F.EC_FUSE_REQ_GO.off true = .served := by decide +kernel

/-! ### KeyUseIsGrantedInOrder -/

def signer : State := st [(F.KV_SLOT_ATTR_ATTR 8, 2 ^ 7 + 2 ^ 12 + 2 ^ 16 + 2 ^ 25 + 4 * 2 ^ 26 + 2 ^ 31), (F.KV_STAT_LC, 2), (F.KV_STAT_ROOT, 1)]
theorem wit_keyCheck : signer.keyCheck 7 8 [4, 5] 25 = 0 := by decide
theorem wit_keyChecks : (signer.put F.TP_STAT_LATCH 1).keyCheck 7 8 [4, 5] 25 = 4 ∧ signer.keyCheck 7 8 [1] 25 = 5 ∧
    (signer.put F.KV_STAT_LC 1).keyCheck 7 8 [4, 5] 25 = 8 ∧ signer.keyCheck 3 8 [4, 5] 25 = 2 ∧ signer.keyCheck 7 8 [4, 5] 24 = 2 := by decide

/-! ### VaultOperationsStartAndAnswer -/

def vaultBusy : State := { signer.put F.KV_OP_STAT_BUSY 1 with kv.op := some { slot := 8, status := 0, out := [1, 2] } }
def vaultClears : State := { signer.put F.KV_OP_STAT_BUSY 1 with kv.op := some { slot := 8, status := 0, effect := .clear 127 } }
def vaultFills : State := { signer.put F.KV_OP_STAT_BUSY 1 with kv.op := some { slot := 8, status := 0, effect := .fill 9 [1] 5 } }
def vaultRotates : State := { signer.put F.KV_OP_STAT_BUSY 1 with kv.op := some { slot := 8, status := 0, effect := .rotate 7 6 } }
def vaultLatched : State := signer.put F.TP_STAT_LATCH 1
def maccer : State := st [(F.KV_SLOT_ATTR_ATTR 8, 2 ^ 7 + 2 ^ 12 + 2 ^ 16 + 2 ^ 21 + 3 * 2 ^ 26 + 2 ^ 31), (F.KV_STAT_LC, 2), (F.KV_STAT_ROOT, 1)]
theorem wit_vault : signer.judge (.pf 5) F.KV_OP_GO.off true = .served ∧ signer.on F.KV_OP_STAT_BUSY = false ∧ vaultBusy.on F.KV_OP_STAT_BUSY = true ∧
    vaultLatched.on F.TP_STAT_LATCH = true ∧ signer.keyCheck 7 8 [4, 5] 25 = 0 ∧ (448 : BitVec 11).toNat ≤ 448 ∧ signer.keyCheck 7 9 [4, 5] 25 ≠ 0 ∧
    maccer.keyCheck 7 8 [1, 3] 21 = 0 ∧ (1024 : BitVec 11).toNat ≤ 1024 ∧ signer.on F.TP_STAT_LATCH = false ∧ signer.get F.KV_STAT_ROOT = 1 ∧
    (7 : BitVec 7).toNat < 8 ∧ signer.get F.KV_STAT_LC = 2 := by decide
theorem wit_vaultEnds : vaultBusy.kv.op = some { slot := 8, status := 0, out := [1, 2] } ∧
    vaultClears.kv.op = some { slot := 8, status := 0, effect := .clear 127 } ∧ vaultFills.kv.op = some { slot := 8, status := 0, effect := .fill 9 [1] 5 } ∧
    vaultRotates.kv.op = some { slot := 8, status := 0, effect := .rotate 7 6 } ∧ signer.kv.op = none := by decide

/-! ### LifeCycleMovesForward -/

def blank : State := st [(F.KV_STAT_LC, 0)]
def provisioned : State := st [(F.KV_STAT_LC, 1)]
def fielded : State := st [(F.KV_STAT_LC, 2)]
def returned : State := st [(F.KV_STAT_LC, 3)]
def retired : State := st [(F.KV_STAT_LC, 4)]
theorem wit_lifeCycle : blank.get F.KV_STAT_LC = 0 ∧ provisioned.get F.KV_STAT_LC = 1 ∧ fielded.get F.KV_STAT_LC = 2 ∧ returned.get F.KV_STAT_LC = 3 ∧
    retired.get F.KV_STAT_LC = 4 ∧ (0xA5 : BitVec 8).toNat = 0xA5 ∧ (0 : BitVec 8).toNat ≠ 0xA5 ∧
    provisioned.judge (.pf 5) F.KV_LC_GO.off true = .served := by decide

/-! ### JournalQueuesAndWritesInOrder -/

def journalWaits : State := { State.reset with jl.queue := [⟨0x0601, 9, 0, 0⟩] }
def journalDropped : State := { journalWaits with jl.dropPend := 3 }
def journalTaken : State := { journalWaits with now := entrySpan - 1, jl.takenAt := some 0 }
def journalDue : State := { journalWaits with now := entrySpan, jl.takenAt := some 0 }
def journalRing : State := { journalWaits.put F.GL_STAT_STATE 1 with df.image := some { bytes := [], parts := [⟨3, 2 ^ 20, 2 ^ 30, 1⟩] } }
def journalFull : State := { State.reset with jl.queue := List.replicate 1024 ⟨0x0601, 9, 0, 0⟩ }
theorem wit_journal : journalWaits.jl.queue = [⟨0x0601, 9, 0, 0⟩] ∧ journalWaits.jl.dropPend = 0 ∧ 0 < journalDropped.jl.dropPend ∧
    State.reset.quiet = false ∧ State.reset.jl.queue = [] ∧ journalDropped.entryDue = true ∧ journalDue.entryDue = true ∧ journalTaken.entryDue = false ∧
    journalRing.journalBase = some (2 ^ 20) ∧ journalRing.glReady = true ∧ journalWaits.journalBase = none := by decide
theorem wit_journalFull : 1024 ≤ journalFull.jl.queue.length := by simp only [journalFull, List.length_replicate]; decide

/-! ### BlocksAreSealedInChain -/

def blockFull : State := { State.reset with jl.unsealed := List.replicate 2048 7 }
def blockOpen : State := { State.reset with jl.unsealed := List.replicate 2016 7 }
def blockPads : State := { blockOpen with now := timeOf 3600 0, jl.padHour := some 0 }
def hourStarts : State := { State.reset with now := timeOf 3600 0, jl.padHour := some 0 }
def hourPadded : State := { blockOpen with now := timeOf 3600 0, jl.padHour := some 1 }
theorem wit_blocks : 2048 ≤ blockFull.jl.unsealed.length ∧ blockOpen.jl.unsealed.length = 2016 ∧ State.reset.jl.unsealed = [] := by
  simp only [blockFull, blockOpen, List.length_replicate]; decide
theorem wit_pads : blockPads.padDue = true ∧ hourStarts.padDue = true ∧ hourStarts.jl.unsealed = [] ∧ hourPadded.padDue = false ∧
    { hourPadded with now := timeOf 3601 0 }.padDue = false := by decide +kernel
theorem wit_padEntries : 0 < blockPads.jl.unsealed.length / 32 ∧ blockPads.jl.unsealed.length % 32 = 0 := by
  simp only [blockPads, blockOpen, List.length_replicate]; decide

/-! ### CountersCountWrapAndReport -/

def counterTop : State := st [(F.PC_CNT_VALUE 3, 2 ^ 32 - 1), (F.PC_SEL_EN 3, 1), (F.PC_USER_EN_EN, 1), (F.PC_BW_CFG_EN 1, 1)]
def counterCarries : State := st [(F.PC_CNT_VALUE 254, 2 ^ 32 - 1), (F.PC_SEL_EN 254, 1), (F.PC_SEL_CHAIN 254, 1), (F.PC_CNT_VALUE 255, 7)]
def bwDue : State := { counterTop with now := tuSec, pc.rxBytes := [0, 5, 0, 0, 0, 0], pc.txBytes := [0, 2 ^ 33, 0, 0, 0, 0] }
def bwSpoilt : State := { bwDue with pc.spoilt := [false, true, false, false, false, false] }
def pcieDown : State := { counterTop with host.perst := true }
theorem wit_counter : counterTop.get (F.PC_CNT_VALUE 3) = 2 ^ 32 - 1 ∧ counterTop.on (F.PC_SEL_EN 3) = true ∧ counterTop.chained 3 = false ∧
    counterTop.on (F.PC_SEL_CHAIN 3) = false ∧ State.reset.on (F.PC_SEL_EN 255) = false ∧ counterTop.on F.PC_USER_EN_EN = true ∧
    State.reset.on F.PC_USER_EN_EN = false ∧ State.reset.host.perst = false ∧ State.reset.host.flr.getD 4 false = false ∧ pcieDown.host.perst = true ∧
    counterCarries.get (F.PC_CNT_VALUE 254) = 2 ^ 32 - 1 ∧ counterCarries.chained 254 = false ∧ counterCarries.on (F.PC_SEL_CHAIN 254) = true := by decide
theorem wit_bandwidth : counterTop.on (F.PC_BW_CFG_EN 1) = true ∧ State.reset.on (F.PC_BW_CFG_EN 1) = false ∧ bwDue.bwEnd 1 ≤ bwDue.now ∧
    counterTop.now < counterTop.bwEnd 1 ∧ bwDue.pc.spoilt.getD 1 false = false ∧ bwSpoilt.pc.spoilt.getD 1 false = true := by decide
theorem wit_counterWrite : State.reset.judge (.pf 4) (F.PC_SEL_EN 255).off true = .served ∧ State.reset.judge (.pf 4) (F.PC_BW_CFG_W 5).off true = .served ∧
    (F.PC_SEL_CLR 255).ofWord (4 : Word) = 1 ∧ (F.PC_SEL_CLR 255).ofWord (0 : Word) = 0 ∧ (F.PC_BW_CFG_CLR 5).ofWord (2 ^ 21 : Word) = 1 := by decide

/-! ### TimePassesBySampleTicks -/

def inFirn : State := { State.reset with power := .firn }
theorem wit_sampleTick : State.reset.getI F.TK_TS_FREQ_FREQ = 0 ∧ State.reset.power = .run ∧ inFirn.power ≠ .run := by decide

/-! ### CellsAcceptActAndPassTheirToken -/

def tokenOne : Token := {
  id := 1, floe := 3, place := .chan 7, deadline := deadlineWord (tuSec * 2), hash := 0, port := 0, cls := 0, flags := 0
  v := [5, 0, 0, 0, 0], buf := [1, 2, 3, 4], stamp := { time := tuSec, valid := true, held := false } }
def cellGraph (op : CellOp) : Graph := ⟨3, 0, [⟨op, [7], [8, 9, 10]⟩], [⟨7, [3]⟩, ⟨8, [3]⟩, ⟨9, [3]⟩, ⟨10, [3]⟩]⟩
def cellState (op : CellOp) : State := { st [(F.DF_STAT_STATE, 1)] with
  now := tuSec
  df.image := some { bytes := [], parts := [⟨3, 2 ^ 20, 64, 0⟩], graphs := [cellGraph op] }
  df.tokens := [tokenOne] }
def cellParses : State := cellState (.parse [(0, 1, 0)] [0])
def cellMatches : State := cellState (.compare 0 255 [(5, 1)])
def cellComputes : State := cellState (.compute .add 0 (some 0) 0 1)
def cellTables : State := cellState (.table (.sram 0 64) 4 0 .write 0 0)
def cellStamps : State := cellState (.stamp .sample 0)
def cellFetches : State := cellState (.stamp .fetch 0)
def cellEmits : State := cellState (.emit .drop)
def cellSends : State := cellState (.emit (.floe 4))
def cellHosts : State := cellState (.emit (.queue 0))
def cellCrypto : State := cellState (.crypto 0 .sha 0 0 0 0 4 0 0)
def cellBadCall : State := cellState (.crypto 0 .sha 0 0 0 0 5 0 0)
def cellLate : State := { cellMatches with now := tuSec * 3 }
def cellFull : State := { cellMatches with df.tokens := [tokenOne, { tokenOne with id := 2, place := .chan 9 }, { tokenOne with id := 3, place := .chan 9 }] }
def cellHolds : State := { cellMatches with df.tokens := [{ tokenOne with place := .cell 0, out := some 1 }] }
def cellHoldsLate : State := { cellHolds with now := tuSec * 3 }
def cellAwaits : State := { cellCrypto with df.tokens := [{ tokenOne with place := .cell 0 }] }
def cellEmpty : State := { cellMatches with df.tokens := [] }
def fabricOff : State := cellMatches.put F.DF_STAT_STATE 0
def cellBounds : State := cellState (.table (.sram 0 16) 4 0 .write 0 0)
def cellReads : State := cellState (.table (.sram 0 64) 4 0 .read 0 0)
def cellGlacier : State := (cellState (.table (.glacier 3) 4 0 .read 0 0)).put F.GL_STAT_STATE 1
def cellGlacierHeld : State := cellGlacier.takeLock 0 (.repair 1 0)
def cellSwaps : State := (cellState (.table (.glacier 3) 4 0 .cas 0 0)).put F.GL_STAT_STATE 1
def cellSwapping : State := { cellSwaps with df.tokens := [{ tokenOne with place := .cell 0 }] }.takeLock 0 (.cell 3 0 1)
def tokenTwo : Token := { tokenOne with port := 2, deadline := deadlineWord (tuSec * 1002) }
def appointState (op : CellOp) : State := { port2Up.put F.DF_STAT_STATE 1 with df.image := (cellState op).df.image, df.tokens := [tokenTwo] }
def cellAppoints : State := appointState (.stamp (.appoint none) 0)
def cellRefused : State := cellAppoints.put (F.AP_PORT_STAT_CAL_OK 2) 0
def cellHeldUp : State := cellAppoints.put (F.AP_PORT_STAT_HOLD 2) 1
def cellPorts : State := appointState (.emit .port)
def portSlot : ApSlot := { handle := 9, start := 2 * 10 ^ 18, dur := 64, len := 64, appt := timeOf 2000 0 }
def cellLoads : State := { cellPorts with df.tokens := [{ tokenTwo with slot := some 9 }] }.setPort 2 (fun q => { q with slots := [portSlot] })
def cellStrays : State := { cellPorts with df.tokens := [{ tokenTwo with slot := some 8 }] }
theorem wit_cells : [cellParses, cellMatches, cellComputes, cellTables, cellStamps, cellFetches, cellEmits, cellSends, cellHosts, cellCrypto, cellBadCall,
      cellFull, cellBounds, cellReads, cellGlacier, cellSwaps].all
        (fun s => s.cellOpen 3 0 && (s.cellLock 3 0).isNone && (s.cellAt 3 0).any (fun r => s.headToken 3 r 0 == some tokenOne) && !s.late tokenOne) = true ∧
    [cellAppoints, cellRefused, cellHeldUp, cellPorts].all
        (fun s => s.cellOpen 3 0 && (s.cellAt 3 0).any (fun r => s.headToken 3 r 0 == some tokenTwo) && !s.late tokenTwo) = true ∧
    cellLate.late tokenOne = true ∧ cellLate.cellOpen 3 0 = true ∧ (cellEmpty.cellAt 3 0).any (fun r => (cellEmpty.headToken 3 r 0).isNone) = true ∧
    State.reset.cellAt 3 0 = none ∧ fabricOff.get F.DF_STAT_STATE ≠ 1 := by decide
theorem wit_cellHolds : (cellHolds.tokenIn 3 0).map (·.out) = some (some 1) ∧ (cellAwaits.tokenIn 3 0).map (·.out) = some none ∧
    cellHolds.late tokenOne = false ∧ cellHoldsLate.late tokenOne = true ∧ cellHolds.cellLock 3 0 = none ∧
    cellSwapping.cellLock 3 0 = some ⟨0, .cell 3 0 1, tuSec⟩ ∧ (cellSwapping.tokenIn 3 0).isSome = true := by decide
theorem wit_cellRooms : cellMatches.roomFor tokenOne 9 = true ∧ cellFull.roomFor tokenOne 9 = false ∧ tokenOne.matchOutput 0 255 [(5, 1)] = 1 ∧
    tokenOne.parseOutput [0] = 0 ∧ (tokenOne.compute cellComputes.bufSize .add 0 (some 0) 0 1).2 = 0 ∧
    cellTables.tableAddr 3 (.sram 0 64) 4 5 = some (false, 786452) ∧ cellBounds.tableAddr 3 (.sram 0 16) 4 5 = none ∧
    cellGlacier.tableAddr 3 (.glacier 3) 4 5 = some (true, 2 ^ 20 + 20) ∧ bankOf (2 ^ 20 + 20) = 0 ∧ (cellGlacierHeld.lockOf 0).isSome = true ∧
    cellSwaps.lockOf 0 = none ∧ cellSwaps.glReady = true ∧ cellSends.ingressLevel 4 < 64 ∧
    cellCrypto.callStatus tokenOne (.crypto 0 .sha 0 0 0 0 4 0 0) = 0 ∧ cellBadCall.callStatus tokenOne (.crypto 0 .sha 0 0 0 0 5 0 0) = 3 := by decide
theorem wit_cellPorts : cellHeldUp.on (F.AP_PORT_STAT_HOLD 2) = true ∧ cellAppoints.on (F.AP_PORT_STAT_HOLD 2) = false ∧
    (cellRefused.apRequest 2 8 none).2 = none ∧ cellPorts.tooLong 2 { bytes := tokenTwo.buf } = false ∧
    (cellLoads.slotOf 2 9).map (fun x => (x.late, cellLoads.pastDeadline x, x.len)) = some (false, false, 64) ∧
    ({ bytes := tokenTwo.buf } : Msg).sentLen ≤ 64 ∧ cellStrays.slotOf 2 8 = none := by decide +kernel
theorem wit_cellGrant : (cellAppoints.apRequest 2 8 none).2.isSome = true := by decide +kernel
def ingressFull : State := { cellSends with df.tokens := tokenOne :: List.replicate 64 { tokenOne with id := 2, floe := 4, place := .ingress } }
theorem wit_ingressFull : 64 ≤ ingressFull.ingressLevel 4 ∧ ingressFull.cellOpen 3 0 = true ∧
    (ingressFull.cellAt 3 0).any (fun r => ingressFull.headToken 3 r 0 == some tokenOne) = true := by decide

/-! ### CryptoLanesAreGrantedFreedAndRevoked -/

def shaCall : CxReq := { tok := 1, floe := 3, cell := 0, port := 6, kind := 1, issued := tuSec }
def cryptoWaits : State := { cellCrypto with df.tokens := [{ tokenOne with place := .cell 0 }], df.cx := [shaCall] }
def cryptoNoLane : State := cryptoWaits.put F.CX_STAT_SHA_BUSY 0xFFF
def cryptoHeld : State := { cryptoWaits.put F.CX_STAT_SHA_BUSY 1 with df.cx := [{ shaCall with lane := some 0, granted := tuSec }] }
def cryptoOverdue : State := { cryptoHeld with df.cx := [{ shaCall with lane := some 0, granted := 0 }] }
def cryptoVerifies : State := { cellState (.crypto 0 .hmacVerify 0 0 0 0 0 0 0) with
  df.tokens := [{ tokenOne with place := .cell 0, buf := List.replicate 32 0 }], df.cx := [{ shaCall with lane := some 0, granted := tuSec }] }
theorem wit_crypto : cryptoWaits.nextCx 1 = some shaCall ∧ State.reset.nextCx 2 = none ∧ (11 : Nat) < laneCount 1 ∧
    (List.range (laneCount 1)).find? (fun l => (cryptoWaits.get (cxBusy 1) ||| cryptoWaits.get (cxOff 1)) / 2 ^ l % 2 == 0) = some 0 ∧
    (List.range (laneCount 1)).find? (fun l => (cryptoNoLane.get (cxBusy 1) ||| cryptoNoLane.get (cxOff 1)) / 2 ^ l % 2 == 0) = none ∧
    cryptoHeld.holderOf 1 0 = some { shaCall with lane := some 0, granted := tuSec } ∧ cryptoHeld.holderOf 1 11 = none ∧
    cryptoHeld.now ≤ tuSec + cryptoHeld.holdMax 1 ∧ 0 + cryptoOverdue.holdMax 1 < cryptoOverdue.now ∧
    (cryptoHeld.df.tokens.find? (fun k => k.id == 1)).isSome = true := by decide
theorem wit_cryptoResult : (CxOp.sha.result 0 [] [] [1, 2, 3, 4] []).1 = true ∧
    (CxOp.hmacVerify.result 0 [] [] [] (List.replicate 32 0)).1 = false := by decide +kernel

/-! ### FramesReachTokensAndHostQueues -/

def plainFrame : RxFrame := ⟨List.replicate 20 0, { time := 0, valid := false, held := false }, false, false, false, 0⟩
def classedFrame : RxFrame := ⟨List.replicate 12 0 ++ [0x88, 0xF7] ++ List.replicate 6 0, { time := 5, valid := true, held := false }, false, false, false, 0⟩
def frameWaits : State := cellMatches.setMac 2 (fun m => { m with rx := [plainFrame] })
def frameQueued : State := also frameWaits [(F.PT_RX_CFG_EN 0, 1), (F.PT_RX_PTR_TAIL 0, 5)]
def classImage (timed : Bool) : Image := { bytes := [], classes := [⟨0x88F7, none, none, 9, timed, 7⟩] }
def frameTimed : State := { cellMatches.setMac 2 (fun m => { m with rx := [classedFrame, plainFrame] }) with df.image := some (classImage true) }
def frameClassed : State := { frameTimed with df.image := some (classImage false) }
def frameTooLong : State := { frameTimed with df.image := some { classImage true with bufSize := 19 } }
def frameNoRoom : State := { frameTimed with df.tokens := List.replicate 64 { tokenOne with floe := 0, place := .ingress } }
def framesOff : State := frameTimed.put F.DF_STAT_STATE 0
def txReady : State := st [(F.PT_TX_CFG_EN 7, 1), (F.PT_TX_PTR_TAIL 7, 3)]
def lockOverdue : State := { glacierLocked with now := 2 ^ 100 }
def swapOverdue : State := { cellSwapping with now := 2 ^ 100 }
def tokenBehind : State := { cellLate with df.tokens := [tokenOne, { tokenOne with id := 2 }] }
theorem wit_distributor : (frameWaits.wire.macs.getD 2 {}).rx = [plainFrame] ∧ frameWaits.df.image.isSome = true ∧ frameWaits.get F.DF_STAT_STATE = 1 ∧
    frameWaits.on (F.PT_RX_CFG_EN 0) = false ∧ frameQueued.on (F.PT_RX_CFG_EN 0) = true ∧
    frameQueued.get (F.PT_RX_PTR_HEAD 0) % ringSize (frameQueued.get (F.PT_RX_CFG_SIZE 0)) ≠
      frameQueued.get (F.PT_RX_PTR_TAIL 0) % ringSize (frameQueued.get (F.PT_RX_CFG_SIZE 0)) ∧ State.reset.df.image = none ∧
    framesOff.get F.DF_STAT_STATE ≠ 1 := by decide
theorem wit_classes : (classImage true).classes.find? (fun r => r.matches (untag plainFrame.bytes)) = none ∧
    (classImage true).classes.find? (fun r => r.matches (untag classedFrame.bytes)) = some ⟨0x88F7, none, none, 9, true, 7⟩ ∧
    classedFrame.bytes.length = 20 ∧ frameTimed.ingressLevel (frameTimed.distFloe (crc32c (flowKey (untag classedFrame.bytes)) % 256)) < 64 := by decide +kernel
theorem wit_noIngress : frameNoRoom.distFloe (crc32c (flowKey (untag classedFrame.bytes)) % 256) = 0 ∧ 64 ≤ frameNoRoom.ingressLevel 0 := by decide +kernel
theorem wit_txQueue : txReady.on (F.PT_TX_CFG_EN 7) = true ∧ txReady.get (F.PT_TX_PTR_HEAD 7) % ringSize (txReady.get (F.PT_TX_CFG_SIZE 7)) ≠
    txReady.get (F.PT_TX_PTR_TAIL 7) % ringSize (txReady.get (F.PT_TX_CFG_SIZE 7)) ∧ txReady.tooLong 2 { bytes := [1, 2] } = false ∧
    txReady.tooLong 2 { bytes := List.replicate 2000 0 } = true ∧
    State.reset.on (F.PT_TX_CFG_EN 7) = false ∧ txReady.judge (.pf 3) (F.PT_TX_PTR_TAIL 7).off true = .served := by decide +kernel
theorem wit_tokenLate : (tokenBehind.df.tokens.find? (fun k => k.id == 1)).map (fun k => (tokenBehind.atHead k, tokenBehind.late k, tokenBehind.gateOf k)) =
      some (true, true, 3) ∧
    (tokenBehind.df.tokens.find? (fun k => k.id == 2)).map tokenBehind.atHead = some false ∧ cellLate.df.tokens.find? (fun k => k.id == 2) = none ∧
    cellMatches.late tokenOne = false := by decide
theorem wit_lockRevoke : (lockOverdue.lockOf 0).map lockOverdue.lockOverdue = some true ∧ (glacierLocked.lockOf 0).map glacierLocked.lockOverdue = some false ∧
    (swapOverdue.lockOf 0).map (fun l => (l.holder, swapOverdue.lockOverdue l)) = some (.cell 3 0 1, true) ∧ (swapOverdue.tokenIn 3 0).isSome = true ∧
    glacierLocked.lockOf 1 = none := by decide

/-! ### LeapTableChangesAndIsRefused -/

def leapOne : State := st [(F.PT_LEAP_TE 0, 1483228836), (F.PT_LEAP_DELTA 0, 37), (F.PT_LEAP_VALID 0, 1)]
def leapFull : State := State.reset.putLeaps ((List.range 64).map (fun j => ⟨1000000000 + j * 100000, 10, 1⟩))
def smearIn : State := { smearing with now := timeOf (1483228836 - 10800) 0 }
theorem wit_leap : leapOne.leaps.length = 1 ∧ leapOne.judge (.pf 3) F.PT_LEAP_WR_TE.off true = .served ∧
    leapFault (leapOne.leaps.filter (fun x => x.te < 1483228836 + 86401)) ⟨1483228836 + 86401, 38, 1⟩ [] = 0 ∧
    leapFault (leapOne.leaps.filter (fun x => x.te < 1483228836 + 86401)) ⟨1483228836 + 86401, 37, 1⟩ [] = 1 ∧
    (leapOne.leaps.any (fun x => x.te == 1483228836)) = true ∧ (∀ x ∈ leapOne.leaps, x.te < 2 ^ 48) ∧ (∀ x ∈ leapOne.leaps, x.te ≠ 7) := by decide
theorem wit_leapFull : leapFull.leaps.length = 64 ∧ leapFault leapFull.leaps ⟨1006387210, 11, 1⟩ [] = 0 := by decide +kernel
theorem wit_smear : State.reset.smearAt 7 State.reset.sec = none ∧ smearIn.smearAt 1 smearIn.sec ≠ none := by decide +kernel

/-! ### EsmcIsSentReceivedAndTimesOut -/

def esmcOn : State := st [(F.DF_STAT_STATE, 1), (F.PT_PORT_ESMC_TX_EN 5, 1), (F.PT_PORT_ESMC_RX_EN 5, 1), (F.PT_PORT_ESMC_RX_OK 5, 1)]
def esmcMute : State := st [(F.DF_STAT_STATE, 1)]
def esmcLate : State := { esmcOn.setPt 5 (fun q => { q with esmcAt := some 0 }) with now := 5 * tuSec }
def esmcHeard : State := { esmcLate with now := 5 * tuSec - 1 }
theorem wit_esmc : esmcOn.get F.DF_STAT_STATE = 1 ∧ esmcOn.on (F.PT_PORT_ESMC_TX_EN 5) = true ∧ esmcMute.on (F.PT_PORT_ESMC_TX_EN 5) = false ∧
    esmcOn.on (F.PT_PORT_ESMC_RX_EN 5) = true ∧ esmcMute.on (F.PT_PORT_ESMC_RX_EN 5) = false ∧ esmcOn.on (F.PT_PORT_ESMC_RX_OK 5) = true ∧
    esmcMute.on (F.PT_PORT_ESMC_RX_OK 5) = false ∧ esmcOn.get (F.PT_PORT_ESMC_QL_RX 5) ≠ (2 : BitVec 4).toNat ∧
    esmcOn.get (F.PT_PORT_ESMC_QL_RX 5) = (15 : BitVec 4).toNat ∧ esmcLate.esmcSilent 5 = true ∧ esmcHeard.esmcSilent 5 = false ∧
    State.reset.get F.DF_STAT_STATE ≠ 1 := by decide

/-! ### NtpRequestsAreJudgedInOrder -/

def ntpPeer : Peer := { transport := 1, mac := [1, 2, 3, 4, 5, 6], ip := [10, 0, 0, 1], udp := 123 }
def ntpAsk : NtpRequest := { peer := ntpPeer, length := 48, version := 4, mode := 3, poll := 6, transmit := [1, 2, 3, 4, 5, 6, 7, 8], legacyMac := false, bursis := false, nts := none }
def ntpLinked : State := also leapOne [(F.DF_STAT_STATE, 1), (F.PT_PORT_SVC_NTP_EN 5, 1), (F.KV_STAT_ROOT, 1), (F.LN_LANE_STAT_LINK 5, 1), (F.MAC_PORT_CFG_EN 5, 1),
  (F.AP_PORT_STAT_CAL_OK 5, 1), (F.LN_LANE_CFG_MODE 5, 1), (F.PT_CLASS_RATE 0, 0)]
def ntpServes : State := { ntpLinked with now := 1700000000 * tuSec }
def ntpUncal : State := ntpServes.put (F.AP_PORT_STAT_CAL_OK 5) 0
def ntpSilent : State := also ntpServes [(F.KV_STAT_ROOT, 2), (F.PT_PORT_SVC_NTP_EN 3, 1)]
def ntpKeyless : State := ntpServes.put F.KV_STAT_ROOT 2
def ntpNoUtc : State := { ntpServes with now := 5 * tuSec }
def ntpNts : State := ntpServes.put (F.PT_CLASS_NTS_REQ 0) 1
def ntpStampNow : TStamp := { time := 1700000000 * tuSec, valid := true, held := false }
def ntpStampBad : TStamp := { ntpStampNow with valid := false }
def ntpBad : NtpRequest := { ntpAsk with length := 47 }
def ntpMode7 : NtpRequest := { ntpAsk with mode := 7 }
def ntsFields : NtsFields := { uid := List.replicate 32 1, cookies := [List.replicate 104 0], placeholders := 0, auth := some ([1], [2], [3]) }
def ntsAsk : NtpRequest := { ntpAsk with nts := some ntsFields }
def ntsShort : NtpRequest := { ntpAsk with nts := some { ntsFields with uid := List.replicate 31 1 } }
def ntpRated : State := { also ntpServes [(F.GL_STAT_STATE, 1), (F.PT_CLASS_RATE 0, 1), (F.PT_CLASS_BURST 0, 1)] with
  df.image := some { bytes := [], parts := [⟨4, 0, 2 ^ 27, 0⟩], buckets := 4 } }
def ntpLimited : State := ((ntpRated.charge 0 ntpPeer ntpStampNow true).1).put (F.PT_CLASS_KOD_EN 0) 0
def ntpKisses : State := ntpLimited.put (F.PT_CLASS_KOD_EN 0) 1
theorem wit_ntp : ntpServes.serving = true ∧ ntpServes.on (F.PT_PORT_SVC_NTP_EN 5) = true ∧ 48 ≤ ntpAsk.length ∧ ntpBad.length = 47 ∧ ntpMode7.mode = 7 ∧
    (ntpServes.delta (secOf ntpStampNow.time)).isSome = true ∧ ntpServes.stampBad ntpStampNow = false ∧
    ntpServes.stampBad ntpStampBad = true ∧ ntpServes.silenced 5 = false ∧ ntpSilent.silenced 3 = true ∧
    ntpServes.classOf 5 ntpPeer = 0 ∧ ntpNts.on (F.PT_CLASS_NTS_REQ 0) = true ∧ ntpServes.on (F.PT_CLASS_NTS_REQ 0) = false ∧
    ntpServes.get (F.PT_CLASS_RATE 0) = 0 ∧ ntpServes.on (F.AP_PORT_STAT_HOLD 5) = false ∧ (ntpNoUtc.delta (secOf ntpNoUtc.now)).isSome = false ∧
    State.reset.serving = false := by decide
theorem wit_ntpGranted : (ntpServes.judgeRequest 5 110 none).isRight = true ∧ (ntpUncal.judgeRequest 5 110 none).isRight = false := by decide
theorem wit_ntpCharged : (ntpLimited.charge 0 ntpPeer ntpStampNow true).2 = .limited ∧ (ntpKisses.charge 0 ntpPeer ntpStampNow true).2 = .kiss ∧
    ntpKisses.tooLong 5 { peer := some ntpPeer, bytes := ntpKisses.kiss ntpAsk kissRate } = false := by decide +kernel
theorem wit_nts : ntpServes.keysGone = false ∧ ntpKeyless.keysGone = true ∧ ntpKeyless.silenced 5 = false ∧ ntsAsk.nts = some ntsFields ∧
    ntsFields.uid.length = 32 ∧ ntpServes.openCookie (List.replicate 104 0) = none ∧
    ntpServes.keyCheck 8 (ntpServes.get F.PT_NTS_CFG_CUR_SLOT) [2] 19 ≠ 0 := by decide +kernel

/-! ### GrandmasterGrantsDeniesAndAnswers -/

def ptpPeer : Peer := { transport := 0, mac := [1, 2, 3, 4, 5, 6] }
def ptpHeadOne : PtpHead := { peer := ptpPeer, domain := 24, src := List.replicate 10 1, seq := 1, corr := 0 }
def ptpMaster : State := also ntpServes [(F.PT_PORT_PTP_ROLE 2, 1), (F.PT_PORT_PTP_PROFILE 2, 1), (F.PT_PORT_PTP_DOMAIN 2, 24), (F.PT_CLOCK_ID_ID, 5),
  (F.LN_LANE_STAT_LINK 2, 1), (F.MAC_PORT_CFG_EN 2, 1), (F.AP_PORT_STAT_CAL_OK 2, 1), (F.LN_LANE_CFG_MODE 2, 1), (F.PT_PORT_SVC_BUDGET 2, 9)]
def ptpUncal : State := ptpMaster.put (F.AP_PORT_STAT_CAL_OK 2) 0
def ptpNoBudget : State := ptpMaster.put (F.PT_PORT_SVC_BUDGET 2) 0
def ptpTableFull : State := ptpMaster.put F.PT_SESS_COUNT 4194304
def ptpGlacier : State := { ptpMaster.put F.GL_STAT_STATE 1 with
  df.image := some { bytes := [], parts := [⟨4, 0, 2 ^ 27, 0⟩, ⟨5, 2 ^ 28, 2 ^ 28, 0⟩, ⟨6, 2 ^ 29, 2 ^ 26, 0⟩], buckets := 4, sessions := 5, index := 6 } }
def ptpRated : State := ((also ptpGlacier [(F.PT_CLASS_RATE 0, 1), (F.PT_CLASS_BURST 0, 1)]).charge 0 ptpPeer ntpStampNow false).1
def sessionOne : Session := {
  transport := 0, port := 2, authed := false, tagged := false, domain := 24, spp := 0xFF, id := List.replicate 10 1, tci := 0, mac := ptpPeer.mac, ip := []
  logs := [0, 0, 0], seqSync := 0, seqAnn := 0, expiry := [1700000300, 1700000300, 1700000300], renewals := 0 }
def ptpSession : State :=
  let q := (ptpGlacier.setPt 2 (fun x => { x with rate := 48 })).takeSession (ptpHeadOne.key 2)
  q.1.writeSession q.2 sessionOne
def ptpUnicast : State := ptpSession.put (F.PT_PORT_PTP_PROFILE 2) 2
def ptpSessionTight : State := ptpSession.put (F.PT_PORT_SVC_BUDGET 2) 2
def ptpSessionOver : State := { ptpSession with now := 1700000300 * tuSec }
def ptpSessionPast : State := { ptpUnicast with now := 1700000301 * tuSec }
def ptpAskOne : PtpUnicast := { head := ptpHeadOne, msgType := 0, logPeriod := 0, duration := 60 }
def ptpAskNone : PtpUnicast := { ptpAskOne with msgType := 3 }
def ptpAskSlow : PtpUnicast := { ptpAskOne with logPeriod := 5 }
def ptpPeerIp : Peer := { transport := 1, mac := [1, 2, 3, 4, 5, 6], ip := [10, 0, 0, 1], udp := 320 }
def ptpHeadIp : PtpHead := { ptpHeadOne with peer := ptpPeerIp, domain := 44 }
theorem wit_master : ptpMaster.hears 2 1 ptpHeadOne = true ∧ State.reset.ptpRole 2 ≠ 1 ∧ ptpMaster.get (F.PT_CLASS_RATE (ptpMaster.classOf 2 ptpPeer)) = 0 ∧
    grantIndex 0 = some 1 ∧ grantIndex 3 = none ∧ ptpMaster.minLog 1 ≤ 0 ∧ ptpAskSlow.logPeriod = 5 ∧
    (ptpMaster.ptPort 2).rate + rateOf 0 ≤ 16 * ptpMaster.get (F.PT_PORT_SVC_BUDGET 2) ∧
    16 * ptpNoBudget.get (F.PT_PORT_SVC_BUDGET 2) < (ptpNoBudget.ptPort 2).rate + rateOf 0 ∧
    ptpMaster.ptpSends 2 = true ∧ ptpMaster.ptpProfile 2 = 1 ∧ ptpUnicast.ptpProfile 2 = 2 ∧ ptpUnicast.hears 2 1 ptpHeadIp = true ∧ (ptpUnicast.delayGrant 2 ptpHeadIp).2 = none ∧ ptpMaster.on (F.AP_PORT_STAT_HOLD 2) = false ∧
    ptpMaster.stampBad ntpStampNow = false ∧ ptpMaster.stampBad ntpStampBad = true := by decide +kernel
theorem wit_masterSession : (ptpMaster.findSession (ptpHeadOne.key 2)).2 = none ∧ (ptpMaster.findSession (ptpHeadOne.key 2)).1.canHold (ptpHeadOne.key 2) = true ∧
    (ptpTableFull.findSession (ptpHeadOne.key 2)).1.canHold (ptpHeadOne.key 2) = false ∧ (ptpMaster.delayGrant 2 ptpHeadOne).2 = none := by decide +kernel
theorem wit_session : (ptpSession.findSession (ptpHeadOne.key 2)).2 = some (0, sessionOne) ∧ (ptpSession.readSession 0).2 = some sessionOne ∧
    (ptpSession.delayGrant 2 ptpHeadOne).2 = some sessionOne ∧ (∀ j : Fin 3, ptpSession.grantOver sessionOne j = false) ∧
    ptpSessionOver.grantOver sessionOne 2 = true ∧ (ptpMaster.readSession 5).2 = none := by decide +kernel
theorem wit_sessionRate : (ptpSession.ptPort 2).rate = 48 ∧ 48 - rateOf 0 + rateOf 0 ≤ 16 * ptpSession.get (F.PT_PORT_SVC_BUDGET 2) ∧
    16 * ptpSessionTight.get (F.PT_PORT_SVC_BUDGET 2) < 48 - rateOf 0 + rateOf 0 := by decide +kernel
theorem wit_masterRated : (ptpRated.charge 0 ptpPeer ntpStampNow false).2 = .limited := by decide +kernel
theorem wit_masterJobs : (ptpMaster.jobBytes 2 ptpMaster.now (.sync (ptpMaster.multicast 2 true) false 0 0)).isSome = true ∧
    (ptpMaster.jobBytes 2 ptpMaster.now (.announce (ptpMaster.multicast 2 false) false 0 0)).isSome = true ∧
    (ptpMaster.jobBytes 2 ptpMaster.now (.delayResp (ptpMaster.multicast 2 false) false 0 1 (List.replicate 10 1) 0 ntpStampNow)).isSome = true := by
  decide +kernel
theorem wit_sessionJob : (ptpSession.jobBytes 2 ptpSession.now (.sync (sessionOne.peer true) true (ptpSession.sppOf 2 sessionOne) 0)).isSome = true ∧
    (ptpMaster.judgeRequest 2 110 none).isRight = true ∧ (ptpUncal.judgeRequest 2 110 none).isRight = false := by decide +kernel

/-! ### ClientFollowsItsUpstream -/

def ptpClient : State := also ptpMaster [(F.PT_PORT_PTP_ROLE 2, 2), (F.PT_PORT_CLIENT_UNICAST 2, 0), (F.MAC_PORT_CFG_MAX_LEN 2, 1518)]
def ptpAnn : PtpAnnounce := { head := ptpHeadOne, gmId := [1], gmClass := 6, accuracy := 0x20, variance := 1, prio1 := 1, prio2 := 1, steps := 0, utcOffset := 37, utcValid := true, leap61 := false, leap59 := false, timeTraceable := true }
def ptpAnnTwo : PtpAnnounce := { ptpAnn with head := { ptpHeadOne with src := List.replicate 10 2 }, prio1 := 9 }
def syncOne : PtpSync := { head := ptpHeadOne, twoStep := false, sec := 1700000000, ns := 5 }
def syncTwo : PtpSync := { syncOne with twoStep := true }
def delayRespOne : PtpDelayResp := { head := ptpHeadOne, requester := ptpClient.portIdentity 2, sec := 1700000000, ns := 5 }
def delayRespOld : PtpDelayResp := { delayRespOne with head := { ptpHeadOne with seq := 7 } }
def grantOne : PtpUnicast := { head := ptpHeadOne, msgType := 0xB, logPeriod := 0, duration := 60 }
def grantIp : PtpUnicast := { grantOne with head := ptpHeadIp }
def grantIpOdd : PtpUnicast := { grantIp with msgType := 3 }
def grantOdd : PtpUnicast := { grantOne with msgType := 3 }
def ptpFollows : State := ptpClient.setPt 2 (fun q => { q with
  followed := some (List.replicate 10 1), announces := [(ptpAnn, 1700000000 * tuSec)], sync := some ⟨1, 2⟩, request := some (1, 3), syncAt := some (1700000000 * tuSec) })
def ptpAlone : State := ptpFollows.setPt 2 (fun q => { q with request := none })
def ptpRivals : State := ptpFollows.setPt 2 (fun q => { q with announces := q.announces ++ [(ptpAnnTwo, 1700000000 * tuSec)] })
def ptpSilent : State := { ptpRivals with now := 1700000100 * tuSec }
def ptpUnicasts : State := ptpClient.put (F.PT_PORT_CLIENT_UNICAST 2) 1
def ptpGranted : State := (ptpFollows.put (F.PT_PORT_CLIENT_UNICAST 2) 1).setPt 2 (fun q => { q with
  grants := [60, 60, 60], grantAt := [1700000000 * tuSec, 1700000000 * tuSec, 1700000000 * tuSec] })
def ptpRenews : State := { ptpGranted with now := 1700000030 * tuSec }
def ptpUnicastIp : State := also ptpUnicasts [(F.PT_PORT_PTP_PROFILE 2, 2), (F.PT_PORT_PTP_DOMAIN 2, 44), (F.PT_PORT_UPSTREAM_LO_ADDR 2, 0x0A000001)]
theorem wit_client : ptpClient.hears 2 2 ptpHeadOne = true ∧ ptpClient.fromUpstream 2 ptpHeadOne = true ∧ (ptpClient.ptPort 2).announces = [] ∧
    ptpFollows.fromFollowed 2 ptpHeadOne = true ∧ (ptpFollows.ptPort 2).sync = some ⟨1, 2⟩ ∧ (ptpFollows.ptPort 2).request = some (1, 3) ∧
    (ptpAlone.ptPort 2).request = none ∧ (ptpFollows.ptPort 2).followed = some ptpAnn.head.src ∧ State.reset.ptpRole 2 ≠ 2 ∧
    delayRespOne.requester = ptpFollows.portIdentity 2 ∧ delayRespOld.head.seq ≠ 1 ∧ syncTwo.twoStep = true ∧ syncOne.twoStep = false := by decide
theorem wit_clientUnicast : ptpUnicasts.on (F.PT_PORT_CLIENT_UNICAST 2) = true ∧ ptpUnicasts.hears 2 2 ptpHeadOne = true ∧
    ptpUnicasts.fromUpstream 2 ptpHeadOne = false ∧ ptpUnicastIp.hears 2 2 ptpHeadIp = true ∧ ptpUnicastIp.fromUpstream 2 ptpHeadIp = true ∧
    ptpUnicasts.ptpSends 2 = true ∧ ptpUnicasts.on (F.PT_PORT_PTP_AUTH_REQ 2) = false ∧ ptpFollows.on (F.PT_PORT_CLIENT_UNICAST 2) = false ∧
    grantIndex grantOne.msgType = some 0 ∧ grantIndex grantOdd.msgType = none ∧ ptpUnicasts.renewDue 2 0 = true ∧ ptpGranted.renewDue 2 0 = false ∧
    ptpRenews.renewDue 2 0 = true ∧ ptpRenews.grantHeld 2 2 = true := by decide
theorem wit_clientTimes : ptpFollows.syncRecent 2 = true ∧ ptpSilent.syncRecent 2 = false ∧ ptpFollows.annRecent 2 (List.replicate 10 1) = true ∧
    ptpSilent.annRecent 2 (List.replicate 10 1) = false := by decide
theorem wit_ptpWrite : ptpClient.judge (.pf 3) (F.PT_PORT_PTP_ROLE 2).off true = .served ∧ (F.PT_PORT_PTP_PROFILE 2).ofWord (0x4 : Word) = 1 ∧
    State.reset.get (F.PT_PORT_PTP_PROFILE 2) ≠ 1 ∧ State.reset.judge (.pf 3) (F.PT_PORT_PTP_ROLE 2).off true = .served ∧
    ptpClient.get (F.PT_PORT_PTP_PROFILE 2) = 1 := by decide

/-! ### TamperSourcesLatchAndZeroise -/

def tamperArmed : State := st [(F.TP_CFG_IN_EN, 15), (F.TP_CFG_POL, 15), (F.TP_CFG_DEBOUNCE, 0), (F.TP_CFG_VMON, 1), (F.TP_CFG_TMON, 1), (F.TP_CFG_CMON, 1)]
def tamperBounces : State := { tamperArmed.put F.TP_CFG_DEBOUNCE 1 with kv.debounce := [some 0, some 0, some 0, some 0] }
def tamperSettles : State := { tamperBounces with now := 10 * tuMs }
def tamperSlow : State := tamperArmed.put F.TP_CFG_DEBOUNCE 1
def tamperLatched : State := tamperArmed.put F.TP_STAT_LATCH 1
theorem wit_tamper : tamperArmed.tamperLevel 3 true = true ∧ tamperArmed.get F.TP_CFG_DEBOUNCE = 0 ∧ tamperSettles.debounced 3 = true ∧
    tamperBounces.debounced 3 = false ∧ 0 < tamperBounces.get F.TP_CFG_DEBOUNCE ∧ tamperArmed.tamperLevel 3 false = false ∧
    tamperArmed.on F.TP_CFG_VMON = true ∧ tamperArmed.on F.TP_CFG_TMON = true ∧ tamperArmed.on F.TP_CFG_CMON = true ∧
    voltageTamper 901 0 = true ∧ voltageTamper 900 0 = false ∧ tempTamper 200 = true ∧ tempTamper 50 = false ∧
    tamperArmed.on F.TP_STAT_LATCH = false ∧ tamperLatched.on F.TP_STAT_LATCH = true := by decide

/-! ### MateLinkSendsReceivesAndLeases -/

def mateOn : State := also laneOn [(F.RD_MATE_CFG_EN, 1), (F.RD_MATE_STAT_LINK, 1), (F.RD_MATE_STAT_ROLE, 2), (F.RD_MATE_CFG_SLOT, 9),
  (F.KV_SLOT_ATTR_ATTR 9, 2 ^ 8 + 2 ^ 9 + 2 ^ 10 + 2 ^ 11 + 2 ^ 12 + 2 ^ 13 + 2 ^ 16 + 2 ^ 21 + 2 ^ 22 + 3 * 2 ^ 26 + 2 ^ 31), (F.KV_STAT_LC, 2), (F.KV_STAT_ROOT, 1),
  (F.LN_LANE_STAT_LINK 4, 1), (F.MAC_PORT_CFG_EN 4, 1), (F.AP_PORT_STAT_CAL_OK 4, 1), (F.LN_LANE_CFG_MODE 4, 1), (F.DF_STAT_STATE, 1)]
def mateAlone : State := mateOn.put F.RD_MATE_STAT_ROLE 0
def mateDown : State := also mateOn [(F.RD_MATE_STAT_LINK, 0), (F.RD_MATE_STAT_ROLE, 1)]
def mateKeyless : State := mateOn.put F.KV_STAT_ROOT 3
def mateHolds : State := mateOn.put (F.AP_PORT_STAT_HOLD 4) 1
def mateGlacier : State := mateAlone.put F.GL_STAT_STATE 1
def mateFresh : State := { mateOn with now := 499 * tuMs, rd.timeAt := some 0, rd.leaseAt := some (499 * tuMs) }
def mateOver : State := { mateOn with now := 100 * tuSec, rd.timeAt := some 0, rd.leaseAt := some 0 }
def mateAloneOver : State := { mateAlone with now := 100 * tuSec }
def mateBody (version type : Byte) (n : Nat) : List Byte := List.replicate 12 1 ++ [0x88, 0xB5, version, type, 1] ++ List.replicate (n - 17) 3
def mateFrame (version type : Byte) (n : Nat) : List Byte := mateBody version type n ++ mateIcv [] (mateBody version type n)
def mateTime : List Byte := mateFrame 1 1 74
def mateCkpt : List Byte := mateFrame 1 2 1058
def mateSleep : List Byte := mateFrame 1 3 94
def mateFour : List Byte := mateFrame 1 4 64
def mateProve : List Byte := mateFrame 1 5 38
def mateOther : List Byte := mateFrame 2 5 38
def mateForged : List Byte := mateBody 1 5 38 ++ List.replicate 16 0
theorem wit_mate : mateOn.mateLine = true ∧ (mateOn.mateKey 21).isSome = true ∧ mateOn.on (F.AP_PORT_STAT_HOLD 4) = false ∧
    mateHolds.on (F.AP_PORT_STAT_HOLD 4) = true ∧ (mateHolds.mateKey 21).isSome = true ∧
    State.reset.mateLine = false ∧ State.reset.on F.RD_MATE_CFG_EN = false ∧ mateOn.on F.RD_MATE_CFG_EN = true ∧ mateKeyless.mateKey 22 = none ∧
    mateOn.on F.RD_MATE_STAT_LINK = true ∧ mateDown.on F.RD_MATE_STAT_LINK = false ∧ mateOn.get F.RD_MATE_STAT_ROLE = 2 ∧
    mateAlone.get F.RD_MATE_STAT_ROLE = 0 ∧ mateDown.get F.RD_MATE_STAT_ROLE = 1 ∧ mateGlacier.glReady = true := by decide
theorem wit_mateTimes : mateOver.mateSilent = true ∧ mateFresh.mateSilent = false ∧ mateOver.leaseOver = true ∧ mateAloneOver.leaseOver = true ∧
    mateFresh.leaseOver = false := by decide
theorem wit_mateFrames : [(mateTime, 74, 1), (mateSleep, 94, 3), (mateFour, 64, 4), (mateProve, 38, 5)].all (fun x =>
      at2 x.1 12 == 0x88B5 && ((x.1.drop 15).headD 0).toNat == x.2.2 && ((x.1.drop 14).headD 0).toNat == 1 && mateFrameLen x.2.2 == some x.2.1 &&
        decide (x.2.1 + 16 ≤ x.1.length) && (x.1.drop x.2.1).take 16 == mateIcv [] (x.1.take x.2.1)) = true ∧
    mateOn.mateKey 22 = some [] ∧ ((mateTime.drop 16).headD 0).toNat % 2 = 1 ∧ (mateForged.drop 38).take 16 ≠ mateIcv [] (mateForged.take 38) ∧
    ((mateOther.drop 14).headD 0).toNat = 2 := by decide +kernel
theorem wit_mateCkpt : at2 mateCkpt 12 = 0x88B5 ∧ ((mateCkpt.drop 15).headD 0).toNat = 2 ∧ mateFrameLen 2 = some 1058 ∧ 1074 ≤ mateCkpt.length ∧
    (mateCkpt.drop 1058).take 16 = mateIcv [] (mateCkpt.take 1058) := by decide +kernel

/-! ### GnssFrontEndAndChannelsFollowTheirCommands -/

def gnssOn : State := st [(F.GN_CFG_EN, 1), (F.GN_CFG_BAND_A, 1), (F.GN_CFG_BAND_B, 0), (F.GN_CFG_SYS, 15), (F.GN_FE_A_CFG_RATE, 40920), (F.GN_STAT_BANDS_OK, 1)]
def gnssClock (phi : Int) : State := gnssOn.setChan 18 (fun c => { c with
  winEdges := 1001, winFirst := some ⟨0, 0, 0, 0, 0, true, 0⟩, winLast := some ⟨0, phi, 0, 0, 0, true, 0⟩ })
def gnssGood : State := { gnssClock (1000 * gnssOn.stampedPeriod 18) with gn.bad := [true, false] }
def gnssFast : State := gnssClock (990 * gnssOn.stampedPeriod 18)
def gnssSpoilt : State := gnssClock 0
def gnssSlow : State := gnssGood.put F.GN_FE_A_CFG_RATE 20459
def gnssSpi : State := { gnssOn.put F.GN_FE_SPI_BUSY 1 with gn.spi := true, gn.script := true }
def gnssSpiOnly : State := { gnssOn.put F.GN_FE_SPI_BUSY 1 with gn.spi := true, gn.discard := true }
def gnssScript : State := { (gnssSpi.put F.GN_CFG_EN 0) with gn.spi := false }
def gnssSkip : State := { gnssOn with gn.rateSkip := true }
def gnssTracks : State := { also gnssOn [(F.GN_CH_STAT_STATE 5, 4), (F.GN_CH_STAT_STATE 2, 1), (F.GN_CH_STAT_STATE 0, 3)] with gn.search := [0] }
theorem wit_gnss : gnssOn.judge (.pf 2) F.GN_CFG_EN.off true = .served ∧ F.GN_CFG_EN.ofWord (1 : Word) = 1 ∧ State.reset.on F.GN_CFG_EN = false ∧
    F.GN_CFG_EN.ofWord (0 : Word) = 0 ∧ gnssOn.gn.script = false ∧ gnssSpi.gn.script = true ∧ F.GN_FE_SPI_GO.ofWord (0x1000000000000 : Word) = 0 ∧
    F.GN_FE_SPI_GO.ofWord (2 ^ 39 : Word) = 1 ∧ gnssOn.judge (.pf 2) F.GN_FE_SPI_DATA.off true = .served ∧
    gnssSpi.on F.GN_FE_SPI_BUSY = true ∧ gnssOn.on F.GN_FE_SPI_BUSY = false := by decide
theorem wit_gnssClock : gnssSkip.gn.rateSkip = true ∧ gnssOn.bandEnabled 0 = true ∧ gnssOn.bandEnabled 1 = false ∧ 20460 ≤ gnssOn.bandRate 0 ∧
    gnssOn.bandRate 0 ≤ 81840 ∧ gnssSlow.bandRate 0 = 20459 ∧ gnssOn.bandClock 0 = none ∧
    (gnssGood.bandClock 0).map (fun r => (r.flg / 8 % 2, decide (r.ph.natAbs ≤ ppm500))) = some (0, true) ∧
    (gnssFast.bandClock 0).map (fun r => (r.flg / 8 % 2, decide (r.ph.natAbs ≤ ppm500))) = some (0, false) ∧
    (gnssSpoilt.bandClock 0).map (fun r => r.flg / 8 % 2) = some 1 ∧ gnssOn.gn.bad.getD 0 false = false ∧ gnssGood.gn.bad.getD 0 false = true := by
  decide +kernel
theorem wit_gnssPairs : gnssSpi.gn.spi = true ∧ gnssSpi.gn.discard = false ∧ gnssSpiOnly.gn.discard = true ∧ gnssScript.on F.GN_CFG_EN = false ∧
    gnssScript.gn.script = true ∧ gnssTracks.get (F.GN_CH_STAT_STATE 2) ≤ 1 ∧ gnssTracks.gn.flake = false ∧
    gnssTracks.gn.badPairs.contains 2 = false ∧ gnssTracks.get F.GN_CFG_SYS / 2 ^ 3 % 2 = 1 ∧ 2 ≤ gnssTracks.get (F.GN_CH_STAT_STATE 5) ∧
    gnssTracks.get (F.GN_CH_STAT_STATE 127) = 0 ∧ gnssTracks.gn.search.contains 0 = true ∧ gnssTracks.gn.search.contains 5 = false := by decide

/-! ### GnssSolvesTimeAndKeepsPosition -/

def gnssSolves : State := { (also leapOne [(F.GN_CFG_EN, 1), (F.GN_CFG_SYS, 15), (F.GN_STAT_BANDS_OK, 1), (F.GN_CFG_TREF, 0), (F.GN_POS_CFG_MODE, 1),
  (F.GN_CFG_IONO, 1), (F.GN_STAT_SOL_VALID, 1), (F.GN_STAT_STATE, 2), (F.PT_LEAP_CFG_AUTO_GNSS, 0)]) with now := 1700000000 * tuSec, gn.mark := some ⟨0, 0, 0, 0, 0, true, 1700000000 * tuSec⟩ }
def gnssUtc : State := gnssSolves.put F.GN_CFG_TREF 1
def gnssUtcLost : State := { gnssUtc with gn.mark := some ⟨0, 0, 0, 0, 0, true, 5⟩ }
def gnssUnmarked : State := { gnssSolves with gn.mark := none }
def gnssMigrated : State := { gnssSolves with gn.mark := some ⟨0, 0, 0, 0, 1, true, 1700000000 * tuSec⟩ }
def gnssAged : State := { gnssSolves with gn.validAt := some (1699999997 * tuSec) }
def gnssYoung : State := { gnssSolves with gn.validAt := some (1699999997 * tuSec + 1) }
def gnssPositioned : State := { (also gnssSolves [(F.GN_POS_STAT_VALID, 1), (F.GN_POS_CFG_POS_LIM, 1), (F.GN_POS_CFG_AUTO_RESURVEY, 0)]) with
  gn.residN := 2, gn.residSum := 99999999, gn.badRun := 2, gn.posWritten := [true, true, false] }
def gnssResurveys : State := gnssPositioned.put F.GN_POS_CFG_AUTO_RESURVEY 1
def gnssOnceBad : State := { gnssPositioned with gn.badRun := 1 }
def gnssPlaced : State := { gnssPositioned with gn.residSum := -2000 }
def gnssSurveys : State := also gnssSolves [(F.GN_POS_CFG_MODE, 2), (F.GN_STAT_SOL_VALID, 0)]
def gnssLeaps : State := gnssSolves.put F.PT_LEAP_CFG_AUTO_GNSS 1
def gnssSat (p : Nat) : GnSat := { pair := p, sys := 0, prn := p + 1, cn0A := 4500, elev := 60, eph := some 1700000000 }
def gnssSky : GnEpoch := { week := 1, tow := 1, ps := 0, sats := (List.range 6).map gnssSat }
def gnssDark : GnEpoch := { gnssSky with sats := [] }
theorem wit_gnssSolves : gnssSolves.on F.GN_CFG_EN = true ∧ gnssSolves.bandOk 0 = true ∧ gnssSolves.gn.flake = false ∧ State.reset.on F.GN_CFG_EN = false ∧
    gnssSolves.get F.GN_POS_CFG_MODE = 1 ∧ gnssSurveys.get F.GN_POS_CFG_MODE ≠ 1 ∧ gnssSolves.on F.GN_STAT_SOL_VALID = true ∧
    gnssSurveys.on F.GN_STAT_SOL_VALID = false ∧ gnssPositioned.posHeld = true ∧ 0 < gnssPositioned.gn.residN ∧ gnssSolves.gn.residN = 0 ∧
    gnssPositioned.get F.GN_POS_CFG_POS_LIM * 1000 * 2 < gnssPositioned.gn.residSum.natAbs ∧
    gnssPlaced.gn.residSum.natAbs ≤ gnssPlaced.get F.GN_POS_CFG_POS_LIM * 1000 * 2 ∧ gnssPositioned.gn.badRun = 2 ∧ gnssOnceBad.gn.badRun < 2 ∧
    gnssResurveys.on F.GN_POS_CFG_AUTO_RESURVEY = true ∧ gnssPositioned.on F.GN_POS_CFG_AUTO_RESURVEY = false := by decide
theorem wit_gnssPosition : (assign false 2 true gnssPositioned.gn.posWritten).all id = true ∧ (assign false 0 true gnssSolves.gn.posWritten).all id = false ∧
    posMode (F.GN_POS_CFG_MODE.ofWord (1 : Word)) ≠ 0 ∧ posMode (F.GN_POS_CFG_MODE.ofWord (0 : Word)) = 0 ∧
    gnssSolves.judge (.pf 2) (posAxis 2).off true = .served ∧ gnssSolves.judge (.pf 2) F.GN_POS_CFG_MODE.off true = .served ∧
    gnssSolves.delta gnssSolves.sec = some (18 + 19) ∧ gnssSolves.get F.GN_CFG_LEAP_SRC = 0 ∧ gnssLeaps.on F.PT_LEAP_CFG_AUTO_GNSS = true ∧
    gnssSolves.on F.PT_LEAP_CFG_AUTO_GNSS = false := by decide
theorem wit_gnssSats : gnssSolves.satsNeeded ≤ (gnssSolves.satsOf gnssSky).length ∧ (gnssSolves.satsOf gnssDark).length < gnssSolves.satsNeeded ∧
    gnssSolves.gn.mark.map (fun m => (decide (m.gen = gnssSolves.tb.gen), (gnssSolves.gnTai gnssSky true m.corr).isSome)) = some (true, true) ∧
    gnssUtcLost.gn.mark.map (fun m => (gnssUtcLost.gnTai gnssSky true m.corr).isSome) = some false ∧ gnssUnmarked.gn.mark = none ∧
    gnssMigrated.gn.mark.map (fun m => decide (m.gen = gnssMigrated.tb.gen)) = some false := by decide
theorem wit_gnssValid : gnssAged.gn.validAt.map (fun v => decide (v + gnssAged.validSpan ≤ gnssAged.now)) = some true ∧
    gnssYoung.gn.validAt.map (fun v => decide (v + gnssYoung.validSpan ≤ gnssYoung.now)) = some false := by decide

/-! ### FlakeModeCapturesSolvesAndExports -/

def gnssJammed : State := { gnssOn with gn.agcRef := 100000, gn.agcA := -100000, gn.cn0Met := false }
def gnssJamAuto : State := gnssJammed.put F.GN_FLAKE_AUTO_JAM 1
def flakeOn : State := { (also gnssOn [(F.GN_FLAKE_EN, 1), (F.GN_STAT_JAM, 1)]) with gn.flake := true, gn.autoFlake := true }
def flakeAuto : State := flakeOn.put F.GN_FLAKE_EN 0
def flakeStill : State := { flakeOn with gn.agcRef := 100000, gn.agcA := -100000, gn.cn0Met := false }
def flakeEarly : State := { flakeOn with now := 3 * tuSec }
def flakeWaits : State := { flakeOn with gn.export_ := 1 }
def flakeBusy : State := { flakeOn with gn.capture := true }
def flakeMarked : State := { flakeBusy.put F.GN_FLAKE_SOLVE 0 with gn.mark := some ⟨0, 0, 0, 0, 0, true, 5⟩, gn.rates := [2000, 2000] }
def flakeMarkedOut : State := also flakeMarked [(F.GN_FLAKE_EXPORT, 1), (F.GN_SNAP_HADDR_ARM, 1), (F.GN_CFG_BAND_B, 1), (F.GN_STAT_BANDS_OK, 3), (F.GN_FE_B_CFG_RATE, 40920)]
def flakeMarkedWaits : State := flakeMarkedOut.put F.GN_SNAP_HADDR_ARM 0
def flakeSolving : State := { gnssSolves with gn.flake := true, gn.solving := true, gn.snap := { gnssSolves.gn.snap with stamp := gnssSolves.gn.mark } }
def flakeExports : State := { flakeOn with gn.export_ := 2 }
def flakeSky : GnEpoch := gnssSky
def flakeDark : GnEpoch := gnssDark
theorem wit_flake : gnssOn.on F.GN_STAT_JAM = false ∧ flakeOn.on F.GN_STAT_JAM = true ∧ flakeAuto.on F.GN_FLAKE_EN = false ∧ flakeAuto.gn.autoFlake = true ∧
    gnssJammed.jamming = true ∧ flakeOn.jamming = false ∧ flakeStill.jamming = true ∧ gnssJamAuto.on F.GN_FLAKE_AUTO_JAM = true ∧
    flakeOn.bandOk 0 = true ∧ flakeOn.captureDue = true ∧ flakeEarly.captureDue = false ∧ flakeOn.gn.solving = false ∧ flakeOn.gn.export_ = 0 ∧
    flakeWaits.gn.export_ = 1 ∧ flakeOn.gn.capture = false ∧ flakeBusy.gn.capture = true ∧
    flakeBusy.snapReason flakeBusy.gn.mark = 1 ∧ flakeMarked.snapReason flakeMarked.gn.mark = 0 ∧ flakeSolving.gn.solving = true ∧
    flakeExports.gn.export_ = 2 ∧ gnssOn.judge (.pf 2) F.GN_FLAKE_EN.off true = .served ∧ F.GN_FLAKE_EN.ofWord (1 : Word) = 1 ∧
    gnssOn.on F.GN_FLAKE_EN = false ∧ flakeMarkedOut.bandUsed 1 = true ∧ flakeMarked.bandUsed 1 = false := by decide +kernel

/-! ### OutputClocksLockStartAndStop -/

def omOn : State := also { State.reset with os.settling := [false, true, false, false] }
  [(F.OS_OM_CFG_EN 1, 1), (F.OS_OM_CFG_INT 1, 16), (F.OS_OM_CFG_NUM 1, 0), (F.OS_OM_CFG_DEN 1, 1), (F.OS_CLK_CFG_EN 3, 1), (F.OS_CLK_CFG_SRC 3, 1), (F.OS_CLK_CFG_DIV 3, 250), (F.OS_CLK_CFG_SRC 4, 1), (F.OS_CLK_CFG_DIV 4, 1), (F.OS_CLK_CFG_EN 4, 1),
   (F.OS_OM_BAND_VALID 1 2, 1), (F.OS_OM_BAND_MIN 1 2, 1000000), (F.OS_OM_BAND_MAX 1 2, 4000000), (F.OS_OM_BAND_CODE 1 2, 9), (F.OS_CLK_CFG_ALIGN 3, 0)]
def omNoBand : State := omOn.put (F.OS_OM_BAND_VALID 1 2) 0
def omLocked : State := { omOn.put (F.OS_OM_STAT_LOCK 1) 1 with os.clks := alter {} 3 (fun c => { c with armed := true }) [] }
def omAligned : State := { omLocked.put (F.OS_CLK_CFG_ALIGN 3) 1 with now := tuSec }
def omEarly : State := { omAligned with now := tuSec - 1 }
def omMutes : State := omLocked.put (F.OS_CLK_CFG_PG_MUTE 3) 1
def omMuted : State := { omMutes with os.clks := alter {} 3 (fun c => { c with armed := true, active := true }) [] }
def omOffClk : State := { omLocked.put (F.OS_CLK_CFG_EN 3) 0 with os.clks := [] }
def omRuns : State := { also omLocked [(F.OS_CLK_STAT_RUN 3, 1), (F.OS_CLK_STAT_PG 3, 1)] with os.clks := alter {} 3 (fun c => { c with active := true }) [] }
def omOwes : State := { omRuns.put (F.OS_CLK_CFG_EN 3) 0 with os.clks := alter {} 3 (fun c => { c with active := true, stopping := true, restart := true }) [] }
def omStops : State := { omLocked with os.clks := alter {} 3 (fun c => { c with active := true, stopping := true }) [] }
def clkWord : Word := 0xFA03
def clkWordOff : Word := 0xFA02
def clkWordDiv : Word := 0xF903
def omWord : Word := 0x10000001001
def omWordBad : Word := 0x1001
theorem wit_om : State.reset.judge (.pf 1) (F.OS_OM_CFG_EN 1).off true = .served ∧ omOn.clkSrc 3 = 1 ∧ omOn.clkSrc 0 ≠ 1 ∧
    (F.OS_OM_CFG_EN 1).ofWord (0 : Word) = 0 ∧ (F.OS_OM_CFG_EN 1).ofWord omWord = 1 ∧ (F.OS_OM_CFG_INT 1).ofWord omWord = 16 ∧
    (F.OS_OM_CFG_DEN 1).ofWord omWord = 1 ∧ (F.OS_OM_CFG_DEN 1).ofWord omWordBad = 0 ∧ omOn.omBad 1 = false ∧ omOn.omBand 1 = some 2 ∧
    (State.reset.put (F.OS_OM_CFG_DEN 1) 0).omBad 1 = true ∧ omNoBand.omBand 1 = none ∧ omOn.os.settling.getD 1 false = true ∧
    omOn.os.settling.getD 0 false = false ∧ omOn.on (F.OS_CLK_CFG_EN 3) = true ∧ (omOn.clk 3).active = false ∧
    156250 * omOn.omNum 1 ≤ 800000 * omOn.omDen 1 * omOn.clkDiv 3 ∧ 800000 * omOn.omDen 1 * omOn.clkDiv 4 < 156250 * omOn.omNum 1 := by decide
theorem wit_clk : omOn.judge (.pf 1) (F.OS_CLK_CFG_EN 3).off true = .served ∧ omOn.judge (.pf 1) (F.OS_CLK_DLY_FINE 3).off true = .served ∧
    omOn.on (F.OS_CLK_CFG_EN 0) = false ∧ (F.OS_CLK_DLY_COARSE 3).ofWord (0xFFFFFFFFFFFFFFFF : Word) ≠ omOn.get (F.OS_CLK_DLY_COARSE 3) ∧
    (F.OS_CLK_CFG_EN 3).ofWord clkWord = 1 ∧ (F.OS_CLK_CFG_SRC 3).ofWord clkWord = 1 ∧ (F.OS_CLK_CFG_DIV 3).ofWord clkWord = 250 ∧
    (F.OS_CLK_CFG_EN 3).ofWord clkWordOff = 0 ∧ (F.OS_CLK_CFG_DIV 3).ofWord clkWordDiv = 249 ∧ (omRuns.clk 3).active = true ∧
    (omOwes.clk 3).restart = true ∧ omOwes.on (F.OS_CLK_CFG_EN 3) = false ∧ omOffClk.on (F.OS_CLK_CFG_EN 3) = false ∧
    omOffClk.on (F.OS_OM_STAT_LOCK 1) = true := by decide
theorem wit_clkStart : (omLocked.clk 3).armed = true ∧ (omLocked.clk 3).active = false ∧ omLocked.on (F.OS_OM_STAT_LOCK (omLocked.clkSrc 3)) = true ∧
    omLocked.startDue 3 = true ∧ omAligned.startDue 3 = true ∧ omEarly.startDue 3 = false ∧ omAligned.on (F.OS_CLK_CFG_ALIGN 3) = true ∧
    (omMuted.clk 3).active = true ∧ (omMuted.clk 3).armed = true ∧ omMutes.on (F.OS_CLK_CFG_PG_MUTE 3) = true ∧
    (omOn.clk 3).armed = false ∧ (omStops.clk 3).stopping = true ∧ omStops.clkSrc 3 < 4 ∧ (omOn.clk 3).stopping = false := by decide

/-! ### PulsesAndTimeOfDayAreSentAndTaken -/

def pulseOn : State := { (also leapOne [(F.OS_PPS_CFG_EN 2, 1), (F.OS_PPS_CFG_RATE 2, 1), (F.OS_PPS_CFG_ALIGN_MODE 2, 2), (F.OS_TOD_CFG_EN, 1), (F.OS_TOD_CFG_IN_EN, 1)]) with now := 1700000000 * tuSec }
def pulseAgain : State := { pulseOn with os.pps := alter {} 2 (fun c => { c with done := [(1699999999 * 10 ^ 12, 1700000000 * 10 ^ 12)] }) [] }
def pulseEarly : State := { pulseOn with os.pps := alter {} 2 (fun c => { c with from_ := 1700000000 * 10 ^ 12 + 1 }) [] }
def pulseNext : State := { pulseOn with os.pps := alter {} 2 (fun c => { c with from_ := 1700000000 * 10 ^ 12, done := [(1, 1699999999 * 10 ^ 12)] }) [] }
def pulseLong : State := { pulseOn.put (F.OS_PPS_STAT_RUN 2) 1 with os.pps := alter {} 2 (fun c => { c with until_ := 1700000000 * 10 ^ 12 + 1 }) [] }
def pulseTracked : Word := 0x10000000003
def todZda : State := pulseOn.put F.OS_TOD_CFG_FMT 1
def todDark : State := { (also State.reset [(F.OS_TOD_CFG_EN, 1), (F.OS_TOD_CFG_FMT, 1), (F.OS_TOD_CFG_IN_EN, 1)]) with now := 1700000000 * tuSec }
def todDeaf : State := pulseOn.put F.OS_TOD_CFG_IN_EN 0
def todDarkAgain : State := { todDark with os.noUtc := true }
def kloentraIn : List Byte := pulseOn.kloentra 1700000000
def kloentraBad : List Byte := kloentraIn.take 20 ++ [0, 0]
def zdaIn : List Byte := (pulseOn.zda 1700000000).getD []
def zdaBad : List Byte := zdaIn.drop 1
theorem wit_pulse : pulseOn.on (F.OS_PPS_CFG_EN 2) = true ∧ State.reset.on (F.OS_PPS_CFG_EN 2) = false ∧
    (pulseOn.gridEdge 2 (pulseOn.nearGrid 2)).toNat = 1700000000 * 10 ^ 12 ∧ (pulseOn.pps 2).passed (1700000000 * 10 ^ 12) = false ∧
    (pulseAgain.pps 2).passed (1700000000 * 10 ^ 12) = true ∧ (pulseEarly.pps 2).passed (1700000000 * 10 ^ 12) = true ∧
    (pulseNext.pps 2).passed (1700000000 * 10 ^ 12) = false ∧ pulseOn.get (F.OS_PPS_CFG_ALIGN_MODE 2) = 2 ∧
    State.reset.judge (.pf 1) (F.OS_PPS_CFG_EN 2).off true = .served ∧ (F.OS_PPS_CFG_EN 2).ofWord (1 : Word) = 1 ∧
    ¬((pulseLong.pps 2).until_ : Int) ≤ psOf pulseLong.now ∧ (F.OS_PPS_CFG_ALIGN_MODE 2).ofWord pulseTracked = 2 ∧
    (F.OS_PPS_CFG_RATE 2).ofWord pulseTracked = 1 := by decide
theorem wit_tod : todDeaf.on F.OS_TOD_CFG_IN_EN = false ∧ pulseOn.on F.OS_TOD_CFG_EN = true ∧ pulseOn.on F.OS_TOD_CFG_FMT = false ∧ todZda.on F.OS_TOD_CFG_FMT = true ∧
    (todZda.zda 1700000000).isSome = true ∧ todDark.zda 1700000000 = none ∧ todDark.os.noUtc = false ∧ todDarkAgain.os.noUtc = true := by decide
theorem wit_todIn : kloentraIn.take 2 = [0x4A, 0x54] ∧ kloentraIn.length = 22 ∧ (kloentraIn.drop 2).take 2 = [0x01, 0x10] ∧
    ofBytesLE ((kloentraIn.drop 0x14).take 2) = crc16 ((kloentraIn.drop 2).take 18) ∧
    ofBytesLE ((kloentraBad.drop 0x14).take 2) ≠ crc16 ((kloentraBad.drop 2).take 18) ∧ zdaIn.take 2 ≠ [0x4A, 0x54] ∧ zdaFields zdaBad = none ∧
    zdaFields zdaIn = some (1699999963, false) ∧ pulseOn.taiOf 1699999963 false = some 1700000000 ∧ todDark.taiOf 1699999963 false = none := by decide +kernel

/-! ### RimePassStartsProvesAndEnds -/

def rimeOn : State := { (st [(F.TK_STAT_ACTIVE 0, 1), (F.RD_RIME_CFG_EN, 1), (F.RD_RIME_CFG_MATE, 0), (F.RD_RIME_CFG_SHADOW, 10), (F.RD_RIME_CFG_START, 86399)]) with rd.deferrals := 1, rd.retryAt := some 7, now := 7 }
def rimeToday : State := { rimeOn with rd.retryAt := none, now := 86399 * tuSec }
def rimeEarly : State := { rimeOn with now := 6 }
def rimeOff : State := rimeOn.put F.RD_RIME_CFG_EN 0
def rimeDark : State := also rimeOn [(F.RD_STAT_SW, 1), (F.TB_STAT_MIG, 1)]
def rimeThird : State := { rimeDark with rd.deferrals := 3 }
def rimeTwice : State := { rimeDark with rd.deferrals := 2 }
def rimeSaved : State := { rimeOn with firn := ckptHeld.firn }
def rimeNoCore : State := { rimeOn.put F.RD_RIME_STAT_STATE 1 with now := 10 * tuSec }
def rimeShadows : State := { (also rimeOn [(F.RD_RIME_STAT_STATE, 1), (F.TK_STAT_STATE 1, 6)]) with rd.compared := 2, rd.skipped := 2, now := 10 * tuSec }
def rimeSoon : State := { rimeShadows with now := 10 * tuSec - 1 }
def rimeSkipped : State := { rimeShadows with rd.skipped := 3 }
def rimeCoreBad : State := { rimeShadows with rd.coreBad := true }
def rimeCoreA : State := { (also State.reset [(F.RD_RIME_STAT_STATE, 1), (F.RD_STAT_ACTIVE_CORE, 1), (F.TK_STAT_ACTIVE 1, 1), (F.TK_STAT_STATE 0, 6), (F.RD_RIME_CFG_SHADOW, 11)]) with
  rd.compared := 1, rd.tacBad := true, now := 11 * tuSec }
def rimeThenMate : State := also rimeShadows [(F.RD_RIME_CFG_MATE, 1), (F.RD_MATE_CFG_EN, 1)]
def rimeProves : State := { (also rimeThenMate [(F.RD_RIME_STAT_STATE, 2), (F.RD_MATE_STAT_LINK, 1)]) with rd.bestRun := 8, rd.prove := some 0xBEFF }
def rimeProofFails : State := { rimeProves.put F.RD_MATE_STAT_LINK 0 with now := 75 * tuSec, rd.result := 63 }
def rimeProofWaits : State := { rimeProofFails with now := 75 * tuSec - 1 }
def standbySleeps : State := { also mateOn [(F.RD_MATE_CFG_NEVE_STBY, 1), (F.RD_MATE_STAT_MATE_AVAIL, 1)] with rd.roleSince := 5, now := 60 * tuSec + 5 }
def standbyWaits : State := standbySleeps.put F.PM_STAT_DIP 1
def standbySoon : State := { standbySleeps with now := 60 * tuSec + 4 }
def neveTamper : State := rimeOn.put F.TP_STAT_HOLD 1
def neveGoes : State := rimeOn.put F.PM_STAT_STATE 1
def boxRung : State := { State.reset with host.boxes := [{ doorbell := true, tag := 9 }, {}, {}, { doorbell := true, rungAt := 1 }, {}, {}], now := 100 * tuMs + 1 }
def boxSlow : State := { boxRung with now := 100 * tuMs + 2, host.boxes := boxRung.host.boxes }
def foundNothing : RimeFound := {}
def foundMuch : RimeFound := { lanes := [1, 2 ^ 24 - 1, 5], spares := [(255, 31), (256, 0)], pairs := [127, 128], missed := true, bands := [(1, 3, 9, 10)], bandFail := true }
def neveWord : Word := 0x14E
def neveWrong : Word := 0x14F
def neveIdle : Word := 0x4E
theorem wit_rimeStarts : rimeOn.on F.RD_RIME_CFG_EN = true ∧ rimeOn.rimeDue = true ∧ rimeToday.rimeDue = true ∧ rimeEarly.rimeDue = false ∧
    rimeOff.on F.RD_RIME_CFG_EN = false ∧ rimeOn.get F.RD_RIME_STAT_STATE = 0 ∧ rimeOn.rimeBlocked = false ∧ rimeDark.rimeBlocked = true ∧
    rimeDark.rimeDue = true ∧ rimeTwice.rd.deferrals < 3 ∧ 3 ≤ rimeThird.rd.deferrals ∧ rimeOn.standbyCore = some 1 ∧
    rimeOn.judge (.pf 0) F.RD_RIME_REQ_GO.off true = .served ∧ F.RD_RIME_REQ_GO.ofWord (1 : Word) = 1 ∧ F.RD_RIME_REQ_GO.ofWord (2 : Word) = 0 := by decide +kernel
set_option maxRecDepth 1000000 in
theorem wit_rimeSaved : rimeSaved.newestCheckpoint ≠ none ∧ rimeSaved.standbyCore = some 1 ∧ rimeSaved.rimeBlocked = false := by decide +kernel
theorem wit_rimeEnds : rimeNoCore.shadow = none ∧ rimeNoCore.rimeAge rimeNoCore.shadowSpan = true ∧ rimeShadows.shadow = some 1 ∧
    rimeShadows.rimeAge rimeShadows.shadowSpan = true ∧ rimeSoon.rimeAge rimeSoon.shadowSpan = false ∧ rimeShadows.shadowNotRun = false ∧
    rimeSkipped.shadowNotRun = true ∧ rimeShadows.provesMate = false ∧ rimeThenMate.provesMate = true ∧ rimeThenMate.shadowNotRun = false ∧
    rimeCoreA.shadow = some 0 ∧ rimeCoreA.shadowNotRun = false ∧ rimeCoreA.rimeAge rimeCoreA.shadowSpan = true ∧
    (rimeShadows.rd.coreBad || foundNothing.missed) = false ∧ (rimeShadows.rd.coreBad || foundMuch.missed) = true := by decide
theorem wit_rimeProof : rimeProves.get F.RD_RIME_STAT_STATE = 2 ∧ rimeProves.mateProved = true ∧ rimeProofFails.mateProved = false ∧
    rimeProofFails.rimeAge (rimeProofFails.shadowSpan + 65) = true ∧ rimeProofFails.rd.result < 64 ∧ rimeProofWaits.mateProved = false ∧
    rimeProofWaits.rimeAge (rimeProofWaits.shadowSpan + 65) = false := by decide
theorem wit_neve : rimeOn.judge (.pf 0) F.SY_NEVE_GO.off true = .served ∧ F.SY_NEVE_GO.ofWord neveWord = 1 ∧ F.SY_NEVE_CONFIRM.ofWord neveWord = 0x4E ∧
    F.SY_NEVE_CONFIRM.ofWord neveWrong ≠ 0x4E ∧ F.SY_NEVE_GO.ofWord neveIdle = 0 ∧ rimeOn.get F.PM_STAT_STATE ≠ 1 ∧ rimeOn.on F.TP_STAT_HOLD = false ∧
    rimeOn.neveBlocked = false ∧ rimeDark.neveBlocked = true ∧ neveTamper.on F.TP_STAT_HOLD = true ∧ neveTamper.get F.PM_STAT_STATE ≠ 1 ∧
    neveTamper.judge (.pf 0) F.SY_NEVE_GO.off true = .served := by decide
theorem wit_standby : standbySleeps.get F.RD_MATE_STAT_ROLE = 2 ∧ standbySleeps.on F.RD_MATE_CFG_NEVE_STBY = true ∧
    standbySleeps.on F.RD_MATE_STAT_MATE_AVAIL = true ∧ standbySleeps.rd.roleSince + 60 * tuSec ≤ standbySleeps.now ∧ standbySleeps.get F.PM_STAT_STATE = 0 ∧
    standbySleeps.on F.TP_STAT_HOLD = false ∧ standbySleeps.neveBlocked = false ∧ standbyWaits.neveBlocked = true ∧
    ¬(standbySoon.rd.roleSince + 60 * tuSec ≤ standbySoon.now) ∧ boxRung.boxOverdue 0 = true ∧ boxRung.boxOverdue 3 = false ∧
    boxRung.boxOverdue 1 = false ∧ boxSlow.boxOverdue 3 = true := by decide

/-! ### DipsAreTimedAndReadingsAreKept -/

def dips : State := { (st [(F.PM_STAT_DIP, 1), (F.PM_STAT_RAIL_OK, 0xFFE)]) with pm.dipAt := 0, pm.dipRails := 1, pm.lastLow := 7, now := tuMs + 7 }
def dipsOn : State := { dips with now := tuMs + 6 }
def dipsLong : State := { (dips.put F.PM_DIP_STAT_COUNT (2 ^ F.PM_DIP_STAT_COUNT.width - 1)) with now := 20000 * tuSec }
def dipNear : State := { manualCore with tb.migStep := 3, now := 10 * tuMs }
def dipIdle : State := { (st [(F.PM_AGE_WARN_LVL, 5)]) with tk.nextSlot := 1, now := 5 }
def boxOpen : State := boxRung.put F.EC_SR_CNT_CORR (2 ^ F.EC_SR_CNT_CORR.width - 2)
def poisoned : State := { boxRung with gl.floePoison := [8, 16], firn := [(7, 1), (0x7FFF, 2)] }
theorem wit_dip : State.reset.on F.PM_STAT_DIP = false ∧ dips.on F.PM_STAT_DIP = true ∧ dips.pm.lastLow + tuMs ≤ dips.now ∧
    dips.quiet = false ∧ dips.jl.queue.length < 1024 ∧ dipsOn.now < dipsOn.pm.lastLow + tuMs ∧ dipsLong.pm.lastLow + tuMs ≤ dipsLong.now ∧
    dipNear.coreLive = true ∧ dipNear.on F.PM_STAT_DIP = false ∧ State.reset.coreLive = false ∧
    (0x897#12).toNat < 2200 ∧ 2200 ≤ (0x898#12).toNat ∧ (boxRung.box 3).doorbell = true := by decide

/-! ### ResetsReachWhatTheirLetterNames -/

def resetBase : State := { st [(F.SY_WDOG_EN, 1), (F.GL_STAT_STATE, 1), (F.TP_STAT_LATCH, 1), (F.KV_STAT_LC, 2), (F.PM_DIP_MAX_MAX, 7), (F.TB_STAT_ACT_TM, 1)] with
  firn := [(5, 1)], host.rollback := 3, kv.lcSealed := true, gl.locks := [{ bank := 4, holder := .repair 3 0, since := 0 }] }
def resetFirn : State := { resetBase with power := .firn }
def resetNeve : State := { resetBase.put F.GL_STAT_STATE 2 with power := .neve }
def resetHeld : State := { State.reset with power := .held }
def resetQuietDog : State := resetBase.put F.SY_WDOG_EN 0
def resetExits : State := { resetBase with pm.exiting := some 2 }
def chiprstGo : Word := 0x15AC3
def chiprstNot : Word := 0x5AC3
def chiprstBad : Word := 0x15AC2
theorem wit_reset : (7 : Fin 12).val ∈ [7, 8, 10, 11] ∧ (11 : Fin 12).val ∈ [7, 8, 10, 11] ∧ (9 : Fin 12).val ∉ [7, 8, 10, 11] ∧ resetBase.on F.SY_WDOG_EN = true ∧
    resetQuietDog.on F.SY_WDOG_EN = false ∧ resetNeve.resettable = true ∧ resetFirn.resettable = false ∧ resetHeld.resettable = false ∧
    resetBase.judge (.pf 0) F.SY_CHIPRST_GO.off true = .served ∧ F.SY_CHIPRST_CONFIRM.ofWord chiprstGo = 0x5AC3 ∧
    F.SY_CHIPRST_GO.ofWord chiprstGo = 1 ∧ F.SY_CHIPRST_CONFIRM.ofWord chiprstBad ≠ 0x5AC3 ∧ F.SY_CHIPRST_CONFIRM.ofWord chiprstNot = 0x5AC3 ∧
    F.SY_CHIPRST_GO.ofWord chiprstNot = 0 ∧ fieldOfKey F.TP_STAT_LATCH.key = some F.TP_STAT_LATCH ∧
    F.TP_STAT_LATCH.keptThrough .C = true ∧ F.TB_STAT_ACT_TM.keptThrough .M = false := by decide

/-! ### StartsRunTheBootRom -/

def bootHeld : State := { State.reset with power := .held, pm.cause := 4, pm.rail := 5, host.rollback := 2 }
def bootDir : List Byte := bytesLE 4 1 ++ bytesLE 4 0 ++ bytesLE 4 7
def bootSlotB : State := { bootHeld with host.flash := writeBytes [] 0x1000 (bootDir ++ bytesLE 4 (crc32c bootDir)) }
def bootLatched : State := bootHeld.put F.TP_STAT_LATCH 1
def bootFirn : State := { State.reset with power := .firn, host.rollback := 2, pm.cause := 3 }
def bootMigrated : State := bootHeld.put F.TB_STAT_ACT_TM 1
def bootOwed : State := { bootFirn with kv.batLost := true }
def bootHold : State := st [(F.TP_STAT_LATCH, 1), (F.TP_STAT_HOLD, 1), (F.TP_STAT_SRC, 5), (F.TP_STAT_WHEN, 2), (F.BT_STAT_STATE, 7), (F.KV_STAT_LC, 2)]
def bootHoldHost : State := bootHold.put F.BT_STAT_SRC 1
def bootFree : State := bootHold.put F.TP_STAT_HOLD 0
def bootBoth : Boot := { fwA := some ⟨7, 2⟩, fwB := some ⟨2 ^ 40 + 9, 5⟩ }
def bootOld : Boot := { fwA := some ⟨7, 1⟩, fwB := some ⟨8, 3⟩ }
def bootNone : Boot := { fwA := some ⟨7, 1⟩ }
def bootA : Boot := { fwA := some ⟨7, 9⟩ }
def bootHost : Boot := { bootBoth with host := true, puf := [none, some 3] }
def fwA2 : Option Firmware := some ⟨7, 2⟩
def fwB5 : Option Firmware := some ⟨2 ^ 40 + 9, 5⟩
def fwB3 : Option Firmware := some ⟨8, 3⟩
def clearWord : Word := 0x1C1EA
def clearIdle : Word := 0xC1EA
def clearWrong : Word := 0x1C1EB
theorem wit_boot : State.reset.coldStart = true ∧ bootFirn.coldStart = true ∧ bootHeld.coldStart = false ∧ (bootHeld.power == .held) = true ∧
    (bootFirn.power == .held) = false ∧ State.reset.kv.batLost = false ∧ bootHeld.kv.batLost = false ∧ bootHeld.preferred.1 = 0 ∧
    bootHeld.firmwareGood bootBoth.fwA = some ⟨7, 2⟩ ∧ bootHeld.firmwareGood bootOld.fwA = none ∧ bootHeld.firmwareGood bootOld.fwB = some ⟨8, 3⟩ ∧
    bootHeld.firmwareGood bootNone.fwB = none ∧ bootBoth.host = false ∧ bootHost.host = true ∧
    bootLatched.on F.TP_STAT_LATCH = true ∧ bootHeld.on F.TP_STAT_LATCH = false ∧ bootMigrated.on F.TB_STAT_ACT_TM = true := by decide +kernel
theorem wit_bootSlotB : bootSlotB.preferred.1 = 1 ∧ bootSlotB.firmwareGood bootBoth.fwB = some ⟨2 ^ 40 + 9, 5⟩ ∧ bootSlotB.firmwareGood bootA.fwB = none ∧
    bootSlotB.firmwareGood bootA.fwA = some ⟨7, 9⟩ := by decide +kernel
theorem wit_secureClear : bootHold.judge (.pf 5) F.TP_CLEAR_GO.off true = .served ∧ bootHold.power = .run ∧
    F.TP_CLEAR_CODE.ofWord clearWord = 0xC1EA ∧ F.TP_CLEAR_GO.ofWord clearWord = 1 ∧ F.TP_CLEAR_CODE.ofWord clearWrong ≠ 0xC1EA ∧
    F.TP_CLEAR_CODE.ofWord clearIdle = 0xC1EA ∧ F.TP_CLEAR_GO.ofWord clearIdle = 0 ∧
    bootHold.on F.TP_STAT_HOLD = true ∧ bootFree.on F.TP_STAT_HOLD = false ∧ bootHold.pm.exiting = none ∧ bootHold.get F.BT_STAT_SRC = 0 ∧
    bootHoldHost.get F.BT_STAT_SRC = 1 := by decide

/-! ### NeveIsEnteredAndLeft -/

def journalImage : Image := { bytes := [], wakeGpios := [2, 3], parts := [{ id := 1, base := 2 ^ 30, size := 2 ^ 30, kind := 1 }] }
def neveBegun : State := { st [(F.PM_STAT_STATE, 1), (F.GL_STAT_STATE, 1), (F.KV_STAT_LC, 2), (F.PM_NEVE_CFG_WAKE_SVC, 1), (F.PM_NEVE_CFG_WAKE_RTC, 1), (F.PM_NEVE_CFG_WAKE_GPIO, 1), (F.PM_NEVE_CFG_WAKE_SEC, 1),
    (F.PM_RTC_RTC, 32768), (F.LN_LANE_CFG_WAKE_EN 4, 1), (F.LN_WAKE_MASK_MASK, 1), (F.LN_WAKE_PAT_PAT 0, 7), (F.KV_SLOT_ATTR_ATTR 3, 2449502720)] with
  kv.lcSealed := true, df.image := some journalImage, gl.cells := [(2 ^ 30 - 1, 5), (2 ^ 30, 6), (2 ^ 31, 7)] }
def neveWoken : State := { neveBegun with pm.wakeOwed := some 4 }
def neveRepairs : State := { neveBegun with gl.locks := [{ bank := 4, holder := .repair 3 0, since := 0 }] }
def neveBare : State := { neveBegun with df.image := none }
def neveRuns : State := neveBegun.put F.PM_STAT_STATE 0
def neveWaits : State := { neveRuns with pm.neveWaits := true }
def neveWaitsDark : State := neveWaits.put F.PM_STAT_DIP 1
def neveCrowded : State := { neveBegun with wire.ports := [{ slots := [{ handle := 1, start := 0, dur := 64, len := 64, appt := 0 }] }] }
def neveAsleep : State := { (also neveBegun [(F.PM_STAT_STATE, 0), (F.GL_STAT_STATE, 2), (F.TP_CFG_IN_EN, 15), (F.TP_CFG_POL, 14), (F.TP_CFG_VMON, 1), (F.TP_CFG_TMON, 1), (F.TP_STAT_SRC, 0x48)]) with power := .neve }
def neveEarly : State := { neveAsleep with pm.neveRtc := 1 }
def neveLatched : State := neveAsleep.put F.TP_STAT_LATCH 1
def neveFirn : State := { neveAsleep with power := .firn }
def neveFirnLatched : State := { neveLatched with power := .firn }
def neveUnarmed : State := also neveAsleep [(F.TP_CFG_IN_EN, 0), (F.TP_CFG_VMON, 0), (F.TP_CFG_TMON, 0), (F.PM_NEVE_CFG_WAKE_SVC, 0), (F.PM_NEVE_CFG_WAKE_GPIO, 0), (F.LN_WAKE_MASK_MASK, 0)]
def neveFirnUnarmed : State := { neveUnarmed with power := .firn }
def wakeBody : List Byte := 7 :: List.replicate 59 1
def wakeFrame : List Byte := wakeBody ++ fcsOf wakeBody
def wakeOther : List Byte := (8 :: List.replicate 59 1) ++ fcsOf (8 :: List.replicate 59 1)
def bootKept : Boot := { puf := [some 3] }
def bootLost : Boot := { retained := false }
theorem wit_neveEntry : neveBegun.get F.PM_STAT_STATE = 1 ∧ neveBegun.power = .run ∧ neveBegun.calendarsEmpty = true ∧ neveBegun.pm.neveWaits = false ∧ neveBegun.pm.wakeOwed = none ∧
    neveBegun.gl.locks = [] ∧ neveBegun.journalBase = some (2 ^ 30) ∧ neveBare.journalBase = none ∧ neveRepairs.calendarsEmpty = true ∧
    neveRuns.get F.PM_STAT_STATE ≠ 1 ∧ neveRuns.pm.neveWaits = false ∧ neveWaitsDark.get F.PM_STAT_STATE ≠ 1 ∧ neveWaitsDark.neveBlocked = true ∧
    neveCrowded.get F.PM_STAT_STATE = 1 ∧ neveCrowded.calendarsEmpty = false ∧ neveCrowded.pm.neveWaits = false ∧
    fieldOfKey F.TP_STAT_HOLD.key = some F.TP_STAT_HOLD ∧ F.TP_STAT_HOLD.keptThrough .N = false := by decide
theorem wit_neveWakes : neveAsleep.on F.PM_NEVE_CFG_WAKE_SVC = true ∧ neveAsleep.rtcWakeDue = true ∧ neveBegun.rtcWakeDue = true ∧ neveEarly.rtcWakeDue = false ∧
    neveUnarmed.on F.PM_NEVE_CFG_WAKE_SVC = false ∧ neveUnarmed.on F.PM_NEVE_CFG_WAKE_GPIO = false ∧ neveAsleep.on F.PM_NEVE_CFG_WAKE_GPIO = true ∧
    journalImage.wakeGpios.contains 3 = true ∧ journalImage.wakeGpios.contains 4 = false ∧ neveAsleep.df.image = some journalImage ∧
    neveAsleep.on F.TP_STAT_LATCH = false ∧ neveLatched.on F.TP_STAT_LATCH = true ∧ bootKept.retained = true ∧ bootLost.retained = false ∧
    neveAsleep.power ≠ .run ∧ neveRuns.power ≠ .neve ∧ neveFirn.power ≠ .neve := by decide
theorem wit_neveFrame : neveAsleep.wakeMatch wakeFrame = true ∧ neveAsleep.wakeMatch wakeOther = false ∧ neveAsleep.wakeMatch (wakeBody ++ [0, 0, 0, 0]) = false ∧
    neveUnarmed.wakeMatch wakeFrame = false := by decide +kernel
theorem wit_neveTamper : neveFirn.inputSources 0xE#4 = 0xF ∧ neveFirn.inputSources 0x1#4 = 0 ∧ neveFirnUnarmed.inputSources 0xF#4 = 0 ∧ neveFirnLatched.inputSources 0#4 = 1 ∧
    voltageTamper 900 100 = false ∧ voltageTamper 901 100 = true ∧ voltageTamper 900 101 = true ∧ tempTamper (-50) = false ∧ tempTamper (-51) = true ∧
    tempTamper 120 = false ∧ tempTamper 121 = true ∧ neveFirnLatched.on F.TP_STAT_LATCH = true ∧ neveFirn.on F.TP_STAT_LATCH = false := by decide

/-! ### ImagesAreFetchedCheckedAndLoaded -/

def imgRuns : State := { State.reset.put F.BT_STAT_STATE 3 with df.image := some { bytes := [] } }
def imgWaits : State := st [(F.BT_STAT_STATE, 4), (F.BT_STAT_SRC, 1)]
def imgWaits5 : State := { (also imgWaits [(F.BT_STAT_STATE, 5)]) with host.fetch := some 0, df.loading := some 2 }
def imgIdle5 : State := st [(F.BT_STAT_STATE, 5)]
def imgFetches : State := { imgRuns.put F.BT_STAT_STATE 6 with host.fetch := some 0, df.loading := some 2 }
def imgFirmware : State := { imgWaits with host.fetch := some 1, host.rollback := 3 }
def imgFirmwareFlash : State := imgFirmware.put F.BT_STAT_SRC 0
def imgFirmwareLatched : State := imgFirmware.put F.TP_STAT_LATCH 1
def imgChecks : State := { State.reset.put F.BT_STAT_STATE 2 with df.loading := some 1 }
def imgChecksLatched : State := imgChecks.put F.TP_STAT_LATCH 1
def imgSecond : State := { imgChecks with host.second := true }
def imgHost : State := { imgChecks with df.loading := some 2 }
def imgReloads : State := { imgRuns.put F.BT_STAT_STATE 6 with df.loading := some 0 }
def imgReloadsLatched : State := imgReloads.put F.TP_STAT_LATCH 1
def goWord : Word := 0x100
def goHostWord : Word := 0x102
def goFirmware : Word := 0x106
def goWrong : Word := 0x103
def fwGood : Option Firmware := some ⟨2 ^ 33 + 1, 4⟩
def fwOld : Option Firmware := some ⟨1, 2⟩
/-- An image of the four sections that R236 requires: header, directory, contents, signature. -/
def goodCert : List Byte := sha256 []
def goodBytes : List Byte :=
  let dir (type off len : Nat) (l : List Byte) : List Byte := bytesLE 4 type ++ bytesLE 4 off ++ bytesLE 4 len ++ bytesLE 4 (crc32c l)
  [0x46, 0x4F, 0x44, 0x52] ++ bytesLE 2 1 ++ bytesLE 2 7 ++ bytesLE 4 9 ++ bytesLE 4 232 ++ bytesLE 4 4 ++ List.replicate 44 0 ++
    dir 2 0x80 4 [1, 2, 3, 4] ++ dir 4 0x84 4 [5, 6, 7, 8] ++ dir 10 0x88 32 goodCert ++ dir 15 0xA8 64 (List.replicate 64 9) ++
    [1, 2, 3, 4, 5, 6, 7, 8] ++ goodCert ++ List.replicate 64 9
def goodImage : Image := { bytes := goodBytes, lanes := List.replicate 6 (1, 0, 0), parts := [{ id := 1, base := 0, size := 2 ^ 30, kind := 1 }], ttl := some 100, bufSize := 256 }
def badMagic : Image := { goodImage with bytes := [] }
def badLane : Image := { goodImage with lanes := List.replicate 6 (3, 0, 0) }
def badTtl : Image := { goodImage with ttl := some 99 }
theorem wit_imgGood (h : imgChecks.signatureGood goodImage.bytes = true) : imgChecks.imageFault goodImage = 0 := by
  have ok : headerGood goodImage.bytes = true ∧ (imageSections goodImage.bytes).all (fun x => crc32c (x.bytes goodImage.bytes) == x.crc) = true ∧
      sectionsGood goodImage = true ∧ digestGood goodImage = true ∧ ranksGood goodImage = true ∧ resourcesGood goodImage = true ∧
      ((goodImage.lanes.zipIdx).all (fun c => laneGood c.2 c.1) && goodImage.lanes.length == 6) = true ∧
      goodImage.presets.all (fun p => inForms everyLoad p.1 || firstOnly p.1) = true ∧ ttlGood goodImage = true ∧ partsGood goodImage.parts = true := by decide +kernel
  obtain ⟨a, b, c, d, e, f, g, i, j, k⟩ := ok
  unfold State.imageFault
  simp only [a, b, c, d, e, f, g, h, i, j, k, Bool.not_true, Bool.false_eq_true, ↓reduceIte]
theorem wit_img : imgRuns.judge (.pf 0) F.BT_RELOAD_GO.off true = .served ∧ F.BT_RELOAD_GO.ofWord (0 : Word) = 0 ∧ F.BT_RELOAD_GO.ofWord goWord = 1 ∧ F.BT_RELOAD_SRC.ofWord goWord = 0 ∧
    F.BT_RELOAD_KIND.ofWord goWord = 0 ∧ F.BT_RELOAD_SRC.ofWord goHostWord = 2 ∧ F.BT_RELOAD_KIND.ofWord goFirmware = 1 ∧ F.BT_RELOAD_SRC.ofWord goFirmware = 2 ∧
    F.BT_RELOAD_SRC.ofWord goWrong = 3 ∧ imgRuns.reloadReason 0 0 = 0 ∧ imgRuns.reloadReason 2 0 = 0 ∧ imgRuns.reloadReason 3 0 = 5 ∧ imgRuns.reloadReason 2 1 = 5 ∧
    imgWaits.reloadReason 2 1 = 0 ∧ imgWaits.reloadReason 2 0 = 1 ∧ imgIdle5.reloadReason 0 0 = 0 ∧ imgIdle5.reloadReason 2 1 = 5 ∧ imgRuns.get F.BT_STAT_STATE = 3 ∧
    imgIdle5.get F.BT_STAT_STATE ≠ 3 := by decide
theorem wit_imgFetch : State.reset.host.fetch = none ∧ imgWaits5.host.fetch = some 0 ∧ imgFetches.host.fetch = some 0 ∧ imgFirmware.host.fetch = some 1 ∧
    imgFirmware.firmwareGood fwGood = some ⟨2 ^ 33 + 1, 4⟩ ∧ imgFirmware.firmwareGood fwOld = none ∧ imgFirmware.firmwareGood none = none ∧
    imgFirmwareFlash.firmwareGood fwGood = some ⟨2 ^ 33 + 1, 4⟩ ∧ imgFirmwareLatched.on F.TP_STAT_LATCH = true := by decide
theorem wit_imgCheck : imgRuns.df.loading = none ∧ imgFetches.df.loading = some 2 ∧ imgFetches.host.fetch ≠ none ∧ imgChecks.df.loading = some 1 ∧
    imgChecks.host.fetch = none ∧ imgSecond.df.loading = some 1 ∧ imgHost.df.loading = some 2 ∧ headerGood badMagic.bytes = false ∧
    imgReloads.get F.BT_STAT_STATE = 6 ∧ imgReloads.df.loading = some 0 ∧ imgReloads.host.fetch = none ∧ imgChecks.imageFault badMagic = 1 := by decide +kernel

/-! ### UnitResetsAskTheirInterlock -/

def unitFree : State := { (st [(F.BT_STAT_STATE, 3), (F.RS_STAT_HOLD, 1), (F.TK_TS_STAT_LS_ERR, 1), (F.PT_EVT_NOKEY, 1), (F.CX_LANE_OFF_AES, 1), (F.PC_SEL_KIND 3, 1), (F.OS_CFG_PG_LIM, 5),
  (F.TK_MODEL_Y_Y 1, 77), (F.OS_SM_STAT_LOCK, 1)]) with host.boxes := [{ doorbell := true, core := 1 }, { doorbell := true }, {}, {}, {}, { doorbell := true, core := 1 }], tk.lsTimes := [3] }
def unitBusy : State := { unitFree.put F.SY_RST_STAT_UNIT_BUSY 1 with pm.unit := 3 }
def unitLate : State := { unitFree.put F.SY_RST_STAT_UNIT_BUSY 1 with pm.unit := 14 }
def unitForbidden : State := also unitFree [(F.RD_STAT_SW, 1), (F.RS_STAT_HOLD, 0), (F.TK_STAT_STATE 0, 3), (F.TK_STAT_ACTIVE 1, 1), (F.OS_CLK_STAT_RUN 4, 1), (F.BT_STAT_STATE, 6)]
def unitManual : State := also unitFree [(F.RS_STAT_HOLD, 0), (F.TK_STAT_STATE 0, 4), (F.TK_STAT_STATE 1, 5), (F.RD_RIME_STAT_STATE, 1)]
def unitGnss : State := { unitFree.put F.GN_CFG_EN 1 with gn.script := true, gn.search := [3] }
def unitFlakes : State := { unitGnss.put F.GN_FLAKE_EN 1 with gn.flake := true }
def unitJammed : State := { unitFlakes.put F.GN_FLAKE_EN 0 with gn.autoFlake := true }
def unitBounded : State := also unitFree [(F.MB_STAT_UNB, 0), (F.MB_STAT_STATE, 0), (F.MB_BOUND_BOUND, 5)]
def unitUnits : List (Nat × Nat) := [(1, 0), (2, 8), (3, 1), (4, 8), (5, 1), (6, 1), (7, 0), (8, 8), (9, 0), (10, 0), (11, 0), (12, 0), (13, 1), (14, 1)]
theorem wit_unit : unitFree.judge (.pf 0) F.SY_URESET_GO.off true = .served ∧ unitBusy.on F.SY_RST_STAT_UNIT_BUSY = true ∧
    unitBusy.judge .spi F.SY_URESET_GO.off true = .served ∧ unitLate.pm.unit = 14 ∧
    unitFree.on F.SY_RST_STAT_UNIT_BUSY = false ∧ ((List.range 15).all (fun u => unitFree.unitBlocked u == 0)) = true ∧
    unitForbidden.unitBlocked 2 = 8 ∧ unitUnits.all (fun e => e.1 = 1 || e.1 = 7 || unitForbidden.unitBlocked e.1 == e.2) = true ∧ unitForbidden.unitBlocked 1 = 8 ∧
    unitManual.unitBlocked 1 = 8 ∧ unitManual.unitBlocked 2 = 0 ∧ unitManual.unitBlocked 4 = 0 ∧ unitManual.unitBlocked 14 = 1 ∧
    unitGnss.on F.GN_CFG_EN = true ∧ unitGnss.gn.autoFlake = false ∧ unitFlakes.gn.flake = true ∧ unitGnss.unitBlocked 7 = 0 ∧ unitFlakes.unitBlocked 7 = 0 ∧
    (unitFree.box 0).doorbell = true ∧ (unitFree.box 0).core = 1 ∧ (unitFree.box 1).doorbell = true ∧ (unitFree.box 1).core = 0 := by decide +kernel
theorem wit_unitFields : fieldOfKey F.CX_LANE_OFF_AES.key = some F.CX_LANE_OFF_AES ∧ fieldOfKey F.OS_CFG_PG_LIM.key = some F.OS_CFG_PG_LIM ∧
    F.CX_LANE_OFF_AES.window = 0x0E ∧ F.OS_CFG_PG_LIM.window = 0x07 ∧ F.PC_SEL_KIND 3 ≠ F.OS_CFG_PG_LIM ∧ F.OS_CFG_PG_LIM.key ≠ F.SY_RST_STAT_UNIT_BUSY.key ∧
    F.OS_CFG_PG_LIM.key ≠ F.OS_SM_STAT_LOCK.key ∧ fieldOfKey (F.TK_MODEL_Y_Y 1).key = some (F.TK_MODEL_Y_Y 1) ∧
    0x050100 + 1 * 0x8000 ≤ (F.TK_MODEL_Y_Y 1).off ∧ (F.TK_MODEL_Y_Y 1).off < 0x058000 + 1 * 0x8000 ∧
    (F.TK_MODEL_Y_Y 1).key ∉ [(F.TK_STAT_STATE 1).key, (F.TK_STAT_ACTIVE 1).key] := by decide

/-! ### RegisterAccessesActByTheirCode -/

def accessed : State := { (st [(F.BT_EVT_FOREIGN, 1), (F.PM_DIP_STAT_COUNT, 9), (F.KV_STAT_LC, 2), (F.BT_STAT_STATE, 3), (F.KV_CNT_DENY, 5), (F.TP_CFG_POL, 3), (F.BT_EVT_NARROW, 1), (F.MB_PUB_SEC_SEC, 77),
  (F.MB_PUB_NSF_NSF, 78), (F.IE_CH_RES_SEC_SEC 31, 79)]) with now := 1700000000 * tuSec + 5 }
def accessSealed : State := { accessed with kv.lcSealed := true }
def accessReset : State := { accessed with host.perst := true }
def accessFlr : State := { accessed with host.flr := [true, false, false, false, false, false] }
def accessLatched : State := { accessed with latches := [(F.TK_TS_NSF_NS.off, 5)] }
def accessTold : State := { accessed with rates := [⟨0x0B02 * 8 + 1, accessed.now, 0⟩] }

theorem wit_access : accessed.judge (.pf 1) 0x160000 true = .foreign ∧ accessed.judge .spi 0x0F0000 true = .refused ∧ accessReset.judge (.pf 0) 0 true = .dead ∧
    accessFlr.judge (.pf 0) 0x160010 false = .dead ∧ accessed.judge (.pf 0) 0x178000 true = .reserved ∧ accessed.judge (.pf 0) 0x178000 false = .reserved ∧
    accessed.judge (.pf 0) 0x160010 true = .served ∧ (effects (.pf 0) 0x160010 0xFF#64).all (fun e => (e.1.place 0x160010).isNone) = true ∧
    accessed.judge (.pf 5) 0x100000 true = .served ∧ (effects (.pf 5) 0x100000 0xFF#64).all (fun e => (e.1.place 0x100000).isNone) = true ∧
    accessed.sealed = false ∧ accessSealed.sealed = true ∧ accessed.judge (.pf 4) 0 false = .foreign ∧ accessed.judge (.pf 4) 0x150000 false = .served ∧
    accessed.judge (.pf 4) 0x150000 true = .foreign ∧ accessed.judge (.pf 5) 0x0F0038 false = .served ∧ (F.R_IE_CH_RES_RAW.place 0x0F0038) = none ∧
    (F.R_JL_WIN.place 0x0F0038) = none ∧ (F.R_JL_WSEAL.place 0x0F0038) = none ∧ (F.R_KV_DATA.place 0x0F0038) = none ∧ accessed.latches = [] ∧
    accessed.rateDue (0x0B02 * 8 + 1) = true ∧ accessed.rateDue (0x0B04 * 8 + 6) = true := by decide +kernel
theorem wit_accessTimes : accessed.judge (.pf 1) F.TK_TS_SEC_SEC.off false = .served ∧ accessed.judge (.pf 1) F.MB_PUB_SEC_SEC.off false = .served ∧
    accessed.judge (.pf 1) (F.IE_CH_RES_SEC_SEC 31).off false = .served ∧ (∀ e ∈ accessLatched.latches, e.1 ≠ F.TK_TS_SEC_SEC.off) := by decide
theorem wit_accessCut : accessReset.judge (.pf 1) F.TK_TS_SEC_SEC.off false ≠ .served ∧ accessed.judge (.pf 5) F.SY_NEVE_GO.off true ≠ .served ∧
    accessed.judge .spi F.KV_OP_GO.off true ≠ .served := by decide

/-! ### FirnWindowReadsTheStoreAndTakesNoWrite -/

def firnRead : State := { accessed with firn := [(0x63FF, 7), (0x6400, 7), (0x67FF, 8), (0x6800, 9), (0x7FFF, 1)] }
def firnTold : State := { firnRead with rates := [⟨0x0B02 * 8, firnRead.now, 3⟩, ⟨0x0B02 * 8 + 4, firnRead.now, 3⟩, ⟨0x0B02 * 8 + 6, firnRead.now - tuSec, 0xFFFFFFFF⟩] }
theorem wit_firn : firnRead.judge (.pf 0) (0x170000 + 8 * 0xD00) false = .served ∧ firnRead.judge .spi (0x170000 + 8 * 0xC80) false = .served ∧
    firnRead.judge .spi (0x170000 + 8 * 0xCFF) false = .served ∧ (0x170001#25).toNat = 0x170001 ∧ firnRead.judge .spi 0x170001 true ≠ .dead ∧
    (0x15FFFF#25).toNat = 0x15FFFF ∧ firnRead.judge (.pf 4) 0x15FFFF true ≠ .dead ∧ firnRead.rateDue (0x0B02 * 8 + 4) = true ∧
    firnTold.rateDue (0x0B02 * 8 + 4) = false ∧ firnTold.rateDue (0x0B02 * 8 + 6) = true ∧ firnRead.quiet = false := by decide

/-! ### FunctionLevelResetsClearTheirFunction -/

def flrBusy : State := { (st [(F.BT_HOST_ADDR_ADDR, 5), (F.BT_HOST_LEN_LEN, 6), (F.GN_SNAP_HADDR_ARM, 1), (F.PT_TX_PTR_TAIL 3, 9), (F.PC_SEL_EN 7, 1), (F.KV_DATA_DATA 3, 4)]) with
  host.boxes := boxRung.host.boxes, host.flr := [true, false, false, true, false, false], gn.spi := true, now := 5, host.readyAt := 5,
  host.msixPending := [1, 2, 3, 4, 5, 6], host.aer := [false, true, false, false, false, false] }
def flrLink : State := { flrBusy with host.link := true }
def flrEarly : State := { flrBusy with host.readyAt := 6 }
def flrFetch : State := { flrBusy.put F.BT_STAT_STATE 6 with host.fetch := some 0, df.loading := some 2 }
def flrWaits : State := { flrFetch.put F.BT_STAT_STATE 5 with host.fetch := some 0 }
def flrPerst : State := { flrBusy with host.perst := true }
theorem wit_flr : flrBusy.host.flr.getD 3 false = true ∧ flrBusy.host.flr.getD 0 false = true ∧ flrBusy.host.flr.getD 1 false = false ∧
    flrBusy.host.flr.getD 5 false = false ∧ flrFetch.host.fetch ≠ none ∧ flrFetch.get F.BT_STAT_STATE = 6 ∧ flrWaits.get F.BT_STAT_STATE ≠ 6 ∧
    flrPerst.host.perst = true ∧ flrBusy.host.perst = false ∧ flrBusy.host.link = false ∧ flrBusy.host.readyAt ≤ flrBusy.now ∧
    flrLink.host.link = true ∧ flrEarly.now < flrEarly.host.readyAt := by decide

/-! ### MailboxesAndServiceSpiAnswer -/

def boxOf (fn code len : Nat) (payload : List Byte) : State := { (st [(F.PM_RTC_RTC, 50), (F.BT_STAT_STATE, 3)]) with
  host.boxes := assign {} fn { doorbell := true, code := code, tag := 9, len := len, payload := payload, core := 1 } [{}, {}, {}, {}, {}, {}], host.flash := [(0x300000, 1)] }
def boxWrites : State := boxOf 0 0x10 6 [0, 0, 0x30, 0, 7, 8]
def boxWritesEnd : State := boxOf 0 0x10 6 [0xFE, 0xFF, 0x4F, 0, 7, 8]
def boxWritesOver : State := boxOf 0 0x10 6 [0xFF, 0xFF, 0x4F, 0, 7, 8]
def boxWritesRunning : State := boxOf 0 0x10 6 [0, 0, 0x10, 0, 7, 8]
def boxWritesShort : State := boxOf 0 0x10 3 [0, 0, 0x30]
def boxWritesNothing : State := boxOf 0 0x10 4 [1, 0, 0x30, 0]
def boxWritesLong : State := boxOf 0 0x10 2033 (List.replicate 2032 0)
def boxWritesElse : State := boxOf 3 0x10 6 [0, 0, 0x30, 0, 7, 8]
def boxReads : State := boxOf 0 0x11 4 [0, 0, 0x30, 0]
def boxReadsLast : State := boxOf 0 0x11 4 [8, 0xF8, 0xFF, 3]
def boxReadsBeyond : State := boxOf 0 0x11 4 [9, 0xF8, 0xFF, 3]
def boxReadsSome : State := boxOf 0 0x11 8 [0xFF, 0xFF, 0x2F, 0, 3, 0, 0, 0]
def boxReadsMany : State := boxOf 0 0x11 8 [0, 0, 0x30, 0, 0xF9, 7, 0, 0]
def boxReadsShort : State := boxOf 0 0x11 3 [0, 0, 0x30]
def boxVerifies : State := boxOf 0 0x12 2 [1, 1]
def boxVerifiesNot : State := boxOf 0 0x12 2 [2, 0]
def boxPrefers : State := boxOf 0 0x13 2 [1, 0]
def boxPrefersAgain : State := { boxPrefers with host.flash := writeBytes [] 0x1000 (bootDir ++ bytesLE 4 (crc32c bootDir)) }
def boxPrefersNot : State := boxOf 0 0x13 1 [1, 0]
def boxInfo : State := boxOf 5 1 0 []
def boxUnknown : State := boxOf 2 9 0 []
def boxAnswered : State := { State.reset with host.boxes := [{}, {}, {}, {}, { doorbell := true, code := 1, reply := some (2, [5]), tag := 6 }, {}], host.flr := [false, true, false, false, false, false] }
def boxPerst : State := { boxAnswered with host.perst := true }
def svcReady : State := { boxOf 0 9 0 [] with kv.lcSealed := true, host.svcRefused := true, host.svcTaken := true }
def svcEarly : State := svcReady.put F.PM_RTC_RTC 49
def svcExits : State := svcReady.put F.PM_STAT_STATE 2
def svcHeld : State := svcExits.put F.TP_STAT_HOLD 1
def svcReset : State := svcEarly.put F.SY_RST_CAUSE_CAUSE 1
theorem wit_boxRings : boxAnswered.host.flr.getD 1 false = true ∧ boxAnswered.host.flr.getD 5 false = false ∧ boxAnswered.host.perst = false ∧ boxPerst.host.perst = true ∧
    (boxAnswered.box 5).doorbell = false ∧ (boxAnswered.box 4).doorbell = true ∧ (boxAnswered.box 4).reply = some (2, [5]) ∧ (boxUnknown.box 2).reply = none ∧
    knownCode (boxUnknown.box 2).code = false ∧ knownCode (boxInfo.box 5).code = true ∧ (boxInfo.box 5).code = 0x0001 ∧ (boxInfo.box 5).reply = none := by decide
theorem wit_boxFlash : (boxWrites.box 0).code = 0x0010 ∧ (boxWrites.box 0).reply = none ∧ boxWrites.flashOpen (leAt (boxWrites.box 0).payload 0 4) 2 = true ∧
    boxWritesEnd.flashOpen (leAt (boxWritesEnd.box 0).payload 0 4) 2 = true ∧ boxWritesOver.flashOpen (leAt (boxWritesOver.box 0).payload 0 4) 2 = false ∧
    boxWritesRunning.flashOpen (leAt (boxWritesRunning.box 0).payload 0 4) 2 = false ∧ (boxWritesShort.box 0).len < 4 ∧ 2032 < (boxWritesLong.box 0).len ∧
    boxWritesNothing.flashOpen (leAt (boxWritesNothing.box 0).payload 0 4) 0 = true ∧ (boxReads.box 0).code = 0x0011 ∧ (boxReads.box 0).len = 4 ∧
    leAt (boxReadsLast.box 0).payload 0 4 + 2040 = flashSize ∧ leAt (boxReadsBeyond.box 0).payload 0 4 + 2040 = flashSize + 1 ∧
    leAt (boxReadsSome.box 0).payload 4 4 = 3 ∧ leAt (boxReadsMany.box 0).payload 4 4 = 2041 ∧ (boxReadsShort.box 0).len < 4 := by decide
theorem wit_boxArgs : (boxVerifies.box 0).code = 0x0012 ∧ twoArgs (boxVerifies.box 0) = some (1, 1) ∧ twoArgs (boxVerifiesNot.box 0) = none ∧
    (boxPrefers.box 0).code = 0x0013 ∧ twoArgs (boxPrefers.box 0) = some (1, 0) ∧ twoArgs (boxPrefersNot.box 0) = none ∧ boxPrefers.bootDirectory = none ∧
    boxPrefersAgain.bootDirectory = some (1, 1, 0, 7) := by decide +kernel
theorem wit_svc : svcReady.svcAnswers = true ∧ svcEarly.svcAnswers = false ∧ svcExits.svcAnswers = false ∧ svcHeld.svcAnswers = true ∧ svcReset.svcAnswers = true ∧
    svcOffsetBad (0x17FFFF8#32).toNat = false ∧ svcOffsetBad (0x1800000#32).toNat = true ∧ svcOffsetBad (0x160001#32).toNat = true ∧ svcReady.svcTakes 0x100000 = false ∧
    svcReady.svcTakes 0x160010 = true := by decide

/-! ### StepRunsTheFrontCommand -/

theorem wit_front : State.reset.pending = [] := by decide

/-! ### StatusPinsStayTrue -/

theorem wit_pins : (State.reset.pins.alarm = State.reset.alarmDue ∧ State.reset.pins.degrade = State.reset.degradeDue ∧
    State.reset.pins.tamper = State.reset.on F.TP_STAT_LATCH) ∧ State.reset.power = .run ∧
    step { State.reset with pending := [.pcieLinkChange true] } = exec (.pcieLinkChange true) State.reset := ⟨by decide, rfl, rfl⟩

/-! ### OutsideRunOnlyPowerCommandsAct -/

theorem wit_outside : resetFirn.power ≠ .run ∧ resetHeld.power ≠ .run ∧ resetNeve.power ≠ .run ∧ actsOutsideRun .dipEnd = false ∧
    actsOutsideRun .vbatLoss = true := by decide

/-! ### BoundArithmeticSaturates -/

theorem wit_bounds : [2 ^ 47, 2 ^ 47 - 2].sum < 2 ^ 48 - 1 ∧ 2 ^ 48 - 1 ≤ [2 ^ 47, 2 ^ 47 - 1].sum ∧ 0xFFFFFFFFFFFF ∈ [5, 0xFFFFFFFFFFFF] := by decide

/-! ### InvalidOutputConfigurationsAreRefused -/

def omEqual : Word := 0x30000031001
def omLow : Word := 0x30000020701
def omHigh : Word := 0x30000021901
def omSettled : State := { also omOn [(F.OS_OM_STAT_LOCK 1, 1), (F.OS_OM_STAT_LOCK 2, 1), (F.OS_CLK_STAT_RUN 1, 1)] with os.settling := [false, true, true, true] }
theorem wit_badOm : (F.OS_OM_CFG_EN 1).ofWord omWordBad = 1 ∧ (F.OS_OM_CFG_DEN 1).ofWord omWordBad = 0 ∧ (F.OS_OM_CFG_EN 2).ofWord omEqual = 1 ∧
    (F.OS_OM_CFG_DEN 2).ofWord omEqual = (F.OS_OM_CFG_NUM 2).ofWord omEqual ∧ (F.OS_OM_CFG_EN 2).ofWord omLow = 1 ∧ (F.OS_OM_CFG_INT 2).ofWord omLow = 7 ∧
    (F.OS_OM_CFG_EN 2).ofWord omHigh = 1 ∧ (F.OS_OM_CFG_INT 2).ofWord omHigh = 25 ∧ omSettled.judge (.pf 1) (F.OS_OM_CFG_EN 2).off true = .served := by decide

/-! ## Ill-formed commands are refused -/

theorem test_wfWidth0 : (Instr.registerWrite .spi 0 0 0).wf = false ∧ (Instr.registerWrite .spi 0 9 0).wf = false ∧
    (Instr.registerWrite .spi 0 8 0).wf = true := by decide +kernel
theorem test_wfReadWidth : (Instr.rcFieldRead .spi 0 0).wf = false ∧ (Instr.rcFieldRead .spi 0 9).wf = false ∧
    (Instr.rcFieldRead .spi 0 4).wf = true := by decide +kernel
theorem test_wfTimeWord : (Instr.timeWordSecRead .spi 0x40004).wf = false ∧ (Instr.timeWordSecRead .spi 0x40008).wf = true := by decide +kernel
theorem test_wfCompare : (Instr.migCompareEnd 0 1 0).wf = false ∧ (Instr.migCompareEnd 0 1 1).wf = true := by decide +kernel
theorem test_wfTick : (Instr.sampleTick 0 0).wf = false ∧ (Instr.sampleTick 1 0).wf = true := by decide +kernel
def calOne : List (List (Nat × Nat)) := List.replicate 3 [(6144, 4096)]
theorem test_wfCal : (Instr.calComplete 4097 (List.replicate 257 0) calOne).wf = false ∧ (Instr.calComplete 1 [] calOne).wf = false ∧
    (Instr.calComplete 1 (List.replicate 257 0) (calOne.drop 1)).wf = false ∧ (Instr.calComplete 1 (List.replicate 257 0) [[], [], []]).wf = false ∧
    (Instr.calComplete 1 (List.replicate 257 0) calOne).wf = true := by decide +kernel
theorem test_wfScrub : (Instr.glScrubWord [(0, 72)]).wf = false ∧ (Instr.glScrubWord [(0, 71)]).wf = true := by decide +kernel
theorem test_wfEvent : (Instr.journalEventRaise 0 0 0 0).wf = false ∧ (Instr.journalEventRaise 1 0 0 0).wf = true := by decide +kernel
theorem test_wfBoot : (Boot.wf { puf := [none, none, none, none] }) = false ∧ (Boot.wf { puf := [none, none, some 1] }) = true := by decide +kernel
theorem test_wfBoots : (Instr.mainPowerUp { puf := [none, none, none, none] }).wf = false ∧
    (Instr.chipResetStart { puf := [none, none, none, none] }).wf = false ∧ (Instr.neveEntry { puf := [none, none, none, none] }).wf = false ∧
    (Instr.svcCsWake { puf := [none, none, none, none] }).wf = false ∧ (Instr.neveRtcWake { puf := [none, none, none, none] }).wf = false ∧
    (Instr.gpioWake 0 { puf := [none, none, none, none] }).wf = false ∧ (Instr.wakePatternMatch [] { puf := [none, none, none, none] }).wf = false ∧
    (Instr.tamperSample 0 0 0 0 { puf := [none, none, none, none] }).wf = false := by decide +kernel
theorem test_wfClear : (Instr.secureClear .spi 0 [none, none, none, none]).wf = false ∧ (Instr.secureClear .spi 0 [none]).wf = true := by decide +kernel
theorem test_wfSvc : (Instr.svcRead 0 0).wf = false ∧ (Instr.svcRead 0 1).wf = true := by decide +kernel
theorem test_wfDay : (Instr.gnLeapDataDecoded 0 0 0 0 0).wf = false ∧ (Instr.gnLeapDataDecoded 0 0 0 0 8).wf = false ∧
    (Instr.gnLeapDataDecoded 0 0 0 0 7).wf = true := by decide +kernel
theorem test_wfSats : (Instr.gnSolutionEpoch { week := 0, tow := 0, ps := 0, sats := List.replicate 129 { pair := 0, sys := 0, prn := 0, cn0A := 0 } }).wf = false ∧
    (Instr.gnSnapshotSolved { week := 0, tow := 0, ps := 0, sats := List.replicate 129 { pair := 0, sys := 0, prn := 0, cn0A := 0 } }).wf = false ∧
    (Instr.gnSolutionEpoch { week := 0, tow := 0, ps := 0, sats := [] }).wf = true := by decide +kernel
theorem test_wfCapture : (Instr.gnCaptureEnd [1, 2] [3] 0 0).wf = false ∧ (Instr.gnCaptureEnd [1, 2] [] 0 0).wf = true ∧
    (Instr.gnCaptureEnd [1, 2] [3, 4] 0 0).wf = true := by decide +kernel
theorem test_wfQuery : (Instr.ntpRequest 0 {} ntpAsk 8 []).wf = false ∧ (Instr.ntpRequest 0 {} ntpAsk 7 []).wf = true := by decide +kernel
theorem test_wfMailbox : (Instr.mailboxDoorbell 0 0 0 0 (List.replicate 2033 0) 0).wf = false ∧ (Instr.mailboxDoorbell 0 0 0 0 [] 0).wf = true := by
  decide +kernel
theorem test_wfImage (n : Nat) (h : 2 ^ 24 < n) : (Instr.imageCheckComplete { bytes := List.replicate n 0 }).wf = false := by
  exact decide_eq_false (by simp only [List.length_replicate]; omega)

end Sys2Proof.Machine
end

section
/-! PROOF. How a command completes, and what a reset by letter leaves of a register field. -/
namespace Sys2Proof.Machine

variable {s t u : State} {fs : List Fld}

/-! ## Completing -/

/-- A command of the Run state completes in the settled result of its effect. -/
theorem does_running {c : Instr} {f : State → State} {P : State → Prop} (hc : exec c s = running s f) (hp : s.power = .run)
    (h : P (f s).settle) : Does c s P := ⟨_, hc.trans (running_run s f hp), h⟩

/-- A command of every state does too. -/
theorem does_always {c : Instr} {f : State → State} {P : State → Prop} (hc : exec c s = always s f) (h : P (f s).settle) : Does c s P :=
  ⟨_, hc, h⟩

/-- What is shown of the effect's result as a frame holds of the settled state. -/
theorem Frame.settled (h : Frame s t fs) : Frame s t.settle fs := h.trans (Frame.settle t fs)

/-- A field that an update of other cells leaves alone: equal cells, equal fields. -/
theorem get_ofCells (h : t.cells = s.cells) (f : Fld) : t.get f = s.get f := by simp [State.get, h]

/-! ## Cells that a filter keeps or drops -/

theorem readCell_filter_kept {α : Type} {k : Nat} {p : Nat × α → Bool} (h : ∀ v, p (k, v) = true) (d : α) (l : List (Nat × α)) :
    readCell k d (l.filter p) = readCell k d l := by
  induction l with
  | nil => rfl
  | cons c l ih =>
    by_cases hk : c.1 = k
    · have : p c = true := by rw [show c = (k, c.2) from Prod.ext hk rfl]; exact h c.2
      simp [this, readCell, hk]
    · by_cases hp : p c = true <;> simp [hp, readCell, hk, ih]

theorem readCell_filter_dropped {α : Type} {k : Nat} {p : Nat × α → Bool} (h : ∀ v, p (k, v) = false) (d : α) (l : List (Nat × α)) :
    readCell k d (l.filter p) = d := by
  induction l with
  | nil => rfl
  | cons c l ih =>
    by_cases hk : c.1 = k
    · have : p c = false := by rw [show c = (k, c.2) from Prod.ext hk rfl]; exact h c.2
      simp [this, ih]
    · by_cases hp : p c = true <;> simp [hp, readCell, hk, ih]

/-! ## Resets by letter -/

/-- A reset of the hardware by letter l: a field of a window reached returns to its reset value unless l keeps it (R6). -/
theorem get_resetFields (s : State) (l : Letter) (reached : Nat → Bool) {f : Fld} (hf : fieldOfKey f.key = some f) :
    (s.resetFields l reached true).get f = if reached f.window = true ∧ f.keptThrough l = false then f.reset else s.get f := by
  unfold State.resetFields State.get
  split
  next h => exact readCell_filter_dropped (fun v => by simp [hf, h]) _ _
  next h =>
    refine readCell_filter_kept (fun v => ?_) _ _
    cases hr : reached f.window <;> cases hl : f.keptThrough l <;> simp_all

/-- A reset of every block by letter l. -/
theorem resetTo_resetFields (s : State) (l : Letter) (fs : List Fld) : ResetTo s (s.resetFields l (fun _ => true) true) l fs := by
  intro f hf _
  rw [get_resetFields s l _ hf]
  cases f.keptThrough l <;> simp

/-- A write of an excepted field leaves a reset what it is. -/
theorem ResetTo.put {l : Letter} (h : ResetTo s t l fs) (f : Fld) (v : Nat) (hf : f.key ∈ fs.map Fld.key) : ResetTo s (t.put f v) l fs :=
  fun g hg hgs => (State.get_put_other t f g v (fun e => hgs (e ▸ hf))).trans (h g hg hgs)

/-- So does an update that leaves the cells alone. -/
theorem ResetTo.next {l : Letter} (h : ResetTo s t l fs) (hu : u.cells = t.cells) : ResetTo s u l fs :=
  fun g hg hgs => (get_ofCells hu g).trans (h g hg hgs)

theorem ResetTo.settle {l : Letter} (h : ResetTo s t l fs) : ResetTo s t.settle l fs :=
  fun g hg hgs => (State.settle_get t g).trans (h g hg hgs)

/-- The reset starts from a state with the same fields but for the excepted ones. -/
theorem ResetTo.from {l : Letter} (h : ResetTo u t l fs) (hu : ∀ g : Fld, g.key ∉ fs.map Fld.key → u.get g = s.get g) : ResetTo s t l fs :=
  fun g hg hgs => (h g hg hgs).trans (by rw [hu g hgs])

/-- A chip reset's registers: GL_STAT.STATE alone may differ from what the letter leaves (R317). -/
theorem resetTo_resetChip (s : State) (l : Letter) : ResetTo s (s.resetChip l) l [F.GL_STAT_STATE] := by
  have h := resetTo_resetFields s l [F.GL_STAT_STATE]
  unfold State.resetChip State.when
  dsimp only
  split
  · exact h.put _ _ (by simp)
  · exact h

end Sys2Proof.Machine
end

section
/-! PROOF. The queue (O55), and what brown-out, RESET_N, SY_CHIPRST, the watchdog and the losses of power reach (O46). -/
namespace Sys2Proof.Machine

variable {s : State}

/-- Settles O55: both clauses are the two cases of `step` on the queue. -/
theorem stepRunsTheFrontCommand : Obligations.StepRunsTheFrontCommand := by
  refine ⟨fun s c rest => rfl, fun s h => ?_⟩
  unfold step
  rw [h]

/-! ## A chip reset -/

/-- The part is held by a chip reset from s, with its cause and rail (R357, R358). -/
def ChipHeld (s : State) (cause rail : Nat) (t : State) : Prop :=
  t.power = .held ∧ t.quiet = true ∧ t.pm.cause = cause ∧ t.pm.rail = rail ∧
    ResetTo s t .C [F.GL_STAT_STATE] ∧ t.firn = s.firn ∧ t.gl.cells = s.gl.cells ∧ t.host.flash = s.host.flash ∧
    t.host.rollback = s.host.rollback ∧ t.jl.queue = [] ∧ t.df.image = none ∧ t.df.tokens = []

/-- Letter C changes register cells alone. -/
theorem resetChip_frame (s : State) (l : Letter) : s.resetChip l = { s with cells := (s.resetChip l).cells } := by
  unfold State.resetChip State.when State.resetFields
  dsimp only
  split <;> rfl

/-- Once repairs are complete and the memory is in self-refresh, the reset holds the part. -/
theorem chipHeld_chipReset (s : State) (cause rail : Nat) :
    ChipHeld (if cause = 4 then State.intoRefresh { s with gl.locks := [] } else s.intoRefresh) cause rail (s.chipReset cause rail).settle := by
  unfold State.chipReset
  dsimp only
  rw [show (if cause = 4 then State.intoRefresh { s with gl.locks := [] } else s.intoRefresh) =
    (if cause = 4 then { s with gl.locks := [] } else s).intoRefresh by split <;> rfl]
  generalize (if cause = 4 then { s with gl.locks := [] } else s) = r
  have hu := resetChip_frame r.intoRefresh .C
  refine ⟨by simp, by simp, by simp, by simp, ResetTo.settle (ResetTo.next (resetTo_resetChip r.intoRefresh .C) rfl), ?_, ?_, ?_, ?_, ?_, by simp, by simp⟩
  all_goals
    simp only [State.settle_firn, State.settle_gl, State.settle_host, State.settle_jl, State.loseChip, State.loseUnits]
  all_goals rw [hu]

/-- Without a repair in progress the way into self-refresh changes GL_STAT.STATE alone of what a reset looks at (R317). -/
theorem intoRefresh_noLocks (h : s.gl.locks = []) : s.intoRefresh.firn = s.firn ∧ s.intoRefresh.gl.cells = s.gl.cells ∧
    s.intoRefresh.host = s.host ∧ ∀ f : Fld, f.key ≠ F.GL_STAT_STATE.key → s.intoRefresh.get f = s.get f := by
  unfold State.intoRefresh
  split
  · have he : s.endRepairs = { s with gl.locks := [] } := by unfold State.endRepairs; rw [h]; rfl
    unfold State.glSleep
    rw [he]
    exact ⟨rfl, rfl, rfl, fun f hf => State.get_put_other { s with gl.locks := [] } F.GL_STAT_STATE f 2 hf⟩
  · exact ⟨rfl, rfl, rfl, fun _ _ => rfl⟩

/-- A brown-out drops repairs in progress, and holds the part as it stands (R317). -/
theorem chipHeld_brownOut (s : State) (rail : Nat) : ChipHeld s 4 rail (s.chipReset 4 rail).settle := by
  obtain ⟨hpow, hq, hc, hr, hreg, hfirn, hcells, hflash, hroll, hjl, himg, htok⟩ := chipHeld_chipReset s 4 rail
  obtain ⟨nfirn, ncells, nhost, nget⟩ := intoRefresh_noLocks (s := { s with gl.locks := [] }) rfl
  exact ⟨hpow, hq, hc, hr, hreg.from fun g hg => nget g (by simpa using hg), hfirn.trans nfirn, hcells.trans ncells,
    hflash.trans (congrArg _ nhost), hroll.trans (congrArg _ nhost), hjl, himg, htok⟩

/-- Every other cause lets them complete. -/
theorem chipHeld_reset (s : State) {cause : Nat} (rail : Nat) (h : cause ≠ 4) :
    ChipHeld s.intoRefresh cause rail (s.chipReset cause rail).settle := by
  have := chipHeld_chipReset s cause rail
  rwa [if_neg h] at this

/-! ## Losses of power -/

/-- Battery loss by letter B: the fields that B does not keep go. -/
theorem resetTo_loseBattery (s : State) : ResetTo s s.loseBattery .B [] := (resetTo_resetFields s .B []).next rfl

/-- The state in Firn after main power loss, before what VBAT decides. -/
def State.intoFirn (s : State) : State := { (s.resetFields .M (fun _ => true) true).loseMain with power := .firn }

theorem resetTo_intoFirn (s : State) (fs : List Fld) : ResetTo s s.intoFirn .M fs := (resetTo_resetFields s .M fs).next rfl

/-- Main power loss outside Firn. -/
theorem exec_mainPowerLoss (vbat : Nat) (h : s.power ≠ .firn) : exec (.mainPowerLoss vbat) s =
    .next (if vbat < 1800 then s.intoFirn.loseBattery else s.intoFirn.put F.PM_STAT_ON_VBAT 1).settle := by
  show execMainPowerLoss vbat s = _
  unfold execMainPowerLoss always
  dsimp only
  rw [if_neg h]
  rfl

/-- VBAT loss acts in Firn alone. -/
theorem exec_vbatLoss (s : State) : exec .vbatLoss s = .next (if s.power = .firn then s.loseBattery else s).settle := rfl

/-- What neither domain's loss keeps goes when both are lost. -/
theorem get_loseBoth {f : Fld} (hf : fieldOfKey f.key = some f) (h : f.keptThrough .M = false ∨ f.keptThrough .B = false) :
    s.intoFirn.loseBattery.get f = f.reset := by
  rw [resetTo_loseBattery _ f hf (by simp), resetTo_intoFirn s [] f hf (by simp)]
  cases hM : f.keptThrough .M <;> cases hB : f.keptThrough .B <;> simp_all

/-! ## The obligation -/

/-- RESET_N by its length and the state of the part (R357). -/
theorem does_resetNAssert_ignored {ns : Nat} (h : ns < 100 ∨ s.resettable = false) : Does (.resetNAssert ns) s fun t => Frame s t [] := by
  refine does_always (by unfold exec; rfl) ?_
  rw [if_pos (h.imp id fun e => by simp [e])]
  exact Frame.settle s []

theorem does_resetNAssert_resets {ns : Nat} (h : 1000 ≤ ns) (hr : s.resettable = true) :
    Does (.resetNAssert ns) s (ChipHeld s.intoRefresh 1 0) := by
  refine does_always (by unfold exec; rfl) ?_
  rw [if_neg (by simp [hr]; omega), if_pos h]
  exact chipHeld_reset s 0 (by decide)

theorem does_resetNAssert_between {ns : Nat} (h1 : 100 ≤ ns) (h2 : ns < 1000) (hr : s.resettable = true) :
    Does (.resetNAssert ns) s fun t => t.power = s.power ∨ t.power = .held := by
  refine does_always (by unfold exec; rfl) ?_
  rw [if_neg (by simp [hr]; omega), if_neg (by omega)]
  unfold State.takeFree State.when
  dsimp only
  split
  · exact .inr (chipHeld_reset _ 0 (by decide)).1
  · exact .inl (by simp)

/-- Settles O46: a chip reset's registers are `resetTo_resetChip`, and main power loss and battery loss compose two resets by letter. -/
theorem resetsReachWhatTheirLetterNames : Obligations.ResetsReachWhatTheirLetterNames := by
  refine ⟨fun s rail hp => ⟨fun hr => ?_, fun hr => ?_, fun hw => ?_, fun hw => ?_⟩,
    fun s ns => ⟨does_resetNAssert_ignored, does_resetNAssert_resets, does_resetNAssert_between⟩,
    fun s path v hp hj => ⟨fun hc hg => ?_, fun h => ?_⟩,
    fun s vbat => ⟨fun hp => ?_, fun hp hv => ?_, fun hp hv => ?_, fun hp => ?_, fun hp => ?_⟩⟩
  · refine does_running (by unfold exec; rfl) hp ?_
    simp only [List.contains_iff_mem.mpr hr]
    exact Frame.settle s []
  · refine does_running (by unfold exec; rfl) hp ?_
    have : ([7, 8, 10, 11] : List Nat).contains rail.val = false := by simpa using hr
    simp only [this]
    exact chipHeld_brownOut s rail
  · refine does_running (by unfold exec; rfl) hp ?_
    simp only [hw]
    exact chipHeld_reset s 0 (by decide)
  · refine does_running (by unfold exec; rfl) hp ?_
    simp only [hw]
    exact Frame.settle s []
  · refine does_running (by unfold exec; rfl) hp ?_
    simp only [State.hostWrite_served _ _ _ _ hj, State.writeChiprst, hc, hg]
    exact chipHeld_reset s 0 (by decide)
  · refine does_running (by unfold exec; rfl) hp ?_
    have : (F.SY_CHIPRST_CONFIRM.ofWord v == 0x5AC3 && F.SY_CHIPRST_GO.ofWord v == 1) = false := by
      rcases h with h | h <;> simp [h]
    simp only [State.hostWrite_served _ _ _ _ hj, State.writeChiprst, this]
    exact Frame.settle s []
  · refine does_always (by unfold exec; rfl) ?_
    simp only [hp, if_true]
    exact Frame.settle s []
  · refine ⟨_, exec_mainPowerLoss vbat hp, ?_⟩
    rw [if_neg (by omega)]
    refine ⟨by simp [State.intoFirn], ((resetTo_intoFirn s _).put _ _ (by simp)).settle, by simp [F.PM_STAT_ON_VBAT], ?_, ?_, ?_⟩ <;>
      simp [State.intoFirn, State.loseMain, State.loseUnits, State.resetFields]
  · refine ⟨_, exec_mainPowerLoss vbat hp, ?_⟩
    rw [if_pos hv]
    refine ⟨by simp [State.intoFirn, State.loseBattery, State.resetFields], by simp [State.loseBattery], by simp [State.loseBattery], ?_,
      fun f hf hk => (State.settle_get _ f).trans (get_loseBoth hf hk)⟩
    simp [State.intoFirn, State.loseBattery, State.loseMain, State.resetFields]
  · refine ⟨_, exec_vbatLoss s, ?_⟩
    rw [if_pos hp]
    exact ⟨by simp [State.loseBattery, State.resetFields, hp], (resetTo_loseBattery s).settle, by simp [State.loseBattery],
      by simp [State.loseBattery]⟩
  · refine ⟨_, exec_vbatLoss s, ?_⟩
    rw [if_neg hp]
    exact Frame.settle s []

end Sys2Proof.Machine
end

section
/-! PROOF. Unit resets (O50): what one may change, unit by unit (R325, R358, R373). -/
namespace Sys2Proof.Machine

variable {s t u : State} {fs : List Fld}

/-! ## Keys and windows -/

/-- A field of the register map lies within its register. -/
theorem lo_lt_of_fieldOfKey {f : Fld} (hf : fieldOfKey f.key = some f) : f.lo < 64 := by
  have hlo : f.lo = f.key % 64 := by simpa using List.find?_some hf
  omega

/-- The window of a field within its register is read off its key. -/
theorem window_eq_key_div {f : Fld} (h : f.lo < 64) : f.window = f.key / 4194304 := by
  unfold Fld.window Fld.key
  omega

/-- Fields of two windows have two keys. -/
theorem key_ne_of_window {f g : Fld} (hf : f.lo < 64) (hg : g.lo < 64) (h : f.window ≠ g.window) : f.key ≠ g.key :=
  fun e => h (by rw [window_eq_key_div hf, window_eq_key_div hg, e])

/-! ## Repetition -/

/-- What each turn leaves alone, the whole leaves alone. -/
theorem forAll_inv {α β : Type} (g : State → β) (l : List α) (f : State → α → State) (h : ∀ t x, g (f t x) = g t) (s : State) :
    g (s.forAll l f) = g s := by
  induction l generalizing s with
  | nil => rfl
  | cons x l ih => exact (ih (f s x)).trans (h s x)

/-- A choice whose two outcomes look alike. -/
theorem when_inv {β : Type} (g : State → β) (b : Bool) (f : State → State) (h : g (f s) = g s) : g (s.when b f) = g s := by
  cases b
  · rfl
  · exact h

/-! ## A unit's registers -/

/-- A unit reset's registers go by letter U, its hardware with them (R358). -/
theorem get_resetUnit (s : State) (win : Nat) {f : Fld} (hf : fieldOfKey f.key = some f) :
    (s.resetUnit win).get f = if f.window = win ∧ f.keptThrough .U = false then f.reset else s.get f := by
  have h := get_resetFields s .U (· == win) hf
  simpa [State.resetUnit] using h

/-- The registers of core k alone go by letter U, but for STATE and ACTIVE (R358). -/
theorem get_resetCoreFields (s : State) (k : Nat) {f : Fld} (hf : fieldOfKey f.key = some f) (hlo : 0x050100 + k * 0x8000 ≤ f.off)
    (hhi : f.off < 0x058000 + k * 0x8000) (hk : f.key ∉ [(F.TK_STAT_STATE k).key, (F.TK_STAT_ACTIVE k).key]) :
    (s.resetCoreFields k).get f = if f.keptThrough .U then s.get f else f.reset := by
  have hlo' : ¬ f.off < 0x050100 + k * 0x8000 := by omega
  have hhi' : ¬ 0x050100 + k * 0x8000 + 0x7F00 ≤ f.off := by omega
  have hc : ([(F.TK_STAT_STATE k).key, (F.TK_STAT_ACTIVE k).key] : List Nat).contains f.key = false := by simpa using hk
  unfold State.resetCoreFields State.get
  dsimp only
  split
  next h => exact readCell_filter_kept (fun v => by simp only [hf, h, Bool.or_true, Bool.true_or]) _ _
  next h =>
    refine readCell_filter_dropped (fun v => ?_) _ _
    simp only [hf, hlo', hhi', hc, Bool.eq_false_iff.mpr h, decide_false, Bool.or_false]

/-! ## Crypto calls that end (R232) -/

/-- Lane fields of CX_STAT. -/
def busyFields : List Fld := [F.CX_STAT_AES_BUSY, F.CX_STAT_SHA_BUSY, F.CX_STAT_PK_BUSY]

theorem cxBusy_mem (kind : Nat) : cxBusy kind ∈ busyFields := by
  unfold cxBusy
  split <;> simp [busyFields]

/-- CX_STAT is not kept through letter U. -/
theorem busy_not_kept {f : Fld} (hf : fieldOfKey f.key = some f) (hk : f.key ∈ busyFields.map Fld.key) : f.keptThrough .U = false := by
  obtain ⟨g, hg, he⟩ := List.mem_map.mp hk
  have hall : ∀ g ∈ busyFields, fieldOfKey g.key = some g ∧ g.keptThrough .U = false := by decide +kernel
  obtain ⟨hgk, hgu⟩ := hall g hg
  rw [he, hf] at hgk
  rwa [Option.some.inj hgk]

/-- Calls end between s and t: time and the Firn store stay, no call is new, and of registers only those of the fabric's window and CX_STAT's
lane fields may change. -/
def CallsEnd (s t : State) : Prop :=
  (t.now = s.now ∧ t.firn = s.firn) ∧ (∀ r ∈ t.df.cx, r ∈ s.df.cx) ∧
    ∀ f : Fld, f.lo < 64 → f.window ≠ 0x0C → f.key ∉ busyFields.map Fld.key → t.get f = s.get f

theorem CallsEnd.refl (s : State) : CallsEnd s s := ⟨⟨rfl, rfl⟩, fun _ h => h, fun _ _ _ _ => rfl⟩

theorem CallsEnd.trans (h : CallsEnd s t) (g : CallsEnd t u) : CallsEnd s u := by
  obtain ⟨⟨hn, hf⟩, hc, hg⟩ := h
  obtain ⟨⟨gn, gf⟩, gc, gg⟩ := g
  exact ⟨⟨gn.trans hn, gf.trans hf⟩, fun r hr => hc r (gc r hr), fun f h1 h2 h3 => (gg f h1 h2 h3).trans (hg f h1 h2 h3)⟩

theorem CallsEnd.put (s : State) {f : Fld} (v : Nat) (h : f.lo < 64 ∧ f.window = 0x0C ∨ f ∈ busyFields) : CallsEnd s (s.put f v) := by
  refine ⟨⟨rfl, rfl⟩, fun _ h => h, fun g h1 h2 h3 => State.get_put_other s f g v fun e => ?_⟩
  obtain ⟨hlo, hw⟩ | hb := h
  · exact key_ne_of_window h1 hlo (fun hgw => h2 (hgw.trans hw)) e
  · exact h3 (e ▸ List.mem_map_of_mem hb)

theorem CallsEnd.when (b : Bool) {f : State → State} (h : b = true → CallsEnd s (f s)) : CallsEnd s (s.when b f) := by
  cases b
  · exact CallsEnd.refl s
  · exact h rfl

theorem callsEnd_freeLane (s : State) (r : CxReq) : CallsEnd s (s.freeLane r) := by
  unfold State.freeLane
  split
  · exact CallsEnd.put s _ (.inr (cxBusy_mem _))
  · exact CallsEnd.refl s

theorem callsEnd_countFail (s : State) (f : Nat) : CallsEnd s (s.countFloe F.DF_FLOE_CNT_CXFAIL_N f) := by
  refine CallsEnd.when _ fun h => CallsEnd.put s _ (.inl ⟨by simp [F.DF_FLOE_CNT_CXFAIL_N], ?_⟩)
  have : f < 48 := of_decide_eq_true h
  simp only [Fld.window, F.DF_FLOE_CNT_CXFAIL_N]
  omega

theorem callsEnd_showIngress (s : State) (f : Nat) : CallsEnd s (s.showIngress f) := by
  refine CallsEnd.when _ fun h => CallsEnd.put s _ (.inl ⟨by simp [F.DF_FLOE_STAT_IN_LEVEL], ?_⟩)
  have : f < 48 := of_decide_eq_true h
  simp only [Fld.window, F.DF_FLOE_STAT_IN_LEVEL]
  omega

/-- An update of the tokens and of what they have asked for ends no register. -/
theorem callsEnd_moveToken (s : State) (k : Token) (f : Nat) (pl : Place) : CallsEnd s (s.moveToken k f pl) := by
  have h : CallsEnd s { s with df.tokens := s.df.tokens.filter (fun (x : Token) => x.id != k.id) ++ [{ k with floe := f, place := pl }] } :=
    ⟨⟨rfl, rfl⟩, fun _ h => h, fun _ _ _ _ => rfl⟩
  exact (h.trans (callsEnd_showIngress _ _)).trans (callsEnd_showIngress _ _)

theorem callsEnd_dropToken (s : State) (k : Token) : CallsEnd s (s.dropToken k) := by
  have h : CallsEnd s (State.forgetToken { s with df.tokens := s.df.tokens.filter (fun (x : Token) => x.id != k.id) } k.id) :=
    ⟨⟨rfl, rfl⟩, fun _ h => List.mem_of_mem_filter h, fun _ _ _ _ => rfl⟩
  exact h.trans (callsEnd_showIngress _ _)

theorem callsEnd_deliverToken (s : State) (f c : Nat) (r : CellRec) (k : Token) (o : Nat) : CallsEnd s (s.deliverToken f c r k o) := by
  unfold State.deliverToken State.passToken
  split
  · split
    · exact callsEnd_moveToken _ _ _ _
    · exact callsEnd_moveToken _ _ _ _
  · exact callsEnd_dropToken _ _

/-- An answered call is gone. -/
theorem callsEnd_answerCx (s : State) (r : CxReq) (o : Nat) :
    CallsEnd s (s.answerCx r o) ∧ ∀ x ∈ (s.answerCx r o).df.cx, x.tok ≠ r.tok := by
  have h : CallsEnd s { s with df.cx := s.df.cx.filter (fun x => x.tok != r.tok) } :=
    ⟨⟨rfl, rfl⟩, fun _ h => List.mem_of_mem_filter h, fun _ _ _ _ => rfl⟩
  have hne : ∀ x ∈ s.df.cx.filter (fun x => x.tok != r.tok), x.tok ≠ r.tok := fun x hx => by simpa using (List.mem_filter.mp hx).2
  unfold State.answerCx
  dsimp only
  split
  · next k cr _ _ =>
    have hd := callsEnd_deliverToken { s with df.cx := s.df.cx.filter (fun x => x.tok != r.tok) } r.floe r.cell cr k o
    exact ⟨h.trans hd, fun x hx => hne x (hd.2.1 x hx)⟩
  · exact ⟨h, hne⟩

/-- A failed call of a status other than DENIED is gone. -/
theorem callsEnd_failCx (s : State) (r : CxReq) {status : Nat} (h : status ≠ 0x02) :
    CallsEnd s (s.failCx r status) ∧ ∀ x ∈ (s.failCx r status).df.cx, x.tok ≠ r.tok := by
  unfold State.failCx State.keyDenied
  rw [if_neg h]
  obtain ⟨ha, hne⟩ := callsEnd_answerCx ((s.freeLane r).countFloe F.DF_FLOE_CNT_CXFAIL_N r.floe) r 2
  exact ⟨((callsEnd_freeLane s r).trans (callsEnd_countFail _ _)).trans ha, hne⟩

theorem callsEnd_forAll (l : List CxReq) {status : Nat} (h : status ≠ 0x02) (s : State) :
    CallsEnd s (s.forAll l fun t r => t.failCx r status) ∧
      ∀ x ∈ (s.forAll l fun t r => t.failCx r status).df.cx, ∀ r ∈ l, x.tok ≠ r.tok := by
  induction l generalizing s with
  | nil => exact ⟨CallsEnd.refl s, fun _ _ r hr => absurd hr (List.not_mem_nil)⟩
  | cons r l ih =>
    obtain ⟨hc, hne⟩ := callsEnd_failCx s r h
    obtain ⟨ic, ine⟩ := ih (s.failCx r status)
    refine ⟨hc.trans ic, fun x hx r' hr' => ?_⟩
    obtain rfl | hr' := List.mem_cons.mp hr'
    · exact hne x (ic.2.1 x hx)
    · exact ine x hx r' hr'

theorem callsEnd_abortCx (s : State) : CallsEnd s (s.abortCx 0x09) := (callsEnd_forAll s.df.cx (by decide) s).1

/-- No call remains once all have been aborted. -/
theorem abortCx_cx (s : State) : (s.abortCx 0x09).df.cx = [] := by
  obtain ⟨⟨_, hsub, _⟩, hne⟩ := callsEnd_forAll s.df.cx (status := 0x09) (by decide) s
  refine List.eq_nil_iff_forall_not_mem.mpr fun x hx => hne x hx x (hsub x hx) rfl

/-! ## Time and the Firn store through a unit reset -/

/-- Corrected time and the Firn store. -/
def State.lasting (s : State) : Nat × List Host.Cell := (s.now, s.firn)

@[simp] theorem lasting_put (s : State) (f : Fld) (v : Nat) : (s.put f v).lasting = s.lasting := rfl
@[simp] theorem lasting_setSlot (s : State) (n : Nat) (f : RsSlot → RsSlot) : (s.setSlot n f).lasting = s.lasting := rfl
@[simp] theorem lasting_startBandwidth (s : State) (n : Nat) : (s.startBandwidth n).lasting = s.lasting := rfl
@[simp] theorem lasting_startSurvey (s : State) : s.startSurvey.lasting = s.lasting := rfl
@[simp] theorem lasting_queueCal (s : State) (n : Nat) : (s.queueCal n).lasting = s.lasting := by
  unfold State.queueCal
  split <;> rfl
@[simp] theorem lasting_event (s : State) (f : Fld) (code inst arg : Nat) : (s.event f code inst arg).lasting = s.lasting := by
  simp [State.lasting]
@[simp] theorem lasting_when (s : State) (b : Bool) (f : State → State) :
    (s.when b f).lasting = if b then (f s).lasting else s.lasting := by cases b <;> rfl
theorem lasting_forAll {α : Type} (s : State) (l : List α) (f : State → α → State) (h : ∀ t x, (f t x).lasting = t.lasting) :
    (s.forAll l f).lasting = s.lasting := forAll_inv State.lasting l f h s

@[simp] theorem lasting_enterSlot (s : State) (n new cause : Nat) : (s.enterSlot n new cause).lasting = s.lasting := by
  unfold State.enterSlot
  dsimp only
  split
  case h_2 => split <;> simp
  all_goals simp

theorem lasting_unitIe (s : State) : s.unitIe.lasting = s.lasting := lasting_forAll _ _ _ (fun _ _ => by simp)

theorem lasting_unitRs (s : State) : s.unitRs.lasting = s.lasting := by
  unfold State.unitRs
  dsimp only
  rw [lasting_put, lasting_forAll _ _ _ (fun _ _ => by simp)]
  have h := lasting_forAll s (List.range 16) (fun t n => t.enterSlot n 0 0) (fun _ _ => by simp)
  generalize s.forAll (List.range 16) (fun t n => t.enterSlot n 0 0) = u at h ⊢
  exact h

theorem lasting_unitMb (s : State) : s.unitMb.lasting = s.lasting := by
  unfold State.unitMb
  dsimp only
  generalize hu : State.put _ F.MB_STAT_STATE 2 = u
  have hl : u.lasting = s.lasting := by rw [← hu]; rfl
  simp [State.traceRecord, hl]

/-- A start of the baseband logs a bad record at most. -/
theorem startKind_eq (s : State) : s.startKind.1 = s ∨ s.startKind.1 = s.event F.GN_EVT_FN_BAD 0x030D 0 0 := by
  unfold State.startKind
  dsimp only
  split
  · exact .inr rfl
  · left
    split
    · rfl
    · split <;> rfl

/-- What is due starts, or waits (R146). -/
theorem tryStart_eq (s : State) : s.tryStart = s ∨ (s.gn.flake = false ∧ ∃ b k, s.tryStart = { (s.startKind.1.when b (·.startSurvey)).put
    F.GN_STAT_STATE 1 with gn.startDue := false, gn.first := true, gn.kind := k, gn.hot := false, gn.lastEpoch := none }) := by
  unfold State.tryStart
  split
  · exact .inl rfl
  · next h =>
    right
    generalize s.startKind = r
    obtain ⟨t, k⟩ := r
    exact ⟨(by simpa using h : _ ∧ _).2, _, _, rfl⟩

theorem lasting_gnStart (s : State) : s.gnStart.lasting = s.lasting := by
  unfold State.gnStart
  generalize hu : ({ s.put F.GN_STAT_STATE (if s.gn.flake then 4 else 1) with gn.startDue := true } : State) = u
  have hl : u.lasting = s.lasting := by rw [← hu]; rfl
  obtain h | ⟨_, b, k, h⟩ := tryStart_eq u
  · rw [h, hl]
  · rw [h]
    have hw : (u.startKind.1.when b (·.startSurvey)).lasting = s.lasting := by obtain hk | hk := startKind_eq u <;> simp [hk, hl]
    exact hw

theorem lasting_leaveFlake (s : State) : s.leaveFlake.lasting = s.lasting := by
  have he := lasting_event s F.GN_EVT_FLAKE 0x030A 0 1
  unfold State.leaveFlake
  split
  · rfl
  · dsimp only
    split
    · exact he
    · exact (when_inv State.lasting _ _ (lasting_gnStart _)).trans he

theorem lasting_unitGn (s : State) : s.unitGn.lasting = s.lasting := by
  unfold State.unitGn
  dsimp only
  split
  · exact lasting_leaveFlake _
  · exact when_inv State.lasting _ _ (lasting_gnStart _)

theorem lasting_unitCx (s : State) : s.unitCx.lasting = s.lasting := by
  obtain ⟨⟨hn, hf⟩, _, _⟩ := callsEnd_abortCx s
  exact Prod.ext hn hf

theorem lasting_unitPt (s : State) : s.unitPt.lasting = s.lasting := lasting_forAll s _ State.forgetUpstream (fun _ _ => rfl)

theorem lasting_unitSuper (s : State) (k : Nat) : (s.unitSuper k).lasting = s.lasting :=
  lasting_forAll s _ _ (fun _ _ => when_inv State.lasting _ _ rfl)

/-- No unit reset touches corrected time or the Firn store. -/
theorem lasting_unitEffect (s : State) (unit : Nat) : (s.unitEffect unit).lasting = s.lasting := by
  unfold State.unitEffect
  split
  · rfl
  · rfl
  · rfl
  · exact lasting_unitIe s
  · exact lasting_unitRs s
  · exact lasting_unitMb s
  · exact lasting_unitGn s
  · rfl
  · exact lasting_unitCx s
  · exact lasting_unitPt s
  · rfl
  · rfl
  · exact lasting_unitSuper s 0
  · exact lasting_unitSuper s 1

/-! ## What a unit reset leaves of each register -/

theorem queueAutoAll_cells (s : State) : s.queueAutoAll.cells = s.cells :=
  forAll_inv State.cells _ _ (fun t n => when_inv _ _ _ (by unfold State.queueCal; split <;> rfl)) s

theorem unitIe_cells (s : State) : s.unitIe.cells = (s.resetUnit 0x03).cells := by
  unfold State.unitIe
  dsimp only
  rw [queueAutoAll_cells]

/-- Units whose registers are those of one window: unit and window (R373). -/
def windowUnits : List (Nat × Nat) := [(4, 0x03), (8, 0x07), (9, 0x0E), (10, 0x0D), (11, 0x15), (12, 0x14)]

/-- Their registers go by letter U, and no other changes, but the lane synthesizer's lock and, for ended calls, the fabric's counts (R358, R373). -/
theorem get_unitEffect (s : State) {e : Nat × Nat} (he : e ∈ windowUnits) {f : Fld} (hf : fieldOfKey f.key = some f)
    (hlock : e.1 = 8 → f.key ≠ F.OS_SM_STAT_LOCK.key) (hdf : e.1 = 9 → f.window ≠ 0x0C) :
    (s.unitEffect e.1).get f = if f.window = e.2 ∧ f.keptThrough .U = false then f.reset else s.get f := by
  simp only [windowUnits, List.mem_cons, List.not_mem_nil, or_false] at he
  obtain rfl | rfl | rfl | rfl | rfl | rfl := he
  case inl =>
    show s.unitIe.get f = _
    rw [get_ofCells (unitIe_cells s)]
    exact get_resetUnit s 0x03 hf
  case inr.inl =>
    show s.unitOs.get f = _
    unfold State.unitOs
    rw [State.get_put_other _ _ f _ (hlock rfl)]
    exact get_resetUnit s 0x07 hf
  case inr.inr.inl =>
    obtain ⟨_, _, hget⟩ := callsEnd_abortCx s
    refine (get_resetUnit (s.abortCx 0x09) 0x0E hf).trans ?_
    split
    · rfl
    · next h =>
      refine hget f (lo_lt_of_fieldOfKey hf) (hdf rfl) fun hb => h ⟨?_, busy_not_kept hf hb⟩
      have hw : ∀ k ∈ busyFields.map Fld.key, k / 4194304 = 0x0E := by decide
      rw [window_eq_key_div (lo_lt_of_fieldOfKey hf), hw _ hb]
  case inr.inr.inr.inl =>
    have hc : (s.forAll (List.range 6) State.forgetUpstream).cells = s.cells := forAll_inv State.cells _ State.forgetUpstream (fun _ _ => rfl) s
    exact (get_resetUnit _ 0x0D hf).trans (by rw [get_ofCells hc])
  case inr.inr.inr.inr.inl => exact get_resetUnit s 0x15 hf
  case inr.inr.inr.inr.inr => exact get_resetUnit s 0x14 hf

/-- The time synthesizer has neither error nor hold, and owes an allowance (R112, R158). -/
theorem unitSynth_reloads (s : State) : s.unitSynth.get F.TK_TS_STAT_LS_ERR = 0 ∧ s.unitSynth.get F.TK_TS_STAT_LS_FAIL = 0 ∧
    s.unitSynth.get F.TK_TS_STAT_HELD = 0 ∧ s.unitSynth.mb.owed = s.mb.owed ++ [Allowance.lockstep] ∧
    Keeps s s.unitSynth [F.TK_TS_STAT_LS_ERR, F.TK_TS_STAT_LS_FAIL, F.TK_TS_STAT_HELD] := by
  generalize hu : ((s.put F.TK_TS_STAT_LS_ERR 0).put F.TK_TS_STAT_LS_FAIL 0).put F.TK_TS_STAT_HELD 0 = u
  have hc : s.unitSynth.cells = u.cells := by rw [← hu]; rfl
  rw [get_ofCells hc, get_ofCells hc, get_ofCells hc, ← hu, State.get_put_same, State.get_put_other _ _ F.TK_TS_STAT_LS_FAIL _ (by decide),
    State.get_put_same, State.get_put_other _ _ F.TK_TS_STAT_LS_ERR _ (by decide), State.get_put_other _ _ F.TK_TS_STAT_LS_ERR _ (by decide),
    State.get_put_same]
  exact ⟨rfl, rfl, rfl, rfl, Keeps.next ((((Keeps.refl s _).put F.TK_TS_STAT_LS_ERR 0 (by simp)).put F.TK_TS_STAT_LS_FAIL 0 (by simp)).put F.TK_TS_STAT_HELD 0 (by simp)) rfl⟩

/-- The reference selector ends in HOLD. -/
theorem unitRs_hold (s : State) : s.unitRs.get F.RS_STAT_HOLD = 1 := State.get_put_same _ _ _

/-- Moraine ends unbounded and in its reset state (R158). -/
theorem unitMb_unbounded (s : State) : s.unitMb.get F.MB_STAT_UNB = 1 ∧ s.unitMb.get F.MB_STAT_STATE = 2 := by
  unfold State.unitMb
  dsimp only
  generalize hu : State.put _ F.MB_STAT_STATE 2 = u
  have hunb : u.get F.MB_STAT_UNB = 1 := by rw [← hu, State.get_put_other _ _ _ _ (by decide), State.get_put_same]; rfl
  have hstate : u.get F.MB_STAT_STATE = 2 := by rw [← hu, State.get_put_same]; rfl
  have hk : Keeps u _ [F.MB_EVT_UNB, F.MB_EVT_TRACE] :=
    ((Keeps.refl u _).when (!s.on F.MB_STAT_UNB) (·.event F.MB_EVT_UNB 0x0411 0 0) fun _ => (Keeps.refl _ _).event _ _ _ _ (by simp)).when
      (!s.on F.MB_STAT_UNB || s.get F.MB_STAT_STATE != 2) (·.traceRecord) fun _ => (Keeps.refl _ _).event _ _ _ _ (by simp)
  exact ⟨(hk.get _ (by decide) (by decide)).trans hunb, (hk.get _ (by decide) (by decide)).trans hstate⟩

/-- Survey-in touches neither script nor search (R138). -/
theorem startSurvey_keeps (s : State) (b : Bool) : (s.when b (·.startSurvey)).gn.script = s.gn.script ∧
    (s.when b (·.startSurvey)).gn.search = s.gn.search := by cases b <;> exact ⟨rfl, rfl⟩

/-- A start of the baseband shows its state, and goes on without a script or a search of its own (R146). -/
theorem gnStart_shows (s : State) : s.gnStart.get F.GN_STAT_STATE = (if s.gn.flake then 4 else 1) ∧ s.gnStart.gn.script = s.gn.script ∧
    s.gnStart.gn.search = s.gn.search := by
  unfold State.gnStart
  generalize hu : ({ s.put F.GN_STAT_STATE (if s.gn.flake then 4 else 1) with gn.startDue := true } : State) = u
  have hget : u.get F.GN_STAT_STATE = if s.gn.flake then 4 else 1 := by
    rw [← hu]
    refine (State.get_put_same s F.GN_STAT_STATE _).trans ?_
    cases s.gn.flake <;> rfl
  have hgn : u.gn = { s.gn with startDue := true } := by rw [← hu]; rfl
  have hflake : u.gn.flake = s.gn.flake := by rw [hgn]
  obtain h | ⟨hf, b, k, h⟩ := tryStart_eq u
  · rw [h]
    exact ⟨hget, by rw [hgn], by rw [hgn]⟩
  · have hk : u.startKind.1.gn = u.gn := by obtain hk | hk := startKind_eq u <;> simp [hk]
    have hsurvey := startSurvey_keeps u.startKind.1 b
    rw [hk, hgn] at hsurvey
    rw [h, ← hflake, hf]
    exact ⟨State.get_put_same _ F.GN_STAT_STATE 1, hsurvey⟩

/-- An enabled baseband starts anew (R146). -/
theorem unitGn_starts (hen : s.on F.GN_CFG_EN = true) (hauto : s.gn.autoFlake = false) :
    s.unitGn.get F.GN_STAT_STATE = (if s.gn.flake then 4 else 1) ∧ s.unitGn.gn.script = false ∧ s.unitGn.gn.search = [] := by
  unfold State.unitGn
  dsimp only
  rw [hauto, Bool.false_and, if_neg Bool.false_ne_true]
  generalize hu : ({ s.resetUnit 0x08 with gn := { ephs := s.gn.ephs, nav := s.gn.nav, badPairs := s.gn.badPairs, flake := s.gn.flake } } : State) = u
  have hon : u.on F.GN_CFG_EN = true := by
    have hk := get_resetUnit s 0x08 (f := F.GN_CFG_EN) (by decide +kernel)
    rw [if_neg (by decide)] at hk
    rw [← hu]
    simpa [State.on, State.get] using (congrArg (· != 0) hk).trans hen
  rw [hon, State.when_true]
  obtain ⟨h1, h2, h3⟩ := gnStart_shows u
  exact ⟨h1.trans (by rw [← hu]), h2.trans (by rw [← hu]), h3.trans (by rw [← hu])⟩

/-! ## Mailboxes -/

/-- What a supervisor core's reset makes of a mailbox. -/
def Mailbox.dropped (b : Mailbox) : Mailbox :=
  { b with doorbell := false, status := 0x09, done := true, rtag := b.tag, rpayload := ([] : List Byte).take 2040, reply := none }

/-- One turn of a supervisor core's reset: mailbox n, where the core holds it. -/
def State.dropBox (k : Nat) (t : State) (n : Nat) : State :=
  t.when ((t.host.boxes.getD n {}).doorbell && (t.host.boxes.getD n {}).core == k) (·.endBox n 0x09 [])

theorem box_dropBox (s : State) (k n m : Nat) : (s.dropBox k n).box m =
    if m = n ∧ ((s.box n).doorbell && (s.box n).core == k) = true then (s.box n).dropped else s.box m := by
  unfold State.dropBox
  cases h : (s.host.boxes.getD n {}).doorbell && (s.host.boxes.getD n {}).core == k
  · rw [if_neg (fun e => Bool.false_ne_true (h.symm.trans e.2))]
    rfl
  · have hb : ((s.box n).doorbell && (s.box n).core == k) = true := h
    show (alter {} n (fun _ => (s.box n).dropped) s.host.boxes).getD m {} = _
    rw [getD_alter _ _ _ _ _ _ (.inr rfl)]
    simp only [hb, and_true]
    rfl

/-- The turns of a list of mailboxes, each named once. -/
theorem box_forAll_dropBox (k m : Nat) (l : List Nat) (hl : l.Nodup) (s : State) : (s.forAll l (State.dropBox k)).box m =
    if m ∈ l ∧ ((s.box m).doorbell && (s.box m).core == k) = true then (s.box m).dropped else s.box m := by
  induction l generalizing s with
  | nil => simp [State.forAll]
  | cons n l ih =>
    obtain ⟨hn, hl⟩ := List.nodup_cons.mp hl
    refine (ih hl (s.dropBox k n)).trans ?_
    by_cases hm : m = n
    · subst hm
      rw [if_neg (fun e => hn e.1), box_dropBox]
      simp
    · have hb : (s.dropBox k n).box m = s.box m := by rw [box_dropBox, if_neg (fun e => hm e.1)]
      simp [hb, hm]

theorem box_unitSuper (s : State) (k : Nat) {n : Nat} (hn : n < 6) (hd : (s.box n).doorbell = true) :
    ((s.unitSuper k).box n).doorbell = decide ((s.box n).core ≠ k) ∧ ((s.box n).core = k → ((s.unitSuper k).box n).status = 9) := by
  have h : (s.unitSuper k).box n = _ := box_forAll_dropBox k n (List.range 6) List.nodup_range s
  rw [h]
  by_cases hk : (s.box n).core = k <;> simp [hn, hd, hk, Mailbox.dropped]

/-! ## The request -/

/-- No interlock gives a status above a byte. -/
theorem unitBlocked_lt (s : State) (unit : Nat) : s.unitBlocked unit < 256 := by
  have hite : ∀ (p : Prop) [Decidable p] (a b : Nat), a < 256 → b < 256 → (if p then a else b) < 256 := by
    intro p _ a b ha hb
    split <;> assumption
  unfold State.unitBlocked
  dsimp only
  split
  case h_10 => decide
  all_goals exact hite _ _ _ (by decide) (by decide)

/-- Unit resets as commands, with their units (R373). -/
def unitCommands (path : Path) : List (Instr × Nat) :=
  [(Instr.uresetCore path 0, 1), (.uresetCore path 1, 2), (.uresetTimeSynth path, 3), (.uresetIe path, 4), (.uresetRs path, 5), (.uresetMb path, 6),
    (.uresetGn path, 7), (.uresetOs path, 8), (.uresetCx path, 9), (.uresetPt path, 10), (.uresetJl path, 11), (.uresetPc path, 12),
    (.uresetSupervisor path 0, 13), (.uresetSupervisor path 1, 14)]

/-- Each asks for its unit through its path. -/
theorem exec_unitCommand (s : State) (path : Path) : ∀ e ∈ unitCommands path,
    exec e.1 s = running s (·.hostUnit path e.2) ∧ ¬ (e.2 = 0 ∨ 0x0E < e.2) := by
  simp only [unitCommands, List.forall_mem_cons, List.not_mem_nil, false_implies, implies_true, and_true]
  refine ⟨?_, ?_, ?_, ?_, ?_, ?_, ?_, ?_, ?_, ?_, ?_, ?_, ?_, ?_⟩ <;> exact ⟨rfl, by decide⟩

section
variable {path : Path} {c : Instr} {unit : Nat} {P : State → Prop} (hp : s.power = .run) (hj : s.judge path F.SY_URESET_GO.off true = .served)
  (hm : (c, unit) ∈ unitCommands path)
include hp hj hm

theorem does_unit (h : P (s.unitReset unit).settle) : Does c s P := by
  refine does_running (exec_unitCommand s path _ hm).1 hp ?_
  show P (s.hostUnit path unit).settle
  rwa [State.hostUnit, State.hostWrite_served _ _ _ _ hj]

/-- While another runs (R364). -/
theorem does_unit_busy (hb : s.on F.SY_RST_STAT_UNIT_BUSY = true) :
    Does c s fun t => Frame s t [F.PM_EVT_URESET] ∧ Logs s t 0x0121 0x01 0 (unit + 256) := by
  refine does_unit hp hj hm ?_
  rw [State.unitReset, if_neg (exec_unitCommand s path _ hm).2, if_pos hb]
  exact ⟨(Frame.event s _ _ _ _ (by simp)).settled, fun hq hl => by rw [State.settle_jl]; exact State.event_logs s _ _ _ _ hq hl⟩

/-- Forbidden by its interlock (R373). -/
theorem does_unit_blocked (hb : s.on F.SY_RST_STAT_UNIT_BUSY = false) (hi : s.unitBlocked unit ≠ 0) :
    Does c s fun t => Frame s t [F.SY_RST_STAT_LAST_UNIT, F.SY_RST_STAT_LAST_STATUS, F.PM_EVT_URESET] ∧ t.get F.SY_RST_STAT_LAST_UNIT = unit ∧
      t.get F.SY_RST_STAT_LAST_STATUS = s.unitBlocked unit ∧ Logs s t 0x0121 0x01 0 (unit + s.unitBlocked unit * 256) := by
  obtain ⟨_, hu⟩ := exec_unitCommand s path _ hm
  refine does_unit hp hj hm ?_
  rw [State.unitReset, if_neg hu, if_neg (by simp [hb]), if_pos hi]
  have hst := unitBlocked_lt s unit
  unfold State.unitDone
  refine ⟨?_, ?_, ?_, fun hq hl => ?_⟩
  · exact (((Frame.put s _ _ (.inl (by simp))).trans (Frame.put _ _ _ (.inl (by simp)))).trans (Frame.event _ _ _ _ _ (by simp))).settled
  · rw [State.settle_get, State.event_get_other _ _ _ _ _ _ (by decide) (by decide), State.get_put_other _ _ _ _ (by decide), State.get_put_same]
    exact Nat.mod_eq_of_lt (by simp only [F.SY_RST_STAT_LAST_UNIT]; omega)
  · rw [State.settle_get, State.event_get_other _ _ _ _ _ _ (by decide) (by decide), State.get_put_same]
    exact Nat.mod_eq_of_lt hst
  · rw [State.settle_jl]
    exact State.event_logs _ F.PM_EVT_URESET _ _ _ hq hl

/-- Neither: the unit is reset, and UNIT_BUSY is set. -/
theorem does_unit_free (hb : s.on F.SY_RST_STAT_UNIT_BUSY = false) (hi : s.unitBlocked unit = 0)
    (h : P { (s.unitEffect unit).put F.SY_RST_STAT_UNIT_BUSY 1 with pm.unit := unit }.settle) : Does c s P := by
  refine does_unit hp hj hm ?_
  rwa [State.unitReset, if_neg (exec_unitCommand s path _ hm).2, if_neg (by simp [hb]), if_neg (by simp [hi])]

end

/-- The state of a unit reset in progress reads every field but UNIT_BUSY as the unit's effect leaves it. -/
theorem get_unitBusy (t : State) (unit : Nat) {f : Fld} (h : f.key ≠ F.SY_RST_STAT_UNIT_BUSY.key) :
    ({ t.put F.SY_RST_STAT_UNIT_BUSY 1 with pm.unit := unit } : State).settle.get f = t.get f :=
  (State.settle_get _ f).trans (State.get_put_other t _ f 1 h)

/-- A core is FAILED, its self-test runs, and its registers go by letter U (R325). -/
theorem unitCore_fails (s : State) (k : Fin 2) : (s.unitCore k).get (F.TK_STAT_STATE k) = 5 ∧ (s.unitCore k).rd.testing.getD k none = some s.now ∧
    ∀ f : Fld, fieldOfKey f.key = some f → 0x050100 + k * 0x8000 ≤ f.off → f.off < 0x058000 + k * 0x8000 →
      f.key ∉ [(F.TK_STAT_STATE k).key, (F.TK_STAT_ACTIVE k).key] → (s.unitCore k).get f = if f.keptThrough .U then s.get f else f.reset := by
  have hwin : ∀ f : Fld, 0x050100 + k * 0x8000 ≤ f.off → f.off < 0x058000 + k * 0x8000 → f.window = 0x05 := by
    intro f h1 h2
    unfold Fld.window
    omega
  have hstate : (F.TK_STAT_STATE k).window = 0x05 := hwin _ (by simp [F.TK_STAT_STATE]) (by simp only [F.TK_STAT_STATE]; omega)
  refine ⟨?_, getD_assign_same _ _ _ _ _, fun f hf h1 h2 hk => ?_⟩
  · have hne : (F.TK_STAT_STATE k).key ≠ F.RD_STAT_SB_AVAIL.key := key_ne_of_window (by simp [F.TK_STAT_STATE]) (by decide) (by rw [hstate]; decide)
    exact (State.get_put_other _ _ _ _ hne).trans (State.get_put_same _ _ _)
  · have hne : f.key ≠ F.RD_STAT_SB_AVAIL.key := key_ne_of_window (lo_lt_of_fieldOfKey hf) (by decide) (by rw [hwin f h1 h2]; decide)
    have hst : f.key ≠ (F.TK_STAT_STATE k).key := fun e => hk (by simp [e])
    exact (State.get_put_other _ _ _ _ hne).trans ((State.get_put_other _ _ _ _ hst).trans (get_resetCoreFields s k hf h1 h2 hk))

/-- URESET_COMPLETE of a unit reset in progress (R373). -/
theorem does_uresetComplete (hp : s.power = .run) (hb : s.on F.SY_RST_STAT_UNIT_BUSY = true) :
    Does .uresetComplete s fun t => t.get F.SY_RST_STAT_UNIT_BUSY = 0 ∧
      t.get F.SY_RST_STAT_LAST_UNIT = s.pm.unit % 2 ^ F.SY_RST_STAT_LAST_UNIT.width ∧ t.get F.SY_RST_STAT_LAST_STATUS = 0 ∧
      Frame { s with pm.unit := 0 } t [F.SY_RST_STAT_UNIT_BUSY, F.SY_RST_STAT_LAST_UNIT, F.SY_RST_STAT_LAST_STATUS, F.PM_EVT_URESET] ∧
      Logs s t 0x0121 0x01 0 s.pm.unit := by
  refine does_running (by unfold exec; rfl) hp ?_
  rw [hb, State.when_true]
  generalize hu : ({ s with pm.unit := 0 } : State).put F.SY_RST_STAT_UNIT_BUSY 0 = u
  have hus : ({ s.put F.SY_RST_STAT_UNIT_BUSY 0 with pm.unit := 0 } : State) = u := hu
  rw [hus, State.unitDone]
  refine ⟨?_, ?_, ?_, ?_, fun hq hl => ?_⟩
  · rw [State.settle_get, State.event_get_other _ _ _ _ _ _ (by decide) (by decide), State.get_put_other _ _ _ _ (by decide),
      State.get_put_other _ _ _ _ (by decide), ← hu, State.get_put_same]
    rfl
  · rw [State.settle_get, State.event_get_other _ _ _ _ _ _ (by decide) (by decide), State.get_put_other _ _ _ _ (by decide), State.get_put_same]
  · rw [State.settle_get, State.event_get_other _ _ _ _ _ _ (by decide) (by decide), State.get_put_same]
    rfl
  · rw [← hu]
    exact ((((Frame.put _ _ _ (.inl (by simp))).trans (Frame.put _ _ _ (.inl (by simp)))).trans (Frame.put _ _ _ (.inl (by simp)))).trans
      (Frame.event _ _ _ _ _ (by simp))).settled
  · rw [State.settle_jl]
    have := State.event_logs ((u.put F.SY_RST_STAT_LAST_UNIT s.pm.unit).put F.SY_RST_STAT_LAST_STATUS 0) F.PM_EVT_URESET 0x0121 0 (s.pm.unit + 0 * 256)
    rw [Nat.zero_mul, Nat.add_zero] at this ⊢
    rw [← hu] at this ⊢
    exact this hq hl

/-- Settles O50: the request's three ways are `does_unit_busy`, `does_unit_blocked` and `does_unit_free`; then one lemma per unit. -/
theorem unitResetsAskTheirInterlock : Obligations.UnitResetsAskTheirInterlock := by
  refine ⟨fun s path hp hj => ⟨?_, ?_, ?_, ?_, ?_, ?_, ?_, ?_, ?_⟩, fun s hp => ⟨fun hb => ?_, does_uresetComplete hp⟩⟩
  · exact fun e he => ⟨does_unit_busy hp hj he, does_unit_blocked hp hj he, fun ⟨hb, hi⟩ => does_unit_free hp hj he hb hi <| by
      have hl := lasting_unitEffect s e.2
      refine ⟨?_, by simp, ?_, ?_⟩
      · rw [State.settle_get]
        exact State.get_put_same (s.unitEffect e.2) F.SY_RST_STAT_UNIT_BUSY 1
      · rw [State.settle_now]
        exact congrArg Prod.fst hl
      · rw [State.settle_firn]
        exact congrArg Prod.snd hl⟩
  · intro k ⟨hb, hi⟩
    have hm : (Instr.uresetCore path k, k.val + 1) ∈ unitCommands path := by fin_cases k <;> simp [unitCommands]
    have heff : s.unitEffect (k + 1) = s.unitCore k := by fin_cases k <;> rfl
    obtain ⟨hstate, htest, hfields⟩ := unitCore_fails s k
    refine does_unit_free hp hj hm hb hi ?_
    rw [heff]
    have hwin : ∀ f : Fld, f.lo < 64 → 0x050100 + k * 0x8000 ≤ f.off → f.off < 0x058000 + k * 0x8000 → f.key ≠ F.SY_RST_STAT_UNIT_BUSY.key :=
      fun f hlo h1 h2 => key_ne_of_window hlo (by decide) (by simp only [Fld.window, F.SY_RST_STAT_UNIT_BUSY]; omega)
    refine ⟨?_, by simpa using htest, fun f hf h1 h2 hk => ?_⟩
    · rw [get_unitBusy _ _ (hwin _ (by simp [F.TK_STAT_STATE]) (by simp [F.TK_STAT_STATE]) (by simp only [F.TK_STAT_STATE]; omega)), hstate]
    · rw [get_unitBusy _ _ (hwin f (lo_lt_of_fieldOfKey hf) h1 h2), hfields f hf h1 h2 hk]
  · intro ⟨hb, hi⟩
    refine does_unit_free hp hj (unit := 3) (by simp [unitCommands]) hb hi ?_
    obtain ⟨h1, h2, h3, howed, hk⟩ := unitSynth_reloads s
    rw [get_unitBusy (f := F.TK_TS_STAT_LS_ERR) _ _ (by decide), get_unitBusy (f := F.TK_TS_STAT_LS_FAIL) _ _ (by decide),
      get_unitBusy (f := F.TK_TS_STAT_HELD) _ _ (by decide), State.settle_mb]
    exact ⟨h1, h2, h3, howed, Keeps.settle (Keeps.next ((hk.mono (by simp)).put F.SY_RST_STAT_UNIT_BUSY 1 (by simp)) rfl)⟩
  · intro ⟨hb, hi⟩
    refine does_unit_free hp hj (unit := 5) (by simp [unitCommands]) hb hi ?_
    exact (get_unitBusy _ _ (by decide)).trans (unitRs_hold s)
  · intro ⟨hb, hi⟩
    refine does_unit_free hp hj (unit := 6) (by simp [unitCommands]) hb hi ?_
    exact (unitMb_unbounded s).imp (get_unitBusy _ _ (by decide)).trans (get_unitBusy _ _ (by decide)).trans
  · intro ⟨hb, hi⟩ hen hauto
    refine does_unit_free hp hj (unit := 7) (by simp [unitCommands]) hb hi ?_
    rw [State.settle_gn]
    exact (unitGn_starts hen hauto).imp_left (get_unitBusy _ _ (by decide)).trans
  · intro ⟨hb, hi⟩
    refine does_unit_free hp hj (unit := 9) (by simp [unitCommands]) hb hi ?_
    rw [State.settle_df]
    exact abortCx_cx s
  · intro e he ⟨hb, hi⟩
    have hm : (e.1, e.2.1) ∈ unitCommands path ∧ e.2 ∈ windowUnits := by
      simp only [List.mem_cons, List.not_mem_nil, or_false] at he
      obtain rfl | rfl | rfl | rfl | rfl | rfl := he <;> simp [unitCommands, windowUnits]
    refine does_unit_free hp hj hm.1 hb hi fun f hf hbusy => ?_
    rw [get_unitBusy _ _ hbusy]
    refine ⟨fun hw hlock => ?_, fun hw hdf => ?_⟩
    · have hdf : e.2.1 = 9 → f.window ≠ 0x0C := by
        have h9 : ∀ p ∈ windowUnits, p.1 = 9 → p.2 ≠ 0x0C := by decide
        exact fun h => hw ▸ h9 _ hm.2 h
      rw [get_unitEffect s hm.2 hf (fun _ => hlock) hdf]
      cases f.keptThrough .U <;> simp [hw]
    · have hlock : e.2.1 = 8 → f.key ≠ F.OS_SM_STAT_LOCK.key := by
        have h8 : ∀ p ∈ windowUnits, p.1 = 8 → p.2 = F.OS_SM_STAT_LOCK.window := by decide
        exact fun h => key_ne_of_window (lo_lt_of_fieldOfKey hf) (by decide) (fun e => hw (e.trans (h8 _ hm.2 h).symm))
      rw [get_unitEffect s hm.2 hf hlock hdf, if_neg (fun h => hw h.1)]
  · intro k ⟨hb, hi⟩
    have hm : (Instr.uresetSupervisor path k, 13 + k.val) ∈ unitCommands path := by fin_cases k <;> simp [unitCommands]
    have heff : s.unitEffect (13 + k) = s.unitSuper k := by fin_cases k <;> rfl
    refine does_unit_free hp hj hm hb hi fun n hn hd => ?_
    have hbox : ({ (s.unitEffect (13 + k)).put F.SY_RST_STAT_UNIT_BUSY 1 with pm.unit := 13 + k } : State).settle.box n = (s.unitSuper k).box n := by
      rw [heff]
      simp [State.box]
    rw [hbox]
    exact box_unitSuper s k hn hd
  · refine does_running (by unfold exec; rfl) hp ?_
    rw [hb]
    exact Frame.settle s []

end Sys2Proof.Machine
end

section
/-! PROOF. The register map of R4 and R368: what holds of every register, by its form, whatever its indices. -/
namespace Sys2Proof.Machine

/-- The fields of a register begin at different bits. -/
def distinctLows : List Fld → Bool
  | [] => true
  | f :: l => l.all (fun g => f.lo != g.lo) && distinctLows l

/-- A form keeps its fields apart and within the register; an RC field's reset value fits it, and RWL fields are those of the vault and of tamper. -/
def RegForm.sound (r : RegForm) (i j : Nat) : Bool :=
  distinctLows (r.fields i j) && (r.fields i j).all fun f => Nat.ble (f.lo + 1) 64 && (f.acc != .rc || Nat.ble (f.reset + 1) (2 ^ f.width)) &&
    (f.acc != .rwl || Nat.ble 0x0F0000 r.base && Nat.ble (r.base + r.n1 * r.s1 + r.n2 * r.s2 + 1) 0x110000)

/-- Every form of the map does, at all indices: nothing that `sound` looks at depends on them. -/
theorem regMap_sound (i j : Nat) : regMap.all (fun r => r.sound i j) = true := by
  simp only [regMap, List.all_append, Bool.and_eq_true]
  and_intros <;> rfl

/-- A field stands at its register's offset (R4). -/
theorem off_of_mem_fields (i j : Nat) : ∀ r ∈ regMap, ∀ f ∈ r.fields i j, f.off = r.base + i * r.s1 + j * r.s2 := by
  have h : ∀ r ∈ regMap, (r.fields i j).map Fld.off = (r.fields i j).map fun _ => r.base + i * r.s1 + j * r.s2 := by
    simp only [regMap, List.forall_mem_append]
    and_intros <;> exact List.map_inj_left.mp rfl
  exact fun r hr => List.map_inj_left.mp (h r hr)

theorem nodup_of_distinctLows {l : List Fld} (h : distinctLows l = true) : (l.map Fld.lo).Nodup := by
  induction l with
  | nil => simp
  | cons f l ih =>
    obtain ⟨hf, hl⟩ := Bool.and_eq_true_iff.mp h
    refine List.nodup_cons.mpr ⟨fun hm => ?_, ih hl⟩
    obtain ⟨g, hg, he⟩ := List.mem_map.mp hm
    simpa [he] using List.all_eq_true.mp hf g hg

/-- The register of a form at an offset, by its indices. -/
theorem index_some {r : RegForm} {off : Nat} {fs : List Fld} (h : r.index off = some fs) :
    ∃ i j, fs = r.fields i j ∧ off = r.base + i * r.s1 + j * r.s2 ∧ i < r.n1 ∧ j < r.n2 := by
  unfold RegForm.index at h
  split at h
  · cases h
  next hb =>
    obtain ⟨⟨hi, hj, he⟩, hfs⟩ := Option.ite_none_right_eq_some.mp h
    refine ⟨_, _, (Option.some.inj hfs).symm, ?_, hi, hj⟩
    have hle : (if r.s1 = 0 then 0 else (off - r.base) / r.s1) * r.s1 ≤ off - r.base := by
      split
      · omega
      · exact Nat.div_mul_le_self _ _
    rw [← he]
    omega

/-- What an offset names: no register, or one of a form of the map. -/
theorem fieldsAt_cases (off : Nat) : fieldsAt off = [] ∨
    ∃ r ∈ regMap, ∃ i j, fieldsAt off = r.fields i j ∧ off = r.base + i * r.s1 + j * r.s2 ∧ i < r.n1 ∧ j < r.n2 := by
  unfold fieldsAt
  split
  next fs h =>
    obtain ⟨r, hr, hi⟩ := List.exists_of_findSome?_eq_some h
    exact .inr ⟨r, hr, index_some hi⟩
  · exact .inl rfl

section
variable {f : Fld} {off : Nat} (h : f ∈ fieldsAt off)
include h

theorem off_of_mem_fieldsAt : f.off = off := by
  obtain h0 | ⟨r, hr, i, j, hfs, hoff, _, _⟩ := fieldsAt_cases off
  · rw [h0] at h; cases h
  · exact (off_of_mem_fields i j r hr f (hfs ▸ h)).trans hoff.symm

theorem sound_of_mem_fieldsAt : f.lo < 64 ∧ (f.acc = .rc → f.reset < 2 ^ f.width) ∧ (f.acc = .rwl → off / 65536 = 0x0F ∨ off / 65536 = 0x10) := by
  obtain h0 | ⟨r, hr, i, j, hfs, hoff, hi, hj⟩ := fieldsAt_cases off
  · rw [h0] at h; cases h
  · obtain ⟨_, hall⟩ := Bool.and_eq_true_iff.mp (List.all_eq_true.mp (regMap_sound i j) r hr)
    have hf := List.all_eq_true.mp hall f (hfs ▸ h)
    simp only [Bool.and_eq_true, Bool.or_eq_true, bne_iff_ne, ne_eq, Nat.ble_eq] at hf
    obtain ⟨⟨hlo, hrc⟩, hrwl⟩ := hf
    refine ⟨hlo, fun ha => hrc.resolve_left (fun hn => hn ha), fun ha => ?_⟩
    obtain ⟨hb1, hb2⟩ := hrwl.resolve_left (fun hn => hn ha)
    have h1 := Nat.mul_le_mul_right r.s1 hi.le
    have h2 := Nat.mul_le_mul_right r.s2 hj.le
    omega

end

/-- No two fields of a register share a place. -/
theorem nodup_keys_fieldsAt (off : Nat) : ((fieldsAt off).map Fld.key).Nodup := by
  have hlo : ((fieldsAt off).map Fld.lo).Nodup := by
    obtain h0 | ⟨r, hr, i, j, hfs, _, _, _⟩ := fieldsAt_cases off
    · simp [h0]
    · rw [hfs]
      exact nodup_of_distinctLows (Bool.and_eq_true_iff.mp (List.all_eq_true.mp (regMap_sound i j) r hr)).1
  have hk : (fieldsAt off).map Fld.key = ((fieldsAt off).map Fld.lo).map (off * 64 + ·) := by
    rw [List.map_map]
    exact List.map_congr_left fun f hf => by simp [Fld.key, off_of_mem_fieldsAt hf]
  rw [hk]
  exact hlo.map (fun a b hab => Nat.add_left_cancel hab)

/-- A register with an RWL field is neither tallied nor holds an event flag of the boot block. -/
theorem rwl_apart {off : Nat} {f : Fld} (hf : f ∈ fieldsAt off) (h : (fieldsAt off).any (fun g => g.acc == .rwl) = true) :
    f.key ≠ F.BT_EVT_REFUSED.key ∧ f.tallied = false := by
  obtain ⟨g, hg, ha⟩ := List.any_eq_true.mp h
  obtain ⟨_, _, hrwl⟩ := sound_of_mem_fieldsAt hg
  obtain ⟨hlo, _, _⟩ := sound_of_mem_fieldsAt hf
  have hw : f.key / 4194304 = 0x0F ∨ f.key / 4194304 = 0x10 := by
    rw [← window_eq_key_div hlo, Fld.window, off_of_mem_fieldsAt hf]
    exact hrwl (by simpa using ha)
  have hflag : F.BT_EVT_REFUSED.key / 4194304 = 0x16 := by decide
  have hdrop : F.JL_STAT_DROPPED.key / 4194304 = 0x15 := by decide
  refine ⟨fun e => by omega, ?_⟩
  unfold Fld.tallied
  have h1 : f.key / 4194304 ≠ 0x14 := by omega
  have h2 : f.key ≠ F.JL_STAT_DROPPED.key := fun e => by omega
  simp [h1, h2]

end Sys2Proof.Machine
end

section
/-! PROOF. Accesses by their path and window, and plain registers by their access codes (O51; R3, R5, R368 to R371, R379). -/
namespace Sys2Proof.Machine

variable {s t u : State} {fs : List Fld}

/-! ## What is sent stays sent -/

theorem outs_signalLimited (s : State) (fn vec : Nat) : s.outs <:+ (s.signalLimited fn vec).outs := by
  unfold State.signalLimited
  split
  · exact List.suffix_cons _ _
  · exact List.suffix_rfl

theorem outs_when {b : Bool} {f : State → State} (h : s.outs <:+ (f s).outs) : s.outs <:+ (s.when b f).outs := by
  cases b
  · exact List.suffix_rfl
  · exact h

theorem outs_forAll {α : Type} (l : List α) (f : State → α → State) (h : ∀ t x, t.outs <:+ (f t x).outs) (s : State) :
    s.outs <:+ (s.forAll l f).outs := by
  induction l generalizing s with
  | nil => exact List.suffix_rfl
  | cons x l ih => exact (h s x).trans (ih (f s x))

theorem outs_setFlag (s : State) (f : Fld) : s.outs <:+ (s.setFlag f).outs := by
  unfold State.setFlag
  dsimp only
  split
  · split
    · exact outs_signalLimited (s.put f 1) _ _
    · exact List.suffix_rfl
  · exact List.suffix_rfl

theorem outs_counterPlain (s : State) (n k : Nat) : s.outs <:+ (s.counterPlain n k).outs := by
  have hw : ∀ t : State, t.outs <:+ (t.counterWrapped n).outs := fun t => by
    unfold State.counterWrapped
    exact outs_when (s := t.put _ _) (outs_signalLimited (t.put _ _) _ _)
  unfold State.counterPlain
  exact outs_when (s := s.put _ _) (hw (s.put _ _))

theorem outs_counterAdd (s : State) (n k : Nat) : s.outs <:+ (s.counterAdd n k).outs := by
  unfold State.counterAdd
  exact (outs_counterPlain s n k).trans (outs_when (outs_counterPlain _ _ _))

theorem outs_raise (s : State) (code src inst arg : Nat) : s.outs <:+ (s.raise code src inst arg).outs := by
  have hc : s.outs <:+ (s.countEvent code).outs := outs_forAll _ _ (fun t n => outs_when (outs_counterAdd t n 1)) s
  unfold State.raise
  split
  · exact List.suffix_rfl
  · dsimp only
    split <;> exact hc

theorem outs_event (s : State) (f : Fld) (code inst arg : Nat) : s.outs <:+ (s.event f code inst arg).outs :=
  (outs_setFlag s f).trans (outs_raise _ _ _ _ _)

theorem outs_event_of (h : t.outs = s.outs) (f : Fld) (code inst arg : Nat) : s.outs <:+ (t.event f code inst arg).outs :=
  h ▸ outs_event t f code inst arg

theorem outs_accessEvent (s : State) (p : Path) (f : Fld) (code off : Nat) : s.outs <:+ (s.accessEvent p f code off).outs := by
  unfold State.accessEvent State.eventLimited
  dsimp only
  split
  · refine outs_event_of ?_ f _ _ _
    rfl
  · exact List.suffix_rfl

theorem outs_settle (s : State) : s.outs <:+ s.settle.outs := by
  unfold State.settle
  split
  · exact List.suffix_rfl
  · exact List.suffix_rfl
  · exact List.suffix_rfl
  · dsimp only [State.when]
    split
    · exact List.suffix_cons _ _
    · exact List.suffix_rfl

/-- A message sent first. -/
theorem sends_emit (m : OutMsg) (hs : t.outs = s.outs) (h : (t.emit m).outs <:+ u.outs) : Sends s u m := by
  unfold Sends
  rw [← hs]
  exact h

/-! ## An access that does not reach its register -/

theorem State.hostWrite_foreign {p : Path} {off : Nat} (f : State → State) (h : s.judge p off true = .foreign) :
    s.hostWrite p off f = s.accessEvent p F.BT_EVT_FOREIGN 0x0B02 off := by simp [State.hostWrite, h]
theorem State.hostWrite_refused {p : Path} {off : Nat} (f : State → State) (h : s.judge p off true = .refused) :
    s.hostWrite p off f = s.accessEvent p F.BT_EVT_REFUSED 0x0B04 off := by simp [State.hostWrite, h]
theorem State.hostWrite_lost {p : Path} {off : Nat} (f : State → State) (h : s.judge p off true = .dead ∨ s.judge p off true = .reserved) :
    s.hostWrite p off f = s := by rcases h with h | h <;> simp [State.hostWrite, h]
theorem State.hostRead_foreign {p : Path} {off : Nat} (f : State → State) (h : s.judge p off false = .foreign) :
    s.hostRead p off f = (s.emit (.readData off (BitVec.allOnes 64))).accessEvent p F.BT_EVT_FOREIGN 0x0B02 off := by simp [State.hostRead, h]
theorem State.hostRead_dead {p : Path} {off : Nat} (f : State → State) (h : s.judge p off false = .dead) :
    s.hostRead p off f = s.emit (.readData off (BitVec.allOnes 64)) := by simp [State.hostRead, h]
theorem State.hostRead_reserved {p : Path} {off : Nat} (f : State → State) (h : s.judge p off false = .reserved) :
    s.hostRead p off f = s.emit (.readData off 0) := by simp [State.hostRead, h]

/-- What the register would have done does not matter. -/
theorem State.hostWrite_unserved {p : Path} {off : Nat} (f g : State → State) (h : s.judge p off true ≠ .served) :
    s.hostWrite p off f = s.hostWrite p off g := by
  unfold State.hostWrite
  cases hj : s.judge p off true
  case served => exact absurd hj h
  all_goals rfl

theorem State.hostRead_unserved {p : Path} {off : Nat} (f g : State → State) (h : s.judge p off false ≠ .served) :
    s.hostRead p off f = s.hostRead p off g := by
  unfold State.hostRead
  cases hj : s.judge p off false
  case served => exact absurd hj h
  all_goals rfl

/-- Two effects that agree on the state give one outcome. -/
theorem running_congr {f g : State → State} (h : f s = g s) : running s f = running s g := by
  unfold running
  rw [h]

section
variable {path : Path} {off : BitVec 25} {width : BitVec 4} {v : Word}

/-- Both ways to write at an offset, where the access is not served. -/
theorem exec_write_unserved (h : s.judge path off.toNat true ≠ .served) :
    ∀ c ∈ [Instr.registerWrite path off width v, .foreignAccess path off true], exec c s = running s (·.hostWrite path off.toNat id) := by
  simp only [List.forall_mem_cons, List.not_mem_nil, false_implies, implies_true, and_true]
  refine ⟨?_, rfl⟩
  show running s (·.accessWrite path off.toNat width.toNat v) = _
  exact running_congr (State.hostWrite_unserved _ _ h)

/-- All ways to read at an offset, where the access is not served. -/
theorem exec_read_unserved (h : s.judge path off.toNat false ≠ .served) :
    ∀ c ∈ [Instr.rcFieldRead path off width, .timeWordSecRead path off, .foreignAccess path off false],
      exec c s = running s (·.hostRead path off.toNat id) := by
  simp only [List.forall_mem_cons, List.not_mem_nil, false_implies, implies_true, and_true]
  refine ⟨?_, ?_, rfl⟩
  · show running s (·.accessRead path off.toNat width.toNat) = _
    exact running_congr (State.hostRead_unserved _ _ h)
  · show running s (·.accessRead path off.toNat 8) = _
    exact running_congr (State.hostRead_unserved _ _ h)

end

/-- A limited event that is due sets its flag. -/
theorem accessEvent_flag {p : Path} {f : Fld} {code : Nat} (off : Nat) (h : s.rateDue (code * 8 + p.num) = true) (hw : 0 < f.width)
    (ht : f.tallied = false) : (s.accessEvent p f code off).get f = 1 := by
  unfold State.accessEvent State.eventLimited
  dsimp only
  rw [if_pos h]
  exact State.event_flag _ f _ _ _ hw ht

/-! ## Fields written one after another -/

section
variable {f : State → Fld → State} (hother : ∀ (t : State) (x g : Fld), g.key ≠ x.key → (f t x).get g = t.get g)
include hother

/-- A field that no turn names reads as before. -/
theorem get_forAll_notMem {g : Fld} (l : List Fld) (hg : g.key ∉ l.map Fld.key) (s : State) : (s.forAll l f).get g = s.get g := by
  induction l generalizing s with
  | nil => rfl
  | cons x l ih =>
    simp only [List.map_cons, List.mem_cons, not_or] at hg
    exact (ih hg.2 (f s x)).trans (hother s x g hg.1)

/-- A field that one turn names reads as that turn leaves it. -/
theorem get_forAll_mem {w : State → Fld → Nat} (hsame : ∀ t x, (f t x).get x = w t x) (hw : ∀ t x y, x.key ≠ y.key → w (f t y) x = w t x)
    {x : Fld} (l : List Fld) (hl : (l.map Fld.key).Nodup) (hx : x ∈ l) (s : State) : (s.forAll l f).get x = w s x := by
  induction l generalizing s with
  | nil => cases hx
  | cons y l ih =>
    obtain ⟨hy, hl⟩ := List.nodup_cons.mp hl
    obtain rfl | hx := List.mem_cons.mp hx
    · exact (get_forAll_notMem hother l hy (f s x)).trans (hsame s x)
    · have hne : x.key ≠ y.key := fun e => hy (e ▸ List.mem_map_of_mem hx)
      exact (ih hl hx (f s y)).trans (hw s x y hne)

end

/-! ## A plain register written (R5) -/

/-- What a write of v leaves of a field, by its access code. -/
def State.written (s : State) (v : Word) (f : Fld) : Nat :=
  match f.acc with
  | .rw => f.ofWord v
  | .w1c => (s.get f - (s.get f &&& f.ofWord v)) % 2 ^ f.width
  | .rwl => if s.sealed then s.get f else f.ofWord v
  | _ => s.get f

theorem get_writeField_other (v : Word) (s : State) (f g : Fld) (h : g.key ≠ f.key) : (s.writeField v f).get g = s.get g := by
  unfold State.writeField
  split
  · exact State.get_put_other _ _ _ _ h
  · exact State.get_put_other _ _ _ _ h
  · split
    · rfl
    · exact State.get_put_other _ _ _ _ h
  all_goals rfl

theorem ofWord_mod (f : Fld) (v : Word) : f.ofWord v % 2 ^ f.width = f.ofWord v := Nat.mod_mod _ _

theorem get_writeField_same (v : Word) (s : State) (f : Fld) : (s.writeField v f).get f = s.written v f := by
  unfold State.writeField State.written
  cases f.acc <;> simp only [State.get_put_same, ofWord_mod]
  split <;> simp only [State.get_put_same, ofWord_mod]

theorem writeField_kv (v : Word) (s : State) (f : Fld) : (s.writeField v f).kv = s.kv := by
  unfold State.writeField
  split
  case h_3 => split <;> rfl
  all_goals rfl

/-- A turn at another field does not change what a field's own turn leaves. -/
theorem written_writeField_other (v : Word) (s : State) (f g : Fld) (h : f.key ≠ g.key) : (s.writeField v g).written v f = s.written v f := by
  unfold State.written State.sealed
  rw [get_writeField_other v s g f h, writeField_kv]

/-- A write of a register without effects of its own, through a path that serves it. -/
theorem writePlain_writes (s : State) (path : Path) (off : Nat) (v : Word) :
    Keeps s (s.writePlain path off v) (F.BT_EVT_REFUSED :: fieldsAt off) ∧
      ∀ f ∈ fieldsAt off, (s.writePlain path off v).get f = s.written v f := by
  have hother := fun t x g => get_writeField_other v t x g
  generalize hu : s.forAll (fieldsAt off) (fun t f => t.writeField v f) = u
  have hkeep : Keeps s u (F.BT_EVT_REFUSED :: fieldsAt off) := fun g hg _ => by
    rw [← hu]
    exact get_forAll_notMem hother _ (fun hm => hg (List.mem_cons_of_mem _ hm)) s
  have hget : ∀ f ∈ fieldsAt off, u.get f = s.written v f := fun f hf => by
    rw [← hu]
    exact get_forAll_mem hother (get_writeField_same v) (written_writeField_other v) _ (nodup_keys_fieldsAt off) hf s
  have hplain : s.writePlain path off v =
      u.when (s.sealed && (fieldsAt off).any (fun f => f.acc == .rwl)) (·.accessEvent path F.BT_EVT_REFUSED 0x0B04 off) := by
    rw [← hu]
    rfl
  rw [hplain]
  refine ⟨hkeep.when _ _ fun _ => (Keeps.refl u _).accessEvent _ _ _ _ (by simp), fun f hf => ?_⟩
  cases hc : s.sealed && (fieldsAt off).any (fun f => f.acc == .rwl)
  · exact hget f hf
  · obtain ⟨hne, ht⟩ := rwl_apart hf (Bool.and_eq_true_iff.mp hc).2
    exact (State.accessEvent_get_other u path _ f _ _ hne ht).trans (hget f hf)

/-- A register without effects of its own is written plainly. -/
theorem writeReg_plain {path : Path} {off : Nat} {v : Word} (h : (effects path (canonical off) v).all (fun e => (e.1.place (canonical off)).isNone) = true) :
    s.writeReg path off v = s.writePlain path (canonical off) v := by
  have hn : (effects path (canonical off) v).findSome? (fun e => (e.1.place (canonical off)).map (fun ij => e.2 s ij.1 ij.2)) = none := by
    refine List.findSome?_eq_none_iff.mpr fun e he => ?_
    rw [Option.isNone_iff_eq_none.mp (List.all_eq_true.mp h e he)]
    rfl
  unfold State.writeReg
  dsimp only
  rw [hn]

/-! ## A register read (R5, R25) -/

/-- Latching registers changes the latches alone. -/
theorem forAll_latch (l : List Nat) (w : Nat → Nat) (s : State) : ∃ L, s.forAll l (fun t a => t.latch a (w a)) = { s with latches := L } := by
  induction l generalizing s with
  | nil => exact ⟨s.latches, rfl⟩
  | cons a l ih =>
    obtain ⟨L, hL⟩ := ih (s.latch a (w a))
    exact ⟨L, hL⟩

/-- The RC fields of a register. -/
def rcFields (off : Nat) : List Fld := (fieldsAt off).filter (fun f => f.acc == .rc)

/-- A read clears them, and changes nothing else (R5). -/
theorem clearRc_frame (s : State) (off : Nat) : Frame s (s.clearRc off) (rcFields off) :=
  Frame.forAll (rcFields off) State.clear (fun t f hf => Frame.clear t f (List.mem_map_of_mem hf)) s

theorem clearRc_outs (s : State) (off : Nat) : (s.clearRc off).outs = s.outs := forAll_inv State.outs (rcFields off) State.clear (fun _ _ => rfl) s

theorem clearRc_get (s : State) {off : Nat} {f : Fld} (hf : f ∈ fieldsAt off) (ha : f.acc = .rc) : (s.clearRc off).get f = f.reset := by
  have hm : f ∈ rcFields off := List.mem_filter.mpr ⟨hf, by simp [ha]⟩
  have hnd : ((rcFields off).map Fld.key).Nodup := (nodup_keys_fieldsAt off).sublist (List.filter_sublist.map _)
  obtain ⟨_, hrc, _⟩ := sound_of_mem_fieldsAt hf
  refine (get_forAll_mem (w := fun _ x => x.reset % 2 ^ x.width) (fun t x g h => State.get_put_other t x g _ h) (fun t x => State.get_put_same t x _)
    (fun _ _ _ _ => rfl) (rcFields off) hnd hm s).trans ?_
  exact Nat.mod_eq_of_lt (hrc ha)

/-- A register whose read has no meaning of its own: not the Firn window, nor raw results, nor the journal's window, nor vault data. -/
structure ReadsPlain (off : Nat) : Prop where
  block : off < 0x170000
  raw : F.R_IE_CH_RES_RAW.place off = none
  win : F.R_JL_WIN.place off = none
  sealed : F.R_JL_WSEAL.place off = none
  data : F.R_KV_DATA.place off = none

/-- Its read gives its readable fields, latches what it latches, and clears its RC fields. -/
theorem readReg_plain {off : Nat} (path : Path) (h : ReadsPlain (canonical off)) (hl : s.latches.find? (fun e => e.1 == canonical off) = none) :
    ∃ L, s.readReg path off = (({ s with latches := L } : State).clearRc (canonical off), (s.shown (canonical off)).readable (canonical off)) ∧
      { s with latches := L } = s.forAll (latchedBy (canonical off)) (fun t a => t.latch a ((s.shown a).readable a)) := by
  obtain ⟨hb, hraw, hwin, hseal, hdata⟩ := h
  obtain ⟨L, hL⟩ := forAll_latch (latchedBy (canonical off)) (fun a => (s.shown a).readable a) s
  refine ⟨L, ?_, hL.symm⟩
  unfold State.readReg
  dsimp only
  rw [if_neg (by omega), if_neg (by simp [hdata]), hl, hraw, hwin, hseal]
  simp only [hL]

/-- A whole aligned read that is served. -/
theorem accessRead_served {path : Path} {off : Nat} (hj : s.judge path off false = .served) (h8 : off % 8 = 0) :
    s.accessRead path off 8 = (s.readReg path off).1.emit (.readData off (BitVec.ofNat 64 (s.readReg path off).2)) := by
  rw [State.accessRead, State.hostRead_served _ _ _ _ hj, if_pos ⟨rfl, h8⟩]

theorem canonical_le (off : Nat) : canonical off ≤ off := by
  unfold canonical
  split <;> omega

/-- A served read of a plain register through any path (R5). -/
theorem accessRead_plain {path : Path} {off : Nat} (hj : s.judge path off false = .served) (h8 : off % 8 = 0) (h : ReadsPlain (canonical off))
    (hl : s.latches.find? (fun e => e.1 == canonical off) = none) :
    let t := (s.accessRead path off 8).settle
    Sends s t (.readData off (BitVec.ofNat 64 ((s.shown (canonical off)).readable (canonical off)))) ∧
      Frame { s with latches := t.latches } t (rcFields (canonical off)) ∧ (∀ f ∈ fieldsAt (canonical off), f.acc = .rc → t.get f = f.reset) ∧
      t.latches = (s.forAll (latchedBy (canonical off)) (fun t a => t.latch a ((s.shown a).readable a))).latches := by
  obtain ⟨L, hr, hL⟩ := readReg_plain path h hl
  dsimp only
  rw [accessRead_served hj h8, hr, ← hL]
  dsimp only
  have hframe := clearRc_frame { s with latches := L } (canonical off)
  have hlatches : (({ s with latches := L } : State).clearRc (canonical off)).latches = L := by rw [hframe.2]
  refine ⟨sends_emit (t := State.clearRc { s with latches := L } (canonical off)) _ (clearRc_outs { s with latches := L } _) (outs_settle _), ?_,
    fun f hf ha => ?_, ?_⟩
  · rw [State.settle_latches, State.emit_latches, hlatches]
    exact (hframe.trans (Frame.emit _ _ _)).settled
  · rw [State.settle_get, State.emit_get]
    exact clearRc_get _ hf ha
  · rw [State.settle_latches, State.emit_latches, hlatches]

end Sys2Proof.Machine
end

section
/-! PROOF. The clauses of O51: verdicts, plain registers, time words, and the two ways to name one write (R3, R5, R25, R368 to R371, R379). -/
namespace Sys2Proof.Machine

variable {s t : State} {path : Path}

/-! ## What a verdict makes of an access -/

/-- An event of an access sets its flag where it is due, and changes no other register. -/
theorem accessEvent_settled (s : State) (path : Path) (f : Fld) (code off : Nat) (hw : 0 < f.width) (ht : f.tallied = false) :
    Frame s (s.accessEvent path f code off).settle [f] ∧ (s.rateDue (code * 8 + path.num) = true → (s.accessEvent path f code off).settle.get f = 1) :=
  ⟨(Frame.accessEvent s path f code off (by simp)).settled, fun h => (State.settle_get _ f).trans (accessEvent_flag off h hw ht)⟩

section
variable {off : BitVec 25} {width : BitVec 4} {v : Word} {P : State → Prop} (hp : s.power = .run)
include hp

/-- What holds of a write that its verdict drops. -/
theorem does_write_unserved (h : s.judge path off.toNat true ≠ .served) (hP : P (s.hostWrite path off.toNat id).settle) :
    ∀ c ∈ [Instr.registerWrite path off width v, .foreignAccess path off true], Does c s P :=
  fun c hc => does_running (exec_write_unserved h c hc) hp hP

/-- What holds of a read that its verdict answers. -/
theorem does_read_unserved (h : s.judge path off.toNat false ≠ .served) (hP : P (s.hostRead path off.toNat id).settle) :
    ∀ c ∈ [Instr.rcFieldRead path off width, .timeWordSecRead path off, .foreignAccess path off false], Does c s P :=
  fun c hc => does_running (exec_read_unserved h c hc) hp hP

/-- FOREIGN_ACCESS that is served does nothing. -/
theorem foreignAccess_served {write : Bool} (h : s.judge path off.toNat write = .served) : Does (.foreignAccess path off write) s fun t => Frame s t [] := by
  cases write
  · refine does_running (f := (·.hostRead path off.toNat id)) (by unfold exec; rfl) hp ?_
    rw [State.hostRead_served _ _ _ _ h]
    exact Frame.settle s []
  · refine does_running (f := (·.hostWrite path off.toNat id)) (by unfold exec; rfl) hp ?_
    rw [State.hostWrite_served _ _ _ _ h]
    exact Frame.settle s []

/-- REGISTER_WRITE that is served: the register's write, or an event. -/
theorem does_registerWrite (h : s.judge path off.toNat true = .served)
    (hP : P (if width.toNat = 8 ∧ off.toNat % 8 = 0 then s.writeReg path off.toNat v else s.accessEvent path F.BT_EVT_NARROW 0x0B03 off.toNat).settle) :
    Does (.registerWrite path off width v) s P := by
  refine does_running (f := (·.accessWrite path off.toNat width.toNat v)) (by unfold exec; rfl) hp ?_
  rw [State.accessWrite, State.hostWrite_served _ _ _ _ h]
  exact hP

end

/-- A message sent with an event behind it. -/
theorem sends_accessEvent (s : State) (m : OutMsg) (p : Path) (f : Fld) (code off : Nat) : Sends s ((s.emit m).accessEvent p f code off).settle m :=
  sends_emit (t := s) m rfl ((outs_accessEvent _ p f code off).trans (outs_settle _))

/-! ## The entry of a list of forms that an offset names -/

/-- The first of the forms that has a register at an offset: its place in the list, and the register's indices. -/
def placeIn : List RegForm → Nat → Option (Nat × Nat × Nat)
  | [], _ => none
  | r :: l, off => match r.place off with
    | some (i, j) => some (0, i, j)
    | none => (placeIn l off).map fun p => (p.1 + 1, p.2)

/-- A search through a list by form finds the entry at that place. -/
theorem findSome_place {α β : Type} (g : α → Nat × Nat → β) {l : List (RegForm × α)} {forms : List RegForm} {off k i j : Nat} {e : RegForm × α}
    (hl : l.map Prod.fst = forms) (h : placeIn forms off = some (k, i, j)) (he : l[k]? = some e) :
    l.findSome? (fun e => (e.1.place off).map (g e.2)) = some (g e.2 (i, j)) := by
  subst hl
  induction l generalizing k with
  | nil => cases he
  | cons r l ih =>
    simp only [List.map_cons, placeIn] at h
    cases hr : r.1.place off with
    | some ij =>
      simp only [hr, Option.some.injEq, Prod.mk.injEq] at h
      obtain ⟨rfl, rfl, rfl⟩ := h
      obtain rfl : r = e := by simpa using he
      simp [hr]
    | none =>
      simp only [hr, Option.map_eq_some_iff, Prod.mk.injEq] at h
      obtain ⟨⟨k, p⟩, hp, rfl, rfl⟩ := h
      simpa [hr] using ih (by simpa using he) hp

/-- The forms that `State.shown` looks through: registers whose fields follow the state as it stands. -/
def shownForms : List RegForm :=
  [F.R_TB_STAT, F.R_IE_CH_CFG, F.R_IE_CH_NOM, F.R_IE_CH_STAT, F.R_IE_CH_UNC, F.R_TK_TS_SEC, F.R_TK_TS_NSF, F.R_MAC_PORT_STAT, F.R_OS_PPS_STAT,
    F.R_PC_CNT]

/-! ## Time words (R25) -/

/-- The registers of a time word: neither is aliased, both read plainly in one block, and the SEC register latches the NSF one and clears nothing. -/
@[reducible] def TimeWord (off next : Nat) : Prop :=
  (canonical off = off ∧ off % 8 = 0 ∧ off < 0x170000 ∧ F.R_IE_CH_RES_RAW.place off = none ∧ F.R_JL_WIN.place off = none ∧
    F.R_JL_WSEAL.place off = none ∧ F.R_KV_DATA.place off = none ∧ latchedBy off = [next] ∧ (rcFields off).length = 0) ∧
  canonical next = next ∧ next % 8 = 0 ∧ next < 0x170000 ∧ F.R_KV_DATA.place next = none ∧ next / 65536 = off / 65536

theorem timeWord_tk : TimeWord F.TK_TS_SEC_SEC.off F.TK_TS_NSF_NS.off := by decide +kernel
theorem timeWord_mb : TimeWord F.MB_PUB_SEC_SEC.off F.MB_PUB_NSF_NSF.off := by decide +kernel
theorem timeWord_ie : ∀ n : Fin 32, TimeWord (F.IE_CH_RES_SEC_SEC n).off (F.IE_CH_RES_NSF_NS n).off := by decide +kernel

/-- A value listed at a key that was free is found there. -/
theorem find_insertCell {α : Type} (k : Nat) (v : α) (l : List (Nat × α)) (h : ∀ e ∈ l, e.1 ≠ k) :
    (insertCell k v l).find? (fun e => e.1 == k) = some (k, v) := by
  induction l with
  | nil => simp [insertCell]
  | cons c l ih =>
    obtain ⟨hc, hl⟩ := List.forall_mem_cons.mp h
    unfold insertCell
    split
    · simp
    · simp [hc, ih hl]

theorem latch_found (s : State) (off w : Nat) : (s.latch off w).latches.find? (fun e => e.1 == off) = some (off, w) :=
  find_insertCell off w _ fun _ he => by simpa using (List.mem_filter.mp he).2

/-- Registers of one block are judged alike while no reset of PCIe intervenes. -/
theorem judge_sameBlock {off next : Nat} {write : Bool} (hw : next / 65536 = off / 65536) (ho : off < 0x170000) (hn : next < 0x170000)
    (hperst : t.host.perst = s.host.perst) (hflr : t.host.flr = s.host.flr) : t.judge path next write = s.judge path off write := by
  have he : windowExists next = windowExists off := by simp [windowExists, show next < 0x178000 by omega, show off < 0x178000 by omega]
  unfold State.judge
  rw [hw, he, hperst, hflr]

/-- A latched register answers with its latch. -/
theorem accessRead_latched {off w : Nat} (hj : s.judge path off false = .served) (h8 : off % 8 = 0) (hc : canonical off = off) (hb : off < 0x170000)
    (hdata : F.R_KV_DATA.place off = none) (hl : s.latches.find? (fun e => e.1 == off) = some (off, w)) :
    Sends s (s.accessRead path off 8).settle (.readData off (BitVec.ofNat 64 w)) := by
  have hr : s.readReg path off = ({ s with latches := dropCell off s.latches }, w) := by
    unfold State.readReg
    dsimp only
    rw [hc, if_neg (by omega), if_neg (by simp [hdata]), hl]
  rw [accessRead_served hj h8, hr]
  exact sends_emit (t := { s with latches := dropCell off s.latches }) _ rfl (outs_settle _)

/-- A read of the SEC register of a time word: the next read of its NSF register, however late, is of the same moment. -/
theorem timeWord_read {off next : Nat} (h : TimeWord off next) (hp : s.power = .run) (hj : s.judge path off false = .served)
    (hl : ∀ e ∈ s.latches, e.1 ≠ off) :
    Does (.timeWordSecRead path (BitVec.ofNat 25 off)) s fun t =>
      Sends s t (.readData off (BitVec.ofNat 64 ((s.shown off).readable off))) ∧ Frame { s with latches := t.latches } t [] ∧
      ∀ (later : Nat) (cells : List (Nat × Nat)), Does (.rcFieldRead path (BitVec.ofNat 25 next) 8) { t with now := later, cells := cells } fun u =>
        Sends t u (.readData next (BitVec.ofNat 64 ((s.shown next).readable next))) := by
  obtain ⟨⟨hc, h8, hb, hraw, hwin, hseal, hdata, hlatch, hrc⟩, hcn, h8n, hbn, hdatan, hblock⟩ := h
  have hplain : ReadsPlain (canonical off) := by
    rw [hc]
    exact ⟨hb, hraw, hwin, hseal, hdata⟩
  have hfree : s.latches.find? (fun e => e.1 == canonical off) = none := List.find?_eq_none.mpr fun e he => by simpa [hc] using hl e he
  obtain ⟨hsend, hframe, -, hlatches⟩ := accessRead_plain hj h8 hplain hfree
  rw [hc] at hsend hframe hlatches
  rw [List.eq_nil_of_length_eq_zero hrc] at hframe
  rw [hlatch] at hlatches
  have hoff : (BitVec.ofNat 25 off).toNat = off := Nat.mod_eq_of_lt (by omega)
  have hnext : (BitVec.ofNat 25 next).toNat = next := Nat.mod_eq_of_lt (by omega)
  refine does_running (f := (·.accessRead path (BitVec.ofNat 25 off).toNat 8)) (by unfold exec; rfl) hp ?_
  rw [hoff]
  generalize (s.accessRead path off 8).settle = t at *
  have hrest := hframe.2
  refine ⟨hsend, hframe, fun later cells => ?_⟩
  have hpower : t.power = .run := by rw [hrest]; exact hp
  have hperst : t.host.perst = s.host.perst := by rw [hrest]
  have hflr : t.host.flr = s.host.flr := by rw [hrest]
  refine does_running (f := (·.accessRead path (BitVec.ofNat 25 next).toNat 8)) (by unfold exec; rfl) hpower ?_
  rw [hnext]
  refine accessRead_latched (s := { t with now := later, cells := cells }) ((judge_sameBlock hblock hb hbn hperst hflr).trans hj) h8n hcn hbn hdatan ?_
  show t.latches.find? _ = _
  rw [hlatches]
  exact latch_found s next _

/-- TK_TS_SEC shows the whole seconds, -/
theorem shown_sec (s : State) : s.shown F.TK_TS_SEC_SEC.off = s.put F.TK_TS_SEC_SEC s.sec := by
  have h : placeIn shownForms F.TK_TS_SEC_SEC.off = some (5, 0, 0) := by decide +kernel
  unfold State.shown
  dsimp only
  rw [findSome_place (fun (f : Nat → State) (ij : Nat × Nat) => f ij.1) (forms := shownForms) rfl h rfl]
  rfl

theorem readable_sec (s : State) : (s.shown F.TK_TS_SEC_SEC.off).readable F.TK_TS_SEC_SEC.off = s.sec % 2 ^ 48 := by
  have hf : (fieldsAt F.TK_TS_SEC_SEC.off).filter (fun f => f.acc != .wo) = [F.TK_TS_SEC_SEC] := rfl
  rw [shown_sec, State.readable, hf]
  simp [State.word, F.TK_TS_SEC_SEC]

/-- and TK_TS_NSF the rest of the second. -/
theorem shown_nsf (s : State) : s.shown F.TK_TS_NSF_NS.off = (s.put F.TK_TS_NSF_FRAC (nsfOf s.now)).put F.TK_TS_NSF_NS (nsfOf s.now / 2 ^ 32) := by
  have h : placeIn shownForms F.TK_TS_NSF_NS.off = some (6, 0, 0) := by decide +kernel
  unfold State.shown
  dsimp only
  rw [findSome_place (fun (f : Nat → State) (ij : Nat × Nat) => f ij.1) (forms := shownForms) rfl h rfl]
  rfl

theorem nsfOf_lt (t : Nat) : nsfOf t < 2 ^ 64 := by
  unfold nsfOf tuSec
  omega

theorem readable_nsf (s : State) : (s.shown F.TK_TS_NSF_NS.off).readable F.TK_TS_NSF_NS.off = nsfOf s.now := by
  have hf : (fieldsAt F.TK_TS_NSF_NS.off).filter (fun f => f.acc != .wo) = [F.TK_TS_NSF_NS, F.TK_TS_NSF_FRAC] := rfl
  have hne : F.TK_TS_NSF_FRAC.key ≠ F.TK_TS_NSF_NS.key := by decide
  have hlt := nsfOf_lt s.now
  rw [shown_nsf, State.readable, hf]
  simp only [State.word, List.foldl_cons, List.foldl_nil, State.get_put_same, State.get_put_other _ _ _ _ hne]
  simp only [F.TK_TS_NSF_NS, F.TK_TS_NSF_FRAC]
  omega

/-! ## A register's command and a write at its offset -/

/-- The forms of the registers whose write has effects of its own. -/
def effectForms : List RegForm := (effects .spi 0 0).map Prod.fst

theorem effects_forms (path : Path) (off : Nat) (v : Word) : (effects path off v).map Prod.fst = effectForms := by
  unfold effectForms effects
  simp only [List.map_append, List.map_cons]

/-- A register of the map at a whole offset, the k-th of them. -/
@[reducible] def EffectAt (off k i j : Nat) : Prop := off < 2 ^ 25 ∧ off % 8 = 0 ∧ placeIn effectForms (canonical off) = some (k, i, j)

/-- A command that writes a register does what a write at the register's offset does. -/
theorem command_is_write {c : Instr} {off k i j : Nat} {v : Word} {e : RegForm × (State → Nat → Nat → State)} (hp : s.power = .run)
    (h : EffectAt off k i j) (he : (effects path (canonical off) v)[k]? = some e)
    (hc : exec c s = running s (·.hostWrite path off fun s => e.2 s i j) := by unfold exec; rfl) :
    Does c s fun t => Does (.registerWrite path (BitVec.ofNat 25 off) 8 v) s fun u => u = t := by
  obtain ⟨hlt, h8, hplace⟩ := h
  have hoff : (BitVec.ofNat 25 off).toNat = off := Nat.mod_eq_of_lt hlt
  have hw : ∀ s : State, s.writeReg path off v = e.2 s i j := fun s => by
    unfold State.writeReg
    dsimp only
    rw [findSome_place (fun (f : State → Nat → Nat → State) (ij : Nat × Nat) => f s ij.1 ij.2) (effects_forms _ _ _) hplace he]
  refine does_running hc hp (does_running (f := (·.accessWrite path (BitVec.ofNat 25 off).toNat 8 v)) (by unfold exec; rfl) hp ?_)
  rw [hoff]
  unfold State.accessWrite
  simp only [h8, and_self, if_true, hw]

/-! ## A register's command that is not served -/

/-- A command is one access of a register through a path, with some effect where it is served. -/
structure Routes (path : Path) (e : Instr × Nat × Bool) : Prop where
  off_lt : e.2.1 < 2 ^ 25
  route (s : State) : ∃ f, exec e.1 s = running s fun s => if e.2.2 then s.hostWrite path e.2.1 f else s.hostRead path e.2.1 f

/-- What it would have done does not matter where the access is not served. -/
theorem unserved_of_routes {l : List (Instr × Nat × Bool)} (h : ∀ e ∈ l, Routes path e) :
    ∀ e ∈ l, s.judge path e.2.1 e.2.2 ≠ .served → exec e.1 s = exec (.foreignAccess path (BitVec.ofNat 25 e.2.1) e.2.2) s := by
  rintro ⟨c, off, write⟩ he hj
  obtain ⟨hlt, hf⟩ := h _ he
  obtain ⟨f, hc⟩ := hf s
  have hoff : (BitVec.ofNat 25 off).toNat = off := Nat.mod_eq_of_lt hlt
  refine hc.trans ?_
  cases write
  · show _ = running s (·.hostRead path (BitVec.ofNat 25 off).toNat id)
    rw [hoff]
    exact running_congr (State.hostRead_unserved _ _ hj)
  · show _ = running s (·.hostWrite path (BitVec.ofNat 25 off).toNat id)
    rw [hoff]
    exact running_congr (State.hostWrite_unserved _ _ hj)

end Sys2Proof.Machine
end

section
/-! PROOF. O51 from its clauses. -/
namespace Sys2Proof.Machine

/-- The registers of commands whose write has effects of its own, by their place in the list of those effects. -/
theorem effectAt_indexed (n : Fin 4) (k : Fin 8) (q : Fin 6) :
    EffectAt (F.OS_OM_CFG_EN n).off 26 n 0 ∧ EffectAt (F.OS_CLK_CFG_EN k).off 27 k 0 ∧ EffectAt (F.OS_CLK_DLY_FINE k).off 28 k 0 ∧
      EffectAt (F.OS_PPS_CFG_EN n).off 29 n 0 ∧ EffectAt (F.LN_LANE_CFG_EN q).off 30 q 0 ∧ EffectAt (F.LN_LANE_EQ_PRE q).off 31 q 0 ∧
      EffectAt (F.PT_PORT_PTP_ROLE q).off 39 q 0 := by
  have h4 : ∀ n : Fin 4, EffectAt (F.OS_OM_CFG_EN n).off 26 n 0 ∧ EffectAt (F.OS_PPS_CFG_EN n).off 29 n 0 := by decide +kernel
  have h8 : ∀ k : Fin 8, EffectAt (F.OS_CLK_CFG_EN k).off 27 k 0 ∧ EffectAt (F.OS_CLK_DLY_FINE k).off 28 k 0 := by decide +kernel
  have h6 : ∀ q : Fin 6, EffectAt (F.LN_LANE_CFG_EN q).off 30 q 0 ∧ EffectAt (F.LN_LANE_EQ_PRE q).off 31 q 0 ∧
      EffectAt (F.PT_PORT_PTP_ROLE q).off 39 q 0 := by decide +kernel
  exact ⟨(h4 n).1, (h8 k).1, (h8 k).2, (h4 n).2, h6 q⟩

theorem effectAt_single :
    EffectAt F.TB_SRC_REQ_GO.off 1 0 0 ∧ EffectAt F.RS_SEL_REF.off 9 0 0 ∧ EffectAt F.TK_CTL_MODE.off 11 0 0 ∧ EffectAt F.GN_CFG_EN.off 17 0 0 ∧
      EffectAt F.GL_SCRUB_RATE_RATE.off 44 0 0 ∧ EffectAt F.RD_SWITCH_GO.off 46 0 0 ∧ EffectAt F.SY_NEVE_GO.off 51 0 0 ∧
      EffectAt F.BT_RELOAD_GO.off 52 0 0 ∧ EffectAt F.SY_CHIPRST_GO.off 50 0 0 := by
  and_intros <;> decide +kernel

theorem posAxis_lt (axis : Fin 3) : (posAxis axis).off < 2 ^ 25 := by
  revert axis
  decide

variable {s : State} {path : Path} {off : BitVec 25} {width : BitVec 4} {v : Word}

/-- A served write that is no whole aligned register is dropped with NARROW (R3, R370). -/
theorem registerWrite_narrow (hp : s.power = .run) (hj : s.judge path off.toNat true = .served) (hn : width ≠ 8 ∨ off.toNat % 8 ≠ 0) :
    Does (.registerWrite path off width v) s fun t => Frame s t [F.BT_EVT_NARROW] := by
  have hwhole : ¬(width.toNat = 8 ∧ off.toNat % 8 = 0) := fun ⟨hw, h8⟩ => hn.elim (fun h => h (BitVec.eq_of_toNat_eq hw)) (fun h => h h8)
  refine does_registerWrite hp hj ?_
  rw [if_neg hwhole]
  exact (Frame.accessEvent s path _ _ _ (by simp)).settled

/-- A served whole write of a plain register acts by its access codes (R5). -/
theorem registerWrite_plain (hp : s.power = .run) (hj : s.judge path off.toNat true = .served) (hw : width = 8) (h8 : off.toNat % 8 = 0)
    (he : (effects path (canonical off.toNat) v).all (fun e => (e.1.place (canonical off.toNat)).isNone) = true) :
    Does (.registerWrite path off width v) s fun t => Keeps s t (F.BT_EVT_REFUSED :: fieldsAt (canonical off.toNat)) ∧
      ∀ f ∈ fieldsAt (canonical off.toNat), t.get f = s.written v f := by
  obtain ⟨hkeep, hget⟩ := writePlain_writes s path (canonical off.toNat) v
  refine does_registerWrite hp hj ?_
  rw [if_pos ⟨by simp [hw], h8⟩, writeReg_plain he]
  exact ⟨hkeep.settle, fun f hf => (State.settle_get _ f).trans (hget f hf)⟩

/-- A served whole read of a plain register (R5). -/
theorem rcFieldRead_plain (hp : s.power = .run) (hj : s.judge path off.toNat false = .served) (hw : width = 8) (h8 : off.toNat % 8 = 0)
    (h : ReadsPlain (canonical off.toNat)) (hl : s.latches = []) :
    Does (.rcFieldRead path off width) s fun t =>
      Sends s t (.readData off.toNat (BitVec.ofNat 64 ((s.shown (canonical off.toNat)).readable (canonical off.toNat)))) ∧
      Frame { s with latches := t.latches } t (rcFields (canonical off.toNat)) ∧
      ∀ f ∈ fieldsAt (canonical off.toNat), f.acc = .rc → t.get f = f.reset := by
  obtain ⟨hsend, hframe, hclear, -⟩ := accessRead_plain hj h8 h (by simp [hl])
  subst hw
  exact does_running (f := (·.accessRead path off.toNat 8)) (by unfold exec; rfl) hp ⟨hsend, hframe, hclear⟩

/-- Settles O51: the register map keeps the fields of a register apart, so each turn of a write or read acts on its own field; a latch outlives any
change of the registers; and a command and a write at its register's offset come to the same entry of `effects`. -/
theorem registerAccessesActByTheirCode : Obligations.RegisterAccessesActByTheirCode := by
  refine ⟨fun s path off width v hp => ⟨fun h => ?_, fun h => ?_, fun h => ?_, fun write h => foreignAccess_served hp h, registerWrite_narrow hp,
    registerWrite_plain hp, fun h => ?_, fun h => ?_, fun h => ?_, fun hj hw h8 hb hl hraw hwin hseal hdata => ?_⟩, ?_, ?_, ?_, ?_⟩
  · refine does_write_unserved hp (by simp [h]) ?_
    rw [State.hostWrite_foreign _ h]
    exact accessEvent_settled s path _ _ _ (by decide) (by decide)
  · refine does_write_unserved hp (by simp [h]) ?_
    rw [State.hostWrite_refused _ h]
    exact accessEvent_settled s path _ _ _ (by decide) (by decide)
  · refine does_write_unserved hp (by rcases h with h | h <;> simp [h]) ?_
    rw [State.hostWrite_lost _ h]
    exact Frame.settle s []
  · refine does_read_unserved hp (by simp [h]) ?_
    rw [State.hostRead_foreign _ h]
    exact ⟨((Frame.emit s _ _).trans (Frame.accessEvent _ path _ _ _ (by simp))).settled, sends_accessEvent s _ path _ _ _⟩
  · refine does_read_unserved hp (by simp [h]) ?_
    rw [State.hostRead_dead _ h]
    exact ⟨(Frame.emit s _ _).settled, sends_emit (t := s) _ rfl (outs_settle _)⟩
  · refine does_read_unserved hp (by simp [h]) ?_
    rw [State.hostRead_reserved _ h]
    exact ⟨(Frame.emit s _ _).settled, sends_emit (t := s) _ rfl (outs_settle _)⟩
  · exact rcFieldRead_plain hp hj hw h8 ⟨(canonical_le _).trans_lt hb, hraw, hwin, hseal, hdata⟩ hl
  · intro s path later hp hj hl
    obtain ⟨t, ht, hsend, hframe, hnext⟩ := timeWord_read timeWord_tk hp hj hl
    rw [readable_sec] at hsend
    rw [readable_nsf] at hnext
    exact ⟨t, ht, hsend, hframe.keeps, hnext later t.cells⟩
  · intro s path n later cells hp
    have hread : ∀ e : Nat × Nat, TimeWord e.1 e.2 → s.judge path e.1 false = .served → (∀ l ∈ s.latches, l.1 ≠ e.1) →
        Does (.timeWordSecRead path (BitVec.ofNat 25 e.1)) s fun t =>
          Sends s t (.readData e.1 (BitVec.ofNat 64 ((s.shown e.1).readable e.1))) ∧ Frame { s with latches := t.latches } t [] ∧
          Does (.rcFieldRead path (BitVec.ofNat 25 e.2) 8) { t with now := later, cells := cells } fun u =>
            Sends t u (.readData e.2 (BitVec.ofNat 64 ((s.shown e.2).readable e.2))) := fun e h hj hl => by
      obtain ⟨t, ht, hsend, hframe, hnext⟩ := timeWord_read h hp hj hl
      exact ⟨t, ht, hsend, hframe, hnext later cells⟩
    simp only [List.forall_mem_cons, List.not_mem_nil, false_implies, implies_true, and_true]
    exact ⟨hread (_, _) timeWord_tk, hread (_, _) timeWord_mb, hread (_, _) (timeWord_ie n)⟩
  · intro s path n k q v hp
    obtain ⟨hom, hclk, hdly, hpps, hlane, heq, hptp⟩ := effectAt_indexed n k q
    obtain ⟨htb, hrs, htk, hgn, hgl, hrd, hneve, hbt, hchip⟩ := effectAt_single
    simp only [List.forall_mem_cons, List.not_mem_nil, false_implies, implies_true, and_true]
    exact ⟨command_is_write hp hom rfl, command_is_write hp hclk rfl, command_is_write hp hdly rfl, command_is_write hp hpps rfl,
      command_is_write hp htb rfl, command_is_write hp hrs rfl, command_is_write hp htk rfl, command_is_write hp hgn rfl,
      command_is_write hp hlane rfl, command_is_write hp heq rfl, command_is_write hp hptp rfl, command_is_write hp hgl rfl,
      command_is_write hp hrd rfl, command_is_write hp hneve rfl, command_is_write hp hbt rfl, command_is_write hp hchip rfl⟩
  · intro s path ch m j n p g x axis two v w5 slot tslot len confirm te delta puf hp
    refine unserved_of_routes ?_
    simp only [List.forall_mem_append, List.forall_mem_cons, List.not_mem_nil, false_implies, implies_true, and_true]
    and_intros <;> refine ⟨?_, fun s => ⟨_, by unfold exec; rfl⟩⟩
    all_goals
      simp only [F.TB_SRC_REQ_GO, F.IE_CH_RES_RAW_RAW, F.IE_ST_STAT_N_DONE, F.MB_ATT_STAT_VALID, F.IE_ST_CFG_EN, F.IE_CAL_REQ_GO, F.IE_CAL_REQ_ALL,
        F.RS_SEL_REF, F.RS_REF_CFG_EN, F.TK_CTL_MODE, F.TK_MAN_PHASE_PHASE, F.TK_SET_NSF_NS, F.TK_SET_SEC_SEC, F.GN_FE_SPI_DATA, F.GN_CFG_EN,
        F.GN_FLAKE_EN, F.GN_POS_CFG_MODE, F.MB_REF_CAL_UNC, F.OS_OM_CFG_EN, F.OS_CLK_CFG_EN, F.OS_CLK_DLY_FINE, F.OS_PPS_CFG_EN, F.LN_LANE_CFG_EN,
        F.LN_LANE_EQ_PRE, F.AP_CAL_REQ_GO, F.BT_RELOAD_GO, F.PT_PORT_PTP_ROLE, F.PT_LEAP_WR_TE, F.PT_TX_PTR_TAIL, F.KV_OP_GO, F.KV_LC_GO,
        F.TP_CLEAR_GO, F.GL_SCRUB_RATE_RATE, F.EC_FUSE_REQ_GO, F.RD_SWITCH_GO, F.RD_RIME_REQ_GO, F.SY_CHIPRST_GO, F.SY_NEVE_GO, F.SY_URESET_GO,
        F.PC_SEL_EN, F.PC_BW_CFG_W, posAxis_lt] <;> omega

end Sys2Proof.Machine
end

section
/-! PROOF. What the proofs of the time and bound formats share: frames read part by part, served writes, journal entries, repetition. -/
namespace Sys2Proof.Machine

variable {s t u : State} {fs : List Fld}

/-! ## What a frame keeps -/

theorem Frame.now (h : Frame s t fs) : t.now = s.now := by rw [h.2]
theorem Frame.tick (h : Frame s t fs) : t.tick = s.tick := by rw [h.2]
theorem Frame.quiet (h : Frame s t fs) : t.quiet = s.quiet := by rw [h.2]

/-- The same timekeeping part on both sides of a frame. -/
theorem Frame.withTk (h : Frame s t fs) (tk : TkPart) : Frame { s with tk := tk } { t with tk := tk } fs :=
  ⟨h.1, congrArg (fun x : State => { x with tk := tk }) h.2⟩

/-- The same Moraine part on both sides of a frame. -/
theorem Frame.withMb (h : Frame s t fs) (mb : MbPart) : Frame { s with mb := mb } { t with mb := mb } fs :=
  ⟨h.1, congrArg (fun x : State => { x with mb := mb }) h.2⟩

/-! ## Served writes and their events -/

/-- A register's command that its path serves has the register's effect. -/
theorem does_write {c : Instr} {path : Path} {off : Nat} {f : State → State} {P : State → Prop}
    (hc : exec c s = running s (·.hostWrite path off f)) (hp : s.power = .run) (hj : s.judge path off true = .served) (h : P (f s).settle) :
    Does c s P :=
  does_running hc hp (by rwa [State.hostWrite_served _ _ _ _ hj])

/-- Equal journals hold equal entries. -/
theorem Logs.ofJl {code src inst arg : Nat} (h : Logs s t code src inst arg) (hj : u.jl = t.jl) : Logs s u code src inst arg := by
  unfold Logs at h ⊢
  rwa [hj]

/-- An event after changes that leave the journal alone is the one entry that the command adds. -/
theorem logs_event (hq : u.quiet = s.quiet) (hj : u.jl = s.jl) (f : Fld) (code inst arg : Nat) :
    Logs s (u.event f code inst arg) code f.window inst arg := by
  have h := State.event_logs u f code inst arg
  unfold Logs at h ⊢
  rwa [← hq, ← hj]

/-! ## Fields that no event tallies -/

/-- Events tally fields of the counter block and of the journal alone, whose windows follow all that are named here (R386, R394). -/
theorem tallied_of_window {f : Fld} (h : f.key / 4194304 < 0x14) : f.tallied = false := by
  have hdrop : F.JL_STAT_DROPPED.key / 4194304 = 0x15 := by decide
  simp only [Fld.tallied, Bool.or_eq_false_iff, beq_eq_false_iff_ne]
  exact ⟨by omega, fun e => by omega⟩

/-! ## Repetition and choice -/

/-- What no turn changes, the whole leaves alone. -/
theorem forAll_keeps {α β : Type} (g : State → β) (l : List α) (f : State → α → State) (h : ∀ t, ∀ x ∈ l, g (f t x) = g t) (s : State) :
    g (s.forAll l f) = g s := by
  induction l generalizing s with
  | nil => rfl
  | cons x l ih => exact (ih (fun t y hy => h t y (List.mem_cons_of_mem _ hy)) (f s x)).trans (h s x List.mem_cons_self)

/-- A choice, seen through one field. -/
theorem get_when {f : Fld} {b : Bool} {g : State → State} (h : b = true → (g s).get f = s.get f) : (s.when b g).get f = s.get f := by
  cases b
  · rfl
  · exact h rfl

end Sys2Proof.Machine
end

section
/-! PROOF. Bound arithmetic (O59; R28), and the passing of time by sample ticks (O28; R23, R27, R113, R352, R355, R386). -/
namespace Sys2Proof.Machine

variable {s t u : State} {fs : List Fld}

/-! ## Sums of bounds (R28) -/

theorem boundSum_eq_min (l : List Nat) : boundSum l = min l.sum 0xFFFFFFFFFFFF := rfl

/-- A sum of bounds is at most "unbounded". -/
theorem boundSum_le (l : List Nat) : boundSum l ≤ unbounded := min_le_right _ _

/-- Settles O59: the sum is the exact one, limited at "unbounded", which a term of that size already reaches. -/
theorem boundArithmeticSaturates : Obligations.BoundArithmeticSaturates := by
  intro l
  rw [boundSum_eq_min]
  refine ⟨fun h => by omega, fun h => by omega, fun h => ?_⟩
  have := List.le_sum_of_mem h
  omega

/-! ## Sample ticks -/

/-- The counters of ticks change the counter block alone (R386, R387). -/
theorem Frame.countTicks (s : State) (n : Nat) (fs : List Fld) : Frame s (s.countTicks n) fs := by
  refine Frame.forAll _ _ (fun t c hc => ?_) s
  have hadd (u : State) : Frame u (u.counterAdd c n) fs := Frame.counterAdd u c n (by simpa using hc) fs
  split
  · exact hadd t
  · split
    · split
      · exact Frame.when t _ _ fun _ => hadd t
      · exact Frame.refl t fs
    · exact Frame.refl t fs

/-- A new time and a new tick leave the registers alone. -/
theorem cells_advance (s : State) (now tick : Nat) : ({ s with now := now, tick := tick } : State).cells = s.cells := rfl

theorem passTime_cells (s : State) (n : Nat) : (s.passTime n).cells = s.cells := cells_advance s _ _

/-- At a zero frequency word a sample tick is four raw ticks (R27, R113). -/
theorem passTime_tick (n : Nat) (h : s.getI F.TK_TS_FREQ_FREQ = 0) : (s.passTime n).tick = s.tick + n * 4 * 2 ^ 32 := by
  have hden : (2 ^ 32 * 10 ^ 12 : Int).toNat = 4294967296000000000000 := rfl
  simp only [State.passTime, h, add_zero, hden]
  omega

/-- Settles O28: ticks count in the counter block alone, so that the RTC, the time and the raw tick are as they were before the counting. -/
theorem timePassesBySampleTicks : Obligations.TimePassesBySampleTicks := by
  intro s n r
  generalize hu : s.put F.PM_RTC_RTC (s.get F.PM_RTC_RTC + r) = u
  have hexec : exec (.sampleTick n r) s = .next (if s.power = .run then (u.passTime n).countTicks n else u) := by
    rw [← hu]
    rfl
  refine ⟨fun hp => ⟨(u.passTime n).countTicks n, by rw [hexec, if_pos hp], ?_⟩, fun hp => ⟨u, by rw [hexec, if_neg hp], rfl⟩⟩
  have hcount := Frame.countTicks (u.passTime n) n []
  have hput : Frame s u [F.PM_RTC_RTC] := hu ▸ Frame.put s F.PM_RTC_RTC _ (by simp)
  have hrtc : (u.passTime n).get F.PM_RTC_RTC = (s.get F.PM_RTC_RTC + r) % 2 ^ F.PM_RTC_RTC.width := by
    rw [get_ofCells (passTime_cells u n), ← hu, State.get_put_same]
  have hfreq : u.getI F.TK_TS_FREQ_FREQ = s.getI F.TK_TS_FREQ_FREQ := by
    rw [State.getI, State.getI, hput.get F.TK_TS_FREQ_FREQ (by decide) (by decide)]
  refine ⟨(hcount.get _ (by simp) (by decide)).trans hrtc, ?_, (hput.keeps.next (passTime_cells u n)).trans (hcount.keeps.mono (by simp)), fun hf => ?_⟩
  · rw [hcount.now, ← hput.now]
    rfl
  · rw [hcount.tick, ← hput.tick]
    exact passTime_tick n (hfreq.trans hf)

end Sys2Proof.Machine
end

section
/-! PROOF. Writes in manual mode and the temperature fit (O9; R24, R25, R114, R116, R121). -/
namespace Sys2Proof.Machine

variable {s t u : State} {fs : List Fld}

/-! ## Numbers -/

theorem clampI_mem {lo hi : Int} (h : lo ≤ hi) (x : Int) : lo ≤ clampI lo hi x ∧ clampI lo hi x ≤ hi := by
  unfold clampI
  omega

/-- A signed number that a field holds is read back. -/
theorem getI_putI {f : Fld} {k : Nat} (hw : f.width = k + 1) {v : Int} (h : -2 ^ k ≤ v ∧ v < 2 ^ k) : (s.putI f v).getI f = v := by
  obtain ⟨hlo, hhi⟩ := h
  have hpow : (2 : Nat) ^ (k + 1) = 2 * 2 ^ k := by rw [pow_succ, mul_comm]
  have hbig : (2 : Int) ^ (k + 1) = 2 * 2 ^ k := by rw [pow_succ, mul_comm]
  unfold State.getI State.putI
  simp only [State.get_put_same, hw]
  rw [hpow, hbig]
  obtain ⟨n, hn⟩ : ∃ n : Nat, n = 2 ^ k := ⟨_, rfl⟩
  have hcast : (2 : Int) ^ k = n := by rw [hn]; push_cast; rfl
  rw [← hn, hcast]
  rw [hcast] at hlo hhi
  have hv : v % ((2 * n : Nat) : Int) = if 0 ≤ v then v else v + 2 * n := by
    split
    · exact Int.emod_eq_of_lt ‹_› (by omega)
    · rw [← Int.add_emod_right, Int.emod_eq_of_lt (by omega) (by omega)]
      omega
  rw [hv, Nat.mod_eq_of_lt (by split <;> omega)]
  split <;> split <;> omega

/-! ## TK_CTL (R121) -/

/-- A register loaded from a word reads as the word. -/
theorem putWord_get (off : Nat) (v : Word) {f : Fld} (hf : f ∈ fieldsAt off) : (s.putWord (fieldsAt off) v.toNat).get f = f.ofWord v :=
  get_forAll_mem (w := fun _ x => x.ofWord v) (fun t x g h => State.get_put_other t x g _ h) (fun t x => State.get_put_same t x _)
    (fun _ _ _ _ => rfl) _ (nodup_keys_fieldsAt off) hf s

theorem Frame.putWord (s : State) {gs : List Fld} (w : Nat) (h : ∀ f ∈ gs, f.key ∈ fs.map Fld.key) : Frame s (s.putWord gs w) fs :=
  Frame.forAll gs _ (fun t f hf => Frame.put t f _ (.inl (h f hf))) s

theorem putWord_jl (s : State) (gs : List Fld) (w : Nat) : (s.putWord gs w).jl = s.jl :=
  State.forAll_jl gs (fun t f => t.put f (w / 2 ^ f.lo)) (fun _ _ => rfl) s

/-- The fields of TK_CTL stand apart from every core's event flags and from what events tally. -/
theorem tkCtl_apart {f : Fld} (hf : f ∈ fieldsAt F.TK_CTL_MODE.off) (k : Nat) : f.key ≠ (F.TK_EVT_MODE k).key ∧ f.tallied = false := by
  have hoff : f.off = 0x050000 := off_of_mem_fieldsAt hf
  obtain ⟨hlo, _⟩ := sound_of_mem_fieldsAt hf
  have hkey : f.key = 0x050000 * 64 + f.lo := by rw [Fld.key, hoff]
  have hevt : (F.TK_EVT_MODE k).key = (0x050108 + k * 0x8000) * 64 + 7 := rfl
  exact ⟨by omega, tallied_of_window (by omega)⟩

/-- A write of TK_CTL loads its fields; an event follows exactly where it changes whether the mode is MANUAL. -/
theorem writeTkCtl_eq (s : State) (v : Word) :
    s.writeTkCtl v = (s.putWord (fieldsAt F.TK_CTL_MODE.off) v.toNat).when (decide ¬(s.get F.TK_CTL_MODE = 1 ↔ F.TK_CTL_MODE.ofWord v = 1))
      (·.event (F.TK_EVT_MODE s.core) 0x0408 s.core 0) := by
  have hmode := putWord_get (s := s) F.TK_CTL_MODE.off v (f := F.TK_CTL_MODE) (by decide +kernel)
  unfold State.writeTkCtl State.tkEvent
  dsimp only
  rw [hmode]
  congr 1
  by_cases h1 : s.get F.TK_CTL_MODE = 1 <;> by_cases h2 : F.TK_CTL_MODE.ofWord v = 1 <;> simp [h1, h2]

/-- A write of TK_CTL loads its fields and changes nothing else but the mode's event flag. -/
theorem writeTkCtl_writes (s : State) (v : Word) :
    (∀ f ∈ fieldsAt F.TK_CTL_MODE.off, (s.writeTkCtl v).get f = f.ofWord v) ∧
      Frame s (s.writeTkCtl v) (F.TK_EVT_MODE s.core :: fieldsAt F.TK_CTL_MODE.off) := by
  rw [writeTkCtl_eq]
  refine ⟨fun f hf => ?_, (Frame.putWord s _ fun f hf => ?_).trans (Frame.when _ _ _ fun _ => Frame.event _ _ _ _ _ (by simp))⟩
  · obtain ⟨hne, ht⟩ := tkCtl_apart hf s.core
    have hevent := Frame.when (s.putWord (fieldsAt F.TK_CTL_MODE.off) v.toNat) (decide ¬(s.get F.TK_CTL_MODE = 1 ↔ F.TK_CTL_MODE.ofWord v = 1))
      (·.event (F.TK_EVT_MODE s.core) 0x0408 s.core 0) (fs := [F.TK_EVT_MODE s.core]) fun _ => Frame.event _ _ _ _ _ (by simp)
    exact (hevent.get f (by simpa using hne) ht).trans (putWord_get _ v hf)
  · exact List.mem_map_of_mem (List.mem_cons_of_mem _ hf)

/-! ## What only MANUAL allows (R121) -/

theorem manual_on (f : State → State) (h : s.get F.TK_CTL_MODE = 1) : s.manual f = f s := if_pos h

theorem manual_off (f : State → State) (h : s.get F.TK_CTL_MODE ≠ 1) : s.manual f = s.event (F.TK_EVT_MODE s.core) 0x0408 s.core 1 := if_neg h

/-- What is left to slew saturates, and is read back. -/
theorem getI_putLeft (k : Nat) (left : Int) : (s.putLeft k left).getI (F.TK_SLEW_LEFT_LEFT k) = clampI (-2 ^ 63) (2 ^ 63 - 1) left := by
  have hne : (F.TK_SLEW_LEFT_LEFT k).key ≠ (F.TK_STAT_SLEWING k).key := by
    simp only [Fld.key, F.TK_SLEW_LEFT_LEFT, F.TK_STAT_SLEWING]
    omega
  obtain ⟨hlo, hhi⟩ := clampI_mem (lo := -2 ^ 63) (hi := 2 ^ 63 - 1) (by norm_num) left
  unfold State.putLeft
  rw [State.getI, State.putB, State.get_put_other _ _ _ _ hne]
  exact getI_putI (k := 63) rfl ⟨hlo, by omega⟩

theorem Frame.putLeft (s : State) (k : Nat) (left : Int) : Frame s (s.putLeft k left) [F.TK_SLEW_LEFT_LEFT k, F.TK_STAT_SLEWING k] :=
  (Frame.putI s _ _ (by simp)).trans (Frame.putB _ _ _ (by simp))

/-- Outside MANUAL a command of the same block that only MANUAL allows is the event with argument 1 alone. -/
theorem does_manual_off {c : Instr} {path : Path} {off : Nat} (f : State → State)
    (hc : exec c s = running s (·.hostWrite path off (·.manual f))) (hblock : off / 65536 = F.TK_MAN_PHASE_PHASE.off / 65536)
    (hbound : off < 0x170000) (hp : s.power = .run) (hm : s.get F.TK_CTL_MODE ≠ 1) (hj : s.judge path F.TK_MAN_PHASE_PHASE.off true = .served) :
    Does c s fun t => Frame s t [F.TK_EVT_MODE s.core] ∧ Logs s t 0x0408 (F.TK_EVT_MODE s.core).window s.core 1 := by
  refine does_write hc hp ((judge_sameBlock hblock (by decide) hbound rfl rfl).trans hj) ?_
  rw [manual_off f hm]
  exact ⟨(Frame.event s _ _ _ _ (by simp)).settled, (logs_event rfl rfl _ _ _ _).ofJl (State.settle_jl _)⟩

/-! ## The temperature fit (R116) -/

/-- The limits of a fitted C are those of its field. -/
theorem clampI_int32 (x : Int) : -2 ^ 31 ≤ clampI (-2147483648) 2147483647 x ∧ clampI (-2147483648) 2147483647 x < 2 ^ 31 := by
  unfold clampI
  omega

/-- A fitted line lies within the fields of TK_TEMPCO. -/
theorem tempFit_fits {c : Int} {a : Option Int} (h : s.tempFit = some (c, a)) :
    (-2 ^ 31 ≤ c ∧ c < 2 ^ 31) ∧ ∀ x, a = some x → 0 ≤ x ∧ x ≤ 4095 := by
  unfold State.tempFit at h
  dsimp only at h
  split at h
  · cases h
  · split at h
    · obtain ⟨rfl, rfl⟩ := Prod.mk.inj (Option.some.inj h)
      exact ⟨clampI_int32 _, fun x hx => by cases hx⟩
    · obtain ⟨rfl, rfl⟩ := Prod.mk.inj (Option.some.inj h)
      refine ⟨clampI_int32 _, fun x hx => ?_⟩
      cases hx
      exact clampI_mem (by norm_num) _

/-- TK_TEMPCO takes the fitted line; what the samples do not determine of it is a free value. -/
def State.takeFit (s : State) : State :=
  match s.tempFit with
  | some (c, some a) => (s.putI F.TK_TEMPCO_C c).putI F.TK_TEMPCO_A_REF a
  | some (c, none) => s.takeFree fun s a => (s.putI F.TK_TEMPCO_C c).put F.TK_TEMPCO_A_REF a.toNat
  | none => s.takeFree fun s c => s.takeFree fun s a => (s.put F.TK_TEMPCO_C c.toNat).put F.TK_TEMPCO_A_REF a.toNat

/-- What a refit with learning does to the registers. -/
def State.learnFit (s : State) : State := (s.takeFit.put F.TK_TEMPCO_LEARNED 1).event (F.TK_EVT_TEMPCO s.core) 0x0409 s.core 0

/-- The day's sums start afresh. -/
def TkPart.freshDay (p : TkPart) (track : Bool) : TkPart := { p with fitN := 0, fitA := 0, fitY := 0, fitAA := 0, fitAY := 0, dayTrack := track }

/-- A refit learns where learning is on and the whole day was tracked, and starts the sums afresh in every case. -/
theorem exec_tempcoRefit (s : State) : exec .tempcoRefit s = running s fun s =>
    let t := if s.on F.TK_CTL_TEMPCO_LEARN && s.tk.dayTrack then s.learnFit else s
    { t with tk := t.tk.freshDay (s.coreLive && s.get (F.TK_STAT_STATE s.core) == 2) } := rfl

theorem takeFit_frame (s : State) : Frame { s with free := s.takeFit.free } s.takeFit [F.TK_TEMPCO_C, F.TK_TEMPCO_A_REF] ∧ s.takeFit.jl = s.jl := by
  have hputs (t : State) (c a : Nat) : Frame t ((t.put F.TK_TEMPCO_C c).put F.TK_TEMPCO_A_REF a) [F.TK_TEMPCO_C, F.TK_TEMPCO_A_REF] :=
    (Frame.put t _ _ (by simp)).trans (Frame.put _ _ _ (by simp))
  unfold State.takeFit
  split
  · exact ⟨hputs s _ _, rfl⟩
  · exact ⟨hputs { s with free := s.free + 1 } _ _, rfl⟩
  · exact ⟨hputs { s with free := s.free + 1 + 1 } _ _, rfl⟩

/-- A determined line is read back; A_REF is a free value where the line is level. -/
theorem takeFit_fitted {c : Int} {a : Option Int} (h : s.tempFit = some (c, a)) : s.takeFit.getI F.TK_TEMPCO_C = c ∧
    s.takeFit.get F.TK_TEMPCO_A_REF = (a.map Int.toNat).getD ((Config.freeValue s.free).toNat % 2 ^ 12) := by
  obtain ⟨hc, ha⟩ := tempFit_fits h
  have hread (t : State) (v : Nat) : ((t.putI F.TK_TEMPCO_C c).put F.TK_TEMPCO_A_REF v).getI F.TK_TEMPCO_C = c := by
    rw [State.getI, State.get_put_other _ _ _ _ (by decide)]
    exact getI_putI (k := 31) rfl hc
  unfold State.takeFit
  rw [h]
  cases a with
  | none => exact ⟨hread { s with free := s.free + 1 } _, State.get_put_same _ _ _⟩
  | some a =>
    obtain ⟨hlo, hhi⟩ := ha a rfl
    refine ⟨hread s _, (State.get_put_same _ _ _).trans ?_⟩
    simp only [F.TK_TEMPCO_A_REF, Option.map_some, Option.getD_some]
    omega

/-- Samples that determine no line leave both values free. -/
theorem takeFit_free (h : s.tempFit = none) : s.takeFit.get F.TK_TEMPCO_C = (Config.freeValue s.free).toNat % 2 ^ 32 ∧
    s.takeFit.get F.TK_TEMPCO_A_REF = (Config.freeValue (s.free + 1)).toNat % 2 ^ 12 := by
  unfold State.takeFit
  rw [h]
  refine ⟨?_, State.get_put_same _ _ _⟩
  exact (State.get_put_other _ F.TK_TEMPCO_A_REF F.TK_TEMPCO_C _ (by decide)).trans (State.get_put_same _ _ _)

theorem tempco_apart (k : Nat) : ∀ f ∈ [F.TK_TEMPCO_C, F.TK_TEMPCO_A_REF, F.TK_TEMPCO_LEARNED],
    f.key ≠ (F.TK_EVT_TEMPCO k).key ∧ f.tallied = false := by
  have hevt : (F.TK_EVT_TEMPCO k).key = (0x050108 + k * 0x8000) * 64 + 8 := rfl
  simp only [List.forall_mem_cons, List.not_mem_nil, false_implies, implies_true, and_true, hevt]
  exact ⟨⟨by simp only [F.TK_TEMPCO_C, Fld.key]; omega, by decide⟩, ⟨by simp only [F.TK_TEMPCO_A_REF, Fld.key]; omega, by decide⟩,
    by simp only [F.TK_TEMPCO_LEARNED, Fld.key]; omega, by decide⟩

/-- Learning writes TK_TEMPCO and one event, and uses up free values. -/
theorem learnFit_writes (s : State) :
    Frame { s with free := s.learnFit.free } s.learnFit [F.TK_TEMPCO_C, F.TK_TEMPCO_A_REF, F.TK_TEMPCO_LEARNED, F.TK_EVT_TEMPCO s.core] ∧
      s.learnFit.get F.TK_TEMPCO_LEARNED = 1 ∧
      (∀ f ∈ [F.TK_TEMPCO_C, F.TK_TEMPCO_A_REF], s.learnFit.get f = s.takeFit.get f) ∧
      Logs s s.learnFit 0x0409 (F.TK_EVT_TEMPCO s.core).window s.core 0 := by
  obtain ⟨hframe, hjl⟩ := takeFit_frame s
  have hevent (f : Fld) (hf : f ∈ [F.TK_TEMPCO_C, F.TK_TEMPCO_A_REF, F.TK_TEMPCO_LEARNED]) :
      s.learnFit.get f = (s.takeFit.put F.TK_TEMPCO_LEARNED 1).get f := by
    obtain ⟨hne, ht⟩ := tempco_apart s.core f hf
    exact State.event_get_other _ _ f _ _ _ hne ht
  have hfree : s.learnFit.free = s.takeFit.free := State.event_free _ _ _ _ _
  refine ⟨?_, ?_, fun f hf => ?_, logs_event ?_ ((State.put_jl _ _ _).trans hjl) _ _ _ _⟩
  · rw [hfree]
    exact ((hframe.mono (by simp)).trans (Frame.put _ F.TK_TEMPCO_LEARNED _ (by simp))).trans (Frame.event _ _ _ _ _ (by simp))
  · rw [hevent _ (by simp), State.get_put_same]
    rfl
  · rw [hevent f (List.mem_append_left [F.TK_TEMPCO_LEARNED] hf), State.get_put_other]
    simp only [List.mem_cons, List.not_mem_nil, or_false] at hf
    obtain rfl | rfl := hf <;> decide
  · rw [State.put_quiet, hframe.2]

/-- A refit renews TK_TEMPCO where it learns, and starts the day's sums afresh in every case (R116). -/
theorem does_tempcoRefit (hp : s.power = .run) : Does .tempcoRefit s fun t =>
    (t.tk.fitN, t.tk.fitA, t.tk.fitY, t.tk.fitAA, t.tk.fitAY) = (0, 0, 0, 0, 0) ∧
    (s.on F.TK_CTL_TEMPCO_LEARN = true → s.tk.dayTrack = true → t.get F.TK_TEMPCO_LEARNED = 1 ∧
      Frame { s with tk := t.tk, free := t.free } t [F.TK_TEMPCO_C, F.TK_TEMPCO_A_REF, F.TK_TEMPCO_LEARNED, F.TK_EVT_TEMPCO s.core] ∧
      Logs s t 0x0409 (F.TK_EVT_TEMPCO s.core).window s.core 0 ∧
      (∀ (c : Int) (a : Option Int), s.tempFit = some (c, a) → t.getI F.TK_TEMPCO_C = c ∧
        t.get F.TK_TEMPCO_A_REF = (a.map Int.toNat).getD ((Config.freeValue s.free).toNat % 2 ^ 12)) ∧
      (s.tempFit = none → t.get F.TK_TEMPCO_C = (Config.freeValue s.free).toNat % 2 ^ 32 ∧
        t.get F.TK_TEMPCO_A_REF = (Config.freeValue (s.free + 1)).toNat % 2 ^ 12)) ∧
    (s.on F.TK_CTL_TEMPCO_LEARN = false ∨ s.tk.dayTrack = false → Frame { s with tk := t.tk } t []) := by
  refine does_running (exec_tempcoRefit s) hp ?_
  generalize (s.coreLive && s.get (F.TK_STAT_STATE s.core) == 2) = track
  dsimp only
  refine ⟨by rw [State.settle_tk]; rfl, fun hlearn hday => ?_, fun hnot => ?_⟩
  · rw [if_pos (by simp [hlearn, hday])]
    obtain ⟨hframe, hlearned, hvals, hlogs⟩ := learnFit_writes s
    generalize s.learnFit = u at *
    generalize u.tk.freshDay track = day
    have hget (f : Fld) : ({ u with tk := day } : State).settle.get f = u.get f := (State.settle_get _ f).trans (get_ofCells rfl f)
    have hread (f : Fld) (hf : f ∈ [F.TK_TEMPCO_C, F.TK_TEMPCO_A_REF]) : ({ u with tk := day } : State).settle.get f = s.takeFit.get f :=
      (hget f).trans (hvals f hf)
    refine ⟨(hget _).trans hlearned, ?_, hlogs.ofJl (State.settle_jl _), fun c a hfit => ?_, fun hfit => ?_⟩
    · rw [State.settle_tk, State.settle_free]
      exact (hframe.withTk day).settled
    · obtain ⟨hc, ha⟩ := takeFit_fitted hfit
      rw [State.getI, hread _ (by simp), hread _ (by simp)]
      exact ⟨hc, ha⟩
    · obtain ⟨hc, ha⟩ := takeFit_free hfit
      exact ⟨(hread _ (by simp)).trans hc, (hread _ (by simp)).trans ha⟩
  · have hoff : (s.on F.TK_CTL_TEMPCO_LEARN && s.tk.dayTrack) = false := by obtain h | h := hnot <;> simp [h]
    rw [hoff, State.settle_tk]
    exact ((Frame.refl s []).withTk _).settled

/-- Settles O9, clause by clause: TK_CTL, the three manual writes in MANUAL, the three outside it, and the refit. -/
theorem manualModeWritesAndTemperatureFit : Obligations.ManualModeWritesAndTemperatureFit := by
  refine ⟨?_, ?_, ?_, ?_, ?_, ?_⟩
  · intro s path v hp hj
    obtain ⟨hread, hframe⟩ := writeTkCtl_writes s v
    refine does_write rfl hp hj ⟨fun f hf => (State.settle_get _ f).trans (hread f hf), hframe.settled, fun hm => ?_, fun hm => ?_⟩
    · rw [writeTkCtl_eq, decide_eq_true hm, State.when_true]
      have hquiet := (Frame.putWord (fs := fieldsAt F.TK_CTL_MODE.off) s v.toNat fun f hf => List.mem_map_of_mem hf).quiet
      exact (logs_event hquiet (putWord_jl s _ _) _ _ _ _).ofJl (State.settle_jl _)
    · rw [writeTkCtl_eq, decide_eq_false (not_not.mpr hm), State.when_false]
      unfold LogsNone
      rw [State.settle_jl, putWord_jl]
  · intro s path v hp hj hm
    refine does_write rfl hp hj ?_
    rw [State.writeManPhase, manual_on _ hm]
    exact ⟨(State.settle_getI _ _).trans (getI_putLeft _ _), (Frame.putLeft s _ _).settled⟩
  · intro s path v hp hj hm
    refine does_write rfl hp hj ?_
    rw [State.writeSetNsf, manual_on _ hm]
    exact (Frame.refl _ _).settled
  · intro s path v hp hj hm nsf
    refine ⟨fun hns => does_write rfl hp hj ?_, fun hns => does_write rfl hp hj ?_⟩
    · rw [State.writeSetSec, manual_on _ hm]
      dsimp only
      rw [if_neg (by omega)]
      exact (Frame.refl _ _).settled
    · rw [State.writeSetSec, manual_on _ hm]
      dsimp only
      rw [if_pos hns]
      exact (Frame.refl _ _).settled
  · intro s path v hp hm hj
    simp only [List.forall_mem_cons, List.not_mem_nil, false_implies, implies_true, and_true]
    exact ⟨does_manual_off _ rfl rfl (by decide) hp hm hj, does_manual_off _ rfl rfl (by decide) hp hm hj,
      does_manual_off _ rfl rfl (by decide) hp hm hj⟩
  · exact fun s hp => does_tempcoRefit hp

end Sys2Proof.Machine
end

section
/-! PROOF. Publication (O12): what happens before the terms are formed leaves what they are formed from as it was (R120, R152, R157, R158). -/
namespace Sys2Proof.Machine

variable {s t u : State} {fs : List Fld}

/-! ## Fields that events leave alone -/

/-- Events leave the field alone: it is not tallied, or it does not begin at the low end of its register, where every tally does. -/
def Fld.spared (f : Fld) : Prop := f.tallied = false ∨ f.key % 64 ≠ 0

theorem spared_ne {f g : Fld} (hf : f.spared) (hg : g.key % 64 = 0) (ht : g.tallied = true) : f.key ≠ g.key := by
  intro e
  obtain h | h := hf
  · have : f.tallied = g.tallied := by simp only [Fld.tallied, e]
    simp [this, ht] at h
  · exact h (e ▸ hg)

theorem spared_value {f : Fld} (hf : f.spared) {n : Nat} (hn : n < 256) : f.key ≠ (F.PC_CNT_VALUE n).key :=
  spared_ne hf (by simp only [F.PC_CNT_VALUE, Fld.key]; omega) (tallied_pc _ (by simp only [F.PC_CNT_VALUE]; omega) (by simp [F.PC_CNT_VALUE]))

theorem spared_wrap {f : Fld} (hf : f.spared) {n : Nat} (hn : n < 256) : f.key ≠ (F.PC_OVF_OVF (n / 64)).key :=
  spared_ne hf (by simp only [F.PC_OVF_OVF, Fld.key]; omega) (tallied_pc _ (by simp only [F.PC_OVF_OVF]; omega) (by simp [F.PC_OVF_OVF]))

theorem get_withJl (s : State) (jl : JlPart) (f : Fld) : ({ s with jl := jl } : State).get f = s.get f := rfl

section
variable {f : Fld} (hf : f.spared)
include hf

theorem get_counterWrapped_spared (s : State) {n : Nat} (hn : n < 256) : (s.counterWrapped n).get f = s.get f := by
  have hsignal (t : State) (b : Bool) : (t.when b (·.signalLimited 4 1)).get f = t.get f := get_when fun _ => State.signalLimited_get _ _ _ _
  unfold State.counterWrapped
  dsimp only
  rw [hsignal, State.get_put_other _ _ _ _ (spared_wrap hf hn)]

theorem get_counterPlain_spared (s : State) {n : Nat} (k : Nat) (hn : n < 256) : (s.counterPlain n k).get f = s.get f := by
  unfold State.counterPlain
  have hwrap (t : State) (b : Bool) : (t.when b (·.counterWrapped n)).get f = t.get f := get_when fun _ => get_counterWrapped_spared hf t hn
  dsimp only
  rw [hwrap, State.get_put_other _ _ _ _ (spared_value hf hn)]

theorem get_counterAdd_spared (s : State) {n : Nat} (k : Nat) (hn : n < 256) : (s.counterAdd n k).get f = s.get f := by
  unfold State.counterAdd
  refine (get_when fun h => get_counterPlain_spared hf _ _ ?_).trans (get_counterPlain_spared hf s k hn)
  simp only [Bool.and_eq_true, beq_iff_eq] at h
  omega

theorem get_countEvent_spared (s : State) (code : Nat) : (s.countEvent code).get f = s.get f :=
  forAll_keeps (State.get · f) _ _ (fun t _ hn => get_when fun _ => get_counterAdd_spared hf t 1 (List.mem_range.mp hn)) s

theorem get_raise_spared (s : State) (code src inst arg : Nat) : (s.raise code src inst arg).get f = s.get f := by
  have hdrop : f.key ≠ F.JL_STAT_DROPPED.key := spared_ne hf rfl dropped_tallied
  have hcount := get_countEvent_spared hf s code
  unfold State.raise
  split
  · rfl
  · dsimp only
    split
    · rw [get_withJl, hcount]
    · rw [get_withJl, State.count, State.putSat, State.get_put_other _ _ _ _ hdrop, hcount]

theorem get_event_spared (s : State) (g : Fld) (code inst arg : Nat) (h : f.key ≠ g.key) : (s.event g code inst arg).get f = s.get f := by
  unfold State.event
  rw [get_raise_spared hf, State.setFlag_get, State.get_put_other _ _ _ _ h]

end

/-! ## What a publication does before it forms its terms -/

/-- The fields of P0 and T0, of the allowances, and of the slots' own bounds. -/
def earlyFields : List Fld :=
  [F.MB_HO_P0_P0, F.MB_HO_T0_SEC, F.MB_HO_T0_IDX, F.MB_HO_T0_SRC, F.MB_ALLOW_ACC_ACC, F.MB_STAT_ALLOW_N, F.MB_EVT_ALLOW] ++
    (List.range 16).map F.MB_REF_BOUND_BOUND

/-- Only those fields change, the allowances stay a bound, and time and the checkpoint's P0 stay. -/
structure EarlyStep (s t : State) : Prop where
  get : ∀ f : Fld, f.spared → f.key ∉ earlyFields.map Fld.key → t.get f = s.get f
  allow : s.get F.MB_ALLOW_ACC_ACC < 2 ^ 48 → t.get F.MB_ALLOW_ACC_ACC < 2 ^ 48
  now : t.now = s.now
  ckptP0 : t.mb.ckptP0 = s.mb.ckptP0

theorem EarlyStep.refl (s : State) : EarlyStep s s := ⟨fun _ _ _ => rfl, id, rfl, rfl⟩

theorem EarlyStep.trans (h : EarlyStep s t) (g : EarlyStep t u) : EarlyStep s u :=
  ⟨fun f hf hk => (g.get f hf hk).trans (h.get f hf hk), g.allow ∘ h.allow, g.now.trans h.now, g.ckptP0.trans h.ckptP0⟩

/-- An update of Moraine's hidden state that keeps the checkpoint's P0. -/
theorem EarlyStep.withMb (h : EarlyStep s t) (mb : MbPart) (hp : mb.ckptP0 = t.mb.ckptP0) : EarlyStep s { t with mb := mb } :=
  h.trans ⟨fun _ _ _ => rfl, id, rfl, hp⟩

theorem EarlyStep.put (h : EarlyStep s t) (g : Fld) (v : Nat) (hg : g.key ∈ earlyFields.map Fld.key)
    (ha : g = F.MB_ALLOW_ACC_ACC ∨ F.MB_ALLOW_ACC_ACC.key ≠ g.key) : EarlyStep s (t.put g v) := by
  refine h.trans ⟨fun f _ hk => State.get_put_other _ _ _ _ (fun e => hk (e ▸ hg)), fun hlt => ?_, rfl, rfl⟩
  obtain rfl | hne := ha
  · rw [State.get_put_same]
    exact Nat.mod_lt _ (Nat.two_pow_pos _)
  · rwa [State.get_put_other _ _ _ _ hne]

theorem earlyStep_forAll {α : Type} (l : List α) (f : State → α → State) (h : ∀ t, ∀ x ∈ l, EarlyStep t (f t x)) (s : State) :
    EarlyStep s (s.forAll l f) := by
  induction l generalizing s with
  | nil => exact EarlyStep.refl s
  | cons x l ih => exact (h s x List.mem_cons_self).trans (ih (fun t y hy => h t y (List.mem_cons_of_mem _ hy)) (f s x))

theorem earlyStep_loadP0 (s : State) (p0 p : Nat) : EarlyStep s (s.loadP0 p0 p) := by
  have h := ((((EarlyStep.refl s).put F.MB_HO_P0_P0 p0 (by decide) (by decide)).put F.MB_HO_T0_SEC (p / 16) (by decide) (by decide)).put
    F.MB_HO_T0_IDX (p % 16) (by decide) (by decide)).put F.MB_HO_T0_SRC (s.get F.TB_STAT_ACT) (by decide) (by decide)
  exact h.withMb _ rfl

theorem earlyStep_orphanRestart (s : State) : EarlyStep s s.orphanRestart := by
  unfold State.orphanRestart
  split
  · split
    · exact (earlyStep_loadP0 s _ _).withMb _ rfl
    · exact EarlyStep.refl s
  · exact EarlyStep.refl s

theorem earlyStep_widenF (s : State) (st : Nat) : EarlyStep s (s.widenF st) := by
  unfold State.widenF
  split
  · exact (EarlyStep.refl s).withMb _ rfl
  · exact EarlyStep.refl s

theorem earlyStep_loadHold (s : State) (st : Nat) : EarlyStep s (s.loadHold st) := by
  unfold State.loadHold
  refine EarlyStep.withMb ?_ _ rfl
  split
  · exact earlyStep_loadP0 s _ _
  · split
    · exact EarlyStep.refl s
    · split
      · exact (earlyStep_loadP0 s _ _).put F.MB_HO_T0_SRC 0 (by decide) (by decide)
      · split
        · exact earlyStep_loadP0 s _ _
        · split
          · exact earlyStep_loadP0 s _ _
          · split
            · exact (earlyStep_loadP0 s _ _).trans (earlyStep_widenF _ _)
            · exact EarlyStep.refl s

theorem earlyStep_event (s : State) (code inst arg : Nat) : EarlyStep s (s.event F.MB_EVT_ALLOW code inst arg) :=
  ⟨fun f hf hk => get_event_spared hf s _ _ _ _ (fun e => hk (e ▸ by decide)),
    fun ha => (State.event_get_other _ _ _ _ _ _ (by decide) (by decide)).trans_lt ha, State.event_now _ _ _ _ _, by rw [State.event_mb]⟩

/-- An allowance is added, and no other is owed for it. -/
theorem earlyStep_addAllowance (s : State) (a : Allowance) : EarlyStep s (s.addAllowance a) ∧ (s.addAllowance a).mb.owed = s.mb.owed := by
  unfold State.addAllowance
  refine ⟨EarlyStep.withMb ?_ _ rfl, by dsimp only; rw [State.event_mb]; rfl⟩
  exact (((EarlyStep.refl s).put F.MB_ALLOW_ACC_ACC _ (by decide) (by decide)).put F.MB_STAT_ALLOW_N _ (by decide) (by decide)).trans
    (earlyStep_event _ _ _ _)

/-- The allowances owed are added or cleared with the rest, and none stays owed (R158). -/
theorem earlyStep_settleAllowances (s : State) (st : Nat) : EarlyStep s (s.settleAllowances st) ∧ (s.settleAllowances st).mb.owed = [] := by
  have hadd := earlyStep_forAll s.mb.owed State.addAllowance (fun t a _ => (earlyStep_addAllowance t a).1) { s with mb.owed := [] }
  have howed := forAll_inv (fun t => t.mb.owed) s.mb.owed State.addAllowance (fun t a => (earlyStep_addAllowance t a).2) { s with mb.owed := [] }
  have hstart : EarlyStep s { s with mb.owed := [] } := (EarlyStep.refl s).withMb _ rfl
  unfold State.settleAllowances
  dsimp only
  generalize State.forAll _ s.mb.owed State.addAllowance = t at *
  have h := hstart.trans hadd
  split
  · split
    · split
      · exact ⟨(h.put F.MB_ALLOW_ACC_ACC 0 (by decide) (by decide)).put F.MB_STAT_ALLOW_N 0 (by decide) (by decide), howed⟩
      · exact ⟨h, howed⟩
    · exact ⟨h, howed⟩
  · exact ⟨h, howed⟩

/-- The state in which a publication forms its terms: publish_eq ties it to State.publish. -/
def State.beforeTerms (s : State) : State :=
  ((s.orphanRestart.loadHold s.mbStateNow).settleAllowances s.mbStateNow).forAll (List.range 16)
    (fun t n => t.put (F.MB_REF_BOUND_BOUND n) (t.slotBound n))

theorem refBound_mem {n : Nat} (hn : n ∈ List.range 16) : (F.MB_REF_BOUND_BOUND n).key ∈ earlyFields.map Fld.key :=
  List.mem_map_of_mem (List.mem_append_right _ (List.mem_map_of_mem hn))

theorem earlyStep_slotBounds (s : State) :
    EarlyStep s (s.forAll (List.range 16) fun t n => t.put (F.MB_REF_BOUND_BOUND n) (t.slotBound n)) := by
  refine earlyStep_forAll _ _ (fun t n hn => (EarlyStep.refl t).put _ _ (refBound_mem hn) (.inr ?_)) s
  simp only [F.MB_ALLOW_ACC_ACC, F.MB_REF_BOUND_BOUND, Fld.key]
  omega

theorem beforeTerms_step (s : State) : EarlyStep s s.beforeTerms ∧ s.beforeTerms.mb.owed = [] := by
  have hload := (earlyStep_orphanRestart s).trans (earlyStep_loadHold s.orphanRestart s.mbStateNow)
  obtain ⟨hallow, howed⟩ := earlyStep_settleAllowances (s.orphanRestart.loadHold s.mbStateNow) s.mbStateNow
  unfold State.beforeTerms
  generalize (s.orphanRestart.loadHold s.mbStateNow).settleAllowances s.mbStateNow = t at *
  exact ⟨(hload.trans hallow).trans (earlyStep_slotBounds t),
    (forAll_inv (fun t => t.mb.owed) (List.range 16) (fun t n => t.put (F.MB_REF_BOUND_BOUND n) (t.slotBound n)) (fun _ _ => rfl) t).trans howed⟩

/-! ## What the terms are formed from -/

/-- Where the early fields stand. -/
theorem key_earlyFields : ∀ k ∈ earlyFields.map Fld.key, 0x060018 * 64 ≤ k ∧ k < 0x0600A8 * 64 ∨ 0x061008 * 64 ≤ k ∧ k < 0x061100 * 64 := by
  decide

/-- TIME_SET of any core, whatever its number, is none of them, and no event tallies it. -/
theorem timeSet_early (k : Nat) : (F.TK_STAT_TIME_SET k).spared ∧ (F.TK_STAT_TIME_SET k).key ∉ earlyFields.map Fld.key := by
  have hkey : (F.TK_STAT_TIME_SET k).key = (0x050100 + k * 0x8000) * 64 + 4 := rfl
  refine ⟨.inr (by rw [hkey]; omega), fun hm => ?_⟩
  have := key_earlyFields _ hm
  rw [hkey] at this
  omega

theorem excess_early {n : Nat} (h : n < 16) :
    (F.RS_REF_EXCESS_EXCESS n).tallied = false ∧ (F.RS_REF_EXCESS_EXCESS n).key ∉ earlyFields.map Fld.key := by
  have hkey : (F.RS_REF_EXCESS_EXCESS n).key = (0x041030 + n * 0x100) * 64 := rfl
  refine ⟨tallied_of_window (by omega), fun hm => ?_⟩
  have := key_earlyFields _ hm
  rw [hkey] at this
  omega

/-- A field outside the early ones that no event tallies reads as before. -/
theorem EarlyStep.read (h : EarlyStep s t) (f : Fld) (hf : f.tallied = false) (hk : f.key ∉ earlyFields.map Fld.key) : t.get f = s.get f :=
  h.get f (.inl hf) hk

theorem EarlyStep.core (h : EarlyStep s t) : t.core = s.core := h.read _ (by decide) (by decide)

/-- What decides whether the bound is published as unbounded is as it was (R120, R157). -/
theorem publishedBound_early (h : EarlyStep s t) (st : Nat) (terms : List Nat) : t.publishedBound st terms =
    if !s.on (F.TK_STAT_TIME_SET s.core) || (s.on F.MB_STAT_UNB && st != 0 && s.mb.ckptP0.isNone) then unbounded else boundSum terms := by
  obtain ⟨hf, hk⟩ := timeSet_early s.core
  unfold State.publishedBound State.on
  rw [h.core, h.get _ hf hk, h.read F.MB_STAT_UNB (by decide) (by decide), h.ckptP0]

theorem publishedBound_le (s : State) (st : Nat) (terms : List Nat) : s.publishedBound st terms ≤ unbounded := by
  unfold State.publishedBound
  split
  · exact le_refl _
  · exact boundSum_le _

end Sys2Proof.Machine
end

section
/-! PROOF. Publication (O12): the terms are bounds, and their registers hold them (R28, R150, R152). -/
namespace Sys2Proof.Machine

variable {s t u : State} {fs : List Fld}

/-! ## The terms are bounds (R28) -/

theorem boundSum_lt (l : List Nat) : boundSum l < 2 ^ 48 := lt_of_le_of_lt (boundSum_le l) (by decide)

theorem boundSat_lt (x : Nat) : boundSat x < 2 ^ 48 := lt_of_le_of_lt (min_le_right _ _) (by decide)

theorem holdTerm_lt (s : State) (st : Nat) (slot : Option Nat) : s.holdTerm st slot < 2 ^ 48 := by
  unfold State.holdTerm
  split
  · exact Nat.two_pow_pos _
  · unfold State.freqGrowth
    dsimp only
    split
    · decide
    · exact boundSum_lt _
  · exact boundSum_lt _

/-- Within 10 ms of coasting the term is at most 200,000 ps (R159). -/
theorem coastTerm_lt (s : State) (st : Nat) : s.coastTerm st < 2 ^ 48 := by
  unfold State.coastTerm
  split
  · exact Nat.two_pow_pos _
  · split
    · dsimp only
      split
      · decide
      · next h =>
        simp only [tuMs, Nat.not_lt] at h
        simp only [ceilDiv]
        omega
    · decide

/-- Every term of a publication is a bound, where the registers it takes from are. -/
theorem terms_lt {st : Nat} (ha : s.get F.MB_ALLOW_ACC_ACC < 2 ^ 48) (he : s.get (F.RS_REF_EXCESS_EXCESS (s.get F.RS_STAT_ACTIVE)) < 2 ^ 48)
    (hc : s.get F.RS_CONTEST_DISAG < 2 ^ 48) : ∀ x ∈ s.terms st, x < 2 ^ 48 := by
  have hsat (x : Nat) : (if st = 0 then boundSat x else 0) < 2 ^ 48 := by
    split
    · exact boundSat_lt x
    · exact Nat.two_pow_pos _
  have hexcess : (if st = 2 then 0 else s.get (F.RS_REF_EXCESS_EXCESS (s.get F.RS_STAT_ACTIVE))) < 2 ^ 48 := by
    split
    · exact Nat.two_pow_pos _
    · exact he
  have hcontest : s.contestTerm < 2 ^ 48 := by
    unfold State.contestTerm
    split
    · exact hc
    · exact Nat.two_pow_pos _
  unfold State.terms
  simp only [List.forall_mem_cons, List.not_mem_nil, false_implies, implies_true, and_true]
  exact ⟨hsat _, hsat _, hsat _, holdTerm_lt _ _ _, ha, hexcess, hcontest, coastTerm_lt _ _⟩

theorem terms_lt_early (h : EarlyStep s t) (st : Nat) (hact : s.get F.RS_STAT_ACTIVE < 16)
    (hregs : ∀ f ∈ [F.MB_ALLOW_ACC_ACC, F.RS_CONTEST_DISAG, F.RS_REF_EXCESS_EXCESS (s.get F.RS_STAT_ACTIVE)], s.get f < 2 ^ 48) :
    ∀ x ∈ t.terms st, x < 2 ^ 48 := by
  simp only [List.forall_mem_cons, List.not_mem_nil, false_implies, implies_true, and_true] at hregs
  obtain ⟨hallow, hdisag, hexcess⟩ := hregs
  obtain ⟨hf, hk⟩ := excess_early hact
  refine terms_lt (h.allow hallow) ?_ ?_
  · rwa [h.read F.RS_STAT_ACTIVE (by decide) (by decide), h.read _ hf hk]
  · rwa [h.read F.RS_CONTEST_DISAG (by decide) (by decide)]

/-! ## The registers of a publication -/

/-- The fields that follow a publication: UNB and the map, with their events, and the trace record's flag. -/
def followFields : List Fld := [F.MB_STAT_UNB, F.MB_EVT_UNB, F.MB_EVT_BOUNDED, F.MB_STAT_MAP, F.MB_EVT_MAP, F.MB_EVT_TRACE]

/-- The registers of the terms, in their order. -/
def termFields : List Fld :=
  [F.MB_COMP_REF_REF, F.MB_COMP_MEAS_MEAS, F.MB_COMP_TRACK_TRACK, F.MB_COMP_HOLD_HOLD, F.MB_COMP_ALLOW_ALLOW, F.MB_COMP_EXCESS_EXCESS,
    F.MB_COMP_CONTEST_CONTEST, F.MB_COMP_COAST_COAST]

theorem termFields_moraine : ∀ f ∈ termFields, f.key / 4194304 = 0x06 ∧ f.key ∉ followFields.map Fld.key := by decide

theorem putTerms_mb (s : State) (st bound : Nat) (terms : List Nat) : (s.putTerms st bound terms).mb = s.mb := by
  unfold State.putTerms
  dsimp only
  rw [State.put_mb, State.put_mb, State.put_mb, State.put_mb, State.put_mb, State.put_mb, State.put_mb, State.put_mb, State.put_mb,
    State.put_mb, State.put_mb, State.put_mb, State.put_mb, State.put_mb, State.put_mb]

/-- Bounds fit the registers of the terms. -/
theorem map_getD_eq {l : List Nat} (h8 : l.length = 8) (hlt : ∀ x ∈ l, x < 2 ^ 48) :
    (List.range 8).map (fun i => l.getD i 0 % 2 ^ 48) = l := by
  refine List.ext_getElem (by simp [h8]) fun i hi hl => ?_
  rw [List.getElem_map, List.getElem_range, List.getD_eq_getElem _ _ hl, Nat.mod_eq_of_lt (hlt _ (List.getElem_mem hl))]

/-- A publication puts the terms, the bound, the schedule point and the state into their registers (R150). -/
theorem putTerms_get (s : State) (st bound : Nat) (terms : List Nat) :
    termFields.map (s.putTerms st bound terms).get = (List.range 8).map (fun i => terms.getD i 0 % 2 ^ 48) ∧
    (s.putTerms st bound terms).get F.MB_BOUND_BOUND = bound % 2 ^ 48 ∧
    (s.putTerms st bound terms).get F.MB_PUB_SEC_SEC = s.point / 16 % 2 ^ 48 ∧
    (s.putTerms st bound terms).get F.MB_PUB_NSF_NSF = s.point % 16 * 62500000 * 2 ^ 32 ∧
    (s.putTerms st bound terms).get F.MB_STAT_STATE = st % 4 ∧ (s.putTerms st bound terms).get F.MB_STAT_STALE = 0 ∧
    (s.putTerms st bound terms).get F.MB_STAT_SEQ = (s.get F.MB_STAT_SEQ + 1) % 2 ^ 32 := by
  unfold State.putTerms
  dsimp only
  generalize (if bound = unbounded then unbounded else _) = sigma
  generalize s.get F.MB_STAT_SEQ + 1 = seq
  generalize s.point = p
  refine ⟨?_, ?_, ?_, ?_, ?_, ?_, ?_⟩
  · simp (disch := decide) only [termFields, List.map_cons, List.map_nil, State.get_put_other, State.get_put_same]
    rfl
  · simp (disch := decide) only [State.get_put_other, State.get_put_same]
    rfl
  · simp (disch := decide) only [State.get_put_other, State.get_put_same]
    rfl
  · simp (disch := decide) only [State.get_put_other, State.get_put_same, F.MB_PUB_NSF_NSF]
    omega
  · simp (disch := decide) only [State.get_put_other, State.get_put_same]
    rfl
  · simp (disch := decide) only [State.get_put_other, State.get_put_same]
    rfl
  · simp (disch := decide) only [State.get_put_same]
    rfl

end Sys2Proof.Machine
end

section
/-! PROOF. Publication (O12): what follows in UNB, the map, the trace and the ESMC PDUs leaves the published registers alone (R151, R164, R168, R277). -/
namespace Sys2Proof.Machine

variable {s t u : State} {fs : List Fld}

/-! ## What a publication does once its registers stand -/

theorem keeps_setMap (s : State) (e : Nat) : Keeps s (s.setMap e) [F.MB_STAT_MAP, F.MB_EVT_MAP] ∧ (s.setMap e).mb = s.mb := by
  unfold State.setMap
  dsimp only
  split
  · exact ⟨Keeps.refl s _, rfl⟩
  · exact ⟨((Keeps.refl s _).put _ _ (by simp)).event _ _ _ _ (by simp), by rw [State.event_mb, State.put_mb]⟩

/-- A later map entry takes effect, 0xF standing for none (R164). -/
theorem setMap_shows {e : Nat} (he : e ≤ 8) (hne : e ≠ s.mapEntry) : (s.setMap e).mapEntry = e ∧ (s.setMap e).get F.MB_EVT_MAP = 1 := by
  unfold State.setMap
  dsimp only
  rw [if_neg hne]
  refine ⟨?_, State.event_flag _ F.MB_EVT_MAP _ _ _ (by decide) (by decide)⟩
  unfold State.mapEntry
  rw [State.event_get_other _ F.MB_EVT_MAP F.MB_STAT_MAP _ _ _ (by decide) (by decide), State.get_put_same]
  simp only [F.MB_STAT_MAP]
  split <;> omega

theorem keeps_showUnb (s : State) (bound : Nat) : Keeps s (s.showUnb bound) [F.MB_STAT_UNB, F.MB_EVT_UNB, F.MB_EVT_BOUNDED] ∧
    (s.showUnb bound).mb = s.mb ∧ (s.showUnb bound).get F.MB_STAT_UNB = if bound == unbounded then 1 else 0 := by
  have hput : (s.putB F.MB_STAT_UNB (bound == unbounded)).get F.MB_STAT_UNB = if bound == unbounded then 1 else 0 := by
    rw [State.putB, State.get_put_same]
    split <;> rfl
  have hkeep := (Keeps.refl s [F.MB_STAT_UNB, F.MB_EVT_UNB, F.MB_EVT_BOUNDED]).putB F.MB_STAT_UNB (bound == unbounded) (by simp)
  have hevent (f : Fld) (code : Nat) (hf : f.key ∈ [F.MB_EVT_UNB.key, F.MB_EVT_BOUNDED.key]) :
      Keeps s ((s.putB F.MB_STAT_UNB (bound == unbounded)).event f code 0 0) [F.MB_STAT_UNB, F.MB_EVT_UNB, F.MB_EVT_BOUNDED] ∧
        ((s.putB F.MB_STAT_UNB (bound == unbounded)).event f code 0 0).mb = s.mb ∧
        ((s.putB F.MB_STAT_UNB (bound == unbounded)).event f code 0 0).get F.MB_STAT_UNB = if bound == unbounded then 1 else 0 := by
    refine ⟨hkeep.event _ _ _ _ (List.mem_cons_of_mem _ hf), State.event_mb _ _ _ _ _, (State.event_get_other _ _ _ _ _ _ ?_ (by decide)).trans hput⟩
    intro e
    rw [← e] at hf
    exact absurd hf (by decide)
  unfold State.showUnb
  dsimp only
  split
  · exact hevent _ _ (by simp)
  · cases !(bound == unbounded) && s.on F.MB_STAT_UNB
    · exact ⟨hkeep, rfl, hput⟩
    · exact hevent _ _ (by simp)

theorem keeps_mapPublished (s : State) (st bound : Nat) : Keeps s (s.mapPublished st bound) [F.MB_STAT_MAP, F.MB_EVT_MAP] ∧
    (s.mapPublished st bound).mb.owed = s.mb.owed := by
  have hset (mb : MbPart) (e : Nat) (ho : mb.owed = s.mb.owed) :
      Keeps s (({ s with mb := mb } : State).setMap e) [F.MB_STAT_MAP, F.MB_EVT_MAP] ∧ (({ s with mb := mb } : State).setMap e).mb.owed = s.mb.owed := by
    obtain ⟨hkeep, hmb⟩ := keeps_setMap { s with mb := mb } e
    exact ⟨(Keeps.ofCells rfl).trans hkeep, by rw [hmb]; exact ho⟩
  unfold State.mapPublished
  dsimp only
  split
  · exact hset _ _ rfl
  · split
    · exact hset _ _ rfl
    · exact ⟨Keeps.ofCells rfl, rfl⟩

theorem keeps_traceRecord (s : State) : Keeps s s.traceRecord [F.MB_EVT_TRACE] ∧ s.traceRecord.mb = s.mb :=
  ⟨(Keeps.refl s _).event _ _ _ _ (by simp), State.event_mb _ _ _ _ _⟩

/-- UNB, the map and the trace record of a publication. -/
def State.follows (s : State) (st bound : Nat) (moved : Bool) : State := ((s.showUnb bound).mapPublished st bound).when moved State.traceRecord

theorem follows_keeps (s : State) (st bound : Nat) (moved : Bool) : Keeps s (s.follows st bound moved) followFields ∧
    (s.follows st bound moved).mb.owed = s.mb.owed ∧ (s.follows st bound moved).get F.MB_STAT_UNB = if bound == unbounded then 1 else 0 := by
  obtain ⟨hunb, hunbMb, hunbGet⟩ := keeps_showUnb s bound
  obtain ⟨hmap, hmapMb⟩ := keeps_mapPublished (s.showUnb bound) st bound
  unfold State.follows
  generalize (s.showUnb bound).mapPublished st bound = t at *
  have htrace : Keeps t (t.when moved State.traceRecord) [F.MB_EVT_TRACE] := (Keeps.refl t _).when _ _ fun _ => (keeps_traceRecord t).1
  have htraceMb : (t.when moved State.traceRecord).mb = t.mb := when_inv State.mb _ _ (keeps_traceRecord t).2
  have hmapGet : t.get F.MB_STAT_UNB = (s.showUnb bound).get F.MB_STAT_UNB := hmap.get _ (by decide) (by decide)
  refine ⟨((hunb.mono (by decide)).trans (hmap.mono (by decide))).trans (htrace.mono (by decide)), ?_, ?_⟩
  · rw [htraceMb, hmapMb, hunbMb]
  · rw [htrace.get _ (by decide) (by decide), hmapGet, hunbGet]

/-- A publication forms its terms, puts its registers, and lets the rest follow. -/
theorem publish_eq (s : State) : ∃ (moved : Bool) (mb : MbPart),
    let terms := s.beforeTerms.terms s.mbStateNow
    let bound := s.beforeTerms.publishedBound s.mbStateNow terms
    let t := (s.beforeTerms.putTerms s.mbStateNow bound terms).follows s.mbStateNow bound moved
    s.publish = { t with mb := mb } ∧ mb.owed = t.mb.owed := ⟨_, _, rfl, rfl⟩

/-! ## ESMC PDUs of a change of QL -/

/-- The fields that queueing a frame on a lane may write. -/
def lineFields : List Fld :=
  F.LN_LANE_STAT_LPI_TX 5 :: [0, 1, 2, 3, 5].flatMap fun p => [F.MAC_PORT_TX_OVERSIZE_N p, F.MAC_PORT_EVT_TX_OVERSIZE p]

theorem lineFields_mem {p : Nat} (hp : p ∈ [0, 1, 2, 3, 5]) :
    (F.MAC_PORT_TX_OVERSIZE_N p).key ∈ lineFields.map Fld.key ∧ (F.MAC_PORT_EVT_TX_OVERSIZE p).key ∈ lineFields.map Fld.key :=
  ⟨List.mem_map_of_mem (List.mem_cons_of_mem _ (List.mem_flatMap_of_mem hp (by simp))),
    List.mem_map_of_mem (List.mem_cons_of_mem _ (List.mem_flatMap_of_mem hp (by simp)))⟩

theorem keeps_wakeLpi (s : State) : Keeps s s.wakeLpi lineFields ∧ s.wakeLpi.mb = s.mb := by
  unfold State.wakeLpi
  refine ⟨(Keeps.refl s _).when _ _ fun _ => ?_, when_inv State.mb _ _ rfl⟩
  exact ((Keeps.refl s _).put (F.LN_LANE_STAT_LPI_TX 5) 0 (by decide)).next rfl

theorem keeps_queueNa (s : State) {p : Nat} (hp : p ∈ [0, 1, 2, 3, 5]) (m : Msg) :
    Keeps s (s.queueNa p m) lineFields ∧ (s.queueNa p m).mb = s.mb := by
  obtain ⟨hcount, hflag⟩ := lineFields_mem hp
  have hc := (Keeps.refl s lineFields).count (F.MAC_PORT_TX_OVERSIZE_N p) 1 hcount
  unfold State.queueNa
  split
  · unfold State.eventOnce
    split
    · exact ⟨hc, rfl⟩
    · exact ⟨hc.event _ _ _ _ hflag, by rw [State.event_mb]; rfl⟩
  · refine ⟨Keeps.when ?_ _ _ fun _ => (keeps_wakeLpi _).1, when_inv State.mb _ _ (keeps_wakeLpi _).2⟩
    exact Keeps.ofCells rfl

theorem keeps_sendEsmc (s : State) {p : Nat} (hp : p ∈ [0, 1, 2, 3, 5]) (event : Bool) :
    Keeps s (s.sendEsmc p event) lineFields ∧ (s.sendEsmc p event).mb = s.mb := by
  unfold State.sendEsmc
  refine ⟨Keeps.when ?_ _ _ fun _ => (keeps_queueNa _ hp _).1, when_inv State.mb _ _ (keeps_queueNa _ hp _).2⟩
  exact Keeps.ofCells rfl

/-- PDUs sent at once leave every block's registers but those of the lines alone, and Moraine altogether. -/
theorem keeps_esmcChanges (s : State) : Keeps s s.esmcChanges lineFields ∧ s.esmcChanges.mb = s.mb :=
  ⟨(Keeps.refl s _).forAll _ _ fun t _ hp => (Keeps.refl t _).when _ _ fun _ => (keeps_sendEsmc t hp true).1,
    forAll_keeps State.mb _ _ (fun t _ hp => when_inv State.mb _ _ (keeps_sendEsmc t hp true).2) s⟩

/-- No register of Moraine is one of the lines'. -/
theorem moraine_esmcChanges (s : State) {f : Fld} (hf : f.key / 4194304 = 0x06) : s.esmcChanges.get f = s.get f := by
  have hlines : ∀ k ∈ lineFields.map Fld.key, k / 4194304 ≠ 0x06 := by decide
  exact (keeps_esmcChanges s).1.get f (fun hm => hlines _ hm hf) (tallied_of_window (by omega))

end Sys2Proof.Machine
end

section
/-! PROOF. Publication (O12): the clauses for a publication, a missed and a stale one, and a reference's calibration (R150 to R168). -/
namespace Sys2Proof.Machine

variable {s t u : State} {fs : List Fld}

/-! ## A publication, and a missed one -/

/-- A register of Moraine that does not follow the publication is read as published. -/
theorem published_get (s : State) : ∃ terms bound, terms = s.beforeTerms.terms s.mbStateNow ∧
    bound = s.beforeTerms.publishedBound s.mbStateNow terms ∧
    (∀ f : Fld, f.key / 4194304 = 0x06 → f.key ∉ followFields.map Fld.key →
      s.publish.esmcChanges.settle.get f = (s.beforeTerms.putTerms s.mbStateNow bound terms).get f) ∧
    s.publish.esmcChanges.settle.get F.MB_STAT_UNB = (if bound == unbounded then 1 else 0) ∧ s.publish.esmcChanges.settle.mb.owed = [] := by
  obtain ⟨moved, mb, hpub, howed⟩ := publish_eq s
  refine ⟨_, _, rfl, rfl, ?_⟩
  generalize s.beforeTerms.publishedBound s.mbStateNow (s.beforeTerms.terms s.mbStateNow) = bound at *
  have hput : (s.beforeTerms.putTerms s.mbStateNow bound (s.beforeTerms.terms s.mbStateNow)).mb.owed = [] := by
    rw [putTerms_mb]
    exact (beforeTerms_step s).2
  generalize s.beforeTerms.putTerms s.mbStateNow bound (s.beforeTerms.terms s.mbStateNow) = u at *
  obtain ⟨hkeep, hfollow, hunb⟩ := follows_keeps u s.mbStateNow bound moved
  have hread (f : Fld) (hf : f.key / 4194304 = 0x06) :
      s.publish.esmcChanges.settle.get f = (u.follows s.mbStateNow bound moved).get f := by
    rw [State.settle_get, moraine_esmcChanges _ hf, hpub]
    exact get_ofCells rfl f
  refine ⟨fun f hf hk => (hread f hf).trans (hkeep.get f hk (tallied_of_window (by omega))), (hread _ (by decide)).trans hunb, ?_⟩
  rw [State.settle_mb, (keeps_esmcChanges _).2, hpub]
  exact howed.trans (hfollow.trans hput)

theorem does_mbPublication (hp : s.power = .run) : Does .mbPublication s fun t => t.get F.MB_STAT_STALE = 0 ∧
    t.get F.MB_STAT_SEQ = (s.get F.MB_STAT_SEQ + 1) % 2 ^ 32 ∧ t.get F.MB_PUB_SEC_SEC = s.point / 16 % 2 ^ 48 ∧
    t.get F.MB_PUB_NSF_NSF = s.point % 16 * 62500000 * 2 ^ 32 ∧ t.get F.MB_STAT_STATE = s.mbStateNow % 4 ∧ t.get F.MB_BOUND_BOUND ≤ unbounded ∧
    t.on F.MB_STAT_UNB = (t.get F.MB_BOUND_BOUND == unbounded) ∧ t.mb.owed = [] ∧
    (s.on (F.TK_STAT_TIME_SET s.core) = false → t.get F.MB_BOUND_BOUND = unbounded) ∧
    (s.on F.MB_STAT_UNB = true → s.mbStateNow ≠ 0 → s.mb.ckptP0 = none → t.get F.MB_BOUND_BOUND = unbounded) ∧
    (s.on (F.TK_STAT_TIME_SET s.core) = true → s.on F.MB_STAT_UNB = false ∨ s.mbStateNow = 0 ∨ s.mb.ckptP0.isSome = true →
      s.get F.RS_STAT_ACTIVE < 16 →
      (∀ f ∈ [F.MB_ALLOW_ACC_ACC, F.RS_CONTEST_DISAG, F.RS_REF_EXCESS_EXCESS (s.get F.RS_STAT_ACTIVE)], s.get f < 2 ^ 48) →
      t.get F.MB_BOUND_BOUND = boundSum (termFields.map t.get)) := by
  obtain ⟨hearly, _⟩ := beforeTerms_step s
  obtain ⟨terms, bound, hterms, hbound, hread, hunb, howed⟩ := published_get s
  have hpoint : s.beforeTerms.point = s.point := by rw [State.point, State.point, hearly.now]
  obtain ⟨hcomps, hboundReg, hsec, hnsf, hstate, hstale, hseq⟩ := putTerms_get s.beforeTerms s.mbStateNow bound terms
  rw [hpoint] at hsec hnsf
  rw [hearly.read F.MB_STAT_SEQ (by decide) (by decide)] at hseq
  have hle : bound ≤ unbounded := hbound ▸ publishedBound_le _ _ _
  have hval : s.publish.esmcChanges.settle.get F.MB_BOUND_BOUND = bound := by
    rw [hread _ (by decide) (by decide), hboundReg]
    exact Nat.mod_eq_of_lt (lt_of_le_of_lt hle (by decide))
  rw [publishedBound_early hearly] at hbound
  refine does_running (f := fun s => s.publish.esmcChanges) rfl hp ⟨(hread _ (by decide) (by decide)).trans hstale,
    (hread _ (by decide) (by decide)).trans hseq, (hread _ (by decide) (by decide)).trans hsec, (hread _ (by decide) (by decide)).trans hnsf,
    (hread _ (by decide) (by decide)).trans hstate, hval ▸ hle, ?_, howed, fun hset => ?_, fun hon hst hp0 => ?_, fun hset hunbd hact hregs => ?_⟩
  · rw [State.on, hunb, hval]
    cases bound == unbounded <;> rfl
  · rw [hval, hbound, hset]
    rfl
  · rw [hval, hbound, if_pos (by simp [hon, hst, hp0])]
  · have hsum : bound = boundSum terms := by
      rw [hbound, if_neg]
      obtain h | h | h := hunbd <;> simp [hset, h]
      simp [Option.isSome_iff_ne_none.mp h]
    have hmap : termFields.map s.publish.esmcChanges.settle.get = terms := by
      rw [List.map_congr_left (fun f hf => hread f (termFields_moraine f hf).1 (termFields_moraine f hf).2), hcomps]
      exact map_getD_eq (hterms ▸ rfl) (hterms ▸ terms_lt_early hearly s.mbStateNow hact hregs)
    rw [hval, hsum, hmap]

/-- A missed publication (R160). -/
theorem does_publicationMiss (hp : s.power = .run) : Does .publicationMiss s fun t => t.get F.MB_STAT_STALE = 1 ∧
    t.get F.MB_MISS_PUB_MISS = min (s.get F.MB_MISS_PUB_MISS + 1) (2 ^ 16 - 1) ∧ t.get F.MB_EVT_PUB_MISS = 1 ∧
    Frame s t [F.MB_STAT_STALE, F.MB_MISS_PUB_MISS, F.MB_EVT_PUB_MISS] ∧ Logs s t 0x0410 0x06 0 0 := by
  generalize hu : (s.count F.MB_MISS_PUB_MISS 1).put F.MB_STAT_STALE 1 = u
  have hother (f : Fld) (hf : f.key ≠ F.MB_EVT_PUB_MISS.key) (ht : f.tallied = false) :
      (u.event F.MB_EVT_PUB_MISS 0x0410 0 0).settle.get f = u.get f := (State.settle_get _ f).trans (State.event_get_other u _ f _ _ _ hf ht)
  have hframe : Frame s u [F.MB_STAT_STALE, F.MB_MISS_PUB_MISS, F.MB_EVT_PUB_MISS] :=
    hu ▸ (Frame.count s _ _ (by simp)).trans (Frame.put _ F.MB_STAT_STALE _ (by simp))
  have hstale : u.get F.MB_STAT_STALE = 1 := by rw [← hu, State.get_put_same]; rfl
  have hmiss : u.get F.MB_MISS_PUB_MISS = min (s.get F.MB_MISS_PUB_MISS + 1) (2 ^ 16 - 1) := by
    rw [← hu, State.get_put_other _ _ _ _ (by decide), State.count, State.putSat, State.get_put_same]
    exact Nat.mod_eq_of_lt (lt_of_le_of_lt (min_le_right _ _) (by decide))
  refine does_running (f := fun s => ((s.count F.MB_MISS_PUB_MISS 1).put F.MB_STAT_STALE 1).event F.MB_EVT_PUB_MISS 0x0410 0 0) rfl hp ?_
  rw [hu]
  exact ⟨(hother _ (by decide) (by decide)).trans hstale, (hother _ (by decide) (by decide)).trans hmiss,
    (State.settle_get _ _).trans (State.event_flag _ _ _ _ _ (by decide) (by decide)), (hframe.trans (Frame.event _ _ _ _ _ (by simp))).settled,
    (logs_event hframe.quiet (hu ▸ rfl) _ _ _ _).ofJl (State.settle_jl _)⟩

/-! ## A stale publication (R160, R164) -/

/-- No entry lies beyond "none". -/
theorem mapMatch_le (s : State) (st bound : Nat) : s.mapMatch st bound ≤ 8 := by
  unfold State.mapMatch
  generalize hfind : List.find? _ (List.range 8) = o
  cases o with
  | none => exact le_refl _
  | some k => exact (List.mem_range.mp (List.mem_of_find?_eq_some hfind)).le

/-- While stale, a later entry that the inflated bound matches takes effect, and nothing else of Moraine changes. -/
theorem staleMap_shows (s : State) : let m := s.mapMatch (s.get F.MB_STAT_STATE) (s.boundAt s.now)
    s.staleMap.mb = s.mb ∧ Keeps s s.staleMap [F.MB_STAT_MAP, F.MB_EVT_MAP] ∧
      (s.mapEntry < m → s.staleMap.mapEntry = m ∧ s.staleMap.get F.MB_EVT_MAP = 1) ∧ (m ≤ s.mapEntry → s.staleMap = s) := by
  have hle := mapMatch_le s (s.get F.MB_STAT_STATE) (s.boundAt s.now)
  unfold State.staleMap
  dsimp only
  generalize s.mapMatch (s.get F.MB_STAT_STATE) (s.boundAt s.now) = m at *
  obtain ⟨hkeep, hmb⟩ := keeps_setMap s m
  refine ⟨when_inv State.mb _ _ hmb, (Keeps.refl s _).when _ _ fun _ => hkeep, fun hlt => ?_, fun hge => ?_⟩
  · rw [decide_eq_true hlt, State.when_true]
    exact setMap_shows hle (Nat.ne_of_gt hlt)
  · rw [decide_eq_false (Nat.not_lt.mpr hge), State.when_false]

theorem does_staleReevaluate (hp : s.power = .run) (hs : s.on F.MB_STAT_STALE = true) :
    let m := s.mapMatch (s.get F.MB_STAT_STATE) (s.boundAt s.now)
    Does .staleReevaluate s fun t => t.mb = s.mb ∧ (s.mapEntry < m → t.mapEntry = m ∧ t.get F.MB_EVT_MAP = 1) ∧
      (m ≤ s.mapEntry → t.get F.MB_STAT_MAP = s.get F.MB_STAT_MAP) ∧
      (∀ f : Fld, f.key / 4194304 = 0x06 → f.key ∉ [F.MB_STAT_MAP.key, F.MB_EVT_MAP.key] → t.get f = s.get f) := by
  obtain ⟨hmb, hkeep, hlater, hsame⟩ := staleMap_shows s
  have hread (f : Fld) (hf : f.key / 4194304 = 0x06) : s.staleMap.esmcChanges.settle.get f = s.staleMap.get f :=
    (State.settle_get _ f).trans (moraine_esmcChanges _ hf)
  refine does_running (f := fun s => s.when (s.on F.MB_STAT_STALE) fun s => s.staleMap.esmcChanges) rfl hp ?_
  rw [hs, State.when_true]
  refine ⟨?_, fun hlt => ⟨?_, (hread _ (by decide)).trans (hlater hlt).2⟩, fun hge => ?_,
    fun f hf hk => (hread f hf).trans (hkeep f hk (tallied_of_window (by omega)))⟩
  · rw [State.settle_mb, (keeps_esmcChanges _).2, hmb]
  · rw [State.mapEntry, hread _ (by decide)]
    exact (hlater hlt).1
  · rw [hread _ (by decide), hsame hge]

/-- The event of STALE_MAX is written where the publication is stale, beyond STALE_MAX, and has not had it. -/
def State.expireStale (s : State) : State :=
  s.when (s.on F.MB_STAT_STALE && !s.mb.staleMax && decide (s.staleLimit < s.pubAge s.now)) fun s =>
    { s.event F.MB_EVT_STALE_MAX 0x0419 0 0 with mb.staleMax := true }

theorem exec_staleMaxExpiry (s : State) : exec .staleMaxExpiry s = running s State.expireStale := rfl

/-- A fresh publication is left alone. -/
theorem does_stale_fresh (hp : s.power = .run) (hs : s.on F.MB_STAT_STALE = false) :
    ∀ c ∈ [Instr.staleReevaluate, .staleMaxExpiry], Does c s fun t => Frame s t [] := by
  simp only [List.forall_mem_cons, List.not_mem_nil, false_implies, implies_true, and_true]
  refine ⟨does_running (f := fun s => s.when (s.on F.MB_STAT_STALE) fun s => s.staleMap.esmcChanges) rfl hp ?_,
    does_running (exec_staleMaxExpiry s) hp ?_⟩
  · rw [hs]
    exact Frame.settle s []
  · rw [State.expireStale, hs, Bool.false_and, Bool.false_and]
    exact Frame.settle s []

theorem does_staleMax_writes (hp : s.power = .run) (hs : s.on F.MB_STAT_STALE = true) (hm : s.mb.staleMax = false)
    (hage : s.staleLimit < s.pubAge s.now) : Does .staleMaxExpiry s fun t =>
      Frame { s with mb.staleMax := true } t [F.MB_EVT_STALE_MAX] ∧ t.get F.MB_EVT_STALE_MAX = 1 ∧ Logs s t 0x0419 0x06 0 0 := by
  refine does_running (exec_staleMaxExpiry s) hp ?_
  have hmb : (s.event F.MB_EVT_STALE_MAX 0x0419 0 0).mb = s.mb := State.event_mb _ _ _ _ _
  have hframe := Frame.event (fs := [F.MB_EVT_STALE_MAX]) s F.MB_EVT_STALE_MAX 0x0419 0 0 (by simp)
  have hflag := State.event_flag s F.MB_EVT_STALE_MAX 0x0419 0 0 (by decide) (by decide)
  have hlogs := State.event_logs s F.MB_EVT_STALE_MAX 0x0419 0 0
  simp only [State.expireStale, State.when, hs, hm, hage, decide_true, Bool.not_false, Bool.and_self, if_true, hmb]
  generalize s.event F.MB_EVT_STALE_MAX 0x0419 0 0 = u at *
  exact ⟨(hframe.withMb _).settled, (State.settle_get _ _).trans hflag, hlogs.ofJl (State.settle_jl _)⟩

theorem does_staleMax_idle (hp : s.power = .run) (h : s.mb.staleMax = true ∨ s.pubAge s.now ≤ s.staleLimit) :
    Does .staleMaxExpiry s fun t => Frame s t [] := by
  refine does_running (exec_staleMaxExpiry s) hp ?_
  have hoff : (s.on F.MB_STAT_STALE && !s.mb.staleMax && decide (s.staleLimit < s.pubAge s.now)) = false := by
    obtain h | h := h
    · simp [h]
    · simp [Nat.not_lt.mpr h]
  rw [State.expireStale, hoff]
  exact Frame.settle s []

/-! ## Calibrations of the references (R168) -/

/-- The fields of MB_REFn_CAL. -/
def refCalFields (n : Nat) : List Fld := [F.MB_REF_CAL_UNC n, F.MB_REF_CAL_REC_ID n, F.MB_REF_CAL_ST n, F.MB_REF_CAL_ST_EN n]

/-- The register as a write of v leaves it. -/
def State.putRefCal (s : State) (n : Nat) (v : Word) : State := s.forAll (refCalFields n) fun t f => t.put f (f.ofWord v)

theorem writeRefCal_eq (s : State) (n : Nat) (v : Word) :
    s.writeRefCal n v = (s.putRefCal n v).when (s.activeSlot == some n) State.traceRecord := rfl

theorem key_refCal (n : Nat) : (refCalFields n).map Fld.key = [0, 48, 60, 63].map ((0x061000 + n * 0x10) * 64 + ·) := rfl

theorem putRefCal_get (s : State) (n : Nat) (v : Word) : ∀ f ∈ refCalFields n, (s.putRefCal n v).get f = f.ofWord v := by
  have hnd : ((refCalFields n).map Fld.key).Nodup := by
    rw [key_refCal]
    exact List.Nodup.map (add_right_injective _) (by decide)
  exact fun f hf => get_forAll_mem (w := fun _ x => x.ofWord v) (fun t x g h => State.get_put_other t x g _ h)
    (fun t x => (State.get_put_same t x _).trans (ofWord_mod x v)) (fun _ _ _ _ => rfl) _ hnd hf s

theorem Frame.putRefCal (s : State) (n : Nat) (v : Word) : Frame s (s.putRefCal n v) (refCalFields n) :=
  Frame.forAll _ _ (fun t f hf => Frame.put t f _ (.inl (List.mem_map_of_mem hf))) s

theorem putRefCal_jl (s : State) (n : Nat) (v : Word) : (s.putRefCal n v).jl = s.jl := rfl

/-- The trace record's flag is no field of a calibration; those are not tallied. -/
theorem refCal_apart {n : Nat} (hn : n < 16) : ∀ f ∈ refCalFields n, f.key ≠ F.MB_EVT_TRACE.key ∧ f.tallied = false := by
  intro f hf
  have hk : f.key ∈ (refCalFields n).map Fld.key := List.mem_map_of_mem hf
  rw [key_refCal] at hk
  simp only [List.map_cons, List.map_nil, List.mem_cons, List.not_mem_nil, or_false] at hk
  have hevt : F.MB_EVT_TRACE.key = 0x0600A0 * 64 + 3 := rfl
  exact ⟨by omega, tallied_of_window (by omega)⟩

theorem activeSlot_get {n : Nat} (h : s.activeSlot = some n) : s.get F.RS_STAT_ACTIVE = n := by
  unfold State.activeSlot at h
  split at h
  · cases h
  · exact Option.some.inj h

/-- The number of the active slot is no field of a calibration. -/
theorem activeSlot_apart {n : Nat} (hn : n < 16) : F.RS_STAT_ACTIVE.key ∉ (refCalFields n).map Fld.key ∧ F.RS_STAT_ACTIVE.tallied = false := by
  have hkey : F.RS_STAT_ACTIVE.key = 0x040010 * 64 := rfl
  refine ⟨fun hm => ?_, by decide⟩
  rw [key_refCal, hkey] at hm
  simp only [List.map_cons, List.map_nil, List.mem_cons, List.not_mem_nil, or_false] at hm
  omega

/-- The trace record's argument is read from fields that its own event leaves alone. -/
theorem traceArg_eq (hk : Keeps s t [F.MB_EVT_TRACE]) (hact : s.get F.RS_STAT_ACTIVE < 16) : t.traceArg = s.traceArg := by
  have hread (f : Fld) (hf : f.key ≠ F.MB_EVT_TRACE.key) (ht : f.tallied = false) : t.get f = s.get f := hk.get f (by simpa using hf) ht
  have hact' : t.get F.RS_STAT_ACTIVE = s.get F.RS_STAT_ACTIVE := hread _ (by decide) (by decide)
  have htype : t.slotType (s.get F.RS_STAT_ACTIVE) = s.slotType (s.get F.RS_STAT_ACTIVE) := by
    have hkey : (F.RS_REF_CFG_TYPE (s.get F.RS_STAT_ACTIVE)).key = (0x041000 + s.get F.RS_STAT_ACTIVE * 0x100) * 64 + 1 := rfl
    have hevt : F.MB_EVT_TRACE.key = 0x0600A0 * 64 + 3 := rfl
    exact hread _ (by omega) (tallied_of_window (by omega))
  obtain ⟨hne, ht⟩ := refCal_apart hact (F.MB_REF_CAL_REC_ID (s.get F.RS_STAT_ACTIVE)) (by simp [refCalFields])
  unfold State.traceArg
  dsimp only
  rw [hact', htype, hread _ hne ht, hread F.MB_BOUND_BOUND (by decide) (by decide), hread F.RS_STAT_HOLD (by decide) (by decide),
    hread F.MB_STAT_STATE (by decide) (by decide), hread F.MB_STAT_UNB (by decide) (by decide)]

/-- A write of MB_REFn_CAL writes its fields, with a trace record where the slot is active (R168). -/
theorem does_mbRefCalWrite {path : Path} {n : Fin 16} {v : Word} (hp : s.power = .run) (hj : s.judge path (F.MB_REF_CAL_UNC n).off true = .served) :
    Does (.mbRefCalWrite path n v) s fun t => (refCalFields n).map t.get = (refCalFields n).map (fun f => f.ofWord v) ∧
      (s.activeSlot = some n.val → t.get F.MB_EVT_TRACE = 1 ∧ Logs s t 0x0413 0x06 0 t.traceArg ∧ Frame s t (F.MB_EVT_TRACE :: refCalFields n)) ∧
      (s.activeSlot ≠ some n.val → LogsNone s t ∧ Frame s t (refCalFields n)) := by
  refine does_write rfl hp hj ?_
  rw [writeRefCal_eq]
  have hget := putRefCal_get s n v
  have hframe := Frame.putRefCal s n v
  have hjl := putRefCal_jl s n v
  generalize s.putRefCal n v = u at *
  have htrace := (keeps_traceRecord u).1
  have hread (f : Fld) (hf : f ∈ refCalFields n) : (u.when (s.activeSlot == some n.val) State.traceRecord).settle.get f = f.ofWord v := by
    obtain ⟨hne, ht⟩ := refCal_apart n.isLt f hf
    have hkeep := (Keeps.refl u [F.MB_EVT_TRACE]).when (s.activeSlot == some n.val) _ fun _ => htrace
    exact (State.settle_get _ f).trans ((hkeep.get f (by simpa using hne) ht).trans (hget f hf))
  refine ⟨List.map_congr_left hread, fun ha => ?_, fun ha => ?_⟩
  · have hact : u.get F.RS_STAT_ACTIVE = n.val := by
      rw [hframe.get _ (activeSlot_apart n.isLt).1 (activeSlot_apart n.isLt).2]
      exact activeSlot_get ha
    have hb : (s.activeSlot == some n.val) = true := by simpa using ha
    rw [hb, State.when_true]
    have harg : u.traceRecord.settle.traceArg = u.traceArg := traceArg_eq htrace.settle (hact ▸ n.isLt)
    rw [harg]
    exact ⟨(State.settle_get _ _).trans (State.event_flag _ _ _ _ _ (by decide) (by decide)),
      (logs_event hframe.quiet hjl _ _ _ _).ofJl (State.settle_jl _),
      ((hframe.mono (gs := F.MB_EVT_TRACE :: refCalFields n) fun _ hk => List.mem_cons_of_mem _ hk).trans (Frame.event _ _ _ _ _ (by simp))).settled⟩
  · have hb : (s.activeSlot == some n.val) = false := by simpa using ha
    rw [hb, State.when_false]
    exact ⟨congrArg JlPart.queue ((State.settle_jl u).trans hjl), hframe.settled⟩

/-- Settles O12: what a publication reads is as it was before it, what it puts stays, and the other commands act as their own lemmas say. -/
theorem publicationBoundsAreConsistent : Obligations.PublicationBoundsAreConsistent :=
  ⟨fun _ hp => does_mbPublication hp, fun _ hp => does_publicationMiss hp, fun _ hp hs => does_staleReevaluate hp hs,
    fun _ hp hs => does_stale_fresh hp hs, fun _ hp hs => ⟨fun hm hage => does_staleMax_writes hp hs hm hage, fun h => does_staleMax_idle hp h⟩,
    fun _ _ _ _ hp hj => does_mbRefCalWrite hp hj⟩

end Sys2Proof.Machine
end

section
/-! PROOF. Migration of the tick (O2): the request, the shadow's lock, the comparison, the abort and the end (R42, R49, R51, R52, R56). -/
namespace Sys2Proof.Machine

variable {s t : State} {fs : List Fld}

/-- The same timebase part on both sides of a frame. -/
theorem Frame.withTb (h : Frame s t fs) (tb : TbPart) : Frame { s with tb := tb } { t with tb := tb } fs :=
  ⟨h.1, congrArg (fun x : State => { x with tb := tb }) h.2⟩

/-! ## The shadow's lock -/

theorem shadowLock_eq (s : State) : s.shadowLock = F.TB_STAT_TMA_LOCK ∨ s.shadowLock = F.TB_STAT_TMB_LOCK := by
  unfold State.shadowLock
  split
  · exact .inl rfl
  · exact .inr rfl

theorem get_put_shadowLock (s : State) {b : Nat} (hb : b < 2) : (s.put s.shadowLock b).get s.shadowLock = b := by
  have hw : s.shadowLock.width = 1 := by obtain h | h := shadowLock_eq s <;> rw [h] <;> rfl
  rw [State.get_put_same, hw]
  exact Nat.mod_eq_of_lt hb

/-- A field other than both lock bits reads as before. -/
theorem get_put_shadowLock_other (s t : State) (b : Nat) {g : Fld} (ha : g.key ≠ F.TB_STAT_TMA_LOCK.key) (hb : g.key ≠ F.TB_STAT_TMB_LOCK.key) :
    (t.put s.shadowLock b).get g = t.get g := by
  refine State.get_put_other t _ g b ?_
  obtain h | h := shadowLock_eq s <;> rwa [h]

/-! ## The beginning -/

/-- Fields that step 1 of a migration writes. -/
def beginFields : List Fld := [F.TB_STAT_MIG, F.TB_STAT_TMA_LOCK, F.TB_STAT_TMB_LOCK]

theorem shadowLock_mem_begin (s : State) : s.shadowLock.key ∈ beginFields.map Fld.key := by
  obtain h | h := shadowLock_eq s <;> rw [h] <;> decide

/-- Step 1 of a migration from s to src begins in t (R49). -/
def MigrationBegun (s : State) (src : Source) (t : State) : Prop :=
  t.get F.TB_STAT_MIG = 1 ∧ t.tb.migStep = 1 ∧ t.tb.target = src ∧ Keeps s t beginFields

theorem migrationBegun_start (s : State) (src : Source) (forced : Bool) : MigrationBegun s src (s.startMigration src forced) :=
  ⟨(get_put_shadowLock_other s (s.put F.TB_STAT_MIG 1) 0 (by decide) (by decide)).trans (State.get_put_same s _ 1), rfl, rfl,
    (((Keeps.refl s _).put F.TB_STAT_MIG 1 (by decide)).put _ 0 (shadowLock_mem_begin s)).next rfl⟩

/-- Whether it ends a coast or not (R55). -/
theorem migrationBegun_begin (s : State) (src : Source) : MigrationBegun s src (s.beginMigration src) := by
  unfold State.beginMigration
  split
  · obtain ⟨hmig, hstep, htgt, hkeeps⟩ := migrationBegun_start s src true
    exact ⟨hmig, hstep, htgt, hkeeps.next rfl⟩
  · exact migrationBegun_start s src false

theorem MigrationBegun.settle {src : Source} (h : MigrationBegun s src t) : MigrationBegun s src t.settle := by
  obtain ⟨hmig, hstep, htgt, hkeeps⟩ := h
  exact ⟨(State.settle_get t _).trans hmig, by rw [State.settle_tb, hstep], by rw [State.settle_tb, htgt], hkeeps.settle⟩

/-! ## The request -/

/-- A served write of TB_SRC_REQ with GO = 1 requests a migration to TARGET. -/
theorem does_tbSrcReq {path : Path} {v : Word} {P : State → Prop} (hp : s.power = .run)
    (hj : s.judge path F.TB_SRC_REQ_GO.off true = .served) (hgo : F.TB_SRC_REQ_GO.ofWord v = 1)
    (h : P (s.requestMigration (F.TB_SRC_REQ_TARGET.ofWord v)).settle) : Does (.tbSrcReqGo path v) s P := by
  refine does_write rfl hp hj ?_
  rwa [State.writeTbSrcReq, hgo]

theorem requestMigration_rejected {target : Nat} (h : s.requestReason target ≠ 0) :
    s.requestMigration target = s.event F.TB_EVT_REQ_REJ 0x0206 0 (s.requestReason target) := if_pos h

theorem requestMigration_accepted {target : Nat} (h : s.requestReason target = 0) : s.requestMigration target =
    if s.on F.PM_STAT_DIP then { s with tb.waiting := some (Source.ofCode target) } else s.beginMigration (Source.ofCode target) :=
  if_neg (not_not.mpr h)

/-- A rejected request writes its event and no more. -/
theorem rejected_writes {target : Nat} (h : s.requestReason target ≠ 0) :
    Frame s (s.requestMigration target).settle [F.TB_EVT_REQ_REJ] ∧ (s.requestMigration target).settle.get F.TB_EVT_REQ_REJ = 1 ∧
      Logs s (s.requestMigration target).settle 0x0206 0x02 0 (s.requestReason target) := by
  rw [requestMigration_rejected h]
  exact ⟨(Frame.event s _ _ _ _ (by simp)).settled, (State.settle_get _ _).trans (State.event_flag s _ _ _ _ (by decide) (by decide)),
    (State.event_logs s F.TB_EVT_REQ_REJ _ _ _).ofJl (State.settle_jl _)⟩

/-! ## The abort -/

theorem retryCals_jl (s : State) : s.retryCals.jl = s.jl := by
  unfold State.retryCals
  split
  · rfl
  · refine forAll_keeps State.jl _ _ (fun t n _ => ?_) _
    unfold State.queueCal
    split <;> rfl

/-- The migration is given up, and nothing is judged yet of what follows it (R52). -/
def State.giveUp (s : State) : State :=
  { ((s.put F.TB_STAT_MIG 0).put s.shadowLock 0).event F.TB_EVT_MIG_ABORT 0x0203 0 0 with tb.migStep := 0, tb.forced := false }.retryCals

theorem abortMigration_eq (s : State) :
    s.abortMigration = if s.giveUp.tb.coasting then s.giveUp.activeSourceFail (some s.tb.target) else s.giveUp.startOwed := rfl

theorem giveUp_tb (s : State) : s.giveUp.tb = { s.tb with migStep := 0, forced := false } := by
  unfold State.giveUp
  rw [(retryCals_step _).2]
  simp

theorem giveUp_writes (s : State) : s.giveUp.get F.TB_EVT_MIG_ABORT = 1 ∧ s.giveUp.get F.TB_STAT_MIG = 0 ∧
    Keeps s s.giveUp [F.TB_STAT_MIG, s.shadowLock, F.TB_EVT_MIG_ABORT] ∧ Logs s s.giveUp 0x0203 0x02 0 0 := by
  have hkeeps := (((Keeps.refl s [F.TB_STAT_MIG, s.shadowLock, F.TB_EVT_MIG_ABORT]).put F.TB_STAT_MIG 0 (by simp)).put s.shadowLock 0
    (by simp)).event F.TB_EVT_MIG_ABORT 0x0203 0 0 (by simp)
  have hlogs := logs_event (s := s) (u := (s.put F.TB_STAT_MIG 0).put s.shadowLock 0) rfl rfl F.TB_EVT_MIG_ABORT 0x0203 0 0
  have hmig := get_put_shadowLock_other s (s.put F.TB_STAT_MIG 0) 0 (g := F.TB_STAT_MIG) (by decide) (by decide)
  unfold State.giveUp
  generalize (s.put F.TB_STAT_MIG 0).put s.shadowLock 0 = u at *
  have hcells := (retryCals_step { u.event F.TB_EVT_MIG_ABORT 0x0203 0 0 with tb.migStep := 0, tb.forced := false }).1
  refine ⟨?_, ?_, hkeeps.next hcells, hlogs.ofJl (retryCals_jl _)⟩
  · exact (get_ofCells hcells _).trans (State.event_flag u _ _ _ _ (by decide) (by decide))
  · exact (get_ofCells hcells _).trans ((State.event_get_other u _ _ _ _ _ (by decide) (by decide)).trans (hmig.trans (State.get_put_same s _ 0)))

/-- Fields that the failure of a coasting source writes once the migration is given up; MIG_ABORT is none of them. -/
def failFields : List Fld := beginFields ++ [F.TB_STAT_COAST, F.TB_EVT_COAST, F.TB_EVT_SRC_FAIL]

theorem keeps_startMigration (s : State) (src : Source) (forced : Bool) : Keeps s (s.startMigration src forced) failFields := by
  obtain ⟨-, -, -, hkeeps⟩ := migrationBegun_start s src forced
  exact hkeeps.mono (by decide)

theorem keeps_afterSourceFail (s : State) (ex : Option Source) : Keeps s (s.afterSourceFail ex) failFields := by
  unfold State.afterSourceFail
  split
  · next tgt _ _ => exact (keeps_startMigration s tgt true).next rfl
  · exact ((Keeps.refl s _).put F.TB_STAT_COAST 1 (by decide)).event F.TB_EVT_COAST _ _ _ (by decide)

theorem keeps_activeSourceFail (s : State) (ex : Option Source) : Keeps s (s.activeSourceFail ex) failFields := by
  have hevent : Keeps s (s.event F.TB_EVT_SRC_FAIL 0x0201 0 0) failFields := (Keeps.refl s _).event _ _ _ _ (by decide)
  unfold State.activeSourceFail
  exact Keeps.ite (fun _ => hevent.next rfl) fun _ => Keeps.trans (hevent.next rfl) (keeps_afterSourceFail _ ex)

theorem keeps_startOwed (s : State) : Keeps s s.startOwed failFields :=
  (Keeps.refl s _).when _ _ fun _ => keeps_startMigration s _ false

/-- Without a migration owed to PRI, none begins (R48). -/
theorem startOwed_none (h : s.tb.startMig = false) : s.startOwed = s := by
  simp [State.startOwed, State.when, h]

/-- An abort sets MIG_ABORT, whatever follows it. -/
theorem abortMigration_flag (s : State) : s.abortMigration.get F.TB_EVT_MIG_ABORT = 1 := by
  have hkeeps : Keeps s.giveUp s.abortMigration failFields := by
    rw [abortMigration_eq]
    exact Keeps.ite (fun _ => keeps_activeSourceFail _ _) (fun _ => keeps_startOwed _)
  exact (hkeeps.get _ (by decide) (by decide)).trans (giveUp_writes s).1

/-- An abort with the old tick in order and nothing owed only gives the migration up. -/
theorem abortMigration_giveUp (hc : s.tb.coasting = false) (ho : s.tb.startMig = false) : s.abortMigration = s.giveUp := by
  have htb := giveUp_tb s
  rw [abortMigration_eq, htb, if_neg (by simp [hc]), startOwed_none (by rw [htb, ho])]

/-! ## The steps -/

/-- A step's command, sent in its step, has the step's effect. -/
theorem does_step {c : Instr} {n : Nat} {f : State → State} {P : State → Prop} (hc : exec c s = running s fun s => s.when (s.tb.migStep == n) f)
    (hp : s.power = .run) (hs : s.tb.migStep = n) (h : P (f s).settle) : Does c s P := by
  refine does_running hc hp ?_
  rwa [hs, beq_self_eq_true, State.when_true]

theorem does_shadowLockDetected (hp : s.power = .run) (hs : s.tb.migStep = 1) : Does .shadowLockDetected s fun t =>
    t.get s.shadowLock = 1 ∧ Frame { s with tb.migStep := 3, tb.coarse := s.on F.PM_STAT_DIP } t [s.shadowLock] := by
  refine does_step rfl hp hs ⟨?_, ((Frame.put s s.shadowLock 1 (.inl (by simp))).withTb _).settled⟩
  exact (State.settle_get _ _).trans ((get_ofCells rfl _).trans (get_put_shadowLock s (by decide)))

theorem does_shadowLockTimeout (hp : s.power = .run) (hs : s.tb.migStep = 1) : Does .shadowLockTimeout s fun t =>
    t.get F.TB_EVT_MIG_ABORT = 1 ∧ (s.tb.coasting = false → s.tb.startMig = false → t.get F.TB_STAT_MIG = 0 ∧ t.tb.migStep = 0 ∧
      Keeps s t [F.TB_STAT_MIG, s.shadowLock, F.TB_EVT_MIG_ABORT] ∧ Logs s t 0x0203 0x02 0 0) := by
  refine does_step (f := State.abortMigration) rfl hp hs ⟨(State.settle_get _ _).trans (abortMigration_flag s), fun hc ho => ?_⟩
  obtain ⟨-, hmig, hkeeps, hlogs⟩ := giveUp_writes s
  rw [abortMigration_giveUp hc ho]
  exact ⟨(State.settle_get _ _).trans hmig, by rw [State.settle_tb, giveUp_tb], hkeeps.settle, hlogs.ofJl (State.settle_jl _)⟩

theorem does_migCompareEnd (ratio : Int) (newTicks oldTicks : Nat) (hp : s.power = .run) (hs : s.tb.migStep = 3) :
    Does (.migCompareEnd ratio newTicks oldTicks) s fun t => t.tb.migStep = 4 ∧ Keeps s t [F.TB_MIG_RATIO_RATIO] ∧
      t.tb.ratio = if s.tb.coarse || s.on F.PM_STAT_DIP then coarseRatio newTicks oldTicks else ratio := by
  refine does_step rfl hp hs ⟨by rw [State.settle_tb], ?_, by rw [State.settle_tb]⟩
  exact Keeps.settle (Keeps.next (Keeps.putI (Keeps.refl s _) F.TB_MIG_RATIO_RATIO _ (by simp)) rfl)

theorem does_oldMdllPowerOff (hp : s.power = .run) (hs : s.tb.migStep = 5) : Does .oldMdllPowerOff s fun t =>
    t.get s.shadowLock = 0 ∧ Frame { s with tb.migStep := 0 } t [s.shadowLock] := by
  refine does_step rfl hp hs ⟨?_, ((Frame.put s s.shadowLock 0 (.inl (by simp))).withTb _).settled⟩
  exact (State.settle_get _ _).trans ((get_ofCells rfl _).trans (get_put_shadowLock s (by decide)))

/-- Settles O2: a request is rejected, begun or held, and each step's command acts as its own lemma says. -/
theorem migrationGoesThroughItsSteps : Obligations.MigrationGoesThroughItsSteps := by
  refine ⟨fun s path v hp hj hgo => ⟨fun hr => ?_, fun hr hdip => ?_, fun hr hdip => ?_⟩, fun _ hp hs => does_shadowLockDetected hp hs,
    fun _ hp hs => does_shadowLockTimeout hp hs, fun _ ratio n o hp hs => does_migCompareEnd ratio n o hp hs,
    fun _ hp hs => does_oldMdllPowerOff hp hs⟩
  · exact does_tbSrcReq hp hj hgo (rejected_writes hr)
  · refine does_tbSrcReq hp hj hgo ?_
    rw [requestMigration_accepted hr, if_neg (by simp [hdip])]
    exact (migrationBegun_begin s _).settle
  · refine does_tbSrcReq hp hj hgo ?_
    rw [requestMigration_accepted hr, if_pos hdip]
    exact Frame.settle _ []

end Sys2Proof.Machine
end

section
/-! PROOF. Learning of the XO's ageing and the samples of its thermistor (O3; R57, R59). -/
namespace Sys2Proof.Machine

variable {s : State}

/-! ## Ageing -/

/-- The ageing values as the core learns them (R57). -/
def State.learnAgeing (s : State) : State :=
  ((({ s with free := s.free + 2 }.put F.TB_XO_FOFS_FOFS (Config.freeValue s.free).toNat).put F.TB_XO_AGE_RATE
    (Config.freeValue (s.free + 1)).toNat).put F.TB_XO_AGE_T0DAY (s.sec / 86400)).put F.TB_XO_AGE_LEARNED 1

theorem exec_xoAgeLearn (s : State) : exec .xoAgeLearn s = running s fun s =>
    s.when (s.get F.TB_XO_AGE_MODE == 2 && s.sec % 86400 == 0 && s.lockedFor 259200) fun s =>
      s.learnAgeing.event F.TB_EVT_AGE_LEARN 0x0207 0 0 := rfl

theorem learnAgeing_get (s : State) :
    s.learnAgeing.get F.TB_XO_FOFS_FOFS = (Config.freeValue s.free).toNat % 2 ^ F.TB_XO_FOFS_FOFS.width ∧
    s.learnAgeing.get F.TB_XO_AGE_RATE = (Config.freeValue (s.free + 1)).toNat % 2 ^ F.TB_XO_AGE_RATE.width ∧
    s.learnAgeing.get F.TB_XO_AGE_T0DAY = s.sec / 86400 % 2 ^ F.TB_XO_AGE_T0DAY.width := by
  unfold State.learnAgeing
  simp (disch := decide) only [State.get_put_other, State.get_put_same, and_self]

theorem keeps_learnAgeing (s : State) :
    Keeps s s.learnAgeing [F.TB_XO_FOFS_FOFS, F.TB_XO_AGE_RATE, F.TB_XO_AGE_T0DAY, F.TB_XO_AGE_LEARNED, F.TB_EVT_AGE_LEARN] :=
  ((((Keeps.ofCells rfl).put F.TB_XO_FOFS_FOFS _ (by simp)).put F.TB_XO_AGE_RATE _ (by simp)).put F.TB_XO_AGE_T0DAY _ (by simp)).put
    F.TB_XO_AGE_LEARNED _ (by simp)

theorem does_xoAgeLearn (hp : s.power = .run) (hmode : s.get F.TB_XO_AGE_MODE = 2) (hday : s.sec % 86400 = 0)
    (hlock : s.lockedFor 259200 = true) :
    Does .xoAgeLearn s fun t => t.get F.TB_XO_FOFS_FOFS = (Config.freeValue s.free).toNat % 2 ^ F.TB_XO_FOFS_FOFS.width ∧
      t.get F.TB_XO_AGE_RATE = (Config.freeValue (s.free + 1)).toNat % 2 ^ F.TB_XO_AGE_RATE.width ∧ t.free = s.free + 2 ∧
      t.get F.TB_XO_AGE_T0DAY = s.sec / 86400 % 2 ^ F.TB_XO_AGE_T0DAY.width ∧ t.get F.TB_EVT_AGE_LEARN = 1 ∧
      Keeps s t [F.TB_XO_FOFS_FOFS, F.TB_XO_AGE_RATE, F.TB_XO_AGE_T0DAY, F.TB_XO_AGE_LEARNED, F.TB_EVT_AGE_LEARN] := by
  refine does_running (exec_xoAgeLearn s) hp ?_
  rw [hmode, hday, hlock]
  have hread (f : Fld) (hf : f.key ≠ F.TB_EVT_AGE_LEARN.key) (ht : f.tallied = false) :
      (s.learnAgeing.event F.TB_EVT_AGE_LEARN 0x0207 0 0).settle.get f = s.learnAgeing.get f :=
    (State.settle_get _ f).trans (State.event_get_other _ _ f _ _ _ hf ht)
  obtain ⟨hfofs, hrate, ht0⟩ := learnAgeing_get s
  refine ⟨(hread _ (by decide) (by decide)).trans hfofs, (hread _ (by decide) (by decide)).trans hrate, ?_,
    (hread _ (by decide) (by decide)).trans ht0, ?_, ((keeps_learnAgeing s).event _ _ _ _ (by simp)).settle⟩
  · exact (State.settle_free _).trans (State.event_free _ _ _ _ _)
  · exact (State.settle_get _ _).trans (State.event_flag _ _ _ _ _ (by decide) (by decide))

/-! ## The thermistor -/

/-- A sample has its code shown, and joins the latest 16 and the runs at and below 4,092 (R59). -/
def State.takeTherm (s : State) (c : Nat) : State :=
  { s.put F.TB_THERM_CODE c with
    tb.therm := (c :: s.tb.therm).take 16
    tb.openRun := if decide (4092 ≤ c) then min 16 (s.tb.openRun + 1) else 0
    tb.closeRun := if decide (4092 ≤ c) then 0 else min 16 (s.tb.closeRun + 1) }

/-- OPEN, which was as given, follows the runs (R59). -/
def State.judgeOpen (s : State) (was : Bool) : State :=
  if !was && s.tb.openRun == 16 then (s.put F.TB_THERM_OPEN 1).event F.TB_EVT_THERM_OPEN 0x0208 0 0
  else if was && s.tb.closeRun == 16 then s.put F.TB_THERM_OPEN 0
  else s

/-- The mean of sixteen codes, truncated; 0 of fewer. -/
def thermMean (codes : List Nat) : Nat := if codes.length == 16 then codes.sum / 16 else 0

theorem exec_thermSample (uv : Nat) (s : State) : exec (.thermSample uv) s = running s fun s => s.when (s.on F.TB_THERM_EN) fun s =>
    ((s.takeTherm (thermCode uv)).judgeOpen (s.on F.TB_THERM_OPEN)).put F.TB_THERM_AVG (thermMean ((thermCode uv :: s.tb.therm).take 16)) := rfl

theorem judgeOpen_keeps (s : State) (was : Bool) :
    Keeps s (s.judgeOpen was) [F.TB_THERM_OPEN, F.TB_EVT_THERM_OPEN] ∧ (s.judgeOpen was).tb = s.tb := by
  have hput (v : Nat) := (Keeps.refl s [F.TB_THERM_OPEN, F.TB_EVT_THERM_OPEN]).put F.TB_THERM_OPEN v (by simp)
  unfold State.judgeOpen
  split
  · exact ⟨(hput 1).event _ _ _ _ (by simp), State.event_tb _ _ _ _ _⟩
  · split
    · exact ⟨hput 0, rfl⟩
    · exact ⟨Keeps.refl s _, rfl⟩

/-- The sixteenth high code in a row opens. -/
theorem judgeOpen_opens (h : s.tb.openRun = 16) :
    (s.judgeOpen false).get F.TB_THERM_OPEN = 1 ∧ (s.judgeOpen false).get F.TB_EVT_THERM_OPEN = 1 := by
  have heq : s.judgeOpen false = (s.put F.TB_THERM_OPEN 1).event F.TB_EVT_THERM_OPEN 0x0208 0 0 := if_pos (by simp [h])
  rw [heq]
  exact ⟨(State.event_get_other _ _ _ _ _ _ (by decide) (by decide)).trans (State.get_put_same s _ 1),
    State.event_flag _ _ _ _ _ (by decide) (by decide)⟩

theorem takeTherm_openRun {c : Nat} (hrun : 15 ≤ s.tb.openRun) (hc : 4092 ≤ c) : (s.takeTherm c).tb.openRun = 16 := by
  simp only [State.takeTherm, hc, decide_true, if_true]
  omega

/-- A code is at most the full scale, and fits its field. -/
theorem takeTherm_code (s : State) (uv : Nat) : (s.takeTherm (thermCode uv)).get F.TB_THERM_CODE = thermCode uv := by
  have hle : thermCode uv ≤ 4095 := min_le_right _ _
  exact (State.get_put_same s _ _).trans (Nat.mod_eq_of_lt (Nat.lt_succ_of_le hle))

theorem does_thermSample (uv : Nat) (hp : s.power = .run) (hen : s.on F.TB_THERM_EN = true) :
    Does (.thermSample uv) s fun t => t.get F.TB_THERM_CODE = min (uv * 4096 / 1800000) 4095 ∧
      t.tb.therm = (thermCode uv :: s.tb.therm).take 16 ∧
      t.get F.TB_THERM_AVG = (if t.tb.therm.length = 16 then t.tb.therm.sum / 16 else 0) % 4096 ∧
      (s.on F.TB_THERM_OPEN = false → 15 ≤ s.tb.openRun → 4092 ≤ thermCode uv → t.get F.TB_THERM_OPEN = 1 ∧ t.get F.TB_EVT_THERM_OPEN = 1) := by
  refine does_running (exec_thermSample uv s) hp ?_
  rw [hen, State.when_true]
  obtain ⟨hkeeps, htb⟩ := judgeOpen_keeps (s.takeTherm (thermCode uv)) (s.on F.TB_THERM_OPEN)
  have hread (u : State) (v : Nat) (f : Fld) (hf : f.key ≠ F.TB_THERM_AVG.key) : (u.put F.TB_THERM_AVG v).settle.get f = u.get f :=
    (State.settle_get _ f).trans (State.get_put_other u _ f v hf)
  have htherm : ((s.takeTherm (thermCode uv)).judgeOpen (s.on F.TB_THERM_OPEN)).tb.therm = (thermCode uv :: s.tb.therm).take 16 := by
    rw [htb, State.takeTherm]
  refine ⟨?_, by rw [State.settle_tb, State.put_tb, htherm], ?_, fun hopen hrun hc => ?_⟩
  · exact (hread _ _ _ (by decide)).trans ((hkeeps.get _ (by decide) (by decide)).trans (takeTherm_code s uv))
  · rw [State.settle_tb, State.put_tb, htherm, State.settle_get, State.get_put_same]
    simp only [thermMean, beq_iff_eq]
    rfl
  · obtain ⟨hshows, hflag⟩ := judgeOpen_opens (takeTherm_openRun hrun hc)
    rw [hopen]
    exact ⟨(hread _ _ _ (by decide)).trans hshows, (hread _ _ _ (by decide)).trans hflag⟩

theorem does_thermSample_off (uv : Nat) (hp : s.power = .run) (hen : s.on F.TB_THERM_EN = false) :
    Does (.thermSample uv) s fun t => Frame s t [] := by
  refine does_running (exec_thermSample uv s) hp ?_
  rw [hen, State.when_false]
  exact Frame.settle s []

/-- Settles O3: learning at a day boundary, and a sample with EN = 1 and with EN = 0. -/
theorem oscillatorLearningAndTemperatureSamples : Obligations.OscillatorLearningAndTemperatureSamples :=
  ⟨fun _ hp hmode hday hlock => does_xoAgeLearn hp hmode hday hlock, fun _ uv hp hen => does_thermSample uv hp hen,
    fun _ uv hp hen => does_thermSample_off uv hp hen⟩

end Sys2Proof.Machine
end

section
/-! PROOF. The state after reset (O56; R57, R164, R364, R380, R408). -/
namespace Sys2Proof.Machine

/-- After reset no field differs from its reset value. -/
@[simp] theorem reset_get (f : Fld) : State.reset.get f = f.reset := rfl

/-- No image has started, so that ALARM_N is due; no condition of DEGRADE_N or TAMPER_N holds. -/
theorem reset_conditions : State.reset.alarmDue = true ∧ State.reset.degradeDue = false ∧ State.reset.on F.TP_STAT_LATCH = false := by
  decide

theorem reset_pins : State.reset.pins = { alarm := true, degrade := false, tamper := false, wake := false } := rfl

theorem reset_pinsTrue : State.reset.pinsTrue := by
  obtain ⟨halarm, hdegrade, htamper⟩ := reset_conditions
  exact ⟨by rw [halarm, reset_pins], by rw [hdegrade, reset_pins], by rw [htamper, reset_pins]⟩

/-- Settles O56: fields read their reset values by `reset_get`, and the pins show the conditions of `reset_conditions`. -/
theorem resetShowsItsValuesAndPins : Obligations.ResetShowsItsValuesAndPins :=
  ⟨reset_get, reset_get F.SY_ID_VENDOR, reset_get F.SY_ID_DEVICE, reset_get F.SY_ID_STEP, reset_get (F.MB_MAP_BOUND_MAX 0), rfl, rfl, rfl, rfl,
    reset_pinsTrue, reset_pins⟩

end Sys2Proof.Machine
end

section
/-! PROOF. The interval engine's state (chapter 04): channels, engines, and what a command of the engine leaves outside it. -/
namespace Sys2Proof.Machine

variable {s t u : State} {fs gs : List Fld}

/-! ## Channels and engines -/

theorem chan_setChan (s : State) (n m : Nat) (f : IeChan → IeChan) : (s.setChan n f).chan m = if m = n then f (s.chan n) else s.chan m := by
  simpa [State.chan, State.setChan] using getD_alter {} {} f n m s.ie.chans (.inr rfl)

@[simp] theorem chan_setChan_same (s : State) (n : Nat) (f : IeChan → IeChan) : (s.setChan n f).chan n = f (s.chan n) := by simp [chan_setChan]

theorem chan_setChan_other (s : State) {n m : Nat} (f : IeChan → IeChan) (h : m ≠ n) : (s.setChan n f).chan m = s.chan m := by
  simp [chan_setChan, h]

theorem engine_setEngine (s : State) (m k : Nat) (f : IeEngine → IeEngine) :
    (s.setEngine m f).engine k = if k = m then f (s.engine m) else s.engine k := by
  simpa [State.engine, State.setEngine] using getD_alter {} {} f m k s.ie.engines (.inr rfl)

theorem chan_ofIe (h : t.ie = s.ie) (n : Nat) : t.chan n = s.chan n := by simp [State.chan, h]

@[simp] theorem chan_settle (s : State) (n : Nat) : s.settle.chan n = s.chan n := chan_ofIe (by simp) n
@[simp] theorem chan_emit (s : State) (m : OutMsg) (n : Nat) : (s.emit m).chan n = s.chan n := rfl
@[simp] theorem chan_event (s : State) (f : Fld) (code inst arg n : Nat) : (s.event f code inst arg).chan n = s.chan n := chan_ofIe (by simp) n

/-! ## What lies outside the engine -/

/-- t differs from s in the interval engine's hidden state, and else as a frame allows. -/
def IeFrame (s t : State) (fs : List Fld) : Prop := Frame { s with ie := t.ie } t fs

/-- The same interval engine on both sides of a frame. -/
theorem Frame.withIe (h : Frame s t fs) (ie : IePart) : Frame { s with ie := ie } { t with ie := ie } fs :=
  ⟨h.1, congrArg (fun x : State => { x with ie := ie }) h.2⟩

theorem IeFrame.ofFrame (h : Frame s t fs) : IeFrame s t fs := h.withIe t.ie

theorem IeFrame.refl (s : State) (fs : List Fld) : IeFrame s s fs := Frame.refl s fs

theorem IeFrame.trans (h : IeFrame s t fs) (g : IeFrame t u fs) : IeFrame s u fs := (h.withIe u.ie).trans g

theorem IeFrame.mono (h : IeFrame s t fs) (sub : ∀ k ∈ fs.map Fld.key, k ∈ gs.map Fld.key) : IeFrame s t gs := Frame.mono h sub

theorem IeFrame.get (h : IeFrame s t fs) (f : Fld) (hf : f.key ∉ fs.map Fld.key) (ht : f.tallied = false) : t.get f = s.get f := h.1 f hf ht

theorem IeFrame.setChan (s : State) (n : Nat) (f : IeChan → IeChan) : IeFrame s (s.setChan n f) fs := Frame.refl _ fs
theorem IeFrame.setEngine (s : State) (m : Nat) (f : IeEngine → IeEngine) : IeFrame s (s.setEngine m f) fs := Frame.refl _ fs

/-- t differs from s in the statistics engines' hidden state, and else as a frame allows. -/
def EngineStep (s t : State) (fs : List Fld) : Prop := Frame { s with ie.engines := t.ie.engines } t fs

/-- The same statistics engines on both sides of a frame. -/
theorem Frame.withEngines (h : Frame s t fs) (es : List IeEngine) : Frame { s with ie.engines := es } { t with ie.engines := es } fs :=
  ⟨h.1, congrArg (fun x : State => { x with ie.engines := es }) h.2⟩

theorem EngineStep.ofFrame (h : Frame s t fs) : EngineStep s t fs := h.withEngines t.ie.engines

theorem EngineStep.refl (s : State) (fs : List Fld) : EngineStep s s fs := Frame.refl s fs

theorem EngineStep.trans (h : EngineStep s t fs) (g : EngineStep t u fs) : EngineStep s u fs := (h.withEngines u.ie.engines).trans g

theorem EngineStep.setEngine (s : State) (m : Nat) (f : IeEngine → IeEngine) : EngineStep s (s.setEngine m f) fs := Frame.refl _ fs

theorem EngineStep.when (s : State) (b : Bool) (f : State → State) (h : b = true → EngineStep s (f s) fs) : EngineStep s (s.when b f) fs := by
  cases b
  · exact EngineStep.refl s fs
  · exact h rfl

theorem EngineStep.forAll {α : Type} (l : List α) (f : State → α → State) (h : ∀ t, ∀ x ∈ l, EngineStep t (f t x) fs) (s : State) :
    EngineStep s (s.forAll l f) fs := by
  induction l generalizing s with
  | nil => exact EngineStep.refl s fs
  | cons x l ih => exact (h s x List.mem_cons_self).trans (ih (fun t y hy => h t y (List.mem_cons_of_mem _ hy)) (f s x))

/-- Of the interval engine only the statistics engines differ. -/
theorem EngineStep.ie (h : EngineStep s t fs) : t.ie = { s.ie with engines := t.ie.engines } := congrArg State.ie h.2

theorem EngineStep.ieFrame (h : EngineStep s t fs) : IeFrame s t fs := by
  have hs : ({ s with ie := t.ie } : State) = { s with ie.engines := t.ie.engines } := by rw [h.ie]
  unfold IeFrame
  rw [hs]
  exact h

theorem EngineStep.chan (h : EngineStep s t fs) (n : Nat) : t.chan n = s.chan n := by
  unfold State.chan
  rw [h.ie]

/-- The blocks of engines are marked, and nothing else changes (R79). -/
theorem engineStep_markEngines (s : State) (which : IeEngine → IeEngine) (p : Nat → Bool) : EngineStep s (s.markEngines which p) fs :=
  EngineStep.forAll _ _ (fun t m _ => EngineStep.when t _ _ fun _ => EngineStep.setEngine t m which) s

/-! ## Several fields written -/

/-- Write fields with values. -/
def State.putAll (s : State) (l : List (Fld × Nat)) : State := s.forAll l fun t e => t.put e.1 e.2

theorem Frame.putAll (s : State) (l : List (Fld × Nat)) (h : ∀ e ∈ l, e.1.key ∈ fs.map Fld.key) : Frame s (s.putAll l) fs :=
  Frame.forAll l _ (fun t e he => Frame.put t e.1 e.2 (.inl (h e he))) s

theorem Frame.putAll_fst (s : State) (l : List (Fld × Nat)) : Frame s (s.putAll l) (l.map Prod.fst) :=
  Frame.putAll s l fun _ he => List.mem_map_of_mem (List.mem_map_of_mem he)

theorem get_putAll_other (s : State) {l : List (Fld × Nat)} {g : Fld} (h : ∀ e ∈ l, g.key ≠ e.1.key) : (s.putAll l).get g = s.get g :=
  forAll_keeps (fun t => t.get g) l _ (fun t e he => State.get_put_other t e.1 g e.2 (h e he)) s

theorem putAll_ie (s : State) (l : List (Fld × Nat)) : (s.putAll l).ie = s.ie :=
  forAll_inv State.ie l (fun t e => t.put e.1 e.2) (fun _ _ => rfl) s
theorem putAll_outs (s : State) (l : List (Fld × Nat)) : (s.putAll l).outs = s.outs :=
  forAll_inv State.outs l (fun t e => t.put e.1 e.2) (fun _ _ => rfl) s
theorem putAll_jl (s : State) (l : List (Fld × Nat)) : (s.putAll l).jl = s.jl :=
  forAll_inv State.jl l (fun t e => t.put e.1 e.2) (fun _ _ => rfl) s

/-- Fields at different places read as written. -/
theorem get_putAll (s : State) {l : List (Fld × Nat)} (hl : ((l.map Prod.fst).map Fld.key).Nodup) :
    ∀ e ∈ l, (s.putAll l).get e.1 = e.2 % 2 ^ e.1.width := by
  induction l generalizing s with
  | nil => simp
  | cons x l ih =>
    obtain ⟨hx, hl⟩ := List.nodup_cons.mp hl
    refine List.forall_mem_cons.mpr ⟨?_, ih (s.put x.1 x.2) hl⟩
    have hne : ∀ e ∈ l, x.1.key ≠ e.1.key := fun e he h => hx (h ▸ List.mem_map_of_mem (List.mem_map_of_mem he))
    exact (get_putAll_other (s.put x.1 x.2) hne).trans (State.get_put_same _ _ _)

/-- A counter field adds and saturates. -/
theorem get_count_same (s : State) (f : Fld) (n : Nat) : (s.count f n).get f = min (s.get f + n) (2 ^ f.width - 1) := by
  have h : 0 < 2 ^ f.width := Nat.two_pow_pos _
  unfold State.count State.putSat
  rw [State.get_put_same, Nat.mod_eq_of_lt (by omega)]

/-- What holds before a repetition and is kept by each turn holds after it. -/
theorem forAll_induct {α : Type} {P : State → Prop} {l : List α} {f : State → α → State} (h : ∀ t, ∀ x ∈ l, P t → P (f t x))
    (hs : P s) : P (s.forAll l f) := by
  induction l generalizing s with
  | nil => exact hs
  | cons x l ih => exact ih (fun t y hy => h t y (List.mem_cons_of_mem _ hy)) (h s x List.mem_cons_self hs)

end Sys2Proof.Machine
end

section
/-! PROOF. Results of the interval engine: what storing one may change (R67, R73, R77 to R79). -/
namespace Sys2Proof.Machine

variable {s t u : State} {fs : List Fld}

/-! ## The fields of results -/

/-- The fields that the end of a block of engine m writes. -/
def statFields (m : Nat) : List Fld :=
  [F.IE_ST_MEAN_MEAN m, F.IE_ST_SD_SD m, F.IE_ST_MIN_MIN m, F.IE_ST_MAX_MAX m, F.IE_ST_X1_X1 m, F.IE_ST_SUM_LO_SUM m, F.IE_ST_SUM_HI_SUM m,
    F.IE_ST_SQ_LO_SQ m, F.IE_ST_SQ_HI_SQ m, F.IE_ST_STAT_N_DONE m, F.IE_ST_STAT_MIG m, F.IE_ST_STAT_CALGAP m, F.IE_ST_STAT_SAT m,
    F.IE_ST_STAT_DIP m, F.IE_ST_STAT_SEQ m, F.IE_ST_STAT_EXCL m, F.IE_ST_STAT_DONE m]

/-- The fields that a result, stored or dropped, may write. -/
def resultFields : List Fld := F.IE_EVT_OVF :: (List.range 32).map F.IE_CH_STAT_OVF ++ (List.range 8).flatMap statFields

theorem ovf_mem {ch : Nat} (h : ch < 32) : (F.IE_CH_STAT_OVF ch).key ∈ resultFields.map Fld.key :=
  List.mem_map_of_mem (List.mem_append_left _ (List.mem_cons_of_mem _ (List.mem_map_of_mem (List.mem_range.mpr h))))

theorem stat_mem {m : Nat} (h : m < 8) {f : Fld} (hf : f ∈ statFields m) : f.key ∈ resultFields.map Fld.key :=
  List.mem_map_of_mem (List.mem_append_right _ (List.mem_flatMap.mpr ⟨m, List.mem_range.mpr h, hf⟩))

theorem key_resultFields : ∀ k ∈ resultFields.map Fld.key, k / 4194304 = 0x03 ∧ k < 0x034000 * 64 ∧ (0x032000 * 64 ≤ k ∨ k % 64 = 16) := by
  decide +kernel

/-- A field that no result writes, and no event tallies: of a block before the counters, not among the statistics, and no drop counter. -/
def Fld.apart (f : Fld) : Prop := f.key / 4194304 < 0x14 ∧ f.key % 64 ≠ 16 ∧ (f.key < 0x032000 * 64 ∨ 0x034000 * 64 ≤ f.key)

theorem IeFrame.apart (h : IeFrame s t resultFields) {f : Fld} (hf : f.apart) : t.get f = s.get f := by
  obtain ⟨hw, hlo, hk⟩ := hf
  refine h.get f (fun hm => ?_) (tallied_of_window hw)
  obtain ⟨_, hlt, hge⟩ := key_resultFields _ hm
  omega

/-- The configuration of a channel, of the blocks that own channels, and the dip episode. -/
theorem apart_config {n : Nat} (h : n < 32) :
    ∀ f ∈ [F.IE_CH_CFG_EN n, F.IE_CH_CFG_MODE n, F.IE_CH_CFG_GATE_SEL n, F.IE_CH_CFG_GATE_MODE n, F.IE_CH_CFG_GATE_POL n, F.GN_CFG_EN,
      F.GN_CFG_BAND_A, F.GN_CFG_BAND_B, F.OS_CLK_CFG_EN (n - 22), F.OS_PPS_CFG_EN 0, F.OS_PPS_CFG_EN 1, F.OS_PPS_CFG_EN 2, F.OS_PPS_CFG_EN 3,
      F.PM_STAT_DIP], f.apart := by
  simp only [List.forall_mem_cons, List.not_mem_nil, false_implies, implies_true, and_true]
  refine ⟨?_, ?_, ?_, ?_, ?_, ?_, ?_, ?_, ?_, ?_, ?_, ?_, ?_, ?_⟩
  all_goals
    simp only [Fld.apart, Fld.key, F.IE_CH_CFG_EN, F.IE_CH_CFG_MODE, F.IE_CH_CFG_GATE_SEL, F.IE_CH_CFG_GATE_MODE, F.IE_CH_CFG_GATE_POL, F.GN_CFG_EN,
      F.GN_CFG_BAND_A, F.GN_CFG_BAND_B, F.OS_CLK_CFG_EN, F.OS_PPS_CFG_EN, F.PM_STAT_DIP]
    omega

section
variable (h : IeFrame s t resultFields) {n : Nat} (hn : n < 32)
include h hn

theorem IeFrame.config : ∀ f ∈ [F.IE_CH_CFG_EN n, F.IE_CH_CFG_MODE n, F.IE_CH_CFG_GATE_SEL n, F.IE_CH_CFG_GATE_MODE n, F.IE_CH_CFG_GATE_POL n,
    F.GN_CFG_EN, F.GN_CFG_BAND_A, F.GN_CFG_BAND_B, F.OS_CLK_CFG_EN (n - 22), F.OS_PPS_CFG_EN 0, F.OS_PPS_CFG_EN 1, F.OS_PPS_CFG_EN 2,
    F.OS_PPS_CFG_EN 3, F.PM_STAT_DIP], t.get f = s.get f := fun f hf => h.apart (apart_config hn f hf)

theorem IeFrame.chMode : t.chMode n = s.chMode n := by
  unfold State.chMode
  rw [h.config hn (F.IE_CH_CFG_MODE n) (by simp)]

theorem IeFrame.gated : t.gated n = s.gated n := by
  unfold State.gated
  rw [h.config hn (F.IE_CH_CFG_GATE_SEL n) (by simp)]

theorem IeFrame.chanEnabled : t.chanEnabled n = s.chanEnabled n := by
  have hc := h.config hn
  simp only [List.forall_mem_cons, List.not_mem_nil, false_implies, implies_true, and_true] at hc
  simp [State.chanEnabled, State.on, hc, List.range_succ]

end

/-! ## The statistics engines -/

theorem latchBlock_eq (s : State) (m : Nat) : ∃ vs g, (∀ e ∈ vs, e.1 ∈ statFields m) ∧ s.latchBlock m = (s.putAll vs).setEngine m g := by
  unfold State.latchBlock
  dsimp only
  split
  · exact ⟨[(F.IE_ST_MEAN_MEAN m, _), (F.IE_ST_SD_SD m, _), (F.IE_ST_MIN_MIN m, _), (F.IE_ST_MAX_MAX m, _), (F.IE_ST_X1_X1 m, _),
      (F.IE_ST_SUM_LO_SUM m, _), (F.IE_ST_SUM_HI_SUM m, _), (F.IE_ST_SQ_LO_SQ m, _), (F.IE_ST_SQ_HI_SQ m, _), (F.IE_ST_STAT_N_DONE m, _),
      (F.IE_ST_STAT_MIG m, _), (F.IE_ST_STAT_CALGAP m, _), (F.IE_ST_STAT_SAT m, _), (F.IE_ST_STAT_DIP m, _), (F.IE_ST_STAT_SEQ m, _),
      (F.IE_ST_STAT_EXCL m, _)], _, by simp [statFields], rfl⟩
  · exact ⟨[(F.IE_ST_MEAN_MEAN m, _), (F.IE_ST_SD_SD m, _), (F.IE_ST_MIN_MIN m, _), (F.IE_ST_MAX_MAX m, _), (F.IE_ST_X1_X1 m, _),
      (F.IE_ST_SUM_LO_SUM m, _), (F.IE_ST_SUM_HI_SUM m, _), (F.IE_ST_SQ_LO_SQ m, _), (F.IE_ST_SQ_HI_SQ m, _), (F.IE_ST_STAT_N_DONE m, _),
      (F.IE_ST_STAT_MIG m, _), (F.IE_ST_STAT_CALGAP m, _), (F.IE_ST_STAT_SAT m, _), (F.IE_ST_STAT_DIP m, _), (F.IE_ST_STAT_SEQ m, _),
      (F.IE_ST_STAT_EXCL m, _), (F.IE_ST_STAT_DONE m, _)], _, by simp [statFields], rfl⟩

theorem engineStep_latchBlock (s : State) {m : Nat} (hm : m < 8) : EngineStep s (s.latchBlock m) resultFields := by
  obtain ⟨vs, g, hvs, h⟩ := latchBlock_eq s m
  rw [h]
  exact (EngineStep.ofFrame (Frame.putAll s vs fun e he => stat_mem hm (hvs e he))).trans (EngineStep.setEngine _ m g)

theorem engineStep_feedEngine (s : State) (ch : Nat) (st : Option Stamp) (r : IeResult) {m : Nat} (hm : m < 8) :
    EngineStep s (s.feedEngine ch st r m) resultFields := by
  unfold State.feedEngine
  dsimp only
  generalize (if (s.engine m).n = 0 then (s.sampleX ch (s.engine m) st r).1 else (s.engine m).x1) = x1
  split
  · exact EngineStep.refl s _
  · split
    · exact EngineStep.setEngine s m _
    · exact (EngineStep.setEngine s m _).trans (EngineStep.when _ _ _ fun _ => engineStep_latchBlock _ hm)

/-! ## A result enters a channel -/

/-- The channel with one more result, or with one dropped from a full buffer (R73). -/
def IeChan.entered (c : IeChan) (r : IeResult) : IeChan :=
  if c.buf.length < 256 then { c with buf := c.buf ++ [r], calGap := false, gateIgn := false }
  else { c with dropped := true, calGap := false, gateIgn := false }

theorem IeChan.entered_gateOpen (c : IeChan) (r : IeResult) : (c.entered r).gateOpen = c.gateOpen := by
  unfold IeChan.entered
  split <;> rfl

/-- The gate inputs stay, and of the engine's registers and channels only result fields and the channels ns may change. -/
structure ChanStep (s t : State) (ns : List Nat) : Prop where
  frame : IeFrame s t resultFields
  gates : t.ie.gates = s.ie.gates
  others : ∀ k, k ∉ ns → t.chan k = s.chan k

theorem ChanStep.refl (s : State) (ns : List Nat) : ChanStep s s ns := ⟨IeFrame.refl s _, rfl, fun _ _ => rfl⟩

theorem ChanStep.trans {ns : List Nat} (h : ChanStep s t ns) (g : ChanStep t u ns) : ChanStep s u ns :=
  ⟨h.frame.trans g.frame, g.gates.trans h.gates, fun k hk => (g.others k hk).trans (h.others k hk)⟩

theorem ChanStep.setChan (s : State) (n : Nat) (f : IeChan → IeChan) : ChanStep s (s.setChan n f) [n] :=
  ⟨IeFrame.setChan s n f, rfl, fun _ hk => chan_setChan_other s f (List.ne_of_not_mem_cons hk)⟩

theorem ChanStep.ofEngine (h : EngineStep s t resultFields) (ns : List Nat) : ChanStep s t ns :=
  ⟨h.ieFrame, by rw [h.ie], fun k _ => h.chan k⟩

theorem ChanStep.ofFrame (h : Frame s t resultFields) (hie : t.ie = s.ie) (ns : List Nat) : ChanStep s t ns :=
  ⟨IeFrame.ofFrame h, by rw [hie], fun k _ => chan_ofIe hie k⟩

theorem ChanStep.other {n k : Nat} (h : ChanStep s t [n]) (hk : k ≠ n) : t.chan k = s.chan k := h.others k (by simpa using hk)

/-- A result changes its channel as `IeChan.entered` says, and no other. -/
theorem storeResult_step (s : State) {ch : Nat} (hch : ch < 32) (st : Option Stamp) (r : IeResult) :
    ChanStep s (s.storeResult ch st r) [ch] ∧ (s.storeResult ch st r).chan ch = (s.chan ch).entered r := by
  have hfeed (t : State) : EngineStep t (t.forAll (List.range 8) fun t m => t.feedEngine ch st r m) resultFields :=
    EngineStep.forAll _ _ (fun t m hm => engineStep_feedEngine t ch st r (List.mem_range.mp hm)) t
  suffices h : ∃ t, s.storeResult ch st r = t.forAll (List.range 8) (fun t m => t.feedEngine ch st r m) ∧ ChanStep s t [ch] ∧
      t.chan ch = (s.chan ch).entered r by
    obtain ⟨t, ht, hstep, hchan⟩ := h
    rw [ht]
    exact ⟨hstep.trans (ChanStep.ofEngine (hfeed t) _), ((hfeed t).chan ch).trans hchan⟩
  refine ⟨_, rfl, ?_⟩
  unfold IeChan.entered
  split
  · exact ⟨ChanStep.setChan s ch _, chan_setChan_same s ch _⟩
  · have hdrop : ChanStep s
        ((s.count (F.IE_CH_STAT_OVF ch) 1).setChan ch fun c => { c with dropped := true, calGap := false, gateIgn := false }) [ch] :=
      (ChanStep.ofFrame (Frame.count s _ 1 (ovf_mem hch)) rfl _).trans (ChanStep.setChan _ ch _)
    have hev (t : State) : ChanStep t (t.event F.IE_EVT_OVF 0x0213 ch ch) [ch] :=
      ChanStep.ofFrame (Frame.event t F.IE_EVT_OVF _ _ _ (List.mem_map_of_mem (by simp [resultFields]))) (by simp) _
    cases (s.chan ch).dropped
    · exact ⟨hdrop.trans (hev _), (chan_event _ _ _ _ _ _).trans (chan_setChan_same _ ch _)⟩
    · exact ⟨hdrop, chan_setChan_same _ ch _⟩

end Sys2Proof.Machine
end

section
/-! PROOF. Edges, pairing and presence (O4; R64, R68, R69, R72, R83, R89). -/
namespace Sys2Proof.Machine

variable {s t u : State} {fs : List Fld}

/-! ## What an edge comes to -/

/-- The channel after an accepted edge at a raw position. -/
def State.acceptEdge (s : State) (ch : Nat) (pos : Nat × Int) : State :=
  s.setChan ch fun c => { c with skip := 2 ^ s.chPrescale ch - 1, accepted := some pos }

/-- A stamp depends on the channel's table alone. -/
theorem stampOf_acceptEdge (s : State) (ch : Nat) (pos : Nat × Int) (rising : Bool) (back code : Nat) :
    (s.acceptEdge ch pos).stampOf ch rising back code = s.stampOf ch rising back code := by
  have hphi : ((s.acceptEdge ch pos).chan ch).phi code = (s.chan ch).phi code := by
    unfold State.acceptEdge
    rw [chan_setChan_same]
    rfl
  unfold State.stampOf
  rw [hphi]
  rfl

/-- What the engine makes of a stamped edge outside a dip episode. -/
def State.takeStamp (s : State) (ch : Nat) (back : Nat) (st : Stamp) : State :=
  let t := s.completeStarts ch st
  let t := if s.gatePasses ch (s.tickBack back) then (t.modeEdge ch st).gateCount ch else t
  t.setChan ch fun c => { c with last := some st }

theorem ieEdge_stamped {ch : Nat} {rising : Bool} {back code : Nat} (hf : s.edgeFate ch rising back code = .stamped)
    (hd : s.on F.PM_STAT_DIP = false) : s.ieEdge ch rising back code =
      ((s.acceptEdge ch (s.edgePos ch back code)).takeStamp ch back (s.stampOf ch rising back code), some (s.stampOf ch rising back code)) := by
  rw [← stampOf_acceptEdge s ch (s.edgePos ch back code)]
  unfold State.ieEdge
  dsimp only
  rw [hf]
  dsimp only
  rw [if_neg]
  · rfl
  · have : (s.acceptEdge ch (s.edgePos ch back code)).on F.PM_STAT_DIP = false := hd
    exact fun h => absurd (this.symm.trans h) (by decide)

/-! ## The block that owns the channel -/

/-- Of an edge that is not stamped the owner learns nothing that shows in the registers or in the engine. -/
theorem does_ieEdge_unstamped {ch : Fin 32} {rising : Bool} {back code : Nat} {P : State → Prop} (hp : s.power = .run)
    (hf : s.edgeFate ch rising back code ≠ .stamped) (hu : s.ieEdge ch rising back code = (u, none))
    (h : ∀ t : State, t.ie = u.ie → (∀ f, t.get f = u.get f) → P t) : Does (.ieEdge ch rising back code) s P := by
  refine does_running (by unfold exec; rfl) hp ?_
  dsimp only
  rw [hu]
  have hb : (s.edgeFate ch rising back code == .stamped) = false := by simpa using hf
  simp only [hb, State.when_false]
  refine h _ ?_ fun f => ?_
  · rw [State.settle_ie]
    exact when_inv State.ie _ _ rfl
  · rw [State.settle_get]
    exact get_when fun _ => rfl

/-- The selector and the owner of channel n take a stamp; last is the stamp of the channel before it (R61, R89). -/
def State.giveStamp (s : State) (n : Nat) (last : Option Stamp) (st : Stamp) : State :=
  let mig := match last with | none => false | some a => crossMigration a st
  let t := s.refEdge n st
  if n < 9 then t.alignEdge n st
  else if 12 ≤ n && n < 18 then t.markEdge (n - 12) (some st)
  else if n = 20 then { t with gn.mark := some st }
  else if n = 21 then { t with gn.markB := some st }
  else if 22 ≤ n && n < 30 then t.when (!mig) (·.measureClk (n - 22) st)
  else if n = 30 then t.when (!mig) (·.measurePps st)
  else t

theorem does_ieEdge_stamped {ch : Fin 32} {rising : Bool} {back code : Nat} {P : State → Prop} (hp : s.power = .run)
    (hf : s.edgeFate ch rising back code = .stamped) (hd : s.on F.PM_STAT_DIP = false)
    (h : P (((s.acceptEdge ch (s.edgePos ch back code)).takeStamp ch back (s.stampOf ch rising back code)).giveStamp ch (s.chan ch).last
      (s.stampOf ch rising back code)).settle) : Does (.ieEdge ch rising back code) s P := by
  refine does_running (by unfold exec; rfl) hp ?_
  dsimp only
  rw [ieEdge_stamped hf hd]
  exact h

/-- The selector keeps the interval engine as it is. -/
theorem refEdge_ie (s : State) (ch : Nat) (st : Stamp) : (s.refEdge ch st).ie = s.ie := by
  have hsee : ∀ t : State, (t.seeEdge ch st.pos).ie = t.ie := fun t => by
    unfold State.seeEdge
    dsimp only
    split <;> rfl
  have htake : ∀ (t : State) (n : Nat) (x : Sample), (t.takeSample n x).ie = t.ie := fun t n x => by
    unfold State.takeSample
    split <;> rfl
  unfold State.refEdge
  split
  · rfl
  · refine (forAll_inv State.ie _ _ (fun t n => ?_) _).trans (hsee s)
    split
    · rfl
    · split <;> exact htake _ _ _

/-- So does pulse alignment. -/
theorem alignEdge_ie (s : State) (ch : Nat) (st : Stamp) : (s.alignEdge ch st).ie = s.ie := by
  refine forAll_inv State.ie _ _ (fun t n => ?_) s
  dsimp only
  split
  · rfl
  · split
    · split <;> rfl
    · rfl

theorem giveStamp_ie {n : Nat} (h : n < 12) (s : State) (last : Option Stamp) (st : Stamp) : (s.giveStamp n last st).ie = s.ie := by
  have hn : ¬(12 ≤ n ∧ n < 18) := by omega
  have hn' : ¬(22 ≤ n ∧ n < 30) := by omega
  unfold State.giveStamp
  dsimp only
  simp only [Bool.and_eq_true, decide_eq_true_eq, if_neg hn, if_neg hn', if_neg (show n ≠ 20 by omega), if_neg (show n ≠ 21 by omega),
    if_neg (show n ≠ 30 by omega)]
  split
  · exact (alignEdge_ie _ _ _).trans (refEdge_ie _ _ _)
  · exact refEdge_ie _ _ _

/-! ## A stamp on a software channel in timestamp mode -/

/-- Starts that wait for a stop on ch are of channels in interval mode; ch itself is as before where it is in another mode (R69). -/
theorem completeStarts_other {ch : Nat} (hch : ch < 32) (hm : s.chMode ch ≠ 1) (stop : Stamp) :
    IeFrame s (s.completeStarts ch stop) resultFields ∧ (s.completeStarts ch stop).chan ch = s.chan ch := by
  refine forAll_induct (P := fun t => IeFrame s t resultFields ∧ t.chan ch = s.chan ch) (fun t n hn ⟨hf, hc⟩ => ?_) ⟨IeFrame.refl s _, rfl⟩
  have hn := List.mem_range.mp hn
  dsimp only
  split
  · exact ⟨hf, hc⟩
  · split
    · next hcond =>
      simp only [Bool.and_eq_true, beq_iff_eq] at hcond
      obtain ⟨⟨⟨_, hmode⟩, _⟩, _⟩ := hcond
      have hne : ch ≠ n := fun e => hm ((hf.chMode hch).symm.trans (e ▸ hmode))
      have hstep (r : IeResult) := (ChanStep.setChan t n fun c => { c with start := none }).trans (storeResult_step _ hn none r).1
      exact ⟨hf.trans (hstep _).frame, ((hstep _).other hne).trans hc⟩
    · exact ⟨hf, hc⟩

theorem gatePasses_ungated {ch : Nat} (h : s.gated ch = false) (k : Nat) : s.gatePasses ch k = true := by simp [State.gatePasses, h]

theorem gateCount_ungated {ch : Nat} (h : s.gated ch = false) : s.gateCount ch = s := by simp [State.gateCount, h]

theorem takeStamp_chan {ch : Nat} (hch : ch < 32) (hm : s.chMode ch = 0) (hg : s.gated ch = false) (back : Nat) (st : Stamp) :
    ∃ r, (r.raw, r.ph) = (st.word, st.phi) ∧ (s.takeStamp ch back st).chan ch = { (s.chan ch).entered r with last := some st } := by
  obtain ⟨hf, hc⟩ := completeStarts_other hch (by omega : s.chMode ch ≠ 1) st
  generalize hu : s.completeStarts ch st = u at hf hc
  have hmode : u.modeEdge ch st = u.storeResult ch (some st) (u.resultOf ch st st.phi false 0) := by
    unfold State.modeEdge
    rw [hf.chMode hch, hm]
    rfl
  obtain ⟨hstep, hchan⟩ := storeResult_step u hch (some st) (u.resultOf ch st st.phi false 0)
  refine ⟨u.resultOf ch st st.phi false 0, rfl, ?_⟩
  unfold State.takeStamp
  dsimp only
  rw [hu, gatePasses_ungated hg, if_pos rfl, hmode, gateCount_ungated ((hstep.frame.gated hch).trans ((hf.gated hch).trans hg)),
    chan_setChan_same, hchan, hc]

/-- With room in the buffer, an entry stands last (R73). -/
theorem IeChan.entered_buf {c : IeChan} (h : c.buf.length < 256) (r : IeResult) : (c.entered r).buf = c.buf ++ [r] := by
  unfold IeChan.entered
  rw [if_pos h]

theorem does_ieEdge_stores {ch : Fin 32} {rising : Bool} {back code : Nat} (hp : s.power = .run)
    (hf : s.edgeFate ch rising back code = .stamped) (hd : s.on F.PM_STAT_DIP = false) (hch : ch.val < 12) (hm : s.chMode ch = 0)
    (hg : s.gated ch = false) (hroom : (s.chan ch).buf.length < 256) :
    Does (.ieEdge ch rising back code) s fun t => (t.chan ch).buf.dropLast = (s.chan ch).buf ∧
      (t.chan ch).buf.getLast?.map (fun r => (r.raw, r.ph)) = some ((s.stampOf ch rising back code).word, (s.chan ch).phi code) := by
  refine does_ieEdge_stamped hp hf hd ?_
  have hbuf : ((s.acceptEdge ch (s.edgePos ch back code)).chan ch).buf = (s.chan ch).buf := by
    unfold State.acceptEdge
    rw [chan_setChan_same]
  obtain ⟨r, hr, hchan⟩ := takeStamp_chan (s := s.acceptEdge ch (s.edgePos ch back code)) ch.isLt hm hg back (s.stampOf ch rising back code)
  rw [chan_settle, chan_ofIe (giveStamp_ie hch _ _ _), hchan]
  dsimp only
  rw [IeChan.entered_buf (by rwa [hbuf]), hbuf]
  exact ⟨List.dropLast_concat, by rw [List.getLast?_concat, Option.map_some, hr]; rfl⟩

/-! ## Edges that are not stamped -/

theorem does_ieEdge_skipped {ch : Fin 32} {rising : Bool} {back code : Nat} (hp : s.power = .run)
    (hf : s.edgeFate ch rising back code = .skipped) :
    Does (.ieEdge ch rising back code) s fun t => (t.chan ch).skip = (s.chan ch).skip - 1 ∧ Keeps s t [] := by
  have hu : s.ieEdge ch rising back code = (s.setChan ch fun c => { c with skip := c.skip - 1 }, none) := by
    unfold State.ieEdge
    dsimp only
    rw [hf]
  refine does_ieEdge_unstamped hp (by simp [hf]) hu fun t hie hget => ⟨?_, fun f _ _ => hget f⟩
  rw [chan_ofIe hie, chan_setChan_same]

theorem does_ieEdge_rate {ch : Fin 32} {rising : Bool} {back code : Nat} (hp : s.power = .run)
    (hf : s.edgeFate ch rising back code = .rateDropped) :
    Does (.ieEdge ch rising back code) s fun t => Keeps s t [F.IE_CH_STAT_RATE ch] ∧
      t.get (F.IE_CH_STAT_RATE ch) = min (s.get (F.IE_CH_STAT_RATE ch) + 1) (2 ^ (F.IE_CH_STAT_RATE ch).width - 1) := by
  have hu : s.ieEdge ch rising back code =
      ((s.count (F.IE_CH_STAT_RATE ch) 1).setChan ch fun c => { c with skip := 2 ^ s.chPrescale ch - 1 }, none) := by
    unfold State.ieEdge
    dsimp only
    rw [hf]
  refine does_ieEdge_unstamped hp (by simp [hf]) hu fun t _ hget => ⟨fun f h1 h2 => ?_, ?_⟩
  · exact (hget f).trans ((Keeps.refl s _).count (F.IE_CH_STAT_RATE ch) 1 (by simp) f h1 h2)
  · exact (hget _).trans (get_count_same s _ 1)

theorem does_ieEdge_calMissed {ch : Fin 32} {rising : Bool} {back code : Nat} (hp : s.power = .run)
    (hf : s.edgeFate ch rising back code = .calMissed) :
    Does (.ieEdge ch rising back code) s fun t => Keeps s t [F.IE_CH_STAT_CALMISS ch] ∧ (t.chan ch).calGap = true ∧
      t.get (F.IE_CH_STAT_CALMISS ch) = min (s.get (F.IE_CH_STAT_CALMISS ch) + 1) (2 ^ (F.IE_CH_STAT_CALMISS ch).width - 1) := by
  have hu : s.ieEdge ch rising back code = ((s.count (F.IE_CH_STAT_CALMISS ch) 1).setChan ch fun c =>
      { c with calGap := true, skip := if c.skip = 0 then 2 ^ s.chPrescale ch - 1 else c.skip - 1 }, none) := by
    unfold State.ieEdge
    dsimp only
    rw [hf]
  refine does_ieEdge_unstamped hp (by simp [hf]) hu fun t hie hget => ⟨fun f h1 h2 => ?_, ?_, ?_⟩
  · exact (hget f).trans ((Keeps.refl s _).count (F.IE_CH_STAT_CALMISS ch) 1 (by simp) f h1 h2)
  · rw [chan_ofIe hie, chan_setChan_same]
  · exact (hget _).trans (get_count_same s _ 1)

/-! ## Timeouts -/

theorem does_intervalStartTimeout {ch : Fin 32} (hp : s.power = .run) (hs : (s.chan ch).start.isSome = true) :
    Does (.intervalStartTimeout ch) s fun t => (t.chan ch).start = none ∧ Keeps s t [F.IE_CH_STAT_UNPAIRED ch] ∧
      t.get (F.IE_CH_STAT_UNPAIRED ch) = min (s.get (F.IE_CH_STAT_UNPAIRED ch) + 1) (2 ^ (F.IE_CH_STAT_UNPAIRED ch).width - 1) := by
  refine does_running (by unfold exec; rfl) hp ?_
  rw [hs, State.when_true]
  have hk : Keeps s (s.count (F.IE_CH_STAT_UNPAIRED ch) 1) [F.IE_CH_STAT_UNPAIRED ch] := (Keeps.refl s _).count _ 1 (by simp)
  refine ⟨?_, Keeps.settle (hk.next rfl), ?_⟩
  · rw [chan_settle, chan_setChan_same]
  · rw [State.settle_get]
    exact get_count_same s _ 1

/-- Overdue edges end the presence that the limit tests; with the longer limit the shorter has passed too (R89). -/
theorem does_refPresenceTimeout_overdue {ch : Fin 32} {two : Bool} (hp : s.power = .run) (ho : s.edgeOverdue ch (if two then 4 else 3) = true) :
    Does (.refPresenceTimeout ch two) s fun t => t.rs.near15.getD ch true = false ∧ (two = true → t.rs.near20.getD ch true = false) ∧
      Frame { s with rs.near15 := t.rs.near15, rs.near20 := t.rs.near20 } t [] := by
  refine does_running (by unfold exec; rfl) hp ?_
  rw [ho, State.when_true, State.settle_rs]
  cases two
  · exact ⟨getD_assign_same _ _ _ _ _, nofun, Frame.settle _ []⟩
  · exact ⟨getD_assign_same _ _ _ _ _, fun _ => getD_assign_same _ _ _ _ _, Frame.settle _ []⟩

theorem does_refPresenceTimeout_early {ch : Fin 32} {two : Bool} (hp : s.power = .run) (ho : s.edgeOverdue ch (if two then 4 else 3) = false) :
    Does (.refPresenceTimeout ch two) s fun t => Frame s t [] := by
  refine does_running (by unfold exec; rfl) hp ?_
  rw [ho]
  exact Frame.settle s []

/-- Settles O4: an edge's fate decides what it comes to, each by its own lemma; a stamp then goes to its channel's owner. -/
theorem edgeIsStampedAndStored : Obligations.EdgeIsStampedAndStored := by
  refine ⟨fun s ch rising back code hp => ⟨does_ieEdge_skipped hp, does_ieEdge_rate hp, does_ieEdge_calMissed hp, does_ieEdge_stores hp,
    fun hf hd hch => does_ieEdge_stamped hp hf hd ?_⟩, fun s ch hp hs => does_intervalStartTimeout hp hs,
    fun s ch two hp => ⟨does_refPresenceTimeout_overdue hp, does_refPresenceTimeout_early hp⟩⟩
  rw [State.settle_gn, hch]
  rfl

end Sys2Proof.Machine
end

section
/-! PROOF. Gates, result registers and statistics blocks (O5; R74, R75, R79, R80). -/
namespace Sys2Proof.Machine

variable {s t u : State} {n : Nat} {fs : List Fld}

/-! ## Gates (R75, R76) -/

/-- A result keeps its channel's gate as it is, and so does the end of a frequency window with it. -/
theorem endWindow_step (s : State) {n : Nat} (hn : n < 32) (carry : Bool) :
    ChanStep s (s.endWindow n carry) [n] ∧ ((s.endWindow n carry).chan n).gateOpen = (s.chan n).gateOpen := by
  obtain ⟨hstep, hchan⟩ := storeResult_step s hn none (s.windowResult n)
  refine ⟨hstep.trans (ChanStep.setChan _ n _), ?_⟩
  unfold State.endWindow
  dsimp only
  rw [chan_setChan_same, hchan]
  exact IeChan.entered_gateOpen _ _

theorem openGate_step (s : State) (n : Nat) : ChanStep s (s.openGate n) [n] ∧ ((s.openGate n).chan n).gateOpen = true := by
  refine ⟨ChanStep.setChan s n _, ?_⟩
  unfold State.openGate
  rw [chan_setChan_same]

/-- The gate window of channel n in level mode closes, and an open frequency window with it (R75). -/
def State.closeGate (s : State) (n : Nat) : State :=
  (s.setChan n fun c => { c with gateOpen := false, gateTo := if c.gateOpen then some (s.tick / 2 ^ 32) else c.gateTo }).when
    ((s.chan n).gateOpen && s.chMode n == 3) (·.endWindow n false)

theorem closeGate_step (s : State) {n : Nat} (hn : n < 32) : ChanStep s (s.closeGate n) [n] ∧ ((s.closeGate n).chan n).gateOpen = false := by
  unfold State.closeGate
  have hstep := ChanStep.setChan s n fun c => { c with gateOpen := false, gateTo := if c.gateOpen then some (s.tick / 2 ^ 32) else c.gateTo }
  have hgate := congrArg IeChan.gateOpen
    (chan_setChan_same s n fun c => { c with gateOpen := false, gateTo := if c.gateOpen then some (s.tick / 2 ^ 32) else c.gateTo })
  generalize s.setChan n _ = t at hstep hgate ⊢
  cases (s.chan n).gateOpen && s.chMode n == 3
  · exact ⟨hstep, hgate⟩
  · obtain ⟨hend, hkept⟩ := endWindow_step t hn false
    exact ⟨hstep.trans hend, hkept.trans hgate⟩

theorem gateChannel_level (h : s.on (F.IE_CH_CFG_GATE_MODE n) = false) (asserted : Bool) :
    s.gateChannel n asserted = if asserted then s.openGate n else s.closeGate n := by
  unfold State.gateChannel
  simp only [h]
  rfl

theorem gateChannel_edge (h : s.on (F.IE_CH_CFG_GATE_MODE n) = true) (asserted : Bool) : s.gateChannel n asserted =
    if asserted then (if (s.chan n).gateOpen then s.setChan n fun c => { c with gateIgn := true } else s.openGate n) else s := by
  unfold State.gateChannel
  simp only [h]
  cases asserted <;> rfl

/-- An assertion leaves the window open, a deassertion in level mode leaves it closed. -/
theorem gateChannel_step (s : State) {n : Nat} (hn : n < 32) (asserted : Bool) : ChanStep s (s.gateChannel n asserted) [n] ∧
    (asserted = true → ((s.gateChannel n asserted).chan n).gateOpen = true) ∧
    (asserted = false → s.on (F.IE_CH_CFG_GATE_MODE n) = false → ((s.gateChannel n asserted).chan n).gateOpen = false) := by
  obtain ⟨hopen, hopened⟩ := openGate_step s n
  obtain ⟨hclose, hclosed⟩ := closeGate_step s hn
  cases hmode : s.on (F.IE_CH_CFG_GATE_MODE n)
  · rw [gateChannel_level hmode]
    cases asserted
    · exact ⟨hclose, nofun, fun _ _ => hclosed⟩
    · exact ⟨hopen, fun _ => hopened, nofun⟩
  · rw [gateChannel_edge hmode]
    cases asserted
    · exact ⟨ChanStep.refl s _, nofun, nofun⟩
    · cases hg : (s.chan n).gateOpen
      · exact ⟨hopen, fun _ => hopened, nofun⟩
      · exact ⟨ChanStep.setChan s n _, fun _ => (congrArg IeChan.gateOpen (chan_setChan_same s n _)).trans hg, nofun⟩

/-- Turns that each change the one channel of their number change those channels alone. -/
theorem chanStep_forAll {f : State → Nat → State} {l : List Nat} (h : ∀ t, ∀ n ∈ l, ChanStep t (f t n) [n]) (s : State) :
    ChanStep s (s.forAll l f) l :=
  forAll_induct (P := fun t => ChanStep s t l)
    (fun t n hn ht => ht.trans ⟨(h t n hn).frame, (h t n hn).gates, fun _ hk => (h t n hn).other fun e => hk (e ▸ hn)⟩) (ChanStep.refl s l)

/-- Each turn meets its channel as it was before all of them, and the others leave what it makes of it. -/
theorem chan_forAll {f : State → Nat → State} {l : List Nat} (hl : l.Nodup) (h : ∀ t, ∀ n ∈ l, ChanStep t (f t n) [n]) {n : Nat}
    (hn : n ∈ l) (s : State) : ∃ t, IeFrame s t resultFields ∧ t.chan n = s.chan n ∧ (s.forAll l f).chan n = (f t n).chan n := by
  induction l generalizing s with
  | nil => cases hn
  | cons m l ih =>
    obtain ⟨hm, hl⟩ := List.nodup_cons.mp hl
    have hrest : ∀ t, ∀ n ∈ l, ChanStep t (f t n) [n] := fun t n hn => h t n (List.mem_cons_of_mem _ hn)
    obtain rfl | hn := List.mem_cons.mp hn
    · exact ⟨s, IeFrame.refl s _, rfl, (chanStep_forAll hrest (f s n)).others n hm⟩
    · have hfirst := h s m List.mem_cons_self
      have hne : n ≠ m := fun e => hm (e ▸ hn)
      obtain ⟨t, hframe, hchan, hlast⟩ := ih hl hrest hn (f s m)
      exact ⟨t, hfirst.frame.trans hframe, hchan.trans (hfirst.other hne), hlast⟩

/-- A turn of a transition: channel n, where the gate gates it, with the polarity that it has in s. -/
def State.gateTurn (s : State) (gate : Nat) (level : Bool) (t : State) (n : Nat) : State :=
  t.when (t.chanEnabled n && t.get (F.IE_CH_CFG_GATE_SEL n) == gate + 1) (·.gateChannel n (level == s.on (F.IE_CH_CFG_GATE_POL n)))

theorem gateTurn_step (s : State) (gate : Nat) (level : Bool) (t : State) {n : Nat} (hn : n < 32) : ChanStep t (s.gateTurn gate level t n) [n] := by
  unfold State.gateTurn State.when
  split
  · exact (gateChannel_step t hn _).1
  · exact ChanStep.refl t _

/-- The gate input takes the level. -/
def State.setGate (s : State) (gate : Nat) (level : Bool) : State := { s with ie.gates := assign false gate level s.ie.gates }

theorem setGate_frame (s : State) (gate : Nat) (level : Bool) : IeFrame s (s.setGate gate level) fs := Frame.refl _ fs

theorem exec_gateTransition (gate : Fin 2) (level : Bool) (s : State) : exec (.gateTransition gate level) s = running s fun s =>
    if level == s.ie.gates.getD gate.val false then s else (s.setGate gate level).forAll (List.range 32) (s.gateTurn gate level) := rfl

theorem IeFrame.frameIn (h : IeFrame s t resultFields) : FrameIn { s with ie := t.ie } t 0x03 :=
  ⟨fun f hf ht => h.get f (fun hm => hf (key_resultFields _ hm).1) ht, h.2⟩

theorem does_gateTransition (hp : s.power = .run) (gate : Fin 2) (level : Bool) :
    Does (.gateTransition gate level) s fun t => t.ie.gates.getD gate.val false = level ∧ FrameIn { s with ie := t.ie } t 0x03 ∧
      (s.ie.gates.getD gate.val false = level → t.ie = s.ie ∧ Keeps s t []) ∧
      (∀ n < 32, s.ie.gates.getD gate.val false ≠ level → s.chanEnabled n = true → s.get (F.IE_CH_CFG_GATE_SEL n) = gate.val + 1 →
        (level = s.on (F.IE_CH_CFG_GATE_POL n) → (t.chan n).gateOpen = true) ∧
        (level ≠ s.on (F.IE_CH_CFG_GATE_POL n) → s.on (F.IE_CH_CFG_GATE_MODE n) = false → (t.chan n).gateOpen = false)) := by
  refine does_running (exec_gateTransition gate level s) hp ?_
  by_cases hsame : s.ie.gates.getD gate.val false = level
  · have hb : (level == s.ie.gates.getD gate.val false) = true := beq_iff_eq.mpr hsame.symm
    rw [if_pos hb]
    refine ⟨?_, (IeFrame.ofFrame (Frame.settle s _)).frameIn, fun _ => ⟨State.settle_ie s, (Frame.settle s []).keeps⟩,
      fun _ _ hne => absurd hsame hne⟩
    rw [State.settle_ie]
    exact hsame
  have hb : ¬(level == s.ie.gates.getD gate.val false) = true := fun h => hsame (beq_iff_eq.mp h).symm
  rw [if_neg hb]
  have hu : IeFrame s (s.setGate gate level) resultFields := setGate_frame s gate level
  have hturn (t : State) (n : Nat) (hn : n ∈ List.range 32) := gateTurn_step s gate level t (List.mem_range.mp hn)
  have hall := chanStep_forAll hturn (s.setGate gate level)
  refine ⟨?_, (hu.trans (hall.frame.trans (IeFrame.ofFrame (Frame.settle _ _)))).frameIn, fun h => absurd h hsame, fun n hn _ hen hsel => ?_⟩
  · rw [State.settle_ie]
    rw [hall.gates]
    exact getD_assign_same _ _ _ _ _
  obtain ⟨t, hframe, -, hchan⟩ := chan_forAll List.nodup_range hturn (List.mem_range.mpr hn) (s.setGate gate level)
  have hst := hu.trans hframe
  have hcond : (t.chanEnabled n && t.get (F.IE_CH_CFG_GATE_SEL n) == gate.val + 1) = true := by
    rw [hst.chanEnabled hn, hst.config hn (F.IE_CH_CFG_GATE_SEL n) (by simp), hen, hsel]
    simp
  have hmode : t.on (F.IE_CH_CFG_GATE_MODE n) = s.on (F.IE_CH_CFG_GATE_MODE n) := by
    unfold State.on
    rw [hst.config hn (F.IE_CH_CFG_GATE_MODE n) (by simp)]
  rw [chan_settle, hchan, State.gateTurn, hcond, State.when_true]
  obtain ⟨-, hopens, hcloses⟩ := gateChannel_step t hn (level == s.on (F.IE_CH_CFG_GATE_POL n))
  exact ⟨fun h => hopens (by simp [h]), fun h hm => hcloses (by simp [h]) (hmode.trans hm)⟩

/-! ## The oldest result (R74) -/

/-- The result registers with what a read of a result gives them. -/
def resultRegs (n : Nat) (r : IeResult) : List (Fld × Nat) :=
  [(F.IE_CH_RES_PH_PH n, (clampI (-2 ^ 63) (2 ^ 63 - 1) r.ph % (2 ^ (F.IE_CH_RES_PH_PH n).width : Nat)).toNat), (F.IE_CH_RES_SEC_SEC n, secOf r.corr),
    (F.IE_CH_RES_NSF_FRAC n, nsfOf r.corr), (F.IE_CH_RES_NSF_NS n, nsfOf r.corr / 2 ^ 32), (F.IE_CH_RES_FLG_EDGE n, r.flg / 2 ^ 0),
    (F.IE_CH_RES_FLG_CAL_STALE n, r.flg / 2 ^ 1), (F.IE_CH_RES_FLG_MIG n, r.flg / 2 ^ 2), (F.IE_CH_RES_FLG_EMPTY n, r.flg / 2 ^ 3),
    (F.IE_CH_RES_FLG_GATE_IGN n, r.flg / 2 ^ 4), (F.IE_CH_RES_FLG_CORR_VALID n, r.flg / 2 ^ 5), (F.IE_CH_RES_FLG_CALGAP n, r.flg / 2 ^ 6),
    (F.IE_CH_RES_FLG_COUNT n, r.flg / 2 ^ 16)]

/-- The channel without its oldest result. -/
def State.takeResult (s : State) (n : Nat) : State :=
  s.setChan n fun c => { c with buf := c.buf.tail, dropped := c.dropped && !c.buf.tail.isEmpty }

theorem takeResult_frame (s : State) (n : Nat) : IeFrame s (s.takeResult n) fs := IeFrame.setChan s n _

theorem readResRaw_eq (s : State) (n : Nat) : s.readResRaw n =
    ((s.takeResult n).putAll (resultRegs n ((s.chan n).buf.headD {})), ((s.chan n).buf.headD {}).raw) := rfl

theorem nodup_resultRegs (n : Nat) (r : IeResult) : (((resultRegs n r).map Prod.fst).map Fld.key).Nodup := by
  have hk : ((resultRegs n r).map Prod.fst).map Fld.key =
      [0, 512, 1024, 1056, 1536, 1537, 1538, 1539, 1540, 1541, 1542, 1552].map ((0x030030 + n * 0x100) * 64 + ·) := by
    simp only [resultRegs, List.map_cons, List.map_nil, Fld.key, F.IE_CH_RES_PH_PH, F.IE_CH_RES_SEC_SEC, F.IE_CH_RES_NSF_FRAC, F.IE_CH_RES_NSF_NS,
      F.IE_CH_RES_FLG_EDGE, F.IE_CH_RES_FLG_CAL_STALE, F.IE_CH_RES_FLG_MIG, F.IE_CH_RES_FLG_EMPTY, F.IE_CH_RES_FLG_GATE_IGN,
      F.IE_CH_RES_FLG_CORR_VALID, F.IE_CH_RES_FLG_CALGAP, F.IE_CH_RES_FLG_COUNT, List.cons.injEq, true_and, and_true]
    omega
  rw [hk]
  exact List.Nodup.map (fun a b h => Nat.add_left_cancel h) (by decide)

/-- A signed field depends on the field alone. -/
theorem getI_congr {f : Fld} (h : t.get f = s.get f) : t.getI f = s.getI f := by
  unfold State.getI
  rw [h]

theorem ns_lt (x : Nat) : nsfOf x / 2 ^ 32 < 2 ^ 32 := by
  have := nsfOf_lt x
  omega

theorem does_ieResRawRead {path : Path} {ch : Fin 32} (hp : s.power = .run) (hj : s.judge path (F.IE_CH_RES_RAW_RAW ch).off false = .served) :
    let r := (s.chan ch).buf.headD {}
    Does (.ieResRawRead path ch) s fun t =>
      Sends s t (.readData (F.IE_CH_RES_RAW_RAW ch).off (if (s.chan ch).buf = [] then 0 else r.raw)) ∧ (t.chan ch).buf = (s.chan ch).buf.tail ∧
      (∀ n, n ≠ ch.val → t.chan n = s.chan n) ∧
      (-2 ^ 63 ≤ r.ph → r.ph < 2 ^ 63 → t.getI (F.IE_CH_RES_PH_PH ch) = r.ph) ∧ t.get (F.IE_CH_RES_SEC_SEC ch) = secOf r.corr % 2 ^ 48 ∧
      t.get (F.IE_CH_RES_NSF_NS ch) = nsfOf r.corr / 2 ^ 32 ∧ t.get (F.IE_CH_RES_NSF_FRAC ch) = nsfOf r.corr % 2 ^ 32 ∧
      t.get (F.IE_CH_RES_FLG_EDGE ch) = r.flg % 2 ∧ t.get (F.IE_CH_RES_FLG_CAL_STALE ch) = r.flg / 2 % 2 ∧
      t.get (F.IE_CH_RES_FLG_MIG ch) = r.flg / 4 % 2 ∧ t.get (F.IE_CH_RES_FLG_EMPTY ch) = r.flg / 8 % 2 ∧
      t.get (F.IE_CH_RES_FLG_GATE_IGN ch) = r.flg / 16 % 2 ∧ t.get (F.IE_CH_RES_FLG_CORR_VALID ch) = r.flg / 32 % 2 ∧
      t.get (F.IE_CH_RES_FLG_CALGAP ch) = r.flg / 64 % 2 ∧ t.get (F.IE_CH_RES_FLG_COUNT ch) = r.flg / 2 ^ 16 % 2 ^ 24 ∧
      Frame { s with ie := t.ie } t [F.IE_CH_RES_PH_PH ch, F.IE_CH_RES_SEC_SEC ch, F.IE_CH_RES_NSF_NS ch, F.IE_CH_RES_NSF_FRAC ch,
        F.IE_CH_RES_FLG_EDGE ch, F.IE_CH_RES_FLG_CAL_STALE ch, F.IE_CH_RES_FLG_MIG ch, F.IE_CH_RES_FLG_EMPTY ch, F.IE_CH_RES_FLG_GATE_IGN ch,
        F.IE_CH_RES_FLG_CORR_VALID ch, F.IE_CH_RES_FLG_CALGAP ch, F.IE_CH_RES_FLG_COUNT ch] := by
  intro r
  refine does_running (f := fun s => s.hostRead path (F.IE_CH_RES_RAW_RAW ch).off fun s =>
    (s.readResRaw ch).1.emit (.readData (F.IE_CH_RES_RAW_RAW ch).off (s.readResRaw ch).2)) (by unfold exec; rfl) hp ?_
  rw [State.hostRead_served _ _ _ _ hj, readResRaw_eq]
  dsimp only
  have hraw : (if (s.chan ch).buf = [] then 0 else r.raw) = r.raw := by
    split
    · next h => simp [r, h]
    · rfl
  rw [hraw]
  generalize hu : (s.takeResult ch).putAll (resultRegs ch r) = u
  have hie : u.ie = (s.takeResult ch).ie := hu ▸ putAll_ie _ _
  have houts : u.outs = s.outs := hu ▸ putAll_outs _ _
  have hget (m : OutMsg) (f : Fld) : (u.emit m).settle.get f = u.get f := by simp
  have hregs := get_putAll (s.takeResult ch) (nodup_resultRegs ch r)
  rw [hu] at hregs
  simp only [resultRegs, List.forall_mem_cons, List.not_mem_nil, false_implies, implies_true, and_true] at hregs
  obtain ⟨hph, hsec, hfrac, hns, h0, h1, h2, h3, h4, h5, h6, h16⟩ := hregs
  refine ⟨sends_emit _ houts (outs_settle _), ?_, fun n hn => ?_, fun hlo hhi => ?_, (hget _ _).trans hsec, (hget _ _).trans (hns.trans ?_),
    (hget _ _).trans hfrac, (hget _ _).trans (h0.trans ?_), (hget _ _).trans h1, (hget _ _).trans h2, (hget _ _).trans h3, (hget _ _).trans h4,
    (hget _ _).trans h5, (hget _ _).trans h6, (hget _ _).trans h16, ?_⟩
  · rw [chan_settle, chan_emit, chan_ofIe (s := s.takeResult ch) hie, State.takeResult, chan_setChan_same]
  · rw [chan_settle, chan_emit, chan_ofIe (s := s.takeResult ch) hie, State.takeResult, chan_setChan_other _ _ hn]
  · have hput : u.get (F.IE_CH_RES_PH_PH ch) = (s.putI (F.IE_CH_RES_PH_PH ch) (clampI (-2 ^ 63) (2 ^ 63 - 1) r.ph)).get (F.IE_CH_RES_PH_PH ch) :=
      hph.trans (State.get_put_same s _ _).symm
    have hclamp : clampI (-2 ^ 63) (2 ^ 63 - 1) r.ph = r.ph := by
      unfold clampI
      omega
    rw [getI_congr ((hget _ _).trans hput), getI_putI (k := 63) rfl (by rw [hclamp]; exact ⟨hlo, hhi⟩), hclamp]
  · exact Nat.mod_eq_of_lt (ns_lt _)
  · simp [F.IE_CH_RES_FLG_EDGE]
  · have hput : IeFrame s u ((resultRegs ch r).map Prod.fst) := hu ▸ (takeResult_frame s ch).trans (IeFrame.ofFrame (Frame.putAll_fst _ _))
    refine (hput.mono ?_).trans (IeFrame.ofFrame ((Frame.emit u _ _).trans (Frame.settle _ _)))
    simp [resultRegs]

/-! ## Statistics (R79, R80) -/

/-- The fields of IE_STm_CFG with a word's values. -/
def stCfgRegs (m : Nat) (v : Word) : List (Fld × Nat) :=
  [(F.IE_ST_CFG_EN m, (F.IE_ST_CFG_EN m).ofWord v), (F.IE_ST_CFG_SRC m, (F.IE_ST_CFG_SRC m).ofWord v),
    (F.IE_ST_CFG_CONT m, (F.IE_ST_CFG_CONT m).ofWord v), (F.IE_ST_CFG_N m, (F.IE_ST_CFG_N m).ofWord v)]

theorem writeStCfg_start {m : Nat} {v : Word} (h : (F.IE_ST_CFG_EN m).ofWord v = 1) : s.writeStCfg m v =
    (s.putAll (stCfgRegs m v ++ [(F.IE_ST_STAT_SEQ m, 0)])).setEngine m (fun _ => freshBlock true (s.on F.PM_STAT_DIP)) := by
  unfold State.writeStCfg
  dsimp only
  rw [if_pos h]
  rfl

theorem writeStCfg_stop {m : Nat} {v : Word} (h : (F.IE_ST_CFG_EN m).ofWord v ≠ 1) :
    s.writeStCfg m v = (s.putAll (stCfgRegs m v)).setEngine m (fun e => { e with run := false }) := by
  unfold State.writeStCfg
  dsimp only
  rw [if_neg h]
  rfl

theorem nodup_stCfgRegs (m : Nat) (v : Word) : (((stCfgRegs m v ++ [(F.IE_ST_STAT_SEQ m, 0)]).map Prod.fst).map Fld.key).Nodup := by
  have hk : ((stCfgRegs m v ++ [(F.IE_ST_STAT_SEQ m, 0)]).map Prod.fst).map Fld.key = [0, 1, 6, 8, 544].map ((0x032000 + m * 0x100) * 64 + ·) := by
    simp only [stCfgRegs, List.cons_append, List.nil_append, List.map_cons, List.map_nil, Fld.key, F.IE_ST_CFG_EN, F.IE_ST_CFG_SRC,
      F.IE_ST_CFG_CONT, F.IE_ST_CFG_N, F.IE_ST_STAT_SEQ, List.cons.injEq, true_and, and_true]
    omega
  rw [hk]
  exact List.Nodup.map (fun a b h => Nat.add_left_cancel h) (by decide)

theorem engine_putAll (s : State) (l : List (Fld × Nat)) (k : Nat) : (s.putAll l).engine k = s.engine k := by
  unfold State.engine
  rw [putAll_ie]

/-- SEQ is no field of the configuration. -/
theorem seq_apart (m : Nat) (v : Word) : ∀ e : Fld × Nat, e ∈ stCfgRegs m v → (F.IE_ST_STAT_SEQ m).key ≠ e.1.key := fun e he h => by
  have hnd := nodup_stCfgRegs m v
  rw [List.map_append, List.map_append] at hnd
  exact (List.nodup_append.mp hnd).2.2 _ (List.mem_map_of_mem (List.mem_map_of_mem he)) _ (by simp) h.symm

/-- The configuration reads as written, alone or with another field beside it. -/
theorem get_stCfgRegs (s : State) {m : Nat} {v : Word} {l : List (Fld × Nat)} (hl : ((l.map Prod.fst).map Fld.key).Nodup) (hsub : stCfgRegs m v ⊆ l) :
    ∀ f ∈ (stCfgRegs m v).map Prod.fst, (s.putAll l).get f = f.ofWord v := fun f hf => by
  have hval : ∀ e : Fld × Nat, e ∈ stCfgRegs m v → e.2 = e.1.ofWord v := by simp [stCfgRegs]
  obtain ⟨e, he, rfl⟩ := List.mem_map.mp hf
  rw [get_putAll s hl e (hsub he), hval e he, ofWord_mod]

/-- A write of IE_STm_CFG writes its fields, and SEQ with a start; of the engine's hidden state only engine m changes (R79). -/
theorem writeStCfg_step (s : State) (m : Nat) (v : Word) : ∃ l g, s.writeStCfg m v = (s.putAll l).setEngine m g ∧
    EngineStep s (s.writeStCfg m v) [F.IE_ST_CFG_EN m, F.IE_ST_CFG_SRC m, F.IE_ST_CFG_CONT m, F.IE_ST_CFG_N m, F.IE_ST_STAT_SEQ m] := by
  have hstep (l : List (Fld × Nat)) (g : IeEngine → IeEngine) (fs : List Fld) (h : ∀ k ∈ (l.map Prod.fst).map Fld.key, k ∈ fs.map Fld.key) :
      EngineStep s ((s.putAll l).setEngine m g) fs :=
    (EngineStep.ofFrame ((Frame.putAll_fst s l).mono h)).trans (EngineStep.setEngine _ m g)
  by_cases hen : (F.IE_ST_CFG_EN m).ofWord v = 1
  · rw [writeStCfg_start hen]
    exact ⟨_, _, rfl, hstep _ _ _ (by simp [stCfgRegs])⟩
  · rw [writeStCfg_stop hen]
    exact ⟨_, _, rfl, hstep _ _ _ (by simp [stCfgRegs])⟩

/-- What a write of IE_STm_CFG leaves of its fields, of SEQ and of the engine (R79). -/
theorem writeStCfg_writes (s : State) (m : Nat) (v : Word) : (∀ f ∈ (stCfgRegs m v).map Prod.fst, (s.writeStCfg m v).get f = f.ofWord v) ∧
    if (F.IE_ST_CFG_EN m).ofWord v = 1 then
      (s.writeStCfg m v).engine m = freshBlock true (s.on F.PM_STAT_DIP) ∧ (s.writeStCfg m v).get (F.IE_ST_STAT_SEQ m) = 0
    else (s.writeStCfg m v).engine m = { s.engine m with run := false } ∧ (s.writeStCfg m v).get (F.IE_ST_STAT_SEQ m) = s.get (F.IE_ST_STAT_SEQ m) := by
  have hnd := nodup_stCfgRegs m v
  by_cases hen : (F.IE_ST_CFG_EN m).ofWord v = 1
  · rw [writeStCfg_start hen, if_pos hen, engine_setEngine, if_pos rfl]
    exact ⟨get_stCfgRegs s hnd (List.subset_append_left _ _), rfl, get_putAll s hnd (F.IE_ST_STAT_SEQ m, 0) (by simp)⟩
  · rw [writeStCfg_stop hen, if_neg hen, engine_setEngine, if_pos rfl, engine_putAll]
    rw [List.map_append, List.map_append] at hnd
    exact ⟨get_stCfgRegs s (List.nodup_append.mp hnd).1 (List.Subset.refl _), rfl, get_putAll_other s (seq_apart m v)⟩

theorem writeStCfg_others (s : State) {m k : Nat} (v : Word) (h : k ≠ m) : (s.writeStCfg m v).engine k = s.engine k := by
  obtain ⟨l, g, heq, -⟩ := writeStCfg_step s m v
  rw [heq, engine_setEngine, if_neg h, engine_putAll]

theorem does_ieStCfgWrite {path : Path} {m : Fin 8} {v : Word} (hp : s.power = .run) (hj : s.judge path (F.IE_ST_CFG_EN m).off true = .served) :
    Does (.ieStCfgWrite path m v) s fun t => t.get (F.IE_ST_CFG_EN m) = (F.IE_ST_CFG_EN m).ofWord v ∧
      t.get (F.IE_ST_CFG_SRC m) = (F.IE_ST_CFG_SRC m).ofWord v ∧ t.get (F.IE_ST_CFG_CONT m) = (F.IE_ST_CFG_CONT m).ofWord v ∧
      t.get (F.IE_ST_CFG_N m) = (F.IE_ST_CFG_N m).ofWord v ∧
      (if (F.IE_ST_CFG_EN m).ofWord v = 1 then t.engine m = freshBlock true (s.on F.PM_STAT_DIP) ∧ t.get (F.IE_ST_STAT_SEQ m) = 0
       else t.engine m = { s.engine m with run := false } ∧ t.get (F.IE_ST_STAT_SEQ m) = s.get (F.IE_ST_STAT_SEQ m)) ∧
      (∀ k, k ≠ m.val → t.engine k = s.engine k) ∧ t.ie.chans = s.ie.chans ∧
      Frame { s with ie := t.ie } t [F.IE_ST_CFG_EN m, F.IE_ST_CFG_SRC m, F.IE_ST_CFG_CONT m, F.IE_ST_CFG_N m, F.IE_ST_STAT_SEQ m] := by
  refine does_write (f := (·.writeStCfg m v)) (by unfold exec; rfl) hp hj ?_
  obtain ⟨hget, hengine⟩ := writeStCfg_writes s m v
  obtain ⟨_, _, -, hstep⟩ := writeStCfg_step s m v
  simp only [stCfgRegs, List.map_cons, List.map_nil, List.forall_mem_cons, List.not_mem_nil, false_implies, implies_true, and_true] at hget
  obtain ⟨hen, hsrc, hcont, hn⟩ := hget
  have hse (k : Nat) : (s.writeStCfg m v).settle.engine k = (s.writeStCfg m v).engine k := by simp [State.engine]
  simp only [State.settle_get, hse]
  refine ⟨hen, hsrc, hcont, hn, hengine, fun k hk => writeStCfg_others s v hk, ?_, hstep.ieFrame.trans (IeFrame.ofFrame (Frame.settle _ _))⟩
  rw [State.settle_ie, hstep.ie]

/-- Latching changes the latches alone, and each register named is latched at its present value. -/
theorem latchAll_latches (l : List Nat) (s : State) : (∃ L, s.latchAll l = { s with latches := L }) ∧
    ∀ off ∈ l, readCell off 0 (s.latchAll l).latches = s.word (fieldsAt off) := by
  induction l generalizing s with
  | nil => exact ⟨⟨s.latches, rfl⟩, nofun⟩
  | cons a l ih =>
    obtain ⟨⟨L, hL⟩, hread⟩ := ih (s.latch a (s.word (fieldsAt a)))
    refine ⟨⟨L, hL⟩, fun off hoff => ?_⟩
    by_cases hl : off ∈ l
    · exact hread off hl
    · obtain rfl := (List.mem_cons.mp hoff).resolve_right hl
      refine (forAll_keeps (fun t => readCell off 0 t.latches) l _ (fun t x hx => ?_) (s.latch off (s.word (fieldsAt off)))).trans
        (readCell_insert_same off _ 0 _ (dropCell_ne off _))
      have hne : off ≠ x := fun e => hl (e ▸ hx)
      exact (readCell_insert_other hne _ 0 _).trans (readCell_drop_other hne 0 _)

/-- The nine result registers of engine m. -/
def statOffs (m : Nat) : List Nat := (List.range 9).map fun i => (F.IE_ST_MEAN_MEAN m).off + 8 * i

theorem does_ieStStatRead {path : Path} {m : Fin 8} (hp : s.power = .run) (hj : s.judge path (F.IE_ST_STAT_DONE m).off false = .served) :
    Does (.ieStStatRead path m) s fun t =>
      Sends s t (.readData (F.IE_ST_STAT_DONE m).off (BitVec.ofNat 64 (s.word (fieldsAt (F.IE_ST_STAT_DONE m).off)))) ∧
      (∀ i < 9, let off := (F.IE_ST_MEAN_MEAN m).off + 8 * i; readCell off 0 t.latches = s.word (fieldsAt off)) ∧
      Frame { s with latches := t.latches } t [] := by
  refine does_running (f := fun s => s.hostRead path (F.IE_ST_STAT_DONE m).off fun s => (s.latchAll (statOffs m)).emit
    (.readData (F.IE_ST_STAT_DONE m).off (BitVec.ofNat 64 (s.word (fieldsAt (F.IE_ST_STAT_DONE m).off))))) (by unfold exec; rfl) hp ?_
  rw [State.hostRead_served _ _ _ _ hj]
  obtain ⟨⟨L, hL⟩, hread⟩ := latchAll_latches (statOffs m) s
  rw [hL] at hread ⊢
  refine ⟨sends_emit (t := { s with latches := L }) _ rfl (outs_settle _), fun i hi => ?_, ?_⟩
  · rw [State.settle_latches]
    exact hread _ (List.mem_map_of_mem (List.mem_range.mpr hi))
  · rw [State.settle_latches]
    exact (Frame.emit _ _ _).trans (Frame.settle _ _)

/-- Settles O5, by the lemma of each of its four commands. -/
theorem gatesAndStatisticsFollowTheirRegisters : Obligations.GatesAndStatisticsFollowTheirRegisters :=
  ⟨fun _ gate level hp => does_gateTransition hp gate level, fun _ _ _ hp hj => does_ieResRawRead hp hj,
    fun _ _ _ _ hp hj => does_ieStCfgWrite hp hj, fun _ _ _ hp hj => does_ieStStatRead hp hj⟩

end Sys2Proof.Machine
end

section
/-! PROOF. Calibration of channels (O6; R81 to R85). -/
namespace Sys2Proof.Machine

variable {s t u : State} {n : Nat} {fs : List Fld}

/-! ## The queue (R82) -/

theorem queueCal_eq (s : State) (n : Nat) : s.queueCal n = { s with ie.queue :=
    (if s.ie.queue.contains n || s.calCurrent == some n then s.ie.queue else s.ie.queue ++ [n]) } := by
  unfold State.queueCal
  split <;> rfl

/-- A channel is queued once: it waits already, is in calibration, or joins the end. -/
theorem queueCal_cases (s : State) (n : Nat) : ∃ q, s.queueCal n = { s with ie.queue := s.ie.queue ++ q } ∧ (∀ k ∈ q, k = n) ∧
    (n ∈ s.ie.queue ++ q ∨ s.calCurrent = some n) := by
  rw [queueCal_eq]
  split
  · next h =>
    simp only [Bool.or_eq_true, List.contains_iff_mem, beq_iff_eq] at h
    exact ⟨[], by simp, by simp, by simpa using h⟩
  · exact ⟨[n], rfl, by simp, by simp⟩

/-- Each channel of a list that p admits is queued once, where p does not look at the queue. -/
theorem queueCal_forAll {p : State → Nat → Bool} (hp : ∀ (t : State) q n, p { t with ie.queue := q } n = p t n) (l : List Nat) (s : State) :
    ∃ q, s.forAll l (fun t n => t.when (p t n) (·.queueCal n)) = { s with ie.queue := s.ie.queue ++ q } ∧
      (∀ n ∈ q, n ∈ l ∧ p s n = true) ∧ ∀ n ∈ l, p s n = true → n ∈ s.ie.queue ++ q ∨ s.calCurrent = some n := by
  induction l generalizing s with
  | nil => exact ⟨[], by simp [State.forAll], by simp, by simp⟩
  | cons m l ih =>
    obtain ⟨q, hq, hmem, hin⟩ : ∃ q, s.when (p s m) (·.queueCal m) = { s with ie.queue := s.ie.queue ++ q } ∧
        (∀ k ∈ q, k = m ∧ p s m = true) ∧ (p s m = true → m ∈ s.ie.queue ++ q ∨ s.calCurrent = some m) := by
      cases hpm : p s m
      · exact ⟨[], by simp [State.when], by simp, nofun⟩
      · obtain ⟨q, hq, hmem, hin⟩ := queueCal_cases s m
        exact ⟨q, hq, fun k hk => ⟨hmem k hk, rfl⟩, fun _ => hin⟩
    obtain ⟨r, hr, rmem, rin⟩ := ih (s.when (p s m) (·.queueCal m))
    rw [hq] at hr rmem rin
    refine ⟨q ++ r, ?_, fun k hk => ?_, fun k hk hpk => ?_⟩
    · have hcons : s.forAll (m :: l) (fun t n => t.when (p t n) (·.queueCal n)) =
          (s.when (p s m) (·.queueCal m)).forAll l fun t n => t.when (p t n) (·.queueCal n) := rfl
      rw [hcons, hq, hr]
      simp
    · obtain hk | hk := List.mem_append.mp hk
      · obtain ⟨rfl, hpk⟩ := hmem k hk
        exact ⟨List.mem_cons_self, hpk⟩
      · obtain ⟨hl, hpk⟩ := rmem k hk
        exact ⟨List.mem_cons_of_mem _ hl, (hp _ _ _).symm.trans hpk⟩
    · obtain rfl | hk := List.mem_cons.mp hk
      · exact (hin hpk).imp_left fun h => by
          rw [← List.append_assoc]
          exact List.mem_append_left _ h
      · rw [← List.append_assoc]
        exact rin k hk ((hp _ _ _).trans hpk)

theorem writeCalReq_go (ch : BitVec 5) : s.writeCalReq (BitVec.ofNat 64 (ch.toNat + 32)) = s.queueCal ch.toNat := by
  have hch := ch.isLt
  have hall : F.IE_CAL_REQ_ALL.ofWord (BitVec.ofNat 64 (ch.toNat + 32)) ≠ 1 := by
    simp only [Fld.ofWord, F.IE_CAL_REQ_ALL, BitVec.toNat_ofNat]
    omega
  have hgo : F.IE_CAL_REQ_GO.ofWord (BitVec.ofNat 64 (ch.toNat + 32)) = 1 := by
    simp only [Fld.ofWord, F.IE_CAL_REQ_GO, BitVec.toNat_ofNat]
    omega
  have hsel : F.IE_CAL_REQ_CH.ofWord (BitVec.ofNat 64 (ch.toNat + 32)) = ch.toNat := by
    simp only [Fld.ofWord, F.IE_CAL_REQ_CH, BitVec.toNat_ofNat]
    omega
  rw [State.writeCalReq, if_neg hall, hgo, hsel]
  rfl

theorem writeCalReq_all (ch : BitVec 5) : s.writeCalReq (BitVec.ofNat 64 (ch.toNat + 64)) =
    s.forAll (List.range 32) fun t n => t.when (t.chanEnabled n) (·.queueCal n) := by
  have hch := ch.isLt
  have hall : F.IE_CAL_REQ_ALL.ofWord (BitVec.ofNat 64 (ch.toNat + 64)) = 1 := by
    simp only [Fld.ofWord, F.IE_CAL_REQ_ALL, BitVec.toNat_ofNat]
    omega
  rw [State.writeCalReq, if_pos hall]

theorem does_ieCalReqGo {path : Path} {ch : BitVec 5} (hp : s.power = .run) (hj : s.judge path F.IE_CAL_REQ_GO.off true = .served) :
    Does (.ieCalReqGo path ch) s fun t => Frame { s with ie.queue :=
      (if s.ie.queue.contains ch.toNat || s.calCurrent == some ch.toNat then s.ie.queue else s.ie.queue ++ [ch.toNat]) } t [] := by
  refine does_write (f := (·.writeCalReq (BitVec.ofNat 64 (ch.toNat + 32)))) (by unfold exec; rfl) hp hj ?_
  rw [writeCalReq_go, queueCal_eq]
  exact Frame.settle _ []

theorem does_ieCalReqAll {path : Path} {ch : BitVec 5} (hp : s.power = .run) (hj : s.judge path F.IE_CAL_REQ_GO.off true = .served) :
    Does (.ieCalReqAll path ch) s fun t => Frame { s with ie.queue := t.ie.queue } t [] ∧ s.ie.queue <+: t.ie.queue ∧
      (∀ n < 32, s.chanEnabled n = true → n ∈ t.ie.queue ∨ s.calCurrent = some n) ∧
      (∀ n ∈ t.ie.queue.drop s.ie.queue.length, n < 32 ∧ s.chanEnabled n = true) := by
  refine does_write (f := (·.writeCalReq (BitVec.ofNat 64 (ch.toNat + 64)))) (by unfold exec; rfl) hp hj ?_
  obtain ⟨q, hq, hmem, hin⟩ := queueCal_forAll (p := State.chanEnabled) (fun _ _ _ => rfl) (List.range 32) s
  rw [writeCalReq_all, hq, State.settle_ie]
  refine ⟨Frame.settle _ [], List.prefix_append _ _, fun n hn hen => hin n (List.mem_range.mpr hn) hen, fun n hn => ?_⟩
  rw [List.drop_left] at hn
  exact (hmem n hn).imp_left List.mem_range.mp

/-! ## Calibrations that grow old or stale (R82, R85) -/

/-- The fields that show a channel's calibration. -/
def uncFields (n : Nat) : List Fld := [F.IE_CH_UNC_UNC n, F.IE_CAL_STAT_VALID, F.IE_CH_STAT_CAL_STALE n]

/-- UNC of a channel as it is shown (R85). -/
def IeChan.shownUnc (c : IeChan) : Nat :=
  match c.unc with
  | none => 0xFFFFFFFF
  | some u => min (if c.stale then 3 * u else u) 0xFFFFFFFF

theorem showUnc_eq (s : State) (n : Nat) : ∃ mask, s.showUnc n =
    s.putAll [(F.IE_CH_UNC_UNC n, (s.chan n).shownUnc), (F.IE_CAL_STAT_VALID, mask), (F.IE_CH_STAT_CAL_STALE n, if (s.chan n).stale then 1 else 0)] :=
  ⟨_, rfl⟩

theorem nodup_uncFields (hn : n < 32) : ((uncFields n).map Fld.key).Nodup := by
  simp only [uncFields, List.map_cons, List.map_nil, Fld.key, F.IE_CH_UNC_UNC, F.IE_CAL_STAT_VALID, F.IE_CH_STAT_CAL_STALE, List.nodup_cons,
    List.mem_cons, List.not_mem_nil, List.nodup_nil, or_false, not_false_eq_true, and_true]
  omega

/-- UNC and staleness are shown; no other field but VALID changes. -/
theorem showUnc_writes (s : State) (hn : n < 32) : Frame s (s.showUnc n) (uncFields n) ∧
    (s.showUnc n).get (F.IE_CH_UNC_UNC n) = (s.chan n).shownUnc % 2 ^ 32 ∧
    (s.showUnc n).get (F.IE_CH_STAT_CAL_STALE n) = if (s.chan n).stale then 1 else 0 := by
  obtain ⟨mask, h⟩ := showUnc_eq s n
  have hregs := get_putAll s (l := [(F.IE_CH_UNC_UNC n, (s.chan n).shownUnc), (F.IE_CAL_STAT_VALID, mask),
    (F.IE_CH_STAT_CAL_STALE n, if (s.chan n).stale then 1 else 0)]) (nodup_uncFields hn)
  rw [← h] at hregs
  simp only [List.forall_mem_cons, List.not_mem_nil, false_implies, implies_true, and_true] at hregs
  obtain ⟨hunc, -, hstale⟩ := hregs
  refine ⟨h ▸ Frame.putAll_fst _ _, hunc, hstale.trans ?_⟩
  cases (s.chan n).stale <;> rfl

theorem showUnc_ie (s : State) (n : Nat) : (s.showUnc n).ie = s.ie := rfl

/-- The registers that show a channel stand apart from the engine's own event flags, and no event tallies them. -/
theorem unc_apart (hn : n < 32) : ∀ f ∈ uncFields n, f.tallied = false ∧
    ∀ g ∈ [F.IE_EVT_CAL_DONE, F.IE_EVT_CAL_FAIL, F.IE_EVT_CAL_STALE], f.key ≠ g.key := by
  have hk : ∀ f ∈ uncFields n, f.key < 0x033018 * 64 ∧ 0x030000 * 64 ≤ f.key := by
    simp only [uncFields, List.forall_mem_cons, List.not_mem_nil, false_implies, implies_true, and_true, Fld.key, F.IE_CH_UNC_UNC,
      F.IE_CAL_STAT_VALID, F.IE_CH_STAT_CAL_STALE]
    omega
  have hevt : ∀ g ∈ [F.IE_EVT_CAL_DONE, F.IE_EVT_CAL_FAIL, F.IE_EVT_CAL_STALE], 0x033018 * 64 ≤ g.key := by decide
  intro f hf
  obtain ⟨hlt, _⟩ := hk f hf
  refine ⟨tallied_of_window (by omega), fun g hg e => ?_⟩
  have := hevt g hg
  omega

/-- A calibration becomes stale (R85). -/
theorem does_stale {c : Instr} {f : State → State} {ch : Fin 32} (hc : exec c s = running s f) (hf : f s = s.makeStale ch) (hp : s.power = .run)
    (hu : (s.chan ch).unc.isSome = true) (hs : (s.chan ch).stale = false) :
    Does c s fun t => (t.chan ch).stale = true ∧ t.get (F.IE_CH_STAT_CAL_STALE ch) = 1 ∧ t.get F.IE_EVT_CAL_STALE = 1 ∧
      Frame { s with ie := t.ie } t [F.IE_CH_STAT_CAL_STALE ch, F.IE_CH_UNC_UNC ch, F.IE_CAL_STAT_VALID, F.IE_EVT_CAL_STALE] ∧
      Logs s t 0x0212 0x03 ch ch := by
  refine does_running hc hp ?_
  rw [hf]
  have hcond : ((s.chan ch).stale || (s.chan ch).unc.isNone) = false := by
    rw [hs, Option.isNone_eq_false_iff.mpr hu]
    rfl
  unfold State.makeStale
  dsimp only
  rw [hcond]
  generalize hw : s.setChan ch (fun c => { c with stale := true }) = w
  have hstale : (w.chan ch).stale = true := by rw [← hw, chan_setChan_same]
  have hframe : IeFrame s w [F.IE_CH_STAT_CAL_STALE ch, F.IE_CH_UNC_UNC ch, F.IE_CAL_STAT_VALID, F.IE_EVT_CAL_STALE] := hw ▸ IeFrame.setChan s ch _
  have hq : w.quiet = s.quiet := hw ▸ rfl
  have hjl : w.jl = s.jl := hw ▸ rfl
  obtain ⟨hshow, -, hshown⟩ := showUnc_writes w ch.isLt
  obtain ⟨htal, hne⟩ := unc_apart ch.isLt (F.IE_CH_STAT_CAL_STALE ch) (by simp [uncFields])
  simp only [Bool.false_eq_true, if_false]
  refine ⟨?_, ?_, ?_, ?_, ?_⟩
  · rw [chan_settle, chan_event, chan_ofIe (showUnc_ie w ch), hstale]
  · rw [State.settle_get, State.event_get_other _ _ _ _ _ _ (hne _ (by simp)) htal, hshown, hstale]
    rfl
  · rw [State.settle_get, State.event_flag _ _ _ _ _ (by decide) (by decide)]
  · exact hframe.trans (IeFrame.ofFrame (((hshow.mono (by simp [uncFields])).trans (Frame.event _ _ _ _ _ (by simp))).trans (Frame.settle _ _)))
  · exact (logs_event (u := w.showUnc ch) (hshow.quiet.trans hq) hjl F.IE_EVT_CAL_STALE 0x0212 ch ch).ofJl (State.settle_jl _)

/-- A happening that queues the channel. -/
theorem does_queueCal {c : Instr} {f : State → State} {ch : Nat} (hc : exec c s = running s f) (hf : f s = s.queueCal ch) (hp : s.power = .run) :
    Does c s fun t => Frame { s with ie.queue :=
      (if s.ie.queue.contains ch || s.calCurrent == some ch then s.ie.queue else s.ie.queue ++ [ch]) } t [] := by
  refine does_running hc hp ?_
  rw [hf, queueCal_eq]
  exact Frame.settle _ []

/-- A happening that leaves all as it is. -/
theorem does_idle {c : Instr} {f : State → State} (hc : exec c s = running s f) (hf : f s = s) (hp : s.power = .run) :
    Does c s fun t => Frame s t [] := by
  refine does_running hc hp ?_
  rw [hf]
  exact Frame.settle s []

/-- What a channel does not do on its own (R85). -/
theorem autoCal_left {ch : Nat} (h : s.on F.IE_CAL_CFG_AUTO = false ∨ s.get F.IE_CAL_CFG_SKIP / 2 ^ ch % 2 = 1) : s.autoCal ch = false ∧
    (!s.on F.IE_CAL_CFG_AUTO || s.get F.IE_CAL_CFG_SKIP / 2 ^ ch % 2 == 1) = true := by
  unfold State.autoCal
  rcases h with h | h <;> simp [h]

theorem exec_calPeriodExpiry (ch : Fin 32) (s : State) : exec (.calPeriodExpiry ch) s = running s fun s =>
    s.when (s.autoCal ch && s.calOlder ch 1) (·.queueCal ch) := rfl

theorem exec_calAgeStale (ch : Fin 32) (s : State) : exec (.calAgeStale ch) s = running s fun s => s.when (s.calOlder ch 2) (·.makeStale ch) := rfl

theorem exec_calTempTrigger (ch : Fin 32) (s : State) : exec (.calTempTrigger ch) s = running s fun s => s.when (s.calMoved ch) fun s =>
    if s.autoCal ch then s.queueCal ch
    else s.when (!s.on F.IE_CAL_CFG_AUTO || s.get F.IE_CAL_CFG_SKIP / 2 ^ ch.val % 2 == 1) (·.makeStale ch) := rfl

/-! ## A calibration begins (R81, R83) -/

/-- The calibration of ch has begun from s in t. -/
def CalBegun (s : State) (ch : Fin 32) (rest : List Nat) (t : State) : Prop :=
  t.get F.IE_CAL_STAT_BUSY = 1 ∧ t.get F.IE_CAL_STAT_CUR = ch.val ∧ t.get (F.IE_CH_STAT_CAL_BUSY ch) = 1 ∧ t.ie.queue = rest ∧
    t.ie.calLog = max 16 (min 24 (s.get F.IE_CAL_CFG_LOG2_COUNT)) ∧ t.ie.chans = s.ie.chans ∧
    Frame { s with ie := t.ie, wire.ports := t.wire.ports } t [F.IE_CAL_STAT_BUSY, F.IE_CAL_STAT_CUR, F.IE_CH_STAT_CAL_BUSY ch]

/-- The registers that show a calibration in progress, with values. -/
def busyRegs (n busy cur chBusy : Nat) : List (Fld × Nat) :=
  [(F.IE_CAL_STAT_BUSY, busy), (F.IE_CAL_STAT_CUR, cur), (F.IE_CH_STAT_CAL_BUSY n, chBusy)]

theorem busyRegs_get (s : State) (hn : n < 32) (busy cur chBusy : Nat) : let t := s.putAll (busyRegs n busy cur chBusy)
    t.get F.IE_CAL_STAT_BUSY = busy % 2 ∧ t.get F.IE_CAL_STAT_CUR = cur % 32 ∧ t.get (F.IE_CH_STAT_CAL_BUSY n) = chBusy % 2 := by
  have hnd : (((busyRegs n busy cur chBusy).map Prod.fst).map Fld.key).Nodup := by
    simp only [busyRegs, List.map_cons, List.map_nil, Fld.key, F.IE_CAL_STAT_BUSY, F.IE_CAL_STAT_CUR, F.IE_CH_STAT_CAL_BUSY, List.nodup_cons,
      List.mem_cons, List.not_mem_nil, List.nodup_nil, or_false, not_false_eq_true, and_true]
    omega
  have h := get_putAll s hnd
  simp only [busyRegs, List.forall_mem_cons, List.not_mem_nil, false_implies, implies_true, and_true] at h
  exact h

/-- The registers show the calibration, and the engines on the channel record the gap (R79, R81). -/
def State.markCal (s : State) (ch : Nat) : State :=
  (s.putAll (busyRegs ch 1 ch 1)).markEngines (fun e => { e with calGap := true }) (fun m => s.get (F.IE_ST_CFG_SRC m) == ch)

/-- The marks of a lane's channel are void for the calibration of its port. -/
def State.spoilMarks (s : State) (ch : Nat) : State :=
  if 12 ≤ ch ∧ ch < 18 then { s with wire.ports := alter {} (ch - 12) (fun p => { p with calSpoilt := true }) s.wire.ports } else s

/-- The calibration at the head of the queue is the running one. -/
def State.leaveQueue (s : State) (rest : List Nat) (spoilt : Bool) (log : Nat) : State :=
  { s with ie.queue := rest, ie.calSpoilt := spoilt, ie.calLog := log }

theorem beginCal_eq {may : Nat → Bool} {ch : Nat} {rest : List Nat} (hq : s.ie.queue = ch :: rest) (hb : s.on F.IE_CAL_STAT_BUSY = false) :
    s.beginCal may = if !may ch then s
      else ((s.markCal ch).spoilMarks ch).leaveQueue rest (s.on F.PM_STAT_DIP || s.on F.TB_STAT_MIG) s.calLog2 := by
  unfold State.beginCal
  rw [hq, hb]
  dsimp -zeta only
  refine congrArg (ite _ s) ?_
  extract_lets _ t _ u
  exact congrArg (State.leaveQueue · rest (s.on F.PM_STAT_DIP || s.on F.TB_STAT_MIG) s.calLog2) (show u = t.spoilMarks ch from rfl)

/-- The same ports on both sides of a frame. -/
theorem Frame.withPorts (h : Frame s t fs) (ps : List ApPort) : Frame { s with wire.ports := ps } { t with wire.ports := ps } fs :=
  ⟨h.1, congrArg (fun x : State => { x with wire.ports := ps }) h.2⟩

theorem spoilMarks_eq (s : State) (ch : Nat) : ∃ ps, s.spoilMarks ch = { s with wire.ports := ps } := by
  unfold State.spoilMarks
  split
  · exact ⟨_, rfl⟩
  · exact ⟨s.wire.ports, rfl⟩

theorem markCal_writes (s : State) (ch : Fin 32) : (s.markCal ch).get F.IE_CAL_STAT_BUSY = 1 ∧ (s.markCal ch).get F.IE_CAL_STAT_CUR = ch.val ∧
    (s.markCal ch).get (F.IE_CH_STAT_CAL_BUSY ch) = 1 ∧ (s.markCal ch).ie.chans = s.ie.chans ∧
    IeFrame s (s.markCal ch) [F.IE_CAL_STAT_BUSY, F.IE_CAL_STAT_CUR, F.IE_CH_STAT_CAL_BUSY ch] := by
  obtain ⟨hbusy, hcur, hch⟩ := busyRegs_get s ch.isLt 1 ch 1
  have hput : Frame s (s.putAll (busyRegs ch 1 ch 1)) [F.IE_CAL_STAT_BUSY, F.IE_CAL_STAT_CUR, F.IE_CH_STAT_CAL_BUSY ch] := Frame.putAll_fst _ _
  have hmark (fs : List Fld) : EngineStep (s.putAll (busyRegs ch 1 ch 1)) (s.markCal ch) fs := engineStep_markEngines _ _ _
  have hget {f : Fld} (hf : f.tallied = false) : (s.markCal ch).get f = (s.putAll (busyRegs ch 1 ch 1)).get f :=
    (hmark []).ieFrame.get f (by simp) hf
  refine ⟨(hget (by decide)).trans hbusy, (hget (by decide)).trans (hcur.trans (Nat.mod_eq_of_lt ch.isLt)),
    (hget (tallied_of_window ?_)).trans hch, ?_, (IeFrame.ofFrame hput).trans (hmark _).ieFrame⟩
  · simp only [Fld.key, F.IE_CH_STAT_CAL_BUSY]
    omega
  · rw [(hmark []).ie, putAll_ie]

theorem does_beginCal {c : Instr} {f : State → State} {may : Nat → Bool} {ch : Fin 32} {rest : List Nat} (hc : exec c s = running s f)
    (hf : f s = s.beginCal may) (hp : s.power = .run) (hq : s.ie.queue = ch.val :: rest) (hb : s.on F.IE_CAL_STAT_BUSY = false) (hm : may ch = true) :
    Does c s (CalBegun s ch rest) := by
  refine does_running hc hp ?_
  rw [hf]
  obtain ⟨hbusy, hcur, hch, hchans, hframe⟩ := markCal_writes s ch
  obtain ⟨ps, hps⟩ := spoilMarks_eq (s.markCal ch) ch
  rw [beginCal_eq hq hb, if_neg (by simp [hm]), hps]
  unfold CalBegun
  simp only [State.settle_get, State.settle_ie, State.settle_wire]
  generalize s.markCal ch = w at hbusy hcur hch hchans hframe ⊢
  exact ⟨hbusy, hcur, hch, rfl, rfl, hchans, ((hframe.withIe _).withPorts ps).trans (Frame.settle _ _)⟩

theorem beginCal_waits {may : Nat → Bool} {ch : Nat} {rest : List Nat} (hq : s.ie.queue = ch :: rest) (hb : s.on F.IE_CAL_STAT_BUSY = false)
    (hm : may ch = false) : s.beginCal may = s := by
  rw [beginCal_eq hq hb, if_pos (by simp [hm])]

theorem exec_calStart (s : State) : exec .calStart s = running s fun s => s.beginCal fun ch => !s.calSlow ch || s.edgeJustStamped ch := rfl

theorem exec_calWaitTimeout (s : State) : exec .calWaitTimeout s = running s fun t => t.beginCal s.calSlow := rfl

/-! ## A calibration ends (R81, R84, R85) -/

/-- The registers show no calibration in progress, on channel ch no more. -/
def endRegs (ch : Nat) : List (Fld × Nat) := [(F.IE_CAL_STAT_BUSY, 0), (F.IE_CH_STAT_CAL_BUSY ch, 0), (F.IE_CAL_STAT_CUR, 0)]

theorem endRegs_get (s : State) (hn : n < 32) : (s.putAll (endRegs n)).get F.IE_CAL_STAT_BUSY = 0 ∧
    (s.putAll (endRegs n)).get (F.IE_CH_STAT_CAL_BUSY n) = 0 := by
  have hnd : (((endRegs n).map Prod.fst).map Fld.key).Nodup := by
    simp only [endRegs, List.map_cons, List.map_nil, Fld.key, F.IE_CAL_STAT_BUSY, F.IE_CAL_STAT_CUR, F.IE_CH_STAT_CAL_BUSY, List.nodup_cons,
      List.mem_cons, List.not_mem_nil, List.nodup_nil, or_false, not_false_eq_true, and_true]
    omega
  have h := get_putAll s hnd
  simp only [endRegs, List.forall_mem_cons, List.not_mem_nil, false_implies, implies_true, and_true] at h
  exact ⟨h.1, h.2.1⟩

/-- Fields that the end of a calibration of ch may write. -/
def calFields (ch : Nat) : List Fld :=
  [F.IE_CAL_STAT_BUSY, F.IE_CAL_STAT_CUR, F.IE_CH_STAT_CAL_BUSY ch, F.IE_CH_STAT_CAL_STALE ch, F.IE_CH_UNC_UNC ch, F.IE_CH_UNC_AGE ch,
    F.IE_CH_UNC_TEMP_CAL ch, F.IE_CAL_STAT_VALID, F.IE_EVT_CAL_DONE, F.IE_EVT_CAL_FAIL]

/-- The registers of a fresh calibration beside UNC. -/
def freshRegs (ch temp : Nat) : List (Fld × Nat) := [(F.IE_CH_UNC_AGE ch, 0), (F.IE_CH_UNC_TEMP_CAL ch, temp)]

/-- The channel takes a table and its UNC, and the engines on it record the gap. -/
def State.takeTable (s : State) (ch : Nat) (table : List Int) (unc : Nat) (src : Nat → Bool) : State :=
  (s.setChan ch fun c => { c with table := table, unc := some unc, stale := false, calTime := s.now }).markEngines
    (fun e => { e with calGap := true }) src

/-- The calibration was rejected: it is retried where a dip or a migration spoilt it, and else counts against a Rime pass. -/
def State.rejectCal (s : State) (ch : Nat) (spoilt bad : Bool) : State :=
  { s with ie.retry := if spoilt then s.ie.retry ++ [ch] else s.ie.retry, rd.tacBad := s.rd.tacBad || bad }

theorem exec_calComplete {ch distinct : Nat} {below : List Nat} {known : List (List (Nat × Nat))} (hc : s.calCurrent = some ch) :
    let table := provisionalTable below (2 ^ s.ie.calLog)
    let means := provisionalMeans table known
    let gain := fitLine means knownPositions
    exec (.calComplete distinct below known) s = running s fun _ =>
      if calPasses distinct means && !s.ie.calSpoilt then
        ((((s.putAll (endRegs ch)).takeTable ch (fittedTable gain means table) (calUnc ch (calResidual gain means))
          (fun m => s.get (F.IE_ST_CFG_SRC m) == ch)).showUnc ch).putAll (freshRegs ch (s.get F.PM_TEMP_TJ))).event F.IE_EVT_CAL_DONE 0x0210 ch ch
      else (((s.putAll (endRegs ch)).rejectCal ch s.ie.calSpoilt (!s.ie.calSpoilt && s.get F.RD_RIME_STAT_STATE == 1)).event
        F.IE_EVT_CAL_FAIL 0x0211 ch ch).when s.ie.calSpoilt State.retryCals := by
  intro table means gain
  show execCalComplete distinct below known s = _
  unfold execCalComplete
  refine running_congr ?_
  rw [hc]
  rfl

/-- The same memory of failed converters on both sides of a frame. -/
theorem Frame.withTacBad (h : Frame s t fs) (b : Bool) : Frame { s with rd.tacBad := b } { t with rd.tacBad := b } fs :=
  ⟨h.1, congrArg (fun x : State => { x with rd.tacBad := b }) h.2⟩

/-- The fields that show a fresh calibration. -/
def freshFields (ch : Nat) : List Fld := uncFields ch ++ [F.IE_CH_UNC_AGE ch, F.IE_CH_UNC_TEMP_CAL ch]

theorem calFields_sub (ch : Nat) : (∀ k ∈ ((endRegs ch).map Prod.fst).map Fld.key, k ∈ (calFields ch).map Fld.key) ∧
    ∀ k ∈ (freshFields ch).map Fld.key, k ∈ (calFields ch).map Fld.key := by
  simp [endRegs, uncFields, freshFields, calFields]

/-- BUSY of the engine and of the channel are none of them. -/
theorem busy_notMem (hn : n < 32) : ∀ f ∈ [F.IE_CAL_STAT_BUSY, F.IE_CH_STAT_CAL_BUSY n], f.key ∉ (freshFields n).map Fld.key := by
  refine List.forall_mem_cons.mpr ⟨?_, List.forall_mem_singleton.mpr ?_⟩
  all_goals
    simp only [freshFields, uncFields, List.cons_append, List.nil_append, List.map_cons, List.map_nil, List.mem_cons, List.not_mem_nil, or_false, Fld.key,
      F.IE_CAL_STAT_BUSY, F.IE_CAL_STAT_VALID, F.IE_CH_STAT_CAL_BUSY, F.IE_CH_STAT_CAL_STALE, F.IE_CH_UNC_UNC, F.IE_CH_UNC_AGE, F.IE_CH_UNC_TEMP_CAL]
    omega

/-- UNC stands apart from AGE and TEMP_CAL. -/
theorem unc_notMem (n temp : Nat) : (F.IE_CH_UNC_UNC n).key ∉ ((freshRegs n temp).map Prod.fst).map Fld.key := by
  simp only [freshRegs, List.map_cons, List.map_nil, List.mem_cons, List.not_mem_nil, or_false, Fld.key, F.IE_CH_UNC_UNC, F.IE_CH_UNC_AGE,
    F.IE_CH_UNC_TEMP_CAL]
  omega

/-- BUSY and UNC are not event flags, and no event tallies them. -/
theorem cal_apart (hn : n < 32) : ∀ f ∈ [F.IE_CAL_STAT_BUSY, F.IE_CH_STAT_CAL_BUSY n, F.IE_CH_UNC_UNC n],
    f.tallied = false ∧ f.key ≠ F.IE_EVT_CAL_DONE.key ∧ f.key ≠ F.IE_EVT_CAL_FAIL.key := by
  have hk : ∀ f ∈ [F.IE_CAL_STAT_BUSY, F.IE_CH_STAT_CAL_BUSY n, F.IE_CH_UNC_UNC n],
      f.key / 4194304 = 0x03 ∧ f.key ≠ F.IE_EVT_CAL_DONE.key ∧ f.key ≠ F.IE_EVT_CAL_FAIL.key := by
    simp only [List.forall_mem_cons, List.not_mem_nil, false_implies, implies_true, true_and, and_true, Fld.key, F.IE_CAL_STAT_BUSY,
      F.IE_CH_STAT_CAL_BUSY, F.IE_CH_UNC_UNC, F.IE_EVT_CAL_DONE, F.IE_EVT_CAL_FAIL]
    omega
  exact fun f hf => (hk f hf).imp_left fun h => tallied_of_window (by omega)

theorem takeTable_step (s : State) (ch : Nat) (table : List Int) (unc : Nat) (src : Nat → Bool) : IeFrame s (s.takeTable ch table unc src) fs ∧
    (s.takeTable ch table unc src).chan ch = { s.chan ch with table := table, unc := some unc, stale := false, calTime := s.now } ∧
    (s.takeTable ch table unc src).jl = s.jl := by
  have hmark (fs : List Fld) := engineStep_markEngines (fs := fs)
    (s.setChan ch fun c => { c with table := table, unc := some unc, stale := false, calTime := s.now }) (fun e => { e with calGap := true }) src
  exact ⟨(IeFrame.setChan s ch _).trans (hmark fs).ieFrame, ((hmark []).chan ch).trans (chan_setChan_same s ch _),
    forAll_inv State.jl _ _ (fun _ _ => when_inv _ _ _ rfl) _⟩

/-- A calibration without a fault: the registers no longer show it, and its table, UNC and event stand (R85). -/
theorem calComplete_good (s : State) (ch : Fin 32) (table : List Int) (unc temp : Nat) (src : Nat → Bool) :
    let t := ((((s.putAll (endRegs ch)).takeTable ch table unc src).showUnc ch).putAll (freshRegs ch temp)).event F.IE_EVT_CAL_DONE 0x0210 ch ch
    t.get F.IE_CAL_STAT_BUSY = 0 ∧ t.get (F.IE_CH_STAT_CAL_BUSY ch) = 0 ∧ Frame { s with ie := t.ie, rd.tacBad := t.rd.tacBad } t (calFields ch) ∧
      t.chan ch = { s.chan ch with table := table, unc := some unc, stale := false, calTime := s.now } ∧
      t.get (F.IE_CH_UNC_UNC ch) = min unc 0xFFFFFFFF ∧ t.get F.IE_EVT_CAL_DONE = 1 ∧ Logs s t 0x0210 0x03 ch ch := by
  obtain ⟨hbusy, hchBusy⟩ := endRegs_get s ch.isLt
  obtain ⟨hsubEnd, hsubFresh⟩ := calFields_sub ch
  have hflags := cal_apart ch.isLt
  generalize hu : s.putAll (endRegs ch) = u at hbusy hchBusy
  have hframe : IeFrame s u (calFields ch) := hu ▸ IeFrame.ofFrame ((Frame.putAll_fst _ _).mono hsubEnd)
  have hchan : u.chan ch = s.chan ch := chan_ofIe (hu ▸ putAll_ie _ _) ch
  have hnow : u.now = s.now := by rw [hframe.2]
  have hjl : u.jl = s.jl := hu ▸ putAll_jl _ _
  obtain ⟨htake, hchanT, hjlT⟩ := takeTable_step (fs := []) u ch table unc src
  generalize u.takeTable ch table unc src = w at htake hchanT hjlT
  obtain ⟨hshow, hshown, -⟩ := showUnc_writes w ch.isLt
  have hput : Frame (w.showUnc ch) ((w.showUnc ch).putAll (freshRegs ch temp)) ((freshRegs ch temp).map Prod.fst) := Frame.putAll_fst _ _
  have hfresh : Frame w ((w.showUnc ch).putAll (freshRegs ch temp)) (freshFields ch) :=
    (hshow.mono (by simp [freshFields, uncFields])).trans (hput.mono (by simp [freshFields, freshRegs]))
  have hall : IeFrame s ((w.showUnc ch).putAll (freshRegs ch temp)) (calFields ch) :=
    (hframe.trans (htake.mono (by simp))).trans (IeFrame.ofFrame (hfresh.mono hsubFresh))
  have hget : ∀ f ∈ [F.IE_CAL_STAT_BUSY, F.IE_CH_STAT_CAL_BUSY ch],
      (((w.showUnc ch).putAll (freshRegs ch temp)).event F.IE_EVT_CAL_DONE 0x0210 ch ch).get f = u.get f := fun f hf => by
    obtain ⟨htal, hdone, -⟩ := hflags f (by simp at hf ⊢; tauto)
    rw [State.event_get_other _ _ _ _ _ _ hdone htal, hfresh.get f (busy_notMem ch.isLt f hf) htal, htake.get f (by simp) htal]
  have hlogs := logs_event (u := (w.showUnc ch).putAll (freshRegs ch temp)) (Frame.quiet hall) ((putAll_jl _ _).trans (hjlT.trans hjl))
    F.IE_EVT_CAL_DONE 0x0210 ch ch
  intro t
  refine ⟨(hget _ (by simp)).trans hbusy, (hget _ (by simp)).trans hchBusy, ?_, ?_, ?_, ?_, ?_⟩
  · exact (hall.trans (IeFrame.ofFrame (Frame.event _ _ _ _ _ (by simp [calFields])))).withTacBad t.rd.tacBad
  · rw [chan_event, chan_ofIe (putAll_ie _ _), chan_ofIe (showUnc_ie w ch), hchanT, hchan, hnow]
  · obtain ⟨htal, hdone, -⟩ := hflags (F.IE_CH_UNC_UNC ch) (by simp)
    rw [State.event_get_other _ _ _ _ _ _ hdone htal, hput.get _ (unc_notMem ch temp) htal, hshown, hchanT]
    exact Nat.mod_eq_of_lt (lt_of_le_of_lt (min_le_right _ _) (by decide))
  · exact State.event_flag _ _ _ _ _ (by decide) (by decide)
  · exact hlogs

/-- Calibrations that a dip or a migration rejected are queued once neither goes on (R84). -/
theorem retryCals_cases (s : State) : ∃ q r, s.retryCals = { s with ie.queue := q, ie.retry := r } ∧
    ((s.on F.PM_STAT_DIP || s.on F.TB_STAT_MIG) = true → r = s.ie.retry) ∧
    ((s.on F.PM_STAT_DIP || s.on F.TB_STAT_MIG) = false → ∀ n ∈ s.ie.retry, n ∈ q ∨ s.calCurrent = some n) := by
  unfold State.retryCals
  cases s.on F.PM_STAT_DIP || s.on F.TB_STAT_MIG
  · obtain ⟨q, hq, -, hin⟩ := queueCal_forAll (p := fun _ _ => true) (fun _ _ _ => rfl) s.ie.retry { s with ie.retry := [] }
    exact ⟨s.ie.queue ++ q, [], hq, nofun, fun _ n hn => hin n hn rfl⟩
  · exact ⟨s.ie.queue, s.ie.retry, rfl, fun _ => rfl, nofun⟩

/-- A calibration is rejected: its registers, its retry where it was spoilt, and event 0x0211 (R84). -/
def State.failCal (s : State) (ch : Nat) (bad : Bool) : State :=
  ((s.putAll (endRegs ch)).rejectCal ch s.ie.calSpoilt bad).event F.IE_EVT_CAL_FAIL 0x0211 ch ch

theorem failCal_writes (s : State) (ch : Fin 32) (bad : Bool) : let t := s.failCal ch bad
    t.get F.IE_CAL_STAT_BUSY = 0 ∧ t.get (F.IE_CH_STAT_CAL_BUSY ch) = 0 ∧ Frame { s with ie := t.ie, rd.tacBad := t.rd.tacBad } t (calFields ch) ∧
      t.ie = { s.ie with retry := if s.ie.calSpoilt then s.ie.retry ++ [ch.val] else s.ie.retry } ∧ t.get F.IE_EVT_CAL_FAIL = 1 ∧
      Logs s t 0x0211 0x03 ch ch := by
  obtain ⟨hbusy, hchBusy⟩ := endRegs_get s ch.isLt
  obtain ⟨hsubEnd, -⟩ := calFields_sub ch
  have hflags := cal_apart ch.isLt
  unfold State.failCal
  generalize hu : s.putAll (endRegs ch) = u at hbusy hchBusy
  have hframe : Frame s u (calFields ch) := hu ▸ (Frame.putAll_fst _ _).mono hsubEnd
  have hie : u.ie = s.ie := hu ▸ putAll_ie _ _
  have hjl : u.jl = s.jl := hu ▸ putAll_jl _ _
  generalize hw : u.rejectCal ch s.ie.calSpoilt bad = w
  have hwget (f : Fld) : w.get f = u.get f := hw ▸ rfl
  have hwie : w.ie = { s.ie with retry := if s.ie.calSpoilt then s.ie.retry ++ [ch.val] else s.ie.retry } := by
    rw [← hw, State.rejectCal, hie]
  have hwframe : Frame { s with ie := w.ie, rd.tacBad := w.rd.tacBad } w (calFields ch) :=
    hw ▸ (hframe.withIe (u.rejectCal ch s.ie.calSpoilt bad).ie).withTacBad (u.rejectCal ch s.ie.calSpoilt bad).rd.tacBad
  have hget : ∀ f ∈ [F.IE_CAL_STAT_BUSY, F.IE_CH_STAT_CAL_BUSY ch], (w.event F.IE_EVT_CAL_FAIL 0x0211 ch ch).get f = u.get f := fun f hf => by
    obtain ⟨htal, -, hfail⟩ := hflags f (by simp at hf ⊢; tauto)
    rw [State.event_get_other _ _ _ _ _ _ hfail htal, hwget]
  refine ⟨(hget _ (by simp)).trans hbusy, (hget _ (by simp)).trans hchBusy, ?_, ?_, State.event_flag _ _ _ _ _ (by decide) (by decide), ?_⟩
  · rw [State.event_ie, State.event_rd]
    exact hwframe.trans (Frame.event _ _ _ _ _ (by simp [calFields]))
  · rw [State.event_ie, hwie]
  · refine logs_event ?_ ?_ F.IE_EVT_CAL_FAIL 0x0211 ch ch
    · rw [hwframe.2]
    · rw [← hw, ← hjl]
      rfl

/-- A rejected calibration leaves the channel's old table; a spoilt one is retried (R84). -/
theorem calComplete_bad (s : State) (ch : Fin 32) (bad : Bool) : let t := (s.failCal ch bad).when s.ie.calSpoilt State.retryCals
    t.get F.IE_CAL_STAT_BUSY = 0 ∧ t.get (F.IE_CH_STAT_CAL_BUSY ch) = 0 ∧ Frame { s with ie := t.ie, rd.tacBad := t.rd.tacBad } t (calFields ch) ∧
      t.ie.chans = s.ie.chans ∧ t.get F.IE_EVT_CAL_FAIL = 1 ∧ Logs s t 0x0211 0x03 ch ch ∧
      (s.ie.calSpoilt = true → if s.on F.PM_STAT_DIP = true ∨ s.on F.TB_STAT_MIG = true then t.ie.retry = s.ie.retry ++ [ch.val]
        else ch.val ∈ t.ie.queue) := by
  obtain ⟨hbusy, hchBusy, hframe, hie, hfail, hlogs⟩ := failCal_writes s ch bad
  have hon {f : Fld} (hf : f.key / 4194304 < 3) : (s.failCal ch bad).on f = s.on f := by
    have hwin : ∀ k ∈ (calFields ch).map Fld.key, k / 4194304 = 3 := by
      simp only [calFields, List.map_cons, List.map_nil, List.forall_mem_cons, List.not_mem_nil, false_implies, implies_true, true_and, and_true,
        Fld.key, F.IE_CAL_STAT_BUSY, F.IE_CAL_STAT_CUR, F.IE_CH_STAT_CAL_BUSY, F.IE_CH_STAT_CAL_STALE, F.IE_CH_UNC_UNC, F.IE_CH_UNC_AGE,
        F.IE_CH_UNC_TEMP_CAL, F.IE_CAL_STAT_VALID, F.IE_EVT_CAL_DONE, F.IE_EVT_CAL_FAIL]
      omega
    unfold State.on
    rw [hframe.get f (fun hm => by have := hwin _ hm; omega) (tallied_of_window (by omega))]
    rfl
  generalize s.failCal ch bad = u at *
  cases hs : s.ie.calSpoilt
  · exact ⟨hbusy, hchBusy, hframe, by rw [State.when_false, hie], hfail, hlogs, nofun⟩
  obtain ⟨q, r, hret, hwait, hgo⟩ := retryCals_cases u
  rw [State.when_true, hret]
  have hretry : u.ie.retry = s.ie.retry ++ [ch.val] := by rw [hie, hs]; rfl
  have hidle : u.calCurrent = none := by
    unfold State.calCurrent State.on
    rw [hbusy]
    rfl
  rw [hon (by decide), hon (by decide)] at hwait hgo
  refine ⟨hbusy, hchBusy, hframe.withIe _, by rw [hie], hfail, hlogs, fun _ => ?_⟩
  split
  · next h => exact (hwait (by simpa using h)).trans hretry
  · next h =>
    refine (hgo (by simpa using h) ch.val (by simp [hretry])).resolve_right ?_
    rw [hidle]
    nofun

theorem calPasses_iff {distinct : Nat} {means : List Int} {spoilt : Bool} : (calPasses distinct means && !spoilt) = true ↔
    3900 ≤ distinct ∧ gainOk (fitLine means knownPositions) = true ∧ calResidual (fitLine means knownPositions) means ≤ 65536 ∧ spoilt = false := by
  simp [calPasses, and_assoc]

theorem does_calComplete {ch : Fin 32} {distinct : Nat} {below : List Nat} {known : List (List (Nat × Nat))} (hp : s.power = .run)
    (hb : s.on F.IE_CAL_STAT_BUSY = true) (hcur : s.get F.IE_CAL_STAT_CUR = ch.val) :
    let table := provisionalTable below (2 ^ s.ie.calLog)
    let means := provisionalMeans table known
    let gain := fitLine means knownPositions
    let good := 3900 ≤ distinct ∧ gainOk gain = true ∧ calResidual gain means ≤ 65536 ∧ s.ie.calSpoilt = false
    Does (.calComplete distinct below known) s fun t => t.get F.IE_CAL_STAT_BUSY = 0 ∧ t.get (F.IE_CH_STAT_CAL_BUSY ch) = 0 ∧
      Frame { s with ie := t.ie, rd.tacBad := t.rd.tacBad } t (calFields ch) ∧
      (good → (t.chan ch).table = fittedTable gain means table ∧ (t.chan ch).unc = some (calUnc ch (calResidual gain means)) ∧
        (t.chan ch).stale = false ∧ (t.chan ch).calTime = s.now ∧ t.get (F.IE_CH_UNC_UNC ch) = min (calUnc ch (calResidual gain means)) 0xFFFFFFFF ∧
        t.get F.IE_EVT_CAL_DONE = 1 ∧ Logs s t 0x0210 0x03 ch ch) ∧
      (¬good → t.ie.chans = s.ie.chans ∧ t.get F.IE_EVT_CAL_FAIL = 1 ∧ Logs s t 0x0211 0x03 ch ch ∧
        (s.ie.calSpoilt = true → if s.on F.PM_STAT_DIP = true ∨ s.on F.TB_STAT_MIG = true then t.ie.retry = s.ie.retry ++ [ch.val]
          else ch.val ∈ t.ie.queue)) := by
  intro table means gain good
  have hc : s.calCurrent = some ch.val := by
    unfold State.calCurrent
    rw [hb, hcur]
    rfl
  refine does_running (exec_calComplete hc) hp ?_
  by_cases hgood : good
  · rw [if_pos (calPasses_iff.mpr hgood)]
    obtain ⟨hbusy, hchBusy, hframe, hchan, hunc, hdone, hlogs⟩ := calComplete_good s ch (fittedTable gain means table) (calUnc ch (calResidual gain means))
      (s.get F.PM_TEMP_TJ) (fun m => s.get (F.IE_ST_CFG_SRC m) == ch)
    simp only [State.settle_get, chan_settle, State.settle_ie, State.settle_rd]
    refine ⟨hbusy, hchBusy, hframe.trans (Frame.settle _ _), fun _ => ?_, fun h => absurd hgood h⟩
    rw [hchan]
    exact ⟨rfl, rfl, rfl, rfl, hunc, hdone, hlogs.ofJl (State.settle_jl _)⟩
  · rw [if_neg fun h => hgood (calPasses_iff.mp h)]
    obtain ⟨hbusy, hchBusy, hframe, hchans, hfail, hlogs, hretry⟩ := calComplete_bad s ch (!s.ie.calSpoilt && s.get F.RD_RIME_STAT_STATE == 1)
    simp only [State.settle_get, State.settle_ie, State.settle_rd]
    exact ⟨hbusy, hchBusy, hframe.trans (Frame.settle _ _), fun h => absurd h hgood, fun _ => ⟨hchans, hfail, hlogs.ofJl (State.settle_jl _), hretry⟩⟩

/-! ## The obligation -/

theorem isSome_of_calMoved (h : s.calMoved n = true) : (s.chan n).unc.isSome = true := (Bool.and_eq_true_iff.mp h).1
theorem isSome_of_calOlder {k : Nat} (h : s.calOlder n k = true) : (s.chan n).unc.isSome = true := (Bool.and_eq_true_iff.mp h).1

/-- Settles O6: requests and triggers go by `queueCal_forAll` and `does_stale`, beginnings by `beginCal_eq`, the end by `exec_calComplete`. -/
theorem calibrationIsQueuedRunAndJudged : Obligations.CalibrationIsQueuedRunAndJudged := by
  refine ⟨fun s path ch hp hj => ⟨does_ieCalReqGo hp hj, does_ieCalReqAll hp hj⟩, fun s ch hp => ?_, fun s ch rest hp hq hb => ?_,
    fun s ch distinct below known hp hb hcur => does_calComplete hp hb hcur⟩
  · refine ⟨fun ha ho => does_queueCal (exec_calPeriodExpiry ch s) ?_ hp, fun h => does_idle (exec_calPeriodExpiry ch s) ?_ hp,
      fun hm ha => does_queueCal (exec_calTempTrigger ch s) ?_ hp,
      fun hm hl hs => does_stale (exec_calTempTrigger ch s) ?_ hp (isSome_of_calMoved hm) hs, fun hm => does_idle (exec_calTempTrigger ch s) ?_ hp,
      fun ho hs => does_stale (exec_calAgeStale ch s) ?_ hp (isSome_of_calOlder ho) hs, fun ho => does_idle (exec_calAgeStale ch s) ?_ hp⟩
    · simp only [ha, ho, Bool.and_self, State.when_true]
    · have hb : (s.autoCal ch && s.calOlder ch 1) = false := by rcases h with h | h <;> simp [h]
      simp only [hb, State.when_false]
    · simp only [hm, ha, State.when_true, if_true]
    · obtain ⟨ha, hleft⟩ := autoCal_left hl
      simp only [hm, ha, hleft, State.when_true, Bool.false_eq_true, if_false]
    · simp only [hm, State.when_false]
    · simp only [ho, State.when_true]
    · simp only [ho, State.when_false]
  · refine ⟨fun h => does_beginCal (exec_calStart s) rfl hp hq hb ?_, fun hslow hedge => does_idle (exec_calStart s) (beginCal_waits hq hb ?_) hp,
      fun hslow => does_beginCal (exec_calWaitTimeout s) rfl hp hq hb hslow,
      fun hslow => does_idle (exec_calWaitTimeout s) (beginCal_waits hq hb hslow) hp⟩
    · rcases h with h | h <;> simp [h]
    · simp [hslow, hedge]

end Sys2Proof.Machine
end

section
/-! PROOF. Checkpoints of the active core: what one writes, and what it leaves alone (R122, R123, R170, R332). -/
namespace Sys2Proof.Machine

variable {s t u : State} {f : Fld}

/-! ## Fields at whose place no event counts -/

/-- The field lies at no counter's value, no word of overflow flags and not at the count of dropped entries (R386, R388, R394). -/
def Fld.uncounted (f : Fld) : Prop :=
  ∀ n < 256, f.key ≠ (F.PC_CNT_VALUE n).key ∧ f.key ≠ (F.PC_OVF_OVF (n / 64)).key ∧ f.key ≠ F.JL_STAT_DROPPED.key

/-- TK_STAT of a core is such a place, whatever number the core is given by. -/
theorem uncounted_tkStat (h : f.key / 64 % 0x8000 = 0x100) : f.uncounted := by
  intro n hn
  simp only [Fld.key, F.PC_CNT_VALUE, F.PC_OVF_OVF, F.JL_STAT_DROPPED] at h ⊢
  omega

theorem uncounted_of_spared (h : f.spared) : f.uncounted := fun _ hn => ⟨spared_value h hn, spared_wrap h hn, spared_ne h rfl dropped_tallied⟩

section
variable (hf : f.uncounted)
include hf

theorem get_counterPlain_uncounted (s : State) {n : Nat} (k : Nat) (hn : n < 256) : (s.counterPlain n k).get f = s.get f := by
  obtain ⟨hvalue, hwrap, -⟩ := hf n hn
  have hflag (t : State) : (t.counterWrapped n).get f = t.get f := by
    have hsignal (u : State) (b : Bool) : (u.when b (·.signalLimited 4 1)).get f = u.get f := get_when fun _ => State.signalLimited_get _ _ _ _
    unfold State.counterWrapped
    dsimp only
    rw [hsignal, State.get_put_other _ _ _ _ hwrap]
  have hwhen (t : State) (b : Bool) : (t.when b (·.counterWrapped n)).get f = t.get f := get_when fun _ => hflag t
  unfold State.counterPlain
  dsimp only
  rw [hwhen, State.get_put_other _ _ _ _ hvalue]

theorem get_counterAdd_uncounted (s : State) {n : Nat} (k : Nat) (hn : n < 256) : (s.counterAdd n k).get f = s.get f := by
  unfold State.counterAdd
  refine (get_when fun h => get_counterPlain_uncounted hf _ _ ?_).trans (get_counterPlain_uncounted hf s k hn)
  simp only [Bool.and_eq_true, beq_iff_eq] at h
  omega

theorem get_raise_uncounted (s : State) (code src inst arg : Nat) : (s.raise code src inst arg).get f = s.get f := by
  have hcount : (s.countEvent code).get f = s.get f :=
    forAll_keeps (State.get · f) _ _ (fun t _ hn => get_when fun _ => get_counterAdd_uncounted hf t 1 (List.mem_range.mp hn)) s
  obtain ⟨-, -, hdrop⟩ := hf 0 (by decide)
  unfold State.raise
  split
  · rfl
  · dsimp only
    split
    · exact (get_withJl _ _ f).trans hcount
    · exact (get_withJl _ _ f).trans ((State.get_put_other _ _ f _ hdrop).trans hcount)

theorem get_event_uncounted (s : State) (g : Fld) (code inst arg : Nat) (h : f.key ≠ g.key) : (s.event g code inst arg).get f = s.get f :=
  (get_raise_uncounted hf _ _ _ _ _).trans ((State.setFlag_get s g f).trans (State.get_put_other s g f 1 h))

end

/-! ## The active core -/

/-- What says which core is active and whether it runs. -/
def coreFields (k : Nat) : List Fld := [F.RD_STAT_ACTIVE_CORE, F.TK_STAT_STATE k, F.TK_STAT_ACTIVE k]

theorem coreLive_congr (h : ∀ f ∈ coreFields s.core, t.get f = s.get f) : t.coreLive = s.coreLive := by
  simp only [coreFields, List.forall_mem_cons, List.not_mem_nil, false_implies, implies_true, and_true] at h
  obtain ⟨hcore, hstate, hactive⟩ := h
  have hk : t.core = s.core := hcore
  unfold State.coreLive State.on
  rw [hk, hstate, hactive]

theorem uncounted_coreFields (k : Nat) : ∀ f ∈ coreFields k, f.uncounted := by
  simp only [coreFields, List.forall_mem_cons, List.not_mem_nil, false_implies, implies_true, and_true]
  refine ⟨uncounted_of_spared (.inl (by decide)), uncounted_tkStat ?_, uncounted_tkStat ?_⟩ <;>
  · simp only [Fld.key, F.TK_STAT_STATE, F.TK_STAT_ACTIVE]
    omega

/-! ## The bytes of a checkpoint -/

theorem length_bytesLE (n v : Nat) : (bytesLE n v).length = n := by
  induction n generalizing v with
  | zero => rfl
  | succ n ih => simp [bytesLE, ih]

theorem length_le8 (v : Nat) : (le8 v).length = 8 := length_bytesLE 8 v

theorem length_zeros (n : Nat) : (zeros n).length = n := List.length_replicate

theorem length_mbCheckpoint (s : State) : s.mbCheckpoint.length = 512 := by
  simp only [State.mbCheckpoint, List.length_append, length_le8, length_zeros, List.length_flatMap, List.map_const', List.length_range,
    List.sum_replicate, smul_eq_mul]

/-- The body and eight more bytes fill a slot of 4 KiB (R123). -/
theorem length_ckptBody (s : State) (seq : Nat) : (s.ckptBody seq).length = 0xFF8 := by
  unfold State.ckptBody
  dsimp only
  rw [List.length_append, List.length_append, length_zeros, length_zeros]
  simp only [List.length_append, length_mbCheckpoint, length_le8, length_zeros]

/-! ## The frames that carry it to the mate -/

/-- t differs from s at most in what waits on the ports and in the mate link's sequence number. -/
def MateSent (s t : State) : Prop := ∃ ports seq, t = { s with wire.ports := ports, rd.mateSeq := seq }

theorem mateSent_mateQueue (s : State) (m : List Byte) : MateSent s (s.mateQueue m) := by
  unfold State.mateQueue
  split
  · exact ⟨s.wire.ports, s.rd.mateSeq, rfl⟩
  · exact ⟨_, _, rfl⟩

theorem mateSent_mateSend (s : State) (type : Nat) (payload : List Byte) : MateSent s (s.mateSend type payload) := by
  unfold State.mateSend
  split
  · exact mateSent_mateQueue s _
  · exact ⟨s.wire.ports, s.rd.mateSeq, rfl⟩

theorem mateSent_sendSegments (s : State) (slot : List Byte) : MateSent s (s.sendSegments slot) := by
  refine forAll_induct (P := MateSent s) (fun t i _ ht => ?_) ⟨s.wire.ports, s.rd.mateSeq, rfl⟩
  obtain ⟨ports, seq, rfl⟩ := ht
  obtain ⟨ports', seq', h⟩ := mateSent_mateSend { s with wire.ports := ports, rd.mateSeq := seq } 2
    (bytesLE 1 i ++ [0, 0, 0] ++ (slot.drop (1024 * i)).take 1024)
  exact ⟨ports', seq', h⟩

/-! ## A checkpoint -/

theorem checkpoint_dead (sealed : Bool) (h : s.coreLive = false) : s.checkpoint sealed = s := by simp [State.checkpoint, h]

/-- What a checkpoint writes to its slot: the body, with the CRC that seals it or without. -/
def State.ckptBytes (s : State) (sealed : Bool) : List Byte :=
  s.ckptBody s.tk.nextSeq ++ if sealed then le8 (crc32c (s.ckptBody s.tk.nextSeq)) else zeros 8

theorem length_ckptBytes (s : State) (sealed : Bool) : (s.ckptBytes sealed).length = 0x1000 := by
  unfold State.ckptBytes
  cases sealed
  · simp only [List.length_append, length_ckptBody, Bool.false_eq_true, if_false, length_zeros]
  · simp only [List.length_append, length_ckptBody, if_true, length_le8]

/-- The part of the core after a checkpoint that was sealed, or is still being written (R122). -/
def State.ckptTk (s : State) (sealed : Bool) : TkPart :=
  { s.tk with nextSlot := 1 - s.tk.nextSlot, nextSeq := s.tk.nextSeq + 1, unsealed := if sealed then none else some s.tk.nextSlot,
              ckptBusy := !sealed, ckptAt := s.now, ckptPoint := if sealed then s.tk.points else s.tk.ckptPoint }

/-- The registers that name the slot and, once it is sealed, its SEQ. -/
def State.ckptRegs (s : State) (sealed : Bool) : State :=
  (s.put (F.TK_STAT_SLOT s.core) s.tk.nextSlot).when sealed (·.put (F.TK_CKPT_SEQ_SEQ s.core) s.tk.nextSeq)

theorem keeps_ckptRegs (s : State) (sealed : Bool) : Keeps s (s.ckptRegs sealed) [F.TK_STAT_SLOT s.core, F.TK_CKPT_SEQ_SEQ s.core] :=
  ((Keeps.refl s _).put _ _ (by simp)).when sealed _ fun _ => (Keeps.refl _ _).put _ _ (by simp)

theorem ckptRegs_eq (s : State) (sealed : Bool) : s.ckptRegs sealed = { s with cells := (s.ckptRegs sealed).cells } := by
  cases sealed <;> rfl

/-- Registers and slot are written; nothing is sent yet. -/
def State.writeCkpt (s : State) (sealed : Bool) : State := { s with
  cells := (s.ckptRegs sealed).cells, firn := writeBytes s.firn (s.tk.nextSlot * 0x1000) (s.ckptBytes sealed), tk := s.ckptTk sealed }

theorem checkpoint_live (sealed : Bool) (h : s.coreLive = true) :
    s.checkpoint sealed = (s.writeCkpt sealed).when sealed (·.sendSegments (s.ckptBytes sealed)) := by
  have heq : s.checkpoint sealed = State.when { s.ckptRegs sealed with
      firn := writeBytes s.firn (s.tk.nextSlot * 0x1000) (s.ckptBytes sealed), tk := s.ckptTk sealed } sealed
      (·.sendSegments (s.ckptBytes sealed)) := by
    unfold State.checkpoint
    rw [h]
    cases sealed <;> rfl
  rw [heq, ckptRegs_eq]
  rfl

/-- The other slot of the Firn store, and all that lies beyond the two, stay (R122). -/
theorem byteAt_writeCkpt (s : State) (sealed : Bool) {a : Nat} (h : a < s.tk.nextSlot * 0x1000 ∨ (s.tk.nextSlot + 1) * 0x1000 ≤ a) :
    byteAt (s.writeCkpt sealed).firn a = byteAt s.firn a := by
  have hlen := length_ckptBytes s sealed
  unfold State.writeCkpt
  dsimp only
  generalize s.ckptBytes sealed = l at hlen ⊢
  exact byteAt_writeBytes_other _ _ _ _ (by rw [hlen]; omega)

/-- A checkpoint of a running core: what is sent to the mate touches neither the registers nor the stores. -/
structure Checkpointed (s : State) (sealed : Bool) (t : State) : Prop where
  keeps : Keeps s t [F.TK_STAT_SLOT s.core, F.TK_CKPT_SEQ_SEQ s.core]
  firn : ∀ a : Nat, a < s.tk.nextSlot * 0x1000 ∨ (s.tk.nextSlot + 1) * 0x1000 ≤ a → byteAt t.firn a = byteAt s.firn a
  rest : ∃ cells firn ports seq, t = { s with
    cells := cells, firn := firn, tk := s.ckptTk sealed, wire.ports := ports, rd.mateSeq := seq }

theorem checkpointed_writeCkpt (s : State) (sealed : Bool) : Checkpointed s sealed (s.writeCkpt sealed) :=
  ⟨(keeps_ckptRegs s sealed).next rfl, fun _ => byteAt_writeCkpt s sealed, _, _, s.wire.ports, s.rd.mateSeq, rfl⟩

theorem checkpointed (sealed : Bool) (h : s.coreLive = true) : Checkpointed s sealed (s.checkpoint sealed) := by
  obtain ⟨hkeeps, hfirn, cells, firn, ports, seq, hrest⟩ := checkpointed_writeCkpt s sealed
  rw [checkpoint_live sealed h]
  cases sealed
  · exact ⟨hkeeps, hfirn, cells, firn, ports, seq, hrest⟩
  · obtain ⟨ports', seq', hsent⟩ := mateSent_sendSegments (s.writeCkpt true) (s.ckptBytes true)
    rw [State.when_true, hsent]
    generalize s.writeCkpt true = u at *
    exact ⟨hkeeps.next rfl, hfirn, cells, firn, ports', seq', by rw [hrest]⟩

/-- Whether a core runs or not, a checkpoint leaves the registers below the cores' own, and every block but the core and the lines to the mate. -/
theorem checkpoint_leaves (s : State) (sealed : Bool) : (∀ f : Fld, f.key < 0x050000 * 64 → (s.checkpoint sealed).get f = s.get f) ∧
    ∃ cells firn tk ports seq, s.checkpoint sealed = { s with
      cells := cells, firn := firn, tk := tk, wire.ports := ports, rd.mateSeq := seq } := by
  cases h : s.coreLive
  · rw [checkpoint_dead sealed h]
    exact ⟨fun _ _ => rfl, s.cells, s.firn, s.tk, s.wire.ports, s.rd.mateSeq, rfl⟩
  · obtain ⟨hkeeps, -, cells, firn, ports, seq, hrest⟩ := checkpointed sealed h
    refine ⟨fun f hf => hkeeps f ?_ (tallied_of_window (by omega)), cells, firn, _, ports, seq, hrest⟩
    simp only [List.map_cons, List.map_nil, List.mem_cons, List.not_mem_nil, or_false, Fld.key, F.TK_STAT_SLOT, F.TK_CKPT_SEQ_SEQ] at hf ⊢
    omega

end Sys2Proof.Machine
end

section
/-! PROOF. Rails, dip episodes, and the readings of VBAT, ageing and the SRAM scrubber (O45; R105, R122, R158, R309, R311, R345 to R350, R419, R420). -/
namespace Sys2Proof.Machine

variable {s t u : State} {fs : List Fld}

/-! ## A rail's bit (R345) -/

theorem putBit_eq (p e x b : Nat) (hx : x < 2) (ok : Bool) :
    (if ok then p * (e * 2 + x) + b + (1 - x) * p else p * (e * 2 + x) + b - x * p) = p * (e * 2 + ok.toNat) + b := by
  have hp : p * (e * 2 + 1) = p * (e * 2) + p := by ring
  interval_cases x <;> cases ok <;> simp [hp] <;> omega

/-- A number whose bit r is set or cleared by what is added or taken away keeps its other bits. -/
theorem testBit_putBit (m r i : Nat) (ok : Bool) :
    (if ok then m + (1 - m / 2 ^ r % 2) * 2 ^ r else m - m / 2 ^ r % 2 * 2 ^ r).testBit i = if i = r then ok else m.testBit i := by
  obtain ⟨a, b, hb, rfl⟩ : ∃ a b, b < 2 ^ r ∧ m = 2 ^ r * a + b :=
    ⟨m / 2 ^ r, m % 2 ^ r, Nat.mod_lt _ (by positivity), (Nat.div_add_mod _ _).symm⟩
  obtain ⟨e, x, hx, rfl⟩ : ∃ e x, x < 2 ∧ a = e * 2 + x := ⟨a / 2, a % 2, Nat.mod_lt _ (by decide), (Nat.div_add_mod' _ _).symm⟩
  have hbit : (2 ^ r * (e * 2 + x) + b) / 2 ^ r % 2 = x := by
    rw [Nat.mul_add_div (by positivity), Nat.div_eq_of_lt hb]
    omega
  rw [hbit, putBit_eq _ _ _ _ hx, Nat.testBit_two_pow_mul_add _ hb, Nat.testBit_two_pow_mul_add _ hb]
  obtain h | rfl | h := lt_trichotomy i r
  · simp [h, h.ne]
  · cases ok <;> simp
  · obtain ⟨k, rfl⟩ := Nat.exists_eq_add_of_lt h
    have hk : r + k + 1 - r = k + 1 := by omega
    have hhigh (y : Nat) (hy : y < 2) : (e * 2 + y) / 2 = e := by omega
    simp [h.not_gt, h.ne', hk, Nat.testBit_succ, hhigh x hx, hhigh ok.toNat ok.toNat_lt]

/-- RAIL_OK in t is that in s with the bit of one rail as given. -/
def RailShown (s : State) (r : Nat) (ok : Bool) (t : State) : Prop :=
  (t.get F.PM_STAT_RAIL_OK).testBit r = ok ∧ ∀ i < 12, i ≠ r → (t.get F.PM_STAT_RAIL_OK).testBit i = (s.get F.PM_STAT_RAIL_OK).testBit i

theorem RailShown.ofGet {r : Nat} {ok : Bool} (h : RailShown s r ok t) (hg : u.get F.PM_STAT_RAIL_OK = t.get F.PM_STAT_RAIL_OK) :
    RailShown s r ok u := by
  unfold RailShown
  rwa [hg]

theorem railShown_putRail (s : State) {r : Nat} (hr : r < 12) (ok : Bool) : RailShown s r ok (s.putRail r ok) := by
  have hbit (i : Nat) (hi : i < 12) : ((s.putRail r ok).get F.PM_STAT_RAIL_OK).testBit i =
      if i = r then ok else (s.get F.PM_STAT_RAIL_OK).testBit i := by
    unfold State.putRail
    rw [State.get_put_same, Nat.testBit_mod_two_pow, testBit_putBit]
    simp [F.PM_STAT_RAIL_OK, hi]
  exact ⟨by rw [hbit r hr, if_pos rfl], fun i hi hne => by rw [hbit i hi, if_neg hne]⟩

theorem Frame.putRail (s : State) (r : Nat) (ok : Bool) : Frame s (s.putRail r ok) [F.PM_STAT_RAIL_OK] := Frame.put s _ _ (.inl (by simp))

/-- The same power part on both sides of a frame. -/
theorem Frame.withPm (h : Frame s t fs) (pm : PmPart) : Frame { s with pm := pm } { t with pm := pm } fs :=
  ⟨h.1, congrArg (fun x : State => { x with pm := pm }) h.2⟩

theorem does_railBelowWarning (rail : Fin 11) (ns : Nat) (hp : s.power = .run) :
    (s.on F.PM_STAT_DIP = false → Does (.railBelowWarning rail ns) s fun t =>
      Frame s t [F.PM_STAT_RAIL_OK] ∧ RailShown s rail (decide (ns ≤ 200)) t) ∧
    (s.on F.PM_STAT_DIP = true → Does (.railBelowWarning rail ns) s fun t => RailShown s rail (decide (ns ≤ 200)) t ∧
      Frame { s with pm.dipRails := s.pm.dipRails ||| 2 ^ rail.val, pm.lastLow := s.now } t [F.PM_STAT_RAIL_OK]) := by
  have hexec : exec (.railBelowWarning rail ns) s = running s fun s =>
      let t := s.putRail rail (decide (ns ≤ 200))
      if s.on F.PM_STAT_DIP then { t with pm.dipRails := t.pm.dipRails ||| 2 ^ rail.val, pm.lastLow := s.now } else t := rfl
  have hshown := railShown_putRail s (r := rail) (by omega) (decide (ns ≤ 200))
  refine ⟨fun hd => does_running hexec hp ?_, fun hd => does_running hexec hp ?_⟩
  · simp only [hd, Bool.false_eq_true, if_false]
    exact ⟨(Frame.putRail s _ _).settled, hshown.ofGet (State.settle_get _ _)⟩
  · simp only [hd, if_true]
    exact ⟨hshown.ofGet (State.settle_get _ _), ((Frame.putRail s _ _).withPm _).settled⟩

/-! ## The start of an episode (R349, R350) -/

theorem markEngines_eq (s : State) (which : IeEngine → IeEngine) (p : Nat → Bool) :
    ∃ es, s.markEngines which p = { s with ie.engines := es } := by
  refine forAll_induct (P := fun t => ∃ es, t = { s with ie.engines := es }) (fun t m _ ht => ?_) ⟨s.ie.engines, rfl⟩
  obtain ⟨es, rfl⟩ := ht
  unfold State.when
  split
  · exact ⟨_, rfl⟩
  · exact ⟨es, rfl⟩

/-- A dip reaches windows, ports, the comparison of a migration, Moraine's allowances and the engine, and no register. -/
theorem dipSpoils_eq (s : State) : ∃ ports ie, s.dipSpoils = { s with
    rs.slots := s.rs.slots.map fun c => { c with win := { c.win with noY := true, noD := true } }
    wire.ports := ports, tb.coarse := s.tb.coarse || s.tb.migStep == 3, mb.owed := s.mb.owed ++ [Allowance.dip], ie := ie } := by
  unfold State.dipSpoils State.ieDipBegins
  dsimp only
  obtain ⟨es, h⟩ := markEngines_eq ({ s with
    rs.slots := s.rs.slots.map fun c => { c with win := { c.win with noY := true, noD := true } }
    wire.ports := s.wire.ports.map fun p => { p with calSpoilt := true }
    tb.coarse := s.tb.coarse || s.tb.migStep == 3
    mb.owed := s.mb.owed ++ [Allowance.dip] } : State) (fun e => { e with dip := true }) fun _ => true
  rw [h]
  exact ⟨_, _, rfl⟩

/-- RAIL_OK and DIP as the start of an episode leaves them. -/
def State.dipRegs (s : State) (rail : Nat) : State := (s.putRail rail false).put F.PM_STAT_DIP 1

/-- An episode begins: its registers, its record and its event. -/
def State.dipShown (s : State) (rail : Nat) : State :=
  { s.dipRegs rail with pm.dipAt := s.now, pm.lastLow := s.now, pm.dipRails := 2 ^ rail }.event F.PM_EVT_DIP 0x0101 0 rail

theorem exec_dipStart (rail : Fin 11) (sealed : Bool) (s : State) : exec (.dipStart (rail, sealed)) s = running s fun s =>
    if s.on F.PM_STAT_DIP then s else (s.dipShown rail).dipSpoils.checkpoint sealed := rfl

/-- The fields that the start of an episode writes. -/
def dipFields : List Fld := [F.PM_STAT_RAIL_OK, F.PM_STAT_DIP, F.PM_EVT_DIP]

theorem dipShown_frame (s : State) (rail : Nat) :
    Frame { s with pm.dipAt := s.now, pm.lastLow := s.now, pm.dipRails := 2 ^ rail } (s.dipShown rail) dipFields := by
  have hput : Frame s (s.dipRegs rail) dipFields := ((Frame.putRail s rail false).mono (by decide)).trans (Frame.put _ _ _ (.inl (by decide)))
  exact (hput.withPm _).trans (Frame.event _ _ _ _ _ (by decide))

/-- The event changes no field of the registers written before it but its flag. -/
theorem dipShown_get (s : State) (rail : Nat) {f : Fld} (hu : f.uncounted) (hf : f.key ≠ F.PM_EVT_DIP.key) :
    (s.dipShown rail).get f = (s.dipRegs rail).get f := (get_event_uncounted hu _ _ _ _ _ hf).trans (get_ofCells rfl f)

theorem dipShown_shows (s : State) {rail : Nat} (hr : rail < 12) : (s.dipShown rail).get F.PM_STAT_DIP = 1 ∧
    (s.dipShown rail).get F.PM_EVT_DIP = 1 ∧ RailShown s rail false (s.dipShown rail) := by
  have hread : ∀ f ∈ [F.PM_STAT_DIP, F.PM_STAT_RAIL_OK], f.tallied = false ∧ f.key ≠ F.PM_EVT_DIP.key := by decide
  have hget (f : Fld) (hf : f ∈ [F.PM_STAT_DIP, F.PM_STAT_RAIL_OK]) : (s.dipShown rail).get f = (s.dipRegs rail).get f :=
    dipShown_get s rail (uncounted_of_spared (.inl (hread f hf).1)) (hread f hf).2
  refine ⟨(hget _ (by simp)).trans (State.get_put_same _ _ _), State.event_flag _ _ _ _ _ (by decide) (by decide), ?_⟩
  exact (railShown_putRail s hr false).ofGet ((hget _ (by simp)).trans (State.get_put_other _ _ _ _ (by decide)))

theorem key_coreFields (k : Nat) : ∀ f ∈ coreFields k, 0x050000 * 64 ≤ f.key := by
  simp only [coreFields, List.forall_mem_cons, List.not_mem_nil, false_implies, implies_true, and_true, Fld.key, F.RD_STAT_ACTIVE_CORE,
    F.TK_STAT_STATE, F.TK_STAT_ACTIVE]
  omega

theorem key_dipFields : ∀ k ∈ dipFields.map Fld.key, k < 0x020000 * 64 := by decide

/-- Neither the registers of an episode nor the counting of its event touch what says whether the active core runs. -/
theorem coreLive_dipShown (s : State) (rail : Nat) : (s.dipShown rail).coreLive = s.coreLive := by
  refine coreLive_congr fun f hf => ?_
  have hlow := key_coreFields _ f hf
  have hne : ∀ g ∈ dipFields, f.key ≠ g.key := fun g hg h => by
    have := key_dipFields _ (List.mem_map_of_mem hg)
    omega
  rw [dipShown_get s rail (uncounted_coreFields _ f hf) (hne _ (by simp [dipFields]))]
  exact (State.get_put_other _ _ _ _ (hne _ (by simp [dipFields]))).trans (State.get_put_other _ _ _ _ (hne _ (by simp [dipFields])))

/-- Both of a window's results are spoilt in every slot there is (R92, R105). -/
theorem slot_spoilt {l : List RsSlot} (h : t.rs.slots = l.map fun c => { c with win := { c.win with noY := true, noD := true } }) {n : Nat}
    (hn : n < l.length) : (t.slot n).win.noY = true ∧ (t.slot n).win.noD = true := by
  unfold State.slot
  rw [h, List.getD_eq_getElem _ _ (by simpa using hn), List.getElem_map]
  exact ⟨rfl, rfl⟩

/-- An episode has begun and spoilt what it spoils; its checkpoint is still to come. -/
structure DipBegun (s : State) (rail : Nat) (t : State) : Prop where
  dip : t.get F.PM_STAT_DIP = 1
  event : t.get F.PM_EVT_DIP = 1
  rails : RailShown s rail false t
  live : t.coreLive = s.coreLive
  tk : t.tk = s.tk
  firn : t.firn = s.firn
  now : t.now = s.now
  pm : t.pm = { s.pm with dipAt := s.now, lastLow := s.now, dipRails := 2 ^ rail }
  owed : t.mb.owed = s.mb.owed ++ [Allowance.dip]
  coarse : t.tb.coarse = (s.tb.coarse || s.tb.migStep == 3)
  slots : t.rs.slots = s.rs.slots.map fun c => { c with win := { c.win with noY := true, noD := true } }

theorem dipBegun_dipSpoils (s : State) {rail : Nat} (hr : rail < 12) : DipBegun s rail (s.dipShown rail).dipSpoils := by
  obtain ⟨hdip, hevt, hrail⟩ := dipShown_shows s hr
  have hlive := coreLive_dipShown s rail
  obtain ⟨-, hframe⟩ := dipShown_frame s rail
  obtain ⟨ports, ie, hspoil⟩ := dipSpoils_eq (s.dipShown rail)
  generalize s.dipShown rail = u at *
  have hget (f : Fld) : u.dipSpoils.get f = u.get f := get_ofCells (by rw [hspoil]) f
  refine ⟨(hget _).trans hdip, (hget _).trans hevt, hrail.ofGet (hget _), (coreLive_congr fun f _ => hget f).trans hlive, ?_, ?_, ?_, ?_, ?_, ?_, ?_⟩
  all_goals rw [hspoil, hframe]

theorem does_dipStart (rail : Fin 11) (sealed : Bool) (hp : s.power = .run) (hd : s.on F.PM_STAT_DIP = false) :
    Does (.dipStart (rail, sealed)) s fun t => t.get F.PM_STAT_DIP = 1 ∧ t.get F.PM_EVT_DIP = 1 ∧
      t.pm.dipAt = s.now ∧ t.pm.lastLow = s.now ∧ t.pm.dipRails = 2 ^ rail.val ∧ t.mb.owed = s.mb.owed ++ [Allowance.dip] ∧
      RailShown s rail false t ∧ t.now = s.now ∧ t.tb.coarse = (s.tb.coarse || s.tb.migStep == 3) ∧
      (∀ n < s.rs.slots.length, (t.slot n).win.noY = true ∧ (t.slot n).win.noD = true) ∧
      (s.coreLive = false → t.firn = s.firn ∧ t.tk = s.tk) ∧
      (s.coreLive = true → t.tk.nextSlot = 1 - s.tk.nextSlot ∧ t.tk.nextSeq = s.tk.nextSeq + 1 ∧ t.tk.ckptBusy = !sealed ∧
        t.tk.unsealed = (if sealed then none else some s.tk.nextSlot) ∧
        ∀ a : Nat, a < s.tk.nextSlot * 0x1000 ∨ (s.tk.nextSlot + 1) * 0x1000 ≤ a → byteAt t.firn a = byteAt s.firn a) := by
  refine does_running (exec_dipStart rail sealed s) hp ?_
  rw [if_neg (by simp [hd])]
  obtain ⟨hdip, hevt, hrail, hlive, htk, hfirn, hnow, hpm, howed, hcoarse, hslots⟩ := dipBegun_dipSpoils s (rail := rail) (by omega)
  generalize (s.dipShown rail).dipSpoils = v at *
  obtain ⟨hget, cells, firn, tk, ports, seq, hck⟩ := checkpoint_leaves v sealed
  have hread (f : Fld) (hf : f.key < 0x050000 * 64) : (v.checkpoint sealed).settle.get f = v.get f := (State.settle_get _ f).trans (hget f hf)
  have hrecord : (v.checkpoint sealed).settle.pm = v.pm := by rw [State.settle_pm, hck]
  refine ⟨(hread _ (by decide)).trans hdip, (hread _ (by decide)).trans hevt, by rw [hrecord, hpm], by rw [hrecord, hpm], by rw [hrecord, hpm],
    by rw [State.settle_mb, hck, howed], hrail.ofGet (hread _ (by decide)), by rw [State.settle_now, hck, hnow],
    by rw [State.settle_tb, hck, hcoarse], fun n => slot_spoilt (by rw [State.settle_rs, hck, hslots]), fun h => ?_, fun h => ?_⟩
  · rw [checkpoint_dead sealed (hlive.trans h), State.settle_firn, State.settle_tk]
    exact ⟨hfirn, htk⟩
  · obtain ⟨-, hother, cells, firn, ports, seq, hrest⟩ := checkpointed sealed (hlive.trans h)
    rw [State.settle_tk, State.settle_firn, ← htk, ← hfirn]
    have htk' : (v.checkpoint sealed).tk = v.ckptTk sealed := by rw [hrest]
    rw [htk']
    exact ⟨rfl, rfl, rfl, rfl, hother⟩

/-! ## The end of an episode (R349) -/

theorem raise_prefix (s : State) (code src inst arg : Nat) : s.jl.queue <+: (s.raise code src inst arg).jl.queue := by
  unfold State.raise
  split
  · exact List.prefix_rfl
  · dsimp only
    split
    · simp
    · simp

theorem event_prefix (s : State) (f : Fld) (code inst arg : Nat) : s.jl.queue <+: (s.event f code inst arg).jl.queue := by
  have h := raise_prefix (s.setFlag f) code f.window inst arg
  rwa [State.setFlag_jl] at h

/-- What waited for the end of an episode leaves its record as it is, and entries only join the journal (R56, R84). -/
structure Resumed (s t : State) : Prop where
  get : ∀ f : Fld, f.key / 4194304 = 0x01 → t.get f = s.get f
  pm : t.pm = s.pm
  journal : s.jl.queue <+: t.jl.queue

theorem Resumed.refl (s : State) : Resumed s s := ⟨fun _ _ => rfl, rfl, List.prefix_rfl⟩

theorem Resumed.trans (h : Resumed s t) (g : Resumed t u) : Resumed s u :=
  ⟨fun f hf => (g.get f hf).trans (h.get f hf), g.pm.trans h.pm, h.journal.trans g.journal⟩

theorem Resumed.ofKeeps (h : Keeps s t fs) (hfs : ∀ k ∈ fs.map Fld.key, k / 4194304 ≠ 0x01) (hp : t.pm = s.pm) (hj : s.jl.queue <+: t.jl.queue) :
    Resumed s t := ⟨fun f hf => h f (fun hm => hfs _ hm hf) (tallied_of_window (by omega)), hp, hj⟩

theorem resumed_startMigration (s : State) (src : Source) (forced : Bool) : Resumed s (s.startMigration src forced) :=
  .ofKeeps (keeps_startMigration s src forced) (by decide) rfl List.prefix_rfl

theorem resumed_startOwed (s : State) : Resumed s s.startOwed := by
  unfold State.startOwed State.when
  split
  · exact resumed_startMigration s _ false
  · exact .refl s

theorem resumed_beginMigration (s : State) (src : Source) : Resumed s (s.beginMigration src) := by
  unfold State.beginMigration
  split
  · obtain ⟨hget, hpm, hjl⟩ := resumed_startMigration s src true
    exact ⟨hget, hpm, hjl⟩
  · exact resumed_startMigration s src false

theorem resumed_requestMigration (s : State) (target : Nat) : Resumed s (s.requestMigration target) := by
  by_cases hr : s.requestReason target = 0
  · rw [requestMigration_accepted hr]
    split
    · exact ⟨fun _ _ => rfl, rfl, List.prefix_rfl⟩
    · exact resumed_beginMigration s _
  · rw [requestMigration_rejected hr]
    exact .ofKeeps ((Keeps.refl s [F.TB_EVT_REQ_REJ]).event _ _ _ _ (by simp)) (by decide) (State.event_pm _ _ _ _ _) (event_prefix _ _ _ _ _)

theorem resumed_resumeWaitingMigration (s : State) : Resumed s s.resumeWaitingMigration := by
  unfold State.resumeWaitingMigration
  split
  · exact resumed_startOwed s
  · next src _ =>
    have hwait : Resumed s { s with tb.waiting := none } := ⟨fun _ _ => rfl, rfl, List.prefix_rfl⟩
    exact (hwait.trans (resumed_requestMigration _ src.code)).trans (resumed_startOwed _)

theorem resumed_retryCals (s : State) : Resumed s s.retryCals := by
  obtain ⟨q, r, h, -⟩ := retryCals_cases s
  rw [h]
  exact ⟨fun _ _ => rfl, rfl, List.prefix_rfl⟩

/-- Length of the episode in µs, as its record gives it. -/
def State.dipUs (s : State) : Nat := (roundDiv (s.now - s.pm.dipAt : Nat) tuUs).toNat

/-- The registers of an episode that ends. -/
def State.dipEndRegs (s : State) : List (Fld × Nat) :=
  [(F.PM_STAT_DIP, 0), (F.PM_STAT_RAIL_OK, s.get F.PM_STAT_RAIL_OK ||| 0x7FF),
    (F.PM_DIP_STAT_LAST, min s.dipUs (2 ^ F.PM_DIP_STAT_LAST.width - 1)),
    (F.PM_DIP_STAT_COUNT, min (s.get F.PM_DIP_STAT_COUNT + 1) (2 ^ F.PM_DIP_STAT_COUNT.width - 1)), (F.PM_DIP_STAT_RAILS, s.pm.dipRails),
    (F.PM_DIP_MAX_MAX, min (max s.dipUs (s.get F.PM_DIP_MAX_MAX)) (2 ^ F.PM_DIP_MAX_MAX.width - 1))]

def State.dipOver (s : State) : State := s.putAll s.dipEndRegs

/-- The record of an episode that ends, with its event; nothing has been resumed yet. -/
def State.dipRecorded (s : State) (arg : Nat) : State := { s.dipOver with pm.dipTo := s.now }.event F.PM_EVT_DIP_END 0x0102 0 arg

theorem exec_dipEnd (s : State) : exec .dipEnd s = running s fun s =>
    if !s.on F.PM_STAT_DIP || decide (s.now < s.pm.lastLow + tuMs) then s
    else (s.dipRecorded (min s.dipUs 0xFFFFFFFF * 2 ^ 32)).resumeWaitingMigration.retryCals := by
  show execDipEnd s = _
  unfold execDipEnd
  refine running_congr ?_
  have hcount : (((s.put F.PM_STAT_DIP 0).put F.PM_STAT_RAIL_OK (s.get F.PM_STAT_RAIL_OK ||| 0x7FF)).putSat F.PM_DIP_STAT_LAST
      (roundDiv (s.now - s.pm.dipAt : Nat) tuUs).toNat).get F.PM_DIP_STAT_COUNT = s.get F.PM_DIP_STAT_COUNT := by
    unfold State.putSat
    rw [State.get_put_other _ _ _ _ (by decide), State.get_put_other _ _ _ _ (by decide), State.get_put_other _ _ _ _ (by decide)]
  dsimp only [State.count]
  rw [hcount]
  rfl

theorem nodup_dipEndRegs (s : State) : ((s.dipEndRegs.map Prod.fst).map Fld.key).Nodup := by
  have h : (([F.PM_STAT_DIP, F.PM_STAT_RAIL_OK, F.PM_DIP_STAT_LAST, F.PM_DIP_STAT_COUNT, F.PM_DIP_STAT_RAILS, F.PM_DIP_MAX_MAX] :
      List Fld).map Fld.key).Nodup := by decide
  exact h

theorem dipEndRegs_apart (s : State) : ∀ e ∈ s.dipEndRegs, e.1.key ≠ F.PM_EVT_DIP_END.key ∧ e.1.tallied = false := by
  have h : ∀ f ∈ ([F.PM_STAT_DIP, F.PM_STAT_RAIL_OK, F.PM_DIP_STAT_LAST, F.PM_DIP_STAT_COUNT, F.PM_DIP_STAT_RAILS, F.PM_DIP_MAX_MAX] : List Fld),
      f.key ≠ F.PM_EVT_DIP_END.key ∧ f.tallied = false := by decide
  exact fun e he => h e.1 (List.mem_map_of_mem (f := Prod.fst) he)

/-- An event after a change of the power part leaves the other fields alone. -/
theorem get_event_withPm (u : State) (pm : PmPart) {f g : Fld} (code inst arg : Nat) (h : f.key ≠ g.key ∧ f.tallied = false) :
    (({ u with pm := pm } : State).event g code inst arg).get f = u.get f := (State.event_get_other _ _ _ _ _ _ h.1 h.2).trans rfl

theorem dipRecorded_read (s : State) (arg : Nat) {f : Fld} (h : f.key ≠ F.PM_EVT_DIP_END.key ∧ f.tallied = false) :
    (s.dipRecorded arg).get f = s.dipOver.get f := get_event_withPm s.dipOver _ _ _ _ h

theorem dipRecorded_get (s : State) (arg : Nat) : ∀ e ∈ s.dipEndRegs, (s.dipRecorded arg).get e.1 = e.2 % 2 ^ e.1.width :=
  fun e he => (dipRecorded_read s arg (dipEndRegs_apart s e he)).trans (get_putAll s (nodup_dipEndRegs s) e he)

theorem dipRecorded_journal (arg : Nat) (hq : s.quiet = false) (hr : s.jl.queue.length < 1024) :
    (s.dipRecorded arg).jl.queue = s.jl.queue ++ [⟨0x0102, 0x01, 0, arg % 2 ^ 64⟩] := by
  have hquiet : s.dipOver.quiet = s.quiet := (Frame.putAll_fst s s.dipEndRegs).quiet
  have hjl : s.dipOver.jl = s.jl := putAll_jl s s.dipEndRegs
  unfold State.dipRecorded
  generalize s.dipOver = u at *
  exact logs_event (u := { u with pm.dipTo := s.now }) hquiet hjl F.PM_EVT_DIP_END 0x0102 0 arg hq hr

theorem does_dipEnd (hp : s.power = .run) (hd : s.on F.PM_STAT_DIP = true) (hl : s.pm.lastLow + tuMs ≤ s.now) : Does .dipEnd s fun t =>
    t.get F.PM_STAT_DIP = 0 ∧ t.get F.PM_EVT_DIP_END = 1 ∧ t.get F.PM_DIP_STAT_LAST = min s.dipUs (2 ^ F.PM_DIP_STAT_LAST.width - 1) ∧
    t.get F.PM_DIP_STAT_COUNT = min (s.get F.PM_DIP_STAT_COUNT + 1) (2 ^ F.PM_DIP_STAT_COUNT.width - 1) ∧
    t.get F.PM_DIP_STAT_RAILS = s.pm.dipRails % 2 ^ F.PM_DIP_STAT_RAILS.width ∧ t.pm.dipTo = s.now ∧
    t.get F.PM_DIP_MAX_MAX = min (max s.dipUs (s.get F.PM_DIP_MAX_MAX)) (2 ^ F.PM_DIP_MAX_MAX.width - 1) ∧
    (∀ r < 11, (t.get F.PM_STAT_RAIL_OK).testBit r = true) ∧
    (s.quiet = false → s.jl.queue.length < 1024 →
      (s.jl.queue ++ [⟨0x0102, 0x01, 0, min s.dipUs 0xFFFFFFFF * 2 ^ 32 % 2 ^ 64⟩]) <+: t.jl.queue) := by
  refine does_running (exec_dipEnd s) hp ?_
  rw [if_neg (by simp [hd, hl])]
  generalize min s.dipUs 0xFFFFFFFF * 2 ^ 32 = arg
  obtain ⟨hget, hpm, hjl⟩ := (resumed_resumeWaitingMigration (s.dipRecorded arg)).trans (resumed_retryCals _)
  generalize (s.dipRecorded arg).resumeWaitingMigration.retryCals = v at *
  have hregs := dipRecorded_get s arg
  simp only [State.dipEndRegs, List.forall_mem_cons, List.not_mem_nil, false_implies, implies_true, and_true] at hregs
  obtain ⟨hdip, hrail, hlast, hcount, hrails, hmax⟩ := hregs
  have hread (f : Fld) (hf : f.key / 4194304 = 0x01) : v.settle.get f = (s.dipRecorded arg).get f := (State.settle_get v f).trans (hget f hf)
  have hsat (x w : Nat) : min x (2 ^ w - 1) % 2 ^ w = min x (2 ^ w - 1) :=
    Nat.mod_eq_of_lt (lt_of_le_of_lt (min_le_right _ _) (Nat.sub_lt (Nat.two_pow_pos w) one_pos))
  refine ⟨(hread _ (by decide)).trans hdip, (hread _ (by decide)).trans (State.event_flag _ _ _ _ _ (by decide) (by decide)),
    (hread _ (by decide)).trans (hlast.trans (hsat _ _)), (hread _ (by decide)).trans (hcount.trans (hsat _ _)), (hread _ (by decide)).trans hrails,
    ?_, (hread _ (by decide)).trans (hmax.trans (hsat _ _)), fun r hr => ?_, fun hq hroom => ?_⟩
  · rw [State.settle_pm, hpm]
    exact congrArg PmPart.dipTo (State.event_pm _ _ _ _ _)
  · rw [hread _ (by decide), hrail, Nat.testBit_mod_two_pow, Nat.testBit_or, Nat.testBit_two_pow_sub_one 11 r]
    simp [F.PM_STAT_RAIL_OK, hr, Nat.lt_succ_of_lt hr]
  · rw [State.settle_jl, ← dipRecorded_journal arg hq hroom]
    exact hjl

theorem does_dipEnd_waits (hp : s.power = .run) (h : s.on F.PM_STAT_DIP = false ∨ s.now < s.pm.lastLow + tuMs) :
    Does .dipEnd s fun t => Frame s t [] := by
  refine does_running (exec_dipEnd s) hp ?_
  rw [if_pos (by simpa using h)]
  exact Frame.settle s []

/-! ## VBAT and ageing (R348, R419, R420) -/

/-- A reading of VBAT in the registers, before its event. -/
def State.vbatRead (s : State) (mv : Nat) : State :=
  ((s.put F.PM_VBAT_MV mv).putB F.PM_STAT_VBAT_LOW (decide (mv < 2200))).putRail 11 !decide (mv < 2200)

theorem exec_vbatMeasure (mv : BitVec 12) (s : State) : exec (.vbatMeasure mv) s = running s fun s =>
    (s.vbatRead mv.toNat).when (decide (mv.toNat < 2200)) (·.event F.PM_EVT_VBAT_LOW 0x0105 0 0) := rfl

theorem vbatRead_writes (s : State) {mv : Nat} (h : mv < 2 ^ 12) :
    Frame s (s.vbatRead mv) [F.PM_VBAT_MV, F.PM_STAT_VBAT_LOW, F.PM_STAT_RAIL_OK] ∧ (s.vbatRead mv).get F.PM_VBAT_MV = mv ∧
    (s.vbatRead mv).get F.PM_STAT_VBAT_LOW = (decide (mv < 2200)).toNat ∧
    ((s.vbatRead mv).get F.PM_STAT_RAIL_OK).testBit 11 = decide (2200 ≤ mv) := by
  refine ⟨?_, ?_, ?_, ?_⟩
  · exact ((Frame.put s _ _ (.inl (by simp))).trans (Frame.putB _ _ _ (by simp))).trans ((Frame.putRail _ _ _).mono (by simp))
  · exact (State.get_put_other _ _ _ _ (by decide)).trans ((State.get_put_other _ _ _ _ (by decide)).trans
      ((State.get_put_same _ _ _).trans (Nat.mod_eq_of_lt h)))
  · refine (State.get_put_other _ _ _ _ (by decide)).trans ((State.get_put_same _ _ _).trans ?_)
    cases decide (mv < 2200) <;> rfl
  · exact (railShown_putRail _ (by decide) _).1.trans (by simp [← decide_not])

theorem does_vbatMeasure (mv : BitVec 12) (hp : s.power = .run) : Does (.vbatMeasure mv) s fun t =>
    Frame s t [F.PM_VBAT_MV, F.PM_STAT_VBAT_LOW, F.PM_STAT_RAIL_OK, F.PM_EVT_VBAT_LOW] ∧ t.get F.PM_VBAT_MV = mv.toNat ∧
    t.get F.PM_STAT_VBAT_LOW = (decide (mv.toNat < 2200)).toNat ∧ (t.get F.PM_STAT_RAIL_OK).testBit 11 = decide (2200 ≤ mv.toNat) ∧
    (mv.toNat < 2200 → t.get F.PM_EVT_VBAT_LOW = 1 ∧ Logs s t 0x0105 0x01 0 0) ∧ (2200 ≤ mv.toNat → LogsNone s t) := by
  refine does_running (exec_vbatMeasure mv s) hp ?_
  obtain ⟨hframe, hmv, hlow, hrail⟩ := vbatRead_writes s mv.isLt
  have hjl : (s.vbatRead mv.toNat).jl = s.jl := rfl
  generalize s.vbatRead mv.toNat = u at *
  have hframe := hframe.mono (gs := [F.PM_VBAT_MV, F.PM_STAT_VBAT_LOW, F.PM_STAT_RAIL_OK, F.PM_EVT_VBAT_LOW]) (by simp)
  by_cases h : mv.toNat < 2200
  · have hkeep (f : Fld) (hk : f.key ≠ F.PM_EVT_VBAT_LOW.key ∧ f.tallied = false) :
        (u.event F.PM_EVT_VBAT_LOW 0x0105 0 0).settle.get f = u.get f :=
      (State.settle_get _ f).trans (State.event_get_other u _ f _ _ _ hk.1 hk.2)
    rw [decide_eq_true h, State.when_true]
    refine ⟨(hframe.trans (Frame.event u _ _ _ _ (by simp))).settled, (hkeep _ (by decide)).trans hmv, ?_, ?_, fun _ => ⟨?_, ?_⟩,
      fun h' => absurd h h'.not_gt⟩
    · rw [hkeep _ (by decide), hlow, decide_eq_true h]
    · rw [hkeep _ (by decide), hrail]
    · rw [State.settle_get]
      exact State.event_flag u _ _ _ _ (by decide) (by decide)
    · exact (logs_event hframe.quiet hjl _ _ _ _).ofJl (State.settle_jl _)
  · rw [decide_eq_false h, State.when_false]
    rw [decide_eq_false h] at hlow
    exact ⟨hframe.settled, (State.settle_get u _).trans hmv, (State.settle_get u _).trans hlow, by rw [State.settle_get, hrail],
      fun h' => absurd h' h, fun _ => by rw [LogsNone, State.settle_jl, hjl]⟩

/-- What an ageing comparison writes. -/
def State.ageRegs (s : State) (core tb : Nat) : List (Fld × Nat) :=
  [(F.PM_AGE_CORE, core), (F.PM_AGE_TB, tb), (F.PM_AGE_WARN, (decide (s.get F.PM_AGE_WARN_LVL ≤ max core tb)).toNat)]

theorem exec_ageingCompare (core tb : BitVec 16) (s : State) : exec (.ageingCompare core tb) s = running s fun s =>
    if s.on F.PM_STAT_DIP then s else s.putAll (s.ageRegs core.toNat tb.toNat) := by
  show execAgeingCompare core tb s = _
  unfold execAgeingCompare
  refine running_congr ?_
  dsimp only
  split
  · rfl
  · have hwarn (a b l : Nat) : (if (decide (l ≤ a) || decide (l ≤ b)) = true then 1 else 0) = (decide (l ≤ max a b)).toNat := by
      simp [Bool.toNat]
    unfold State.putB
    rw [hwarn]
    rfl

theorem does_ageingCompare (core tb : BitVec 16) (hp : s.power = .run) :
    (s.on F.PM_STAT_DIP = true → Does (.ageingCompare core tb) s fun t => Frame s t []) ∧
    (s.on F.PM_STAT_DIP = false → Does (.ageingCompare core tb) s fun t => Frame s t [F.PM_AGE_CORE, F.PM_AGE_TB, F.PM_AGE_WARN] ∧
      t.get F.PM_AGE_CORE = core.toNat ∧ t.get F.PM_AGE_TB = tb.toNat ∧
      t.get F.PM_AGE_WARN = (decide (s.get F.PM_AGE_WARN_LVL ≤ max core.toNat tb.toNat)).toNat) := by
  refine ⟨fun hd => does_running (exec_ageingCompare core tb s) hp ?_, fun hd => does_running (exec_ageingCompare core tb s) hp ?_⟩
  · rw [if_pos hd]
    exact Frame.settle s []
  · rw [if_neg (by simp [hd])]
    have hnd : (([F.PM_AGE_CORE, F.PM_AGE_TB, F.PM_AGE_WARN] : List Fld).map Fld.key).Nodup := by decide
    have hget := get_putAll s (l := s.ageRegs core.toNat tb.toNat) hnd
    simp only [State.ageRegs, List.forall_mem_cons, List.not_mem_nil, false_implies, implies_true, and_true] at hget
    obtain ⟨hcore, htb, hwarn⟩ := hget
    simp only [State.settle_get]
    exact ⟨(Frame.putAll_fst s _).settled, hcore.trans (Nat.mod_eq_of_lt core.isLt), htb.trans (Nat.mod_eq_of_lt tb.isLt),
      hwarn.trans (Nat.mod_eq_of_lt (Bool.toNat_lt _))⟩

/-! ## The SRAM scrubber (R309, R311) -/

theorem Frame.withGl (h : Frame s t fs) (gl : GlPart) : Frame { s with gl := gl } { t with gl := gl } fs :=
  ⟨h.1, congrArg (fun x : State => { x with gl := gl }) h.2⟩

theorem Frame.withFirn (h : Frame s t fs) (firn : List Host.Cell) : Frame { s with firn := firn } { t with firn := firn } fs :=
  ⟨h.1, congrArg (fun x : State => { x with firn := firn }) h.2⟩

theorem Frame.withBoxes (h : Frame s t fs) (boxes : List Mailbox) : Frame { s with host.boxes := boxes } { t with host.boxes := boxes } fs :=
  ⟨h.1, congrArg (fun x : State => { x with host.boxes := boxes }) h.2⟩

/-- The fields that a walk may write. -/
def scrubFields : List Fld := [F.EC_SR_CNT_CORR, F.EC_SR_CNT_UNCORR, F.EC_EVT_SR_UNCORR]

/-- A walk has corrected corr bytes, and counted an uncorrectable one with its event. -/
def State.sramCounted (s : State) (corr arg : Nat) : State :=
  ((s.count F.EC_SR_CNT_CORR corr).count F.EC_SR_CNT_UNCORR 1).event F.EC_EVT_SR_UNCORR 0x080B 0 arg

/-- The argument of event 0x080B: memory and offset. -/
def SramHit.arg (h : SramHit) : Nat := h.place.1 + h.place.2 % 2 ^ 32 * 2 ^ 32

/-- A walk that meets one uncorrectable byte counts it; what follows depends on the memory. -/
theorem walk_one (s : State) (corr : Nat) (h : SramHit) : (s.count F.EC_SR_CNT_CORR corr).forAll [h] State.sramUncorrectable =
    let t := s.sramCounted corr h.arg
    match h with
    | .floe f off => { t with gl.floePoison := (f * 2 ^ 18 + off) / 8 * 8 :: t.gl.floePoison.filter (· != (f * 2 ^ 18 + off) / 8 * 8) }
    | .mailbox fn => t.when (t.box fn).doorbell (·.endBox fn 0x07 [])
    | .slot k => (t.slotEcc k).abortSlot k 0x07
    | .core => t.trigger 4
    | .firn off v => { t with firn := writeCell (off % 0x8000) v 0 t.firn }
    | .other _ _ => t := by
  rw [State.forAll, List.foldl_cons, List.foldl_nil, State.sramUncorrectable.eq_def]
  cases h <;> rfl

theorem sramCounted_counts (s : State) (corr arg : Nat) : Frame s (s.sramCounted corr arg) scrubFields ∧
    (s.sramCounted corr arg).get F.EC_SR_CNT_CORR = min (s.get F.EC_SR_CNT_CORR + corr) (2 ^ F.EC_SR_CNT_CORR.width - 1) ∧
    (s.sramCounted corr arg).get F.EC_SR_CNT_UNCORR = min (s.get F.EC_SR_CNT_UNCORR + 1) (2 ^ F.EC_SR_CNT_UNCORR.width - 1) ∧
    (s.sramCounted corr arg).get F.EC_EVT_SR_UNCORR = 1 ∧ Logs s (s.sramCounted corr arg) 0x080B 0x12 0 arg := by
  have hother (f : Fld) (n : Nat) (t : State) {g : Fld} (h : g.key ≠ f.key) : (t.count f n).get g = t.get g := State.get_put_other t f g _ h
  refine ⟨?_, ?_, ?_, State.event_flag _ _ _ _ _ (by decide) (by decide), 
    logs_event (u := (s.count F.EC_SR_CNT_CORR corr).count F.EC_SR_CNT_UNCORR 1) rfl rfl F.EC_EVT_SR_UNCORR 0x080B 0 arg⟩
  · exact ((Frame.count s _ _ (by decide)).trans (Frame.count _ _ _ (by decide))).trans (Frame.event _ _ _ _ _ (by decide))
  · exact (State.event_get_other _ _ _ _ _ _ (by decide) (by decide)).trans ((hother _ 1 _ (by decide)).trans (get_count_same s _ corr))
  · refine (State.event_get_other _ _ _ _ _ _ (by decide) (by decide)).trans ((get_count_same _ _ 1).trans ?_)
    rw [hother _ corr s (by decide)]

theorem exec_sramScrubWalk (hits : List SramHit) (corr : Nat) (s : State) :
    exec (.sramScrubWalk hits corr) s = running s fun s => (s.count F.EC_SR_CNT_CORR corr).forAll hits State.sramUncorrectable := rfl

theorem does_sramScrubWalk_clean (corr : Nat) (hp : s.power = .run) : Does (.sramScrubWalk [] corr) s fun t =>
    Frame s t [F.EC_SR_CNT_CORR] ∧ t.get F.EC_SR_CNT_CORR = min (s.get F.EC_SR_CNT_CORR + corr) (2 ^ F.EC_SR_CNT_CORR.width - 1) :=
  does_running (exec_sramScrubWalk [] corr s) hp
    ⟨(Frame.count s _ _ (by simp)).settled, (State.settle_get _ _).trans (get_count_same s _ corr)⟩

/-- A walk that meets one byte counts it, where what follows leaves registers and journal alone. -/
theorem does_sramScrubWalk_counts {h : SramHit} {corr : Nat} (hp : s.power = .run)
    (hu : (s.count F.EC_SR_CNT_CORR corr).forAll [h] State.sramUncorrectable = u) (hc : u.cells = (s.sramCounted corr h.arg).cells)
    (hj : u.jl = (s.sramCounted corr h.arg).jl) : Does (.sramScrubWalk [h] corr) s fun t => Keeps s t scrubFields ∧
      t.get F.EC_SR_CNT_CORR = min (s.get F.EC_SR_CNT_CORR + corr) (2 ^ F.EC_SR_CNT_CORR.width - 1) ∧
      t.get F.EC_SR_CNT_UNCORR = min (s.get F.EC_SR_CNT_UNCORR + 1) (2 ^ F.EC_SR_CNT_UNCORR.width - 1) ∧ t.get F.EC_EVT_SR_UNCORR = 1 ∧
      Logs s t 0x080B 0x12 0 h.arg := by
  refine does_running (exec_sramScrubWalk [h] corr s) hp ?_
  rw [hu]
  obtain ⟨hframe, hcorr, huncorr, hevt, hlogs⟩ := sramCounted_counts s corr h.arg
  have hget (f : Fld) : u.settle.get f = (s.sramCounted corr h.arg).get f := (State.settle_get u f).trans (get_ofCells hc f)
  exact ⟨Keeps.settle (hframe.keeps.next hc), (hget _).trans hcorr, (hget _).trans huncorr, (hget _).trans hevt,
    hlogs.ofJl ((State.settle_jl u).trans hj)⟩

/-- Ending a mailbox writes neither registers nor the journal. -/
theorem endBox_leaves (t : State) (b : Bool) (fn status : Nat) : (t.when b (·.endBox fn status [])).cells = t.cells ∧
    (t.when b (·.endBox fn status [])).jl = t.jl := by cases b <;> exact ⟨rfl, rfl⟩

theorem endBox_ends (t : State) (fn status : Nat) :
    ((t.endBox fn status []).box fn).doorbell = false ∧ ((t.endBox fn status []).box fn).status = status := by
  have h := getD_assign_same ({} : Mailbox) {} { t.box fn with
    doorbell := false, status := status, done := true, rtag := (t.box fn).tag, rpayload := [], reply := none } fn t.host.boxes
  exact ⟨congrArg Mailbox.doorbell h, congrArg Mailbox.status h⟩

theorem does_sramScrubWalk_one (corr floe off : Nat) (v : Byte) (fn : Fin 6) (hp : s.power = .run) :
    ∀ h ∈ [SramHit.floe floe off, .mailbox fn, .firn off v, .other floe off], Does (.sramScrubWalk [h] corr) s fun t => Keeps s t scrubFields ∧
      t.get F.EC_SR_CNT_CORR = min (s.get F.EC_SR_CNT_CORR + corr) (2 ^ F.EC_SR_CNT_CORR.width - 1) ∧
      t.get F.EC_SR_CNT_UNCORR = min (s.get F.EC_SR_CNT_UNCORR + 1) (2 ^ F.EC_SR_CNT_UNCORR.width - 1) ∧ t.get F.EC_EVT_SR_UNCORR = 1 ∧
      Logs s t 0x080B 0x12 0 h.arg := by
  simp only [List.forall_mem_cons, List.not_mem_nil, false_implies, implies_true, and_true]
  obtain ⟨hcells, hjl⟩ := endBox_leaves (s.sramCounted corr (SramHit.mailbox fn).arg)
    ((s.sramCounted corr (SramHit.mailbox fn).arg).box fn).doorbell fn 0x07
  exact ⟨does_sramScrubWalk_counts hp (walk_one s corr _) rfl rfl, does_sramScrubWalk_counts hp (walk_one s corr _) hcells hjl,
    does_sramScrubWalk_counts hp (walk_one s corr _) rfl rfl, does_sramScrubWalk_counts hp (walk_one s corr _) rfl rfl⟩

/-- A Floe's byte is poisoned with its word (R309). -/
theorem does_sramScrubWalk_floe (corr floe off : Nat) (hp : s.power = .run) : let at_ := (floe * 2 ^ 18 + off) / 8 * 8
    Does (.sramScrubWalk [.floe floe off] corr) s fun t =>
      Frame { s with gl.floePoison := at_ :: s.gl.floePoison.filter (· != at_) } t scrubFields := by
  intro at_
  refine does_running (exec_sramScrubWalk _ corr s) hp ?_
  rw [walk_one]
  obtain ⟨hframe, -⟩ := sramCounted_counts s corr (SramHit.floe floe off).arg
  generalize s.sramCounted corr (SramHit.floe floe off).arg = u at *
  have hgl : u.gl = s.gl := by rw [hframe.2]
  dsimp only
  rw [hgl]
  exact (hframe.withGl _).settled

/-- A mailbox that a request holds ends it with status 0x07 (R309). -/
theorem does_sramScrubWalk_mailbox (corr : Nat) (fn : Fin 6) (hp : s.power = .run) (hb : (s.box fn).doorbell = true) :
    Does (.sramScrubWalk [.mailbox fn] corr) s fun t => (t.box fn).doorbell = false ∧ (t.box fn).status = 7 ∧
      Frame { s with host.boxes := t.host.boxes } t scrubFields := by
  refine does_running (exec_sramScrubWalk _ corr s) hp ?_
  rw [walk_one]
  obtain ⟨hframe, -⟩ := sramCounted_counts s corr (SramHit.mailbox fn).arg
  generalize s.sramCounted corr (SramHit.mailbox fn).arg = u at *
  have hboxes : u.host.boxes = s.host.boxes := by rw [hframe.2]
  have hdoor : (u.box fn).doorbell = true := by rw [State.box, hboxes]; exact hb
  dsimp only
  rw [hdoor, State.when_true]
  obtain ⟨hends, hstatus⟩ := endBox_ends u fn 0x07
  have hbox : (u.endBox fn 0x07 []).settle.box fn = (u.endBox fn 0x07 []).box fn := by rw [State.box, State.settle_host]; rfl
  rw [hbox, State.settle_host]
  exact ⟨hends, hstatus, ((hframe.withBoxes _).trans (Frame.signal _ fn 0 _)).settled⟩

/-- A byte of the Firn store takes what the hit left there (R309). -/
theorem does_sramScrubWalk_firn (corr off : Nat) (v : Byte) (hp : s.power = .run) (ho : off < 0x8000) :
    Does (.sramScrubWalk [.firn off v] corr) s fun t => Frame { s with firn := writeCell off v 0 s.firn } t scrubFields := by
  refine does_running (exec_sramScrubWalk _ corr s) hp ?_
  rw [walk_one]
  obtain ⟨hframe, -⟩ := sramCounted_counts s corr (SramHit.firn off v).arg
  generalize s.sramCounted corr (SramHit.firn off v).arg = u at *
  have hfirn : u.firn = s.firn := by rw [hframe.2]
  dsimp only
  rw [hfirn, Nat.mod_eq_of_lt ho]
  exact (hframe.withFirn _).settled

/-! ## The obligation -/

/-- Settles O45: each command goes by the lemma that says what it does, the checkpoint of a dip by `checkpointed` and `checkpoint_leaves`. -/
theorem dipsAreTimedAndReadingsAreKept : Obligations.DipsAreTimedAndReadingsAreKept := by
  refine ⟨fun s rail ns sealed hp => ?_, fun s hp => ⟨fun hd hl => does_dipEnd hp hd hl, does_dipEnd_waits hp⟩,
    fun s mv core tb hp => ⟨does_vbatMeasure mv hp, does_ageingCompare core tb hp⟩, fun s corr floe off v fn hp => ?_⟩
  · obtain ⟨hidle, hdip⟩ := does_railBelowWarning rail ns hp
    refine ⟨hidle, hdip, does_dipStart rail sealed hp, fun hd => does_running (exec_dipStart rail sealed s) hp ?_⟩
    rw [if_pos hd]
    exact Frame.settle s []
  · exact ⟨does_sramScrubWalk_clean corr hp, does_sramScrubWalk_one corr floe off v fn hp, does_sramScrubWalk_floe corr floe off hp,
      does_sramScrubWalk_mailbox corr fn hp, does_sramScrubWalk_firn corr off v hp⟩

end Sys2Proof.Machine
end
section
/-! PROOF. Comparison of references (O7): a state that the statement admits and in which its clause on a contest fails (R103). -/
namespace Sys2Proof.Machine

/-- Slots 0 and 1 are QUALIFIED and their frequencies disagree, with no arbiter. RS_STAT.ACTIVE, four bits wide, holds 0xFF8, which no write of
the model leaves there: STATE of that slot would lie where counter 4 has its value, and counter 4 counts every event. -/
def activeBeyondWidth : State := { State.reset with
  cells := [(F.RS_STAT_ACTIVE.key, 0xFF8), (F.RS_STAT_HOLD.key, 0), ((F.RS_REF_STAT_STATE 0).key, 3), ((F.RS_REF_STAT_STATE 1).key, 3),
    ((F.PC_SEL_EN 4).key, 1), ((F.PC_SEL_KIND 4).key, 1), ((F.PC_CNT_VALUE 4).key, 4)]
  rs.slots := [{ y := some (10 ^ 18) }, { y := some 0 }] }

/-- The state meets each premise of the clause on a contest. -/
theorem activeBeyondWidth_premises : activeBeyondWidth.on F.PM_STAT_DIP = false ∧ activeBeyondWidth.on F.RS_CONTEST_VALID = false ∧
    activeBeyondWidth.activeSlot = some 0xFF8 ∧ activeBeyondWidth.usable 0xFF8 = true ∧
    activeBeyondWidth.worstPair = some (0, 1, false, 10 ^ 18) ∧
    activeBeyondWidth.outlier false 0 1 (activeBeyondWidth.arbiters false 0 1) = none := by decide

/-- The state in which a comparison of the references ends, but for the stores that settle (R103). -/
def State.comparedReferences (s : State) : State :=
  let t := s.when (!s.on F.PM_STAT_DIP) (fun s =>
    ((s.when (s.on F.RS_CONTEST_VALID) State.compareContest).compareFresh.checkContest.fallBack).showMasks.showSelection)
  let t := t.forAll (List.range 16) (fun t n => t.setSlot n (fun c => { c with meanN := 0, meanSum := 0 }))
  { t with rs.cmp := s.newWindow }

theorem exec_rsDisagreeCompare_run {s : State} (hp : s.power = .run) : exec .rsDisagreeCompare s = .next s.comparedReferences.settle := by
  have h : exec .rsDisagreeCompare s = running s State.comparedReferences := rfl
  rw [h]
  simp [running, hp]

/-- The contest's event counts, so the active slot, usable before it, is not usable after it. -/
theorem activeBeyondWidth_unusable : (activeBeyondWidth.beginContest false 0 1 (10 ^ 18)).usable 0xFF8 = false := by decide +kernel

/-- So the comparison falls back, and no reference is active after it. -/
theorem activeBeyondWidth_holds : activeBeyondWidth.comparedReferences.get F.RS_STAT_HOLD = 1 := by decide +kernel

/-- A frame that leaves the selector's state free keeps every field outside it. -/
theorem get_of_frame_rs {s t : State} {fs : List Fld} (h : Frame { s with rs := t.rs } t fs) {f : Fld} (hf : f.tallied = false)
    (hk : f.key ∉ fs.map Fld.key) : t.get f = s.get f := h.1 f hk hf

/-- Refutes O7. The clause on a contest says that no field but those of the contest and RS_STAT's masks and candidate changes where the active slot
is usable. It admits a state whose RS_STAT.ACTIVE exceeds its four bits: there the field read as the active slot's STATE is a counter of events, the
contest's own event makes the slot unusable, and the comparison changes HOLD. The clause lacks the premise that ACTIVE is below 16. -/
theorem not_referenceSelectorActsOnItsCommands : ¬ Obligations.ReferenceSelectorActsOnItsCommands := by
  rintro ⟨-, -, -, hcompare, -⟩
  obtain ⟨hdip, hvalid, hactive, husable, hworst, hnone⟩ := activeBeyondWidth_premises
  have hpremise : ∀ a, activeBeyondWidth.activeSlot = some a → activeBeyondWidth.usable a = true :=
    fun a ha => Option.some.inj (hactive.symm.trans ha) ▸ husable
  obtain ⟨-, -, hpair⟩ := hcompare activeBeyondWidth rfl hdip hvalid hpremise
  obtain ⟨-, hcontest⟩ := hpair 0 1 false (10 ^ 18) hworst
  obtain ⟨t, ht, -, -, -, -, -, -, -, -, hframe⟩ := hcontest hnone
  rw [exec_rsDisagreeCompare_run rfl] at ht
  have ht : activeBeyondWidth.comparedReferences.settle = t := by injection ht
  have hkept := get_of_frame_rs hframe (f := F.RS_STAT_HOLD) (by decide) (by decide)
  have hbefore : activeBeyondWidth.get F.RS_STAT_HOLD = 0 := by decide
  rw [← ht, State.settle_get, activeBeyondWidth_holds, hbefore] at hkept
  exact absurd hkept (by decide)

end Sys2Proof.Machine
end

section
/-! PROOF. Checkpoints (O10): the write to a slot, the count of a missed one, and the fence of the port (R122, R126, R329). -/
namespace Sys2Proof.Machine

variable {s : State}

/-! ## A checkpoint is written -/

/-- What a sealed checkpoint sends to the mate waits on the ports; all else is as written. -/
theorem checkpoint_sent (sealed : Bool) (h : s.coreLive = true) : ∃ ports seq,
    s.checkpoint sealed = { s.writeCkpt sealed with wire.ports := ports, rd.mateSeq := seq } ∧
      (sealed = false → ports = (s.writeCkpt sealed).wire.ports ∧ seq = (s.writeCkpt sealed).rd.mateSeq) := by
  rw [checkpoint_live sealed h]
  cases sealed
  · rw [State.when_false]
    generalize s.writeCkpt false = u
    exact ⟨u.wire.ports, u.rd.mateSeq, rfl, fun _ => ⟨rfl, rfl⟩⟩
  · obtain ⟨ports, seq, hsent⟩ := mateSent_sendSegments (s.writeCkpt true) (s.ckptBytes true)
    exact ⟨ports, seq, hsent, nofun⟩

theorem slot_ne_seq (k : Nat) : (F.TK_STAT_SLOT k).key ≠ (F.TK_CKPT_SEQ_SEQ k).key := by
  simp only [Fld.key, F.TK_STAT_SLOT, F.TK_CKPT_SEQ_SEQ]
  omega

/-- The registers name the slot written and, once it is sealed, its SEQ (R122). -/
theorem ckptRegs_get (s : State) (sealed : Bool) : (s.ckptRegs sealed).get (F.TK_STAT_SLOT s.core) = s.tk.nextSlot % 2 ∧
    (sealed = true → (s.ckptRegs sealed).get (F.TK_CKPT_SEQ_SEQ s.core) = s.tk.nextSeq % 2 ^ 64) := by
  cases sealed
  · exact ⟨State.get_put_same _ _ _, nofun⟩
  · exact ⟨(State.get_put_other _ _ _ _ (slot_ne_seq _)).trans (State.get_put_same _ _ _), fun _ => State.get_put_same _ _ _⟩

/-- The registers that a checkpoint writes. -/
def ckptFields (k : Nat) (sealed : Bool) : List Fld := F.TK_STAT_SLOT k :: if sealed then [F.TK_CKPT_SEQ_SEQ k] else []

theorem keeps_ckptFields (s : State) (sealed : Bool) : Keeps s (s.ckptRegs sealed) (ckptFields s.core sealed) := by
  cases sealed
  · exact (Keeps.refl s _).put _ _ (by simp [ckptFields])
  · exact ((Keeps.refl s _).put _ _ (by simp [ckptFields])).put _ _ (by simp [ckptFields])

theorem exec_checkpointWrite (sealed : Bool) (s : State) : exec (.checkpointWrite sealed) s = running s (·.checkpoint sealed) := rfl

/-- The write goes to one of the slots, whose 4 KiB it fills; the store stays as it is outside it (R122). -/
theorem firn_ckptBytes (s : State) (sealed : Bool) {a : Nat} (h : a < s.tk.nextSlot * 0x1000 ∨ s.tk.nextSlot * 0x1000 + 0x1000 ≤ a) :
    byteAt (writeBytes s.firn (s.tk.nextSlot * 0x1000) (s.ckptBytes sealed)) a = byteAt s.firn a :=
  byteAt_writeBytes_other _ _ _ _ (by rw [length_ckptBytes]; exact h)

theorem does_checkpointWrite (sealed : Bool) (hp : s.power = .run) (hl : s.coreLive = true) :
    Does (.checkpointWrite sealed) s fun t => t.tk = s.ckptTk sealed ∧
      t.firn = writeBytes s.firn (s.tk.nextSlot * 0x1000) (s.ckptBytes sealed) ∧
      t.get (F.TK_STAT_SLOT s.core) = s.tk.nextSlot % 2 ∧
      (sealed = true → t.get (F.TK_CKPT_SEQ_SEQ s.core) = s.tk.nextSeq % 2 ^ 64) ∧
      Frame { s with firn := t.firn, tk := t.tk, wire.ports := t.wire.ports, rd.mateSeq := t.rd.mateSeq } t (ckptFields s.core sealed) ∧
      (sealed = false → t.wire.ports = s.wire.ports ∧ t.rd.mateSeq = s.rd.mateSeq) := by
  refine does_running (exec_checkpointWrite sealed s) hp ?_
  obtain ⟨ports, seq, heq, hsame⟩ := checkpoint_sent sealed hl
  have hkeeps := keeps_ckptFields s sealed
  obtain ⟨hslot, hseq⟩ := ckptRegs_get s sealed
  simp only [State.settle_tk, State.settle_firn, State.settle_get, State.settle_wire, State.settle_rd]
  rw [heq]
  unfold State.writeCkpt at hsame ⊢
  generalize s.ckptRegs sealed = r at *
  generalize s.ckptTk sealed = tk at *
  generalize writeBytes s.firn (s.tk.nextSlot * 0x1000) (s.ckptBytes sealed) = firn at *
  exact ⟨rfl, rfl, hslot, hseq, Frame.settled ⟨hkeeps, rfl⟩, hsame⟩

/-! ## A missed checkpoint -/

/-- A register of a core from TK_STAT on lies at no place where events count, whatever number the core is given by. -/
theorem uncounted_coreReg {f : Fld} (h : 0x100 ≤ f.key / 64 % 0x8000) (h' : f.key / 64 % 0x8000 < 0x800) : f.uncounted := by
  intro n hn
  simp only [Fld.key, F.PC_CNT_VALUE, F.PC_OVF_OVF, F.JL_STAT_DROPPED] at h h' ⊢
  omega

theorem ckptMiss_uncounted (k : Nat) : (F.TK_MISS_CKPT_MISS k).uncounted := by
  apply uncounted_coreReg <;>
  · simp only [Fld.key, F.TK_MISS_CKPT_MISS]
    omega

theorem ckptMiss_ne_event (k : Nat) : (F.TK_MISS_CKPT_MISS k).key ≠ (F.TK_EVT_CKPT_MISS k).key := by
  simp only [Fld.key, F.TK_MISS_CKPT_MISS, F.TK_EVT_CKPT_MISS]
  omega

/-- The miss is counted and reported (R122, R126). -/
def State.missCkpt (s : State) : State :=
  (s.count (F.TK_MISS_CKPT_MISS s.core) 1).event (F.TK_EVT_CKPT_MISS s.core) 0x0402 s.core 0

theorem exec_checkpointMiss (s : State) : exec .checkpointMiss s = running s fun s =>
    s.when (s.coreLive && s.tk.unsealed.isSome && s.ckptInstant) fun s => { s.missCkpt with tk.unsealed := none } := rfl

theorem missCkpt_writes (s : State) :
    s.missCkpt.get (F.TK_MISS_CKPT_MISS s.core) = min (s.get (F.TK_MISS_CKPT_MISS s.core) + 1) (2 ^ 16 - 1) ∧
    Frame s s.missCkpt [F.TK_MISS_CKPT_MISS s.core, F.TK_EVT_CKPT_MISS s.core] ∧
    Logs s s.missCkpt 0x0402 (F.TK_EVT_CKPT_MISS s.core).window s.core 0 :=
  ⟨(get_event_uncounted (ckptMiss_uncounted _) _ _ _ _ _ (ckptMiss_ne_event _)).trans (get_count_same _ _ _),
    (Frame.count _ _ _ (by simp)).trans (Frame.event _ _ _ _ _ (by simp)), logs_event (by simp) (by simp) _ _ _ _⟩

theorem does_checkpointMiss (hp : s.power = .run) (hl : s.coreLive = true) (hu : s.tk.unsealed.isSome = true) (hi : s.ckptInstant = true) :
    Does .checkpointMiss s fun t => t.get (F.TK_MISS_CKPT_MISS s.core) = min (s.get (F.TK_MISS_CKPT_MISS s.core) + 1) (2 ^ 16 - 1) ∧
      Frame { s with tk.unsealed := none } t [F.TK_MISS_CKPT_MISS s.core, F.TK_EVT_CKPT_MISS s.core] ∧
      Logs s t 0x0402 (F.TK_EVT_CKPT_MISS s.core).window s.core 0 := by
  obtain ⟨hcount, hframe, hlogs⟩ := missCkpt_writes s
  have htk : s.missCkpt.tk = s.tk := by rw [hframe.2]
  refine does_running (exec_checkpointMiss s) hp ?_
  rw [hl, hu, hi]
  refine ⟨(State.settle_get _ _).trans hcount, Frame.settled ?_, hlogs.ofJl (State.settle_jl _)⟩
  have h := hframe.withTk { s.tk with unsealed := none }
  rw [← htk] at h ⊢
  exact h

theorem does_checkpointMiss_idle (hp : s.power = .run) (h : (s.coreLive && s.tk.unsealed.isSome && s.ckptInstant) = false) :
    Does .checkpointMiss s fun t => Frame s t [] :=
  does_idle (exec_checkpointMiss s) (by rw [h]; rfl) hp

/-! ## The fence (R329) -/

theorem exec_ckptPortRevoke (s : State) : exec .ckptPortRevoke s = running s fun s =>
    s.when (decide (s.tk.ckptAt + 10 * tuUs < s.now)) fun s => { s with tk.ckptBusy := false } := rfl

theorem does_ckptPortRevoke (hp : s.power = .run) :
    (s.tk.ckptAt + 10 * tuUs < s.now → Does .ckptPortRevoke s fun t => Frame { s with tk.ckptBusy := false } t []) ∧
    (s.now ≤ s.tk.ckptAt + 10 * tuUs → Does .ckptPortRevoke s fun t => Frame s t []) := by
  refine ⟨fun h => does_running (exec_ckptPortRevoke s) hp ?_, fun h => does_idle (exec_ckptPortRevoke s) ?_ hp⟩
  · rw [decide_eq_true h]
    exact Frame.settle _ _
  · rw [decide_eq_false (Nat.not_lt.mpr h)]
    rfl

/-! ## The obligation -/

/-- Settles O10: a checkpoint's bytes and registers are those that `checkpoint_live` names, and what a sealed one sends waits on the ports; a miss
counts under the three conditions of its command and else changes nothing. -/
theorem checkpointsAreWrittenSealedAndMissed : Obligations.CheckpointsAreWrittenSealedAndMissed := by
  refine ⟨fun s sealed hp hl => ?_, fun s hp hl hu hi => does_checkpointMiss hp hl hu hi, fun s hp h => does_checkpointMiss_idle hp ?_,
    fun s hp => does_ckptPortRevoke hp, fun s hp hl c hc => ?_⟩
  · obtain ⟨t, ht, htk, hfirn, hslot, hseq, hframe, hsame⟩ := does_checkpointWrite sealed hp hl
    refine ⟨t, ht, by rw [htk]; rfl, by rw [htk]; rfl, by rw [htk]; rfl, by rw [htk]; rfl, by rw [htk]; rfl, hfirn,
      fun a ha => hfirn ▸ firn_ckptBytes s sealed ha, hslot, ?_, ?_⟩
    · rintro rfl
      exact ⟨hseq rfl, hframe⟩
    · rintro rfl
      obtain ⟨hports, hmate⟩ := hsame rfl
      rwa [hports, hmate] at hframe
  · obtain h | h := h <;> simp [h]
  · simp only [List.mem_cons, List.not_mem_nil, or_false] at hc
    obtain rfl | rfl | rfl := hc
    · exact does_idle (exec_checkpointWrite true s) (checkpoint_dead true hl) hp
    · exact does_idle (exec_checkpointWrite false s) (checkpoint_dead false hl) hp
    · exact does_checkpointMiss_idle hp (by simp [hl])

end Sys2Proof.Machine
end

section
/-! PROOF. Missed updates and lockstep errors (O8): what a switchover trigger leaves alone, and what the two commands write (R109, R112, R126, R321
to R323). -/
namespace Sys2Proof.Machine

variable {s t u : State} {fs gs : List Fld} {k : Nat}

/-! ## A switchover trigger (R323, R327, R342) -/

/-- t follows from s with changes to no register but fs: the time goes on, no schedule point passes, and Moraine still owes what it owed. -/
structure Spares (s t : State) (fs : List Fld) : Prop where
  keeps : Keeps s t fs
  now : t.now = s.now
  points : t.tk.points = s.tk.points
  owed : s.mb.owed <+: t.mb.owed

theorem Spares.refl (s : State) (fs : List Fld) : Spares s s fs := ⟨Keeps.refl s _, rfl, rfl, List.prefix_rfl⟩

theorem Spares.trans (h : Spares s t fs) (g : Spares t u fs) : Spares s u fs :=
  ⟨h.keeps.trans g.keeps, g.now.trans h.now, g.points.trans h.points, h.owed.trans g.owed⟩

theorem Spares.mono (h : Spares s t fs) (sub : ∀ x ∈ fs.map Fld.key, x ∈ gs.map Fld.key) : Spares s t gs :=
  ⟨h.keeps.mono sub, h.now, h.points, h.owed⟩

theorem Spares.ofFrame (h : Frame s t fs) : Spares s t fs := ⟨h.1, by rw [h.2], by rw [h.2], by rw [h.2]⟩

theorem Spares.put (h : Spares s t fs) (f : Fld) (v : Nat) (hf : f.key ∈ fs.map Fld.key) : Spares s (t.put f v) fs :=
  h.trans (.ofFrame (Frame.put t f v (.inl hf)))

theorem Spares.event (h : Spares s t fs) (f : Fld) (code inst arg : Nat) (hf : f.key ∈ fs.map Fld.key) :
    Spares s (t.event f code inst arg) fs := h.trans (.ofFrame (Frame.event t f code inst arg hf))

theorem Spares.when (h : Spares s t fs) (b : Bool) {f : State → State} (g : Spares t (f t) fs) : Spares s (t.when b f) fs := by
  cases b
  · exact h
  · exact h.trans g

/-- The registers that fencing core k, starting the other or entering orphan hold may write. -/
def fenceFields (k : Nat) : List Fld :=
  [F.TK_STAT_STATE k, F.TK_STAT_ACTIVE k, F.TK_STAT_STATE (1 - k), F.TK_TS_STAT_HELD, F.RD_RIME_STAT_STATE, F.RD_EVT_RIME_DEFER, F.RD_STAT_SW,
    F.RD_STAT_ORPHAN, F.RD_EVT_ORPHAN, F.RD_STAT_SB_AVAIL]

theorem spares_sendWake (s : State) (fs : List Fld) : Spares s s.sendWake fs := by
  unfold State.sendWake
  split
  · obtain ⟨ports, seq, h⟩ := mateSent_mateQueue s s.rd.matePat
    rw [h]
    exact ⟨Keeps.refl s _, rfl, rfl, List.prefix_rfl⟩
  · exact Spares.refl s fs

/-- Orphan hold begins (R327), with the moment and the drift that Moraine takes from it. -/
def State.beginOrphan (s : State) (at_ dd : Nat) : State :=
  { (s.put F.RD_STAT_ORPHAN 1).event F.RD_EVT_ORPHAN 0x0A03 0 0 with mb.orphanAt := some at_, mb.orphanDd := dd, mb.orphanSeen := false }

theorem spares_beginOrphan (k : Nat) (s : State) (at_ dd : Nat) : Spares s (s.beginOrphan at_ dd) (fenceFields k) := by
  obtain ⟨hkeeps, hnow, hpoints, howed⟩ := ((Spares.refl s (fenceFields k)).put F.RD_STAT_ORPHAN 1 (by simp [fenceFields])).event
    F.RD_EVT_ORPHAN 0x0A03 0 0 (by simp [fenceFields])
  exact ⟨hkeeps, hnow, hpoints, howed⟩

theorem spares_enterOrphan (k : Nat) (s : State) : Spares s s.enterOrphan (fenceFields k) := by
  have hsw : Spares s { s.put F.RD_STAT_SW 0 with rd.exiting := false } (fenceFields k) :=
    ((Spares.refl s _).put F.RD_STAT_SW 0 (by simp [fenceFields])).trans ⟨Keeps.refl _ _, rfl, rfl, List.prefix_rfl⟩
  unfold State.enterOrphan
  dsimp only
  split
  · exact hsw
  · exact (hsw.trans (spares_beginOrphan k _ _ _)).when _ (spares_sendWake _ _)

theorem spares_showStandby (k : Nat) (s : State) : Spares s s.showStandby (fenceFields k) :=
  (Spares.refl s _).put _ _ (by simp [fenceFields])

theorem spares_abortRime (k : Nat) (s : State) : Spares s s.abortRime (fenceFields k) := by
  obtain ⟨hkeeps, hnow, hpoints, howed⟩ := ((Spares.refl s (fenceFields k)).put F.RD_RIME_STAT_STATE 0 (by simp [fenceFields])).event
    F.RD_EVT_RIME_DEFER 0x0A13 0 3 (by simp [fenceFields])
  exact (Spares.refl s _).when _ ⟨hkeeps, hnow, hpoints, howed⟩

theorem spares_fenceCore (s : State) (k : Nat) : Spares s (s.fenceCore k) (fenceFields k) := by
  obtain ⟨hkeeps, hnow, hpoints, howed⟩ := (((Spares.refl s (fenceFields k)).put (F.TK_STAT_STATE k) 5 (by simp [fenceFields])).put
    (F.TK_STAT_ACTIVE k) 0 (by simp [fenceFields])).put F.TK_TS_STAT_HELD 1 (by simp [fenceFields])
  exact ⟨hkeeps, hnow, hpoints, howed⟩

/-- The other core starts, or without a standby the part enters orphan hold (R323 step 2, R327). -/
def State.replaceCore (s : State) (a : Nat) (avail : Bool) : State :=
  if avail then (s.startTarget (1 - a)).showStandby
  else (s.when (s.get (F.TK_STAT_STATE (1 - a)) == 6) (·.put (F.TK_STAT_STATE (1 - a)) 0)).enterOrphan.showStandby

theorem spares_replaceCore (s : State) (a : Nat) (avail : Bool) : Spares s (s.replaceCore a avail) (fenceFields a) := by
  cases avail
  · have hstop : Spares s (s.put (F.TK_STAT_STATE (1 - a)) 0) (fenceFields a) := (Spares.refl s _).put _ _ (by simp [fenceFields])
    exact (((Spares.refl s _).when _ hstop).trans (spares_enterOrphan a _)).trans (spares_showStandby a _)
  · have hsw : Spares s (s.put F.RD_STAT_SW 1) (fenceFields a) := (Spares.refl s _).put _ _ (by simp [fenceFields])
    exact (hsw.put (F.TK_STAT_STATE (1 - a)) 1 (by simp [fenceFields])).trans (spares_showStandby a _)

/-- Moraine owes the allowance of a switchover (R158), and its moment is kept. -/
def State.oweSwitch (s : State) (trigAt : Nat) : State :=
  { s with mb.owed := s.mb.owed ++ [Allowance.switch], rd.trigAt := trigAt, rd.hostSwitch := none }

theorem spares_oweSwitch (s : State) (trigAt : Nat) (fs : List Fld) : Spares s (s.oweSwitch trigAt) fs :=
  ⟨Keeps.refl s _, rfl, rfl, List.prefix_append _ _⟩

/-- A trigger of a missed update or a lockstep failure: one that a switchover in progress does not heed (R321). -/
theorem trigger_eq {cause : Nat} (hc : cause = 3 ∨ cause = 5) : s.trigger cause =
    if s.on F.RD_STAT_SW = false ∧ s.coreLive = true then
      ((((s.triggerEvent cause s.core).fenceCore s.core).abortRime).oweSwitch s.now).replaceCore s.core (s.on F.RD_STAT_SB_AVAIL)
    else s := by
  unfold State.trigger
  obtain rfl | rfl := hc <;> cases s.on F.RD_STAT_SW <;> cases s.coreLive <;> rfl

/-- The registers that a trigger may write. -/
def triggerFields (k : Nat) : List Fld := F.RD_STAT_LAST_CAUSE :: F.RD_EVT_TRIG :: fenceFields k

theorem spares_triggerEvent (s : State) (cause k : Nat) : Spares s (s.triggerEvent cause k) (triggerFields k) :=
  ((Spares.refl s _).put _ _ (by simp [triggerFields])).event _ _ _ _ (by simp [triggerFields])

theorem triggerEvent_cause (s : State) (cause k : Nat) : (s.triggerEvent cause k).get F.RD_STAT_LAST_CAUSE = cause % 2 ^ 4 :=
  (State.event_get_other _ _ _ _ _ _ (by decide) (by decide)).trans (State.get_put_same _ _ _)

theorem trigger_step {cause : Nat} (hc : cause = 3 ∨ cause = 5) (hk : s.core = k) : Spares s (s.trigger cause) (triggerFields k) ∧
    (k < 2 → s.on F.RD_STAT_SW = false → s.coreLive = true → (s.trigger cause).get F.RD_STAT_LAST_CAUSE = cause) := by
  rw [trigger_eq hc, hk]
  split
  · have hfence := (((spares_fenceCore (s.triggerEvent cause k) k).trans (spares_abortRime k _)).trans (spares_oweSwitch _ s.now _)).trans
      (spares_replaceCore _ k (s.on F.RD_STAT_SB_AVAIL))
    refine ⟨(spares_triggerEvent s cause k).trans (hfence.mono (by simp +contextual [triggerFields])), fun hk2 _ _ => ?_⟩
    have hnot : F.RD_STAT_LAST_CAUSE.key ∉ (fenceFields k).map Fld.key := by interval_cases k <;> decide
    rw [hfence.keeps.get _ hnot (by decide), triggerEvent_cause]
    omega
  · next h => exact ⟨Spares.refl s _, fun _ hsw hl => absurd ⟨hsw, hl⟩ h⟩

/-! ## A missed update (R109) -/

/-- The miss is counted and reported. -/
def State.missUpdate (s : State) (k : Nat) : State := (s.count (F.TK_MISS_UPD_MISS k) 1).event (F.TK_EVT_UPD_MISS k) 0x0401 k 0

/-- A missed update of core k, with the switchover that MISS_SWITCH asks for. -/
def State.missedUpdate (s : State) (k : Nat) : State :=
  (s.missUpdate k).when ((s.missUpdate k).on F.TK_CTL_MISS_SWITCH && !(s.missUpdate k).on F.PM_STAT_DIP) (·.trigger 3)

theorem exec_updateMiss (s : State) : exec .updateMiss s = running s fun s =>
    if !s.beginUpdate.coreLive then s.beginUpdate else s.beginUpdate.missedUpdate s.beginUpdate.core := rfl

/-- The registers that count and report a missed update of core k. -/
def missFields (k : Nat) : List Fld := [F.TK_MISS_UPD_MISS k, F.TK_EVT_UPD_MISS k]

theorem frame_missUpdate (s : State) (k : Nat) : Frame s (s.missUpdate k) (missFields k) :=
  (Frame.count _ _ _ (by simp [missFields])).trans (Frame.event _ _ _ _ _ (by simp [missFields]))

theorem missUpdate_writes (s : State) (hk : k < 2) : (s.missUpdate k).get (F.TK_EVT_UPD_MISS k) = 1 ∧
    (s.missUpdate k).get (F.TK_MISS_UPD_MISS k) = min (s.get (F.TK_MISS_UPD_MISS k) + 1) (2 ^ 16 - 1) ∧
    Logs s (s.missUpdate k) 0x0401 0x05 k 0 := by
  have hapart : (F.TK_MISS_UPD_MISS k).key ≠ (F.TK_EVT_UPD_MISS k).key ∧ (F.TK_MISS_UPD_MISS k).tallied = false ∧
    (F.TK_EVT_UPD_MISS k).tallied = false ∧ (F.TK_EVT_UPD_MISS k).window = 0x05 := by interval_cases k <;> decide
  obtain ⟨hne, hmiss, hflag, hwin⟩ := hapart
  refine ⟨State.event_flag _ _ _ _ _ Nat.one_pos hflag, (State.event_get_other _ _ _ _ _ _ hne hmiss).trans (get_count_same _ _ _), ?_⟩
  rw [← hwin]
  exact logs_event (by simp) (by simp) _ _ _ _

/-- For a core in range, what decides of a switchover lies apart from what a miss writes, and the miss from what a trigger writes. -/
theorem miss_apart (hk : k < 2) :
    (∀ f ∈ [F.TK_CTL_MISS_SWITCH, F.PM_STAT_DIP, F.RD_STAT_SW, F.TK_TS_FREQ_FREQ, F.RD_STAT_ACTIVE_CORE, F.TK_STAT_STATE k, F.TK_STAT_ACTIVE k],
      f.key ∉ (missFields k).map Fld.key ∧ f.tallied = false) ∧
    (∀ f ∈ F.TK_TS_FREQ_FREQ :: missFields k, f.key ∉ (triggerFields k).map Fld.key ∧ f.tallied = false) := by
  interval_cases k <;> decide

theorem core_missUpdate (s : State) (k : Nat) : (s.missUpdate k).core = s.core := by
  have hapart : F.RD_STAT_ACTIVE_CORE.key ∉ (missFields k).map Fld.key := by
    simp only [missFields, List.map_cons, List.map_nil, List.mem_cons, List.not_mem_nil, or_false, Fld.key, F.RD_STAT_ACTIVE_CORE, F.TK_MISS_UPD_MISS,
      F.TK_EVT_UPD_MISS]
    omega
  exact (frame_missUpdate s k).get F.RD_STAT_ACTIVE_CORE hapart (by decide)

/-- No schedule point passes in a missed update beside the one that its command counts. -/
theorem missedUpdate_points (s : State) : (s.missedUpdate s.core).tk.points = s.tk.points := by
  have hmiss := Spares.ofFrame (frame_missUpdate s s.core)
  exact ((hmiss.mono (gs := missFields s.core ++ triggerFields s.core) (by simp +contextual)).when _
    ((trigger_step (.inl rfl) (core_missUpdate s s.core)).1.mono (by simp +contextual))).points

/-- A live core in range that misses an update: it is counted and reported, the frequency word stays, and a trigger of cause 3 follows where it is
asked for. -/
structure UpdateMissed (s : State) (k : Nat) (t : State) : Prop where
  freq : t.get F.TK_TS_FREQ_FREQ = s.get F.TK_TS_FREQ_FREQ
  flag : t.get (F.TK_EVT_UPD_MISS k) = 1
  count : t.get (F.TK_MISS_UPD_MISS k) = min (s.get (F.TK_MISS_UPD_MISS k) + 1) (2 ^ 16 - 1)
  stays : s.on F.TK_CTL_MISS_SWITCH = false ∨ s.on F.PM_STAT_DIP = true → Frame s t (missFields k) ∧ Logs s t 0x0401 0x05 k 0
  switches : s.on F.TK_CTL_MISS_SWITCH = true → s.on F.PM_STAT_DIP = false → s.on F.RD_STAT_SW = false → t.get F.RD_STAT_LAST_CAUSE = 3

theorem updateMissed (hk : s.core = k) (hk2 : k < 2) (hl : s.coreLive = true) : UpdateMissed s k (s.missedUpdate k) := by
  obtain ⟨hflag, hcount, hlogs⟩ := missUpdate_writes s hk2
  have hframe := frame_missUpdate s k
  obtain ⟨hapart, hmissApart⟩ := miss_apart hk2
  have hread : ∀ f ∈ _, (s.missUpdate k).get f = s.get f := fun f hf => hframe.get f (hapart f hf).1 (hapart f hf).2
  have hon : ∀ f ∈ _, (s.missUpdate k).on f = s.on f := fun f hf => by unfold State.on; rw [hread f hf]
  have hcore : (s.missUpdate k).core = k := (core_missUpdate s k).trans hk
  have hlive : (s.missUpdate k).coreLive = s.coreLive := coreLive_congr fun f hf => hread f (by
    simp only [coreFields, hk, List.mem_cons, List.not_mem_nil, or_false] at hf ⊢
    tauto)
  have hb : ((s.missUpdate k).on F.TK_CTL_MISS_SWITCH && !(s.missUpdate k).on F.PM_STAT_DIP) =
      (s.on F.TK_CTL_MISS_SWITCH && !s.on F.PM_STAT_DIP) := by rw [hon _ (by simp), hon _ (by simp)]
  obtain ⟨hspares, hcause⟩ := trigger_step (.inl rfl) hcore (cause := 3)
  have hafter : ∀ f ∈ F.TK_TS_FREQ_FREQ :: missFields k, (s.missedUpdate k).get f = (s.missUpdate k).get f := fun f hf =>
    get_when fun _ => hspares.keeps.get f (hmissApart f hf).1 (hmissApart f hf).2
  refine ⟨(hafter _ (by simp)).trans (hread _ (by simp)), (hafter _ (by simp [missFields])).trans hflag,
    (hafter _ (by simp [missFields])).trans hcount, fun h => ?_, fun hs hd hw => ?_⟩
  · have : s.missedUpdate k = s.missUpdate k := by
      unfold State.missedUpdate
      rw [hb]
      obtain h | h := h <;> simp [h, State.when]
    rw [this]
    exact ⟨hframe, hlogs⟩
  · have : s.missedUpdate k = (s.missUpdate k).trigger 3 := by
      unfold State.missedUpdate
      rw [hb]
      simp [hs, hd, State.when]
    rw [this]
    exact hcause hk2 ((hon _ (by simp)).trans hw) (hlive.trans hl)

/-! ## A lockstep disagreement (R112) -/

/-- The disagreement is counted and reported. -/
def State.countLockstep (s : State) : State := (s.count F.TK_TS_STAT_LS_ERR 1).event (F.TK_EVT_LS_ERR s.core) 0x0403 s.core 0

/-- Moraine owes the allowance (R158), and the moment is kept with the one before. -/
def State.oweLockstep (s : State) (times : List Nat) : State := { s with mb.owed := s.mb.owed ++ [Allowance.lockstep], tk.lsTimes := times }

/-- The moments of earlier disagreements that lie within 1 s. -/
def State.lsNear (s : State) : List Nat := s.tk.lsTimes.filter (fun x => decide (s.now ≤ x + tuSec))

theorem exec_lockstepMismatch (s : State) : exec .lockstepMismatch s = running s fun s =>
    (s.countLockstep.oweLockstep ((s.now :: s.lsNear).take 2)).when (decide (2 ≤ s.lsNear.length))
      fun t => (t.put F.TK_TS_STAT_LS_FAIL 1).trigger 5 := rfl

/-- The registers that count and report a lockstep disagreement of core k. -/
def lockstepFields (k : Nat) : List Fld := [F.TK_TS_STAT_LS_ERR, F.TK_EVT_LS_ERR k]

theorem lockstep_apart (hk : k < 2) : (F.TK_TS_STAT_LS_ERR.key ≠ (F.TK_EVT_LS_ERR k).key ∧ (F.TK_EVT_LS_ERR k).tallied = false ∧
      (F.TK_EVT_LS_ERR k).window = 0x05 ∧ F.TK_TS_FREQ_FREQ.key ∉ (lockstepFields k).map Fld.key ∧
      F.RD_STAT_ACTIVE_CORE.key ∉ (lockstepFields k).map Fld.key) ∧
    (∀ f ∈ F.TK_TS_FREQ_FREQ :: lockstepFields k, f.key ≠ F.TK_TS_STAT_LS_FAIL.key) ∧
    (∀ f ∈ F.TK_TS_STAT_LS_FAIL :: F.TK_TS_FREQ_FREQ :: lockstepFields k, f.key ∉ (triggerFields k).map Fld.key ∧ f.tallied = false) := by
  interval_cases k <;> decide

/-- A disagreement of the halves, before a third within 1 s sets LS_FAIL. -/
theorem countLockstep_writes (hk : s.core = k) (hk2 : k < 2) : Frame s s.countLockstep (lockstepFields k) ∧
    s.countLockstep.get F.TK_TS_STAT_LS_ERR = min (s.get F.TK_TS_STAT_LS_ERR + 1) (2 ^ 16 - 1) ∧
    s.countLockstep.get (F.TK_EVT_LS_ERR k) = 1 ∧ Logs s s.countLockstep 0x0403 0x05 k 0 := by
  obtain ⟨⟨hne, hflag, hwin, -, -⟩, -, -⟩ := lockstep_apart hk2
  unfold State.countLockstep
  rw [hk]
  refine ⟨(Frame.count _ _ _ (by simp [lockstepFields])).trans (Frame.event _ _ _ _ _ (by simp [lockstepFields])),
    (State.event_get_other _ _ _ _ _ _ hne (by decide)).trans (get_count_same _ _ _), State.event_flag _ _ _ _ _ Nat.one_pos hflag, ?_⟩
  rw [← hwin]
  exact logs_event (by simp) (by simp) _ _ _ _

/-- The third disagreement within 1 s: LS_FAIL is set, and the trigger of cause 5 leaves the time, what was counted and what is owed. -/
theorem lockstep_fails (hk : s.core = k) (hk2 : k < 2) : let t := (s.put F.TK_TS_STAT_LS_FAIL 1).trigger 5
    t.get F.TK_TS_STAT_LS_FAIL = 1 ∧ t.now = s.now ∧ s.mb.owed <+: t.mb.owed ∧
      ∀ f ∈ F.TK_TS_FREQ_FREQ :: lockstepFields k, t.get f = s.get f := by
  obtain ⟨-, hfail, hapart⟩ := lockstep_apart hk2
  have hcore : (s.put F.TK_TS_STAT_LS_FAIL 1).core = k := (State.get_put_other _ _ _ _ (by decide)).trans hk
  have hspares := (trigger_step (.inr rfl) hcore (cause := 5)).1
  have hread : ∀ f ∈ _, _ := fun f hf => hspares.keeps.get f (hapart f hf).1 (hapart f hf).2
  exact ⟨(hread _ (by simp)).trans (State.get_put_same _ _ _), hspares.now, hspares.owed,
    fun f hf => (hread f (List.mem_cons_of_mem _ hf)).trans (State.get_put_other _ _ _ _ (hfail f hf))⟩

theorem frame_oweLockstep (h : Frame s t fs) (times : List Nat) :
    Frame { s with mb.owed := s.mb.owed ++ [.lockstep], tk.lsTimes := times } (t.oweLockstep times) fs := by
  have hmb : t.mb = s.mb := by rw [h.2]
  have htk : t.tk = s.tk := by rw [h.2]
  unfold State.oweLockstep
  rw [hmb, htk]
  exact (h.withMb { s.mb with owed := s.mb.owed ++ [.lockstep] }).withTk { s.tk with lsTimes := times }

theorem does_lockstepMismatch (hp : s.power = .run) (hk2 : s.core < 2) : Does .lockstepMismatch s fun t =>
    Allowance.lockstep ∈ t.mb.owed ∧ t.now = s.now ∧ t.get F.TK_TS_FREQ_FREQ = s.get F.TK_TS_FREQ_FREQ ∧
      t.get F.TK_TS_STAT_LS_ERR = min (s.get F.TK_TS_STAT_LS_ERR + 1) (2 ^ 16 - 1) ∧ t.get (F.TK_EVT_LS_ERR s.core) = 1 ∧
      (s.lsNear.length < 2 → Logs s t 0x0403 0x05 s.core 0 ∧
        Frame { s with mb.owed := s.mb.owed ++ [.lockstep], tk.lsTimes := (s.now :: s.lsNear).take 2 } t (lockstepFields s.core)) ∧
      (2 ≤ s.lsNear.length → t.get F.TK_TS_STAT_LS_FAIL = 1) := by
  obtain ⟨hframe, herr, hflag, hlogs⟩ := countLockstep_writes rfl hk2
  obtain ⟨⟨-, -, -, hfreq, hactive⟩, -, -⟩ := lockstep_apart hk2
  refine does_running (exec_lockstepMismatch s) hp ?_
  generalize (s.now :: s.lsNear).take 2 = times
  have hu := frame_oweLockstep hframe times
  have hkept : ∀ f : Fld, (s.countLockstep.oweLockstep times).get f = s.countLockstep.get f := fun _ => rfl
  have howed : Allowance.lockstep ∈ (s.countLockstep.oweLockstep times).mb.owed := List.mem_append_right _ (List.mem_singleton_self _)
  have hnow : (s.countLockstep.oweLockstep times).now = s.now := hframe.now
  have hcore : (s.countLockstep.oweLockstep times).core = s.core := hframe.get F.RD_STAT_ACTIVE_CORE hactive (by decide)
  have hjl : (s.countLockstep.oweLockstep times).jl = s.countLockstep.jl := rfl
  have hword : (s.countLockstep.oweLockstep times).get F.TK_TS_FREQ_FREQ = s.get F.TK_TS_FREQ_FREQ := hframe.get _ hfreq (by decide)
  simp only [State.settle_get, State.settle_mb, State.settle_now]
  obtain hnear | hnear := Nat.lt_or_ge s.lsNear.length 2
  · rw [decide_eq_false (Nat.not_le.mpr hnear), State.when_false]
    exact ⟨howed, hnow, hword, herr, hflag, fun _ => ⟨hlogs.ofJl ((State.settle_jl _).trans hjl), hu.settled⟩, fun h => absurd hnear (Nat.not_lt.mpr h)⟩
  · rw [decide_eq_true hnear, State.when_true]
    obtain ⟨hfail, hsame, hprefix, hread⟩ := lockstep_fails hcore hk2
    exact ⟨hprefix.subset howed, hsame.trans hnow, (hread _ (by simp)).trans hword, (hread _ (by simp [lockstepFields])).trans herr,
      (hread _ (by simp [lockstepFields])).trans hflag, fun h => absurd hnear (Nat.not_le.mpr h), fun _ => hfail⟩

end Sys2Proof.Machine
end

section
/-! PROOF. Held appointment requests (O8): serving them touches neither the time nor the cores, and stops granting on no port (R208, R210, R216). -/
namespace Sys2Proof.Machine

variable {s t u : State} {fs : List Fld} {p : Nat}

/-! ## What serving a request leaves alone -/

/-- The registers of the cores, and the fields HOLD of the ports: those at bit 15 of AP's registers. -/
def Fld.unserved (f : Fld) : Prop := f.key / 4194304 = 0x05 ∨ f.key / 4194304 = 0x0B ∧ f.key % 64 = 15

/-- t follows from s by serving a request. -/
structure Serves (s t : State) : Prop where
  get : ∀ f : Fld, f.unserved → t.get f = s.get f
  now : t.now = s.now
  tk : t.tk = s.tk

theorem Serves.refl (s : State) : Serves s s := ⟨fun _ _ => rfl, rfl, rfl⟩

theorem Serves.trans (h : Serves s t) (g : Serves t u) : Serves s u :=
  ⟨fun f hf => (g.get f hf).trans (h.get f hf), g.now.trans h.now, g.tk.trans h.tk⟩

/-- A step framed by registers that serving may write. -/
theorem Serves.ofFrame (h : Frame s t fs) (hfs : ∀ f ∈ fs, ¬f.unserved) : Serves s t := by
  refine ⟨fun f hf => h.get f ?_ (tallied_of_window (by unfold Fld.unserved at hf; omega)), by rw [h.2], by rw [h.2]⟩
  rw [List.mem_map]
  rintro ⟨g, hg, hkey⟩
  exact hfs g hg (by unfold Fld.unserved at hf ⊢; rwa [hkey])

theorem Serves.when {b : Bool} {f : State → State} (h : b = true → Serves s (f s)) : Serves s (s.when b f) := by
  cases b
  · exact Serves.refl s
  · exact h rfl

/-! ## The registers that it writes -/

/-- The registers of port p that an appointment request or a message for one writes (R208, R210, R282). -/
def portFields (p : Nat) : List Fld :=
  [F.AP_PORT_STAT_BOOKED p, F.AP_PORT_STAT_GRID p, F.AP_PORT_TXOFS_OFS p, F.AP_PORT_RXOFS_OFS p, F.AP_PORT_CNT_REFUSE_FULL p,
    F.AP_PORT_CNT_REFUSE_NOFIT p, F.AP_PORT_CNT_REFUSE_LINK p, F.AP_PORT_CNT_REFUSE_UNCAL p, F.AP_PORT_CNT_GRANT_N p, F.AP_PORT_CNT_MISS_LATE_N p,
    F.AP_PORT_CNT_STRAY_N p, F.AP_PORT_CNT_BADLEN_N p, F.AP_EVT_REFUSE, F.AP_EVT_MISS_LATE, F.PT_PORT_CNT_SYNC_N p, F.PT_PORT_CNT_ANN_N p,
    F.PT_PORT_CNT_DRESP_N p, F.PT_PORT_CNT_NTS_N p, F.PT_PORT_CNT_NTP_N p, F.SY_RST_STAT_START_MS, F.PM_EVT_STARTED]

theorem served_portFields (hp : p < 6) : ∀ f ∈ portFields p, ¬f.unserved := by
  unfold Fld.unserved
  interval_cases p <;> decide

/-- A step framed by the registers of a port. -/
theorem Serves.ofPort (hp : p < 6) (h : Frame s t (portFields p)) : Serves s t := .ofFrame h (served_portFields hp)

/-- The registers of Floe f that the tokens' places and lateness write (R227, R247). -/
def floeFields (f : Nat) : List Fld := [F.DF_FLOE_STAT_IN_LEVEL f, F.DF_FLOE_CNT_LATE_N f, F.DF_EVT_LATE]

theorem served_floeFields {f : Nat} (hf : f < 48) : ∀ g ∈ floeFields f, ¬g.unserved := by
  simp only [floeFields, List.forall_mem_cons, List.not_mem_nil, false_implies, implies_true, and_true, Fld.unserved, Fld.key,
    F.DF_FLOE_STAT_IN_LEVEL, F.DF_FLOE_CNT_LATE_N, F.DF_EVT_LATE]
  omega

/-! ## Tokens (R225 to R229) -/

theorem serves_showIngress (s : State) (f : Nat) : Serves s (s.showIngress f) :=
  Serves.when fun h => .ofFrame (fs := floeFields f) (Frame.put _ _ _ (.inl (by simp [floeFields]))) (served_floeFields (of_decide_eq_true h))

theorem serves_moveToken (s : State) (k : Token) (f : Nat) (pl : Place) : Serves s (s.moveToken k f pl) := by
  refine Serves.trans (Serves.trans ?_ (serves_showIngress _ k.floe)) (serves_showIngress _ f)
  exact ⟨fun _ _ => rfl, rfl, rfl⟩

theorem serves_dropToken (s : State) (k : Token) : Serves s (s.dropToken k) := by
  refine Serves.trans ?_ (serves_showIngress _ k.floe)
  exact ⟨fun _ _ => rfl, rfl, rfl⟩

theorem serves_deliverToken (s : State) (f c : Nat) (r : CellRec) (k : Token) (o : Nat) : Serves s (s.deliverToken f c r k o) := by
  unfold State.deliverToken State.passToken
  split
  · split
    · exact serves_moveToken s _ _ _
    · exact serves_moveToken s _ _ _
  · exact serves_dropToken s k

theorem Frame.flagLimited (s : State) (key : Nat) (f : Fld) (code inst arg : Nat) (h : f.key ∈ fs.map Fld.key) :
    Frame s ((s.setFlag f).eventLimited key f code inst arg) fs := (Frame.setFlag s f h).trans (Frame.eventLimited _ _ _ _ _ _ h)

theorem serves_dropLate (s : State) (f : Nat) (k : Token) : Serves s (s.dropLate f k) := by
  have hcount (t : State) : Serves t (t.countFloe F.DF_FLOE_CNT_LATE_N f) :=
    Serves.when fun h => .ofFrame (fs := floeFields f) (Frame.count _ _ _ (by simp [floeFields])) (served_floeFields (of_decide_eq_true h))
  have hevent (t : State) : Serves t ((t.setFlag F.DF_EVT_LATE).eventLimited (0x0723 * 64 + f) F.DF_EVT_LATE 0x0723 f f) :=
    .ofFrame (fs := floeFields 0) (Frame.flagLimited t _ _ _ _ _ (by simp [floeFields])) (served_floeFields (by decide))
  exact ((serves_dropToken s k).trans (hcount _)).trans (hevent _)

theorem serves_dropHeldLate (s : State) (j : Job) : Serves s (s.dropHeldLate j) := by
  unfold State.dropHeldLate
  split
  · exact Serves.refl s
  · split
    · exact Serves.when fun _ => serves_dropLate s _ _
    · exact Serves.refl s

/-! ## Appointments (R208, R210) -/

theorem serves_setPort (s : State) (p : Nat) (f : ApPort → ApPort) : Serves s (s.setPort p f) := ⟨fun _ _ => rfl, rfl, rfl⟩

theorem frame_showPort (s : State) (p : Nat) : Frame s (s.showPort p) (portFields p) :=
  (((Frame.put s _ _ (.inl (by simp [portFields]))).trans (Frame.put _ _ _ (.inl (by simp [portFields])))).trans
    (Frame.putI _ _ _ (by simp [portFields]))).trans (Frame.putI _ _ _ (by simp [portFields]))

/-- A counter of the port and a flag with its limited event. -/
theorem frame_countEvent (s : State) {f g : Fld} (p code low : Nat) (hf : f.key ∈ (portFields p).map Fld.key)
    (hg : g.key ∈ (portFields p).map Fld.key) : Frame s ((s.count f 1).apEvent g code p low) (portFields p) :=
  (Frame.count s f 1 hf).trans (Frame.flagLimited _ _ g code p low hg)

theorem frame_refuse (s : State) (p : Nat) (r : RefuseField) : Frame s (s.refuse p r) (portFields p) := by
  cases r <;> exact frame_countEvent s p _ _ (by simp [portFields]) (by simp [portFields])

theorem serves_apRequest (hp : p < 6) (s : State) (len : Nat) (nb : Option Nat) : Serves s (s.apRequest p len nb).1 := by
  unfold State.apRequest
  split
  · exact .ofPort hp (frame_refuse s p _)
  · exact (serves_setPort s p _).trans (.ofPort hp ((Frame.count _ _ _ (by simp [portFields])).trans (frame_showPort _ p)))

theorem serves_freeSlot (hp : p < 6) (s : State) (handle : Nat) : Serves s (s.freeSlot p handle) :=
  (serves_setPort s p _).trans (.ofPort hp (frame_showPort _ p))

theorem serves_handOff (hp : p < 6) (s : State) (handle : Nat) (m : Msg) : Serves s (s.handOff p handle m) := by
  have hcount (t : State) {f : Fld} (hf : f.key ∈ (portFields p).map Fld.key) : Serves t (t.count f 1) := .ofPort hp (Frame.count t f 1 hf)
  have hmiss (x : ApSlot) : Serves s (s.missLate p x) := (serves_setPort s p _).trans
    (.ofPort hp (frame_countEvent _ p _ _ (by simp [portFields]) (by simp [portFields])))
  unfold State.handOff
  split
  · exact hcount s (by simp [portFields])
  · split
    · exact hcount s (by simp [portFields])
    · split
      · exact (hmiss _).trans (hcount _ (by simp [portFields]))
      · split
        · exact (hcount s (by simp [portFields])).trans (serves_freeSlot hp _ handle)
        · exact serves_setPort s p _

/-! ## The answer to a request -/

theorem serves_answerCell (s : State) (tok c v : Nat) (a : Option ApSlot) : Serves s (s.answerCell tok c v a) := by
  unfold State.answerCell
  split
  · exact Serves.refl s
  · split
    · exact serves_deliverToken s _ _ _ _ _
    · exact serves_deliverToken s _ _ _ _ _
    · exact Serves.refl s

theorem serves_answerTime (s : State) (a : Option ApSlot) : Serves s (s.answerTime a) := by
  unfold State.answerTime
  split
  · exact Serves.refl s
  · split
    · exact (serves_handOff (by decide) s _ _).trans ⟨fun _ _ => rfl, rfl, rfl⟩
    · exact serves_freeSlot (by decide) s _

theorem serves_firstServed (s : State) : Serves s s.firstServed := by
  unfold State.firstServed
  split
  · exact Serves.refl s
  · exact (Serves.ofPort (p := 0) (by decide) ((Frame.putSat s _ _ (by simp [portFields])).trans
      (Frame.event _ _ _ _ _ (by simp [portFields])))).trans ⟨fun _ _ => rfl, rfl, rfl⟩

theorem serves_jobSent (hp : p < 6) (s : State) (at_ : Nat) (j : Job) : Serves s (s.jobSent p at_ j) := by
  have hcount {f : Fld} (hf : f.key ∈ (portFields p).map Fld.key) : Serves s (s.count f 1) := .ofPort hp (Frame.count s f 1 hf)
  cases j with
  | sync => exact hcount (by simp [portFields])
  | announce => exact hcount (by simp [portFields])
  | delayResp => exact (hcount (by simp [portFields])).trans (serves_firstServed _)
  | delayReq => exact ⟨fun _ _ => rfl, rfl, rfl⟩
  | ntp r => exact (hcount (by cases r.nts <;> simp [portFields])).trans (serves_firstServed _)
  | cell => exact Serves.refl s
  | time => exact Serves.refl s

theorem serves_answerServe (hp : p < 6) (s : State) (j : Job) (a : Option ApSlot) : Serves s (s.answerServe p j a) := by
  unfold State.answerServe
  split
  · exact Serves.refl s
  · split
    · exact (serves_handOff hp s _ _).trans (serves_jobSent hp _ _ j)
    · exact serves_freeSlot hp s _

theorem serves_answerJob (hp : p < 6) (s : State) (j : Job) (a : Option ApSlot) : Serves s (s.answerJob p j a) := by
  unfold State.answerJob
  split
  · exact serves_answerCell s _ _ _ a
  · exact serves_answerTime s a
  · exact serves_answerServe hp s j a

/-! ## The held requests of a port (R216) -/

theorem serves_request (hp : p < 6) (s : State) (r : ApRequest) : Serves s ((s.dropHeldLate r.job).when ((s.dropHeldLate r.job).jobLives r.job)
    fun t => (t.apRequest p r.len r.notBefore).1.answerJob p r.job (t.apRequest p r.len r.notBefore).2) :=
  (serves_dropHeldLate s r.job).trans (Serves.when fun _ => (serves_apRequest hp _ r.len r.notBefore).trans (serves_answerJob hp _ r.job _))

theorem serves_forAll {α : Type} {l : List α} {f : State → α → State} (h : ∀ t x, Serves t (f t x)) (s : State) : Serves s (s.forAll l f) :=
  forAll_induct (P := Serves s) (fun t x _ ht => ht.trans (h t x)) (Serves.refl s)

/-- Granting resumes on port p, and then what it holds is served. -/
theorem serveHeld_step (hp : p < 6) (s : State) : Serves (s.put (F.AP_PORT_STAT_HOLD p) 0) (s.serveHeld p) := by
  refine Serves.trans ?_ (serves_forAll (fun t r => serves_request hp t r) _)
  exact ⟨fun _ _ => rfl, rfl, rfl⟩

theorem unserved_hold (hp : p < 6) : (F.AP_PORT_STAT_HOLD p).unserved := by
  unfold Fld.unserved
  interval_cases p <;> decide

theorem serveHeld_resumes (hp : p < 6) (s : State) : (s.serveHeld p).get (F.AP_PORT_STAT_HOLD p) = 0 :=
  ((serveHeld_step hp s).get _ (unserved_hold hp)).trans (State.get_put_same _ _ _)

/-- Granting that has resumed stays so while the other ports are served. -/
theorem serveHeld_keeps (hp : p < 6) {q : Nat} (hq : q < 6) (h : s.get (F.AP_PORT_STAT_HOLD q) = 0) :
    (s.serveHeld p).get (F.AP_PORT_STAT_HOLD q) = 0 := by
  obtain rfl | hne := eq_or_ne q p
  · exact serveHeld_resumes hp s
  · have hkey : (F.AP_PORT_STAT_HOLD q).key ≠ (F.AP_PORT_STAT_HOLD p).key := by
      simp only [Fld.key, F.AP_PORT_STAT_HOLD]
      omega
    exact ((serveHeld_step hp s).get _ (unserved_hold hq)).trans ((State.get_put_other _ _ _ _ hkey).trans h)

/-- All ports are served: granting has resumed on each, and neither the time nor the cores have changed. -/
theorem serveAll_step (l : List Nat) (hl : ∀ p ∈ l, p < 6) (s : State) : let t := s.forAll l State.serveHeld
    (∀ q ∈ l, t.get (F.AP_PORT_STAT_HOLD q) = 0) ∧ (∀ f : Fld, f.key / 4194304 = 0x05 → t.get f = s.get f) ∧ t.now = s.now ∧ t.tk = s.tk := by
  induction l generalizing s with
  | nil => exact ⟨nofun, fun _ _ => rfl, rfl, rfl⟩
  | cons p l ih =>
    have hp : p < 6 := hl p (by simp)
    have hl' : ∀ q ∈ l, q < 6 := fun q hq => hl q (by simp [hq])
    obtain ⟨hhold, hget, hnow, htk⟩ := ih hl' (s.serveHeld p)
    have hstep := serveHeld_step hp s
    refine ⟨fun q hq => ?_, fun f hf => (hget f hf).trans ((hstep.get f (.inl hf)).trans (State.get_put_other _ _ _ _ ?_)), hnow.trans hstep.now,
      htk.trans hstep.tk⟩
    · obtain rfl | hq := List.mem_cons.mp hq
      · exact forAll_induct (l := l) (P := fun t => t.get (F.AP_PORT_STAT_HOLD q) = 0) (fun t x hx ht => serveHeld_keeps (hl' x hx) hp ht)
          (serveHeld_resumes hp s)
      · exact hhold q hq
    · simp only [Fld.key, F.AP_PORT_STAT_HOLD] at hf ⊢
      omega

end Sys2Proof.Machine
end

section
/-! PROOF. Steps and time sets (O8): what STEP_APPLY leaves in the time, the core and the ports (R119 to R121, R216). -/
namespace Sys2Proof.Machine

variable {s t u : State} {k : Nat}

/-! ## The time word changes (R119, R216) -/

/-- The grid offsets of the ports. -/
def gridFields : List Fld := (List.range 6).map F.AP_PORT_STAT_GRID_OFS

theorem frame_moveGrid (s : State) (d : Int) {p : Nat} (hp : p ∈ List.range 6) : Frame s (s.moveGrid d p) gridFields := by
  unfold State.moveGrid
  dsimp only
  split
  · exact Frame.refl s _
  · exact Frame.put s _ _ (.inl (List.mem_map_of_mem (List.mem_map_of_mem hp)))

theorem closeSegment_eq (s : State) : ∃ past, s.closeSegment = { s with past := past } := by
  unfold State.closeSegment
  split
  · exact ⟨s.past, rfl⟩
  · exact ⟨_, rfl⟩

/-- The time changes by d, and what the part remembers keeps its distance from it; the grids of the ports are still those of before. -/
def State.movedAll (s : State) (d : Int) : State :=
  { (((s.movedCore d).movedWire d).movedRest d).closeSegment with now := moved d s.now }

theorem movedAll_leaves (s : State) (d : Int) : (s.movedAll d).cells = s.cells ∧ (s.movedAll d).tk.points = s.tk.points := by
  have hcells : (((s.movedCore d).movedWire d).movedRest d).cells = s.cells := rfl
  have hpoints : (((s.movedCore d).movedWire d).movedRest d).tk.points = s.tk.points := rfl
  unfold State.movedAll
  generalize ((s.movedCore d).movedWire d).movedRest d = t at *
  obtain ⟨past, hpast⟩ := closeSegment_eq t
  rw [hpast]
  exact ⟨hcells, hpoints⟩

/-- A step moves the time by its span, and the register fields of no block but AP; the core has passed as many schedule points as before. -/
theorem stepBy_step (s : State) (d g : Int) : Keeps s (s.stepBy d g) gridFields ∧ (s.stepBy d g).now = moved d s.now ∧
    (s.stepBy d g).tk.points = s.tk.points := by
  have heq : s.stepBy d g = (s.movedAll d).forAll (List.range 6) (fun t p => t.moveGrid g p) := rfl
  have hgrid := Frame.forAll (List.range 6) (fun t p => t.moveGrid g p) (fun t p hp => frame_moveGrid t g hp) (s.movedAll d)
  obtain ⟨hcells, hpoints⟩ := movedAll_leaves s d
  rw [heq]
  exact ⟨(Keeps.ofCells hcells).trans hgrid.1, hgrid.now, (congrArg (fun t => t.tk.points) hgrid.2).trans hpoints⟩

theorem stepBy_core (s : State) (d g : Int) : (s.stepBy d g).core = s.core := (stepBy_step s d g).1.get F.RD_STAT_ACTIVE_CORE (by decide) (by decide)

/-- The span by which a plan changes the time: the step decided, or what leads to the time set (R119, R121). -/
def State.planSpan (s : State) (p : StepPlan) : Int := match p.soft with | none => p.delta | some t => (t : Int) - s.now

/-- The span by which it changes the grids: back by a step, with a time set (R207, R216). -/
def State.planGrid (s : State) (p : StepPlan) : Int := match p.soft with | none => -s.planSpan p | some _ => s.planSpan p

/-- The time has been stepped, and the step is over. -/
def State.stepped (s : State) (p : StepPlan) : State := { s.stepBy (s.planSpan p) (s.planGrid p) with tk.step := none }

theorem stepped_step (s : State) (p : StepPlan) : (s.stepped p).now = moved (s.planSpan p) s.now ∧ (s.stepped p).tk.points = s.tk.points ∧
    (s.stepped p).tk.step = none ∧ (s.stepped p).core = s.core := by
  obtain ⟨-, hnow, hpoints⟩ := stepBy_step s (s.planSpan p) (s.planGrid p)
  have hcore := stepBy_core s (s.planSpan p) (s.planGrid p)
  unfold State.stepped
  generalize s.stepBy (s.planSpan p) (s.planGrid p) = t at *
  exact ⟨hnow, hpoints, rfl, hcore⟩

/-- What the core shows of a step (R119, R126). -/
def State.showStep (s : State) (k : Nat) (sets : Bool) (d : Int) : State :=
  (s.when sets (·.put (F.TK_STAT_TIME_SET k) 1)).event (F.TK_EVT_STEP k) 0x0406 k (stepNs d)

/-- What the core shows of a plan that has changed the time. -/
def State.showPlan (s : State) (k : Nat) (p : StepPlan) : State :=
  match p.soft with
  | none => s.showStep k p.setsTime p.delta
  | some _ => s.afterTimeSet

theorem applyStep_eq (s : State) (p : StepPlan) :
    s.applyStep p = ((s.stepped p).showPlan s.core p).forAll (List.range 6) State.serveHeld := by
  obtain ⟨delta, sets, soft⟩ := p
  unfold State.applyStep State.stepped State.planGrid State.planSpan State.showPlan
  cases soft with
  | none =>
    dsimp only
    generalize s.stepBy delta (-delta) = t
    rfl
  | some time => dsimp only

/-! ## What the core shows -/

theorem tkFlags_apart (hk : k < 2) : ∀ f ∈ [F.TK_EVT_STEP k, F.TK_EVT_TIME_SET k, F.TK_STAT_TIME_SET k],
    f.key / 4194304 = 0x05 ∧ f.tallied = false ∧ (F.TK_STAT_TIME_SET k).key ≠ (F.TK_EVT_STEP k).key ∧
      (F.TK_STAT_TIME_SET k).key ≠ (F.TK_EVT_TIME_SET k).key := by
  interval_cases k <;> decide

theorem showStep_leaves (s : State) (k : Nat) (sets : Bool) (d : Int) : (s.showStep k sets d).now = s.now ∧ (s.showStep k sets d).tk = s.tk := by
  cases sets <;> exact ⟨by simp [State.showStep, State.when], by simp [State.showStep, State.when]⟩

theorem showStep_shows (hk : k < 2) (s : State) (sets : Bool) (d : Int) : (s.showStep k sets d).get (F.TK_EVT_STEP k) = 1 ∧
    (sets = true → (s.showStep k sets d).get (F.TK_STAT_TIME_SET k) = 1) := by
  obtain ⟨-, hflag, hne, -⟩ := tkFlags_apart hk (F.TK_EVT_STEP k) (by simp)
  obtain ⟨-, hset, -, -⟩ := tkFlags_apart hk (F.TK_STAT_TIME_SET k) (by simp)
  refine ⟨State.event_flag _ _ _ _ _ Nat.one_pos hflag, ?_⟩
  rintro rfl
  exact (State.event_get_other _ _ _ _ _ _ hne hset).trans (State.get_put_same _ _ _)

/-- The flag and the bit that a time set by software leaves (R121, R126). -/
def State.showTimeSet (s : State) (k : Nat) : State := (s.put (F.TK_STAT_TIME_SET k) 1).event (F.TK_EVT_TIME_SET k) 0x040B k 0

theorem afterTimeSet_eq (s : State) : ∃ e0 mb, s.afterTimeSet = { s.showTimeSet s.core with
    tk := { (s.showTimeSet s.core).tk with takeE0 := e0, anchor := none, withheld := false, measAt := none }, mb := mb } := ⟨_, _, rfl⟩

theorem afterTimeSet_leaves (s : State) : s.afterTimeSet.now = s.now ∧ s.afterTimeSet.tk.points = s.tk.points ∧
    s.afterTimeSet.tk.step = s.tk.step := by
  obtain ⟨e0, mb, h⟩ := afterTimeSet_eq s
  rw [h]
  simp [State.showTimeSet]

theorem afterTimeSet_shows (hk : s.core = k) (hk2 : k < 2) : s.afterTimeSet.get (F.TK_EVT_TIME_SET k) = 1 ∧
    s.afterTimeSet.get (F.TK_STAT_TIME_SET k) = 1 := by
  obtain ⟨-, hflag, -, hne⟩ := tkFlags_apart hk2 (F.TK_EVT_TIME_SET k) (by simp)
  obtain ⟨-, hset, -, -⟩ := tkFlags_apart hk2 (F.TK_STAT_TIME_SET k) (by simp)
  obtain ⟨e0, mb, h⟩ := afterTimeSet_eq s
  rw [h, hk]
  exact ⟨State.event_flag (s.put (F.TK_STAT_TIME_SET k) 1) _ _ _ _ Nat.one_pos hflag,
    (State.event_get_other _ _ _ _ _ _ hne hset).trans (State.get_put_same _ _ _)⟩

/-! ## STEP_APPLY -/

theorem showPlan_leaves (s : State) (k : Nat) (p : StepPlan) : (s.showPlan k p).now = s.now ∧ (s.showPlan k p).tk.points = s.tk.points ∧
    (s.showPlan k p).tk.step = s.tk.step := by
  unfold State.showPlan
  split
  · obtain ⟨hnow, htk⟩ := showStep_leaves s k p.setsTime p.delta
    exact ⟨hnow, by rw [htk], by rw [htk]⟩
  · exact afterTimeSet_leaves s

theorem applyStep_points (s : State) (p : StepPlan) : (s.applyStep p).tk.points = s.tk.points := by
  obtain ⟨-, -, -, htk⟩ := serveAll_step (List.range 6) (by simp) ((s.stepped p).showPlan s.core p)
  rw [applyStep_eq, htk, (showPlan_leaves _ _ p).2.1, (stepped_step s p).2.1]

/-- A step that is applied ends, granting resumes on every port, and the time and the core show it (R119, R121, R216). -/
structure StepApplied (s : State) (p : StepPlan) (t : State) : Prop where
  ends : t.tk.step = none
  grants : ∀ q < 6, t.get (F.AP_PORT_STAT_HOLD q) = 0
  steps : p.soft = none → t.now = ((s.now : Int) + p.delta).toNat ∧ t.get (F.TK_EVT_STEP s.core) = 1 ∧
    (p.setsTime = true → t.get (F.TK_STAT_TIME_SET s.core) = 1)
  sets : ∀ time, p.soft = some time → t.now = time ∧ t.get (F.TK_EVT_TIME_SET s.core) = 1 ∧ t.get (F.TK_STAT_TIME_SET s.core) = 1

theorem stepApplied (s : State) (p : StepPlan) (hk : s.core < 2) : StepApplied s p (s.applyStep p) := by
  obtain ⟨hnow, -, hends, hcore⟩ := stepped_step s p
  obtain ⟨hleftNow, -, hleftStep⟩ := showPlan_leaves (s.stepped p) s.core p
  obtain ⟨hhold, hget, htime, htk⟩ := serveAll_step (List.range 6) (by simp) ((s.stepped p).showPlan s.core p)
  have hread : ∀ f ∈ _, _ := fun f hf => hget f (tkFlags_apart hk f hf).1
  rw [← applyStep_eq] at hhold htime htk hread
  unfold State.planSpan at hnow
  refine ⟨by rw [htk, hleftStep, hends], fun q hq => hhold q (List.mem_range.mpr hq), fun hsoft => ?_, fun time hsoft => ?_⟩
  · obtain ⟨hflag, hset⟩ := showStep_shows hk (s.stepped p) p.setsTime p.delta
    rw [hsoft] at hnow
    have hplan : (s.stepped p).showPlan s.core p = (s.stepped p).showStep s.core p.setsTime p.delta := by rw [State.showPlan, hsoft]
    rw [hplan] at hread hleftNow htime
    exact ⟨(htime.trans hleftNow).trans hnow, (hread _ (by simp)).trans hflag, fun h => (hread _ (by simp)).trans (hset h)⟩
  · obtain ⟨hflag, hset⟩ := afterTimeSet_shows hcore hk
    rw [hsoft] at hnow
    have hplan : (s.stepped p).showPlan s.core p = (s.stepped p).afterTimeSet := by rw [State.showPlan, hsoft]
    rw [hplan] at hread hleftNow htime
    exact ⟨(htime.trans hleftNow).trans (hnow.trans (by dsimp only [moved]; omega)), (hread _ (by simp)).trans hflag, (hread _ (by simp)).trans hset⟩

theorem exec_stepApply (s : State) : exec .stepApply s = running s fun s =>
    match s.tk.step with | none => s | some p => s.when s.calendarsEmpty (·.applyStep p) := rfl

theorem StepApplied.settle {p : StepPlan} (h : StepApplied s p t) : StepApplied s p t.settle :=
  ⟨(congrArg TkPart.step (State.settle_tk t)).trans h.ends, fun q hq => (State.settle_get t _).trans (h.grants q hq),
    fun hs => by simpa only [State.settle_now, State.settle_get] using h.steps hs,
    fun time hs => by simpa only [State.settle_now, State.settle_get] using h.sets time hs⟩

theorem does_stepApply {p : StepPlan} (hp : s.power = .run) (hk : s.core < 2) (hs : s.tk.step = some p) (hc : s.calendarsEmpty = true) :
    Does .stepApply s fun t => StepApplied s p t := by
  refine does_running (exec_stepApply s) hp ?_
  rw [hs, hc]
  exact (stepApplied s p hk).settle

theorem does_stepApply_waits (hp : s.power = .run) (h : s.tk.step = none ∨ s.calendarsEmpty = false) :
    Does .stepApply s fun t => Frame s t [] := by
  refine does_idle (exec_stepApply s) ?_ hp
  split
  · rfl
  · next hs =>
    obtain h | h := h
    · rw [hs] at h
      cases h
    · rw [h]
      rfl

end Sys2Proof.Machine
end

section
/-! PROOF. Schedule points (O8): an update counts its own, and nothing that it does counts another (R109). -/
namespace Sys2Proof.Machine

variable (s : State)

/-! ## What the shared operations leave -/

/-- Schedule points that the core has passed. -/
def State.points (s : State) : Nat := s.tk.points

@[simp] theorem points_put (f : Fld) (v : Nat) : (s.put f v).points = s.points := rfl
@[simp] theorem points_putB (f : Fld) (b : Bool) : (s.putB f b).points = s.points := rfl
@[simp] theorem points_putSigned (f : Fld) (v : Int) : (s.putSigned f v).points = s.points := rfl
@[simp] theorem points_putLeft (k : Nat) (left : Int) : (s.putLeft k left).points = s.points := rfl
@[simp] theorem points_putPh (k : Nat) (e : Int) : (s.putPh k e).points = s.points := rfl
@[simp] theorem points_setSlot (n : Nat) (f : RsSlot → RsSlot) : (s.setSlot n f).points = s.points := rfl
@[simp] theorem points_setPt (p : Nat) (f : PtPort → PtPort) : (s.setPt p f).points = s.points := rfl
@[simp] theorem points_event (f : Fld) (code inst arg : Nat) : (s.event f code inst arg).points = s.points := by simp [State.points]
@[simp] theorem points_tkEvent (k : Nat) (f : Nat → Fld) (code arg : Nat) : (s.tkEvent k f code arg).points = s.points := points_event s _ _ _ _

@[simp] theorem points_when (b : Bool) (f : State → State) : (s.when b f).points = if b = true then (f s).points else s.points := by
  cases b <;> rfl

theorem points_forAll {α : Type} (l : List α) {f : State → α → State} (h : ∀ t x, (f t x).points = t.points) : (s.forAll l f).points = s.points :=
  forAll_inv State.points l f h s

@[simp] theorem points_closeSegment : s.closeSegment.points = s.points := by
  obtain ⟨past, h⟩ := closeSegment_eq s
  rw [h]
  rfl

@[simp] theorem points_putFreq (f : Int) : (s.putFreq f).points = s.points := points_closeSegment s

/-! ## The selector's part (R92 to R105, R258, R277) -/

theorem points_takeSample (n : Nat) (x : Sample) : (s.takeSample n x).points = s.points := by
  unfold State.takeSample
  split <;> rfl

theorem points_feedPtp : s.feedPtp.points = s.points := by
  refine points_forAll s _ fun t p => ?_
  dsimp only
  split
  · rfl
  · exact points_forAll _ _ fun u n => by simp [points_takeSample]

theorem points_enterSample (n : Nat) : (s.enterSample n).points = s.points := by
  unfold State.enterSample
  dsimp only
  split
  · rfl
  · split <;> rfl

@[simp] theorem points_enterSlot (n new cause : Nat) : (s.enterSlot n new cause).points = s.points := by
  unfold State.enterSlot State.startBandwidth
  dsimp only
  split <;> try split
  all_goals simp

theorem points_evalSlot (n : Nat) : (s.evalSlot n).points = s.points := by
  unfold State.evalSlot State.spoilWindow
  dsimp only
  repeat' split
  all_goals simp

theorem points_checkContest : s.checkContest.points = s.points := by simp [State.checkContest, State.endContest]

@[simp] theorem points_makeActive (n : Nat) : (s.makeActive n).points = s.points := by
  unfold State.makeActive
  split <;> rfl

@[simp] theorem points_withRs (rs : RsPart) : ({ s with rs := rs } : State).points = s.points := rfl
@[simp] theorem points_withIe (ie : IePart) : ({ s with ie := ie } : State).points = s.points := rfl

theorem points_applySelection : s.applySelection.points = s.points := by
  unfold State.applySelection State.selectRefused
  dsimp only
  split
  · rfl
  · split
    · split <;> simp
    · split <;> simp

theorem points_fallBack : s.fallBack.points = s.points := by
  unfold State.fallBack
  split
  · rfl
  · split
    · rfl
    · split <;> simp

theorem points_autoExit : s.autoExit.points = s.points := by
  unfold State.autoExit
  split
  · split <;> simp
  · rfl

theorem points_showWander (n : Nat) : (s.showWander n).points = s.points := rfl

theorem points_fixBandwidth (n : Nat) : (s.fixBandwidth n).points = s.points := by simp [State.fixBandwidth]

theorem points_showSelection : s.showSelection.points = s.points := by
  unfold State.showSelection
  dsimp only
  rw [points_putB]
  split <;> rfl

theorem points_selectorUpdate : s.selectorUpdate.points = s.points := by
  have hslots := points_forAll s (List.range 16) (f := fun t n => (t.enterSample n).evalSlot n) fun t n => by
    rw [points_evalSlot, points_enterSample]
  have hshown (t : State) := points_forAll t (List.range 16) (f := fun t n => ((t.showWander n).markGood n).fixBandwidth n) fun t n => by
    rw [points_fixBandwidth, State.markGood, points_setSlot, points_showWander]
  unfold State.selectorUpdate
  dsimp only
  rw [points_showSelection, State.showMasks, points_put, points_put, points_put, hshown, points_autoExit, points_fallBack, points_applySelection,
    points_checkContest, hslots]

/-! ## The ESMC PDUs that a change of QL sends (R277) -/

theorem points_wakeLpi : s.wakeLpi.points = s.points := when_inv State.points _ _ rfl

theorem points_queueNa (p : Nat) (m : Msg) : (s.queueNa p m).points = s.points := by
  unfold State.queueNa State.eventOnce
  split
  · split
    · rfl
    · exact points_event _ _ _ _ _
  · exact when_inv State.points _ _ (points_wakeLpi _)

theorem points_sendEsmc (p : Nat) (event : Bool) : (s.sendEsmc p event).points = s.points :=
  when_inv State.points _ _ (points_queueNa _ _ _)

theorem points_esmcChanges : s.esmcChanges.points = s.points :=
  points_forAll s _ fun _ _ => when_inv State.points _ _ (points_sendEsmc _ _ _)

/-- A schedule point counts once (R109). -/
theorem beginUpdate_points : s.beginUpdate.tk.points = s.tk.points + 1 := by
  have hsel : s.feedPtp.selectorUpdate.esmcChanges.points = s.points := by
    rw [points_esmcChanges, points_selectorUpdate, points_feedPtp]
  have hclear (t : State) : t.clearChanged.points = t.points := points_forAll t _ fun _ _ => points_setPt _ _ _
  exact (hclear _).trans (congrArg (· + 1) hsel)

end Sys2Proof.Machine
end

section
/-! PROOF. The law at an update (O8): it counts no schedule point of its own (R109, R110). -/
namespace Sys2Proof.Machine

variable (s : State)

/-! ## Schedule points through the law -/

@[simp] theorem points_coreTo (new : Nat) : (s.coreTo new).points = s.points := by
  unfold State.coreTo
  dsimp only
  split
  · rfl
  · generalize hu : State.when _ _ _ = u
    have hpoints : u.points = s.points := by rw [← hu]; simp
    rw [← hpoints]
    split
    · exact points_tkEvent _ _ _ _ _
    · rfl
    · split <;> rfl

@[simp] theorem points_decideStep (p : StepPlan) : (s.decideStep p).points = s.points := by
  unfold State.decideStep
  split
  · exact applyStep_points s p
  · exact points_forAll s _ fun _ _ => rfl

@[simp] theorem points_propagate (k : Nat) (num : Int) (den : Nat) : (s.propagate k num den).points = s.points := rfl

@[simp] theorem points_slew (k : Nat) (u : Int) : (s.slew k u).1.points = s.points := points_putLeft s _ _

@[simp] theorem points_law (k bw dte : Nat) (e : Int) : (s.law k bw dte e).1.points = s.points := by
  unfold State.law
  dsimp only
  rw [points_slew, points_propagate, points_putSigned]

theorem points_onShadow {f : State → Nat → State} (h : ∀ t k, (f t k).points = t.points) : (s.onShadow f).points = s.points := by
  unfold State.onShadow
  split
  · rfl
  · exact h _ _

@[simp] theorem points_takeAnchor : s.takeAnchor.points = s.points := by
  unfold State.takeAnchor
  split <;> rfl

@[simp] theorem points_anchorPhase : s.anchorPhase.points = s.points := by
  unfold State.anchorPhase
  split
  · exact (points_forAll s.takeAnchor _ fun _ _ => points_putLeft _ _ _).trans (points_takeAnchor s)
  · rfl

@[simp] theorem points_firstOffset (n : Nat) (e0 : Int) : (s.firstOffset n e0).points = s.points := by
  unfold State.firstOffset
  dsimp only
  generalize hu : State.mk .. = u
  have hpoints : u.points = s.points := by rw [← hu]; rfl
  rw [← hpoints]
  split
  · simp
  · split
    · generalize hv : State.when _ _ _ = v
      have : v.points = u.points := by rw [← hv]; simp
      exact this
    · simp

theorem points_trackMeasured (n : Nat) (e : Int) : (s.trackMeasured n e).points = s.points := by
  have h := points_onShadow s (f := fun t j => (t.law j (t.bwNow n) s.measSpan e).1) fun t j => points_law t _ _ _ _
  unfold State.trackMeasured
  dsimp only
  generalize s.onShadow _ = t at h ⊢
  have hlaw := points_law t s.core (t.bwNow n) s.measSpan e
  generalize t.law s.core (t.bwNow n) s.measSpan e = r at hlaw ⊢
  have hfreq := points_putFreq r.1 (-(r.1.getI (F.TK_MODEL_Y_Y s.core) + r.1.tempTerm + r.2.1 + r.2.2))
  generalize r.1.putFreq _ = w at hfreq ⊢
  exact (hfreq.trans hlaw).trans h

theorem points_trackUnmeasured : s.trackUnmeasured.points = s.points := by
  unfold State.trackUnmeasured
  dsimp only
  generalize hu : s.onShadow _ = u
  have hpoints : u.points = s.points := by
    rw [← hu]
    refine points_onShadow s fun t j => ?_
    split <;> simp
  split <;> simp [hpoints]

theorem points_trackUpdate : s.trackUpdate.points = s.points := by
  unfold State.trackUpdate
  dsimp only
  split
  · rw [points_trackUnmeasured, points_anchorPhase]
  · split <;> simp [points_trackMeasured]

theorem points_holdUpdate : s.holdUpdate.points = s.points := by
  have h := points_onShadow s (f := fun t j => t.propagate j 0 1) fun t j => points_propagate t _ _ _
  simp [State.holdUpdate, h]

/-- In MANUAL the anchor is taken, and the error against the active slot is shown where a measurement gives it (R111, R121). -/
def State.showsError (s : State) : State :=
  let t := s.takeAnchor
  match t.measurement with
  | none => t
  | some (n, x) => t.putPh s.core (t.errorOf n x)

/-- An update in MANUAL shows the error, then steers. -/
theorem manualUpdate_eq : s.manualUpdate =
    if s.showsError.on F.PM_STAT_DIP then s.showsError.putFreq (s.showsError.getI F.TK_MAN_FREQ_FREQ)
    else
      let t := s.showsError.onShadow (fun t j => (t.slew j 0).1)
      (t.slew s.core 0).1.putFreq ((t.slew s.core 0).1.getI F.TK_MAN_FREQ_FREQ - (t.slew s.core 0).2) := by
  unfold State.manualUpdate State.showsError
  rfl

theorem points_manualUpdate : s.manualUpdate.points = s.points := by
  have h (t : State) := points_onShadow t (f := fun t j => (t.slew j 0).1) fun t j => points_slew t _ _
  have herror : s.showsError.points = s.points := by
    unfold State.showsError
    dsimp only
    split
    · exact points_takeAnchor s
    · exact (points_putPh _ _ _).trans (points_takeAnchor s)
  rw [manualUpdate_eq]
  split <;> simp [h, herror]

/-! ## The rest of an update -/

theorem points_switchTick : s.switchTick.points = s.points := by
  have h (t : State) := points_event t F.TB_EVT_MIG_DONE 0x0202 0 0
  unfold State.switchTick
  dsimp only
  exact (h _).trans (points_closeSegment s)

theorem points_queueCal (n : Nat) : (s.queueCal n).points = s.points := by
  unfold State.queueCal
  split <;> rfl

theorem points_makeStale (n : Nat) : (s.makeStale n).points = s.points := by
  unfold State.makeStale
  dsimp only
  split
  · rfl
  · exact points_event _ _ _ _ _

theorem points_retryCals : s.retryCals.points = s.points := by
  unfold State.retryCals
  split
  · rfl
  · exact points_forAll _ _ points_queueCal

theorem points_ieMigrated : s.ieMigrated.points = s.points := by
  have hmark : (s.markEngines (fun e => { e with mig := true }) (fun _ => true)).points = s.points := by
    obtain ⟨es, h⟩ := markEngines_eq s (fun e => { e with mig := true }) (fun _ => true)
    rw [h]
    rfl
  have hstale (t : State) := points_forAll t (List.range 32) (f := fun t n => t.makeStale n) points_makeStale
  have hqueue (t : State) : t.queueAutoAll.points = t.points :=
    points_forAll t _ fun _ _ => when_inv State.points _ _ (points_queueCal _ _)
  unfold State.ieMigrated
  dsimp only
  rw [points_retryCals, hqueue, points_withIe, hstale, hmark]

theorem points_withGn (gn : GnPart) : ({ s with gn := gn } : State).points = s.points := rfl

theorem points_migrateUpdate : s.migrateUpdate.points = s.points := by
  have hy (t : State) (ks : List Nat) (dy : Int) := points_forAll t ks
    (f := fun t k => t.putSigned (F.TK_MODEL_Y_Y k) (t.getI (F.TK_MODEL_Y_Y k) + dy)) fun _ _ => rfl
  have hspoil (t : State) := points_forAll t (List.range 6) (f := fun t p => t.setPort p (fun q => { q with calSpoilt := true })) fun _ _ => rfl
  have hrs (t : State) (dy : Int) : (t.rsMigrated dy).points = t.points := by
    unfold State.rsMigrated
    dsimp only
    rw [points_withRs, points_forAll t _ fun _ _ => points_setSlot _ _ _]
  unfold State.migrateUpdate
  dsimp only
  rw [hspoil]
  generalize hu : State.forAll _ _ _ = u
  have hpoints : u.points = s.points := by rw [← hu, hy, points_switchTick]
  have hfreq := points_putFreq u (restateFreq s.freqWord s.tb.ratio)
  generalize u.putFreq _ = v at hfreq ⊢
  rw [points_withGn, points_ieMigrated, hrs, points_withGn]
  exact hfreq.trans hpoints

theorem points_afterUpdate : s.afterUpdate.points = s.points := by
  unfold State.afterUpdate
  dsimp only
  split
  · split <;> rfl
  · rfl

theorem points_endUpdate : s.endUpdate.points = s.points := by
  have hcompare (t : State) : t.compareShadow.points = t.points := by
    unfold State.compareShadow
    split
    · rfl
    · split <;> rfl
  unfold State.endUpdate
  dsimp only
  rw [hcompare, points_withRs]
  simp

/-- The law and what follows it count no schedule point. -/
theorem points_runUpdate : s.runUpdate.points = s.points := by
  unfold State.runUpdate
  dsimp only
  rw [points_endUpdate, points_afterUpdate, points_when, points_migrateUpdate, ite_self]
  generalize hu : State.when _ _ State.spendSamples = u
  have hpoints : u.points = s.points := by
    rw [← hu, points_when, State.spendSamples, points_withRs, ite_self, points_when]
    split
    · exact points_coreTo s _
    · exact points_coreTo s _
  rw [← hpoints]
  split
  · exact points_trackUpdate u
  · exact points_holdUpdate u
  · exact points_manualUpdate u

end Sys2Proof.Machine
end

section
/-! PROOF. MANUAL and HOLDOVER at an update (O8): the core's state, what is left to slew, the rate and the frequency word (R110, R114, R116, R121,
R125). -/
namespace Sys2Proof.Machine

variable {s t u : State} {k : Nat}

/-! ## What an update writes beside the law of the active core -/

/-- The registers from which an update in MANUAL or HOLDOVER steers core k, and those that it steers. -/
def lawFields (k : Nat) : List Fld :=
  [F.TK_STAT_STATE k, F.TK_SLEW_LEFT_LEFT k, F.TK_MODEL_Y_Y k, F.TK_TS_FREQ_FREQ, F.TK_MODEL_DD_DD k, F.RD_STAT_ACTIVE_CORE, F.PM_STAT_DIP,
    F.TK_MAN_FREQ_FREQ, F.TK_SLEW_MAX_SLEW_MAX, F.TK_CTL_TEMPCO_EN, F.TB_STAT_ACT, F.TB_THERM_OPEN, F.TB_THERM_EN, F.TB_THERM_AVG, F.TK_TEMPCO_C,
    F.TK_TEMPCO_A_REF]

/-- The registers that it writes beside them: what core k shows, and the other core's model (R111, R118, R338). -/
def asideFields (k : Nat) : List Fld :=
  [F.TK_HOLD_SEC_SEC k, F.TK_EVT_HOLD k, F.TK_EVT_HOLD_EXIT k, F.TK_MODEL_PH_PH k, F.TK_STAT_REF k, F.TK_STAT_FREQ_ONLY k, F.TK_STAT_STARTUP k,
    F.TK_SLEW_LEFT_LEFT (1 - k), F.TK_STAT_SLEWING (1 - k), F.TK_MODEL_Y_Y (1 - k)]

theorem state_apart (hk : k < 2) : ∀ f ∈ (lawFields k).tail, f.key ≠ (F.TK_STAT_STATE k).key := by
  interval_cases k <;> decide

theorem law_apart (hk : k < 2) : ∀ f ∈ lawFields k, f.key ∉ (asideFields k).map Fld.key ∧ f.tallied = false := by
  interval_cases k <;> decide

/-- t stands for the law as s does: its registers and the timebase are those of s. -/
structure Aside (k : Nat) (s t : State) : Prop where
  reads : ∀ f ∈ lawFields k, t.get f = s.get f
  tb : t.tb = s.tb

theorem Aside.trans (h : Aside k s t) (g : Aside k t u) : Aside k s u :=
  ⟨fun f hf => (g.reads f hf).trans (h.reads f hf), g.tb.trans h.tb⟩

theorem Aside.ofCells (hcells : t.cells = s.cells) (htb : t.tb = s.tb) : Aside k s t := ⟨fun f _ => by simp [State.get, hcells], htb⟩

theorem Aside.refl (k : Nat) (s : State) : Aside k s s := .ofCells rfl rfl

theorem Aside.ofKeeps (hk : k < 2) (h : Keeps s t (asideFields k)) (htb : t.tb = s.tb) : Aside k s t :=
  ⟨fun f hf => h.get f (law_apart hk f hf).1 (law_apart hk f hf).2, htb⟩

theorem Aside.put (h : Aside k s t) (hk : k < 2) (f : Fld) (v : Nat) (hf : f.key ∈ (asideFields k).map Fld.key) : Aside k s (t.put f v) :=
  h.trans (.ofKeeps hk ((Keeps.refl t _).put f v hf) rfl)

theorem Aside.putB (h : Aside k s t) (hk : k < 2) (f : Fld) (b : Bool) (hf : f.key ∈ (asideFields k).map Fld.key) : Aside k s (t.putB f b) :=
  h.put hk f _ hf

theorem Aside.putI (h : Aside k s t) (hk : k < 2) (f : Fld) (v : Int) (hf : f.key ∈ (asideFields k).map Fld.key) : Aside k s (t.putI f v) :=
  h.put hk f _ hf

theorem Aside.event (h : Aside k s t) (hk : k < 2) (f : Fld) (code inst arg : Nat) (hf : f.key ∈ (asideFields k).map Fld.key) :
    Aside k s (t.event f code inst arg) :=
  h.trans (.ofKeeps hk ((Keeps.refl t _).event f code inst arg hf) (State.event_tb t f code inst arg))

theorem Aside.when (h : Aside k s t) (b : Bool) {f : State → State} (g : Aside k t (f t)) : Aside k s (t.when b f) := by
  cases b
  · exact h
  · exact h.trans g

theorem Aside.readsI (h : Aside k s t) {f : Fld} (hf : f ∈ lawFields k) : t.getI f = s.getI f := getI_congr (h.reads f hf)

theorem Aside.on (h : Aside k s t) {f : Fld} (hf : f ∈ lawFields k) : t.on f = s.on f := by
  unfold State.on
  rw [h.reads f hf]

theorem Aside.core (h : Aside k s t) : t.core = s.core := h.reads _ (by simp [lawFields])

/-- The slew's limit rests on TK_SLEW_MAX alone. -/
theorem Aside.slewMax (h : Aside k s t) : t.slewMax = s.slewMax := by
  unfold State.slewMax
  rw [h.reads F.TK_SLEW_MAX_SLEW_MAX (by simp [lawFields])]

/-- The temperature term rests on registers that an update does not write. -/
theorem tempTerm_congr (hreads : ∀ f ∈ [F.TK_CTL_TEMPCO_EN, F.TB_STAT_ACT, F.TB_THERM_OPEN, F.TB_THERM_EN, F.TB_THERM_AVG, F.TK_TEMPCO_C,
    F.TK_TEMPCO_A_REF], t.get f = s.get f) (htb : t.tb = s.tb) : t.tempTerm = s.tempTerm := by
  simp only [List.forall_mem_cons] at hreads
  obtain ⟨hen, hact, hopen, htherm, havg, hc, href, -⟩ := hreads
  unfold State.tempTerm State.on
  rw [hen, hact, hopen, htherm, havg, href, htb, getI_congr hc]

/-! ## Before and after the law -/

/-- The core takes its state; nothing else that the law reads changes. -/
theorem aside_coreTo (s : State) (hk : s.core < 2) {new : Nat} (hnew : new < 8) : Aside s.core (s.put (F.TK_STAT_STATE s.core) new) (s.coreTo new) := by
  unfold State.coreTo
  dsimp only
  split
  · next hold =>
    refine ⟨fun f hf => ?_, rfl⟩
    obtain rfl | hf := List.mem_cons.mp hf
    · exact hold.trans ((State.get_put_same s _ _).trans (Nat.mod_eq_of_lt hnew)).symm
    · exact (State.get_put_other s _ f _ (state_apart hk f hf)).symm
  · generalize s.put (F.TK_STAT_STATE s.core) new = t
    have hexit : Aside s.core t (t.when (s.get (F.TK_STAT_STATE s.core) == 3) (·.tkEvent s.core F.TK_EVT_HOLD_EXIT 0x0405 0)) :=
      (Aside.refl _ t).when _ ((Aside.refl _ t).event hk _ _ _ _ (by simp [asideFields]))
    generalize t.when _ _ = u at hexit ⊢
    refine hexit.trans ?_
    split
    · have hheld := ((Aside.refl s.core u).put hk (F.TK_HOLD_SEC_SEC s.core) u.sec (by simp [asideFields])).event hk (F.TK_EVT_HOLD s.core) 0x0404
        s.core 0 (by simp [asideFields])
      exact hheld.trans (.ofCells rfl rfl)
    · exact .ofCells rfl rfl
    · split <;> exact .ofCells rfl rfl

theorem aside_takeAnchor (s : State) : Aside k s s.takeAnchor := by
  unfold State.takeAnchor
  split
  · exact .refl k s
  · exact .ofCells rfl rfl

theorem aside_showsError (s : State) (hk : s.core < 2) : Aside s.core s s.showsError := by
  unfold State.showsError
  dsimp only
  have hanchor := aside_takeAnchor (k := s.core) s
  generalize s.takeAnchor = t at hanchor ⊢
  split
  · exact hanchor
  · exact hanchor.putI hk _ _ (by simp [asideFields])

/-- What the shadow core does stays on its own registers. -/
theorem aside_onShadow (s : State) {f : State → Nat → State} (h : Aside s.core s (f s (1 - s.core))) : Aside s.core s (s.onShadow f) := by
  unfold State.onShadow State.shadow
  split
  · exact .refl _ s
  · next j hj =>
    obtain ⟨-, hcore⟩ := (Option.ite_none_right_eq_some ..).mp hj
    obtain rfl := Option.some.inj hcore
    exact h

theorem aside_shadowSlew (s : State) (hk : s.core < 2) : Aside s.core s (s.onShadow fun t j => (t.slew j 0).1) :=
  aside_onShadow s (((Aside.refl _ s).putI hk _ _ (by simp [asideFields])).putB hk _ _ (by simp [asideFields]))

theorem aside_shadowRate (s : State) (hk : s.core < 2) : Aside s.core s (s.onShadow fun t j => t.propagate j 0 1) :=
  aside_onShadow s ((Aside.refl _ s).putI hk _ _ (by simp [asideFields]))

theorem aside_afterUpdate (s : State) : Aside k s s.afterUpdate := by
  unfold State.afterUpdate
  dsimp only
  split
  · split <;> exact .ofCells rfl rfl
  · exact .ofCells rfl rfl

theorem aside_compareShadow (s : State) : Aside k s s.compareShadow := by
  unfold State.compareShadow
  split
  · exact .refl k s
  · split <;> exact .ofCells rfl rfl

theorem aside_endUpdate (s : State) (hk : s.core < 2) : Aside s.core s s.endUpdate := by
  have hstarted (t : State) : Aside s.core t (t.when s.startedUp (·.put (F.TK_STAT_STARTUP s.core) 0)) :=
    (Aside.refl _ t).when _ ((Aside.refl _ t).put hk _ _ (by simp [asideFields]))
  unfold State.endUpdate
  dsimp only
  refine Aside.trans ?_ (aside_compareShadow _)
  refine Aside.trans (t := State.when ..) ?_ (.ofCells rfl rfl)
  exact (((Aside.refl _ s).put hk _ _ (by simp [asideFields])).putB hk _ _ (by simp [asideFields])).trans (hstarted _)

/-! ## The update of a core in MANUAL or HOLDOVER -/

/-- The core in the state that MODE and HOLD ask for, and a withheld offset released by a permit (R114, R120). -/
def State.cored (s : State) : State :=
  (s.coreTo s.wantedState).when ((s.coreTo s.wantedState).tk.withheld && (s.coreTo s.wantedState).on F.TK_CTL_STEP_PERMIT) fun t =>
    { t with tk.withheld := false, tk.takeE0 := true, tk.anchor := none }

/-- The core before its law: samples that may not set the time are spent. -/
def State.readied (s : State) : State :=
  s.cored.when (s.cored.tk.takeE0 && (s.cored.tb.migStep == 4 || s.cored.tk.step.isSome)) State.spendSamples

theorem wantedState_lt (s : State) : s.wantedState < 8 := by
  unfold State.wantedState
  split
  · decide
  · split <;> decide

theorem aside_cored (s : State) (hk : s.core < 2) : Aside s.core (s.put (F.TK_STAT_STATE s.core) s.wantedState) s.cored :=
  (aside_coreTo s hk (wantedState_lt s)).when _ (.ofCells rfl rfl)

theorem aside_readied (s : State) (hk : s.core < 2) : Aside s.core (s.put (F.TK_STAT_STATE s.core) s.wantedState) s.readied :=
  (aside_cored s hk).when _ (.ofCells rfl rfl)

/-- Before its law the core is in the state asked for. -/
theorem readied_state (s : State) (hk : s.core < 2) : s.readied.get (F.TK_STAT_STATE s.core) = s.wantedState :=
  ((aside_readied s hk).reads _ (by simp [lawFields])).trans ((State.get_put_same s _ _).trans (Nat.mod_eq_of_lt (wantedState_lt s)))

/-- And all else that the law reads is as it was. -/
theorem readied_reads (s : State) (hk : s.core < 2) {f : Fld} (hf : f ∈ (lawFields s.core).tail) : s.readied.get f = s.get f :=
  ((aside_readied s hk).reads f (List.mem_of_mem_tail hf)).trans (State.get_put_other s _ f _ (state_apart hk f hf))

theorem readied_core (s : State) (hk : s.core < 2) : s.readied.core = s.core := readied_reads s hk (by simp [lawFields])

theorem cored_stays (s : State) (hk : s.core < 2) (hmig : s.tb.migStep ≠ 4) : (s.cored.tb.migStep == 4) = false := by
  rw [(aside_cored s hk).tb]
  simpa using hmig

/-- Without step 4 of a migration, an update of a core in MANUAL is that of MANUAL. -/
theorem runUpdate_manual (s : State) (hk : s.core < 2) (hmig : s.tb.migStep ≠ 4) (h : s.wantedState = 4) :
    s.runUpdate = s.readied.manualUpdate.afterUpdate.endUpdate := by
  have hstate : s.readied.get (F.TK_STAT_STATE s.readied.core) = 4 := by rw [readied_core s hk, readied_state s hk, h]
  unfold State.runUpdate
  dsimp only
  change State.endUpdate (State.afterUpdate (State.when _ (s.cored.tb.migStep == 4) _)) = _
  rw [cored_stays s hk hmig, State.when_false]
  split
  · next h2 => exact absurd (h2.symm.trans hstate) (by decide)
  · next h3 => exact absurd (h3.symm.trans hstate) (by decide)
  · rfl

/-- And that of a core in HOLDOVER that of HOLDOVER. -/
theorem runUpdate_hold (s : State) (hk : s.core < 2) (hmig : s.tb.migStep ≠ 4) (h : s.wantedState = 3) :
    s.runUpdate = s.readied.holdUpdate.afterUpdate.endUpdate := by
  have hstate : s.readied.get (F.TK_STAT_STATE s.readied.core) = 3 := by rw [readied_core s hk, readied_state s hk, h]
  unfold State.runUpdate
  dsimp only
  change State.endUpdate (State.afterUpdate (State.when _ (s.cored.tb.migStep == 4) _)) = _
  rw [cored_stays s hk hmig, State.when_false]
  split
  · next h2 => exact absurd (h2.symm.trans hstate) (by decide)
  · rfl
  · next h3 => exact absurd hstate h3

/-! ## The registers that the law steers -/

theorem freq_apart (hk : k < 2) : ∀ f ∈ [F.TK_STAT_STATE k, F.TK_SLEW_LEFT_LEFT k, F.TK_MODEL_Y_Y k, F.RD_STAT_ACTIVE_CORE],
    f.key ≠ F.TK_TS_FREQ_FREQ.key := by
  interval_cases k <;> decide

theorem left_apart (hk : k < 2) : ∀ f ∈ [F.TK_STAT_STATE k, F.RD_STAT_ACTIVE_CORE, F.TK_MAN_FREQ_FREQ],
    f.key ∉ [F.TK_SLEW_LEFT_LEFT k, F.TK_STAT_SLEWING k].map Fld.key ∧ f.tallied = false := by
  interval_cases k <;> decide

theorem rate_apart (hk : k < 2) : ∀ f ∈ [F.TK_STAT_STATE k, F.RD_STAT_ACTIVE_CORE, F.TK_CTL_TEMPCO_EN, F.TB_STAT_ACT, F.TB_THERM_OPEN, F.TB_THERM_EN,
    F.TB_THERM_AVG, F.TK_TEMPCO_C, F.TK_TEMPCO_A_REF], f.key ≠ (F.TK_MODEL_Y_Y k).key := by
  interval_cases k <;> decide

/-- The frequency word that is written, saturated, is read back (R27). -/
theorem getI_putFreq (s : State) (f : Int) : (s.putFreq f).getI F.TK_TS_FREQ_FREQ = freqSat f := by
  obtain ⟨hlo, hhi⟩ := clampI_mem (lo := -0x0BEBC20000000000) (hi := 0x0BEBC20000000000) (by norm_num) f
  refine getI_putI (k := 63) rfl ?_
  unfold freqSat
  omega

/-- And no other register is written. -/
theorem get_putFreq_other (s : State) (f : Int) {g : Fld} (hg : g.key ≠ F.TK_TS_FREQ_FREQ.key) : (s.putFreq f).get g = s.get g := by
  obtain ⟨past, h⟩ := closeSegment_eq s
  unfold State.putFreq
  rw [State.putI, State.get_put_other _ _ _ _ hg, h]
  rfl

/-- A signed register of 64 bits saturates, and is read back. -/
theorem getI_putSigned (s : State) {f : Fld} (hw : f.width = 64) (v : Int) : (s.putSigned f v).getI f = clampI (-2 ^ 63) (2 ^ 63 - 1) v := by
  obtain ⟨hlo, hhi⟩ := clampI_mem (lo := -2 ^ 63) (hi := 2 ^ 63 - 1) (by norm_num) v
  exact getI_putI (k := 63) hw ⟨hlo, by omega⟩

/-- In MANUAL and in a dip episode the word is TK_MAN_FREQ, and the slew waits (R121, R125). -/
theorem manualUpdate_dips (s : State) (hk : s.core < 2) (hdip : s.on F.PM_STAT_DIP = true) :
    s.manualUpdate.getI F.TK_TS_FREQ_FREQ = freqSat (s.getI F.TK_MAN_FREQ_FREQ) ∧
      ∀ f ∈ [F.TK_STAT_STATE s.core, F.TK_SLEW_LEFT_LEFT s.core, F.RD_STAT_ACTIVE_CORE], s.manualUpdate.get f = s.get f := by
  have hshow := aside_showsError s hk
  rw [manualUpdate_eq, if_pos ((hshow.on (by simp [lawFields])).trans hdip)]
  refine ⟨(getI_putFreq _ _).trans (congrArg freqSat (hshow.readsI (by simp [lawFields]))), fun f hf => ?_⟩
  rw [get_putFreq_other _ _ (freq_apart hk f (by revert f; simp)), hshow.reads f (by revert f; simp [lawFields])]

/-- In MANUAL and outside a dip episode the slew in progress goes on beside TK_MAN_FREQ (R110, R121). -/
theorem manualUpdate_slews (s : State) (hk : s.core < 2) (hdip : s.on F.PM_STAT_DIP = false) :
    let left := s.getI (F.TK_SLEW_LEFT_LEFT s.core)
    let slew := clampI (-s.slewMax) s.slewMax (left * 2 ^ 20)
    s.manualUpdate.getI (F.TK_SLEW_LEFT_LEFT s.core) = clampI (-2 ^ 63) (2 ^ 63 - 1) (left - roundDiv slew (2 ^ 20)) ∧
      s.manualUpdate.getI F.TK_TS_FREQ_FREQ = freqSat (s.getI F.TK_MAN_FREQ_FREQ - slew) ∧
      ∀ f ∈ [F.TK_STAT_STATE s.core, F.RD_STAT_ACTIVE_CORE], s.manualUpdate.get f = s.get f := by
  have hshow := aside_showsError s hk
  have hdip' : ¬s.showsError.on F.PM_STAT_DIP = true := by rw [hshow.on (by simp [lawFields]), hdip]; decide
  rw [manualUpdate_eq, if_neg hdip']
  have hshadow := aside_shadowSlew s.showsError (hshow.core ▸ hk)
  rw [hshow.core] at hshadow
  dsimp only
  generalize s.showsError.onShadow _ = t at hshadow
  have ht := hshow.trans hshadow
  have hleft : t.getI (F.TK_SLEW_LEFT_LEFT s.core) = s.getI (F.TK_SLEW_LEFT_LEFT s.core) := ht.readsI (by simp [lawFields])
  have hslew : t.slew s.core 0 = (t.putLeft s.core (s.getI (F.TK_SLEW_LEFT_LEFT s.core) -
      roundDiv (clampI (-s.slewMax) s.slewMax (s.getI (F.TK_SLEW_LEFT_LEFT s.core) * 2 ^ 20)) (2 ^ 20)),
      clampI (-s.slewMax) s.slewMax (s.getI (F.TK_SLEW_LEFT_LEFT s.core) * 2 ^ 20)) := by
    unfold State.slew
    simp only [hleft, ht.slewMax, Int.natAbs_zero, Nat.cast_zero, sub_zero]
  rw [hslew]
  generalize clampI (-s.slewMax) s.slewMax _ = slew
  have hput (f : Fld) (hf : f ∈ [F.TK_STAT_STATE s.core, F.RD_STAT_ACTIVE_CORE, F.TK_MAN_FREQ_FREQ]) (left : Int) :
      (t.putLeft s.core left).get f = s.get f := by
    obtain ⟨hne, htally⟩ := left_apart hk f hf
    exact ((Frame.putLeft t s.core left).get f hne htally).trans (ht.reads f (by revert f; simp [lawFields]))
  refine ⟨?_, ?_, fun f hf => ?_⟩
  · rw [getI_congr (get_putFreq_other _ _ (freq_apart hk _ (by simp))), getI_putLeft]
  · rw [getI_putFreq, getI_congr (hput _ (by simp) _)]
  · rw [get_putFreq_other _ _ (freq_apart hk f (by revert f; simp)), hput f (by revert f; simp)]

/-- In HOLDOVER the rate drifts, and the word follows it and the temperature (R116). -/
theorem holdUpdate_drifts (s : State) (hk : s.core < 2) :
    s.holdUpdate.getI (F.TK_MODEL_Y_Y s.core) =
        clampI (-2 ^ 63) (2 ^ 63 - 1) (s.getI (F.TK_MODEL_Y_Y s.core) + roundDiv (s.getI (F.TK_MODEL_DD_DD s.core)) 16) ∧
      s.holdUpdate.getI F.TK_TS_FREQ_FREQ = freqSat (-(s.holdUpdate.getI (F.TK_MODEL_Y_Y s.core) + s.tempTerm)) ∧
      ∀ f ∈ [F.TK_STAT_STATE s.core, F.RD_STAT_ACTIVE_CORE], s.holdUpdate.get f = s.get f := by
  have ht := aside_shadowRate s hk
  unfold State.holdUpdate
  dsimp only
  generalize s.onShadow _ = t at ht ⊢
  have hrate : t.propagate s.core 0 1 = t.putSigned (F.TK_MODEL_Y_Y s.core)
      (s.getI (F.TK_MODEL_Y_Y s.core) + roundDiv (s.getI (F.TK_MODEL_DD_DD s.core)) 16) := by
    unfold State.propagate
    simp only [ht.readsI (f := F.TK_MODEL_Y_Y s.core) (by simp [lawFields]), ht.readsI (f := F.TK_MODEL_DD_DD s.core) (by simp [lawFields])]
    norm_num
  rw [hrate]
  have hy := getI_putSigned t (f := F.TK_MODEL_Y_Y s.core) rfl (s.getI (F.TK_MODEL_Y_Y s.core) + roundDiv (s.getI (F.TK_MODEL_DD_DD s.core)) 16)
  have hput : ∀ f ∈ [F.TK_STAT_STATE s.core, F.RD_STAT_ACTIVE_CORE, F.TK_CTL_TEMPCO_EN, F.TB_STAT_ACT, F.TB_THERM_OPEN, F.TB_THERM_EN, F.TB_THERM_AVG,
      F.TK_TEMPCO_C, F.TK_TEMPCO_A_REF], (t.putSigned (F.TK_MODEL_Y_Y s.core)
        (s.getI (F.TK_MODEL_Y_Y s.core) + roundDiv (s.getI (F.TK_MODEL_DD_DD s.core)) 16)).get f = s.get f := fun f hf =>
    (State.get_put_other t _ f _ (rate_apart hk f hf)).trans (ht.reads f (by revert f; simp [lawFields]))
  have htb : (t.putSigned (F.TK_MODEL_Y_Y s.core) (s.getI (F.TK_MODEL_Y_Y s.core) + roundDiv (s.getI (F.TK_MODEL_DD_DD s.core)) 16)).tb = s.tb := ht.tb
  generalize t.putSigned _ _ = u at hy hput htb ⊢
  have htemp : u.tempTerm = s.tempTerm := tempTerm_congr (fun f hf => hput f (List.mem_cons_of_mem _ (List.mem_cons_of_mem _ hf))) htb
  have hkeep : (u.putFreq (-(u.getI (F.TK_MODEL_Y_Y s.core) + u.tempTerm))).getI (F.TK_MODEL_Y_Y s.core) = u.getI (F.TK_MODEL_Y_Y s.core) :=
    getI_congr (get_putFreq_other _ _ (freq_apart hk _ (by simp)))
  refine ⟨hkeep.trans hy, ?_, fun f hf => ?_⟩
  · rw [hkeep, getI_putFreq, htemp]
  · rw [get_putFreq_other _ _ (freq_apart hk f (by revert f; simp)), hput f (by revert f; simp)]

end Sys2Proof.Machine
end

section
/-! PROOF. O8: schedule points, steps, missed updates and lockstep errors (R109, R110, R112, R114, R116, R119, R121, R125, R127). -/
namespace Sys2Proof.Machine

variable {s : State} {k : Nat}

/-! ## TK_UPDATE (R109) -/

/-- A time that software sets is decided as a step of the time word (R125). -/
def State.decideTime (s : State) (time : Nat) : State := { s with tk.setTime := none }.decideStep { delta := 0, setsTime := true, soft := some time }

/-- What follows the selector's part of a schedule point (R109, R125). -/
def State.performed (s : State) : State :=
  if !s.coreLive || s.tk.step.isSome then s
  else match s.tk.setTime with
    | none => s.runUpdate
    | some time => (s.decideTime time).runUpdate

theorem exec_tkUpdate (s : State) : exec .tkUpdate s = running s fun s => s.beginUpdate.performed := by
  have harm : exec .tkUpdate s = execTkUpdate s := rfl
  refine harm.trans ?_
  unfold execTkUpdate
  refine congrArg (running s) (funext fun s => ?_)
  dsimp only
  generalize s.beginUpdate = t
  rfl

theorem performed_points (s : State) : s.performed.tk.points = s.tk.points := by
  unfold State.performed
  split
  · rfl
  · split
    · exact points_runUpdate s
    · exact (points_runUpdate _).trans (points_decideStep _ _)

theorem performed_waits (h : s.coreLive = false ∨ s.tk.step.isSome = true) : s.performed = s := by
  refine if_pos ?_
  obtain h | h := h <;> simp [h]

theorem performed_runs (hl : s.coreLive = true) (hstep : s.tk.step = none) (hset : s.tk.setTime = none) : s.performed = s.runUpdate := by
  unfold State.performed
  rw [hl, hstep, hset]
  rfl

/-- An update of core k in MANUAL or HOLDOVER leads from s to t: the core's state, and what it steers (R110, R116, R121, R125). -/
structure Steered (s : State) (k : Nat) (t : State) : Prop where
  manual : s.get F.TK_CTL_MODE = 1 → t.get (F.TK_STAT_STATE k) = 4
  dips : s.get F.TK_CTL_MODE = 1 → s.on F.PM_STAT_DIP = true → t.getI (F.TK_SLEW_LEFT_LEFT k) = s.getI (F.TK_SLEW_LEFT_LEFT k) ∧
    t.getI F.TK_TS_FREQ_FREQ = freqSat (s.getI F.TK_MAN_FREQ_FREQ)
  slews : s.get F.TK_CTL_MODE = 1 → s.on F.PM_STAT_DIP = false → let left := s.getI (F.TK_SLEW_LEFT_LEFT k)
    let slew := clampI (-s.slewMax) s.slewMax (left * 2 ^ 20)
    t.getI (F.TK_SLEW_LEFT_LEFT k) = clampI (-2 ^ 63) (2 ^ 63 - 1) (left - roundDiv slew (2 ^ 20)) ∧
    t.getI F.TK_TS_FREQ_FREQ = freqSat (s.getI F.TK_MAN_FREQ_FREQ - slew)
  holds : s.get F.TK_CTL_MODE ≠ 1 → s.on F.RS_STAT_HOLD = true → t.get (F.TK_STAT_STATE k) = 3 ∧
    t.getI (F.TK_MODEL_Y_Y k) = clampI (-2 ^ 63) (2 ^ 63 - 1) (s.getI (F.TK_MODEL_Y_Y k) + roundDiv (s.getI (F.TK_MODEL_DD_DD k)) 16) ∧
    t.getI F.TK_TS_FREQ_FREQ = freqSat (-(t.getI (F.TK_MODEL_Y_Y k) + s.tempTerm))

theorem Steered.settle {t : State} (h : Steered s k t) : Steered s k t.settle := by
  obtain ⟨hmanual, hdips, hslews, hholds⟩ := h
  constructor <;> simpa only [State.settle_get, State.settle_getI]

/-- What follows the law leaves what it steered. -/
theorem aside_finishUpdate (s : State) (hk : s.core < 2) : Aside s.core s s.afterUpdate.endUpdate := by
  have hafter := aside_afterUpdate (k := s.core) s
  have hend := aside_endUpdate s.afterUpdate (hafter.core ▸ hk)
  rw [hafter.core] at hend
  exact hafter.trans hend

/-- What follows the law of core s.core, which left that core the active one, leaves what it steered. -/
theorem aside_finish (hk : s.core < 2) {t : State} (ht : t.core = s.core) : Aside s.core t t.afterUpdate.endUpdate :=
  ht ▸ aside_finishUpdate t (ht ▸ hk)

theorem readied_slewMax (s : State) (hk : s.core < 2) : s.readied.slewMax = s.slewMax := by
  unfold State.slewMax
  rw [readied_reads s hk (by simp [lawFields])]

theorem readied_tempTerm (s : State) (hk : s.core < 2) : s.readied.tempTerm = s.tempTerm :=
  tempTerm_congr (fun f hf => readied_reads s hk (by revert f; simp [lawFields])) (aside_readied s hk).tb

theorem readied_on (s : State) (hk : s.core < 2) {f : Fld} (hf : f ∈ (lawFields s.core).tail) : s.readied.on f = s.on f := by
  unfold State.on
  rw [readied_reads s hk hf]

theorem readied_getI (s : State) (hk : s.core < 2) {f : Fld} (hf : f ∈ (lawFields s.core).tail) : s.readied.getI f = s.getI f :=
  getI_congr (readied_reads s hk hf)

/-- An update in MANUAL, in a dip episode. -/
theorem runUpdate_dips (s : State) (hk : s.core < 2) (hmig : s.tb.migStep ≠ 4) (hmode : s.get F.TK_CTL_MODE = 1)
    (hdip : s.on F.PM_STAT_DIP = true) : s.runUpdate.get (F.TK_STAT_STATE s.core) = 4 ∧
      s.runUpdate.getI (F.TK_SLEW_LEFT_LEFT s.core) = s.getI (F.TK_SLEW_LEFT_LEFT s.core) ∧
      s.runUpdate.getI F.TK_TS_FREQ_FREQ = freqSat (s.getI F.TK_MAN_FREQ_FREQ) := by
  have hwanted : s.wantedState = 4 := if_pos hmode
  have hcore := readied_core s hk
  obtain ⟨hfreq, hrest⟩ := manualUpdate_dips s.readied (hcore ▸ hk) ((readied_on s hk (by simp [lawFields])).trans hdip)
  rw [hcore] at hrest
  have hfinish := aside_finish hk (t := s.readied.manualUpdate) ((hrest _ (by simp)).trans hcore)
  rw [runUpdate_manual s hk hmig hwanted]
  refine ⟨?_, ?_, ?_⟩
  · rw [hfinish.reads _ (by simp [lawFields]), hrest _ (by simp), readied_state s hk, hwanted]
  · rw [hfinish.readsI (by simp [lawFields]), getI_congr (hrest _ (by simp)), readied_getI s hk (by simp [lawFields])]
  · rw [hfinish.readsI (by simp [lawFields]), hfreq, readied_getI s hk (by simp [lawFields])]

/-- An update in MANUAL, outside a dip episode. -/
theorem runUpdate_slews (s : State) (hk : s.core < 2) (hmig : s.tb.migStep ≠ 4) (hmode : s.get F.TK_CTL_MODE = 1)
    (hdip : s.on F.PM_STAT_DIP = false) :
    let left := s.getI (F.TK_SLEW_LEFT_LEFT s.core)
    let slew := clampI (-s.slewMax) s.slewMax (left * 2 ^ 20)
    s.runUpdate.get (F.TK_STAT_STATE s.core) = 4 ∧
      s.runUpdate.getI (F.TK_SLEW_LEFT_LEFT s.core) = clampI (-2 ^ 63) (2 ^ 63 - 1) (left - roundDiv slew (2 ^ 20)) ∧
      s.runUpdate.getI F.TK_TS_FREQ_FREQ = freqSat (s.getI F.TK_MAN_FREQ_FREQ - slew) := by
  have hwanted : s.wantedState = 4 := if_pos hmode
  have hcore := readied_core s hk
  obtain ⟨hleft, hfreq, hrest⟩ := manualUpdate_slews s.readied (hcore ▸ hk) ((readied_on s hk (by simp [lawFields])).trans hdip)
  rw [hcore, readied_slewMax s hk, readied_getI s hk (f := F.TK_SLEW_LEFT_LEFT s.core) (by simp [lawFields])] at hleft hfreq
  rw [hcore] at hrest
  have hfinish := aside_finish hk (t := s.readied.manualUpdate) ((hrest _ (by simp)).trans hcore)
  rw [runUpdate_manual s hk hmig hwanted]
  refine ⟨?_, ?_, ?_⟩
  · rw [hfinish.reads _ (by simp [lawFields]), hrest _ (by simp), readied_state s hk, hwanted]
  · rw [hfinish.readsI (by simp [lawFields]), hleft]
  · rw [hfinish.readsI (by simp [lawFields]), hfreq, readied_getI s hk (by simp [lawFields])]

/-- An update without an active reference. -/
theorem runUpdate_holds (s : State) (hk : s.core < 2) (hmig : s.tb.migStep ≠ 4) (hmode : s.get F.TK_CTL_MODE ≠ 1)
    (hhold : s.on F.RS_STAT_HOLD = true) : s.runUpdate.get (F.TK_STAT_STATE s.core) = 3 ∧
      s.runUpdate.getI (F.TK_MODEL_Y_Y s.core) =
        clampI (-2 ^ 63) (2 ^ 63 - 1) (s.getI (F.TK_MODEL_Y_Y s.core) + roundDiv (s.getI (F.TK_MODEL_DD_DD s.core)) 16) ∧
      s.runUpdate.getI F.TK_TS_FREQ_FREQ = freqSat (-(s.runUpdate.getI (F.TK_MODEL_Y_Y s.core) + s.tempTerm)) := by
  have hwanted : s.wantedState = 3 := (if_neg hmode).trans (if_pos hhold)
  have hcore := readied_core s hk
  obtain ⟨hy, hfreq, hrest⟩ := holdUpdate_drifts s.readied (hcore ▸ hk)
  rw [hcore] at hy hfreq hrest
  have hfinish := aside_finish hk (t := s.readied.holdUpdate) ((hrest _ (by simp)).trans hcore)
  have hrate := hfinish.readsI (f := F.TK_MODEL_Y_Y s.core) (by simp [lawFields])
  rw [runUpdate_hold s hk hmig hwanted]
  refine ⟨?_, ?_, ?_⟩
  · rw [hfinish.reads _ (by simp [lawFields]), hrest _ (by simp), readied_state s hk, hwanted]
  · rw [hrate, hy, readied_getI s hk (by simp [lawFields]), readied_getI s hk (by simp [lawFields])]
  · rw [hfinish.readsI (by simp [lawFields]), hfreq, hrate, readied_tempTerm s hk]

theorem runUpdate_steers (s : State) (hk : s.core < 2) (hmig : s.tb.migStep ≠ 4) : Steered s s.core s.runUpdate where
  manual hmode := by
    cases hdip : s.on F.PM_STAT_DIP
    · exact (runUpdate_slews s hk hmig hmode hdip).1
    · exact (runUpdate_dips s hk hmig hmode hdip).1
  dips hmode hdip := (runUpdate_dips s hk hmig hmode hdip).2
  slews hmode hdip := (runUpdate_slews s hk hmig hmode hdip).2
  holds := runUpdate_holds s hk hmig

/-- A schedule point: it counts, a core or a step that waits leaves the rest, and the law steers as its mode asks. -/
theorem does_tkUpdate (hp : s.power = .run) : Does .tkUpdate s fun t => t.tk.points = s.tk.points + 1 ∧
    (s.beginUpdate.coreLive = false ∨ s.beginUpdate.tk.step.isSome = true → Frame s.beginUpdate t []) ∧
    (s.beginUpdate.core < 2 → s.beginUpdate.coreLive = true → s.beginUpdate.tk.step = none → s.beginUpdate.tk.setTime = none →
      s.beginUpdate.tb.migStep ≠ 4 → Steered s.beginUpdate s.beginUpdate.core t) := by
  refine does_running (exec_tkUpdate s) hp ?_
  have hpoints := beginUpdate_points s
  generalize s.beginUpdate = u at hpoints ⊢
  refine ⟨?_, fun hwait => ?_, fun hk hlive hstep hset hmig => ?_⟩
  · rw [State.settle_tk, performed_points, hpoints]
  · rw [performed_waits hwait]
    exact Frame.settle u []
  · rw [performed_runs hlive hstep hset]
    exact (runUpdate_steers u hk hmig).settle

/-! ## UPDATE_MISS (R109) -/

theorem UpdateMissed.settle {t : State} (h : UpdateMissed s k t) : UpdateMissed s k t.settle := by
  obtain ⟨hfreq, hflag, hcount, hstays, hswitches⟩ := h
  refine ⟨by simpa, by simpa, by simpa, fun hoff => ?_, by simpa⟩
  obtain ⟨hframe, hlogs⟩ := hstays hoff
  exact ⟨hframe.settled, hlogs.ofJl (State.settle_jl t)⟩

/-- A missed update: its schedule point counts, a core that does not run leaves the rest, and that of a live core is counted and reported. -/
theorem does_updateMiss (hp : s.power = .run) : Does .updateMiss s fun t => t.tk.points = s.tk.points + 1 ∧
    (s.beginUpdate.coreLive = false → Frame s.beginUpdate t []) ∧
    (s.beginUpdate.core < 2 → s.beginUpdate.coreLive = true → UpdateMissed s.beginUpdate s.beginUpdate.core t) := by
  refine does_running (exec_updateMiss s) hp ?_
  have hpoints := beginUpdate_points s
  generalize s.beginUpdate = u at hpoints ⊢
  cases hlive : u.coreLive
  · refine ⟨?_, fun _ => Frame.settle u [], fun _ h => absurd h (by decide)⟩
    exact (congrArg TkPart.points (State.settle_tk u)).trans hpoints
  · refine ⟨?_, fun h => absurd h (by decide), fun hk _ => (updateMissed rfl hk hlive).settle⟩
    exact (congrArg TkPart.points (State.settle_tk _)).trans ((missedUpdate_points u).trans hpoints)

/-! ## The obligation -/

/-- Settles O8: the four commands in turn; an update's law is followed through the core's state, the slew, the rate and the frequency word. -/
theorem updatesStepsAndLockstepErrors : Obligations.UpdatesStepsAndLockstepErrors := by
  unfold Obligations.UpdatesStepsAndLockstepErrors
  refine ⟨fun s hp => ?_, fun s hp hk => ⟨fun p hs hc => ?_, does_stepApply_waits hp⟩, fun s hp => ?_, fun s hp hk => does_lockstepMismatch hp hk⟩
  · obtain ⟨t, hexec, hpoints, hwaits, hlaw⟩ := does_tkUpdate hp
    refine ⟨t, hexec, hpoints, hwaits, fun hk hlive hstep hset hmig => ?_⟩
    obtain ⟨hmanual, hdips, hslews, hholds⟩ := hlaw hk hlive hstep hset hmig
    exact ⟨fun hmode => ⟨hmanual hmode, hdips hmode, hslews hmode⟩, hholds⟩
  · obtain ⟨t, hexec, hends, hgrants, hsteps, hsets⟩ := does_stepApply hp hk hs hc
    exact ⟨t, hexec, hends, hgrants, hsteps, hsets⟩
  · obtain ⟨t, hexec, hpoints, hwaits, hmissed⟩ := does_updateMiss hp
    refine ⟨t, hexec, hpoints, hwaits, fun hk hlive => ?_⟩
    obtain ⟨hfreq, hflag, hcount, hstays, hswitches⟩ := hmissed hk hlive
    exact ⟨hfreq, hflag, hcount, hstays, hswitches⟩

end Sys2Proof.Machine
end

section
/-! PROOF. The GNSS baseband (chapter 07): its channel pairs, its starts and its stops, and what they leave alone (R130, R131, R138, R146 to R148). -/
namespace Sys2Proof.Machine

variable {s t u : State} {fs : List Fld}

/-- The same baseband on both sides of a frame. -/
theorem Frame.withGn (h : Frame s t fs) (gn : GnPart) : Frame { s with gn := gn } { t with gn := gn } fs :=
  ⟨h.1, congrArg (fun x : State => { x with gn := gn }) h.2⟩

theorem Frame.gn (h : Frame s t fs) : t.gn = s.gn := by rw [h.2]

/-- The same change of the baseband on both sides of a frame. -/
theorem Frame.mapGn (h : Frame s t fs) (g : GnPart → GnPart) : Frame { s with gn := g s.gn } { t with gn := g t.gn } fs := by
  rw [h.gn]
  exact h.withGn _

/-! ## Repetition -/

/-- What one turn brings about, where an invariant of all turns holds, and what no later turn takes away, holds after all. -/
theorem forAll_reaches {α : Type} {I Q : State → Prop} {f : State → α → State} {x : α} (hinv : ∀ t y, I t → I (f t y))
    (hx : ∀ t, I t → Q (f t x)) (hkeep : ∀ t y, Q t → Q (f t y)) (l : List α) (hl : x ∈ l) (h : I s) : Q (s.forAll l f) := by
  induction l generalizing s with
  | nil => cases hl
  | cons y l ih =>
    obtain rfl | hl := List.mem_cons.mp hl
    · exact forAll_induct (P := Q) (s := f s x) (fun t y _ => hkeep t y) (hx s h)
    · exact ih hl (hinv s y h)

/-! ## Channel pairs -/

/-- The fields of channel pair p. -/
def pairRegs (p : Nat) : List Fld :=
  [F.GN_CH_STAT_SYS p, F.GN_CH_STAT_PRN p, F.GN_CH_STAT_STATE p, F.GN_CH_STAT_B_OK p, F.GN_CH_STAT_CN0_A p, F.GN_CH_STAT_CN0_B p,
    F.GN_CH_STAT_ELEV p, F.GN_CH_STAT_RESID p]

/-- The fields of all pairs. -/
def pairFields : List Fld := (List.range 128).flatMap pairRegs

theorem pair_mem {p : Nat} (hp : p < 128) {f : Fld} (hf : f ∈ pairRegs p) : f.key ∈ pairFields.map Fld.key :=
  List.mem_map_of_mem (List.mem_flatMap.mpr ⟨p, List.mem_range.mpr hp, hf⟩)

/-- The pairs' registers lie behind all others of the baseband. -/
theorem key_pairRegs (p : Nat) : ∀ f ∈ pairRegs p, 0x081000 * 64 ≤ f.key ∧ f.key < (0x081000 + p * 0x10) * 64 + 64 := by
  simp only [pairRegs, List.forall_mem_cons, List.not_mem_nil, false_implies, implies_true, and_true, Fld.key, F.GN_CH_STAT_SYS,
    F.GN_CH_STAT_PRN, F.GN_CH_STAT_STATE, F.GN_CH_STAT_B_OK, F.GN_CH_STAT_CN0_A, F.GN_CH_STAT_CN0_B, F.GN_CH_STAT_ELEV, F.GN_CH_STAT_RESID]
  omega

theorem key_pairFields : ∀ k ∈ pairFields.map Fld.key, 0x081000 * 64 ≤ k ∧ k < 0x081800 * 64 := by
  intro k hk
  obtain ⟨f, hf, rfl⟩ := List.mem_map.mp hk
  obtain ⟨p, hp, hf⟩ := List.mem_flatMap.mp hf
  have := List.mem_range.mp hp
  obtain ⟨hlo, hhi⟩ := key_pairRegs p f hf
  exact ⟨hlo, by omega⟩

theorem tallied_pair {p : Nat} (hp : p < 128) {f : Fld} (hf : f ∈ pairRegs p) : f.tallied = false :=
  tallied_of_window (by have := key_pairFields f.key (pair_mem hp hf); omega)

/-- Pair p goes idle. -/
def State.idlePair (s : State) (p : Nat) : State := (s.put (F.GN_CH_STAT_STATE p) 0).put (F.GN_CH_STAT_B_OK p) 0

theorem keeps_idlePair (s : State) {p : Nat} (hp : p < 128) : Keeps s (s.idlePair p) pairFields :=
  ((Keeps.refl s _).put _ _ (pair_mem hp (by simp [pairRegs]))).put _ _ (pair_mem hp (by simp [pairRegs]))

theorem get_idlePair_state (s : State) (p q : Nat) :
    (s.idlePair q).get (F.GN_CH_STAT_STATE p) = if p = q then 0 else s.get (F.GN_CH_STAT_STATE p) := by
  have hb : (F.GN_CH_STAT_STATE p).key ≠ (F.GN_CH_STAT_B_OK q).key := by
    simp only [Fld.key, F.GN_CH_STAT_STATE, F.GN_CH_STAT_B_OK]
    omega
  unfold State.idlePair
  rw [State.get_put_other _ _ _ _ hb]
  split
  · next h => rw [h, State.get_put_same]; rfl
  · next h =>
    refine State.get_put_other _ _ _ _ ?_
    simp only [Fld.key, F.GN_CH_STAT_STATE]
    omega

theorem get_idlePair_sys (s : State) (p q : Nat) : (s.idlePair q).get (F.GN_CH_STAT_SYS p) = s.get (F.GN_CH_STAT_SYS p) ∧
    (s.idlePair q).get F.GN_CFG_SYS = s.get F.GN_CFG_SYS := by
  unfold State.idlePair
  constructor <;> rw [State.get_put_other, State.get_put_other] <;>
  · simp only [Fld.key, F.GN_CH_STAT_SYS, F.GN_CH_STAT_STATE, F.GN_CH_STAT_B_OK, F.GN_CFG_SYS]
    omega

/-- The channels go idle: every pair's state is 0, and the searches end. -/
theorem idleChannels_idle (s : State) : Keeps s s.idleChannels pairFields ∧ s.idleChannels.gn = { s.gn with search := [] } ∧
    ∀ p < 128, s.idleChannels.get (F.GN_CH_STAT_STATE p) = 0 := by
  refine ⟨?_, ?_, fun p hp => ?_⟩
  · exact ((Keeps.refl s _).next (u := { s with gn.search := [] }) rfl).forAll _ _ fun t q hq => keeps_idlePair t (List.mem_range.mp hq)
  · exact forAll_inv State.gn (List.range 128) State.idlePair (fun _ _ => rfl) { s with gn.search := [] }
  · refine forAll_reaches (I := fun _ => True) (f := State.idlePair) (Q := fun t => t.get (F.GN_CH_STAT_STATE p) = 0) (fun _ _ _ => trivial)
      (fun t _ => ?_) (fun t q ht => ?_) _ (List.mem_range.mpr hp) trivial
    · simp [get_idlePair_state]
    · simp [get_idlePair_state, ht]

/-- One turn of `idleSystems`: a pair that is idle already or whose system is enabled is left as it is (R131). -/
def State.idleUnlessOn (s : State) (p : Nat) : State :=
  if s.get (F.GN_CH_STAT_STATE p) = 0 ∨ s.get F.GN_CFG_SYS / 2 ^ s.get (F.GN_CH_STAT_SYS p) % 2 = 1 then s
  else { s.idlePair p with gn.search := s.gn.search.filter (· != p) }

theorem idleUnlessOn_cases (s : State) (p : Nat) :
    s.idleUnlessOn p = s ∧ (s.get (F.GN_CH_STAT_STATE p) = 0 ∨ s.get F.GN_CFG_SYS / 2 ^ s.get (F.GN_CH_STAT_SYS p) % 2 = 1) ∨
      ∃ l, s.idleUnlessOn p = { s.idlePair p with gn.search := l } := by
  unfold State.idleUnlessOn
  split
  · next h => exact .inl ⟨rfl, h⟩
  · exact .inr ⟨_, rfl⟩

theorem keeps_idleUnlessOn (s : State) {p : Nat} (hp : p < 128) : Keeps s (s.idleUnlessOn p) pairFields := by
  obtain ⟨h, -⟩ | ⟨l, h⟩ := idleUnlessOn_cases s p
  · rw [h]
    exact Keeps.refl s _
  · rw [h]
    exact (keeps_idlePair s hp).next rfl

/-- What is known of pair p while the others take their turns: the systems stay, and p is as it was or idle. -/
def PairSame (p : Nat) (s t : State) : Prop :=
  t.get F.GN_CFG_SYS = s.get F.GN_CFG_SYS ∧ t.get (F.GN_CH_STAT_SYS p) = s.get (F.GN_CH_STAT_SYS p) ∧
    (t.get (F.GN_CH_STAT_STATE p) = 0 ∨ t.get (F.GN_CH_STAT_STATE p) = s.get (F.GN_CH_STAT_STATE p))

theorem pairSame_idleUnlessOn (s : State) (p q : Nat) : PairSame p s (s.idleUnlessOn q) := by
  obtain ⟨h, -⟩ | ⟨l, h⟩ := idleUnlessOn_cases s q
  · rw [h]
    exact ⟨rfl, rfl, .inr rfl⟩
  · have hc (f : Fld) : (s.idleUnlessOn q).get f = (s.idlePair q).get f := by rw [h]; rfl
    obtain ⟨hsys, hcfg⟩ := get_idlePair_sys s p q
    refine ⟨(hc _).trans hcfg, (hc _).trans hsys, ?_⟩
    rw [hc, get_idlePair_state]
    split
    · exact .inl rfl
    · exact .inr rfl

theorem PairSame.trans {p : Nat} (h : PairSame p s t) (g : PairSame p t u) : PairSame p s u := by
  obtain ⟨hcfg, hsys, hstate⟩ := h
  obtain ⟨hcfg', hsys', hstate'⟩ := g
  refine ⟨hcfg'.trans hcfg, hsys'.trans hsys, ?_⟩
  obtain h0 | h0 := hstate'
  · exact .inl h0
  · rwa [h0]

/-- After the pairs of disabled systems went idle, a pair that is not idle is as it was, and its system is enabled (R131). -/
theorem idleSystems_pair (s : State) {p : Nat} (hp : p < 128) : s.idleSystems.get (F.GN_CH_STAT_STATE p) = 0 ∨
    s.idleSystems.get (F.GN_CH_STAT_STATE p) = s.get (F.GN_CH_STAT_STATE p) ∧
      s.get F.GN_CFG_SYS / 2 ^ s.get (F.GN_CH_STAT_SYS p) % 2 = 1 := by
  refine forAll_reaches (I := PairSame p s) (f := State.idleUnlessOn) (x := p)
    (Q := fun t => t.get (F.GN_CH_STAT_STATE p) = 0 ∨ t.get (F.GN_CH_STAT_STATE p) = s.get (F.GN_CH_STAT_STATE p) ∧
      s.get F.GN_CFG_SYS / 2 ^ s.get (F.GN_CH_STAT_SYS p) % 2 = 1)
    (fun t q h => h.trans (pairSame_idleUnlessOn t p q)) (fun t h => ?_) (fun t q h => ?_) _ (List.mem_range.mpr hp) ⟨rfl, rfl, .inr rfl⟩
  · obtain ⟨hcfg, hsys, hstate⟩ := h
    obtain ⟨hc, h0 | hon⟩ | ⟨l, hc⟩ := idleUnlessOn_cases t p
    · rw [hc]
      exact .inl h0
    · rw [hc]
      rw [hcfg, hsys] at hon
      exact hstate.imp_right fun h => ⟨h, hon⟩
    · left
      rw [hc]
      exact (get_idlePair_state t p p).trans (if_pos rfl)
  · obtain ⟨-, -, h0 | hsame⟩ := pairSame_idleUnlessOn t p q
    · exact .inl h0
    · rwa [hsame]

theorem keeps_idleSystems (s : State) : Keeps s s.idleSystems pairFields :=
  (Keeps.refl s _).forAll _ _ fun t _ hq => keeps_idleUnlessOn t (List.mem_range.mp hq)

/-! ## Starts and stops -/

/-- What a start of the channels writes. -/
def startFields : List Fld := [F.GN_STAT_STATE, F.GN_POS_STAT_ELAPSED, F.GN_POS_STAT_SURVEY_UNC, F.GN_EVT_FN_BAD]

/-- What starts and stops of the baseband write. -/
def runFields : List Fld := F.GN_FE_SPI_BUSY :: F.GN_STAT_BANDS_OK :: startFields ++ pairFields

theorem mem_runFields {k : Nat} (h : k ∈ pairFields.map Fld.key ∨ k ∈ (F.GN_FE_SPI_BUSY :: F.GN_STAT_BANDS_OK :: startFields).map Fld.key) :
    k ∈ runFields.map Fld.key := by
  rw [runFields, List.map_append, List.mem_append]
  exact h.symm

theorem keeps_startSurvey (s : State) : Keeps s s.startSurvey startFields :=
  (((Keeps.refl s _).put F.GN_POS_STAT_ELAPSED 0 (by decide)).put F.GN_POS_STAT_SURVEY_UNC 0 (by decide)).next rfl

theorem keeps_startKind (s : State) : Keeps s s.startKind.1 startFields := by
  obtain h | h := startKind_eq s
  · rw [h]
    exact Keeps.refl s _
  · rw [h]
    exact (Keeps.refl s _).event F.GN_EVT_FN_BAD _ _ _ (by decide)

theorem keeps_tryStart (s : State) : Keeps s s.tryStart startFields := by
  obtain h | ⟨-, b, k, h⟩ := tryStart_eq s
  · rw [h]
    exact Keeps.refl s _
  · rw [h]
    exact (((keeps_startKind s).when b _ fun _ => keeps_startSurvey _).put F.GN_STAT_STATE 1 (by decide)).next rfl

theorem keeps_gnStart (s : State) : Keeps s s.gnStart startFields :=
  (((Keeps.refl s _).put F.GN_STAT_STATE _ (by decide)).next rfl).trans (keeps_tryStart _)

/-- The front-end scripts send words alone. -/
theorem runScript_runs (s : State) : Keeps s s.runScript [F.GN_FE_SPI_BUSY] ∧ s.runScript.get F.GN_FE_SPI_BUSY = 1 ∧
    s.runScript.gn = { s.gn with script := true } := by
  unfold State.runScript
  dsimp only
  generalize hl : ((s.df.image.map Image.scripts).getD []).take 2 = l
  generalize hu : s.forAll l.zipIdx (fun t e => t.forAll (e.1.take 64) fun t w => t.emit (.gnSpi e.2 32 w)) = u
  have hsent : u.cells = s.cells ∧ u.gn = s.gn := by
    rw [← hu]
    refine forAll_induct (P := fun t => t.cells = s.cells ∧ t.gn = s.gn) (fun t e _ ht => ?_) ⟨rfl, rfl⟩
    exact forAll_induct (P := fun t => t.cells = s.cells ∧ t.gn = s.gn) (fun _ _ _ h => h) ht
  obtain ⟨hcells, hgn⟩ := hsent
  refine ⟨(((Keeps.ofCells hcells).put F.GN_FE_SPI_BUSY 1 (by simp)).next rfl), State.get_put_same u F.GN_FE_SPI_BUSY 1, ?_⟩
  rw [← hgn]
  rfl

/-- A stopped baseband is off, no band is in use, no start is due, and every pair is idle (R148, R149). -/
theorem gnStop_stops (s : State) : Keeps s s.gnStop (F.GN_STAT_STATE :: F.GN_STAT_BANDS_OK :: pairFields) ∧ s.gnStop.get F.GN_STAT_STATE = 0 ∧
    s.gnStop.get F.GN_STAT_BANDS_OK = 0 ∧ s.gnStop.gn.startDue = false ∧ s.gnStop.gn.script = s.gn.script ∧
    ∀ p < 128, s.gnStop.get (F.GN_CH_STAT_STATE p) = 0 := by
  unfold State.gnStop State.dropWindow State.setChan
  generalize hu : (s.put F.GN_STAT_STATE 0).put F.GN_STAT_BANDS_OK 0 = u
  obtain ⟨hkeep, hgn, hidle⟩ := idleChannels_idle u
  generalize u.idleChannels = w at hkeep hgn hidle ⊢
  dsimp only
  have hback (f : Fld) (hf : f.key < 0x081000 * 64) : w.get f = u.get f :=
    hkeep.get f (fun hm => absurd (key_pairFields _ hm).1 (by omega)) (tallied_of_window (by omega))
  refine ⟨?_, ?_, ?_, rfl, ?_, hidle⟩
  · refine Keeps.next (t := w) (Keeps.trans ?_ (hkeep.mono fun k hk => List.mem_cons_of_mem _ (List.mem_cons_of_mem _ hk))) rfl
    rw [← hu]
    exact ((Keeps.refl s _).put _ _ (by simp)).put _ _ (by simp)
  · refine (hback F.GN_STAT_STATE (by decide)).trans ?_
    rw [← hu, State.get_put_other _ _ _ _ (by decide), State.get_put_same]
    rfl
  · refine (hback F.GN_STAT_BANDS_OK (by decide)).trans ?_
    rw [← hu, State.get_put_same]
    rfl
  · rw [hgn, ← hu]
    rfl

end Sys2Proof.Machine
end

section
/-! PROOF. GN_CFG and the front ends' SPI (O39; R130, R131, R146, R148). -/
namespace Sys2Proof.Machine

variable {s t u : State} {path : Path} {v : Word}

/-! ## GN_CFG -/

/-- The fields of GN_CFG lie before all that starts and stops write. -/
theorem gnCfg_apart {f : Fld} (hf : f ∈ fieldsAt F.GN_CFG_EN.off) : f.key ∉ runFields.map Fld.key ∧ f.tallied = false := by
  have hoff : f.off = 0x080000 := off_of_mem_fieldsAt hf
  obtain ⟨hlo, -⟩ := sound_of_mem_fieldsAt hf
  have hkey : f.key = 0x080000 * 64 + f.lo := by rw [Fld.key, hoff]
  refine ⟨fun hm => ?_, tallied_of_window (by omega)⟩
  rw [runFields, List.map_append, List.mem_append] at hm
  obtain hm | hm := hm
  · have hge : ∀ k ∈ (F.GN_FE_SPI_BUSY :: F.GN_STAT_BANDS_OK :: startFields).map Fld.key, 0x080018 * 64 ≤ k := by decide
    exact absurd (hge _ hm) (by omega)
  · exact absurd (key_pairFields _ hm).1 (by omega)

/-- A write of GN_CFG loads its fields; then a start, a stop or neither follows (R130, R146, R148). -/
theorem writeGnCfg_cases (s : State) (v : Word) :
    F.GN_CFG_EN.ofWord v = 1 ∧ s.on F.GN_CFG_EN = false ∧
        s.writeGnCfg v = (s.putWord (fieldsAt F.GN_CFG_EN.off) v.toNat).idleSystems.runScript.gnStart ∨
      (F.GN_CFG_EN.ofWord v = 0 ∧ s.on F.GN_CFG_EN = true ∧ s.gn.script = false) ∧
        s.writeGnCfg v = (s.putWord (fieldsAt F.GN_CFG_EN.off) v.toNat).gnStop.idleSystems ∨
      ¬(F.GN_CFG_EN.ofWord v = 1 ∧ s.on F.GN_CFG_EN = false) ∧
        ¬(F.GN_CFG_EN.ofWord v = 0 ∧ s.on F.GN_CFG_EN = true ∧ s.gn.script = false) ∧
        s.writeGnCfg v = (s.putWord (fieldsAt F.GN_CFG_EN.off) v.toNat).idleSystems := by
  have hen := putWord_get (s := s) F.GN_CFG_EN.off v (f := F.GN_CFG_EN) (by decide +kernel)
  have hbit : F.GN_CFG_EN.ofWord v < 2 := Nat.mod_lt _ (by decide)
  unfold State.writeGnCfg
  generalize s.putWord (fieldsAt F.GN_CFG_EN.off) v.toNat = u at hen ⊢
  have hon : u.on F.GN_CFG_EN = decide (F.GN_CFG_EN.ofWord v = 1) := by
    unfold State.on
    rw [hen]
    interval_cases F.GN_CFG_EN.ofWord v <;> rfl
  dsimp only
  rw [hon]
  interval_cases F.GN_CFG_EN.ofWord v <;> cases s.on F.GN_CFG_EN <;> cases s.gn.script <;> simp [State.when]

theorem get_putWord_pair (s : State) {p : Nat} (hp : p < 128) {f : Fld} (hf : f ∈ pairRegs p) :
    (s.putWord (fieldsAt F.GN_CFG_EN.off) v.toNat).get f = s.get f := by
  refine (Frame.putWord (fs := fieldsAt F.GN_CFG_EN.off) s _ fun _ h => List.mem_map_of_mem h).get f (fun hm => ?_) (tallied_pair hp hf)
  obtain ⟨g, hg, hk⟩ := List.mem_map.mp hm
  have hoff : g.off = 0x080000 := off_of_mem_fieldsAt hg
  obtain ⟨hlo, -⟩ := sound_of_mem_fieldsAt hg
  have hkey : g.key = 0x080000 * 64 + g.lo := by rw [Fld.key, hoff]
  have hge := (key_pairRegs p f hf).1
  omega

/-- A pair stays only where its system is enabled by the word written (R131). -/
def PairKept (s : State) (v : Word) (t : State) (p : Nat) : Prop :=
  t.get (F.GN_CH_STAT_STATE p) = 0 ∨
    t.get (F.GN_CH_STAT_STATE p) = s.get (F.GN_CH_STAT_STATE p) ∧ F.GN_CFG_SYS.ofWord v / 2 ^ s.get (F.GN_CH_STAT_SYS p) % 2 = 1

theorem pairKept_idleSystems {p : Nat} (hp : p < 128) : PairKept s v (s.putWord (fieldsAt F.GN_CFG_EN.off) v.toNat).idleSystems p := by
  have h := idleSystems_pair (s.putWord (fieldsAt F.GN_CFG_EN.off) v.toNat) hp
  rwa [putWord_get F.GN_CFG_EN.off v (f := F.GN_CFG_SYS) (by decide +kernel), get_putWord_pair s hp (by simp [pairRegs]),
    get_putWord_pair s hp (by simp [pairRegs])] at h

theorem Keeps.pairKept {fs : List Fld} (h : Keeps t u fs) {p : Nat} (hp : p < 128) (hfs : ∀ k ∈ fs.map Fld.key, k < 0x081000 * 64)
    (ht : PairKept s v t p) : PairKept s v u p := by
  unfold PairKept
  rwa [h.get (F.GN_CH_STAT_STATE p) (fun hm => absurd (hfs _ hm) (Nat.not_lt.mpr (key_pairRegs p _ (by simp [pairRegs])).1))
    (tallied_pair hp (by simp [pairRegs]))]

/-- The front-end scripts run, and the channels start, or wait in Flake mode (R130, R146). -/
theorem scriptStart_runs (s : State) : Keeps s s.runScript.gnStart (F.GN_FE_SPI_BUSY :: startFields) ∧
    s.runScript.gnStart.get F.GN_FE_SPI_BUSY = 1 ∧ s.runScript.gnStart.gn.script = true ∧
    s.runScript.gnStart.get F.GN_STAT_STATE = if s.gn.flake then 4 else 1 := by
  obtain ⟨hkeep, hbusy, hgn⟩ := runScript_runs s
  generalize s.runScript = u at hkeep hbusy hgn ⊢
  obtain ⟨hstate, hscript, -⟩ := gnStart_shows u
  have hstart := keeps_gnStart u
  refine ⟨(hkeep.mono (by simp)).trans (hstart.mono fun k hk => List.mem_cons_of_mem _ hk), ?_, ?_, ?_⟩
  · exact (hstart.get _ (by decide) (by decide)).trans hbusy
  · rw [hscript, hgn]
  · rw [hstate, hgn]

theorem idleSystems_stays {p : Nat} (hp : p < 128) (h : s.get (F.GN_CH_STAT_STATE p) = 0) : s.idleSystems.get (F.GN_CH_STAT_STATE p) = 0 := by
  obtain h0 | ⟨h0, -⟩ := idleSystems_pair s hp
  · exact h0
  · rw [h0, h]

/-- Of the hidden state only the searches follow the systems. -/
theorem idleSystems_gn (s : State) : ∃ l, s.idleSystems.gn = { s.gn with search := l } := by
  refine forAll_induct (P := fun t => ∃ l, t.gn = { s.gn with search := l }) (f := State.idleUnlessOn) (fun t p _ ht => ?_) ⟨s.gn.search, rfl⟩
  obtain ⟨l, ht⟩ := ht
  obtain ⟨h, -⟩ | ⟨m, h⟩ := idleUnlessOn_cases t p
  · exact ⟨l, by rw [h, ht]⟩
  · exact ⟨m, by rw [h]; exact congrArg (fun g : GnPart => { g with search := m }) ht⟩

theorem putWord_gn (s : State) (gs : List Fld) (w : Nat) : (s.putWord gs w).gn = s.gn :=
  forAll_inv State.gn gs (fun t f => t.put f (w / 2 ^ f.lo)) (fun _ _ => rfl) s

/-- Whatever follows the loaded fields of GN_CFG, they stay, and so does what the word says of the pairs. -/
theorem writeGnCfg_loads (s : State) (v : Word) :
    (∀ f ∈ fieldsAt F.GN_CFG_EN.off, (s.writeGnCfg v).get f = f.ofWord v) ∧ ∀ p < 128, PairKept s v (s.writeGnCfg v) p := by
  have hfields {w : State} (h : Keeps (s.putWord (fieldsAt F.GN_CFG_EN.off) v.toNat) w runFields) :
      ∀ f ∈ fieldsAt F.GN_CFG_EN.off, w.get f = f.ofWord v := fun f hf =>
    (h.get f (gnCfg_apart hf).1 (gnCfg_apart hf).2).trans (putWord_get _ v hf)
  have hpairs := fun p hp => pairKept_idleSystems (s := s) (v := v) (p := p) hp
  generalize hu : s.putWord (fieldsAt F.GN_CFG_EN.off) v.toNat = u at hfields hpairs
  have hidle := (keeps_idleSystems u).mono fun _ hk => mem_runFields (.inl hk)
  obtain ⟨-, -, h⟩ | ⟨-, h⟩ | ⟨-, -, h⟩ := writeGnCfg_cases s v <;> rw [h, hu]
  · obtain ⟨hrun, -⟩ := scriptStart_runs u.idleSystems
    exact ⟨hfields (hidle.trans (hrun.mono (by simp [runFields, startFields]))), fun p hp => hrun.pairKept hp (by decide) (hpairs p hp)⟩
  · obtain ⟨hstop, -, -, -, -, hoff⟩ := gnStop_stops u
    refine ⟨hfields ((hstop.mono fun k hk => ?_).trans ((keeps_idleSystems _).mono fun _ hk => mem_runFields (.inl hk))),
      fun p hp => .inl (idleSystems_stays hp (hoff p hp))⟩
    obtain rfl | hk := List.mem_cons.mp hk
    · exact mem_runFields (.inr (by decide))
    · obtain rfl | hk := List.mem_cons.mp hk
      · exact mem_runFields (.inr (by decide))
      · exact mem_runFields (.inl hk)
  · exact ⟨hfields hidle, hpairs⟩

theorem does_gnCfgWrite (hp : s.power = .run) (hj : s.judge path F.GN_CFG_EN.off true = .served) :
    Does (.gnCfgWrite path v) s fun t => (∀ f ∈ fieldsAt F.GN_CFG_EN.off, t.get f = f.ofWord v) ∧ (∀ p : Fin 128, PairKept s v t p) ∧
      (F.GN_CFG_EN.ofWord v = 1 → s.on F.GN_CFG_EN = false → t.get F.GN_FE_SPI_BUSY = 1 ∧ t.gn.script = true ∧
        t.get F.GN_STAT_STATE = if s.gn.flake then 4 else 1) ∧
      (F.GN_CFG_EN.ofWord v = 0 → s.on F.GN_CFG_EN = true → s.gn.script = false → t.get F.GN_STAT_STATE = 0 ∧ t.get F.GN_STAT_BANDS_OK = 0 ∧
        t.gn.startDue = false ∧ ∀ p : Fin 128, t.get (F.GN_CH_STAT_STATE p) = 0) ∧
      (F.GN_CFG_EN.ofWord v = 0 → s.on F.GN_CFG_EN = true → s.gn.script = true → t.get F.GN_STAT_STATE = s.get F.GN_STAT_STATE) := by
  refine does_write (f := (·.writeGnCfg v)) rfl hp hj ?_
  simp only [PairKept, State.settle_get, State.settle_gn]
  obtain ⟨hfields, hpairs⟩ := writeGnCfg_loads s v
  refine ⟨hfields, fun p => hpairs p p.isLt, ?_⟩
  have hload := Frame.putWord (fs := fieldsAt F.GN_CFG_EN.off) s v.toNat fun _ h => List.mem_map_of_mem h
  have hgn := putWord_gn s (fieldsAt F.GN_CFG_EN.off) v.toNat
  generalize hu : s.putWord (fieldsAt F.GN_CFG_EN.off) v.toNat = u at hload hgn
  obtain ⟨hen, hoff, h⟩ | ⟨⟨hen, hon, hscript⟩, h⟩ | ⟨hstart, hstop, h⟩ := writeGnCfg_cases s v <;> rw [h, hu]
  · obtain ⟨l, hidle⟩ := idleSystems_gn u
    obtain ⟨-, hbusy, hscript, hstate⟩ := scriptStart_runs u.idleSystems
    rw [hidle, hgn] at hstate
    exact ⟨fun _ _ => ⟨hbusy, hscript, hstate⟩, by simp [hen], by simp [hen]⟩
  · have hidle := keeps_idleSystems u.gnStop
    obtain ⟨l, hsearch⟩ := idleSystems_gn u.gnStop
    obtain ⟨-, hstate, hbands, hdue, -, hoff⟩ := gnStop_stops u
    refine ⟨by simp [hen], fun _ _ _ => ⟨?_, ?_, ?_, fun p => ?_⟩, by simp [hscript]⟩
    · exact (hidle.get F.GN_STAT_STATE (fun hm => absurd (key_pairFields _ hm).1 (by decide)) (by decide)).trans hstate
    · exact (hidle.get F.GN_STAT_BANDS_OK (fun hm => absurd (key_pairFields _ hm).1 (by decide)) (by decide)).trans hbands
    · rw [hsearch]
      exact hdue
    · exact idleSystems_stays p.isLt (hoff p p.isLt)
  · refine ⟨fun hen hoff => absurd ⟨hen, hoff⟩ hstart, fun hen hon hscript => absurd ⟨hen, hon, hscript⟩ hstop, fun _ _ _ => ?_⟩
    have hstate := (keeps_idleSystems u).get F.GN_STAT_STATE (fun hm => absurd (key_pairFields _ hm).1 (by decide)) (by decide)
    exact hstate.trans (hload.get _ (by decide +kernel) (by decide))

end Sys2Proof.Machine
end

section
/-! PROOF. The front ends' SPI and the searches of channel pairs (O39; R130, R131, R147, R148). -/
namespace Sys2Proof.Machine

variable {s t u : State} {path : Path} {v : Word} {P : State → Prop}

/-! ## GN_FE_SPI -/

/-- The fields of GN_FE_SPI that a write takes. -/
def spiFields : List Fld := [F.GN_FE_SPI_DATA, F.GN_FE_SPI_LEN, F.GN_FE_SPI_CS, F.GN_FE_SPI_DIV]

/-- A register's fields loaded from a word, each at its own place, read as the word. -/
theorem get_putAll_ofWord (s : State) {l : List Fld} (v : Word) (hl : (l.map Fld.key).Nodup) :
    ∀ f ∈ l, (s.putAll (l.map fun f => (f, f.ofWord v))).get f = f.ofWord v := by
  intro f hf
  have hfst : (l.map fun f => (f, f.ofWord v)).map Prod.fst = l := by simp [Function.comp_def]
  have h := get_putAll s (l := l.map fun f => (f, f.ofWord v)) (by rwa [hfst]) (f, f.ofWord v) (List.mem_map_of_mem hf)
  exact h.trans (ofWord_mod f v)

theorem Frame.putAll_ofWord (s : State) (l : List Fld) (v : Word) : Frame s (s.putAll (l.map fun f => (f, f.ofWord v))) l :=
  Frame.putAll s _ fun e he => by
    obtain ⟨f, hf, rfl⟩ := List.mem_map.mp he
    exact List.mem_map_of_mem hf

/-- GN_FE_SPI with its fields taken. -/
def State.loadSpi (s : State) (v : Word) : State := s.putAll (spiFields.map fun f => (f, f.ofWord v))

theorem writeGnSpi_busy (hgo : F.GN_FE_SPI_GO.ofWord v = 1) (hb : s.on F.GN_FE_SPI_BUSY = true) : s.writeGnSpi v = s := by
  simp [State.writeGnSpi, hgo, hb]

/-- The transfer that a word of GN_FE_SPI asks for (R130, R149). -/
def spiTransfer (v : Word) : OutMsg :=
  .gnSpi (F.GN_FE_SPI_CS.ofWord v) (spiLen (F.GN_FE_SPI_LEN.ofWord v)) (F.GN_FE_SPI_DATA.ofWord v % 2 ^ spiLen (F.GN_FE_SPI_LEN.ofWord v))

/-- A transfer begins (R130). -/
def State.sendSpi (s : State) (m : OutMsg) : State := { (s.put F.GN_FE_SPI_BUSY 1).emit m with gn.spi := true }

theorem sendSpi_sends (s : State) (m : OutMsg) : (s.sendSpi m).get F.GN_FE_SPI_BUSY = 1 ∧
    (∀ f : Fld, f.key ≠ F.GN_FE_SPI_BUSY.key → (s.sendSpi m).get f = s.get f) ∧ (s.sendSpi m).outs = m :: s.outs ∧
    Frame { s with gn.spi := true } (s.sendSpi m) [F.GN_FE_SPI_BUSY] :=
  ⟨State.get_put_same s F.GN_FE_SPI_BUSY 1, fun f hf => State.get_put_other s F.GN_FE_SPI_BUSY f 1 hf, rfl,
    ((Frame.put s F.GN_FE_SPI_BUSY 1 (.inl (by simp))).trans (Frame.emit _ m _)).mapGn fun g => { g with spi := true }⟩

/-- GO sends the word (R130). -/
theorem writeGnSpi_go (hgo : F.GN_FE_SPI_GO.ofWord v = 1) (hb : s.on F.GN_FE_SPI_BUSY = false) :
    s.writeGnSpi v = (s.loadSpi v).sendSpi (spiTransfer v) := by
  unfold State.writeGnSpi
  simp only [hgo, hb, Bool.and_false, Bool.false_eq_true, if_false, beq_self_eq_true, State.when_true]
  rfl

theorem writeGnSpi_load (hgo : F.GN_FE_SPI_GO.ofWord v = 0) : s.writeGnSpi v = s.loadSpi v := by
  unfold State.writeGnSpi
  simp only [hgo, show (0 == 1) = false from rfl, Bool.false_and, Bool.false_eq_true, if_false, State.when_false]
  rfl

theorem does_gnFeSpi_busy (hp : s.power = .run) (hj : s.judge path F.GN_FE_SPI_DATA.off true = .served)
    (hgo : F.GN_FE_SPI_GO.ofWord v = 1) (hb : s.on F.GN_FE_SPI_BUSY = true) : Does (.gnFeSpiTransfer path v) s fun t => Frame s t [] :=
  does_write (f := (·.writeGnSpi v)) rfl hp hj (by simpa only [writeGnSpi_busy hgo hb] using Frame.settle s [])

theorem does_gnFeSpi_go (hp : s.power = .run) (hj : s.judge path F.GN_FE_SPI_DATA.off true = .served)
    (hgo : F.GN_FE_SPI_GO.ofWord v = 1) (hb : s.on F.GN_FE_SPI_BUSY = false) :
    Does (.gnFeSpiTransfer path v) s fun t => t.get F.GN_FE_SPI_BUSY = 1 ∧ (∀ f ∈ spiFields, t.get f = f.ofWord v) ∧
      Sends s t (spiTransfer v) ∧
      Frame { s with gn.spi := true } t (F.GN_FE_SPI_BUSY :: spiFields) := by
  have hload := Frame.putAll_ofWord s spiFields v
  have hget := get_putAll_ofWord s v (l := spiFields) (by decide)
  have houts := putAll_outs s (spiFields.map fun f => (f, f.ofWord v))
  refine does_write (f := (·.writeGnSpi v)) rfl hp hj ?_
  rw [writeGnSpi_go hgo hb, State.loadSpi]
  generalize s.putAll (spiFields.map fun f => (f, f.ofWord v)) = u at hload hget houts ⊢
  obtain ⟨hbusy, hother, hsent, hframe⟩ := sendSpi_sends u (spiTransfer v)
  generalize u.sendSpi (spiTransfer v) = w at hbusy hother hsent hframe ⊢
  have hne : ∀ f ∈ spiFields, f.key ≠ F.GN_FE_SPI_BUSY.key := by decide
  refine ⟨(State.settle_get w _).trans hbusy, fun f hf => (State.settle_get w f).trans ((hother f (hne f hf)).trans (hget f hf)), ?_, ?_⟩
  · rw [Sends, ← houts, ← hsent]
    exact outs_settle w
  · refine Frame.settled (Frame.trans ?_ (hframe.mono (by simp)))
    exact (hload.mono (gs := F.GN_FE_SPI_BUSY :: spiFields) (by decide)).mapGn fun g => { g with spi := true }

theorem does_gnFeSpi_load (hp : s.power = .run) (hj : s.judge path F.GN_FE_SPI_DATA.off true = .served)
    (hgo : F.GN_FE_SPI_GO.ofWord v = 0) :
    Does (.gnFeSpiTransfer path v) s fun t => (∀ f ∈ spiFields, t.get f = f.ofWord v) ∧ Frame s t spiFields := by
  refine does_write (f := (·.writeGnSpi v)) rfl hp hj ?_
  rw [writeGnSpi_load hgo]
  refine ⟨fun f hf => ?_, (Frame.putAll_ofWord s spiFields v).settled⟩
  exact (State.settle_get _ f).trans (get_putAll_ofWord s v (by decide) f hf)

/-! ## The ends of a transfer and of a script -/

theorem on_putB (s : State) {f : Fld} (hw : 0 < f.width) (b : Bool) : (s.putB f b).on f = b := by
  have h : 1 % 2 ^ f.width = 1 := Nat.mod_eq_of_lt (Nat.one_lt_two_pow (by omega))
  unfold State.on State.putB
  rw [State.get_put_same]
  cases b <;> simp [h]

/-- The bits received, unless they are discarded (R130, R371). -/
def State.spiReceived (s : State) (v : BitVec 32) : State :=
  if s.gn.discard then s else s.put F.GN_FE_SPI_DATA (v.toNat % 2 ^ spiLen (s.get F.GN_FE_SPI_LEN))

theorem spiReceived_receives (s : State) (v : BitVec 32) :
    (s.spiReceived v).get F.GN_FE_SPI_DATA =
        (if s.gn.discard then s.get F.GN_FE_SPI_DATA else v.toNat % 2 ^ spiLen (s.get F.GN_FE_SPI_LEN)) ∧
      Frame s (s.spiReceived v) [F.GN_FE_SPI_DATA, F.GN_FE_SPI_BUSY] := by
  unfold State.spiReceived
  cases s.gn.discard
  · refine ⟨(State.get_put_same s F.GN_FE_SPI_DATA _).trans (Nat.mod_eq_of_lt ?_), Frame.put s _ _ (.inl (by simp))⟩
    have hlen : spiLen (s.get F.GN_FE_SPI_LEN) ≤ 32 := by
      unfold spiLen
      omega
    exact Nat.lt_of_lt_of_le (Nat.mod_lt _ (Nat.two_pow_pos _)) (Nat.pow_le_pow_right (by decide) hlen)
  · exact ⟨rfl, Frame.refl s _⟩

theorem exec_gnFeSpiDone (v : BitVec 32) (s : State) : exec (.gnFeSpiDone v) s = running s fun s => s.when s.gn.spi fun s =>
    { (s.spiReceived v).putB F.GN_FE_SPI_BUSY s.gn.script with
      gn := { (s.spiReceived v).gn with spi := false, discard := false } } := rfl

theorem does_gnFeSpiDone {v : BitVec 32} (hp : s.power = .run) (hs : s.gn.spi = true) : Does (.gnFeSpiDone v) s fun t =>
    t.on F.GN_FE_SPI_BUSY = s.gn.script ∧
      t.get F.GN_FE_SPI_DATA = (if s.gn.discard then s.get F.GN_FE_SPI_DATA else v.toNat % 2 ^ spiLen (s.get F.GN_FE_SPI_LEN)) ∧
      Frame { s with gn.spi := false, gn.discard := false } t [F.GN_FE_SPI_DATA, F.GN_FE_SPI_BUSY] := by
  obtain ⟨hdata, hframe⟩ := spiReceived_receives s v
  refine does_running (exec_gnFeSpiDone v s) hp ?_
  simp only [hs, State.when_true]
  generalize s.spiReceived v = u at hdata hframe ⊢
  have hbusy := hframe.trans (Frame.putB u F.GN_FE_SPI_BUSY s.gn.script (by simp))
  refine ⟨?_, ?_, Frame.settled (hbusy.mapGn fun g => { g with spi := false, discard := false })⟩
  · exact (State.settle_on _ _).trans (on_putB u (f := F.GN_FE_SPI_BUSY) (by decide) s.gn.script)
  · exact (State.settle_get _ _).trans ((State.get_put_other u F.GN_FE_SPI_BUSY F.GN_FE_SPI_DATA _ (by decide)).trans hdata)

theorem does_gnFeSpiDone_idle {v : BitVec 32} (hp : s.power = .run) (hs : s.gn.spi = false) :
    Does (.gnFeSpiDone v) s fun t => Frame s t [] :=
  does_running (exec_gnFeSpiDone v s) hp (by simpa only [hs, State.when_false] using Frame.settle s [])

/-- A script is over: a transfer may still run (R130). -/
def State.scriptOver (s : State) : State := { s.putB F.GN_FE_SPI_BUSY s.gn.spi with gn.script := false }

theorem exec_gnFeScriptDone (s : State) : exec .gnFeScriptDone s = running s fun s => s.when s.gn.script fun s =>
    s.scriptOver.when (!s.on F.GN_CFG_EN) (·.gnStop) := by
  have h (t : State) : t.scriptOver.on F.GN_CFG_EN = t.on F.GN_CFG_EN :=
    congrArg (· != 0) (State.get_put_other t F.GN_FE_SPI_BUSY F.GN_CFG_EN _ (by decide))
  show (running s fun s => s.when s.gn.script fun s => s.scriptOver.when (!s.scriptOver.on F.GN_CFG_EN) (·.gnStop)) = _
  simp only [h]

theorem does_gnFeScriptDone (hp : s.power = .run) (hs : s.gn.script = true) : Does .gnFeScriptDone s fun t =>
    t.gn.script = false ∧ t.on F.GN_FE_SPI_BUSY = s.gn.spi ∧
      (s.on F.GN_CFG_EN = true → Frame { s with gn.script := false } t [F.GN_FE_SPI_BUSY]) ∧
      (s.on F.GN_CFG_EN = false → t.get F.GN_STAT_STATE = 0 ∧ t.get F.GN_STAT_BANDS_OK = 0) := by
  refine does_running (exec_gnFeScriptDone s) hp ?_
  have hover : s.scriptOver.on F.GN_FE_SPI_BUSY = s.gn.spi := on_putB s (f := F.GN_FE_SPI_BUSY) (by decide) s.gn.spi
  have hframe : Frame { s with gn.script := false } s.scriptOver [F.GN_FE_SPI_BUSY] :=
    (Frame.putB s F.GN_FE_SPI_BUSY s.gn.spi (by simp)).mapGn fun g => { g with script := false }
  have hscript : s.scriptOver.gn.script = false := rfl
  simp only [hs, State.when_true, State.settle_gn, State.settle_on, State.settle_get]
  generalize s.scriptOver = u at hover hframe hscript ⊢
  cases hen : s.on F.GN_CFG_EN
  · obtain ⟨hkeep, hstate, hbands, -, hkept, -⟩ := gnStop_stops u
    have hbusy : u.gnStop.get F.GN_FE_SPI_BUSY = u.get F.GN_FE_SPI_BUSY := hkeep.get _ (fun hm => by
      obtain h | h := List.mem_append.mp (show _ ∈ [F.GN_STAT_STATE, F.GN_STAT_BANDS_OK].map Fld.key ++ pairFields.map Fld.key from hm)
      · exact absurd h (by decide)
      · exact absurd (key_pairFields _ h).1 (by decide)) (by decide)
    refine ⟨hkept.trans hscript, (congrArg (· != 0) hbusy).trans hover, nofun, fun _ => ⟨hstate, hbands⟩⟩
  · exact ⟨hscript, hover, fun _ => hframe.settled, nofun⟩

theorem does_gnFeScriptDone_idle (hp : s.power = .run) (hs : s.gn.script = false) : Does .gnFeScriptDone s fun t => Frame s t [] :=
  does_running (exec_gnFeScriptDone s) hp (by simpa only [hs, State.when_false] using Frame.settle s [])

/-! ## Searches -/

/-- A pair found in acquisition (R131). -/
def State.pairFound (s : State) (p : Nat) (sys prn : Nat) : State :=
  s.putAll [(F.GN_CH_STAT_SYS p, sys), (F.GN_CH_STAT_PRN p, prn), (F.GN_CH_STAT_STATE p, 2)]

/-- The condition of ACQUISITION_SEARCH_COMPLETE (R131). -/
def State.pairSeeks (s : State) (p : Nat) (sys : BitVec 2) : Bool :=
  s.on F.GN_CFG_EN && !s.gn.flake && decide (s.get (F.GN_CH_STAT_STATE p) ≤ 1) && !s.gn.badPairs.contains p &&
    s.get F.GN_CFG_SYS / 2 ^ sys.toNat % 2 == 1

theorem exec_acquisitionSearchComplete (p : Fin 128) (sys : BitVec 2) (prn : BitVec 8) (s : State) :
    exec (.acquisitionSearchComplete p sys prn) s = running s fun s =>
      s.when (s.pairSeeks p sys) (·.pairFound p sys.toNat prn.toNat) := rfl

/-- The fields of one pair lie at different places. -/
theorem nodup_pairRegs (p : Nat) : ((pairRegs p).map Fld.key).Nodup := by
  simp only [pairRegs, List.map_cons, List.map_nil, Fld.key, F.GN_CH_STAT_SYS, F.GN_CH_STAT_PRN, F.GN_CH_STAT_STATE, F.GN_CH_STAT_B_OK,
    F.GN_CH_STAT_CN0_A, F.GN_CH_STAT_CN0_B, F.GN_CH_STAT_ELEV, F.GN_CH_STAT_RESID, List.nodup_cons, List.mem_cons, List.not_mem_nil, or_false,
    not_or, not_false_eq_true, List.nodup_nil, and_true]
  omega

theorem does_acquisition_found {p : Fin 128} {sys : BitVec 2} {prn : BitVec 8} (hp : s.power = .run) (h : s.pairSeeks p sys = true) :
    Does (.acquisitionSearchComplete p sys prn) s fun t =>
      t.get (F.GN_CH_STAT_SYS p) = sys.toNat ∧ t.get (F.GN_CH_STAT_PRN p) = prn.toNat ∧ t.get (F.GN_CH_STAT_STATE p) = 2 ∧
        Frame s t [F.GN_CH_STAT_SYS p, F.GN_CH_STAT_PRN p, F.GN_CH_STAT_STATE p] := by
  refine does_running (exec_acquisitionSearchComplete p sys prn s) hp ?_
  simp only [h, State.when_true, State.settle_get]
  have hget := get_putAll s (l := [(F.GN_CH_STAT_SYS p, sys.toNat), (F.GN_CH_STAT_PRN p, prn.toNat), (F.GN_CH_STAT_STATE p, 2)])
    ((nodup_pairRegs p).sublist ((List.take_sublist 3 (pairRegs p)).map Fld.key))
  simp only [List.forall_mem_cons, List.not_mem_nil, false_implies, implies_true, and_true] at hget
  obtain ⟨hsys, hprn, hstate⟩ := hget
  exact ⟨hsys.trans (Nat.mod_eq_of_lt sys.isLt), hprn.trans (Nat.mod_eq_of_lt prn.isLt), hstate, (Frame.putAll_fst s _).settled⟩

theorem does_acquisition_none {p : Fin 128} {sys : BitVec 2} {prn : BitVec 8} (hp : s.power = .run) (h : s.pairSeeks p sys = false) :
    Does (.acquisitionSearchComplete p sys prn) s fun t => Frame s t [] :=
  does_running (exec_acquisitionSearchComplete p sys prn s) hp (by simpa only [h, State.when_false] using Frame.settle s [])

/-- A pair searches around its prediction (R147). -/
def State.pairLost (s : State) (p : Nat) : State :=
  { s.putAll [(F.GN_CH_STAT_STATE p, 2), (F.GN_CH_STAT_B_OK p, 0)] with gn := { s.gn with search := p :: s.gn.search.filter (· != p) } }

theorem exec_channelPairLosesLock (p : Fin 128) (s : State) : exec (.channelPairLosesLock p) s = running s fun s =>
    s.when (decide (2 ≤ s.get (F.GN_CH_STAT_STATE p))) (·.pairLost p) := rfl

theorem does_losesLock {p : Fin 128} (hp : s.power = .run) (h : 2 ≤ s.get (F.GN_CH_STAT_STATE p)) :
    Does (.channelPairLosesLock p) s fun t => t.get (F.GN_CH_STAT_STATE p) = 2 ∧ t.get (F.GN_CH_STAT_B_OK p) = 0 ∧
      t.gn.search.contains p.val = true ∧ Frame { s with gn.search := t.gn.search } t [F.GN_CH_STAT_STATE p, F.GN_CH_STAT_B_OK p] := by
  refine does_running (exec_channelPairLosesLock p s) hp ?_
  simp only [decide_eq_true h, State.when_true, State.settle_get, State.settle_gn]
  have hget := get_putAll s (l := [(F.GN_CH_STAT_STATE p, 2), (F.GN_CH_STAT_B_OK p, 0)])
    ((nodup_pairRegs p).sublist (((List.take_sublist 2 _).trans (List.drop_sublist 2 (pairRegs p))).map Fld.key))
  simp only [List.forall_mem_cons, List.not_mem_nil, false_implies, implies_true, and_true] at hget
  obtain ⟨hstate, hband⟩ := hget
  refine ⟨hstate, hband, ?_, Frame.settled ((Frame.putAll_fst s _).withGn { s.gn with search := p.val :: s.gn.search.filter (· != p.val) })⟩
  show (p.val :: s.gn.search.filter (· != p.val)).contains p.val = true
  simp

theorem does_losesLock_idle {p : Fin 128} (hp : s.power = .run) (h : s.get (F.GN_CH_STAT_STATE p) < 2) :
    Does (.channelPairLosesLock p) s fun t => Frame s t [] :=
  does_running (exec_channelPairLosesLock p s) hp
    (by simpa only [decide_eq_false (Nat.not_le.mpr h), State.when_false] using Frame.settle s [])

theorem exec_gnChannelSearchTimeout (p : Fin 128) (s : State) : exec (.gnChannelSearchTimeout p) s = running s fun s =>
    s.when (s.gn.search.contains p.val) fun s =>
      { s.put (F.GN_CH_STAT_STATE p) 1 with gn := { s.gn with search := s.gn.search.filter (· != p.val) } } := rfl

theorem does_searchTimeout {p : Fin 128} (hp : s.power = .run) (h : s.gn.search.contains p.val = true) :
    Does (.gnChannelSearchTimeout p) s fun t => t.get (F.GN_CH_STAT_STATE p) = 1 ∧
      Frame { s with gn.search := s.gn.search.filter (· != p.val) } t [F.GN_CH_STAT_STATE p] := by
  refine does_running (exec_gnChannelSearchTimeout p s) hp ?_
  simp only [h, State.when_true, State.settle_get]
  have hput := Frame.put (fs := [F.GN_CH_STAT_STATE p]) s (F.GN_CH_STAT_STATE p) 1 (.inl (by simp))
  exact ⟨State.get_put_same s (F.GN_CH_STAT_STATE p) 1, Frame.settled (hput.withGn { s.gn with search := s.gn.search.filter (· != p.val) })⟩

theorem does_searchTimeout_idle {p : Fin 128} (hp : s.power = .run) (h : s.gn.search.contains p.val = false) :
    Does (.gnChannelSearchTimeout p) s fun t => Frame s t [] :=
  does_running (exec_gnChannelSearchTimeout p s) hp (by simpa only [h, State.when_false] using Frame.settle s [])

end Sys2Proof.Machine
end

section
/-! PROOF. The sample clocks of the bands (O39; R70, R129, R148), and O39 from its clauses. -/
namespace Sys2Proof.Machine

variable {s t u : State} {path : Path} {v : Word} {fs : List Fld}

/-! ## Bands in use -/

/-- The fields that say whether a band is enabled, and its declared rate. -/
def bandRegs : List Fld := [F.GN_CFG_EN, F.GN_CFG_BAND_A, F.GN_CFG_BAND_B, F.GN_FE_A_CFG_RATE, F.GN_FE_B_CFG_RATE]

/-- What a check of a band may write. -/
def clockFields : List Fld := [F.GN_STAT_BANDS_OK, F.GN_EVT_CLK_BAD, F.GN_EVT_CLK_OK]

theorem bandRegs_apart : ∀ f ∈ bandRegs, f.key ∉ clockFields.map Fld.key ∧ f.tallied = false := by decide

theorem bandEnabled_congr (h : ∀ f ∈ bandRegs, t.get f = s.get f) (b : Nat) : t.bandEnabled b = s.bandEnabled b ∧ t.bandRate b = s.bandRate b := by
  simp only [bandRegs, List.forall_mem_cons, List.not_mem_nil, false_implies, implies_true, and_true] at h
  obtain ⟨hen, ha, hb, hra, hrb⟩ := h
  unfold State.bandEnabled State.bandRate State.on
  constructor
  · rw [hen]
    split
    · rw [ha]
    · rw [hb]
  · split
    · exact hra
    · exact hrb

theorem bandOk_congr (h : t.get F.GN_STAT_BANDS_OK = s.get F.GN_STAT_BANDS_OK) (b : Nat) : t.bandOk b = s.bandOk b := by
  unfold State.bandOk
  rw [h]

/-- A bit of two is set or cleared, and the other stays. -/
theorem bit_replaced (v : Nat) {b c : Nat} (hb : b < 2) (hc : c < 2) (ok : Bool) :
    (v - v / 2 ^ b % 2 * 2 ^ b + if ok then 2 ^ b else 0) % 2 ^ 2 / 2 ^ c % 2 = if c = b then ok.toNat else v / 2 ^ c % 2 := by
  interval_cases b <;> interval_cases c <;> cases ok <;> simp <;> omega

theorem bandOk_putBand (s : State) {b c : Nat} (hb : b < 2) (hc : c < 2) (ok : Bool) :
    (s.putBand b ok).bandOk c = if c = b then ok else s.bandOk c := by
  unfold State.bandOk State.putBand
  dsimp only
  rw [State.get_put_same, show F.GN_STAT_BANDS_OK.width = 2 from rfl, bit_replaced _ hb hc]
  split
  · cases ok <;> rfl
  · rfl

/-! ## A check of one band -/

/-- A dip spoilt the window (R86). -/
def windowSpoilt (clock : Option IeResult) : Prop := ∃ r, clock = some r ∧ r.flg / 8 % 2 = 1

/-- The declared rate of the band is in range (R149). -/
def State.rateInRange (s : State) (b : Nat) : Prop := 20460 ≤ s.bandRate b ∧ s.bandRate b ≤ 81840

/-- The clock is within 500 ppm of the declared rate (R129). -/
def clockGood (clock : Option IeResult) : Prop := ∃ r, clock = some r ∧ r.ph.natAbs ≤ ppm500

/-- The rate in Hz that a window shows against the declared one in kHz (R129). -/
def measuredRate (decl : Nat) (r : IeResult) : Nat := ((decl : Int) * 1000 + roundDiv (decl * 1000 * r.ph) (10 ^ 12 * 2 ^ 32)).toNat

/-- The band with what its clock was found to be (R129). -/
def State.bandJudged (s : State) (b : Nat) (ok : Bool) (rate : Nat) : State :=
  { s.putBand b ok with gn := { s.gn with bad := assign false b (!ok) s.gn.bad, rates := assign 0 b rate s.gn.rates } }

/-- A change of the clock's condition is reported (R129). -/
def State.reportClock (s : State) (b : Nat) (ok was : Bool) : State :=
  if !ok && !was then s.event F.GN_EVT_CLK_BAD 0x0301 0 b else s.when (ok && was) (·.event F.GN_EVT_CLK_OK 0x0302 0 b)

theorem checkBand_disabled (clock : Option IeResult) {b : Nat} (h : s.bandEnabled b = false) :
    s.checkBand b clock = { s.putBand b false with gn := { s.gn with bad := assign false b false s.gn.bad } } := by
  unfold State.checkBand
  rw [h]
  rfl

theorem checkBand_spoilt {clock : Option IeResult} {b : Nat} (h : s.bandEnabled b = true) (hr : s.rateInRange b) (hs : windowSpoilt clock) :
    s.checkBand b clock = s := by
  obtain ⟨r, rfl, hflg⟩ := hs
  unfold State.checkBand
  simp only [h, decide_eq_true (show 20460 ≤ s.bandRate b ∧ s.bandRate b ≤ 81840 from hr), hflg]
  rfl

theorem checkBand_judged {clock : Option IeResult} {b : Nat} (h : s.bandEnabled b = true) (hn : ¬(s.rateInRange b ∧ windowSpoilt clock)) :
    ∃ ok rate, (ok = true ↔ s.rateInRange b ∧ clockGood clock) ∧
      s.checkBand b clock = (s.bandJudged b ok rate).reportClock b ok (s.gn.bad.getD b false) := by
  cases clock with
  | none =>
    refine ⟨false, 0, by simp [clockGood], ?_⟩
    unfold State.checkBand
    simp only [h, Bool.and_false]
    rfl
  | some r =>
    have hin : decide (20460 ≤ s.bandRate b ∧ s.bandRate b ≤ 81840) = true ↔ s.rateInRange b := decide_eq_true_iff
    unfold State.checkBand
    simp only [h]
    generalize decide (20460 ≤ s.bandRate b ∧ s.bandRate b ≤ 81840) = d at hin ⊢
    have hno : (d && r.flg / 8 % 2 == 1) = false := by simpa [windowSpoilt, ← hin] using hn
    refine ⟨d && decide (r.ph.natAbs ≤ ppm500), measuredRate (s.bandRate b) r, by simp [clockGood, ← hin], ?_⟩
    rw [hno]
    rfl

/-- What a check is asked to say of band b: whether it is in use after it, and which change is reported. -/
def BandVerdict (s : State) (b : Nat) (clock : Option IeResult) (t : State) : Prop :=
  (s.bandEnabled b = false → t.bandOk b = false) ∧
  (s.bandEnabled b = true → s.rateInRange b → windowSpoilt clock → t.bandOk b = s.bandOk b) ∧
  (s.bandEnabled b = true → ¬(s.rateInRange b ∧ windowSpoilt clock) →
    (t.bandOk b = true ↔ s.rateInRange b ∧ clockGood clock) ∧
    (t.bandOk b = false → s.gn.bad.getD b false = false → t.get F.GN_EVT_CLK_BAD = 1) ∧
    (t.bandOk b = true → s.gn.bad.getD b false = true → t.get F.GN_EVT_CLK_OK = 1))

/-- A check of band b leaves the other band alone, and what an earlier check has reported. -/
structure BandChecked (s : State) (b : Nat) (clock : Option IeResult) (t : State) : Prop where
  verdict : BandVerdict s b clock t
  keeps : Keeps s t clockFields
  other : ∀ c < 2, c ≠ b → t.bandOk c = s.bandOk c ∧ t.gn.bad.getD c false = s.gn.bad.getD c false
  flags : ∀ f ∈ [F.GN_EVT_CLK_BAD, F.GN_EVT_CLK_OK], s.get f = 1 → t.get f = 1

/-- A report sets its flag, and keeps the other. -/
theorem reportClock_reports (s : State) (b : Nat) (ok was : Bool) : Keeps s (s.reportClock b ok was) [F.GN_EVT_CLK_BAD, F.GN_EVT_CLK_OK] ∧
    (s.reportClock b ok was).gn = s.gn ∧
    (∀ f ∈ [F.GN_EVT_CLK_BAD, F.GN_EVT_CLK_OK], s.get f = 1 → (s.reportClock b ok was).get f = 1) ∧
    (ok = false → was = false → (s.reportClock b ok was).get F.GN_EVT_CLK_BAD = 1) ∧
    (ok = true → was = true → (s.reportClock b ok was).get F.GN_EVT_CLK_OK = 1) := by
  have hset (f : Fld) (hf : f ∈ [F.GN_EVT_CLK_BAD, F.GN_EVT_CLK_OK]) (code inst arg : Nat) : Keeps s (s.event f code inst arg)
      [F.GN_EVT_CLK_BAD, F.GN_EVT_CLK_OK] ∧ (s.event f code inst arg).get f = 1 ∧
      ∀ g ∈ [F.GN_EVT_CLK_BAD, F.GN_EVT_CLK_OK], s.get g = 1 → (s.event f code inst arg).get g = 1 := by
    have hflags : ∀ f ∈ [F.GN_EVT_CLK_BAD, F.GN_EVT_CLK_OK], 0 < f.width ∧ f.tallied = false ∧
        ∀ g ∈ [F.GN_EVT_CLK_BAD, F.GN_EVT_CLK_OK], g = f ∨ g.key ≠ f.key := by decide
    obtain ⟨hw, ht, hother⟩ := hflags f hf
    have hone := State.event_flag s f code inst arg hw ht
    refine ⟨(Keeps.refl s _).event _ _ _ _ (List.mem_map_of_mem hf), hone, fun g hg h1 => ?_⟩
    obtain rfl | hne := hother g hg
    · exact hone
    · exact (State.event_get_other s f g _ _ _ hne (hflags g hg).2.1).trans h1
  unfold State.reportClock
  cases ok <;> cases was
  · obtain ⟨hkeep, hone, hall⟩ := hset F.GN_EVT_CLK_BAD (by simp) 0x0301 0 b
    exact ⟨hkeep, State.event_gn _ _ _ _ _, hall, fun _ _ => hone, nofun⟩
  · exact ⟨Keeps.refl s _, rfl, fun _ _ h => h, nofun, nofun⟩
  · exact ⟨Keeps.refl s _, rfl, fun _ _ h => h, nofun, nofun⟩
  · obtain ⟨hkeep, hone, hall⟩ := hset F.GN_EVT_CLK_OK (by simp) 0x0302 0 b
    exact ⟨hkeep, State.event_gn _ _ _ _ _, hall, nofun, fun _ _ => hone⟩

/-- Band b is put in or out of use; the other keeps its bit and its memory. -/
theorem bandJudged_judges (s : State) {b : Nat} (hb : b < 2) (ok : Bool) (rate : Nat) :
    Keeps s (s.bandJudged b ok rate) [F.GN_STAT_BANDS_OK] ∧ (s.bandJudged b ok rate).bandOk b = ok ∧
      ∀ c < 2, c ≠ b → (s.bandJudged b ok rate).bandOk c = s.bandOk c ∧ (s.bandJudged b ok rate).gn.bad.getD c false = s.gn.bad.getD c false := by
  refine ⟨((Keeps.refl s _).put F.GN_STAT_BANDS_OK _ (by simp)).next rfl, ?_, fun c hc hne => ⟨?_, ?_⟩⟩
  · exact (bandOk_putBand s hb hb ok).trans (if_pos rfl)
  · exact (bandOk_putBand s hb hc ok).trans (if_neg hne)
  · exact (getD_alter false false _ b c s.gn.bad (.inr rfl)).trans (if_neg hne)

theorem bandChecked (s : State) {b : Nat} (hb : b < 2) (clock : Option IeResult) : BandChecked s b clock (s.checkBand b clock) := by
  cases hen : s.bandEnabled b
  · rw [checkBand_disabled clock hen]
    refine ⟨⟨fun _ => ?_, by simp [hen], by simp [hen]⟩, ((Keeps.refl s _).put F.GN_STAT_BANDS_OK _ (by decide)).next rfl,
      fun c hc hne => ⟨?_, ?_⟩, fun f hf h => ?_⟩
    · exact (bandOk_putBand s hb hb false).trans (if_pos rfl)
    · exact (bandOk_putBand s hb hc false).trans (if_neg hne)
    · exact (getD_alter false false _ b c s.gn.bad (.inr rfl)).trans (if_neg hne)
    · have hne : ∀ f ∈ [F.GN_EVT_CLK_BAD, F.GN_EVT_CLK_OK], f.key ≠ F.GN_STAT_BANDS_OK.key := by decide
      exact (State.get_put_other s F.GN_STAT_BANDS_OK f _ (hne f hf)).trans h
  · by_cases hs : s.rateInRange b ∧ windowSpoilt clock
    · rw [checkBand_spoilt hen hs.1 hs.2]
      exact ⟨⟨by simp [hen], fun _ _ _ => rfl, fun _ h => absurd hs h⟩, Keeps.refl s _, fun _ _ _ => ⟨rfl, rfl⟩, fun _ _ h => h⟩
    · obtain ⟨ok, rate, hok, h⟩ := checkBand_judged hen hs
      rw [h]
      obtain ⟨hkeep, hjudged, hother⟩ := bandJudged_judges s hb ok rate
      generalize s.bandJudged b ok rate = u at hkeep hjudged hother ⊢
      obtain ⟨hreport, hgn, hflags, hbad, hgood⟩ := reportClock_reports u b ok (s.gn.bad.getD b false)
      generalize u.reportClock b ok (s.gn.bad.getD b false) = w at hreport hgn hflags hbad hgood ⊢
      have hbit := bandOk_congr (hreport.get F.GN_STAT_BANDS_OK (by decide) (by decide))
      have hfl : ∀ f ∈ [F.GN_EVT_CLK_BAD, F.GN_EVT_CLK_OK], u.get f = s.get f := fun f hf => by
        have hne : ∀ f ∈ [F.GN_EVT_CLK_BAD, F.GN_EVT_CLK_OK], f.key ∉ [F.GN_STAT_BANDS_OK].map Fld.key ∧ f.tallied = false := by decide
        exact hkeep.get f (hne f hf).1 (hne f hf).2
      refine ⟨⟨by simp [hen], fun _ h1 h2 => absurd ⟨h1, h2⟩ hs, fun _ _ => ?_⟩, (hkeep.mono (by decide)).trans (hreport.mono (by decide)),
        fun c hc hne => ?_, fun f hf h1 => hflags f hf ((hfl f hf).trans h1)⟩
      · rw [hbit, hjudged]
        exact ⟨hok, hbad, hgood⟩
      · rw [hbit, hgn]
        exact hother c hc hne

/-! ## The check of each second -/

/-- The verdict speaks of a band's registers and memory before the check, and of its bit and the flags after it. -/
theorem BandVerdict.congr {b : Nat} {clock : Option IeResult} {s' t' : State} (h : BandVerdict s b clock t)
    (hregs : ∀ f ∈ bandRegs, s.get f = s'.get f) (hok : s.bandOk b = s'.bandOk b) (hbad : s.gn.bad.getD b false = s'.gn.bad.getD b false)
    (hok' : t'.bandOk b = t.bandOk b) (hflags : ∀ f ∈ [F.GN_EVT_CLK_BAD, F.GN_EVT_CLK_OK], t.get f = 1 → t'.get f = 1) :
    BandVerdict s' b clock t' := by
  obtain ⟨hen, hrate⟩ := bandEnabled_congr hregs b
  obtain ⟨hoff, hspoilt, hjudged⟩ := h
  have hr : s.rateInRange b ↔ s'.rateInRange b := by
    unfold State.rateInRange
    rw [hrate]
  rw [hen] at hoff hspoilt hjudged
  rw [hok, hr] at hspoilt
  rw [hr, hbad] at hjudged
  unfold BandVerdict
  rw [hok']
  refine ⟨hoff, hspoilt, fun h1 h2 => ?_⟩
  obtain ⟨hiff, hset, hclear⟩ := hjudged h1 h2
  exact ⟨hiff, fun h3 h4 => hflags _ (by simp) (hset h3 h4), fun h3 h4 => hflags _ (by simp) (hclear h3 h4)⟩

/-- Both bands are checked, and what is due then starts (R129, R146). -/
theorem bandsChecked (s : State) (a b : Option IeResult) :
    BandVerdict s 0 a ((s.checkBand 0 a).checkBand 1 b).tryStart ∧ BandVerdict s 1 b ((s.checkBand 0 a).checkBand 1 b).tryStart := by
  obtain ⟨hverdict, hkeep, hother, hflags⟩ := bandChecked s (b := 0) (by decide) a
  generalize s.checkBand 0 a = u at hverdict hkeep hother hflags ⊢
  obtain ⟨hverdict', hkeep', hother', hflags'⟩ := bandChecked u (b := 1) (by decide) b
  generalize u.checkBand 1 b = w at hverdict' hkeep' hother' hflags' ⊢
  have hstart := keeps_tryStart w
  have hbit := bandOk_congr (hstart.get F.GN_STAT_BANDS_OK (by decide) (by decide))
  have hfl : ∀ f ∈ [F.GN_EVT_CLK_BAD, F.GN_EVT_CLK_OK], w.tryStart.get f = w.get f := fun f hf => by
    have hne : ∀ f ∈ [F.GN_EVT_CLK_BAD, F.GN_EVT_CLK_OK], f.key ∉ startFields.map Fld.key ∧ f.tallied = false := by decide
    exact hstart.get f (hne f hf).1 (hne f hf).2
  constructor
  · refine hverdict.congr (fun _ _ => rfl) rfl rfl ?_ fun f hf h1 => (hfl f hf).trans (hflags' f hf h1)
    exact (hbit 0).trans (hother' 0 (by decide) (by decide)).1
  · obtain ⟨hok, hbad⟩ := hother 1 (by decide) (by decide)
    exact hverdict'.congr (fun f hf => hkeep.get f (bandRegs_apart f hf).1 (bandRegs_apart f hf).2) hok hbad (hbit 1)
      fun f hf h1 => (hfl f hf).trans h1

/-- The state as the windows see it, with the edges that came without a command (R70). -/
def State.edgesIn (s : State) (m n : Nat) : State := (s.moreEdges 0 m).moreEdges 1 n

/-- The frequency windows of both bands have ended (R70, R129). -/
def State.windowsEnded (s : State) : State := (s.endRateWindow 0).endRateWindow 1

/-- The check of the second's end: the windows end, and unless it is skipped both bands are judged (R129, R148). -/
def State.rateChecked (s : State) : State :=
  if s.gn.rateSkip then { s.windowsEnded with gn.rateSkip := false }
  else ((s.windowsEnded.checkBand 0 (s.bandClock 0)).checkBand 1 (s.bandClock 1)).tryStart

theorem ieFrame_moreEdges (s : State) (b n : Nat) : IeFrame s (s.moreEdges b n) resultFields := by
  unfold State.moreEdges
  cases decide (2 ≤ (s.chan (18 + b)).winEdges)
  · exact IeFrame.refl s _
  · exact IeFrame.setChan s _ _

theorem ieFrame_endRateWindow (s : State) {b : Nat} (hb : b < 2) : IeFrame s (s.endRateWindow b) resultFields := by
  unfold State.endRateWindow
  split
  · exact (endWindow_step s (by omega) _).1.frame
  · exact IeFrame.setChan s _ _

theorem ieFrame_edgesIn (s : State) (m n : Nat) : IeFrame s (s.edgesIn m n) resultFields :=
  (ieFrame_moreEdges s 0 m).trans (ieFrame_moreEdges _ 1 n)

/-- The ends of the windows stay within the interval engine. -/
theorem ieFrame_windowsEnded (s : State) : IeFrame s s.windowsEnded resultFields :=
  (ieFrame_endRateWindow s (by decide)).trans (ieFrame_endRateWindow _ (by decide))

/-- The bands' fields are none of the engine's. -/
theorem rateFields_apart : ∀ f ∈ F.GN_STAT_BANDS_OK :: bandRegs, f.apart := by
  simp only [bandRegs, List.forall_mem_cons, List.not_mem_nil, false_implies, implies_true, and_true, Fld.apart]
  decide

theorem IeFrame.gn (h : IeFrame s t fs) : t.gn = s.gn := by rw [h.2]

theorem exec_gnRateCheck (m n : Nat) (s : State) : exec (.gnRateCheck m n) s = running s fun s => (s.edgesIn m n).rateChecked := by
  show execGnRateCheck m n s = _
  unfold execGnRateCheck State.rateChecked State.windowsEnded State.edgesIn
  rfl

theorem does_gnRateCheck_skips {m n : Nat} (hp : s.power = .run) (h : s.gn.rateSkip = true) : Does (.gnRateCheck m n) s fun t =>
    t.gn.rateSkip = false ∧ t.get F.GN_STAT_BANDS_OK = s.get F.GN_STAT_BANDS_OK := by
  have hedges := ieFrame_edgesIn s m n
  refine does_running (exec_gnRateCheck m n s) hp ?_
  have hended := (hedges.trans (ieFrame_windowsEnded _)).apart (rateFields_apart F.GN_STAT_BANDS_OK (by simp))
  unfold State.rateChecked
  rw [hedges.gn, h, if_pos rfl, State.settle_gn, State.settle_get]
  generalize (s.edgesIn m n).windowsEnded = u at hended ⊢
  exact ⟨rfl, hended⟩

theorem does_gnRateCheck {m n : Nat} (hp : s.power = .run) (h : s.gn.rateSkip = false) : Does (.gnRateCheck m n) s fun t =>
    ∀ b < 2, BandVerdict s b ((s.edgesIn m n).bandClock b) t := by
  refine does_running (exec_gnRateCheck m n s) hp ?_
  have hedges := ieFrame_edgesIn s m n
  unfold State.rateChecked
  generalize s.edgesIn m n = w at hedges ⊢
  have hended := hedges.trans (ieFrame_windowsEnded w)
  rw [hedges.gn, h, if_neg Bool.false_ne_true]
  generalize w.windowsEnded = u at hended ⊢
  obtain ⟨ha, hb⟩ := bandsChecked u (w.bandClock 0) (w.bandClock 1)
  generalize ((u.checkBand 0 (w.bandClock 0)).checkBand 1 (w.bandClock 1)).tryStart = x at ha hb ⊢
  have hout {b : Nat} {clock : Option IeResult} (hx : BandVerdict u b clock x) : BandVerdict s b clock x.settle :=
    hx.congr (fun f hf => hended.apart (rateFields_apart f (List.mem_cons_of_mem _ hf))) (bandOk_congr (hended.apart (rateFields_apart _ (by simp))) b)
      (by rw [hended.gn]) (bandOk_congr (State.settle_get x _) b) fun f _ h1 => (State.settle_get x f).trans h1
  intro b hb2
  interval_cases b
  · exact hout ha
  · exact hout hb

/-! ## The obligation -/

/-- Settles O39: a write of GN_CFG by the ways of `writeGnCfg_cases`, a rate check by `bandsChecked`, and each other command by its own lemma. -/
theorem gnssFrontEndAndChannelsFollowTheirCommands : Obligations.GnssFrontEndAndChannelsFollowTheirCommands := by
  unfold Obligations.GnssFrontEndAndChannelsFollowTheirCommands
  refine ⟨fun s path v hp hj => does_gnCfgWrite hp hj, fun s path v hp hj => ?_, fun s m n hp => ?_, fun s v hp => ?_, fun s p hp => ?_⟩
  · exact ⟨does_gnFeSpi_busy hp hj, does_gnFeSpi_go hp hj, does_gnFeSpi_load hp hj⟩
  · exact ⟨does_gnRateCheck_skips hp, does_gnRateCheck hp⟩
  · exact ⟨does_gnFeSpiDone hp, does_gnFeSpiDone_idle hp, does_gnFeScriptDone hp, does_gnFeScriptDone_idle hp⟩
  · exact ⟨fun sys prn => ⟨does_acquisition_found hp, does_acquisition_none hp⟩, does_losesLock hp, does_losesLock_idle hp,
      does_searchTimeout hp, does_searchTimeout_idle hp⟩

end Sys2Proof.Machine
end

section
/-! PROOF. The leap table under an offer (R273, R274), and what Glacier memory alone takes (R306). -/
namespace Sys2Proof.Machine

variable {s t u : State} {fs : List Fld}

/-! ## Glacier memory -/

/-- Glacier memory with a codeword stored (R307, R318). -/
def GlPart.stored (g : GlPart) (a cw : Nat) : GlPart :=
  { g with cells := writeCell a (cw % 2 ^ 13) 0 g.cells, back := g.back.filter (fun b => b.1 != a) }

/-- Glacier memory with data bytes written from address a on (R306). -/
def GlPart.written (g : GlPart) (a : Nat) : List Byte → GlPart
  | [] => g
  | b :: l => (g.stored a (encode13 b.toNat)).written (a + 1) l

/-- A write of data bytes touches Glacier memory alone. -/
theorem glWrite_eq (s : State) (a : Nat) (l : List Byte) : s.glWrite a l = { s with gl := s.gl.written a l } := by
  have h (l : List Byte) (g : GlPart) (a : Nat) :
      (l.foldl (fun (p : State × Nat) b => (p.1.glStore p.2 (encode13 b.toNat), p.2 + 1)) ({ s with gl := g }, a)).1 =
        { s with gl := g.written a l } := by
    induction l generalizing g a with
    | nil => rfl
    | cons b l ih => exact ih (g.stored a (encode13 b.toNat)) (a + 1)
  exact h l s.gl a

theorem writeCopy_eq (s : State) (a : Nat) (words : List Nat) : ∃ gl, s.writeCopy a words = { s with gl := gl } := by
  unfold State.writeCopy
  cases s.glReady
  · exact ⟨s.gl, rfl⟩
  · exact ⟨_, glWrite_eq s a _⟩

/-! ## What an offer leaves alone -/

/-- A field before the registers of the leap table. -/
def Fld.beforeLeaps (f : Fld) : Prop := f.key < 0x0D0038 * 64

theorem beforeLeaps_tallied {f : Fld} (hf : f.beforeLeaps) : f.tallied = false := by
  unfold Fld.beforeLeaps at hf
  exact tallied_of_window (by omega)

/-- The part before the leap table and the baseband's hidden state are as they were. -/
def LeapOnly (s t : State) : Prop := t.gn = s.gn ∧ ∀ f : Fld, f.beforeLeaps → t.get f = s.get f

theorem LeapOnly.refl (s : State) : LeapOnly s s := ⟨rfl, fun _ _ => rfl⟩
theorem LeapOnly.trans (h : LeapOnly s t) (g : LeapOnly t u) : LeapOnly s u :=
  ⟨g.1.trans h.1, fun f hf => (g.2 f hf).trans (h.2 f hf)⟩

theorem LeapOnly.put (s : State) (g : Fld) (v : Nat) (hg : 0x0D0038 * 64 ≤ g.key) : LeapOnly s (s.put g v) :=
  ⟨rfl, fun f hf => State.get_put_other s g f v (Nat.ne_of_lt (Nat.lt_of_lt_of_le hf hg))⟩

theorem LeapOnly.event (s : State) (g : Fld) (code inst arg : Nat) (hg : 0x0D0038 * 64 ≤ g.key) : LeapOnly s (s.event g code inst arg) :=
  ⟨State.event_gn s g code inst arg,
    fun f hf => State.event_get_other s g f code inst arg (Nat.ne_of_lt (Nat.lt_of_lt_of_le hf hg)) (beforeLeaps_tallied hf)⟩

/-- One row of the table. -/
def State.putLeap (s : State) (j : Nat) (e : Leap) (valid : Bool) : State :=
  (((s.put (F.PT_LEAP_TE j) e.te).putI (F.PT_LEAP_DELTA j) e.delta).put (F.PT_LEAP_SRC j) e.src).putB (F.PT_LEAP_VALID j) valid

/-- The fields of row j. -/
def leapRow (j : Nat) : List Fld := [F.PT_LEAP_TE j, F.PT_LEAP_DELTA j, F.PT_LEAP_SRC j, F.PT_LEAP_VALID j]

theorem key_leapRow (j : Nat) : ∀ f ∈ leapRow j, 0x0D0100 * 64 ≤ f.key := by
  simp only [leapRow, List.forall_mem_cons, List.not_mem_nil, false_implies, implies_true, and_true, Fld.key, F.PT_LEAP_TE, F.PT_LEAP_DELTA,
    F.PT_LEAP_SRC, F.PT_LEAP_VALID]
  omega

theorem LeapOnly.putLeap (s : State) (j : Nat) (e : Leap) (valid : Bool) : LeapOnly s (s.putLeap j e valid) := by
  have h (t : State) (f : Fld) (hf : f ∈ leapRow j) (v : Nat) : LeapOnly t (t.put f v) :=
    LeapOnly.put t f v (by have := key_leapRow j f hf; omega)
  exact (((h s _ (by simp [leapRow]) _).trans (h _ (F.PT_LEAP_DELTA j) (by simp [leapRow]) _)).trans
    (h _ (F.PT_LEAP_SRC j) (by simp [leapRow]) _)).trans (h _ (F.PT_LEAP_VALID j) (by simp [leapRow]) _)

theorem leapOnly_putLeaps (s : State) (l : List Leap) : LeapOnly s (s.putLeaps l) := by
  have hrows : LeapOnly s (s.forAll (List.range 64) fun t j => t.putLeap j (l.getD j ⟨0, 0, 0⟩) (decide (j < l.length))) :=
    forAll_induct (P := LeapOnly s) (fun t j _ h => h.trans (LeapOnly.putLeap t j _ _)) (LeapOnly.refl s)
  exact hrows.trans (LeapOnly.put _ F.PT_LEAP_CFG_COUNT _ (by decide))

theorem leapOnly_leapChanged (s : State) (j src : Nat) : LeapOnly s (s.leapChanged j src) := by
  obtain ⟨gl, h⟩ := writeCopy_eq s leapCopy ((List.range 64).map fun j => s.word (fieldsAt (F.PT_LEAP_TE j).off))
  unfold State.leapChanged State.copyLeaps
  rw [h]
  have hcopy : LeapOnly s { s with gl := gl } := ⟨rfl, fun _ _ => rfl⟩
  exact (hcopy.trans (LeapOnly.put _ F.PT_LEAP_CFG_VER _ (by decide))).trans (LeapOnly.event _ F.PT_EVT_LEAP _ _ _ (by decide))

theorem leapOnly_leapRefused (s : State) (reason : Nat) : LeapOnly s (s.leapRefused reason) :=
  LeapOnly.event s F.PT_EVT_LEAP_REJ _ _ _ (by decide)

/-- The table's new rows and what follows a change of it (R273). -/
def State.enterLeaps (s : State) (full : Bool) (l : List Leap) (j src : Nat) : State :=
  ((s.when full (·.event F.PT_EVT_LEAP_FULL 0x073B 0 0)).putLeaps l).leapChanged j src

/-- What an insertion or an offer e does to two states: it is refused in both, changes neither, or enters the same rows in both (R273, R274). -/
def DoAlike (e : Leap) (f : State → Leap → State) (s t : State) : Prop :=
  (∃ reason, f s e = s.leapRefused reason ∧ f t e = t.leapRefused reason) ∨ (f s e = s ∧ f t e = t) ∨
    ∃ full rows j, f s e = s.enterLeaps full rows j e.src ∧ f t e = t.enterLeaps full rows j e.src

/-- The table alone decides what becomes of an insertion. -/
theorem insertLeap_alike (e : Leap) (h : t.leaps = s.leaps) : DoAlike e State.insertLeap s t := by
  unfold DoAlike State.insertLeap
  simp only [h]
  split
  · exact .inl ⟨_, rfl, rfl⟩
  · exact .inr (.inr ⟨_, _, _, rfl, rfl⟩)

/-- The table alone decides what becomes of an offer. -/
theorem offerLeap_alike (e : Leap) (h : t.leaps = s.leaps) : DoAlike e State.offerLeap s t := by
  have hinsert := insertLeap_alike e h
  unfold DoAlike at hinsert ⊢
  unfold State.offerLeap
  simp only [h]
  split
  · exact .inl ⟨_, rfl, rfl⟩
  · split
    · exact .inr (.inl ⟨rfl, rfl⟩)
    · exact hinsert

theorem leapOnly_offerLeap (s : State) (e : Leap) : LeapOnly s (s.offerLeap e) := by
  obtain ⟨reason, h, -⟩ | ⟨h, -⟩ | ⟨full, rows, j, h, -⟩ := offerLeap_alike (s := s) e rfl <;> rw [h]
  · exact leapOnly_leapRefused s reason
  · exact LeapOnly.refl s
  · refine LeapOnly.trans ?_ ((leapOnly_putLeaps _ rows).trans (leapOnly_leapChanged _ j e.src))
    cases full
    · exact LeapOnly.refl s
    · exact LeapOnly.event s F.PT_EVT_LEAP_FULL _ _ _ (by decide)

/-! ## The table after an offer -/

/-- Two states show the same rows. -/
def SameRows (s t : State) : Prop := ∀ j < 64, ∀ f ∈ leapRow j, t.get f = s.get f

theorem leaps_congr (h : SameRows s t) : t.leaps = s.leaps := by
  unfold State.leaps
  refine List.filterMap_congr fun j hj => ?_
  have hrow := h j (List.mem_range.mp hj)
  simp only [leapRow, List.forall_mem_cons, List.not_mem_nil, false_implies, implies_true, and_true] at hrow
  obtain ⟨hte, hdelta, hsrc, hvalid⟩ := hrow
  have hon : t.on (F.PT_LEAP_VALID j) = s.on (F.PT_LEAP_VALID j) := congrArg (· != 0) hvalid
  have hsigned : t.getI (F.PT_LEAP_DELTA j) = s.getI (F.PT_LEAP_DELTA j) := by
    unfold State.getI
    rw [hdelta]
  rw [hon, hte, hsigned, hsrc]

theorem key_leapRow_lt {j : Nat} (hj : j < 64) : ∀ f ∈ leapRow j, 0x0D0100 * 64 ≤ f.key ∧ f.key < 0x0D0300 * 64 := by
  simp only [leapRow, List.forall_mem_cons, List.not_mem_nil, false_implies, implies_true, and_true, Fld.key, F.PT_LEAP_TE, F.PT_LEAP_DELTA,
    F.PT_LEAP_SRC, F.PT_LEAP_VALID]
  omega

/-- What keeps all fields but some outside the table keeps its rows. -/
theorem Keeps.sameRows (h : Keeps s t fs) (hfs : ∀ k ∈ fs.map Fld.key, k < 0x0D0100 * 64) : SameRows s t := fun j hj f hf => by
  obtain ⟨hlo, hhi⟩ := key_leapRow_lt hj f hf
  exact h.get f (fun hm => absurd (hfs _ hm) (by omega)) (tallied_of_window (by omega))

theorem leaps_leapRefused (s : State) (reason : Nat) : (s.leapRefused reason).leaps = s.leaps :=
  leaps_congr (((Keeps.refl s [F.PT_EVT_LEAP_REJ]).event _ _ _ _ (by simp)).sameRows (by decide))

theorem leaps_leapChanged (s : State) (j src : Nat) : (s.leapChanged j src).leaps = s.leaps := by
  obtain ⟨gl, h⟩ := writeCopy_eq s leapCopy ((List.range 64).map fun j => s.word (fieldsAt (F.PT_LEAP_TE j).off))
  unfold State.leapChanged State.copyLeaps
  rw [h]
  have hcopy : Keeps s { s with gl := gl } [F.PT_LEAP_CFG_VER, F.PT_EVT_LEAP] := Keeps.ofCells rfl
  exact leaps_congr (((hcopy.put F.PT_LEAP_CFG_VER _ (by simp)).event F.PT_EVT_LEAP _ _ _ (by simp)).sameRows (by decide))

/-- A value written to a place is read from it, whatever stood there. -/
theorem readCell_write_key (k v d d' : Nat) (l : List (Nat × Nat)) : readCell k d' (writeCell k v d l) = if v = d then d' else v := by
  unfold writeCell
  split
  · exact readCell_drop_same k d' l
  · exact readCell_insert_same k v d' _ (dropCell_ne k l)

/-- Two states that agree on a field agree on it after the same write. -/
theorem get_put_congr (f : Fld) (v : Nat) {g : Fld} (h : t.get g = s.get g) : (t.put f v).get g = (s.put f v).get g := by
  by_cases hk : g.key = f.key
  · unfold State.get State.put
    dsimp only
    rw [hk, readCell_write_key, readCell_write_key]
  · rw [State.get_put_other _ _ _ _ hk, State.get_put_other _ _ _ _ hk, h]

theorem SameRows.put (h : SameRows s t) (f : Fld) (v : Nat) : SameRows (s.put f v) (t.put f v) :=
  fun j hj g hg => get_put_congr f v (h j hj g hg)

theorem SameRows.forAll {α : Type} {f : State → α → State} (hf : ∀ s t x, SameRows s t → SameRows (f s x) (f t x)) (l : List α)
    (h : SameRows s t) : SameRows (s.forAll l f) (t.forAll l f) := by
  induction l generalizing s t with
  | nil => exact h
  | cons x l ih => exact ih (hf s t x h)

theorem SameRows.putLeaps (h : SameRows s t) (l : List Leap) : SameRows (s.putLeaps l) (t.putLeaps l) := by
  have hrows := SameRows.forAll (f := fun t j => t.putLeap j (l.getD j ⟨0, 0, 0⟩) (decide (j < l.length)))
    (fun s t j h => (((h.put _ _).put _ _).put _ _).put _ _) (List.range 64) h
  exact hrows.put _ _

/-- The table after an offer is what the table before it makes of the offer. -/
theorem leaps_offerLeap (e : Leap) (h : SameRows s t) : (t.offerLeap e).leaps = (s.offerLeap e).leaps := by
  have hl := leaps_congr h
  obtain ⟨reason, hs, ht⟩ | ⟨hs, ht⟩ | ⟨full, rows, j, hs, ht⟩ := offerLeap_alike e hl <;> rw [hs, ht]
  · rw [leaps_leapRefused, leaps_leapRefused, hl]
  · exact hl
  · rw [State.enterLeaps, State.enterLeaps, leaps_leapChanged, leaps_leapChanged]
    have hfull (u : State) : SameRows u (u.when full (·.event F.PT_EVT_LEAP_FULL 0x073B 0 0)) :=
      ((Keeps.refl u [F.PT_EVT_LEAP_FULL]).when full _ fun _ => (Keeps.refl u _).event F.PT_EVT_LEAP_FULL _ _ _ (by simp)).sameRows (by decide)
    refine leaps_congr (SameRows.putLeaps (fun i hi f hf => ?_) rows)
    rw [hfull t i hi f hf, hfull s i hi f hf, h i hi f hf]

end Sys2Proof.Machine
end

section
/-! PROOF. The GNSS position, its averages and its record, timeouts of the solution, and leap-second data (O40; R137 to R140, R145, R147, R274). -/
namespace Sys2Proof.Machine

variable {s t u : State} {path : Path} {v : Word} {fs : List Fld}

/-! ## The baseband's hidden state and its registers -/

/-- t differs from s in the baseband's hidden state, and else as a frame allows. -/
def GnFrame (s t : State) (fs : List Fld) : Prop := Frame { s with gn := t.gn } t fs

theorem GnFrame.ofFrame (h : Frame s t fs) : GnFrame s t fs := h.withGn t.gn
theorem GnFrame.trans (h : GnFrame s t fs) (g : GnFrame t u fs) : GnFrame s u fs := Frame.trans (Frame.withGn h u.gn) g
theorem GnFrame.setGn (s : State) (g : GnPart) (fs : List Fld) : GnFrame s { s with gn := g } fs := Frame.refl _ fs

/-- Survey-in starts from zero (R138). -/
theorem startSurvey_starts (s : State) : GnFrame s s.startSurvey [F.GN_POS_STAT_ELAPSED, F.GN_POS_STAT_SURVEY_UNC] ∧
    s.startSurvey.gn.survey = true ∧ s.startSurvey.gn.surveyN = 0 ∧ s.startSurvey.get F.GN_POS_STAT_ELAPSED = 0 := by
  refine ⟨?_, rfl, rfl, ?_⟩
  · refine Frame.withGn (s := s) (t := (s.put F.GN_POS_STAT_ELAPSED 0).put F.GN_POS_STAT_SURVEY_UNC 0) ?_ s.startSurvey.gn
    exact (Frame.put s _ 0 (.inl (by simp))).trans (Frame.put _ _ 0 (.inl (by simp)))
  · refine (State.get_put_other (s.put F.GN_POS_STAT_ELAPSED 0) F.GN_POS_STAT_SURVEY_UNC F.GN_POS_STAT_ELAPSED 0 (by decide)).trans ?_
    rw [State.get_put_same]
    rfl

/-! ## The solution becomes invalid (R147) -/

/-- What the loss of the solution writes. -/
def lostFields : List Fld := [F.GN_STAT_SOL_VALID, F.GN_STAT_STATE, F.GN_EVT_SOL_LOST]

theorem gnInvalid_off (h : s.on F.GN_STAT_SOL_VALID = false) : s.gnInvalid = s := by
  unfold State.gnInvalid
  rw [h]
  rfl

theorem gnInvalid_on (h : s.on F.GN_STAT_SOL_VALID = true) : s.gnInvalid =
    ((s.put F.GN_STAT_SOL_VALID 0).when (s.get F.GN_STAT_STATE == 2) (·.put F.GN_STAT_STATE 3)).event F.GN_EVT_SOL_LOST 0x0304 0 0 := by
  unfold State.gnInvalid
  rw [h]
  rfl

/-- A valid solution is lost with its event, and TIMING becomes NO_SOLUTION. -/
theorem gnInvalid_ends (h : s.on F.GN_STAT_SOL_VALID = true) : s.gnInvalid.get F.GN_STAT_SOL_VALID = 0 ∧
    s.gnInvalid.get F.GN_STAT_STATE = (if s.get F.GN_STAT_STATE = 2 then 3 else s.get F.GN_STAT_STATE) ∧
    s.gnInvalid.get F.GN_EVT_SOL_LOST = 1 ∧ Frame s s.gnInvalid lostFields ∧ Logs s s.gnInvalid 0x0304 0x08 0 0 := by
  rw [gnInvalid_on h]
  have hframe : Frame s ((s.put F.GN_STAT_SOL_VALID 0).when (s.get F.GN_STAT_STATE == 2) (·.put F.GN_STAT_STATE 3)) lostFields :=
    (Frame.put s _ 0 (.inl (by decide))).trans (Frame.when _ _ _ fun _ => Frame.put _ _ 3 (.inl (by decide)))
  have hvalid : ((s.put F.GN_STAT_SOL_VALID 0).when (s.get F.GN_STAT_STATE == 2) (·.put F.GN_STAT_STATE 3)).get F.GN_STAT_SOL_VALID = 0 := by
    rw [get_when fun _ => State.get_put_other _ _ _ _ (by decide), State.get_put_same]
    rfl
  have hstate : ((s.put F.GN_STAT_SOL_VALID 0).when (s.get F.GN_STAT_STATE == 2) (·.put F.GN_STAT_STATE 3)).get F.GN_STAT_STATE =
      if s.get F.GN_STAT_STATE = 2 then 3 else s.get F.GN_STAT_STATE := by
    by_cases h2 : s.get F.GN_STAT_STATE = 2
    · rw [if_pos h2, beq_iff_eq.mpr h2, State.when_true, State.get_put_same]
      rfl
    · rw [if_neg h2, beq_eq_false_iff_ne.mpr h2, State.when_false, State.get_put_other _ _ _ _ (by decide)]
  have hjl : ((s.put F.GN_STAT_SOL_VALID 0).when (s.get F.GN_STAT_STATE == 2) (·.put F.GN_STAT_STATE 3)).jl = s.jl :=
    when_inv State.jl _ _ rfl
  generalize (s.put F.GN_STAT_SOL_VALID 0).when (s.get F.GN_STAT_STATE == 2) (·.put F.GN_STAT_STATE 3) = u at hframe hvalid hstate hjl ⊢
  refine ⟨?_, ?_, State.event_flag u _ _ _ _ (by decide) (by decide), hframe.trans (Frame.event u _ _ _ _ (by decide)), ?_⟩
  · exact (State.event_get_other u _ _ _ _ _ (by decide) (by decide)).trans hvalid
  · exact (State.event_get_other u _ _ _ _ _ (by decide) (by decide)).trans hstate
  · exact logs_event hframe.quiet hjl F.GN_EVT_SOL_LOST 0x0304 0 0

theorem Frame.gnInvalid (s : State) : Frame s s.gnInvalid lostFields := by
  cases h : s.on F.GN_STAT_SOL_VALID
  · rw [gnInvalid_off h]
    exact Frame.refl s _
  · obtain ⟨-, -, -, hframe, -⟩ := gnInvalid_ends h
    exact hframe

theorem does_gnSolutionTimeout (hp : s.power = .run) (hv : s.on F.GN_STAT_SOL_VALID = true)
    (hdue : ∀ v, s.gn.validAt = some v → v + s.validSpan ≤ s.now) : Does .gnSolutionTimeout s fun t =>
      t.get F.GN_STAT_SOL_VALID = 0 ∧
      t.get F.GN_STAT_STATE = (if s.get F.GN_STAT_STATE = 2 then 3 else s.get F.GN_STAT_STATE) ∧
      Frame s t [F.GN_STAT_SOL_VALID, F.GN_STAT_STATE, F.GN_EVT_SOL_LOST] ∧ Logs s t 0x0304 0x08 0 0 := by
  have h : exec .gnSolutionTimeout s = running s State.gnInvalid := by
    show execGnSolutionTimeout s = _
    unfold execGnSolutionTimeout
    refine running_congr ?_
    cases hat : s.gn.validAt with
    | none => rfl
    | some v => simp [State.when, hdue v hat]
  obtain ⟨hvalid, hstate, -, hframe, hlogs⟩ := gnInvalid_ends hv
  refine does_running h hp ⟨?_, ?_, hframe.settled, hlogs.ofJl (State.settle_jl _)⟩
  · rwa [State.settle_get]
  · rwa [State.settle_get]

theorem does_gnSolutionTimeout_idle (hp : s.power = .run)
    (h : s.on F.GN_STAT_SOL_VALID = false ∨ ¬∀ v, s.gn.validAt = some v → v + s.validSpan ≤ s.now) :
    Does .gnSolutionTimeout s fun t => Frame s t [] := by
  have hidle : exec .gnSolutionTimeout s = running s id := by
    show execGnSolutionTimeout s = _
    unfold execGnSolutionTimeout
    refine running_congr ?_
    obtain hoff | hdue := h
    · rw [State.when, gnInvalid_off hoff, ite_self]
      rfl
    · simp only [not_forall, Nat.not_le] at hdue
      obtain ⟨v, hat, hlt⟩ := hdue
      simp [State.when, hat, Nat.not_le.mpr hlt]
  exact does_running hidle hp (Frame.settle s [])

/-! ## The average of the residuals (R139) -/

/-- The next average begins. -/
def State.nextAverage (s : State) : State := { s with gn.residN := 0, gn.residSum := 0 }

/-- The position is found inconsistent. -/
def State.positionBad (s : State) : State :=
  { (s.event F.GN_EVT_POS_BAD 0x0306 0 0).put F.GN_POS_STAT_VALID 0 with gn.badRun := 0, gn.posWritten := [false, false, false] }

/-- There is an average to judge. -/
def State.averageJudged (s : State) : Prop := 0 < s.gn.residN ∧ s.posHeld = true

theorem exec_gnPosAverage (s : State) : exec .gnPosAverage s = running s fun s =>
    if s.gn.residN = 0 ∨ !s.posHeld then s.nextAverage
    else if s.gn.residSum.natAbs ≤ s.get F.GN_POS_CFG_POS_LIM * 1000 * s.gn.residN then { s.nextAverage with gn.badRun := 0 }
    else if s.gn.badRun < 2 then { s.nextAverage with gn.badRun := s.gn.badRun + 1 }
    else s.nextAverage.positionBad.when (s.on F.GN_POS_CFG_AUTO_RESURVEY) (·.startSurvey) := rfl

theorem does_gnPosAverage_unjudged (hp : s.power = .run) (h : ¬s.averageJudged) : Does .gnPosAverage s fun t => Frame s.nextAverage t [] := by
  refine does_running (exec_gnPosAverage s) hp ?_
  rw [if_pos]
  · exact Frame.settle _ []
  · unfold State.averageJudged at h
    cases hheld : s.posHeld
    · exact .inr rfl
    · exact .inl (by simpa [hheld] using h)

theorem averageJudged_not (h : s.averageJudged) : ¬(s.gn.residN = 0 ∨ (!s.posHeld) = true) := by
  obtain ⟨hn, hheld⟩ := h
  rw [hheld]
  simpa using hn.ne'

section
variable (hp : s.power = .run) (h : s.averageJudged)
include hp h

theorem does_gnPosAverage_within (hw : s.gn.residSum.natAbs ≤ s.get F.GN_POS_CFG_POS_LIM * 1000 * s.gn.residN) :
    Does .gnPosAverage s fun t => Frame { s.nextAverage with gn.badRun := 0 } t [] := by
  refine does_running (exec_gnPosAverage s) hp ?_
  rw [if_neg (averageJudged_not h), if_pos hw]
  exact Frame.settle _ []

theorem does_gnPosAverage_counts (hw : ¬s.gn.residSum.natAbs ≤ s.get F.GN_POS_CFG_POS_LIM * 1000 * s.gn.residN) (hb : s.gn.badRun < 2) :
    Does .gnPosAverage s fun t => Frame { s.nextAverage with gn.badRun := s.gn.badRun + 1 } t [] := by
  refine does_running (exec_gnPosAverage s) hp ?_
  rw [if_neg (averageJudged_not h), if_neg hw, if_pos hb]
  exact Frame.settle _ []

end

/-- What the third bad average in a row writes. -/
def badFields : List Fld := [F.GN_POS_STAT_VALID, F.GN_POS_STAT_ELAPSED, F.GN_POS_STAT_SURVEY_UNC, F.GN_EVT_POS_BAD]

theorem positionBad_clears (s : State) : s.positionBad.get F.GN_POS_STAT_VALID = 0 ∧ s.positionBad.gn.badRun = 0 ∧
    s.positionBad.gn.survey = s.gn.survey ∧ GnFrame s s.positionBad badFields ∧ Logs s s.positionBad 0x0306 0x08 0 0 := by
  refine ⟨State.get_put_same _ F.GN_POS_STAT_VALID 0, rfl, ?_, ?_, ?_⟩
  · show (s.event F.GN_EVT_POS_BAD 0x0306 0 0).gn.survey = s.gn.survey
    rw [State.event_gn]
  · exact Frame.withGn ((Frame.event s F.GN_EVT_POS_BAD 0x0306 0 0 (by decide)).trans (Frame.put _ F.GN_POS_STAT_VALID 0 (.inl (by decide))))
      s.positionBad.gn
  · exact (State.event_logs s F.GN_EVT_POS_BAD 0x0306 0 0).ofJl rfl

theorem does_gnPosAverage_bad (hp : s.power = .run) (h : s.averageJudged)
    (hw : ¬s.gn.residSum.natAbs ≤ s.get F.GN_POS_CFG_POS_LIM * 1000 * s.gn.residN) (hb : 2 ≤ s.gn.badRun) :
    Does .gnPosAverage s fun t => t.get F.GN_POS_STAT_VALID = 0 ∧ t.gn.badRun = 0 ∧
      (s.on F.GN_POS_CFG_AUTO_RESURVEY = true → t.gn.survey = true ∧ t.get F.GN_POS_STAT_ELAPSED = 0) ∧
      (s.on F.GN_POS_CFG_AUTO_RESURVEY = false → t.gn.survey = s.gn.survey) ∧ Logs s t 0x0306 0x08 0 0 ∧
      Frame { s with gn := t.gn } t badFields := by
  refine does_running (exec_gnPosAverage s) hp ?_
  rw [if_neg (averageJudged_not h), if_neg hw, if_neg (Nat.not_lt.mpr hb)]
  have hnext : GnFrame s s.nextAverage badFields := GnFrame.setGn s _ _
  obtain ⟨hvalid, hrun, hsurvey, hframe, hlogs⟩ := positionBad_clears s.nextAverage
  replace hlogs : Logs s s.nextAverage.positionBad 0x0306 0x08 0 0 := hlogs
  replace hsurvey : s.nextAverage.positionBad.gn.survey = s.gn.survey := hsurvey
  replace hframe := hnext.trans hframe
  simp only [State.settle_get, State.settle_gn]
  generalize s.nextAverage.positionBad = u at hvalid hrun hsurvey hframe hlogs ⊢
  cases s.on F.GN_POS_CFG_AUTO_RESURVEY
  · exact ⟨hvalid, hrun, nofun, fun _ => hsurvey, hlogs.ofJl (State.settle_jl u), Frame.settled hframe⟩
  · obtain ⟨hstart, hon, -, helapsed⟩ := startSurvey_starts u
    refine ⟨?_, hrun, fun _ => ⟨hon, helapsed⟩, nofun, hlogs.ofJl ((State.settle_jl _).trans rfl), ?_⟩
    · exact (hstart.keeps.get F.GN_POS_STAT_VALID (by decide) (by decide)).trans hvalid
    · exact Frame.settled (hframe.trans (Frame.mono hstart (by decide)))

/-! ## Evidence (R140) -/

theorem does_gnEvidenceExpiry (hp : s.power = .run) :
    (Does (.gnEvidenceExpiry 0) s fun t => Frame { s with gn.evAgc := false, gn.bothSince := none } t []) ∧
      (Does (.gnEvidenceExpiry 1) s fun t => Frame { s with gn.evCn0 := false, gn.bothSince := none } t []) :=
  ⟨does_running (f := fun s => { s with gn.evAgc := false, gn.bothSince := none }) rfl hp (Frame.settle _ []),
    does_running (f := fun s => { s with gn.evCn0 := false, gn.bothSince := none }) rfl hp (Frame.settle _ [])⟩

/-! ## Positions entered (R138) -/

theorem posAxis_width (axis : Fin 3) : (posAxis axis).width = 64 := by fin_cases axis <;> rfl

theorem get_put_axis (axis : Fin 3) (v : Word) (s : State) : (s.put (posAxis axis) v.toNat).get (posAxis axis) = v.toNat := by
  rw [State.get_put_same, posAxis_width]
  exact Nat.mod_eq_of_lt v.isLt

section
variable {axis : Fin 3} (hp : s.power = .run) (hj : s.judge path (posAxis axis).off true = .served)
include hp hj

theorem does_gnPosWrite_dropped (h : s.get F.GN_POS_CFG_MODE ≠ 1) : Does (.gnPosWrite path axis v) s fun t => Frame s t [] := by
  refine does_write (f := (·.writePos axis v)) rfl hp hj ?_
  rw [State.writePos, if_pos h]
  exact Frame.settle s []

theorem does_gnPosWrite_axis (h : s.get F.GN_POS_CFG_MODE = 1) (hw : (assign false axis true s.gn.posWritten).all id = false) :
    Does (.gnPosWrite path axis v) s fun t => t.get (posAxis axis) = v.toNat ∧
      Frame { s with gn.posWritten := assign false axis true s.gn.posWritten } t [posAxis axis] := by
  refine does_write (f := (·.writePos axis v)) rfl hp hj ?_
  rw [State.writePos, if_neg (not_not.mpr h)]
  simp only [hw, State.when_false]
  refine ⟨(State.settle_get _ _).trans (get_put_axis axis v s), Frame.settled ?_⟩
  exact (Frame.put s (posAxis axis) v.toNat (.inl (by simp))).mapGn fun g => { g with posWritten := assign false axis true g.posWritten }

theorem does_gnPosWrite_third (h : s.get F.GN_POS_CFG_MODE = 1) (hw : (assign false axis true s.gn.posWritten).all id = true) :
    Does (.gnPosWrite path axis v) s fun t => t.get (posAxis axis) = v.toNat ∧ t.get F.GN_POS_STAT_VALID = 1 ∧ t.get F.GN_POS_STAT_SRC = 2 ∧
      Frame { s with gn.posWritten := [false, false, false], gn.badRun := 0 } t [posAxis axis, F.GN_POS_STAT_VALID, F.GN_POS_STAT_SRC] := by
  refine does_write (f := (·.writePos axis v)) rfl hp hj ?_
  rw [State.writePos, if_neg (not_not.mpr h)]
  simp only [hw, State.when_true]
  have hne : (posAxis axis).key ≠ F.GN_POS_STAT_VALID.key ∧ (posAxis axis).key ≠ F.GN_POS_STAT_SRC.key := by fin_cases axis <;> decide
  have haxis := get_put_axis axis v s
  have hframe := Frame.put (fs := [posAxis axis, F.GN_POS_STAT_VALID, F.GN_POS_STAT_SRC]) s (posAxis axis) v.toNat (.inl (by simp))
  generalize s.put (posAxis axis) v.toNat = u at haxis hframe ⊢
  have hget := get_putAll u (l := [(F.GN_POS_STAT_VALID, 1), (F.GN_POS_STAT_SRC, 2)]) (by decide)
  simp only [List.forall_mem_cons, List.not_mem_nil, false_implies, implies_true, and_true] at hget
  obtain ⟨hvalid, hsrc⟩ := hget
  refine ⟨(State.settle_get _ _).trans ?_, (State.settle_get _ _).trans hvalid, (State.settle_get _ _).trans hsrc, Frame.settled ?_⟩
  · exact (get_putAll_other u (l := [(F.GN_POS_STAT_VALID, 1), (F.GN_POS_STAT_SRC, 2)]) (by simpa using hne)).trans haxis
  · exact (hframe.trans ((Frame.putAll_fst u [(F.GN_POS_STAT_VALID, 1), (F.GN_POS_STAT_SRC, 2)]).mono (by simp))).mapGn fun g =>
      { g with posWritten := [false, false, false], badRun := 0 }

end

/-- GN_POS_CFG takes its fields, and survey-in starts or ends (R138). -/
theorem does_gnPosModeWrite (hp : s.power = .run) (hj : s.judge path F.GN_POS_CFG_MODE.off true = .served) :
    Does (.gnPosModeWrite path v) s fun t => (∀ f ∈ fieldsAt F.GN_POS_CFG_MODE.off, t.get f = f.ofWord v) ∧
      (posMode (F.GN_POS_CFG_MODE.ofWord v) = 0 → t.gn.survey = true ∧ t.gn.surveyN = 0 ∧ t.get F.GN_POS_STAT_ELAPSED = 0) ∧
      (posMode (F.GN_POS_CFG_MODE.ofWord v) ≠ 0 → t.gn.survey = false ∧ t.gn.posWritten = [false, false, false]) ∧
      Frame { s with gn := t.gn } t ([F.GN_POS_STAT_ELAPSED, F.GN_POS_STAT_SURVEY_UNC] ++ fieldsAt F.GN_POS_CFG_MODE.off) := by
  refine does_write (f := (·.writePosCfg v)) rfl hp hj ?_
  have hfields := fun f hf => putWord_get (s := s) F.GN_POS_CFG_MODE.off v (f := f) hf
  have hload : GnFrame s (s.putWord (fieldsAt F.GN_POS_CFG_MODE.off) v.toNat)
      ([F.GN_POS_STAT_ELAPSED, F.GN_POS_STAT_SURVEY_UNC] ++ fieldsAt F.GN_POS_CFG_MODE.off) :=
    GnFrame.ofFrame (Frame.putWord s _ fun f hf => List.mem_map_of_mem (List.mem_append_right _ hf))
  have hmode := hfields F.GN_POS_CFG_MODE (by decide +kernel)
  unfold State.writePosCfg
  dsimp only
  rw [hmode]
  generalize s.putWord (fieldsAt F.GN_POS_CFG_MODE.off) v.toNat = u at hfields hload ⊢
  simp only [State.settle_get, State.settle_gn]
  split
  · next h0 =>
    obtain ⟨hstart, hon, hn, helapsed⟩ := startSurvey_starts u
    refine ⟨fun f hf => ?_, fun _ => ⟨hon, hn, helapsed⟩, fun hne => absurd h0 hne, Frame.settled (hload.trans (Frame.mono hstart ?_))⟩
    · have hoff : f.off = 0x080028 := off_of_mem_fieldsAt hf
      obtain ⟨hlo, -⟩ := sound_of_mem_fieldsAt hf
      have hkey : f.key = 0x080028 * 64 + f.lo := by rw [Fld.key, hoff]
      have hge : ∀ k ∈ [F.GN_POS_STAT_ELAPSED, F.GN_POS_STAT_SURVEY_UNC].map Fld.key, 0x080048 * 64 ≤ k := by decide
      exact (hstart.keeps.get f (fun hm => absurd (hge _ hm) (by omega)) (tallied_of_window (by omega))).trans (hfields f hf)
    · intro k hk
      rw [List.map_append]
      exact List.mem_append_left _ hk
  · next h0 => exact ⟨hfields, fun h => absurd h h0, fun _ => ⟨rfl, rfl⟩,
      Frame.settled (hload.trans (GnFrame.setGn u { u.gn with survey := false, posWritten := [false, false, false] } _))⟩

/-! ## Leap-second data (R137, R274) -/

/-- A received offset is compared with the table, once for the table's own report and once for the baseband's. -/
def State.leapCompared (s : State) (old : Int) : State :=
  if s.delta s.sec = some old then { s.checkOffset 0 old with gn.misOffset := none }
  else if s.gn.misOffset = some old then s.checkOffset 0 old
  else { (s.checkOffset 0 old).event F.GN_EVT_LEAP_MIS 0x030C 0 0 with gn.misOffset := some old }

/-- The entry that planned leap data name (R137). -/
def State.leapPlanned (s : State) (current future : Int) (week day : Nat) : Leap :=
  ⟨(315964800 + s.fullWeek 0 week 8 * 604800 + day * 86400 + (current + 19) + min 0 (future - current)).toNat, future + 19, 2⟩

theorem exec_gnLeapDataDecoded (sys : BitVec 2) (current future : Int) (week day : Nat) (s : State) :
    exec (.gnLeapDataDecoded sys current future week day) s = running s fun s =>
      s.when (s.on F.GN_CFG_EN && sys.toNat == s.get F.GN_CFG_LEAP_SRC) fun s =>
        if future = current then s.leapCompared (current + 19)
        else (s.leapCompared (current + 19)).when (s.on F.PT_LEAP_CFG_AUTO_GNSS) (·.offerLeap (s.leapPlanned current future week day)) := by
  show execGnLeapDataDecoded sys current future week day s = _
  unfold execGnLeapDataDecoded State.leapCompared State.leapPlanned
  rfl

theorem leapCompared_same {old : Int} (h : s.delta s.sec = some old) :
    s.leapCompared old = { s with gn.misOffset := none, pt.offsets := assign none 0 none s.pt.offsets } := by
  unfold State.leapCompared State.checkOffset
  rw [if_pos h, if_pos h]

theorem keeps_checkOffset (s : State) (source : Nat) (old : Int) :
    Keeps s (s.checkOffset source old) [F.PT_EVT_LEAP_REJ, F.GN_EVT_LEAP_MIS] ∧ (s.checkOffset source old).gn = s.gn := by
  unfold State.checkOffset
  split
  · exact ⟨Keeps.ofCells rfl, rfl⟩
  · split
    · exact ⟨Keeps.refl s _, rfl⟩
    · exact ⟨Keeps.event (Keeps.ofCells rfl) F.PT_EVT_LEAP_REJ _ _ _ (by decide), State.event_gn _ _ _ _ _⟩

/-- A different offset is remembered, and reported where it was not (R137). -/
theorem leapCompared_other {old : Int} (h : s.delta s.sec ≠ some old) : (s.leapCompared old).gn.misOffset = some old ∧
    (s.gn.misOffset ≠ some old → (s.leapCompared old).get F.GN_EVT_LEAP_MIS = 1) ∧
    Keeps s (s.leapCompared old) [F.PT_EVT_LEAP_REJ, F.GN_EVT_LEAP_MIS] := by
  obtain ⟨hkeep, hgn⟩ := keeps_checkOffset s 0 old
  unfold State.leapCompared
  rw [if_neg h]
  generalize s.checkOffset 0 old = u at hkeep hgn ⊢
  split
  · next hmis => exact ⟨by rw [hgn, hmis], fun hne => absurd hmis hne, hkeep⟩
  · exact ⟨rfl, fun _ => State.event_flag u F.GN_EVT_LEAP_MIS _ _ _ (by decide) (by decide),
      (hkeep.event F.GN_EVT_LEAP_MIS _ _ _ (by decide)).next rfl⟩

theorem leapCompared_sameRows (s : State) (old : Int) : SameRows s (s.leapCompared old) := by
  by_cases h : s.delta s.sec = some old
  · rw [leapCompared_same h]
    exact fun _ _ _ _ => rfl
  · obtain ⟨-, -, hkeep⟩ := leapCompared_other h
    exact hkeep.sameRows (by decide)

section
variable {sys : BitVec 2} {current future : Int} {week day : Nat} (hp : s.power = .run)

include hp in
theorem does_gnLeapData_other (h : ¬(s.on F.GN_CFG_EN = true ∧ sys.toNat = s.get F.GN_CFG_LEAP_SRC)) :
    Does (.gnLeapDataDecoded sys current future week day) s fun t => Frame s t [] := by
  refine does_running (exec_gnLeapDataDecoded sys current future week day s) hp ?_
  have hoff : (s.on F.GN_CFG_EN && sys.toNat == s.get F.GN_CFG_LEAP_SRC) = false := by simpa using h
  simp only [hoff, State.when_false]
  exact Frame.settle s []

variable (h : s.on F.GN_CFG_EN = true ∧ sys.toNat = s.get F.GN_CFG_LEAP_SRC)
include h

theorem leapTaken : (s.on F.GN_CFG_EN && sys.toNat == s.get F.GN_CFG_LEAP_SRC) = true := by simpa using h

include hp

theorem does_gnLeapData_same (hd : s.delta s.sec = some (current + 19)) (hf : future = current ∨ s.on F.PT_LEAP_CFG_AUTO_GNSS = false) :
    Does (.gnLeapDataDecoded sys current future week day) s fun t =>
      Frame { s with gn.misOffset := none, pt.offsets := assign none 0 none s.pt.offsets } t [] := by
  refine does_running (exec_gnLeapDataDecoded sys current future week day s) hp ?_
  simp only [leapTaken h, State.when_true]
  have hsame := leapCompared_same hd
  split
  · rw [hsame]
    exact Frame.settle _ []
  · next hne =>
    rw [hf.resolve_left hne, State.when_false, hsame]
    exact Frame.settle _ []

theorem does_gnLeapData_differs (hd : s.delta s.sec ≠ some (current + 19)) :
    Does (.gnLeapDataDecoded sys current future week day) s fun t => t.gn.misOffset = some (current + 19) ∧
      (s.gn.misOffset ≠ some (current + 19) → t.get F.GN_EVT_LEAP_MIS = 1) := by
  refine does_running (exec_gnLeapDataDecoded sys current future week day s) hp ?_
  simp only [leapTaken h, State.when_true, State.settle_gn, State.settle_get]
  obtain ⟨hmis, hflag, -⟩ := leapCompared_other hd
  generalize s.leapCompared (current + 19) = u at hmis hflag ⊢
  split
  · exact ⟨hmis, hflag⟩
  · cases s.on F.PT_LEAP_CFG_AUTO_GNSS
    · exact ⟨hmis, hflag⟩
    · obtain ⟨hgn, hget⟩ := leapOnly_offerLeap u (s.leapPlanned current future week day)
      rw [State.when_true, hgn, hget _ (by unfold Fld.beforeLeaps; decide)]
      exact ⟨hmis, hflag⟩

theorem does_gnLeapData_offers (hf : future ≠ current) (ha : s.on F.PT_LEAP_CFG_AUTO_GNSS = true) :
    Does (.gnLeapDataDecoded sys current future week day) s fun t => t.leaps = (s.offerLeap (s.leapPlanned current future week day)).leaps := by
  refine does_running (exec_gnLeapDataDecoded sys current future week day s) hp ?_
  simp only [leapTaken h, State.when_true, if_neg hf, ha]
  have hsettle (w : State) : w.settle.leaps = w.leaps := leaps_congr fun _ _ f _ => State.settle_get w f
  rw [hsettle]
  exact leaps_offerLeap _ (leapCompared_sameRows s _)

end

end Sys2Proof.Machine
end

section
/-! PROOF. The GNSS record: what is written reads back (O40; R145). -/
namespace Sys2Proof.Machine

variable {s : State}

/-! ## Bytes and words -/

theorem readBytes_writeBytes (m : List Host.Cell) (a : Nat) (l : List Byte) : readBytes (writeBytes m a l) a l.length = l := by
  refine List.ext_getElem (by simp [readBytes]) fun i _ h => ?_
  simp only [readBytes, List.getElem_map, List.getElem_range]
  exact byteAt_writeBytes_in m a i l h

theorem length_readBytes (m : List Host.Cell) (a n : Nat) : (readBytes m a n).length = n := by simp [readBytes]

theorem ofBytesLE_bytesLE (n v : Nat) : ofBytesLE (bytesLE n v) = v % 256 ^ n := by
  induction n generalizing v with
  | zero => simp [bytesLE, ofBytesLE, Nat.mod_one]
  | succ n ih => 
    rw [bytesLE, ofBytesLE, ih, BitVec.toNat_ofNat, pow_succ' 256 n]
    exact (Nat.mod_mul (a := 256)).symm

theorem bytesLE_add (m n v : Nat) : bytesLE (m + n) v = bytesLE m v ++ bytesLE n (v / 256 ^ m) := by
  induction m generalizing v with
  | zero => simp [bytesLE]
  | succ m ih => rw [Nat.succ_add, bytesLE, bytesLE, ih, List.cons_append, Nat.div_div_eq_div_mul, pow_succ']

/-- Words of eight bytes at the head of a record are read at their places. -/
theorem at8_words (ws : List Nat) (rest : List Byte) {i : Nat} (h : i < ws.length) :
    at8 (ws.flatMap (bytesLE 8) ++ rest) (8 * i) = ws[i] % 2 ^ 64 := by
  unfold at8
  induction ws generalizing i with
  | nil => exact absurd h (Nat.not_lt_zero i)
  | cons w ws ih =>
    rw [List.flatMap_cons, List.append_assoc]
    cases i with
    | zero =>
      rw [Nat.mul_zero, List.drop_zero, List.take_left' (length_bytesLE 8 w), ofBytesLE_bytesLE]
      rfl
    | succ i =>
      rw [Nat.mul_succ, Nat.add_comm, ← List.drop_drop, List.drop_left' (length_bytesLE 8 w), ih (Nat.lt_of_succ_lt_succ h)]
      rfl

/-! ## The CRC-32C register holds 32 bits -/

theorem crcBit_lt {r : Nat} (h : r < 2 ^ 32) : crcBit r < 2 ^ 32 := by
  unfold crcBit
  split
  · exact Nat.xor_lt_two_pow (by omega) (by decide)
  · omega

theorem crcByte_lt {r : Nat} (h : r < 2 ^ 32) (b : Byte) : crcByte r b < 2 ^ 32 := by
  have hb : r ^^^ b.toNat < 2 ^ 32 := Nat.xor_lt_two_pow h (b.isLt.trans (by decide))
  exact crcBit_lt (crcBit_lt (crcBit_lt (crcBit_lt (crcBit_lt (crcBit_lt (crcBit_lt (crcBit_lt hb)))))))

theorem crcFold_lt (l : List Byte) {r : Nat} (h : r < 2 ^ 32) : l.foldl crcByte r < 2 ^ 32 := by
  induction l generalizing r with
  | nil => exact h
  | cons b l ih => exact ih (crcByte_lt h b)

theorem crc32c_lt (l : List Byte) : crc32c l < 2 ^ 32 := Nat.xor_lt_two_pow (crcFold_lt l (by decide)) (by decide)

/-! ## The record -/

/-- The count of record writes so far. -/
def State.recordCount (s : State) : Nat := match s.gnRecord with | some l => ofBytesLE ((l.drop 8).take 8) | none => 0

/-- The words at the head of the record. -/
def State.recordWords (s : State) : List Nat :=
  [1, s.recordCount + 1, s.sec, nsfOf s.now, s.get F.GN_POS_X_X, s.get F.GN_POS_Y_Y, s.get F.GN_POS_Z_Z,
    s.get F.GN_POS_STAT_VALID + s.get F.GN_POS_STAT_SRC * 2]

/-- What follows them. -/
def State.recordTail (s : State) : List Byte := readBytes s.gn.nav 0x40 0x10C0 ++ s.recordEphs ++ zeros 376

/-- The record before its CRC. -/
def State.recordBody (s : State) : List Byte := s.recordWords.flatMap (bytesLE 8) ++ s.recordTail

/-- A record with its CRC. -/
def sealed (body : List Byte) : List Byte := body ++ bytesLE 8 (crc32c body)

theorem writeGnRecord_eq (s : State) : s.writeGnRecord = { s with firn := writeBytes s.firn gnBase (sealed s.recordBody) } := by
  have hbody : bytesLE 8 1 ++ bytesLE 8 (s.recordCount + 1) ++ bytesLE 8 s.sec ++ bytesLE 8 (nsfOf s.now) ++
      bytesLE 8 (s.get F.GN_POS_X_X) ++ bytesLE 8 (s.get F.GN_POS_Y_Y) ++ bytesLE 8 (s.get F.GN_POS_Z_Z) ++
      bytesLE 8 (s.get F.GN_POS_STAT_VALID + s.get F.GN_POS_STAT_SRC * 2) ++ readBytes s.gn.nav 0x40 0x10C0 ++ s.recordEphs ++ zeros 376 =
      s.recordBody := by
    simp only [State.recordBody, State.recordWords, State.recordTail, List.flatMap_cons, List.flatMap_nil, List.append_assoc, List.nil_append]
  unfold State.recordCount at hbody
  unfold State.writeGnRecord sealed
  cases hrecord : s.gnRecord <;>
  · simp only [hrecord] at hbody ⊢
    rw [hbody]

theorem length_ephRecord (e : GnEph) : e.record.length = 144 := by
  simp only [GnEph.record, List.length_append, length_bytesLE, length_zeros, List.length_take]
  omega

theorem length_recordEphs (s : State) : s.recordEphs.length = 3456 := by
  have hlen (l : List GnEph) : (l.flatMap GnEph.record).length = 144 * l.length := by
    simp [List.length_flatMap, length_ephRecord, Nat.mul_comm]
  simp only [State.recordEphs, List.length_append, hlen, length_zeros, List.length_take]
  omega

theorem length_recordBody (s : State) : s.recordBody.length = 0x1FF8 := by
  simp only [State.recordBody, State.recordWords, State.recordTail, List.length_append, List.length_flatMap, List.map_cons, List.map_nil,
    length_bytesLE, List.sum_cons, List.sum_nil, length_readBytes, length_recordEphs, length_zeros, Nat.reduceAdd]

theorem length_sealed {body : List Byte} (h : body.length = 0x1FF8) : (sealed body).length = 0x2000 := by
  rw [sealed, List.length_append, length_bytesLE, h]

/-- A sealed record in its place of the store is read. -/
theorem gnRecord_sealed {body : List Byte} (h : body.length = 0x1FF8) (hread : readBytes s.firn gnBase 0x2000 = sealed body) :
    s.gnRecord = some (sealed body) := by
  unfold State.gnRecord
  simp only [hread]
  have hcrc : bytesLE 8 (crc32c body) = bytesLE 4 (crc32c body) ++ bytesLE 4 (crc32c body / 256 ^ 4) := bytesLE_add 4 4 _
  have hlt : crc32c body < 256 ^ 4 := crc32c_lt body
  refine if_pos ⟨?_, ?_⟩
  · rw [sealed, List.drop_left' h, List.take_left' h, hcrc, List.take_left' (length_bytesLE 4 _), ofBytesLE_bytesLE]
    exact Nat.mod_eq_of_lt hlt
  · rw [sealed, hcrc, ← List.append_assoc, List.drop_left' (by rw [List.length_append, length_bytesLE, h]), ofBytesLE_bytesLE,
      Nat.div_eq_of_lt hlt, Nat.zero_mod]

theorem does_gnRecordWrite (hp : s.power = .run) : Does .gnRecordWrite s fun t => Frame { s with firn := t.firn } t [] ∧
    (∀ a : Nat, a < 0x4000 ∨ 0x6000 ≤ a → byteAt t.firn a = byteAt s.firn a) ∧
    ∃ l, t.gnRecord = some l ∧ at8 l 0x10 = s.sec % 2 ^ 64 ∧ at8 l 0x20 = s.get F.GN_POS_X_X % 2 ^ 64 ∧
      at8 l 0x28 = s.get F.GN_POS_Y_Y % 2 ^ 64 ∧ at8 l 0x30 = s.get F.GN_POS_Z_Z % 2 ^ 64 := by
  refine does_running (f := (·.writeGnRecord)) rfl hp ?_
  rw [writeGnRecord_eq]
  have hlen := length_recordBody s
  have hsealed := length_sealed hlen
  have hread := readBytes_writeBytes s.firn gnBase (sealed s.recordBody)
  have hout (a : Nat) (ha : a < 0x4000 ∨ 0x6000 ≤ a) := byteAt_writeBytes_other s.firn gnBase a (sealed s.recordBody)
    (by rw [hsealed, gnBase]; omega)
  rw [hsealed] at hread
  generalize writeBytes s.firn gnBase (sealed s.recordBody) = m at hread hout ⊢
  have hword {i : Nat} (hi : i < 8) : at8 (sealed s.recordBody) (8 * i) = (s.recordWords[i]'hi) % 2 ^ 64 := by
    rw [sealed, State.recordBody, List.append_assoc]
    exact at8_words _ _ hi
  simp only [State.settle_firn]
  refine ⟨Frame.settle _ [], hout, sealed s.recordBody, gnRecord_sealed hlen ?_, ?_, ?_, ?_, ?_⟩
  · rw [State.settle_firn]
    exact hread
  · exact hword (i := 2) (by decide)
  · exact hword (i := 4) (by decide)
  · exact hword (i := 5) (by decide)
  · exact hword (i := 6) (by decide)

end Sys2Proof.Machine
end

section
/-! PROOF. The solution of an epoch (O40, O41; R131 to R136, R138 to R140, R145 to R147). -/
namespace Sys2Proof.Machine

variable {s t u : State} {fs : List Fld}

/-- The time, and what an epoch leaves alone of the baseband's work. -/
def State.atWork (s : State) : Nat × Option Stamp × Bool × Bool := (s.now, s.gn.mark, s.gn.flake, s.gn.solving)

/-! ## The satellites of an epoch -/

/-- What an epoch shows of its satellites. -/
def shownFields : List Fld := F.GN_EVT_SV_EXCL :: F.GN_STAT_SV_USED :: F.GN_STAT_SV_TRACKED :: pairFields

theorem pair_mem_shown {p : Nat} (hp : p < 128) {f : Fld} (hf : f ∈ pairRegs p) : f.key ∈ shownFields.map Fld.key :=
  List.mem_cons_of_mem _ (List.mem_cons_of_mem _ (List.mem_cons_of_mem _ (pair_mem hp hf)))

/-- The part of a satellite's registers that identify it. -/
def State.showName (s : State) (x : GnSat) (st : Nat) : State :=
  (((s.put (F.GN_CH_STAT_SYS (x.pair % 128)) x.sys).put (F.GN_CH_STAT_PRN (x.pair % 128)) x.prn).put (F.GN_CH_STAT_STATE (x.pair % 128)) st).putB
    (F.GN_CH_STAT_B_OK (x.pair % 128)) x.bandB

/-- The part that measures it. -/
def State.showLevels (s : State) (x : GnSat) : State :=
  ((s.putSat (F.GN_CH_STAT_CN0_A (x.pair % 128)) (x.cn0A / 50)).putSat (F.GN_CH_STAT_CN0_B (x.pair % 128)) (x.cn0B / 50)).putSat
    (F.GN_CH_STAT_ELEV (x.pair % 128)) x.elev

theorem showSat_eq (s : State) (x : GnSat) (st : Nat) : s.showSat x st =
    { ((s.showName x st).showLevels x).putI (F.GN_CH_STAT_RESID (x.pair % 128)) (clampI (-8388608) 8388607 (roundDiv x.resid 10)) with
      gn.search := s.gn.search.filter (· != x.pair % 128) } := rfl

theorem keeps_showSat (s : State) (x : GnSat) (st : Nat) : Keeps s (s.showSat x st) shownFields := by
  have hmem (f : Fld) (hf : f ∈ pairRegs (x.pair % 128)) : f.key ∈ shownFields.map Fld.key := pair_mem_shown (Nat.mod_lt x.pair (by decide)) hf
  have hname : Keeps s (s.showName x st) shownFields :=
    ((((Keeps.refl s _).put _ _ (hmem _ (by simp [pairRegs]))).put _ _ (hmem _ (by simp [pairRegs]))).put _ _ (hmem _ (by simp [pairRegs]))).putB
      _ _ (hmem _ (by simp [pairRegs]))
  rw [showSat_eq]
  generalize s.showName x st = t at hname ⊢
  have hlevels : Keeps t (t.showLevels x) shownFields :=
    (((Keeps.refl t _).putSat _ _ (hmem _ (by simp [pairRegs]))).putSat _ _ (hmem _ (by simp [pairRegs]))).putSat _ _ (hmem _ (by simp [pairRegs]))
  generalize t.showLevels x = u at hlevels ⊢
  exact ((hname.trans hlevels).putI (F.GN_CH_STAT_RESID (x.pair % 128)) _ (hmem _ (by simp [pairRegs]))).next rfl

theorem atWork_showSat (s : State) (x : GnSat) (st : Nat) : (s.showSat x st).atWork = s.atWork := by
  rw [showSat_eq]
  rfl

theorem atWork_event (s : State) (f : Fld) (code inst arg : Nat) : (s.event f code inst arg).atWork = s.atWork := by
  simp only [State.atWork, State.event_gn, State.event_now]

/-- The satellites are shown on the pairs' registers, and their numbers in GN_STAT. -/
theorem showSats_shows (s : State) (all used excluded : List GnSat) : Keeps s (s.showSats all used excluded) shownFields ∧
    (s.showSats all used excluded).atWork = s.atWork ∧ (s.showSats all used excluded).get F.GN_STAT_SV_USED = min used.length 255 ∧
    (s.showSats all used excluded).get F.GN_STAT_SV_TRACKED = min all.length 255 := by
  unfold State.showSats
  dsimp only
  generalize hu : (((s.forAll excluded _).forAll all _).forAll used _).forAll excluded _ = u
  have hkeep : Keeps s u shownFields := by
    rw [← hu]
    refine ((((Keeps.refl s _).forAll _ _ fun t x _ => ?_).forAll _ _ fun t x _ => ?_).forAll _ _ fun t x _ => ?_).forAll _ _ fun t x _ => ?_
    · exact (Keeps.refl t _).when _ _ fun _ => (Keeps.refl t _).event F.GN_EVT_SV_EXCL _ _ _ (by simp [shownFields])
    all_goals exact keeps_showSat t x _
  have hwork : u.atWork = s.atWork := by
    rw [← hu]
    calc _ = _ := forAll_inv State.atWork _ _ (fun t x => atWork_showSat t x _) _
      _ = _ := forAll_inv State.atWork _ _ (fun t x => atWork_showSat t x _) _
      _ = _ := forAll_inv State.atWork _ _ (fun t x => atWork_showSat t x _) _
      _ = _ := forAll_inv State.atWork _ _ (fun t x => when_inv State.atWork _ _ (atWork_event t _ _ _ _)) s
  clear hu
  refine ⟨(hkeep.putSat F.GN_STAT_SV_USED _ (by simp [shownFields])).putSat F.GN_STAT_SV_TRACKED _ (by simp [shownFields]), hwork, ?_, ?_⟩
  · refine (State.get_put_other _ F.GN_STAT_SV_TRACKED F.GN_STAT_SV_USED _ (by decide)).trans ((State.get_put_same u F.GN_STAT_SV_USED _).trans ?_)
    exact Nat.mod_eq_of_lt (Nat.lt_succ_of_le (Nat.min_le_right _ 255))
  · refine (State.get_put_same _ F.GN_STAT_SV_TRACKED _).trans ?_
    exact Nat.mod_eq_of_lt (Nat.lt_succ_of_le (Nat.min_le_right _ 255))

/-- The epoch's satellites are shown, its gains and its evidence noted. -/
def State.epochShown (s : State) (e : GnEpoch) : State :=
  (((s.keepNav e).showSats (s.trackedSats e) (s.satsOf e) (s.satsSplit e).1).watchJam e).gatherEvidence e (s.satsOf e)

theorem noted_same (s : State) (e : GnEpoch) (used : List GnSat) : ((s.watchJam e).gatherEvidence e used).cells = s.cells ∧
    ((s.watchJam e).gatherEvidence e used).atWork = s.atWork := ⟨rfl, rfl⟩

theorem keepNav_same (s : State) (e : GnEpoch) : (s.keepNav e).cells = s.cells ∧ (s.keepNav e).atWork = s.atWork := ⟨rfl, rfl⟩

theorem epochShown_shows (s : State) (e : GnEpoch) : Keeps s (s.epochShown e) shownFields ∧ (s.epochShown e).atWork = s.atWork ∧
    (s.epochShown e).get F.GN_STAT_SV_USED = min (s.satsOf e).length 255 ∧
    (s.epochShown e).get F.GN_STAT_SV_TRACKED = min (s.trackedSats e).length 255 := by
  unfold State.epochShown
  obtain ⟨hnav, hnavWork⟩ := keepNav_same s e
  generalize s.keepNav e = t at hnav hnavWork ⊢
  obtain ⟨hkeep, hwork, hused, htracked⟩ := showSats_shows t (s.trackedSats e) (s.satsOf e) (s.satsSplit e).1
  generalize t.showSats (s.trackedSats e) (s.satsOf e) (s.satsSplit e).1 = u at hkeep hwork hused htracked ⊢
  obtain ⟨hcells, hnoted⟩ := noted_same u e (s.satsOf e)
  have hget (f : Fld) : ((u.watchJam e).gatherEvidence e (s.satsOf e)).get f = u.get f := by rw [State.get, hcells, State.get]
  exact ⟨((Keeps.ofCells hnav).trans hkeep).next hcells, hnoted.trans (hwork.trans hnavWork), (hget _).trans hused, (hget _).trans htracked⟩

/-- Whether an epoch is solved on band A alone. -/
def State.singleBand (s : State) (e : GnEpoch) : Bool :=
  (s.satsOf e).all (fun x => !(x.bandB && decide (100 * s.get F.GN_SOL_CFG_CN0_MIN ≤ x.cn0B)))

theorem solve_eq (s : State) (e : GnEpoch) (stamp : Option Stamp) : s.solve e stamp =
    if (s.satsOf e).length < s.satsNeeded then (s.epochShown e).gnInvalid
    else match stamp with
      | none => s.epochShown e
      | some st =>
        if st.gen ≠ s.tb.gen then s.epochShown e
        else match s.gnTai e (s.singleBand e) st.corr with
          | none => s.epochShown e
          | some tai => (s.epochShown e).takeSolution e (s.satsOf e) (s.singleBand e) st tai := by
  unfold State.solve
  rfl

/-! ## The solution -/

/-- What the guard writes (R140). -/
def guardFields : List Fld := [F.GN_STAT_SPOOF_REJ, F.GN_EVT_SPOOF, F.GN_EVT_SPOOF_CLR]

/-- The guard begins to reject, ends rejecting, or only notes since when the solutions agree. -/
theorem spoofGuard_cases (s : State) (x : Sample) : s.spoofGuard x = s ∨
    (∃ arg w, s.spoofGuard x =
      { (s.put F.GN_STAT_SPOOF_REJ 1).event F.GN_EVT_SPOOF 0x0307 0 arg with gn.guard := w, gn.goodSince := none }) ∨
    s.spoofGuard x = { (s.put F.GN_STAT_SPOOF_REJ 0).event F.GN_EVT_SPOOF_CLR 0x0308 0 0 with gn.guard := none, gn.goodSince := none } ∨
    ∃ since, s.spoofGuard x = { s with gn.goodSince := since } := by
  unfold State.spoofGuard
  cases s.on F.GN_STAT_SPOOF_REJ
  · simp only [Bool.not_false, if_true]
    generalize (s.on F.GN_SPOOF_EN && _) = rejects
    cases rejects
    · exact .inl rfl
    · exact .inr (.inl ⟨_, _, rfl⟩)
  · simp only [Bool.not_true, Bool.false_eq_true, if_false]
    generalize (_ || !s.on F.GN_SPOOF_EN) = ends
    cases ends
    · exact .inr (.inr (.inr ⟨_, rfl⟩))
    · exact .inr (.inr (.inl rfl))

theorem spoofGuard_keeps (s : State) (x : Sample) : Keeps s (s.spoofGuard x) guardFields ∧ (s.spoofGuard x).atWork = s.atWork := by
  obtain h | ⟨arg, w, h⟩ | h | ⟨since, h⟩ := spoofGuard_cases s x
  · rw [h]
    exact ⟨Keeps.refl s _, rfl⟩
  · rw [h]
    exact ⟨(((Keeps.refl s _).put F.GN_STAT_SPOOF_REJ 1 (by decide)).event F.GN_EVT_SPOOF 0x0307 0 arg (by decide)).next rfl,
      atWork_event (s.put F.GN_STAT_SPOOF_REJ 1) F.GN_EVT_SPOOF 0x0307 0 arg⟩
  · rw [h]
    exact ⟨(((Keeps.refl s _).put F.GN_STAT_SPOOF_REJ 0 (by decide)).event F.GN_EVT_SPOOF_CLR 0x0308 0 0 (by decide)).next rfl,
      atWork_event (s.put F.GN_STAT_SPOOF_REJ 0) F.GN_EVT_SPOOF_CLR 0x0308 0 0⟩
  · rw [h]
    exact ⟨Keeps.ofCells rfl, rfl⟩

/-- What a valid solution writes (R146). -/
def validFields : List Fld := [F.GN_STAT_SOL_VALID, F.GN_STAT_STATE, F.GN_STAT_START_KIND, F.GN_EVT_SOL]

theorem gnValid_valid (s : State) : Keeps s s.gnValid validFields ∧ s.gnValid.atWork = s.atWork ∧ s.gnValid.gn.validAt = some s.now ∧
    s.gnValid.get F.GN_STAT_SOL_VALID = 1 ∧ (s.gn.flake = false → s.gnValid.get F.GN_STAT_STATE = 2) := by
  unfold State.gnValid
  dsimp only
  generalize hu : (s.put F.GN_STAT_SOL_VALID 1).when (!s.gn.flake) (·.put F.GN_STAT_STATE 2) = u
  have hkeep : Keeps s u validFields := by
    rw [← hu]
    exact ((Keeps.refl s _).put F.GN_STAT_SOL_VALID 1 (by decide)).when _ _ fun _ => (Keeps.refl _ _).put F.GN_STAT_STATE 2 (by decide)
  have hwork : u.atWork = s.atWork := by
    rw [← hu]
    exact when_inv State.atWork _ _ rfl
  have hvalid : u.get F.GN_STAT_SOL_VALID = 1 := by
    rw [← hu, get_when fun _ => State.get_put_other _ _ _ _ (by decide), State.get_put_same]
    rfl
  have hstate : s.gn.flake = false → u.get F.GN_STAT_STATE = 2 := fun hflake => by
    rw [← hu, hflake]
    exact State.get_put_same _ F.GN_STAT_STATE 2
  clear hu
  obtain ⟨w, hw, hkeep, hwork, hat, hvalid, hstate⟩ : ∃ w, { u with gn.validAt := some s.now } = w ∧ Keeps s w validFields ∧
      w.atWork = s.atWork ∧ w.gn.validAt = some s.now ∧ w.get F.GN_STAT_SOL_VALID = 1 ∧ (s.gn.flake = false → w.get F.GN_STAT_STATE = 2) :=
    ⟨{ u with gn.validAt := some s.now }, rfl, hkeep.next rfl, hwork, rfl, hvalid, hstate⟩
  rw [hw]
  split
  · refine ⟨((hkeep.put F.GN_STAT_START_KIND _ (by decide)).event F.GN_EVT_SOL _ _ _ (by decide)).next rfl, ?_, ?_, ?_, fun hflake => ?_⟩
    · exact (atWork_event (w.put F.GN_STAT_START_KIND s.gn.kind) F.GN_EVT_SOL _ _ _).trans hwork
    · exact (congrArg GnPart.validAt (State.event_gn (s := w.put F.GN_STAT_START_KIND s.gn.kind) F.GN_EVT_SOL _ _ _)).trans hat
    · exact (State.event_get_other (w.put F.GN_STAT_START_KIND s.gn.kind) F.GN_EVT_SOL F.GN_STAT_SOL_VALID _ _ _ (by decide) (by decide)).trans
        ((State.get_put_other w _ _ _ (by decide)).trans hvalid)
    · exact (State.event_get_other (w.put F.GN_STAT_START_KIND s.gn.kind) F.GN_EVT_SOL F.GN_STAT_STATE _ _ _ (by decide) (by decide)).trans
        ((State.get_put_other w _ _ _ (by decide)).trans (hstate hflake))
  · refine ⟨hkeep.when _ _ fun _ => (Keeps.refl w _).event F.GN_EVT_SOL _ _ _ (by decide), ?_, ?_, ?_, fun hflake => ?_⟩
    · exact (when_inv State.atWork _ _ (atWork_event w F.GN_EVT_SOL _ _ _)).trans hwork
    · exact (when_inv (fun t => t.gn.validAt) _ _ (congrArg GnPart.validAt (State.event_gn w F.GN_EVT_SOL _ _ _))).trans hat
    · refine (get_when fun _ => ?_).trans hvalid
      exact State.event_get_other w F.GN_EVT_SOL F.GN_STAT_SOL_VALID _ _ _ (by decide) (by decide)
    · refine (get_when fun _ => ?_).trans (hstate hflake)
      exact State.event_get_other w F.GN_EVT_SOL F.GN_STAT_STATE _ _ _ (by decide) (by decide)

/-- What survey-in writes (R138). -/
def surveyFields : List Fld :=
  [F.GN_POS_STAT_ELAPSED, F.GN_POS_STAT_SURVEY_UNC, F.GN_POS_X_X, F.GN_POS_Y_Y, F.GN_POS_Z_Z, F.GN_POS_STAT_VALID, F.GN_POS_STAT_SRC,
    F.GN_EVT_SURVEYED]

theorem writeGnRecord_firn (s : State) : ∃ m, s.writeGnRecord = { s with firn := m } := ⟨_, writeGnRecord_eq s⟩

/-- The surveyed position is entered. -/
def State.enterSurvey (s : State) : State :=
  (((s.putI F.GN_POS_X_X (roundDiv s.gn.surveyX s.gn.surveyN)).putI F.GN_POS_Y_Y (roundDiv s.gn.surveyY s.gn.surveyN)).putI F.GN_POS_Z_Z
    (roundDiv s.gn.surveyZ s.gn.surveyN))

theorem completeSurvey_keeps (s : State) : Keeps s s.completeSurvey surveyFields ∧ s.completeSurvey.atWork = s.atWork ∧
    s.completeSurvey.gn.validAt = s.gn.validAt := by
  have h : s.completeSurvey = { ((s.enterSurvey.put F.GN_POS_STAT_VALID 1).put F.GN_POS_STAT_SRC 1).event F.GN_EVT_SURVEYED 0x0305 0 0 with
      gn.survey := false }.writeGnRecord := rfl
  have henter : Keeps s s.enterSurvey surveyFields :=
    (((Keeps.refl s _).putI F.GN_POS_X_X _ (by decide)).putI F.GN_POS_Y_Y _ (by decide)).putI F.GN_POS_Z_Z _ (by decide)
  have hsame : s.enterSurvey.atWork = s.atWork ∧ s.enterSurvey.gn.validAt = s.gn.validAt := ⟨rfl, rfl⟩
  obtain ⟨hwork, hat⟩ := hsame
  obtain ⟨m, hm⟩ := writeGnRecord_firn
    { ((s.enterSurvey.put F.GN_POS_STAT_VALID 1).put F.GN_POS_STAT_SRC 1).event F.GN_EVT_SURVEYED 0x0305 0 0 with gn.survey := false }
  rw [h, hm]
  clear h hm
  generalize s.enterSurvey = t at henter hwork hat ⊢
  have hkeep := (henter.put F.GN_POS_STAT_VALID 1 (by decide)).put F.GN_POS_STAT_SRC 1 (by decide)
  replace hwork : ((t.put F.GN_POS_STAT_VALID 1).put F.GN_POS_STAT_SRC 1).atWork = s.atWork := hwork
  replace hat : ((t.put F.GN_POS_STAT_VALID 1).put F.GN_POS_STAT_SRC 1).gn.validAt = s.gn.validAt := hat
  generalize (t.put F.GN_POS_STAT_VALID 1).put F.GN_POS_STAT_SRC 1 = u at hkeep hwork hat ⊢
  refine ⟨(hkeep.event F.GN_EVT_SURVEYED 0x0305 0 0 (by decide)).next rfl, ?_, ?_⟩
  · exact (atWork_event u F.GN_EVT_SURVEYED 0x0305 0 0).trans hwork
  · exact (congrArg GnPart.validAt (State.event_gn u F.GN_EVT_SURVEYED 0x0305 0 0)).trans hat

/-- Survey-in goes on: its time and its sums, and at its end the position. -/
theorem surveyEpoch_cases (s : State) (e : GnEpoch) : s.surveyEpoch e = s ∨ ∃ t ends, Keeps s t surveyFields ∧ t.atWork = s.atWork ∧
    t.gn.validAt = s.gn.validAt ∧ s.surveyEpoch e = t.when ends (·.completeSurvey) := by
  unfold State.surveyEpoch
  split
  · exact .inl rfl
  · right
    dsimp only
    generalize s.gn.surveyTime + _ = time
    have hkeep := ((Keeps.refl s surveyFields).putSat F.GN_POS_STAT_ELAPSED (time / tuSec) (by decide)).putSat F.GN_POS_STAT_SURVEY_UNC e.posUnc
      (by decide)
    have hsame : ((s.putSat F.GN_POS_STAT_ELAPSED (time / tuSec)).putSat F.GN_POS_STAT_SURVEY_UNC e.posUnc).now = s.now ∧
        ((s.putSat F.GN_POS_STAT_ELAPSED (time / tuSec)).putSat F.GN_POS_STAT_SURVEY_UNC e.posUnc).gn = s.gn := ⟨rfl, rfl⟩
    obtain ⟨hnow, hgn⟩ := hsame
    generalize (s.putSat F.GN_POS_STAT_ELAPSED (time / tuSec)).putSat F.GN_POS_STAT_SURVEY_UNC e.posUnc = t at hkeep hnow hgn ⊢
    rw [State.atWork, ← hnow, ← hgn]
    cases e.position <;>
    · dsimp only
      refine ⟨_, _, ?_, ?_, ?_, rfl⟩
      · exact hkeep.next rfl
      · rfl
      · rfl

theorem surveyEpoch_keeps (s : State) (e : GnEpoch) : Keeps s (s.surveyEpoch e) surveyFields ∧ (s.surveyEpoch e).atWork = s.atWork ∧
    (s.surveyEpoch e).gn.validAt = s.gn.validAt := by
  obtain h | ⟨t, ends, hkeep, hwork, hat, h⟩ := surveyEpoch_cases s e
  · rw [h]
    exact ⟨Keeps.refl s _, rfl, rfl⟩
  · rw [h]
    cases ends
    · exact ⟨hkeep, hwork, hat⟩
    · obtain ⟨hdone, hdoneWork, hdoneAt⟩ := completeSurvey_keeps t
      exact ⟨hkeep.trans hdone, hdoneWork.trans hwork, hdoneAt.trans hat⟩

end Sys2Proof.Machine
end

section
/-! PROOF. What a solution reports, and the obligation O40 (R132 to R135, R146, R147). -/
namespace Sys2Proof.Machine

variable {s t u : State} {fs : List Fld}

theorem get_putI (s : State) (f : Fld) (v : Int) : (s.putI f v).get f = (v % (2 ^ f.width : Nat)).toNat := by
  rw [State.putI, State.get_put_same]
  refine Nat.mod_eq_of_lt ((Int.toNat_lt (Int.emod_nonneg _ ?_)).mpr (Int.emod_lt_of_pos _ ?_)) <;>
  · have := Nat.two_pow_pos f.width
    omega

/-- A solution's offset, uncertainty and band stand in the registers. -/
def State.reportSolution (s : State) (ofs : Int) (unc : Nat) (single : Bool) : State :=
  ((s.putI F.GN_SOL_OFS_E ofs).put F.GN_SOL_UNC_UNC unc).putB F.GN_STAT_SINGLE_FREQ single

theorem reportSolution_shows (s : State) (ofs : Int) (unc : Nat) (single : Bool) :
    (s.reportSolution ofs unc single).get F.GN_SOL_OFS_E = (ofs % 2 ^ 64).toNat ∧
      (s.reportSolution ofs unc single).get F.GN_SOL_UNC_UNC = unc % 2 ^ 48 ∧
      (s.reportSolution ofs unc single).on F.GN_STAT_SINGLE_FREQ = single ∧
      Keeps s (s.reportSolution ofs unc single) [F.GN_SOL_OFS_E, F.GN_SOL_UNC_UNC, F.GN_STAT_SINGLE_FREQ] ∧
      (s.reportSolution ofs unc single).atWork = s.atWork := by
  refine ⟨?_, ?_, on_putB _ (f := F.GN_STAT_SINGLE_FREQ) (by decide) single, ?_, rfl⟩
  · refine (State.get_put_other _ F.GN_STAT_SINGLE_FREQ F.GN_SOL_OFS_E _ (by decide)).trans ?_
    refine (State.get_put_other _ F.GN_SOL_UNC_UNC F.GN_SOL_OFS_E _ (by decide)).trans ?_
    exact get_putI s F.GN_SOL_OFS_E ofs
  · refine (State.get_put_other _ F.GN_STAT_SINGLE_FREQ F.GN_SOL_UNC_UNC _ (by decide)).trans ?_
    exact State.get_put_same _ F.GN_SOL_UNC_UNC unc
  · exact (((Keeps.refl s _).putI F.GN_SOL_OFS_E _ (by decide)).put F.GN_SOL_UNC_UNC _ (by decide)).putB F.GN_STAT_SINGLE_FREQ _ (by decide)

theorem sampleToSlots_same (s : State) (type : Nat) (src : Option Nat) (x : Sample) :
    (s.sampleToSlots type src x).cells = s.cells ∧ (s.sampleToSlots type src x).gn = s.gn ∧ (s.sampleToSlots type src x).now = s.now := by
  have htake (t : State) (n : Nat) : ((t.takeSample n x).cells, (t.takeSample n x).gn, (t.takeSample n x).now) = (t.cells, t.gn, t.now) := by
    unfold State.takeSample
    split <;> rfl
  have h : ((s.sampleToSlots type src x).cells, (s.sampleToSlots type src x).gn, (s.sampleToSlots type src x).now) = (s.cells, s.gn, s.now) :=
    forAll_inv (fun t : State => (t.cells, t.gn, t.now)) (List.range 16) _
      (fun t n => when_inv (fun t : State => (t.cells, t.gn, t.now)) _ (·.takeSample n x) (htake t n)) s
  simpa only [Prod.mk.injEq] using h

/-- A reported solution is guarded, makes the time valid, and serves the survey. -/
def State.judgeSolution (s : State) (e : GnEpoch) (x : Sample) : State := (s.spoofGuard x).gnValid.surveyEpoch e

/-- What a solution leaves for the next epoch. -/
def State.noteSolution (s : State) (used : List GnSat) (now : Nat) : State :=
  { s with gn.used := used.map (fun x : GnSat => (x.sys, x.prn)), gn.lastEpoch := some now,
           gn.residN := s.gn.residN + used.length, gn.residSum := s.gn.residSum + (used.map GnSat.resid).sum }

theorem takeSolution_eq (s : State) (e : GnEpoch) (used : List GnSat) (single : Bool) (st : Stamp) (tai : Int) :
    s.takeSolution e used single st tai =
      (((s.reportSolution (clampI (-2 ^ 63) (2 ^ 63 - 1) (phaseOfSpan (st.corr - tai))) (s.gnUnc single used) single).judgeSolution e
        (s.offsetAt st (st.corr - tai) (s.gnUnc single used))).noteSolution used s.now).sampleToSlots 0 none
          (s.offsetAt st (st.corr - tai) (s.gnUnc single used)) := by
  unfold State.takeSolution
  rfl

/-- What a solution writes after its report. -/
def judgedFields : List Fld := guardFields ++ validFields ++ surveyFields

theorem judgeSolution_judges (s : State) (e : GnEpoch) (x : Sample) : Keeps s (s.judgeSolution e x) judgedFields ∧
    (s.judgeSolution e x).atWork = s.atWork ∧ (s.judgeSolution e x).gn.validAt = some s.now ∧
    (s.judgeSolution e x).get F.GN_STAT_SOL_VALID = 1 ∧ (s.gn.flake = false → (s.judgeSolution e x).get F.GN_STAT_STATE = 2) := by
  unfold State.judgeSolution
  obtain ⟨hguard, hguardWork⟩ := spoofGuard_keeps s x
  generalize s.spoofGuard x = t at hguard hguardWork ⊢
  obtain ⟨hvalid, hvalidWork, hat, h1, h2⟩ := gnValid_valid t
  generalize t.gnValid = u at hvalid hvalidWork hat h1 h2 ⊢
  obtain ⟨hsurvey, hsurveyWork, hsurveyAt⟩ := surveyEpoch_keeps u e
  generalize u.surveyEpoch e = w at hsurvey hsurveyWork hsurveyAt ⊢
  have hwork := hguardWork
  simp only [State.atWork, Prod.mk.injEq] at hwork
  obtain ⟨hnow, -, hflake, -⟩ := hwork
  refine ⟨((hguard.mono (by decide)).trans (hvalid.mono (by decide))).trans (hsurvey.mono (by decide)), ?_, ?_, ?_, fun h => ?_⟩
  · rw [hsurveyWork, hvalidWork, hguardWork]
  · rw [hsurveyAt, hat, hnow]
  · exact (hsurvey.get F.GN_STAT_SOL_VALID (by decide) (by decide)).trans h1
  · exact (hsurvey.get F.GN_STAT_STATE (by decide) (by decide)).trans (h2 (hflake.trans h))

/-- What stands once a solution is taken, with its offset, its uncertainty and its bands. -/
structure Solved (s t : State) (ofs : Int) (unc : Nat) (single : Bool) : Prop where
  ofs : t.get F.GN_SOL_OFS_E = (clampI (-2 ^ 63) (2 ^ 63 - 1) (phaseOfSpan ofs) % 2 ^ 64).toNat
  unc : t.get F.GN_SOL_UNC_UNC = unc % 2 ^ 48
  single : t.on F.GN_STAT_SINGLE_FREQ = single
  valid : t.get F.GN_STAT_SOL_VALID = 1
  timing : s.gn.flake = false → t.get F.GN_STAT_STATE = 2
  epoch : t.gn.lastEpoch = some s.now
  validAt : t.gn.validAt = some s.now
  work : t.atWork = s.atWork
  keeps : Keeps s t ([F.GN_SOL_OFS_E, F.GN_SOL_UNC_UNC, F.GN_STAT_SINGLE_FREQ] ++ judgedFields)

theorem takeSolution_solved (s : State) (e : GnEpoch) (used : List GnSat) (single : Bool) (st : Stamp) (tai : Int) :
    Solved s (s.takeSolution e used single st tai) (st.corr - tai) (s.gnUnc single used) single := by
  rw [takeSolution_eq]
  generalize s.offsetAt st (st.corr - tai) (s.gnUnc single used) = x
  obtain ⟨hofs, hunc, hsingle, hreport, hreportWork⟩ :=
    reportSolution_shows s (clampI (-2 ^ 63) (2 ^ 63 - 1) (phaseOfSpan (st.corr - tai))) (s.gnUnc single used) single
  generalize s.reportSolution _ _ _ = u at hofs hunc hsingle hreport hreportWork ⊢
  obtain ⟨hjudge, hjudgeWork, hat, hvalid, hstate⟩ := judgeSolution_judges u e x
  generalize u.judgeSolution e x = w at hjudge hjudgeWork hat hvalid hstate ⊢
  have hnoted : (w.noteSolution used s.now).cells = w.cells ∧ (w.noteSolution used s.now).atWork = w.atWork ∧
      (w.noteSolution used s.now).gn.validAt = w.gn.validAt ∧ (w.noteSolution used s.now).gn.lastEpoch = some s.now := ⟨rfl, rfl, rfl, rfl⟩
  generalize w.noteSolution used s.now = n at hnoted ⊢
  obtain ⟨hcells, hwork, hnotedAt, hepoch⟩ := hnoted
  obtain ⟨hsentCells, hsentGn, hsentNow⟩ := sampleToSlots_same n 0 none x
  generalize n.sampleToSlots 0 none x = t at hsentCells hsentGn hsentNow ⊢
  have hget (f : Fld) : t.get f = w.get f := by rw [State.get, hsentCells, hcells, State.get]
  have hkept (f : Fld) (hf : f.key ∉ judgedFields.map Fld.key) (ht : f.tallied = false) : t.get f = u.get f :=
    (hget f).trans (hjudge.get f hf ht)
  have hworks : u.atWork = s.atWork := hreportWork
  simp only [State.atWork, Prod.mk.injEq] at hworks
  obtain ⟨hnow, -, hflake, -⟩ := hworks
  refine
    { ofs := (hkept F.GN_SOL_OFS_E (by decide) (by decide)).trans hofs
      unc := (hkept F.GN_SOL_UNC_UNC (by decide) (by decide)).trans hunc
      single := ?_
      valid := (hget _).trans hvalid
      timing := fun h => (hget _).trans (hstate (hflake.trans h))
      epoch := by rw [hsentGn, hepoch]
      validAt := by rw [hsentGn, hnotedAt, hat, hnow]
      work := ?_
      keeps := ?_ }
  · rw [← hsingle, State.on, State.on, hkept F.GN_STAT_SINGLE_FREQ (by decide) (by decide)]
  · rw [← hreportWork, ← hjudgeWork, ← hwork, State.atWork, State.atWork, hsentGn, hsentNow]
  · exact ((hreport.mono (by decide)).trans (hjudge.mono (by decide))).next (hsentCells.trans hcells)

end Sys2Proof.Machine
end

section
/-! PROOF. GN_SOLUTION_EPOCH, and the obligation O40 (R132 to R135, R146, R147). -/
namespace Sys2Proof.Machine

variable {s t : State} {e : GnEpoch} {stamp : Option Stamp}

/-! ## An epoch solved -/

theorem get_off {f : Fld} (h : s.on f = false) : s.get f = 0 := by simpa [State.on] using h

theorem solve_few (h : (s.satsOf e).length < s.satsNeeded) : s.solve e stamp = (s.epochShown e).gnInvalid := by rw [solve_eq, if_pos h]

theorem solve_taken {m : Stamp} {tai : Int} (h : s.satsNeeded ≤ (s.satsOf e).length) (hgen : m.gen = s.tb.gen)
    (htai : s.gnTai e (s.singleBand e) m.corr = some tai) :
    s.solve e (some m) = (s.epochShown e).takeSolution e (s.satsOf e) (s.singleBand e) m tai := by
  rw [solve_eq, if_neg (Nat.not_lt.mpr h)]
  simp only [hgen, ne_eq, not_true_eq_false, if_false, htai]

theorem solve_unsolved (h : s.satsNeeded ≤ (s.satsOf e).length)
    (hnone : ∀ m, stamp = some m → m.gen = s.tb.gen → s.gnTai e (s.singleBand e) m.corr = none) : s.solve e stamp = s.epochShown e := by
  rw [solve_eq, if_neg (Nat.not_lt.mpr h)]
  cases stamp with
  | none => rfl
  | some m =>
    by_cases hgen : m.gen = s.tb.gen
    · simp only [hgen, ne_eq, not_true_eq_false, if_false, hnone m rfl hgen]
    · simp only [ne_eq, hgen, not_false_eq_true, if_true]

/-- What an epoch writes after its satellites are shown. -/
def solvedFields : List Fld := lostFields ++ [F.GN_SOL_OFS_E, F.GN_SOL_UNC_UNC, F.GN_STAT_SINGLE_FREQ] ++ judgedFields

/-- An epoch, solved or not, goes on from what it shows, and leaves the work alone. -/
theorem solve_after (s : State) (e : GnEpoch) (stamp : Option Stamp) : Keeps (s.epochShown e) (s.solve e stamp) solvedFields ∧
    (s.solve e stamp).atWork = s.atWork := by
  obtain ⟨-, hwork, -⟩ := epochShown_shows s e
  by_cases hfew : (s.satsOf e).length < s.satsNeeded
  · rw [solve_few hfew]
    have hlost := Frame.gnInvalid (s.epochShown e)
    refine ⟨hlost.keeps.mono (by decide), ?_⟩
    rw [← hwork, State.atWork, State.atWork, hlost.now, hlost.gn]
  · by_cases hsome : ∃ m tai, stamp = some m ∧ m.gen = s.tb.gen ∧ s.gnTai e (s.singleBand e) m.corr = some tai
    · obtain ⟨m, tai, rfl, hgen, htai⟩ := hsome
      rw [solve_taken (Nat.not_lt.mp hfew) hgen htai]
      have hsolved := takeSolution_solved (s.epochShown e) e (s.satsOf e) (s.singleBand e) m tai
      exact ⟨hsolved.keeps.mono (by decide), hsolved.work.trans hwork⟩
    · rw [solve_unsolved (Nat.not_lt.mp hfew) fun m hm hgen => Option.eq_none_iff_forall_ne_some.mpr fun tai htai => hsome ⟨m, tai, hm, hgen, htai⟩]
      exact ⟨Keeps.refl _ _, hwork⟩

/-- The counts of satellites stand after the epoch. -/
theorem solve_counts (s : State) (e : GnEpoch) (stamp : Option Stamp) :
    (s.solve e stamp).get F.GN_STAT_SV_USED = min (s.satsOf e).length 255 ∧
      (s.solve e stamp).get F.GN_STAT_SV_TRACKED = min (s.trackedSats e).length 255 := by
  obtain ⟨hkeep, -⟩ := solve_after s e stamp
  obtain ⟨-, -, hused, htracked⟩ := epochShown_shows s e
  exact ⟨(hkeep.get F.GN_STAT_SV_USED (by decide) (by decide)).trans hused, (hkeep.get F.GN_STAT_SV_TRACKED (by decide) (by decide)).trans htracked⟩

/-- A register below the channel pairs that shows no satellite is as before. -/
theorem epochShown_get (s : State) (e : GnEpoch) {f : Fld} (hf : f.key < 0x081000 * 64)
    (hne : f.key ∉ [F.GN_EVT_SV_EXCL, F.GN_STAT_SV_USED, F.GN_STAT_SV_TRACKED].map Fld.key) : (s.epochShown e).get f = s.get f := by
  obtain ⟨hkeep, -⟩ := epochShown_shows s e
  refine hkeep.get f (fun hm => ?_) (tallied_of_window (by omega))
  have hsplit : shownFields = [F.GN_EVT_SV_EXCL, F.GN_STAT_SV_USED, F.GN_STAT_SV_TRACKED] ++ pairFields := rfl
  rw [hsplit, List.map_append, List.mem_append] at hm
  obtain hm | hm := hm
  · exact hne hm
  · exact absurd (key_pairFields _ hm).1 (by omega)

/-- With too few satellites no solution is valid. -/
theorem solve_few_ends (h : (s.satsOf e).length < s.satsNeeded) : (s.solve e stamp).get F.GN_STAT_SOL_VALID = 0 ∧
    (s.on F.GN_STAT_SOL_VALID = true → (s.solve e stamp).get F.GN_EVT_SOL_LOST = 1) := by
  rw [solve_few h]
  have hsame : (s.epochShown e).on F.GN_STAT_SOL_VALID = s.on F.GN_STAT_SOL_VALID := by
    rw [State.on, State.on, epochShown_get s e (by decide) (by decide)]
  rw [← hsame]
  cases hon : (s.epochShown e).on F.GN_STAT_SOL_VALID
  · rw [gnInvalid_off hon]
    exact ⟨get_off hon, nofun⟩
  · obtain ⟨hvalid, -, hlost, -⟩ := gnInvalid_ends hon
    exact ⟨hvalid, fun _ => hlost⟩

/-- The uncertainty goes by what an epoch does not show. -/
theorem gnUnc_epochShown (s : State) (e : GnEpoch) (single : Bool) (used : List GnSat) : (s.epochShown e).gnUnc single used = s.gnUnc single used := by
  unfold State.gnUnc State.on
  rw [epochShown_get s e (f := F.GN_CAL_A_UNC) (by decide) (by decide), epochShown_get s e (f := F.GN_CAL_B_UNC) (by decide) (by decide),
    epochShown_get s e (f := F.GN_CFG_TREF) (by decide) (by decide), epochShown_get s e (f := F.GN_SOL_CFG_UTC_ALLOW) (by decide) (by decide)]

/-- With a usable stamp and offset the solution is taken. -/
theorem solve_solved {m : Stamp} {tai : Int} (h : s.satsNeeded ≤ (s.satsOf e).length) (hgen : m.gen = s.tb.gen)
    (htai : s.gnTai e (s.singleBand e) m.corr = some tai) :
    Solved (s.epochShown e) (s.solve e (some m)) (m.corr - tai) (s.gnUnc (s.singleBand e) (s.satsOf e)) (s.singleBand e) := by
  rw [solve_taken h hgen htai, ← gnUnc_epochShown s e]
  exact takeSolution_solved _ e _ _ m tai

/-! ## The epoch of the continuous channels -/

/-- The mark of the epoch is taken away. -/
def State.unmarked (s : State) : State := { s with gn.mark := none, gn.markB := none }

/-- What an epoch is solved by does not go by the mark. -/
structure SameEpoch (s t : State) (e : GnEpoch) : Prop where
  sats : t.satsOf e = s.satsOf e
  tracked : t.trackedSats e = s.trackedSats e
  needed : t.satsNeeded = s.satsNeeded
  single : t.singleBand e = s.singleBand e
  tai : ∀ single corr, t.gnTai e single corr = s.gnTai e single corr
  unc : ∀ single used, t.gnUnc single used = s.gnUnc single used

theorem unmarked_same (s : State) (e : GnEpoch) : SameEpoch s s.unmarked e := ⟨rfl, rfl, rfl, rfl, fun _ _ => rfl, fun _ _ => rfl⟩

/-- The baseband runs outside Flake mode. -/
def State.solves (s : State) : Prop := s.on F.GN_CFG_EN = true ∧ s.bandOk 0 = true ∧ s.gn.flake = false

theorem exec_gnSolutionEpoch (e : GnEpoch) (s : State) : exec (.gnSolutionEpoch e) s = running s fun s =>
    s.when (s.on F.GN_CFG_EN && s.bandOk 0 && !s.gn.flake) fun s => s.unmarked.solve e s.gn.mark := rfl

theorem does_gnSolutionEpoch_idle (hp : s.power = .run) (h : ¬s.solves) : Does (.gnSolutionEpoch e) s fun t => Frame s t [] := by
  refine does_running (exec_gnSolutionEpoch e s) hp ?_
  have hoff : (s.on F.GN_CFG_EN && s.bandOk 0 && !s.gn.flake) = false := by
    unfold State.solves at h
    simpa [Bool.and_assoc] using h
  rw [hoff]
  exact Frame.settle s []

/-- What an epoch that is solved brings about, it brings about with the mark gone and the satellites counted. -/
theorem does_gnSolutionEpoch (hp : s.power = .run) (h : s.solves) {P : State → Prop} (hP : P (s.unmarked.solve e s.gn.mark).settle) :
    Does (.gnSolutionEpoch e) s fun t => t.gn.mark = none ∧ t.get F.GN_STAT_SV_USED = min (s.satsOf e).length 255 ∧
      t.get F.GN_STAT_SV_TRACKED = min (s.trackedSats e).length 255 ∧ P t := by
  refine does_running (exec_gnSolutionEpoch e s) hp ?_
  obtain ⟨hen, hband, hflake⟩ := h
  simp only [hen, hband, hflake, Bool.and_self, Bool.not_false, State.when_true]
  have hsame := unmarked_same s e
  have hmark : s.unmarked.gn.mark = none := rfl
  rw [← hsame.sats, ← hsame.tracked, ← hmark]
  obtain ⟨-, hwork⟩ := solve_after s.unmarked e s.gn.mark
  obtain ⟨hused, htracked⟩ := solve_counts s.unmarked e s.gn.mark
  generalize s.unmarked.solve e s.gn.mark = u at hP hwork hused htracked ⊢
  simp only [State.atWork, Prod.mk.injEq] at hwork
  obtain ⟨-, hwmark, -⟩ := hwork
  exact ⟨by rwa [State.settle_gn], by rwa [State.settle_get], by rwa [State.settle_get], hP⟩

/-- Settles O40: the solution by what each of its parts writes and leaves alone, the record by reading back what was written, and the other
commands by their effects on the registers. -/
theorem gnssSolvesTimeAndKeepsPosition : Obligations.GnssSolvesTimeAndKeepsPosition := by
  unfold Obligations.GnssSolvesTimeAndKeepsPosition
  refine ⟨fun s e hp => ⟨does_gnSolutionEpoch_idle hp, ?_, ?_, ?_⟩, fun s hp => ⟨does_gnSolutionTimeout hp, does_gnSolutionTimeout_idle hp,
    does_gnPosAverage_unjudged hp, does_gnPosAverage_within hp, does_gnPosAverage_counts hp, does_gnPosAverage_bad hp, does_gnRecordWrite hp,
    does_gnEvidenceExpiry hp⟩, fun s path axis v hp hj => ⟨does_gnPosWrite_dropped hp hj, does_gnPosWrite_third hp hj, does_gnPosWrite_axis hp hj⟩,
    fun s path v hp hj => does_gnPosModeWrite hp hj, fun s sys current future week day hp => ⟨does_gnLeapData_other hp,
      does_gnLeapData_same hp, does_gnLeapData_differs hp, does_gnLeapData_offers hp⟩⟩
  · intro hruns hfew
    have hsame := unmarked_same s e
    rw [← hsame.sats, ← hsame.needed] at hfew
    obtain ⟨hvalid, hlost⟩ := solve_few_ends (stamp := s.gn.mark) hfew
    refine does_gnSolutionEpoch hp hruns ?_
    simp only [State.settle_get]
    exact ⟨hvalid, hlost⟩
  · intro hruns hmany hnone
    have hsame := unmarked_same s e
    rw [← hsame.sats, ← hsame.needed] at hmany
    refine does_gnSolutionEpoch hp hruns ?_
    rw [State.settle_get, solve_unsolved hmany fun m hm hgen => (hsame.tai _ _).trans (hnone m hm hgen)]
    exact epochShown_get s.unmarked e (by decide) (by decide)
  · intro hruns hmany m tai hm hgen htai
    have hsame := unmarked_same s e
    rw [← hsame.sats, ← hsame.needed] at hmany
    have hsolved := solve_solved hmany hgen ((hsame.tai _ _).trans htai)
    rw [hsame.unc] at hsolved
    refine does_gnSolutionEpoch hp hruns ?_
    rw [hm]
    obtain ⟨-, hwork, -⟩ := epochShown_shows s.unmarked e
    simp only [State.atWork, Prod.mk.injEq] at hwork
    obtain ⟨hnow, -, hflake, -⟩ := hwork
    have hlast := hsolved.epoch
    have hat := hsolved.validAt
    rw [hnow] at hlast hat
    simp only [State.settle_get, State.settle_gn, State.settle_on]
    obtain ⟨-, -, hoff⟩ := hruns
    exact ⟨hsolved.valid, hsolved.timing (hflake.trans hoff), hlast, hat, hsolved.ofs, hsolved.unc, hsolved.single⟩

end Sys2Proof.Machine
end

section
/-! PROOF. Flake mode: its entry, its exit, and the detection of jamming (O41; R141, R142, R144, R146). -/
namespace Sys2Proof.Machine

variable {s t : State} {path : Path} {v : Word}

/-! ## What a restart of the channels leaves alone -/

/-- The time, Glacier memory, and the work of Flake mode. -/
def State.flakeWork (s : State) : Nat × GlPart × Option Stamp × Bool × Bool × Bool × GnSnap × Nat × Option Nat :=
  (s.now, s.gl, s.gn.mark, s.gn.flake, s.gn.capture, s.gn.solving, s.gn.snap, s.gn.export_, s.gn.validAt)

theorem flakeWork_event (s : State) (f : Fld) (code inst arg : Nat) : (s.event f code inst arg).flakeWork = s.flakeWork := by
  simp only [State.flakeWork, State.event_gn, State.event_now, State.event_gl]

theorem flakeWork_startKind (s : State) : s.startKind.1.flakeWork = s.flakeWork := by
  obtain h | h := startKind_eq s
  · rw [h]
  · rw [h]
    exact flakeWork_event s _ _ _ _

theorem flakeWork_tryStart (s : State) : s.tryStart.flakeWork = s.flakeWork := by
  obtain h | ⟨-, b, k, h⟩ := tryStart_eq s
  · rw [h]
  · rw [h]
    have hkind := flakeWork_startKind s
    generalize s.startKind.1 = t at hkind ⊢
    have hsurvey : (t.when b (·.startSurvey)).flakeWork = t.flakeWork := when_inv State.flakeWork _ _ rfl
    generalize t.when b (·.startSurvey) = u at hsurvey ⊢
    exact hsurvey.trans hkind

theorem flakeWork_gnStart (s : State) : s.gnStart.flakeWork = s.flakeWork := (flakeWork_tryStart _).trans rfl

/-- A restart is under way. -/
def State.restarting (s : State) (hot : Bool) : State := { s with gn.leaving := false, gn.hot := hot }

theorem restartChannels_eq (s : State) (hot : Bool) : s.restartChannels hot = (s.restarting hot).when (s.on F.GN_CFG_EN) (·.gnStart) := rfl

theorem restartChannels_keeps (s : State) (hot : Bool) : Keeps s (s.restartChannels hot) startFields ∧
    (s.restartChannels hot).flakeWork = s.flakeWork := by
  have hsame : (s.restarting hot).cells = s.cells ∧ (s.restarting hot).flakeWork = s.flakeWork := ⟨rfl, rfl⟩
  rw [restartChannels_eq]
  generalize s.restarting hot = u at hsame ⊢
  obtain ⟨hcells, hwork⟩ := hsame
  exact ⟨(Keeps.ofCells hcells).when _ _ fun _ => keeps_gnStart u, (when_inv State.flakeWork _ _ (flakeWork_gnStart u)).trans hwork⟩

theorem finishLeaving_keeps (s : State) : Keeps s s.finishLeaving startFields ∧ s.finishLeaving.flakeWork = s.flakeWork := by
  obtain ⟨hkeep, hwork⟩ := restartChannels_keeps s true
  exact ⟨(Keeps.refl s _).when _ _ fun _ => hkeep, when_inv State.flakeWork _ _ hwork⟩

theorem finishLeaving_stays (h : s.gn.leaving = false) : s.finishLeaving = s := by
  unfold State.finishLeaving
  rw [h]
  rfl

/-! ## Entry and exit -/

/-- What the entry into Flake mode writes. -/
def enterFields : List Fld := F.GN_EVT_FLAKE :: F.GN_STAT_STATE :: pairFields

theorem enterFlake_enters (s : State) (auto : Bool) : Keeps s (s.enterFlake auto) enterFields ∧ (s.enterFlake auto).gn.flake = true := by
  unfold State.enterFlake
  split
  · next h => exact ⟨Keeps.ofCells rfl, h⟩
  · dsimp only
    obtain ⟨hidle, -⟩ := idleChannels_idle s
    have hkeep : Keeps s s.idleChannels enterFields := hidle.mono fun k hk => List.mem_cons_of_mem _ (List.mem_cons_of_mem _ hk)
    generalize s.idleChannels = u at hkeep ⊢
    replace hkeep := hkeep.event F.GN_EVT_FLAKE 0x030A 0 0 (by simp [enterFields])
    generalize u.event F.GN_EVT_FLAKE 0x030A 0 0 = w at hkeep ⊢
    refine ⟨Keeps.when (Keeps.next hkeep ?_) _ _ fun _ => Keeps.put (Keeps.refl _ _) F.GN_STAT_STATE 4 (by simp [enterFields]), ?_⟩
    · rfl
    · exact when_inv (fun t : State => t.gn.flake) _ _ rfl

theorem enterFlake_get (s : State) (auto : Bool) {f : Fld} (hf : f.key < 0x081000 * 64)
    (hne : f.key ∉ [F.GN_EVT_FLAKE, F.GN_STAT_STATE].map Fld.key) : (s.enterFlake auto).get f = s.get f := by
  obtain ⟨hkeep, -⟩ := enterFlake_enters s auto
  refine hkeep.get f (fun hm => ?_) (tallied_of_window (by omega))
  have hsplit : enterFields = [F.GN_EVT_FLAKE, F.GN_STAT_STATE] ++ pairFields := rfl
  rw [hsplit, List.map_append, List.mem_append] at hm
  obtain hm | hm := hm
  · exact hne hm
  · exact absurd (key_pairFields _ hm).1 (by omega)

/-- What the exit from it writes. -/
def leaveFields : List Fld := F.GN_EVT_FLAKE :: startFields

theorem leaveFlake_off (h : s.gn.flake = false) : s.leaveFlake = s := by
  unfold State.leaveFlake
  rw [h]
  rfl

theorem leaveFlake_on (h : s.gn.flake = true) : s.leaveFlake =
    if s.gn.capture || s.gn.solving then
      { s.event F.GN_EVT_FLAKE 0x030A 0 1 with gn.flake := false, gn.autoFlake := false, gn.leaving := true }
    else { s.event F.GN_EVT_FLAKE 0x030A 0 1 with gn.flake := false, gn.autoFlake := false }.restartChannels false := by
  unfold State.leaveFlake
  rw [h]
  rfl

theorem leaveFlake_leaves (s : State) : Keeps s s.leaveFlake leaveFields ∧ s.leaveFlake.gn.flake = false ∧
    (s.gn.flake = true → s.gn.capture = true ∨ s.gn.solving = true → s.leaveFlake.gn.leaving = true) := by
  cases hflake : s.gn.flake
  · rw [leaveFlake_off hflake]
    exact ⟨Keeps.refl s _, hflake, nofun⟩
  · rw [leaveFlake_on hflake]
    have hkeep : Keeps s (s.event F.GN_EVT_FLAKE 0x030A 0 1) leaveFields := (Keeps.refl s _).event F.GN_EVT_FLAKE _ _ _ (by decide)
    generalize s.event F.GN_EVT_FLAKE 0x030A 0 1 = u at hkeep ⊢
    split
    · exact ⟨hkeep.next rfl, rfl, fun _ _ => rfl⟩
    · next hidle =>
      obtain ⟨hstart, hwork⟩ := restartChannels_keeps { u with gn.flake := false, gn.autoFlake := false } false
      simp only [State.flakeWork, Prod.mk.injEq] at hwork
      obtain ⟨-, -, -, hoff, -⟩ := hwork
      exact ⟨(hkeep.next rfl).trans (hstart.mono (by decide)), hoff, fun _ hwork => absurd (by simpa using hwork) hidle⟩

/-! ## Jamming (R141) -/

theorem exec_gnJamDetect (s : State) : exec .gnJamDetect s = running s fun s =>
    s.when (s.on F.GN_CFG_EN && !s.on F.GN_STAT_JAM && s.jamming) fun s =>
      ((s.put F.GN_STAT_JAM 1).event F.GN_EVT_JAM 0x0309 0 0).when
        (((s.put F.GN_STAT_JAM 1).event F.GN_EVT_JAM 0x0309 0 0).on F.GN_FLAKE_AUTO_JAM &&
          !((s.put F.GN_STAT_JAM 1).event F.GN_EVT_JAM 0x0309 0 0).gn.flake) (·.enterFlake true) := rfl

theorem exec_gnJamClear (s : State) : exec .gnJamClear s = running s fun s => s.when (s.on F.GN_STAT_JAM && !s.jamming) fun s =>
    (s.put F.GN_STAT_JAM 0).when (s.gn.autoFlake && !s.on F.GN_FLAKE_EN) (·.leaveFlake) := rfl

section
variable (hp : s.power = .run)
include hp

theorem does_gnJamDetect (h : (s.on F.GN_CFG_EN && !s.on F.GN_STAT_JAM && s.jamming) = true) : Does .gnJamDetect s fun t =>
    t.get F.GN_STAT_JAM = 1 ∧ t.get F.GN_EVT_JAM = 1 ∧ (s.on F.GN_FLAKE_AUTO_JAM = true → t.gn.flake = true) ∧
      (s.on F.GN_FLAKE_AUTO_JAM = false → Frame s t [F.GN_STAT_JAM, F.GN_EVT_JAM] ∧ Logs s t 0x0309 0x08 0 0) := by
  refine does_running (exec_gnJamDetect s) hp ?_
  simp only [h, State.when_true]
  have hframe : Frame s ((s.put F.GN_STAT_JAM 1).event F.GN_EVT_JAM 0x0309 0 0) [F.GN_STAT_JAM, F.GN_EVT_JAM] :=
    (Frame.put s F.GN_STAT_JAM 1 (.inl (by simp))).trans (Frame.event _ F.GN_EVT_JAM _ _ _ (by simp))
  have hjam : ((s.put F.GN_STAT_JAM 1).event F.GN_EVT_JAM 0x0309 0 0).get F.GN_STAT_JAM = 1 :=
    (State.event_get_other _ F.GN_EVT_JAM F.GN_STAT_JAM _ _ _ (by decide) (by decide)).trans (State.get_put_same s F.GN_STAT_JAM 1)
  have hflag := State.event_flag (s := s.put F.GN_STAT_JAM 1) F.GN_EVT_JAM 0x0309 0 0 (by decide) (by decide)
  have hlogs : Logs s ((s.put F.GN_STAT_JAM 1).event F.GN_EVT_JAM 0x0309 0 0) 0x0309 0x08 0 0 :=
    State.event_logs (s.put F.GN_STAT_JAM 1) F.GN_EVT_JAM 0x0309 0 0
  generalize (s.put F.GN_STAT_JAM 1).event F.GN_EVT_JAM 0x0309 0 0 = u at hframe hjam hflag hlogs ⊢
  have hauto : u.on F.GN_FLAKE_AUTO_JAM = s.on F.GN_FLAKE_AUTO_JAM := by
    rw [State.on, State.on, hframe.get F.GN_FLAKE_AUTO_JAM (by decide) (by decide)]
  rw [hauto]
  simp only [State.settle_get, State.settle_gn]
  refine ⟨?_, ?_, fun ha => ?_, fun ha => ?_⟩
  · exact (get_when fun _ => enterFlake_get u true (by decide) (by decide)).trans hjam
  · exact (get_when fun _ => enterFlake_get u true (by decide) (by decide)).trans hflag
  · rw [ha, Bool.true_and]
    cases hflake : u.gn.flake
    · exact (enterFlake_enters u true).2
    · exact hflake
  · rw [ha, Bool.false_and, State.when_false]
    exact ⟨hframe.settled, hlogs.ofJl (State.settle_jl u)⟩

theorem does_gnJamDetect_idle (h : (s.on F.GN_CFG_EN && !s.on F.GN_STAT_JAM && s.jamming) = false) :
    Does .gnJamDetect s fun t => Frame s t [] := by
  refine does_running (exec_gnJamDetect s) hp ?_
  rw [h]
  exact Frame.settle s []

theorem does_gnJamClear (hj : s.on F.GN_STAT_JAM = true) (hc : s.jamming = false) : Does .gnJamClear s fun t => t.get F.GN_STAT_JAM = 0 ∧
    (s.gn.autoFlake = true → s.on F.GN_FLAKE_EN = false → t.gn.flake = false) ∧
    (s.gn.autoFlake = false ∨ s.on F.GN_FLAKE_EN = true → Frame s t [F.GN_STAT_JAM]) := by
  refine does_running (exec_gnJamClear s) hp ?_
  simp only [hj, hc, Bool.not_false, Bool.and_self, State.when_true]
  have hjam : (s.put F.GN_STAT_JAM 0).get F.GN_STAT_JAM = 0 := State.get_put_same s F.GN_STAT_JAM 0
  have hframe : Frame s (s.put F.GN_STAT_JAM 0) [F.GN_STAT_JAM] := Frame.put s F.GN_STAT_JAM 0 (.inl (by simp))
  generalize s.put F.GN_STAT_JAM 0 = u at hjam hframe ⊢
  obtain ⟨hkeep, hflake, -⟩ := leaveFlake_leaves u
  simp only [State.settle_get, State.settle_gn]
  refine ⟨?_, fun ha hen => ?_, fun hstay => ?_⟩
  · exact (get_when fun _ => hkeep.get F.GN_STAT_JAM (by decide) (by decide)).trans hjam
  · rw [ha, hen]
    exact hflake
  · have hoff : (s.gn.autoFlake && !s.on F.GN_FLAKE_EN) = false := by
      obtain h | h := hstay <;> simp [h]
    rw [hoff]
    exact hframe.settled

theorem does_gnJamClear_idle (h : s.on F.GN_STAT_JAM = false ∨ s.jamming = true) : Does .gnJamClear s fun t => Frame s t [] := by
  refine does_running (exec_gnJamClear s) hp ?_
  have hoff : (s.on F.GN_STAT_JAM && !s.jamming) = false := by
    obtain h | h := h <;> simp [h]
  rw [hoff]
  exact Frame.settle s []

/-! ## A write of GN_FLAKE (R142) -/

theorem does_gnFlakeWrite (hj : s.judge path F.GN_FLAKE_EN.off true = .served) : Does (.gnFlakeWrite path v) s fun t =>
    (∀ f ∈ fieldsAt F.GN_FLAKE_EN.off, t.get f = f.ofWord v) ∧
      (F.GN_FLAKE_EN.ofWord v = 1 → s.on F.GN_FLAKE_EN = false → t.gn.flake = true) ∧
      (F.GN_FLAKE_EN.ofWord v = 0 → s.on F.GN_FLAKE_EN = true → t.gn.flake = false ∧
        (s.gn.flake = true → s.gn.capture = true ∨ s.gn.solving = true → t.gn.leaving = true)) ∧
      ((F.GN_FLAKE_EN.ofWord v == 1) = s.on F.GN_FLAKE_EN → Frame s t (fieldsAt F.GN_FLAKE_EN.off)) := by
  refine does_write (f := (·.writeFlake v)) rfl hp hj ?_
  have hfields := fun f hf => putWord_get (s := s) F.GN_FLAKE_EN.off v (f := f) hf
  have hgn := putWord_gn s (fieldsAt F.GN_FLAKE_EN.off) v.toNat
  have hframe : Frame s (s.putWord (fieldsAt F.GN_FLAKE_EN.off) v.toNat) (fieldsAt F.GN_FLAKE_EN.off) :=
    Frame.putWord s _ fun f hf => List.mem_map_of_mem hf
  have hen := hfields F.GN_FLAKE_EN (by decide +kernel)
  unfold State.writeFlake
  dsimp only
  generalize s.putWord (fieldsAt F.GN_FLAKE_EN.off) v.toNat = u at hfields hgn hframe hen ⊢
  have hon : u.on F.GN_FLAKE_EN = (F.GN_FLAKE_EN.ofWord v == 1) := by
    have hbit : F.GN_FLAKE_EN.ofWord v < 2 := Nat.mod_lt _ (by decide)
    rw [State.on, hen]
    generalize F.GN_FLAKE_EN.ofWord v = b at hbit
    interval_cases b <;> rfl
  have hkey (f : Fld) (hf : f ∈ fieldsAt F.GN_FLAKE_EN.off) : 0x080068 * 64 ≤ f.key ∧ f.key < 0x080069 * 64 := by
    have hoff : f.off = 0x080068 := off_of_mem_fieldsAt hf
    obtain ⟨hlo, -⟩ := sound_of_mem_fieldsAt hf
    rw [Fld.key, hoff]
    omega
  have hapart : ∀ k ∈ leaveFields.map Fld.key, k < 0x080068 * 64 ∨ 0x080069 * 64 ≤ k := by decide
  have henter (f : Fld) (hf : f ∈ fieldsAt F.GN_FLAKE_EN.off) : (u.enterFlake false).get f = u.get f := by
    obtain ⟨hlo, hhi⟩ := hkey f hf
    refine enterFlake_get u false (by omega) fun hm => ?_
    have := hapart f.key ((by decide : ∀ k ∈ [F.GN_EVT_FLAKE, F.GN_STAT_STATE].map Fld.key, k ∈ leaveFields.map Fld.key) _ hm)
    omega
  obtain ⟨-, hentered⟩ := enterFlake_enters u false
  obtain ⟨hleave, hleft, hwaits⟩ := leaveFlake_leaves u
  have hleaveGet (f : Fld) (hf : f ∈ fieldsAt F.GN_FLAKE_EN.off) : u.leaveFlake.get f = u.get f := by
    obtain ⟨hlo, hhi⟩ := hkey f hf
    refine hleave.get f (fun hm => ?_) (tallied_of_window (by omega))
    have := hapart f.key hm
    omega
  rw [hgn] at hwaits
  have hflag : F.GN_FLAKE_EN.ofWord v = 1 ↔ (F.GN_FLAKE_EN.ofWord v == 1) = true := beq_iff_eq.symm
  have hzero : F.GN_FLAKE_EN.ofWord v = 0 → (F.GN_FLAKE_EN.ofWord v == 1) = false := fun h => by rw [h]; rfl
  rw [hon]
  simp only [State.settle_get, State.settle_gn]
  cases hwas : s.on F.GN_FLAKE_EN <;> cases hnow : F.GN_FLAKE_EN.ofWord v == 1
  · exact ⟨hfields, fun h => absurd (hflag.mp h) (by rw [hnow]; exact Bool.false_ne_true), nofun, fun _ => hframe.settled⟩
  · exact ⟨fun f hf => (henter f hf).trans (hfields f hf), fun _ _ => hentered, nofun, nofun⟩
  · exact ⟨fun f hf => (hleaveGet f hf).trans (hfields f hf), nofun, fun _ _ => ⟨hleft, hwaits⟩, nofun⟩
  · exact ⟨hfields, nofun, fun h => absurd (hzero h) (by rw [hnow]; exact Bool.noConfusion), fun _ => hframe.settled⟩

end

end Sys2Proof.Machine
end

section
/-! PROOF. Flake mode: captures, their solution and how they are exported, and the obligation O41 (R128, R129, R134, R142 to R144). -/
namespace Sys2Proof.Machine

variable {s t : State} {e : GnEpoch} {a b : List Byte} {x y : Int}

/-! ## A capture starts (R142, R144) -/

theorem dropSnap_drops (s : State) (reason : Nat) : Frame s (s.dropSnap reason) [F.GN_EVT_SNAP_DROP] ∧
    Logs s (s.dropSnap reason) 0x030B 0x08 0 reason ∧ (s.dropSnap reason).get F.GN_EVT_SNAP_DROP = 1 :=
  ⟨Frame.event s F.GN_EVT_SNAP_DROP _ _ _ (by simp), State.event_logs s F.GN_EVT_SNAP_DROP 0x030B 0 reason,
    State.event_flag s F.GN_EVT_SNAP_DROP _ _ _ (by decide) (by decide)⟩

/-- A capture is in progress, and nothing is being exported. -/
def State.capturing (s : State) : State := { s with gn.export_ := 0, gn.capture := true }

/-- A capture is due. -/
def State.captureStarts (s : State) : Bool := s.gn.flake && s.on F.GN_CFG_EN && s.bandOk 0 && s.captureDue

/-- The last snapshot is still in work. -/
def State.snapBusy (s : State) : Bool := s.gn.solving || s.gn.export_ == 2 || s.gn.capture

theorem exec_gnFlakeCaptureStart (s : State) : exec .gnFlakeCaptureStart s = running s fun s =>
    if !s.captureStarts then s
    else if s.snapBusy then s.dropSnap 4
    else (s.when (s.gn.export_ == 1) (·.dropSnap 4)).capturing := rfl

section
variable (hp : s.power = .run)
include hp

theorem does_gnCaptureStart_idle (h : s.captureStarts = false) : Does .gnFlakeCaptureStart s fun t => Frame s t [] := by
  refine does_running (exec_gnFlakeCaptureStart s) hp ?_
  rw [h]
  exact Frame.settle s []

theorem does_gnCaptureStart_busy (h : s.captureStarts = true) (hb : s.snapBusy = true) : Does .gnFlakeCaptureStart s fun t =>
    Frame s t [F.GN_EVT_SNAP_DROP] ∧ Logs s t 0x030B 0x08 0 4 := by
  refine does_running (exec_gnFlakeCaptureStart s) hp ?_
  rw [h, hb]
  obtain ⟨hframe, hlogs, -⟩ := dropSnap_drops s 4
  exact ⟨hframe.settled, hlogs.ofJl (State.settle_jl _)⟩

theorem does_gnCaptureStart_drops (h : s.captureStarts = true) (hb : s.snapBusy = false) (he : s.gn.export_ = 1) :
    Does .gnFlakeCaptureStart s fun t => Frame s.capturing t [F.GN_EVT_SNAP_DROP] ∧ Logs s t 0x030B 0x08 0 4 := by
  refine does_running (exec_gnFlakeCaptureStart s) hp ?_
  rw [h, hb, beq_iff_eq.mpr he]
  obtain ⟨hframe, hlogs, -⟩ := dropSnap_drops s 4
  exact ⟨(hframe.mapGn fun g => { g with export_ := 0, capture := true }).settled, hlogs.ofJl ((State.settle_jl _).trans rfl)⟩

theorem does_gnCaptureStart_captures (h : s.captureStarts = true) (hb : s.snapBusy = false) (he : s.gn.export_ ≠ 1) :
    Does .gnFlakeCaptureStart s fun t => Frame s.capturing t [] := by
  refine does_running (exec_gnFlakeCaptureStart s) hp ?_
  rw [h, hb, beq_eq_false_iff_ne.mpr he]
  exact Frame.settle _ []

end

/-! ## A capture ends (R142 to R144) -/

/-- The capture is over, its mark taken and its gain noted. -/
def State.captureEnded (s : State) (x : Int) : State := { s with gn.capture := false, gn.mark := none, gn.markB := none, gn.agcA := x }

/-- The samples of band A. -/
def State.samplesA (s : State) (a : List Byte) : List Byte := (a.take s.captureLen).map (s.busSample 0)

/-- The samples of band B, where it is in use. -/
def State.samplesB (s : State) (b : List Byte) (n : Nat) : List Byte := if s.bandUsed 1 then (b.take n).map (s.busSample 1) else []

/-- The snapshot area. -/
def State.snapPart (s : State) : Nat := (s.df.image.map Image.snapshot).getD 0

/-- The snapshot of a capture and the solver that starts on it. -/
def State.snapped (s t : State) (stamp : Option Stamp) (a : List Byte) (x y : Int) : State :=
  { t with gn.snap := { stamp := stamp, samples := (s.samplesA a).length, bands := 1 + (if s.bandUsed 1 then 2 else 0), agcA := x, agcB := y },
           gn.solving := s.on F.GN_FLAKE_SOLVE }

theorem exec_gnCaptureEnd (a b : List Byte) (x y : Int) (s : State) : exec (.gnCaptureEnd a b x y) s = running s fun s =>
    s.when s.gn.capture fun s =>
      if (s.captureEnded x).snapReason s.gn.mark ≠ 0 then ((s.captureEnded x).dropSnap ((s.captureEnded x).snapReason s.gn.mark)).finishLeaving
      else (((s.captureEnded x).snapped ((s.captureEnded x).writePart (s.captureEnded x).snapPart 0
        ((s.captureEnded x).samplesA a ++ (s.captureEnded x).samplesB b ((s.captureEnded x).samplesA a).length)) s.gn.mark a x y).when
          ((s.captureEnded x).on F.GN_FLAKE_EXPORT) (·.beginExport)).finishLeaving := by
  show execGnCaptureEnd a b x y s = _
  unfold execGnCaptureEnd
  rfl

/-- The end of the capture changes nothing that its snapshot goes by. -/
structure SameCapture (s t : State) : Prop where
  reason : ∀ stamp, t.snapReason stamp = s.snapReason stamp
  samplesA : ∀ a, t.samplesA a = s.samplesA a
  samplesB : ∀ b n, t.samplesB b n = s.samplesB b n
  part : t.snapPart = s.snapPart
  on : ∀ f, t.on f = s.on f
  partAt : ∀ p off n, t.partAt p off n = s.partAt p off n
  gl : t.gl = s.gl

theorem captureEnded_same (s : State) (x : Int) : SameCapture s (s.captureEnded x) :=
  ⟨fun _ => rfl, fun _ => rfl, fun _ _ => rfl, rfl, fun _ => rfl, fun _ _ _ => rfl, rfl⟩

/-- A write of a partition touches Glacier memory alone. -/
theorem writePart_eq (s : State) (part off : Nat) (l : List Byte) : s.writePart part off l = { s with gl := (s.writePart part off l).gl } := by
  unfold State.writePart
  split
  · rw [glWrite_eq]
  · rfl

/-- What it leaves there goes by the partition's address and the memory. -/
theorem writePart_gl (hat : ∀ p off n, t.partAt p off n = s.partAt p off n) (hgl : t.gl = s.gl) (part off : Nat) (l : List Byte) :
    (t.writePart part off l).gl = (s.writePart part off l).gl := by
  unfold State.writePart
  rw [hat]
  cases s.partAt part off l.length with
  | none => exact hgl
  | some addr => simp only [glWrite_eq, hgl]

/-- What stands once the snapshot is taken. -/
theorem snapped_holds (s : State) (gl : GlPart) (stamp : Option Stamp) (a : List Byte) (x y : Int) :
    let u := (s.captureEnded x).snapped { s.captureEnded x with gl := gl } stamp a x y
    u.gl = gl ∧ u.gn.mark = none ∧ u.gn.capture = false ∧ u.gn.solving = s.on F.GN_FLAKE_SOLVE ∧ u.gn.snap.stamp = stamp ∧
      u.gn.snap.samples = (s.samplesA a).length ∧ u.gn.snap.bands = 1 + (if s.bandUsed 1 then 2 else 0) ∧ u.gn.export_ = s.gn.export_ ∧
      u.on F.GN_SNAP_HADDR_ARM = s.on F.GN_SNAP_HADDR_ARM := ⟨rfl, rfl, rfl, rfl, rfl, rfl, rfl, rfl, rfl⟩

/-- The snapshot is being exported, or waits for ARM (R144). -/
theorem exportBegun (s : State) (asked : Bool) : (s.when asked (·.beginExport)).gl = s.gl ∧ (s.when asked (·.beginExport)).gn =
    { s.gn with export_ := if asked then if s.on F.GN_SNAP_HADDR_ARM then 2 else 1 else s.gn.export_ } := by
  cases asked <;> exact ⟨rfl, rfl⟩

section
variable (hp : s.power = .run)
include hp

theorem does_gnCaptureEnd_idle (h : s.gn.capture = false) : Does (.gnCaptureEnd a b x y) s fun t => Frame s t [] := by
  refine does_running (exec_gnCaptureEnd a b x y s) hp ?_
  rw [h]
  exact Frame.settle s []

theorem does_gnCaptureEnd_drops (h : s.gn.capture = true) (hr : s.snapReason s.gn.mark ≠ 0) : Does (.gnCaptureEnd a b x y) s fun t =>
    t.gn.capture = false ∧ t.gn.mark = none ∧ t.get F.GN_EVT_SNAP_DROP = 1 ∧ t.gn.solving = s.gn.solving ∧ t.gn.snap = s.gn.snap ∧
      (s.gn.leaving = false → Frame (s.captureEnded x) t [F.GN_EVT_SNAP_DROP] ∧ Logs s t 0x030B 0x08 0 (s.snapReason s.gn.mark)) := by
  refine does_running (exec_gnCaptureEnd a b x y s) hp ?_
  have hsame := captureEnded_same s x
  simp only [h, State.when_true, hsame.reason, hr, ne_eq, not_false_eq_true, if_true]
  obtain ⟨hframe, hlogs, hflag⟩ := dropSnap_drops (s.captureEnded x) (s.snapReason s.gn.mark)
  have hgn := hframe.gn
  replace hlogs : Logs s ((s.captureEnded x).dropSnap (s.snapReason s.gn.mark)) 0x030B 0x08 0 (s.snapReason s.gn.mark) := hlogs
  generalize (s.captureEnded x).dropSnap (s.snapReason s.gn.mark) = u at hframe hlogs hflag hgn ⊢
  obtain ⟨hkeep, hwork⟩ := finishLeaving_keeps u
  simp only [State.flakeWork, Prod.mk.injEq] at hwork
  obtain ⟨-, -, hmark, -, hcapture, hsolving, hsnap, -⟩ := hwork
  rw [hgn] at hmark hcapture hsolving hsnap
  simp only [State.settle_get, State.settle_gn]
  refine ⟨hcapture, hmark, ?_, hsolving, hsnap, fun hstay => ?_⟩
  · exact (hkeep.get F.GN_EVT_SNAP_DROP (by decide) (by decide)).trans hflag
  · rw [finishLeaving_stays (by rw [hgn]; exact hstay)]
    exact ⟨hframe.settled, hlogs.ofJl (State.settle_jl u)⟩

theorem does_gnCaptureEnd_takes (h : s.gn.capture = true) (hr : s.snapReason s.gn.mark = 0) : Does (.gnCaptureEnd a b x y) s fun t =>
    t.gn.capture = false ∧ t.gn.mark = none ∧ t.gn.solving = s.on F.GN_FLAKE_SOLVE ∧ t.gn.snap.stamp = s.gn.mark ∧
      t.gn.snap.samples = (s.samplesA a).length ∧ t.gn.snap.bands = (if s.bandUsed 1 then 3 else 1) ∧
      t.gn.export_ = (if s.on F.GN_FLAKE_EXPORT then if s.on F.GN_SNAP_HADDR_ARM then 2 else 1 else s.gn.export_) ∧
      t.gl.cells = (s.writePart s.snapPart 0 (s.samplesA a ++ s.samplesB b (s.samplesA a).length)).gl.cells := by
  refine does_running (exec_gnCaptureEnd a b x y s) hp ?_
  have hsame := captureEnded_same s x
  simp only [h, State.when_true, hsame.reason, hr, ne_eq, not_true_eq_false, if_false, hsame.samplesA, hsame.samplesB, hsame.part, hsame.on]
  generalize hl : s.samplesA a ++ s.samplesB b (s.samplesA a).length = l
  have hgl := writePart_gl hsame.partAt hsame.gl s.snapPart 0 l
  rw [writePart_eq (s.captureEnded x), hgl]
  generalize (s.writePart s.snapPart 0 l).gl = gl
  have hsnap := snapped_holds s gl s.gn.mark a x y
  generalize (s.captureEnded x).snapped { s.captureEnded x with gl := gl } s.gn.mark a x y = u at hsnap ⊢
  obtain ⟨hgl, hmark, hcapture, hsolving, hstamp, hsamples, hbands, hexport, harm⟩ := hsnap
  have hbegun := exportBegun u (s.on F.GN_FLAKE_EXPORT)
  generalize u.when (s.on F.GN_FLAKE_EXPORT) (·.beginExport) = w at hbegun ⊢
  obtain ⟨hwgl, hwgn⟩ := hbegun
  obtain ⟨-, hwork⟩ := finishLeaving_keeps w
  rw [State.flakeWork, State.flakeWork, hwgl, hwgn] at hwork
  simp only [Prod.mk.injEq] at hwork
  obtain ⟨-, htgl, htmark, -, htcapture, htsolving, htsnap, htexport, -⟩ := hwork
  simp only [State.settle_gn, State.settle_gl]
  rw [htcapture, htmark, htsolving, htsnap, htexport, htgl, hcapture, hmark, hsolving, hstamp, hsamples, hbands, hexport, harm, hgl]
  refine ⟨rfl, rfl, rfl, rfl, rfl, ?_, rfl, rfl⟩
  cases s.bandUsed 1 <;> rfl

end

/-! ## The solution of a snapshot (R143) -/

/-- The solution of the snapshot is over. -/
def State.unsolving (s : State) : State := { s with gn.solving := false }

theorem exec_gnSnapshotSolved (e : GnEpoch) (s : State) : exec (.gnSnapshotSolved e) s = running s fun s =>
    s.when s.gn.solving fun s => (s.unsolving.solve e s.gn.snap.stamp).finishLeaving := rfl

theorem unsolving_same (s : State) (e : GnEpoch) : SameEpoch s s.unsolving e := ⟨rfl, rfl, rfl, rfl, fun _ _ => rfl, fun _ _ => rfl⟩

theorem does_gnSnapshotSolved_idle (hp : s.power = .run) (h : s.gn.solving = false) : Does (.gnSnapshotSolved e) s fun t => Frame s t [] := by
  refine does_running (exec_gnSnapshotSolved e s) hp ?_
  rw [h]
  exact Frame.settle s []

theorem does_gnSnapshotSolved (hp : s.power = .run) (h : s.gn.solving = true) : Does (.gnSnapshotSolved e) s fun t => t.gn.solving = false ∧
    ((s.satsOf e).length < s.satsNeeded → t.get F.GN_STAT_SOL_VALID = 0) ∧
    (s.satsNeeded ≤ (s.satsOf e).length → ∀ (m : Stamp) (tai : Int), s.gn.snap.stamp = some m → m.gen = s.tb.gen →
      s.gnTai e (s.singleBand e) m.corr = some tai → t.get F.GN_STAT_SOL_VALID = 1 ∧ t.gn.validAt = some s.now ∧
        t.get F.GN_SOL_UNC_UNC = s.gnUnc (s.singleBand e) (s.satsOf e) % 2 ^ 48 ∧
        t.get F.GN_SOL_OFS_E = (clampI (-2 ^ 63) (2 ^ 63 - 1) (phaseOfSpan (m.corr - tai)) % 2 ^ 64).toNat) := by
  refine does_running (exec_gnSnapshotSolved e s) hp ?_
  rw [h, State.when_true]
  have hsame := unsolving_same s e
  obtain ⟨-, hsolve⟩ := solve_after s.unsolving e s.gn.snap.stamp
  obtain ⟨hkeep, hfinish⟩ := finishLeaving_keeps (s.unsolving.solve e s.gn.snap.stamp)
  simp only [State.atWork, Prod.mk.injEq] at hsolve
  simp only [State.flakeWork, Prod.mk.injEq] at hfinish
  obtain ⟨-, -, -, hsolving⟩ := hsolve
  obtain ⟨-, -, -, -, -, htsolving, -, -, hvalidAt⟩ := hfinish
  simp only [State.settle_get, State.settle_gn]
  refine ⟨htsolving.trans hsolving, fun hfew => ?_, fun hmany m tai hm hgen htai => ?_⟩
  · rw [← hsame.sats, ← hsame.needed] at hfew
    obtain ⟨hvalid, -⟩ := solve_few_ends (stamp := s.gn.snap.stamp) hfew
    exact (hkeep.get F.GN_STAT_SOL_VALID (by decide) (by decide)).trans hvalid
  · rw [← hsame.sats, ← hsame.needed] at hmany
    have hsolved := solve_solved hmany hgen ((hsame.tai _ _).trans htai)
    rw [hsame.unc] at hsolved
    obtain ⟨-, hwork, -⟩ := epochShown_shows s.unsolving e
    simp only [State.atWork, Prod.mk.injEq] at hwork
    obtain ⟨hnow, -⟩ := hwork
    have hat := hsolved.validAt
    rw [hnow] at hat
    rw [hm] at hkeep hvalidAt ⊢
    exact ⟨(hkeep.get F.GN_STAT_SOL_VALID (by decide) (by decide)).trans hsolved.valid, hvalidAt.trans hat,
      (hkeep.get F.GN_SOL_UNC_UNC (by decide) (by decide)).trans hsolved.unc, (hkeep.get F.GN_SOL_OFS_E (by decide) (by decide)).trans hsolved.ofs⟩

/-! ## A snapshot is exported (R144) -/

/-- The exported snapshot is gone. -/
def State.exportEnded (s : State) : State := { (s.put F.GN_SNAP_HADDR_ARM 0).signalLimited 2 1 with gn.export_ := 0 }

theorem exec_gnSnapshotExported (s : State) : exec .gnSnapshotExported s = running s fun s => s.when (s.gn.export_ == 2) fun s =>
    (s.snapBytes.1.emit (.hostMem (s.get F.GN_SNAP_HADDR_ADDR * 4096) s.snapBytes.2)).exportEnded := rfl

theorem exportEnded_ends (s : State) : s.exportEnded.gn.export_ = 0 ∧ s.exportEnded.get F.GN_SNAP_HADDR_ARM = 0 ∧ s.outs <:+ s.exportEnded.outs :=
  ⟨rfl, (State.signalLimited_get _ 2 1 F.GN_SNAP_HADDR_ARM).trans (State.get_put_same s F.GN_SNAP_HADDR_ARM 0),
    outs_signalLimited (s.put F.GN_SNAP_HADDR_ARM 0) 2 1⟩

theorem does_gnSnapshotExported (hp : s.power = .run) (h : s.gn.export_ = 2) : Does .gnSnapshotExported s fun t =>
    t.gn.export_ = 0 ∧ t.get F.GN_SNAP_HADDR_ARM = 0 ∧ Sends s.snapBytes.1 t (.hostMem (s.get F.GN_SNAP_HADDR_ADDR * 4096) s.snapBytes.2) := by
  refine does_running (exec_gnSnapshotExported s) hp ?_
  rw [beq_iff_eq.mpr h, State.when_true]
  generalize s.snapBytes = q
  obtain ⟨hexport, harm, houts⟩ := exportEnded_ends (q.1.emit (.hostMem (s.get F.GN_SNAP_HADDR_ADDR * 4096) q.2))
  exact ⟨(congrArg GnPart.export_ (State.settle_gn _)).trans hexport, (State.settle_get _ _).trans harm, houts.trans (outs_settle _)⟩

theorem does_gnSnapshotExported_idle (hp : s.power = .run) (h : s.gn.export_ ≠ 2) : Does .gnSnapshotExported s fun t => Frame s t [] := by
  refine does_running (exec_gnSnapshotExported s) hp ?_
  rw [beq_eq_false_iff_ne.mpr h]
  exact Frame.settle s []

/-- Settles O41: Flake mode by what its entry and exit write and leave alone, a snapshot by the part of Glacier memory it takes, and its solution as
an epoch's. -/
theorem flakeModeCapturesSolvesAndExports : Obligations.FlakeModeCapturesSolvesAndExports := by
  unfold Obligations.FlakeModeCapturesSolvesAndExports
  exact ⟨fun s hp => ⟨does_gnJamDetect hp, does_gnJamDetect_idle hp, does_gnJamClear hp, does_gnJamClear_idle hp, does_gnCaptureStart_idle hp,
      does_gnCaptureStart_busy hp, does_gnCaptureStart_drops hp, does_gnCaptureStart_captures hp, does_gnSnapshotExported hp,
      does_gnSnapshotExported_idle hp⟩,
    fun s a b x y hp => ⟨does_gnCaptureEnd_idle hp, does_gnCaptureEnd_drops hp, does_gnCaptureEnd_takes hp⟩,
    fun s e hp => ⟨does_gnSnapshotSolved hp, does_gnSnapshotSolved_idle hp⟩,
    fun s path v hp hj => does_gnFlakeWrite hp hj⟩

end Sys2Proof.Machine
end

section
/-! PROOF. Attestation (O13): what shows a record in its registers, its failure and its signature, and the read that latches it (R169, R171, R173). -/
namespace Sys2Proof.Machine

variable {s t u : State} {fs : List Fld}

/-! ## Words of bytes -/

theorem ofBytesLE_lt (l : List Byte) : ofBytesLE l < 256 ^ l.length := by
  induction l with
  | nil => exact Nat.one_pos
  | cons b l ih =>
    have hb : b.toNat < 256 := b.isLt
    rw [ofBytesLE, List.length_cons, pow_succ]
    omega

/-- Eight bytes spell a number that a register holds. -/
theorem at8_lt (l : List Byte) (off : Nat) : at8 l off < 2 ^ 64 :=
  (ofBytesLE_lt _).trans_le (Nat.pow_le_pow_right (n := 256) (by decide) (List.length_take_le 8 _))

/-! ## The attestation registers (R169) -/

/-- MB_ATT0 to MB_ATT19. -/
def recordFields : List Fld := (List.range 20).map F.MB_ATT_DATA

/-- The record, its validity and its sequence number. -/
def attestationFields : List Fld := recordFields ++ [F.MB_ATT_STAT_VALID, F.MB_ATT_STAT_SEQ]

/-- The attestation's fields with the words of the record, its validity and its number. -/
def attestationWrites (word : Nat → Nat) (valid seq : Nat) : List (Fld × Nat) :=
  (List.range 20).map (fun w => (F.MB_ATT_DATA w, word w)) ++ [(F.MB_ATT_STAT_VALID, valid), (F.MB_ATT_STAT_SEQ, seq)]

theorem attestationWrites_fst (word : Nat → Nat) (valid seq : Nat) : (attestationWrites word valid seq).map Prod.fst = attestationFields := rfl

theorem mem_attestationWrites (word : Nat → Nat) (valid seq : Nat) : (F.MB_ATT_STAT_VALID, valid) ∈ attestationWrites word valid seq ∧
    (F.MB_ATT_STAT_SEQ, seq) ∈ attestationWrites word valid seq ∧ ∀ w < 20, (F.MB_ATT_DATA w, word w) ∈ attestationWrites word valid seq :=
  ⟨List.mem_append_right _ List.mem_cons_self, List.mem_append_right _ (List.mem_cons_of_mem _ List.mem_cons_self),
    fun w hw => List.mem_append_left _ (List.mem_map.mpr ⟨w, List.mem_range.mpr hw, rfl⟩)⟩

theorem nodup_attestationFields : (attestationFields.map Fld.key).Nodup := by decide

/-- The event flags of attestations are apart from the attestation's fields; no event tallies any of them. -/
theorem attestation_apart : ∀ g ∈ [F.MB_EVT_ATT, F.MB_EVT_ATT_FAIL], g.width = 1 ∧ g.tallied = false ∧
    ∀ f ∈ attestationFields, f.key ≠ g.key ∧ f.tallied = false := by decide

/-- No message waits for the signer. -/
def State.unsigning (s : State) : State := { s with mb.signing := none }

theorem unsigning_get (s : State) (f : Fld) : s.unsigning.get f = s.get f := rfl
theorem unsigning_mb (h : t.mb = s.mb) : t.unsigning.mb = s.unsigning.mb := congrArg (fun mb : MbPart => { mb with signing := none }) h
theorem Frame.unsigning (h : Frame s t fs) : Frame s.unsigning t.unsigning fs := ⟨h.1, congrArg State.unsigning h.2⟩

theorem putAll_mb (s : State) (l : List (Fld × Nat)) : (s.putAll l).mb = s.mb :=
  forAll_inv State.mb l (fun t e => t.put e.1 e.2) (fun _ _ => rfl) s

/-- Fields of an attestation are shown, no message waits any more, and an event is written. -/
def State.attested (s : State) (l : List (Fld × Nat)) (flag : Fld) (code arg : Nat) : State := (s.putAll l).unsigning.event flag code 0 arg

section
variable {l : List (Fld × Nat)} {flag : Fld} {code arg : Nat}

theorem attested_mb (s : State) : (s.attested l flag code arg).mb = s.unsigning.mb :=
  (State.event_mb _ _ _ _ _).trans (unsigning_mb (putAll_mb s l))

theorem logs_attested (s : State) : Logs s (s.attested l flag code arg) code flag.window 0 arg :=
  logs_event (u := (s.putAll l).unsigning) (Frame.putAll_fst s l).quiet (putAll_jl s l) flag code 0 arg

variable (hl : l.map Prod.fst = attestationFields)
include hl

theorem frame_attested (s : State) :
    Frame s.unsigning (s.attested l flag code arg) ([F.MB_ATT_STAT_VALID, F.MB_ATT_STAT_SEQ, flag] ++ recordFields) := by
  have hwrites := (Frame.putAll_fst s l).unsigning
  rw [hl, attestationFields] at hwrites
  refine (hwrites.mono fun k hk => ?_).trans (Frame.event (s.putAll l).unsigning flag code 0 arg (by simp))
  simp only [List.map_append, List.map_cons, List.map_nil, List.mem_append, List.mem_cons, List.not_mem_nil, or_false] at hk ⊢
  tauto

/-- The fields read as written, and the flag reads 1. -/
theorem attested_get (s : State) (hflag : flag ∈ [F.MB_EVT_ATT, F.MB_EVT_ATT_FAIL]) :
    (∀ e ∈ l, (s.attested l flag code arg).get e.1 = e.2 % 2 ^ e.1.width) ∧ (s.attested l flag code arg).get flag = 1 := by
  obtain ⟨hwidth, htally, hapart⟩ := attestation_apart flag hflag
  refine ⟨fun e he => ?_, State.event_flag _ _ _ _ _ (by omega) htally⟩
  obtain ⟨hne, ht⟩ := hapart e.1 (hl ▸ List.mem_map_of_mem he)
  rw [State.attested, State.event_get_other _ flag e.1 code 0 arg hne ht, unsigning_get,
    get_putAll s (by rw [hl]; exact nodup_attestationFields) e he]

end

/-! ## A failed attestation -/

theorem attestFails_eq (s : State) : s.attestFails = s.attested (attestationWrites (fun _ => 0) 0 0) F.MB_EVT_ATT_FAIL 0x0417 0 := rfl

/-- The record is lost with its validity, and the failure is flagged. -/
def AttestationLost (t : State) : Prop :=
  t.mb.signing = none ∧ t.get F.MB_ATT_STAT_VALID = 0 ∧ t.get F.MB_EVT_ATT_FAIL = 1 ∧ ∀ f ∈ recordFields, t.get f = 0

theorem attestFails_mb (s : State) : s.attestFails.mb = s.unsigning.mb := by
  rw [attestFails_eq, attested_mb]

theorem frame_attestFails (s : State) : Frame s.unsigning s.attestFails
    ([F.MB_ATT_STAT_VALID, F.MB_ATT_STAT_SEQ, F.MB_EVT_ATT_FAIL] ++ recordFields) := by
  rw [attestFails_eq]
  exact frame_attested (attestationWrites_fst _ 0 0) s

theorem logs_attestFails (s : State) : Logs s s.attestFails 0x0417 0x06 0 0 := by
  rw [attestFails_eq]
  exact logs_attested s

theorem attestFails_lost (s : State) : AttestationLost s.attestFails.settle := by
  have hfst := attestationWrites_fst (fun _ => 0) 0 0
  obtain ⟨hvalid, -, hdata⟩ := mem_attestationWrites (fun _ => 0) 0 0
  unfold AttestationLost
  simp only [State.settle_get, State.settle_mb]
  rw [attestFails_eq, attested_mb]
  generalize attestationWrites (fun _ => 0) 0 0 = l at *
  obtain ⟨hget, hfail⟩ := attested_get (code := 0x0417) (arg := 0) hfst s (flag := F.MB_EVT_ATT_FAIL) (by simp)
  refine ⟨rfl, (hget _ hvalid).trans (Nat.zero_mod _), hfail, fun f hf => ?_⟩
  obtain ⟨w, hw, rfl⟩ := List.mem_map.mp hf
  exact (hget _ (hdata w (List.mem_range.mp hw))).trans (Nat.zero_mod _)

/-- A refused key counts where it was DENIED, and changes nothing else (R288). -/
theorem frame_keyDenied (s : State) (status : Nat) : Frame s (s.keyDenied status) [F.KV_CNT_DENY, F.KV_EVT_DENY] := by
  unfold State.keyDenied State.eventRated
  split
  · refine (Frame.count s F.KV_CNT_DENY 1 (by simp)).trans ?_
    split
    · exact (Frame.rates _ _ _).trans (Frame.event _ F.KV_EVT_DENY _ _ _ (by simp))
    · exact Frame.refl _ _
  · exact Frame.refl s _

/-! ## ATTESTATION_START (R169, R171) -/

/-- The hour's extremes begin at the bound as served now. -/
def State.freshHour (s : State) : State := { s with mb.hourMax := s.boundAt s.now, mb.hourMin := s.boundAt s.now }

/-- The next number is taken too. -/
def State.nextAttestation (s : State) : State := { s.freshHour with mb.attSeq := s.mb.attSeq + 1 }

/-- The message waits for the signer where the key may sign; else the attestation fails. -/
def State.beginAttestation (s : State) : State :=
  if s.keyCheck 9 0 [4] 25 ≠ 0 then (s.nextAttestation.keyDenied (s.keyCheck 9 0 [4] 25)).attestFails
  else { s.nextAttestation with mb.signing := some s.attestMessage }

theorem exec_attestationStart (s : State) : exec .attestationStart s = running s fun s =>
    s.freshHour.when (s.on F.MB_CFG_ATT_EN) fun _ => s.beginAttestation := rfl

theorem does_attestationStart_on (hp : s.power = .run) (hen : s.on F.MB_CFG_ATT_EN = true) :
    Does .attestationStart s fun t => t.mb.attSeq = s.mb.attSeq + 1 ∧
      t.mb.hourMax = s.boundAt s.now ∧ t.mb.hourMin = s.boundAt s.now ∧
      (s.keyCheck 9 0 [4] 25 = 0 → t.mb.signing = some s.attestMessage ∧ Frame { s with mb := t.mb } t []) ∧
      (s.keyCheck 9 0 [4] 25 ≠ 0 → AttestationLost t ∧
        Frame { s with mb := t.mb } t
          ([F.MB_ATT_STAT_VALID, F.MB_ATT_STAT_SEQ, F.MB_EVT_ATT_FAIL, F.KV_CNT_DENY, F.KV_EVT_DENY] ++ recordFields)) := by
  refine does_running (exec_attestationStart s) hp ?_
  rw [hen, State.when_true, State.beginAttestation]
  by_cases hkey : s.keyCheck 9 0 [4] 25 = 0
  · rw [if_neg (not_not_intro hkey), State.settle_mb]
    exact ⟨rfl, rfl, rfl, fun _ => ⟨rfl, Frame.settle _ _⟩, fun h => absurd hkey h⟩
  · rw [if_pos hkey]
    have hdenied := frame_keyDenied s.nextAttestation (s.keyCheck 9 0 [4] 25)
    generalize s.nextAttestation.keyDenied (s.keyCheck 9 0 [4] 25) = u at *
    have hmb : u.attestFails.settle.mb = s.nextAttestation.unsigning.mb := by
      rw [State.settle_mb, attestFails_mb, hdenied.unsigning.2]
    have hframe := (hdenied.unsigning.mono
      (gs := [F.MB_ATT_STAT_VALID, F.MB_ATT_STAT_SEQ, F.MB_EVT_ATT_FAIL, F.KV_CNT_DENY, F.KV_EVT_DENY] ++ recordFields)
      (by decide)).trans ((frame_attestFails u).mono (by decide))
    refine ⟨by rw [hmb]; rfl, by rw [hmb]; rfl, by rw [hmb]; rfl, fun h => absurd h hkey, fun _ => ⟨attestFails_lost u, ?_⟩⟩
    rw [hmb]
    exact hframe.settled

theorem does_attestationStart_off (hp : s.power = .run) (hen : s.on F.MB_CFG_ATT_EN = false) :
    Does .attestationStart s fun t => Frame s.freshHour t [] := by
  refine does_running (exec_attestationStart s) hp ?_
  rw [hen, State.when_false]
  exact Frame.settle _ _

/-! ## ATTESTATION_COMPLETE (R169) -/

/-- The record of a signed message: the message and the first 64 bytes of the signer's answer. -/
def State.signedRecord (s : State) (m : List Byte) : List Byte :=
  m ++ (Config.signature (attrType (s.slotAttr 0)) (readCell 0 [] s.kv.slots) m).take 64

/-- The record of a signed message is shown under its number, and signalled. -/
def State.signAttestation (s : State) (m : List Byte) : State :=
  (s.attested (attestationWrites (fun w => at8 (s.signedRecord m) (8 * w)) 1 s.mb.attSeq) F.MB_EVT_ATT 0x0416 s.mb.attSeq).signalLimited 1 2

theorem exec_attestationComplete_idle (ok : Bool) (hm : s.mb.signing = none) : exec (.attestationComplete ok) s = running s id := by
  unfold exec execAttestationComplete
  exact running_congr (by dsimp only; rw [hm]; rfl)

theorem exec_attestationComplete_some (ok : Bool) {m : List Byte} (hm : s.mb.signing = some m) :
    exec (.attestationComplete ok) s = running s fun s => if !ok then s.attestFails else s.signAttestation m := by
  unfold exec execAttestationComplete
  exact running_congr (by dsimp only; rw [hm]; rfl)

theorem does_attestationComplete_signed {m : List Byte} (hp : s.power = .run) (hm : s.mb.signing = some m) :
    Does (.attestationComplete true) s fun t => t.get F.MB_ATT_STAT_VALID = 1 ∧ t.get F.MB_ATT_STAT_SEQ = s.mb.attSeq % 2 ^ 32 ∧
      (∀ w < 20, t.get (F.MB_ATT_DATA w) = at8 (s.signedRecord m) (8 * w)) ∧
      t.get F.MB_EVT_ATT = 1 ∧ Logs s t 0x0416 0x06 0 s.mb.attSeq ∧
      Frame s.unsigning t ([F.MB_ATT_STAT_VALID, F.MB_ATT_STAT_SEQ, F.MB_EVT_ATT] ++ recordFields) := by
  refine does_running (exec_attestationComplete_some true hm) hp ?_
  have hfst := attestationWrites_fst (fun w => at8 (s.signedRecord m) (8 * w)) 1 s.mb.attSeq
  obtain ⟨hvalid, hseq, hdata⟩ := mem_attestationWrites (fun w => at8 (s.signedRecord m) (8 * w)) 1 s.mb.attSeq
  rw [Bool.not_true, if_neg Bool.false_ne_true, State.signAttestation]
  generalize attestationWrites (fun w => at8 (s.signedRecord m) (8 * w)) 1 s.mb.attSeq = l at *
  obtain ⟨hget, hevt⟩ := attested_get (code := 0x0416) (arg := s.mb.attSeq) hfst s (flag := F.MB_EVT_ATT) (by simp)
  simp only [State.settle_get, State.signalLimited_get]
  exact ⟨hget _ hvalid, hget _ hseq, fun w hw => (hget _ (hdata w hw)).trans (Nat.mod_eq_of_lt (at8_lt _ _)), hevt,
    (logs_attested s).ofJl ((State.settle_jl _).trans (State.signalLimited_jl _ 1 2)),
    ((frame_attested hfst s).trans (Frame.signalLimited _ 1 2 _)).settled⟩

theorem does_attestationComplete_failed {m : List Byte} (hp : s.power = .run) (hm : s.mb.signing = some m) :
    Does (.attestationComplete false) s fun t => AttestationLost t ∧ Logs s t 0x0417 0x06 0 0 ∧
      Frame s.unsigning t ([F.MB_ATT_STAT_VALID, F.MB_ATT_STAT_SEQ, F.MB_EVT_ATT_FAIL] ++ recordFields) := by
  refine does_running (exec_attestationComplete_some false hm) hp ?_
  rw [Bool.not_false, if_pos rfl]
  exact ⟨attestFails_lost s, (logs_attestFails s).ofJl (State.settle_jl _), (frame_attestFails s).settled⟩

theorem does_attestationComplete_idle (ok : Bool) (hp : s.power = .run) (hm : s.mb.signing = none) :
    Does (.attestationComplete ok) s fun t => Frame s t [] :=
  does_idle (exec_attestationComplete_idle ok hm) rfl hp

/-! ## MB_ATT_STAT_READ (R80, R173) -/

theorem does_mbAttStatRead {path : Path} (hp : s.power = .run) (hj : s.judge path F.MB_ATT_STAT_VALID.off false = .served) :
    Does (.mbAttStatRead path) s fun t =>
      Sends s t (.readData F.MB_ATT_STAT_VALID.off (BitVec.ofNat 64 (s.word (fieldsAt F.MB_ATT_STAT_VALID.off)))) ∧
      (∀ f ∈ recordFields, readCell f.off 0 t.latches = s.word (fieldsAt f.off)) ∧ Frame { s with latches := t.latches } t [] := by
  refine does_running (f := fun s => s.hostRead path F.MB_ATT_STAT_VALID.off fun s => (s.latchAll (recordFields.map Fld.off)).emit
    (.readData F.MB_ATT_STAT_VALID.off (BitVec.ofNat 64 (s.word (fieldsAt F.MB_ATT_STAT_VALID.off))))) rfl hp ?_
  rw [State.hostRead_served _ _ _ _ hj]
  obtain ⟨⟨L, hL⟩, hread⟩ := latchAll_latches (recordFields.map Fld.off) s
  rw [hL] at hread ⊢
  rw [State.settle_latches]
  exact ⟨sends_emit (t := { s with latches := L }) _ rfl (outs_settle _), fun f hf => hread _ (List.mem_map_of_mem hf),
    (Frame.emit _ _ _).settled⟩

/-- Settles O13, by the lemma of each of its commands; a signed record and a lost one are shown by the same writes. -/
theorem attestationsAreSignedAndLatched : Obligations.AttestationsAreSignedAndLatched := by
  unfold Obligations.AttestationsAreSignedAndLatched
  exact ⟨fun _ hp hen => does_attestationStart_on hp hen, fun _ hp hen => does_attestationStart_off hp hen,
    fun _ hp _ hm => ⟨does_attestationComplete_signed hp hm, does_attestationComplete_failed hp hm⟩,
    fun _ ok hp hm => does_attestationComplete_idle ok hp hm, fun _ _ hp hj => does_mbAttStatRead hp hj⟩

end Sys2Proof.Machine
end

section
/-! PROOF. ESMC (O33): what a lane queues, what a received PDU shows, and the end of RX_OK (R167, R202, R277). -/
namespace Sys2Proof.Machine

variable {s t : State}

/-! ## What is remembered of a port -/

@[simp] theorem ptPort_setPt_same (s : State) (p : Nat) (f : PtPort → PtPort) : (s.setPt p f).ptPort p = f (s.ptPort p) := by
  simpa [State.ptPort, State.setPt] using getD_alter {} {} f p p s.pt.ports (.inr rfl)

@[simp] theorem port_setPort_same (s : State) (p : Nat) (f : ApPort → ApPort) : (s.setPort p f).port p = f (s.port p) := by
  simpa [State.port, State.setPort] using getD_alter {} {} f p p s.wire.ports (.inr rfl)

theorem ptPort_ofPt (h : t.pt = s.pt) (p : Nat) : t.ptPort p = s.ptPort p := by simp [State.ptPort, h]

/-- The end of LPI leaves the queues alone (R196). -/
theorem wakeLpi_na (s : State) (p : Nat) : (s.wakeLpi.port p).na = (s.port p).na := by
  refine when_inv (fun t => (t.port p).na) _ _ ?_
  simp only [State.port, State.setPort, State.put_wire]
  rw [getD_alter {} {} _ 5 p s.wire.ports (.inr rfl)]
  split
  · next h => rw [h]
  · rfl

/-- A frame that the MAC takes stands last in the queue of its port (R215); the protocol tables stay as they are. -/
theorem queueNa_queues {p : Nat} {m : Msg} (h : s.tooLong p m = false) :
    ((s.queueNa p m).port p).na = (s.port p).na ++ [⟨m, s.now⟩] ∧ (s.queueNa p m).pt = s.pt := by
  rw [State.queueNa, if_neg (by simp [h])]
  refine ⟨?_, when_inv State.pt _ _ (when_inv State.pt _ _ rfl)⟩
  rw [when_inv (fun t => (t.port p).na) _ _ (wakeLpi_na _ p), port_setPort_same]

/-! ## ESMC_INFO_SEND (R277) -/

/-- Every MAC takes an ESMC PDU, of 64 bytes as sent (R199, R202). -/
theorem esmcFrame_fits (s : State) (p : Nat) (event : Bool) (ql : Nat) : s.tooLong p (s.esmcFrame p event ql) = false := by
  have hlen : (s.esmcFrame p event ql).sentLen = 64 := by
    simp [Msg.sentLen, Msg.frameLen, State.esmcFrame, length_bytesLE]
  have hlimit : 1518 ≤ s.upperLimit p (s.esmcFrame p event ql).tagged := by
    have hmax : 1518 ≤ s.maxLen p := le_max_left _ _
    unfold State.upperLimit
    split <;> omega
  rw [State.tooLong, hlen]
  exact decide_eq_false (by omega)

theorem exec_esmcInfoSend (p : Fin 6) (s : State) : exec (.esmcInfoSend p) s = running s fun s =>
    s.when (p.val != 4 && s.get F.DF_STAT_STATE == 1) (·.sendEsmc p false) := rfl

/-- The QL that lane p sends is remembered. -/
def State.noteQl (s : State) (p : Nat) : State := s.setPt p fun q => { q with qlSent := s.qlOf p }

theorem sendEsmc_on {p : Nat} (event : Bool) (h : s.on (F.PT_PORT_ESMC_TX_EN p) = true) :
    s.sendEsmc p event = (s.noteQl p).queueNa p (s.esmcFrame p event (s.qlOf p)) := by
  rw [State.sendEsmc, h]
  rfl

theorem sendEsmc_off {p : Nat} (event : Bool) (h : s.on (F.PT_PORT_ESMC_TX_EN p) = false) : s.sendEsmc p event = s.noteQl p := by
  rw [State.sendEsmc, h]
  rfl

theorem noteQl_qlSent (s : State) (p : Nat) : ((s.noteQl p).ptPort p).qlSent = s.qlOf p := by rw [State.noteQl, ptPort_setPt_same]

/-- A lane that sends: not LN4, while the fabric runs. -/
theorem sends_iff {p : Fin 6} : (p.val != 4 && s.get F.DF_STAT_STATE == 1) = true ↔ p.val ≠ 4 ∧ s.get F.DF_STAT_STATE = 1 := by simp

theorem does_esmcInfoSend_on {p : Fin 6} (hp : s.power = .run) (h : p.val ≠ 4 ∧ s.get F.DF_STAT_STATE = 1)
    (hen : s.on (F.PT_PORT_ESMC_TX_EN p) = true) : Does (.esmcInfoSend p) s fun t =>
      (t.port p).na = (s.port p).na ++ [⟨s.esmcFrame p false (s.qlOf p), s.now⟩] ∧ (t.ptPort p).qlSent = s.qlOf p := by
  refine does_running (exec_esmcInfoSend p s) hp ?_
  rw [sends_iff.mpr h, State.when_true, sendEsmc_on false hen]
  obtain ⟨hna, hpt⟩ := queueNa_queues (s := s.noteQl p) (esmcFrame_fits s p false (s.qlOf p))
  rw [State.port, State.settle_wire, ptPort_ofPt ((State.settle_pt _).trans hpt)]
  exact ⟨hna, noteQl_qlSent s p⟩

theorem does_esmcInfoSend_off {p : Fin 6} (hp : s.power = .run) (h : p.val ≠ 4 ∧ s.get F.DF_STAT_STATE = 1)
    (hen : s.on (F.PT_PORT_ESMC_TX_EN p) = false) : Does (.esmcInfoSend p) s fun t =>
      (t.ptPort p).qlSent = s.qlOf p ∧ Frame { s with pt.ports := t.pt.ports } t [] := by
  refine does_running (exec_esmcInfoSend p s) hp ?_
  rw [sends_iff.mpr h, State.when_true, sendEsmc_off false hen, ptPort_ofPt (State.settle_pt _), State.settle_pt]
  exact ⟨noteQl_qlSent s p, Frame.settle _ _⟩

theorem does_esmcInfoSend_idle {p : Fin 6} (hp : s.power = .run) (h : ¬(p.val ≠ 4 ∧ s.get F.DF_STAT_STATE = 1)) :
    Does (.esmcInfoSend p) s fun t => Frame s t [] := by
  refine does_idle (exec_esmcInfoSend p s) ?_ hp
  rw [Bool.eq_false_iff.mpr (mt sends_iff.mp h), State.when_false]

/-! ## ESMC_RECEIVED (R277) -/

/-- The fields of ESMC's reception and its event flags are apart, and no event tallies them. -/
theorem esmc_apart : ∀ p : Fin 6,
    ((F.PT_PORT_ESMC_QL_RX p).key ≠ (F.PT_PORT_ESMC_RX_OK p).key ∧ (F.PT_PORT_ESMC_QL_RX p).tallied = false ∧
      (F.PT_PORT_ESMC_RX_OK p).tallied = false) ∧
    (F.PT_PORT_ESMC_QL_RX p).key ≠ F.PT_EVT_QL.key ∧ (F.PT_PORT_ESMC_RX_OK p).key ≠ F.PT_EVT_QL.key ∧
    (F.PT_PORT_ESMC_RX_OK p).key ≠ F.PT_EVT_ESMC_TO.key := by decide

/-- An information PDU sets RX_OK, and its time is remembered. -/
def State.hearEsmc (s : State) (p : Nat) : State := (s.put (F.PT_PORT_ESMC_RX_OK p) 1).setPt p fun q => { q with esmcAt := some s.now }

/-- A PDU shows its QL. -/
def State.takeEsmc (s : State) (p : Nat) (event : Bool) (ql : Nat) : State := (s.put (F.PT_PORT_ESMC_QL_RX p) ql).when (!event) (·.hearEsmc p)

theorem exec_esmcReceived (p : Fin 6) (event : Bool) (ql : BitVec 4) (s : State) : exec (.esmcReceived p event ql) s = running s fun s =>
    if p.val = 4 || !s.on (F.PT_PORT_ESMC_RX_EN p) then s
    else (s.takeEsmc p event ql.toNat).when (s.get (F.PT_PORT_ESMC_QL_RX p) != ql.toNat)
      (·.event F.PT_EVT_QL 0x0736 p (p + s.get (F.PT_PORT_ESMC_QL_RX p) * 16 + ql.toNat * 256)) := rfl

theorem Frame.withPtPorts {fs : List Fld} (h : Frame s t fs) (ps : List PtPort) :
    Frame { s with pt.ports := ps } { t with pt.ports := ps } fs := ⟨h.1, congrArg (fun x : State => { x with pt.ports := ps }) h.2⟩

/-- What a PDU shows, before an event. -/
theorem takeEsmc_shows (s : State) (p : Fin 6) (event : Bool) (ql : BitVec 4) :
    (s.takeEsmc p event ql.toNat).get (F.PT_PORT_ESMC_QL_RX p) = ql.toNat ∧
    (event = false → (s.takeEsmc p event ql.toNat).get (F.PT_PORT_ESMC_RX_OK p) = 1 ∧
      ((s.takeEsmc p event ql.toNat).ptPort p).esmcAt = some s.now) ∧
    (event = true → (s.takeEsmc p event ql.toNat).get (F.PT_PORT_ESMC_RX_OK p) = s.get (F.PT_PORT_ESMC_RX_OK p) ∧
      (s.takeEsmc p event ql.toNat).ptPort p = s.ptPort p) ∧
    (s.takeEsmc p event ql.toNat).jl = s.jl ∧
    Frame { s with pt.ports := (s.takeEsmc p event ql.toNat).pt.ports } (s.takeEsmc p event ql.toNat)
      [F.PT_PORT_ESMC_QL_RX p, F.PT_PORT_ESMC_RX_OK p, F.PT_EVT_QL] := by
  obtain ⟨⟨hne, -, -⟩, -⟩ := esmc_apart p
  have hql : (s.put (F.PT_PORT_ESMC_QL_RX p) ql.toNat).get (F.PT_PORT_ESMC_QL_RX p) = ql.toNat :=
    (State.get_put_same _ _ _).trans (Nat.mod_eq_of_lt ql.isLt)
  have hput := Frame.put (fs := [F.PT_PORT_ESMC_QL_RX p, F.PT_PORT_ESMC_RX_OK p, F.PT_EVT_QL]) s (F.PT_PORT_ESMC_QL_RX p) ql.toNat (.inl (by simp))
  cases event
  · refine ⟨(State.get_put_other _ _ _ 1 hne).trans hql, fun _ => ⟨State.get_put_same _ (F.PT_PORT_ESMC_RX_OK p) 1, ?_⟩, nofun, rfl, ?_⟩
    · exact congrArg PtPort.esmcAt (ptPort_setPt_same _ p _)
    · exact (hput.trans (Frame.put _ (F.PT_PORT_ESMC_RX_OK p) 1 (.inl (by simp)))).withPtPorts _
  · exact ⟨hql, nofun, fun _ => ⟨State.get_put_other _ _ _ _ hne.symm, rfl⟩, rfl, hput⟩

theorem does_esmcReceived_idle {p : Fin 6} (event : Bool) (ql : BitVec 4) (hp : s.power = .run)
    (h : ¬(p.val ≠ 4 ∧ s.on (F.PT_PORT_ESMC_RX_EN p) = true)) : Does (.esmcReceived p event ql) s fun t => Frame s t [] := by
  refine does_idle (exec_esmcReceived p event ql s) (if_pos ?_) hp
  by_cases h4 : p.val = 4
  · simp [h4]
  · simpa [h4] using h

theorem does_esmcReceived_takes {p : Fin 6} (event : Bool) (ql : BitVec 4) (hp : s.power = .run)
    (h : p.val ≠ 4 ∧ s.on (F.PT_PORT_ESMC_RX_EN p) = true) :
    Does (.esmcReceived p event ql) s fun t => t.get (F.PT_PORT_ESMC_QL_RX p) = ql.toNat ∧
      (event = false → t.get (F.PT_PORT_ESMC_RX_OK p) = 1 ∧ (t.ptPort p).esmcAt = some s.now) ∧
      (event = true → t.get (F.PT_PORT_ESMC_RX_OK p) = s.get (F.PT_PORT_ESMC_RX_OK p) ∧ t.ptPort p = s.ptPort p) ∧
      Frame { s with pt.ports := t.pt.ports } t [F.PT_PORT_ESMC_QL_RX p, F.PT_PORT_ESMC_RX_OK p, F.PT_EVT_QL] ∧
      (s.get (F.PT_PORT_ESMC_QL_RX p) ≠ ql.toNat → Logs s t 0x0736 0x0D p (p + s.get (F.PT_PORT_ESMC_QL_RX p) * 16 + ql.toNat * 256)) ∧
      (s.get (F.PT_PORT_ESMC_QL_RX p) = ql.toNat → LogsNone s t) := by
  refine does_running (exec_esmcReceived p event ql s) hp ?_
  obtain ⟨hql, hinfo, hevent, hjl, hframe⟩ := takeEsmc_shows s p event ql
  obtain ⟨⟨-, hqlTally, hokTally⟩, hqlNe, hokNe, -⟩ := esmc_apart p
  rw [if_neg (by simp [h])]
  generalize s.takeEsmc p event ql.toNat = u at *
  by_cases hold : s.get (F.PT_PORT_ESMC_QL_RX p) = ql.toNat
  · rw [bne_eq_false_iff_eq.mpr hold, State.when_false, State.settle_get, State.settle_get, ptPort_ofPt (State.settle_pt _), State.settle_pt]
    exact ⟨hql, hinfo, hevent, hframe.settled, fun hne => absurd hold hne, fun _ => by rw [LogsNone, State.settle_jl, hjl]⟩
  · rw [bne_iff_ne.mpr hold, State.when_true, State.settle_get, State.settle_get, State.event_get_other _ _ _ _ _ _ hqlNe hqlTally,
      State.event_get_other _ _ _ _ _ _ hokNe hokTally, ptPort_ofPt ((State.settle_pt _).trans (State.event_pt _ _ _ _ _)), State.settle_pt,
      State.event_pt]
    exact ⟨hql, hinfo, hevent, (hframe.trans (Frame.event _ _ _ _ _ (by simp))).settled,
      fun _ => (logs_event hframe.quiet hjl F.PT_EVT_QL _ _ _).ofJl (State.settle_jl _), fun e => absurd e hold⟩

/-! ## ESMC_TIMEOUT (R277) -/

theorem exec_esmcTimeout (p : Fin 6) (s : State) : exec (.esmcTimeout p) s = running s fun s =>
    if s.on (F.PT_PORT_ESMC_RX_OK p) && s.esmcSilent p then (s.put (F.PT_PORT_ESMC_RX_OK p) 0).event F.PT_EVT_ESMC_TO 0x0737 p p else s := rfl

theorem does_esmcTimeout_clears {p : Fin 6} (hp : s.power = .run) (hok : s.on (F.PT_PORT_ESMC_RX_OK p) = true) (hsilent : s.esmcSilent p = true) :
    Does (.esmcTimeout p) s fun t => t.get (F.PT_PORT_ESMC_RX_OK p) = 0 ∧
      Frame s t [F.PT_PORT_ESMC_RX_OK p, F.PT_EVT_ESMC_TO] ∧ Logs s t 0x0737 0x0D p p := by
  refine does_running (exec_esmcTimeout p s) hp ?_
  obtain ⟨⟨-, -, htally⟩, -, -, hne⟩ := esmc_apart p
  rw [if_pos (by rw [hok, hsilent]; rfl), State.settle_get, State.event_get_other _ _ _ _ _ _ hne htally]
  exact ⟨State.get_put_same s (F.PT_PORT_ESMC_RX_OK p) 0,
    ((Frame.put s (F.PT_PORT_ESMC_RX_OK p) 0 (.inl (by simp))).trans (Frame.event _ F.PT_EVT_ESMC_TO _ _ _ (by simp))).settled,
    (logs_event (u := s.put (F.PT_PORT_ESMC_RX_OK p) 0) rfl rfl F.PT_EVT_ESMC_TO _ _ _).ofJl (State.settle_jl _)⟩

theorem does_esmcTimeout_idle {p : Fin 6} (hp : s.power = .run) (h : s.on (F.PT_PORT_ESMC_RX_OK p) = false ∨ s.esmcSilent p = false) :
    Does (.esmcTimeout p) s fun t => Frame s t [] := by
  refine does_idle (exec_esmcTimeout p s) (if_neg ?_) hp
  obtain h | h := h <;> simp [h]

/-- Settles O33, by the lemma of each of its commands: a PDU fits every MAC, and a received one shows its QL before its event. -/
theorem esmcIsSentReceivedAndTimesOut : Obligations.EsmcIsSentReceivedAndTimesOut := by
  unfold Obligations.EsmcIsSentReceivedAndTimesOut
  exact fun s p hp => ⟨does_esmcInfoSend_on hp, does_esmcInfoSend_off hp, does_esmcInfoSend_idle hp,
    fun event ql => ⟨does_esmcReceived_idle event ql hp, does_esmcReceived_takes event ql hp⟩, does_esmcTimeout_clears hp, does_esmcTimeout_idle hp⟩

end Sys2Proof.Machine
end

section
/-! PROOF. The state of the outputs (chapter 09): clock and pulse outputs, and what a command of the outputs leaves outside them. -/
namespace Sys2Proof.Machine

variable {s t u : State} {fs gs : List Fld}

/-! ## Clock and pulse outputs -/

theorem clk_setClk (s : State) (k j : Nat) (f : OsClk → OsClk) : (s.setClk k f).clk j = if j = k then f (s.clk k) else s.clk j := by
  simpa [State.clk, State.setClk] using getD_alter {} {} f k j s.os.clks (.inr rfl)

@[simp] theorem clk_setClk_same (s : State) (k : Nat) (f : OsClk → OsClk) : (s.setClk k f).clk k = f (s.clk k) := by simp [clk_setClk]

theorem clk_setClk_other (s : State) {k j : Nat} (f : OsClk → OsClk) (h : j ≠ k) : (s.setClk k f).clk j = s.clk j := by simp [clk_setClk, h]

@[simp] theorem pps_setPps_same (s : State) (k : Nat) (f : OsPps → OsPps) : (s.setPps k f).pps k = f (s.pps k) := by
  simpa [State.pps, State.setPps] using getD_alter {} {} f k k s.os.pps (.inr rfl)

theorem clk_ofOs (h : t.os = s.os) (k : Nat) : t.clk k = s.clk k := by simp [State.clk, h]
theorem pps_ofOs (h : t.os = s.os) (k : Nat) : t.pps k = s.pps k := by simp [State.pps, h]

@[simp] theorem clk_settle (s : State) (k : Nat) : s.settle.clk k = s.clk k := clk_ofOs (by simp) k
@[simp] theorem clk_put (s : State) (f : Fld) (v k : Nat) : (s.put f v).clk k = s.clk k := rfl
@[simp] theorem clk_event (s : State) (f : Fld) (code inst arg k : Nat) : (s.event f code inst arg).clk k = s.clk k := clk_ofOs (by simp) k
@[simp] theorem pps_settle (s : State) (k : Nat) : s.settle.pps k = s.pps k := pps_ofOs (by simp) k

theorem putWord_os (s : State) (l : List Fld) (w : Nat) : (s.putWord l w).os = s.os :=
  forAll_inv State.os l (fun t f => t.put f (w / 2 ^ f.lo)) (fun _ _ => rfl) s

/-! ## What lies outside the outputs -/

/-- t differs from s in the outputs' hidden state, and else as a frame allows. -/
def OsFrame (s t : State) (fs : List Fld) : Prop := Frame { s with os := t.os } t fs

/-- The same outputs on both sides of a frame. -/
theorem Frame.withOs (h : Frame s t fs) (os : OsPart) : Frame { s with os := os } { t with os := os } fs :=
  ⟨h.1, congrArg (fun x : State => { x with os := os }) h.2⟩

theorem Frame.os (h : Frame s t fs) : t.os = s.os := by rw [h.2]

theorem OsFrame.ofFrame (h : Frame s t fs) : OsFrame s t fs := h.withOs t.os
theorem OsFrame.refl (s : State) (fs : List Fld) : OsFrame s s fs := Frame.refl s fs
theorem OsFrame.trans (h : OsFrame s t fs) (g : OsFrame t u fs) : OsFrame s u fs := (h.withOs u.os).trans g
theorem OsFrame.mono (h : OsFrame s t fs) (sub : ∀ k ∈ fs.map Fld.key, k ∈ gs.map Fld.key) : OsFrame s t gs := Frame.mono h sub
theorem OsFrame.settled (h : OsFrame s t fs) : OsFrame s t.settle fs := h.trans (OsFrame.ofFrame (Frame.settle t fs))
theorem OsFrame.now (h : OsFrame s t fs) : t.now = s.now := Frame.now (s := { s with os := t.os }) h
theorem OsFrame.quiet (h : OsFrame s t fs) : t.quiet = s.quiet := Frame.quiet (s := { s with os := t.os }) h

theorem OsFrame.setClk (s : State) (k : Nat) (f : OsClk → OsClk) : OsFrame s (s.setClk k f) fs := Frame.refl _ fs
theorem OsFrame.setPps (s : State) (k : Nat) (f : OsPps → OsPps) : OsFrame s (s.setPps k f) fs := Frame.refl _ fs

theorem OsFrame.when (s : State) (b : Bool) (f : State → State) (h : b = true → OsFrame s (f s) fs) : OsFrame s (s.when b f) fs := by
  cases b
  · exact OsFrame.refl s fs
  · exact h rfl

/-- A field of an output's register that the frame's list does not hold reads as before. -/
theorem OsFrame.get (h : OsFrame s t fs) {f : Fld} (hw : f.key / 4194304 = 0x07) (hf : f.key ∉ fs.map Fld.key) : t.get f = s.get f :=
  Frame.get h f hf (tallied_of_window (by omega))

/-- A field of another register than those written reads as before. -/
theorem Keeps.getReg (h : Keeps s t fs) {f : Fld} (hw : f.key / 4194304 < 0x14) (hf : ∀ g ∈ fs, g.key / 64 ≠ f.key / 64) : t.get f = s.get f := by
  refine h.get f (fun hm => ?_) (tallied_of_window hw)
  obtain ⟨g, hg, hk⟩ := List.mem_map.mp hm
  exact hf g hg (by rw [hk])

theorem OsFrame.getReg (h : OsFrame s t fs) {f : Fld} (hw : f.key / 4194304 = 0x07) (hf : ∀ g ∈ fs, g.key / 64 ≠ f.key / 64) : t.get f = s.get f :=
  Keeps.getReg (s := { s with os := t.os }) h.1 (by omega) hf

theorem get_put_reg (s : State) {f g : Fld} (v : Nat) (h : g.key / 64 ≠ f.key / 64) : (s.put f v).get g = s.get g :=
  State.get_put_other s f g v fun e => h (by rw [e])

/-- A register's fields have the register's offset in their keys. -/
theorem reg_of_mem_fieldsAt {off : Nat} {f : Fld} (hf : f ∈ fieldsAt off) : f.key / 64 = off := by
  obtain ⟨hlo, -⟩ := sound_of_mem_fieldsAt hf
  rw [Fld.key, off_of_mem_fieldsAt hf]
  omega

/-- An event of the outputs leaves every register of theirs but OS_EVT alone. -/
theorem osEvent_get (s : State) {e f : Fld} (he : e.key / 64 = 0x070008) (hw : f.key / 4194304 = 0x07) (hf : f.key / 64 ≠ 0x070008)
    (code inst arg : Nat) : (s.event e code inst arg).get f = s.get f :=
  State.event_get_other s e f _ _ _ (fun h => hf (by rw [h, he])) (tallied_of_window (by omega))

/-- A field of one bit, loaded from a word, is set where its bit is. -/
theorem on_ofWord {f : Fld} {v : Word} (h : t.get f = f.ofWord v) (hw : f.width = 1) : t.on f = decide (f.ofWord v = 1) := by
  have hlt : f.ofWord v < 2 := by
    rw [Fld.ofWord, hw]
    omega
  rw [State.on, h]
  obtain h0 | h1 : f.ofWord v = 0 ∨ f.ofWord v = 1 := by omega
  · rw [h0]
    rfl
  · rw [h1]
    rfl

/-- A write of a register's word leaves the hidden state alone. -/
theorem OsFrame.putWord (s : State) (off w : Nat) : OsFrame s (s.putWord (fieldsAt off) w) (fieldsAt off) :=
  OsFrame.ofFrame (Frame.putWord s w fun _ h => List.mem_map_of_mem h)

/-! ## Repetition -/

/-- A part of the state that only turn k changes: that turn meets it as it was, and the others leave what the turn makes of it. -/
theorem forAll_own {β : Type} {R : State → Prop} {f : State → Nat → State} {g : State → β} {k : Nat} {l : List Nat} (hl : l.Nodup)
    (hR : ∀ t, ∀ j ∈ l, R t → R (f t j)) (hg : ∀ t, ∀ j ∈ l, j ≠ k → g (f t j) = g t) (hk : k ∈ l) (hs : R s) :
    ∃ t, R t ∧ g t = g s ∧ g (s.forAll l f) = g (f t k) := by
  induction l generalizing s with
  | nil => cases hk
  | cons j l ih =>
    obtain ⟨hj, hl⟩ := List.nodup_cons.mp hl
    have hrest : ∀ t, ∀ i ∈ l, i ≠ k → g (f t i) = g t := fun t i hi => hg t i (List.mem_cons_of_mem _ hi)
    obtain rfl | hk := List.mem_cons.mp hk
    · exact ⟨s, hs, rfl, forAll_keeps g l f (fun t i hi => hrest t i hi fun e => hj (e ▸ hi)) (f s k)⟩
    · have hne : j ≠ k := fun e => hj (e ▸ hk)
      obtain ⟨t, ht, hsame, hlast⟩ := ih hl (fun t i hi => hR t i (List.mem_cons_of_mem _ hi)) hrest hk (hR s j List.mem_cons_self hs)
      exact ⟨t, ht, hsame.trans (hg s j List.mem_cons_self hne), hlast⟩

/-- Turns that each change the one clock output of their number: each meets its output as it was before all of them. -/
theorem forAll_clks {f : State → Nat → State} (hframe : ∀ t k, OsFrame t (f t k) fs) (hother : ∀ t k j, j ≠ k → (f t k).clk j = t.clk j)
    {l : List Nat} (hl : l.Nodup) (s : State) : OsFrame s (s.forAll l f) fs ∧
    (∀ k ∈ l, ∃ t, OsFrame s t fs ∧ t.clk k = s.clk k ∧ (s.forAll l f).clk k = (f t k).clk k) ∧ ∀ k, k ∉ l → (s.forAll l f).clk k = s.clk k :=
  ⟨forAll_induct (P := fun t => OsFrame s t fs) (fun t k _ ht => ht.trans (hframe t k)) (OsFrame.refl s fs),
    fun k hk => forAll_own (R := fun t => OsFrame s t fs) (g := fun t => t.clk k) hl (fun t j _ ht => ht.trans (hframe t j))
      (fun t j _ hj => hother t j k hj.symm) hk (OsFrame.refl s fs),
    fun k hk => forAll_keeps (fun t => t.clk k) l f (fun t j hj => hother t j k fun e => hk (e ▸ hj)) s⟩

end Sys2Proof.Machine
end

section
/-! PROOF. Output MDLLs (O60; R174 to R177): what a start of one checks, and a write of its configuration. -/
namespace Sys2Proof.Machine

variable {s t u : State} {fs : List Fld} {n : Nat}

/-! ## Fields -/

/-- OMn's status register. -/
def omStatus (n : Nat) : List Fld :=
  [F.OS_OM_STAT_LOCK n, F.OS_OM_STAT_NOBAND n, F.OS_OM_STAT_BADCFG n, F.OS_OM_STAT_BAND n, F.OS_OM_STAT_CODE n]

/-- What each start of OMn clears. -/
def omClearFields (n : Nat) : List Fld := (omStatus n).take 3

/-- What a start of OMn writes: its status and the flags of its events. -/
def omStatFields (n : Nat) : List Fld := omStatus n ++ [F.OS_EVT_BADCFG, F.OS_EVT_NOBAND]

theorem omClearFields_sub (n : Nat) : ∀ k ∈ (omClearFields n).map Fld.key, k ∈ (omStatFields n).map Fld.key :=
  List.map_subset Fld.key (List.Subset.trans (List.take_subset _ _) (List.subset_append_left _ _))

theorem reg_omStatus (n : Nat) : ∀ f ∈ omStatus n, f.key / 64 = 0x070110 + n * 0x40 := by
  simp only [omStatus, List.forall_mem_cons, List.not_mem_nil, false_implies, implies_true, and_true, Fld.key, F.OS_OM_STAT_LOCK,
    F.OS_OM_STAT_NOBAND, F.OS_OM_STAT_BADCFG, F.OS_OM_STAT_BAND, F.OS_OM_STAT_CODE]
  omega

theorem reg_omStatFields (n : Nat) : ∀ f ∈ omStatFields n, f.key / 64 = 0x070110 + n * 0x40 ∨ f.key / 64 = 0x070008 := fun f hf =>
  (List.mem_append.mp hf).imp (reg_omStatus n f) fun hf => by
    have hevt : ∀ e ∈ [F.OS_EVT_BADCFG, F.OS_EVT_NOBAND], e.key / 64 = 0x070008 := by decide
    exact hevt f hf

theorem nodup_omStatFields (n : Nat) : ((omStatFields n).map Fld.key).Nodup := by
  have hstatus : ((omStatus n).map Fld.key).Nodup := by
    simp [omStatus, Fld.key, F.OS_OM_STAT_LOCK, F.OS_OM_STAT_NOBAND, F.OS_OM_STAT_BADCFG, F.OS_OM_STAT_BAND, F.OS_OM_STAT_CODE]
  rw [omStatFields, List.map_append]
  refine hstatus.append (by decide) fun k hk he => ?_
  obtain ⟨f, hf, rfl⟩ := List.mem_map.mp hk
  have hreg := reg_omStatus n f hf
  have hevt : ∀ k ∈ [F.OS_EVT_BADCFG, F.OS_EVT_NOBAND].map Fld.key, k / 64 = 0x070008 := by decide
  have := hevt _ he
  omega

/-- An event of the outputs leaves an MDLL's status alone. -/
theorem omEvent_get (s : State) (hn : n < 4) {e : Fld} (he : e.key / 64 = 0x070008) (code inst arg : Nat) :
    ∀ f ∈ omStatus n, (s.event e code inst arg).get f = s.get f := fun f hf => by
  have hreg := reg_omStatus n f hf
  exact osEvent_get s he (by omega) (by omega) _ _ _

/-- The registers of OMn's configuration and of its bands. -/
theorem reg_omCfg (n : Nat) : ∀ f ∈ [F.OS_OM_CFG_EN n, F.OS_OM_CFG_INT n, F.OS_OM_CFG_NUM n, F.OS_OM_CFG_DEN n], f.key / 64 = 0x070100 + n * 0x40 := by
  simp only [List.forall_mem_cons, List.not_mem_nil, false_implies, implies_true, and_true, Fld.key, F.OS_OM_CFG_EN, F.OS_OM_CFG_INT,
    F.OS_OM_CFG_NUM, F.OS_OM_CFG_DEN]
  omega

theorem reg_omBand (n j : Nat) : ∀ f ∈ [F.OS_OM_BAND_VALID n j, F.OS_OM_BAND_MIN n j, F.OS_OM_BAND_MAX n j, F.OS_OM_BAND_CODE n j],
    f.key / 64 = 0x071000 + n * 0x200 + j * 8 := by
  simp only [List.forall_mem_cons, List.not_mem_nil, false_implies, implies_true, and_true, Fld.key, F.OS_OM_BAND_VALID, F.OS_OM_BAND_MIN,
    F.OS_OM_BAND_MAX, F.OS_OM_BAND_CODE]
  omega

/-! ## What a configuration says -/

section
variable (h : OsFrame s t (omStatFields n)) (hn : n < 4)
include h hn

theorem OsFrame.omCfg : ∀ f ∈ [F.OS_OM_CFG_EN n, F.OS_OM_CFG_INT n, F.OS_OM_CFG_NUM n, F.OS_OM_CFG_DEN n], t.get f = s.get f := fun f hf => by
  have hreg := reg_omCfg n f hf
  refine h.getReg (by omega) fun g hg => ?_
  have := reg_omStatFields n g hg
  omega

theorem OsFrame.omBandRow {j : Nat} (hj : j < 64) :
    ∀ f ∈ [F.OS_OM_BAND_VALID n j, F.OS_OM_BAND_MIN n j, F.OS_OM_BAND_MAX n j, F.OS_OM_BAND_CODE n j], t.get f = s.get f := fun f hf => by
  have hreg := reg_omBand n j f hf
  refine h.getReg (by omega) fun g hg => ?_
  have := reg_omStatFields n g hg
  omega

/-- A start of OMn changes nothing of what decides it. -/
theorem OsFrame.omSame : t.on (F.OS_OM_CFG_EN n) = s.on (F.OS_OM_CFG_EN n) ∧ t.omBad n = s.omBad n ∧ t.omBand n = s.omBand n := by
  have hcfg := h.omCfg hn
  simp only [List.forall_mem_cons, List.not_mem_nil, false_implies, implies_true, and_true] at hcfg
  obtain ⟨hen, hint, hnum, hden⟩ := hcfg
  refine ⟨by rw [State.on, State.on, hen], by unfold State.omBad State.omDen; rw [hint, hnum, hden], List.find?_congr fun j hj => ?_⟩
  have hrow := h.omBandRow hn (List.mem_range.mp hj)
  simp only [List.forall_mem_cons, List.not_mem_nil, false_implies, implies_true, and_true] at hrow
  obtain ⟨hvalid, hmin, hmax, -⟩ := hrow
  unfold State.on State.omNum State.omDen
  rw [hint, hnum, hden, hvalid, hmin, hmax]

end

theorem omBand_lt {j : Nat} (h : s.omBand n = some j) : j < 64 := List.mem_range.mp (List.mem_of_find?_eq_some h)

/-! ## A start of an MDLL -/

/-- OMn begins anew (R177). -/
theorem omClear_clears (s : State) (n : Nat) : OsFrame s (s.omClear n) (omClearFields n) ∧ (∀ f ∈ omClearFields n, (s.omClear n).get f = 0) ∧
    (s.omClear n).os.settling.getD n false = false := by
  have hfst : ((omClearFields n).map fun f => (f, 0)).map Prod.fst = omClearFields n := rfl
  refine ⟨?_, fun f hf => ?_, getD_assign_same _ _ _ _ _⟩
  · have hput := Frame.putAll_fst s ((omClearFields n).map fun f => (f, 0))
    exact OsFrame.ofFrame (hfst ▸ hput) |>.trans (Frame.refl _ _)
  · have hnodup : ((((omClearFields n).map fun f => (f, 0)).map Prod.fst).map Fld.key).Nodup :=
      (nodup_omStatFields n).sublist ((List.take_sublist 3 (omStatFields n)).map Fld.key)
    have h := get_putAll s (l := (omClearFields n).map fun f => (f, 0)) hnodup (f, 0) (List.mem_map_of_mem hf)
    exact h.trans (Nat.zero_mod _)

section
variable (hn : n < 4)
include hn

theorem omStart_off (h : s.on (F.OS_OM_CFG_EN n) = false) : s.omStart n = s.omClear n := by
  obtain ⟨hen, -, -⟩ := ((omClear_clears s n).1.mono (omClearFields_sub n)).omSame hn
  simp [State.omStart, hen, h]

theorem omStart_bad (h : s.on (F.OS_OM_CFG_EN n) = true) (hb : s.omBad n = true) :
    s.omStart n = ((s.omClear n).put (F.OS_OM_STAT_BADCFG n) 1).event F.OS_EVT_BADCFG 0x0503 0 n := by
  obtain ⟨hen, hbad, -⟩ := ((omClear_clears s n).1.mono (omClearFields_sub n)).omSame hn
  simp [State.omStart, hen, h, hbad, hb]

theorem omStart_noBand (h : s.on (F.OS_OM_CFG_EN n) = true) (hb : s.omBad n = false) (hj : s.omBand n = none) :
    s.omStart n = ((s.omClear n).put (F.OS_OM_STAT_NOBAND n) 1).event F.OS_EVT_NOBAND 0x0502 0 n := by
  obtain ⟨hen, hbad, hband⟩ := ((omClear_clears s n).1.mono (omClearFields_sub n)).omSame hn
  simp [State.omStart, hen, h, hbad, hb, hband, hj]

/-- OMn runs on the code of its band, and settles. -/
def State.omSettle (s : State) (n j : Nat) : State :=
  { (s.put (F.OS_OM_STAT_BAND n) j).put (F.OS_OM_STAT_CODE n) (s.get (F.OS_OM_BAND_CODE n j)) with
    os.settling := assign false n true s.os.settling }

theorem omStart_band {j : Nat} (h : s.on (F.OS_OM_CFG_EN n) = true) (hb : s.omBad n = false) (hj : s.omBand n = some j) :
    s.omStart n = (s.omClear n).omSettle n j := by
  obtain ⟨hen, hbad, hband⟩ := ((omClear_clears s n).1.mono (omClearFields_sub n)).omSame hn
  simp [State.omStart, State.omSettle, hen, h, hbad, hb, hband, hj]

/-- What a start writes once it has begun anew: all but LOCK. -/
theorem omStart_frame (s : State) : OsFrame (s.omClear n) (s.omStart n) (omStatFields n).tail ∧ (s.omStart n).os.clks = s.os.clks := by
  have hputs (u : State) {f e : Fld} (hf : f ∈ (omStatFields n).tail) (he : e ∈ (omStatFields n).tail) (v code : Nat) :
      OsFrame u ((u.put f v).event e code 0 n) (omStatFields n).tail :=
    OsFrame.ofFrame ((Frame.put u f v (.inl (List.mem_map_of_mem hf))).trans (Frame.event _ e _ _ _ (List.mem_map_of_mem he)))
  cases hen : s.on (F.OS_OM_CFG_EN n)
  case false => rw [omStart_off hn hen]; exact ⟨OsFrame.refl _ _, rfl⟩
  cases hb : s.omBad n
  case true =>
    rw [omStart_bad hn hen hb, State.event_os]
    exact ⟨hputs _ (by simp [omStatFields, omStatus]) (by simp [omStatFields, omStatus]) _ _, rfl⟩
  cases hj : s.omBand n with
  | none =>
    rw [omStart_noBand hn hen hb hj, State.event_os]
    exact ⟨hputs _ (by simp [omStatFields, omStatus]) (by simp [omStatFields, omStatus]) _ _, rfl⟩
  | some j =>
    rw [omStart_band hn hen hb hj]
    have hput (u : State) (v : Nat) {f : Fld} (hf : f ∈ (omStatFields n).tail) : Frame u (u.put f v) (omStatFields n).tail :=
      Frame.put u f v (.inl (List.mem_map_of_mem hf))
    exact ⟨(OsFrame.ofFrame ((hput _ _ (by simp [omStatFields, omStatus])).trans (hput _ _ (by simp [omStatFields, omStatus])))).trans
      (Frame.refl _ _), rfl⟩

/-- A start leaves OMn unlocked, whatever its configuration. -/
theorem omStart_unlocked (s : State) : OsFrame s (s.omStart n) (omStatFields n) ∧ (s.omStart n).get (F.OS_OM_STAT_LOCK n) = 0 ∧
    ∀ k, (s.omStart n).clk k = s.clk k := by
  obtain ⟨hclear, hzero, -⟩ := omClear_clears s n
  obtain ⟨hframe, hclks⟩ := omStart_frame hn s
  refine ⟨(hclear.mono (omClearFields_sub n)).trans (hframe.mono fun _ hk => List.mem_cons_of_mem _ hk), ?_,
    fun k => by rw [State.clk, State.clk, hclks]⟩
  have hreg := reg_omStatus n (F.OS_OM_STAT_LOCK n) (by simp [omStatus])
  exact (hframe.get (by omega) (List.nodup_cons.mp (nodup_omStatFields n)).1).trans (hzero _ (by simp [omClearFields, omStatus]))

/-- A start of OMn with an invalid configuration (R175). -/
theorem omStart_refuses (h : s.on (F.OS_OM_CFG_EN n) = true) (hb : s.omBad n = true) :
    (s.omStart n).get (F.OS_OM_STAT_BADCFG n) = 1 ∧ (s.omStart n).get (F.OS_OM_STAT_NOBAND n) = 0 ∧ (s.omStart n).get F.OS_EVT_BADCFG = 1 ∧
      (s.omStart n).os.settling.getD n false = false ∧ OsFrame s (s.omStart n) (F.OS_EVT_BADCFG :: omClearFields n) ∧
      ∀ s₀ : State, s.quiet = s₀.quiet → s.jl = s₀.jl → Logs s₀ (s.omStart n) 0x0503 0x07 0 n := by
  obtain ⟨hclear, hzero, hset⟩ := omClear_clears s n
  have hjl : (s.omClear n).jl = s.jl := rfl
  rw [omStart_bad hn h hb, State.event_os]
  have hstatus := omEvent_get ((s.omClear n).put (F.OS_OM_STAT_BADCFG n) 1) hn (e := F.OS_EVT_BADCFG) (by decide) 0x0503 0 n
  refine ⟨?_, ?_, State.event_flag _ _ _ _ _ (by decide) (by decide), hset, ?_, fun s₀ hq hj => ?_⟩
  · rw [hstatus _ (by simp [omStatus])]
    exact State.get_put_same _ _ _
  · rw [hstatus _ (by simp [omStatus]), State.get_put_other _ _ _ _ (by simp [Fld.key, F.OS_OM_STAT_NOBAND, F.OS_OM_STAT_BADCFG])]
    exact hzero _ (by simp [omClearFields, omStatus])
  · refine OsFrame.trans (hclear.mono (gs := F.OS_EVT_BADCFG :: omClearFields n) fun _ hk => List.mem_cons_of_mem _ hk) (OsFrame.ofFrame ?_)
    exact (Frame.put _ _ _ (.inl (by simp [omClearFields, omStatus]))).trans (Frame.event _ _ _ _ _ (by simp))
  · exact logs_event (u := (s.omClear n).put (F.OS_OM_STAT_BADCFG n) 1) (hclear.quiet.trans hq) (hjl.trans hj) F.OS_EVT_BADCFG _ _ _

/-- A start of OMn that no band covers (R176). -/
theorem omStart_noBand_shows (h : s.on (F.OS_OM_CFG_EN n) = true) (hb : s.omBad n = false) (hj : s.omBand n = none) :
    (s.omStart n).get (F.OS_OM_STAT_NOBAND n) = 1 ∧ (s.omStart n).get F.OS_EVT_NOBAND = 1 ∧ (s.omStart n).os.settling.getD n false = false ∧
      ∀ s₀ : State, s.quiet = s₀.quiet → s.jl = s₀.jl → Logs s₀ (s.omStart n) 0x0502 0x07 0 n := by
  obtain ⟨hclear, -, hset⟩ := omClear_clears s n
  have hjl : (s.omClear n).jl = s.jl := rfl
  rw [omStart_noBand hn h hb hj, State.event_os, omEvent_get _ hn (by decide) _ _ _ _ (by simp [omStatus])]
  exact ⟨State.get_put_same _ _ _, State.event_flag _ _ _ _ _ (by decide) (by decide), hset,
    fun s₀ hq hj => logs_event (u := (s.omClear n).put (F.OS_OM_STAT_NOBAND n) 1) (hclear.quiet.trans hq) (hjl.trans hj) F.OS_EVT_NOBAND _ _ _⟩

/-- A start of OMn in its band (R177). -/
theorem omStart_settles {j : Nat} (h : s.on (F.OS_OM_CFG_EN n) = true) (hb : s.omBad n = false) (hj : s.omBand n = some j) :
    (s.omStart n).get (F.OS_OM_STAT_BAND n) = j ∧ (s.omStart n).get (F.OS_OM_STAT_CODE n) = s.get (F.OS_OM_BAND_CODE n j) % 2 ^ 8 ∧
      (s.omStart n).os.settling.getD n false = true ∧ (s.omStart n).jl = s.jl := by
  have hlt : j < 2 ^ 6 := omBand_lt hj
  have hcode := ((omClear_clears s n).1.mono (omClearFields_sub n)).omBandRow hn hlt (F.OS_OM_BAND_CODE n j) (by simp)
  rw [omStart_band hn h hb hj]
  refine ⟨?_, ?_, getD_assign_same _ _ _ _ _, rfl⟩
  · exact (State.get_put_other _ _ _ _ (by simp [Fld.key, F.OS_OM_STAT_BAND, F.OS_OM_STAT_CODE])).trans
      ((State.get_put_same _ _ _).trans (Nat.mod_eq_of_lt hlt))
  · exact (State.get_put_same _ _ _).trans (by rw [hcode]; rfl)

end

/-! ## A new configuration -/

/-- What a stop for a new configuration makes of an output: one that runs is to stop, whatever becomes of EN before it does (R177, R182). -/
def OsClk.restarted (c : OsClk) : OsClk := { c with armed := false, stopping := c.active, restart := c.active }

theorem restartClk_clk (s : State) (k : Nat) : (s.restartClk k).clk k = (s.clk k).restarted := by
  rw [State.restartClk, State.stopClk, clk_setClk_same, clk_setClk_same]
  rfl

theorem restartClk_other (s : State) (k j : Nat) (h : j ≠ k) : (s.restartClk k).clk j = s.clk j := by
  rw [State.restartClk, State.stopClk, clk_setClk_other _ _ h, clk_setClk_other _ _ h]

theorem restartClk_frame (s : State) (k : Nat) : OsFrame s (s.restartClk k) fs := Frame.refl _ fs

theorem mem_clksOf {k : Nat} : k ∈ s.clksOf n ↔ k < 8 ∧ s.clkSrc k = n := by simp [State.clksOf]

theorem nodup_clksOf (s : State) (n : Nat) : (s.clksOf n).Nodup := List.nodup_range.filter _

/-- OMn with the fields of its configuration loaded, its outputs to stop for it. -/
def State.loadOm (s : State) (n : Nat) (v : Word) : State := (s.forAll (s.clksOf n) State.restartClk).putWord (fieldsAt (F.OS_OM_CFG_EN n).off) v.toNat

theorem writeOmCfg_eq (s : State) (n : Nat) (v : Word) : s.writeOmCfg n v = (s.loadOm n v).omStart n := rfl

theorem loadOm_loads (s : State) (n : Nat) (v : Word) : OsFrame s (s.loadOm n v) (fieldsAt (F.OS_OM_CFG_EN n).off) ∧
    (∀ f ∈ fieldsAt (F.OS_OM_CFG_EN n).off, (s.loadOm n v).get f = f.ofWord v) ∧ (s.loadOm n v).jl = s.jl ∧
    (∀ k < 8, s.clkSrc k = n → (s.loadOm n v).clk k = (s.clk k).restarted) ∧
    ∀ k, s.clkSrc k ≠ n → (s.loadOm n v).clk k = s.clk k := by
  obtain ⟨hframe, hown, hother⟩ := forAll_clks (fs := fieldsAt (F.OS_OM_CFG_EN n).off) restartClk_frame restartClk_other (nodup_clksOf s n) s
  have hclk (k : Nat) : (s.loadOm n v).clk k = (s.forAll (s.clksOf n) State.restartClk).clk k := clk_ofOs (putWord_os _ _ _) k
  refine ⟨hframe.trans (OsFrame.putWord _ _ _), fun f hf => putWord_get _ v hf, ?_, fun k hk hs => ?_, fun k hs => ?_⟩
  · exact (putWord_jl _ _ _).trans (forAll_inv State.jl _ State.restartClk (fun _ _ => rfl) s)
  · obtain ⟨t, -, hsame, hlast⟩ := hown k (mem_clksOf.mpr ⟨hk, hs⟩)
    rw [hclk, hlast, restartClk_clk, hsame]
  · rw [hclk, hother k fun hk => hs (mem_clksOf.mp hk).2]

section
variable {path : Path} {n : Fin 4} {v : Word}

theorem omCfg_mem : ∀ n : Fin 4, ∀ f ∈ [F.OS_OM_CFG_EN n, F.OS_OM_CFG_INT n, F.OS_OM_CFG_NUM n, F.OS_OM_CFG_DEN n],
    f ∈ fieldsAt (F.OS_OM_CFG_EN n).off ∧ f.acc = .rw := by decide +kernel

/-- A start of OMn leaves the word of its configuration as loaded. -/
theorem OsFrame.omLoaded (h : OsFrame u t (omStatFields n)) (hu : ∀ f ∈ fieldsAt (F.OS_OM_CFG_EN n).off, u.get f = f.ofWord v) :
    ∀ f ∈ fieldsAt (F.OS_OM_CFG_EN n).off, t.get f = f.ofWord v := fun f hf => by
  have hreg : f.key / 64 = 0x070100 + n * 0x40 := reg_of_mem_fieldsAt hf
  refine (h.getReg (by omega) fun g hg => ?_).trans (hu f hf)
  have := reg_omStatFields n g hg
  omega

/-- A new configuration of OMn loaded: what a start of it finds, and what follows it. -/
theorem does_omCfgWrite (hp : s.power = .run) (hj : s.judge path (F.OS_OM_CFG_EN n).off true = .served) :
    let en := (F.OS_OM_CFG_EN n).ofWord v
    Does (.omCfgWrite path n v) s fun t => (∀ f ∈ fieldsAt (F.OS_OM_CFG_EN n).off, t.get f = f.ofWord v) ∧ t.get (F.OS_OM_STAT_LOCK n) = 0 ∧
      (∀ k < 8, s.clkSrc k = n → t.clk k = { s.clk k with armed := false, stopping := (s.clk k).active, restart := (s.clk k).active }) ∧
      (∀ k < 8, s.clkSrc k ≠ n → t.clk k = s.clk k) ∧
      (en = 0 → t.get (F.OS_OM_STAT_BADCFG n) = 0 ∧ t.get (F.OS_OM_STAT_NOBAND n) = 0 ∧ t.os.settling.getD n false = false) ∧
      (en = 1 → t.omBad n = true → t.get (F.OS_OM_STAT_BADCFG n) = 1 ∧ t.get F.OS_EVT_BADCFG = 1 ∧
        Logs s t 0x0503 0x07 0 n ∧ t.os.settling.getD n false = false) ∧
      (en = 1 → t.omBad n = false → t.omBand n = none → t.get (F.OS_OM_STAT_NOBAND n) = 1 ∧ t.get F.OS_EVT_NOBAND = 1 ∧
        Logs s t 0x0502 0x07 0 n ∧ t.os.settling.getD n false = false) ∧
      (∀ j : Nat, en = 1 → t.omBad n = false → t.omBand n = some j → t.get (F.OS_OM_STAT_BAND n) = j ∧
        t.get (F.OS_OM_STAT_CODE n) = s.get (F.OS_OM_BAND_CODE n j) % 2 ^ 8 ∧ t.os.settling.getD n false = true ∧ LogsNone s t) ∧
      Frame { s with os := t.os } t ([F.OS_OM_STAT_LOCK n, F.OS_OM_STAT_NOBAND n, F.OS_OM_STAT_BADCFG n, F.OS_OM_STAT_BAND n, F.OS_OM_STAT_CODE n,
        F.OS_EVT_BADCFG, F.OS_EVT_NOBAND] ++ fieldsAt (F.OS_OM_CFG_EN n).off) := by
  intro en
  refine does_write (f := (·.writeOmCfg n v)) rfl hp hj ?_
  obtain ⟨hload, hfields, hjl, hown, hother⟩ := loadOm_loads s n v
  have hcode {j : Nat} (hlt : j < 64) : (s.loadOm n v).get (F.OS_OM_BAND_CODE n j) = s.get (F.OS_OM_BAND_CODE n j) := by
    have hreg := reg_omBand n j (F.OS_OM_BAND_CODE n j) (by simp)
    refine hload.getReg (by omega) fun g hg => ?_
    have hg : g.key / 64 = 0x070100 + n * 0x40 := reg_of_mem_fieldsAt hg
    omega
  have hen := hfields (F.OS_OM_CFG_EN n) (omCfg_mem n _ (by simp)).1
  rw [writeOmCfg_eq]
  have hquiet := hload.quiet
  generalize s.loadOm n v = u at *
  obtain ⟨hstart, hlock, hclk⟩ := omStart_unlocked n.isLt u
  obtain ⟨-, hbad, hband⟩ := hstart.settled.omSame n.isLt
  have hon (h : en = 1) : u.on (F.OS_OM_CFG_EN n) = true := by rw [State.on, hen]; simp [en, h]
  rw [hbad, hband]
  simp only [State.settle_get, State.settle_os, clk_settle, hclk]
  refine ⟨fun f hf => ?_, hlock, hown, fun k _ => hother k, fun h => ?_, fun h hb => ?_, fun h hb hj => ?_, fun j h hb hj => ?_, ?_⟩
  · exact hstart.omLoaded hfields f hf
  · obtain ⟨-, hzero, hset⟩ := omClear_clears u n
    rw [omStart_off n.isLt (by rw [State.on, hen]; simp [en] at h; simp [h])]
    exact ⟨hzero _ (by simp [omClearFields, omStatus]), hzero _ (by simp [omClearFields, omStatus]), hset⟩
  · obtain ⟨hbadcfg, -, hflag, hset, -, hlogs⟩ := omStart_refuses n.isLt (hon h) hb
    exact ⟨hbadcfg, hflag, (hlogs s hquiet hjl).ofJl (State.settle_jl _), hset⟩
  · obtain ⟨hnoband, hflag, hset, hlogs⟩ := omStart_noBand_shows n.isLt (hon h) hb hj
    exact ⟨hnoband, hflag, (hlogs s hquiet hjl).ofJl (State.settle_jl _), hset⟩
  · obtain ⟨hshown, hcoded, hset, hsame⟩ := omStart_settles n.isLt (hon h) hb hj
    refine ⟨hshown, by rw [hcoded, hcode (omBand_lt hj)], hset, ?_⟩
    rw [LogsNone, State.settle_jl, hsame, hjl]
  · refine Frame.settled ((hload.mono (gs := omStatFields n ++ fieldsAt (F.OS_OM_CFG_EN n).off) ?_).trans (hstart.mono ?_))
    · exact List.map_subset Fld.key (List.subset_append_right _ _)
    · exact List.map_subset Fld.key (List.subset_append_left _ _)

/-- A valid configuration has DEN above NUM, and INT from 8 to 24 (R175). -/
theorem omBad_iff {n : Nat} : s.omBad n = true ↔ s.get (F.OS_OM_CFG_DEN n) = 0 ∨ s.get (F.OS_OM_CFG_DEN n) ≤ s.get (F.OS_OM_CFG_NUM n) ∨
    s.get (F.OS_OM_CFG_INT n) < 8 ∨ 24 < s.get (F.OS_OM_CFG_INT n) := by
  simp only [State.omBad, Bool.or_eq_true, beq_iff_eq, decide_eq_true_eq, or_assoc]
  rfl

end

/-- Settles O60: the fields as written are those that the start checks, and a refused start writes OMn's status and BADCFG alone. -/
theorem invalidOutputConfigurationsAreRefused : Obligations.InvalidOutputConfigurationsAreRefused := by
  unfold Obligations.InvalidOutputConfigurationsAreRefused
  intro s path n v hp hj hen den hbad
  refine does_write (f := (·.writeOmCfg n v)) rfl hp hj ?_
  obtain ⟨hload, hfields, hjl, hown, -⟩ := loadOm_loads s n v
  have hcfg := fun f hf => hfields f (omCfg_mem n f hf).1
  have hquiet := hload.quiet
  rw [writeOmCfg_eq]
  generalize s.loadOm n v = u at *
  simp only [List.forall_mem_cons, List.not_mem_nil, false_implies, implies_true, and_true] at hcfg
  obtain ⟨hcen, hcint, hcnum, hcden⟩ := hcfg
  have hon : u.on (F.OS_OM_CFG_EN n) = true := by simp [State.on, hcen, hen]
  have hub : u.omBad n = true := omBad_iff.mpr (by rwa [hcint, hcnum, hcden])
  obtain ⟨hstart, hlock, hclk⟩ := omStart_unlocked n.isLt u
  obtain ⟨hbadcfg, hnoband, hflag, hset, hframe, hlogs⟩ := omStart_refuses n.isLt hon hub
  simp only [State.settle_get, State.settle_os, clk_settle, hclk]
  refine ⟨hlock, hbadcfg, hset, fun k hk hs => ?_, hflag, hnoband, fun f hf _ => hstart.omLoaded hfields f hf, ?_,
    (hlogs s hquiet hjl).ofJl (State.settle_jl _)⟩
  · rw [hown k hk hs]
    rfl
  · refine Frame.settled ((hload.mono (gs := fieldsAt (F.OS_OM_CFG_EN n).off ++ (omClearFields n ++ [F.OS_EVT_BADCFG])) ?_).trans (hframe.mono ?_))
    · exact List.map_subset Fld.key (List.subset_append_left _ _)
    · exact List.map_subset Fld.key (by simp)


end Sys2Proof.Machine
end

section
/-! PROOF. The lock of the lanes' MDLL, which takes their transmitters out of reset (O42; R174, R193, R194). -/
namespace Sys2Proof.Machine

variable {s t u : State} {fs gs : List Fld} {n : Nat}

/-- t differs from s in the hidden state of the lanes, and else as a frame allows. -/
def WireFrame (s t : State) (fs : List Fld) : Prop := Frame { s with wire := t.wire } t fs

/-- The same lanes on both sides of a frame. -/
theorem Frame.withWire (h : Frame s t fs) (w : WirePart) : Frame { s with wire := w } { t with wire := w } fs :=
  ⟨h.1, congrArg (fun x : State => { x with wire := w }) h.2⟩

theorem WireFrame.ofFrame (h : Frame s t fs) : WireFrame s t fs := h.withWire t.wire
theorem WireFrame.trans (h : WireFrame s t fs) (g : WireFrame t u fs) : WireFrame s u fs := (h.withWire u.wire).trans g

theorem WireFrame.getReg (h : WireFrame s t fs) {f : Fld} (hw : f.key / 4194304 < 0x14) (hf : ∀ g ∈ fs, g.key / 64 ≠ f.key / 64) : t.get f = s.get f :=
  Keeps.getReg (s := { s with wire := t.wire }) h.1 hw hf

theorem lane_setLane (s : State) (n m : Nat) (f : LnLane → LnLane) : (s.setLane n f).lane m = if m = n then f (s.lane n) else s.lane m := by
  simpa [State.lane, State.setLane] using getD_alter {} {} f n m s.wire.lanes (.inr rfl)

/-- What SM LOCK writes of lane n's status. -/
def lockFields (n : Nat) : List Fld := [F.LN_LANE_STAT_TXRST n, F.LN_LANE_STAT_STATE n]

theorem reg_lockFields (n : Nat) : ∀ f ∈ lockFields n, f.key / 64 = 0x090018 + n * 0x1000 := by
  simp only [lockFields, List.forall_mem_cons, List.not_mem_nil, false_implies, implies_true, and_true, Fld.key, F.LN_LANE_STAT_TXRST,
    F.LN_LANE_STAT_STATE]
  omega

theorem txrst_ne_state (n : Nat) : (F.LN_LANE_STAT_TXRST n).key ≠ (F.LN_LANE_STAT_STATE n).key := by
  simp [Fld.key, F.LN_LANE_STAT_TXRST, F.LN_LANE_STAT_STATE]

/-- What decides beside its status and its hidden state whether lane n leaves DOWN. -/
def readyFields (n : Nat) : List Fld := [F.AP_PORT_STAT_CAL_BUSY n, F.LN_LANE_CFG_TRAIN n]

theorem reg_readyFields (n : Nat) : ∀ f ∈ readyFields n, f.key / 64 = 0x0B1000 + n * 0x100 ∨ f.key / 64 = 0x090000 + n * 0x1000 := by
  simp only [readyFields, List.forall_mem_cons, List.not_mem_nil, false_implies, implies_true, and_true, Fld.key, F.AP_PORT_STAT_CAL_BUSY,
    F.LN_LANE_CFG_TRAIN]
  omega

/-- Nothing but its transmitter's reset keeps lane n in DOWN (R193, R194). -/
def State.laneReady (s : State) (n : Nat) : Bool :=
  s.laneState n == laneDown && (s.lane n).signal && !s.on (F.AP_PORT_STAT_CAL_BUSY n) && (!s.on (F.LN_LANE_CFG_TRAIN n) || (s.lane n).trained)

/-- The transmitter of lane n leaves reset. -/
def State.freeTx (s : State) (n : Nat) : State := (s.put (F.LN_LANE_STAT_TXRST n) 0).leaveDown n

/-- The lane hunts for block lock. -/
def State.huntLane (s : State) (n : Nat) : State := (s.put (F.LN_LANE_STAT_STATE n) laneHunt).setLane n fun l => { l with goodRun := 0 }

theorem freeTx_eq (s : State) (n : Nat) : s.freeTx n = (s.put (F.LN_LANE_STAT_TXRST n) 0).when (s.laneReady n) (·.huntLane n) := by
  have hget {f : Fld} (hf : f ∈ readyFields n) : (s.put (F.LN_LANE_STAT_TXRST n) 0).on f = s.on f := by
    rw [State.on, State.on, get_put_reg]
    have hreg := reg_lockFields n (F.LN_LANE_STAT_TXRST n) (by simp [lockFields])
    have := reg_readyFields n f hf
    omega
  have hstate : (s.put (F.LN_LANE_STAT_TXRST n) 0).laneState n = s.laneState n := State.get_put_other _ _ _ _ (txrst_ne_state n).symm
  have htx : (s.put (F.LN_LANE_STAT_TXRST n) 0).on (F.LN_LANE_STAT_TXRST n) = false := by rw [State.on, State.get_put_same, Nat.zero_mod]; rfl
  unfold State.freeTx State.leaveDown State.laneReady
  dsimp only
  rw [hstate, htx, hget (by simp [readyFields]), hget (by simp [readyFields]), Bool.not_false, Bool.and_true]
  rfl

theorem freeTx_frame (s : State) (n : Nat) : WireFrame s (s.freeTx n) (lockFields n) := by
  have hput {f : Fld} (hf : f ∈ lockFields n) (u : State) (v : Nat) : WireFrame u (u.put f v) (lockFields n) :=
    WireFrame.ofFrame (Frame.put u f v (.inl (List.mem_map_of_mem hf)))
  rw [freeTx_eq s n]
  refine (hput (f := F.LN_LANE_STAT_TXRST n) (by simp [lockFields]) s 0).trans ?_
  cases s.laneReady n
  · exact WireFrame.ofFrame (Frame.refl _ _)
  · exact (hput (f := F.LN_LANE_STAT_STATE n) (by simp [lockFields]) _ laneHunt).trans (Frame.refl _ _)

/-- What lane n shows of its status, and what is remembered of it. -/
def State.laneView (s : State) (n : Nat) : Nat × Nat × LnLane := (s.get (F.LN_LANE_STAT_TXRST n), s.laneState n, s.lane n)

theorem freeTx_other (s : State) {j : Nat} (hn : n < 6) (h : j ≠ n) : (s.freeTx j).laneView n = s.laneView n := by
  have hget : ∀ f ∈ lockFields n, (s.freeTx j).get f = s.get f := fun f hf => by
    have hf := reg_lockFields n f hf
    refine (freeTx_frame s j).getReg (by omega) fun g hg => ?_
    have := reg_lockFields j g hg
    omega
  have hlane : (s.freeTx j).lane n = s.lane n := by
    rw [freeTx_eq s j]
    exact when_inv (fun t => t.lane n) _ _ ((lane_setLane _ _ _ _).trans (if_neg h.symm))
  rw [State.laneView, hget _ (by simp [lockFields]), State.laneState, hget _ (by simp [lockFields]), hlane]
  rfl

/-- Whether a lane is ready depends on its view and on two fields of other registers. -/
theorem laneReady_congr (hview : t.laneView n = s.laneView n) (h : ∀ f ∈ readyFields n, t.get f = s.get f) :
    t.laneReady n = s.laneReady n := by
  simp only [State.laneView, Prod.mk.injEq] at hview
  obtain ⟨-, hstate, hlane⟩ := hview
  unfold State.laneReady State.on
  rw [hstate, hlane, h _ (by simp [readyFields]), h _ (by simp [readyFields])]

theorem freeTx_frees (s : State) (n : Nat) : (s.freeTx n).get (F.LN_LANE_STAT_TXRST n) = 0 ∧
    (s.freeTx n).laneState n = if s.laneReady n then laneHunt else s.laneState n := by
  have hput : (s.put (F.LN_LANE_STAT_TXRST n) 0).get (F.LN_LANE_STAT_TXRST n) = 0 := State.get_put_same _ _ _
  have hstate : (s.put (F.LN_LANE_STAT_TXRST n) 0).laneState n = s.laneState n := State.get_put_other _ _ _ _ (txrst_ne_state n).symm
  rw [freeTx_eq s n]
  cases s.laneReady n
  · exact ⟨hput, hstate⟩
  · have hother := State.get_put_other (s.put (F.LN_LANE_STAT_TXRST n) 0) (F.LN_LANE_STAT_STATE n) _ laneHunt (txrst_ne_state n)
    exact ⟨hother.trans hput, State.get_put_same _ (F.LN_LANE_STAT_STATE n) laneHunt⟩

/-- Each lane is met as it was before all of them. -/
theorem forAll_freeTx (s : State) (hn : n < 6) : (s.forAll (List.range 6) State.freeTx).get (F.LN_LANE_STAT_TXRST n) = 0 ∧
    (s.forAll (List.range 6) State.freeTx).laneState n = if s.laneReady n then laneHunt else s.laneState n := by
  have hkeep (t : State) (j : Nat) (_ : j ∈ List.range 6) (ht : ∀ f ∈ readyFields n, t.get f = s.get f) :
      ∀ f ∈ readyFields n, (t.freeTx j).get f = s.get f := fun f hf => by
    have hreg := reg_readyFields n f hf
    refine ((freeTx_frame t j).getReg (by omega) fun g hg => ?_).trans (ht f hf)
    have := reg_lockFields j g hg
    omega
  obtain ⟨t, ht, hsame, hlast⟩ := forAll_own (R := fun t => ∀ f ∈ readyFields n, t.get f = s.get f) (f := State.freeTx) (g := fun t => t.laneView n)
    (s := s) List.nodup_range hkeep (fun t j _ h => freeTx_other t hn h) (List.mem_range.mpr hn) (fun _ _ => rfl)
  obtain ⟨htx, hstate⟩ := freeTx_frees t n
  have hready := laneReady_congr hsame ht
  simp only [State.laneView, Prod.mk.injEq] at hlast hsame
  rw [hlast.1, hlast.2.1, htx, hstate, hready, hsame.2.1]
  exact ⟨rfl, rfl⟩

/-- The fields of all lanes that SM LOCK writes, and LOCK. -/
def smFields : List Fld := F.OS_SM_STAT_LOCK :: (List.range 6).map F.LN_LANE_STAT_TXRST ++ (List.range 6).map F.LN_LANE_STAT_STATE

theorem does_smLockDeclared (hp : s.power = .run) : Does .smLockDeclared s fun t => t.get F.OS_SM_STAT_LOCK = 1 ∧
    (∀ n < 6, t.get (F.LN_LANE_STAT_TXRST n) = 0 ∧
      t.get (F.LN_LANE_STAT_STATE n) = if s.laneReady n then laneHunt else s.get (F.LN_LANE_STAT_STATE n)) ∧
    Frame { s with wire := t.wire } t smFields := by
  refine does_running (f := fun s => (s.put F.OS_SM_STAT_LOCK 1).forAll (List.range 6) State.freeTx) rfl hp ?_
  simp only [State.settle_get, State.settle_wire]
  have hsm : F.OS_SM_STAT_LOCK.key / 64 = 0x070010 := by decide
  have hput (f : Fld) (hf : f.key / 64 ≠ 0x070010) : (s.put F.OS_SM_STAT_LOCK 1).get f = s.get f := get_put_reg s 1 (by rwa [hsm])
  have hsub : ∀ j ∈ List.range 6, ∀ k ∈ (lockFields j).map Fld.key, k ∈ smFields.map Fld.key := by decide
  refine ⟨?_, fun n hn => ?_, Frame.settled ?_⟩
  · refine (forAll_keeps (fun t => t.get F.OS_SM_STAT_LOCK) _ State.freeTx (fun t j _ => ?_) _).trans (State.get_put_same s _ 1)
    refine (freeTx_frame t j).getReg (by decide) fun g hg => ?_
    rw [reg_lockFields j g hg, hsm]
    omega
  · obtain ⟨htx, hstate⟩ := forAll_freeTx (s.put F.OS_SM_STAT_LOCK 1) hn
    have hfields : ∀ f ∈ lockFields n, (s.put F.OS_SM_STAT_LOCK 1).get f = s.get f := fun f hf => hput f (by rw [reg_lockFields n f hf]; omega)
    have hstate0 : (s.put F.OS_SM_STAT_LOCK 1).laneState n = s.laneState n := hfields _ (by simp [lockFields])
    have hview : (s.put F.OS_SM_STAT_LOCK 1).laneView n = s.laneView n := by
      rw [State.laneView, hfields _ (by simp [lockFields]), hstate0]
      rfl
    have hready := laneReady_congr hview fun f hf => hput f (by have := reg_readyFields n f hf; omega)
    rw [hready, hstate0] at hstate
    exact ⟨htx, hstate⟩
  · exact forAll_induct (P := fun t => WireFrame s t smFields) (fun t j hj ht => ht.trans (Frame.mono (freeTx_frame t j) (hsub j hj)))
      (WireFrame.ofFrame (Frame.put s F.OS_SM_STAT_LOCK 1 (.inl (by simp [smFields]))))

end Sys2Proof.Machine
end

section
/-! PROOF. Clock outputs (O42; R177 to R182): how one begins to wait, and what its registers do. -/
namespace Sys2Proof.Machine

variable {s t u : State} {fs : List Fld} {k n : Nat}

/-! ## Fields -/

/-- The registers of CLK_OUTk that its commands use. -/
def clkCfg (k : Nat) : List Fld :=
  [F.OS_CLK_CFG_EN k, F.OS_CLK_CFG_SRC k, F.OS_CLK_CFG_STD k, F.OS_CLK_CFG_OFF_STATE k, F.OS_CLK_CFG_ALIGN k, F.OS_CLK_CFG_PG_MUTE k, F.OS_CLK_CFG_DIV k]

def clkStat (k : Nat) : List Fld := [F.OS_CLK_STAT_RUN k, F.OS_CLK_STAT_PG k, F.OS_CLK_STAT_TRIM k]

theorem reg_clkCfg (k : Nat) : ∀ f ∈ clkCfg k, f.key / 64 = 0x070400 + k * 0x20 := by
  simp only [clkCfg, List.forall_mem_cons, List.not_mem_nil, false_implies, implies_true, and_true, Fld.key, F.OS_CLK_CFG_EN, F.OS_CLK_CFG_SRC,
    F.OS_CLK_CFG_STD, F.OS_CLK_CFG_OFF_STATE, F.OS_CLK_CFG_ALIGN, F.OS_CLK_CFG_PG_MUTE, F.OS_CLK_CFG_DIV]
  omega

theorem reg_clkStat (k : Nat) : ∀ f ∈ clkStat k, f.key / 64 = 0x070410 + k * 0x20 := by
  simp only [clkStat, List.forall_mem_cons, List.not_mem_nil, false_implies, implies_true, and_true, Fld.key, F.OS_CLK_STAT_RUN, F.OS_CLK_STAT_PG,
    F.OS_CLK_STAT_TRIM]
  omega

/-! ## An output begins to wait for its start point (R179, R180) -/

/-- OMn has locked, and with the divider of CLK_OUTk gives at most 800 MHz. -/
def State.omFits (s : State) (n d : Nat) : Prop := s.on (F.OS_OM_STAT_LOCK n) = true ∧ 156250 * s.omNum n ≤ 800000 * s.omDen n * d

/-- The output begins to wait now. -/
def OsClk.waiting (c : OsClk) (now : Nat) : OsClk := { c with armed := true, armAt := now }

theorem armClk_frame (s : State) (k : Nat) : OsFrame s (s.armClk k) [F.OS_EVT_BADCFG] := by
  unfold State.armClk
  dsimp only
  split
  · exact OsFrame.refl s _
  split
  · exact OsFrame.ofFrame (Frame.event s _ _ _ _ (by simp))
  · exact OsFrame.setClk s k _

theorem armClk_other (s : State) (k j : Nat) (h : j ≠ k) : (s.armClk k).clk j = s.clk j := by
  unfold State.armClk
  dsimp only
  split
  · rfl
  split
  · exact clk_event ..
  · exact clk_setClk_other s _ h

theorem armClk_keeps (s : State) (k : Nat) : (s.armClk k).os.settling = s.os.settling ∧ (s.armClk k).os.lockAt = s.os.lockAt := by
  unfold State.armClk
  dsimp only
  split
  · exact ⟨rfl, rfl⟩
  split
  · rw [State.event_os]
    exact ⟨rfl, rfl⟩
  · exact ⟨rfl, rfl⟩

theorem armClk_arms (hen : s.on (F.OS_CLK_CFG_EN k) = true) (ha : (s.clk k).active = false) (hfit : s.omFits (s.clkSrc k) (s.clkDiv k)) :
    (s.armClk k).clk k = (s.clk k).waiting s.now := by
  obtain ⟨hlock, hle⟩ := hfit
  have hgo : (!(s.on (F.OS_CLK_CFG_EN k) && s.on (F.OS_OM_STAT_LOCK (s.clkSrc k))) || (s.clk k).active) = false := by rw [hen, hlock, ha]; rfl
  unfold State.armClk
  dsimp only
  rw [if_neg (Bool.not_eq_true _ ▸ hgo), if_neg (Nat.not_lt.mpr hle)]
  exact clk_setClk_same s k _

theorem armClk_stays (h : s.on (F.OS_CLK_CFG_EN k) = false ∨ (s.clk k).active = true ∨ ¬s.omFits (s.clkSrc k) (s.clkDiv k)) :
    (s.armClk k).clk k = s.clk k := by
  unfold State.armClk
  dsimp only
  split
  · rfl
  · next hc =>
    simp only [Bool.or_eq_true, Bool.not_eq_true', Bool.and_eq_false_iff, not_or, Bool.not_eq_false] at hc
    split
    · exact clk_event ..
    · next hle =>
      obtain ⟨⟨hen, hlock⟩, ha⟩ := hc
      exact absurd h (by simp [hen, ha, State.omFits, hlock, Nat.not_lt.mp hle])

/-- Other registers written, what decides of an output stays. -/
theorem OsFrame.clkCfg (h : OsFrame s t fs) (hk : k < 8) (hfs : ∀ g ∈ fs, g.key / 64 ≠ 0x070400 + k * 0x20) :
    ∀ f ∈ clkCfg k, t.get f = s.get f := fun f hf => by
  have hreg := reg_clkCfg k f hf
  exact h.getReg (by omega) fun g hg => by rw [hreg]; exact hfs g hg

theorem clkCfg_same (h : ∀ f ∈ clkCfg k, t.get f = s.get f) :
    t.on (F.OS_CLK_CFG_EN k) = s.on (F.OS_CLK_CFG_EN k) ∧ t.clkSrc k = s.clkSrc k ∧ t.clkDiv k = s.clkDiv k := by
  unfold State.on State.clkSrc State.clkDiv
  rw [h _ (by simp [Machine.clkCfg]), h _ (by simp [Machine.clkCfg]), h _ (by simp [Machine.clkCfg])]
  exact ⟨rfl, rfl, rfl⟩

/-- The frequency of OMn as its configuration has it. -/
theorem omFreq_congr (h : ∀ f ∈ [F.OS_OM_CFG_INT n, F.OS_OM_CFG_NUM n, F.OS_OM_CFG_DEN n], t.get f = s.get f) :
    t.omNum n = s.omNum n ∧ t.omDen n = s.omDen n := by
  unfold State.omNum State.omDen
  rw [h _ (by simp), h _ (by simp), h _ (by simp)]
  exact ⟨rfl, rfl⟩

/-- Other registers written than OMn's configuration and status, its outputs fit as before. -/
theorem OsFrame.omFits (h : OsFrame s t fs) (hn : n < 4)
    (hfs : ∀ g ∈ fs, g.key / 64 ≠ 0x070100 + n * 0x40 ∧ g.key / 64 ≠ 0x070110 + n * 0x40) (d : Nat) : t.omFits n d ↔ s.omFits n d := by
  have hread {f : Fld} (hf : f.key / 64 = 0x070100 + n * 0x40 ∨ f.key / 64 = 0x070110 + n * 0x40) : t.get f = s.get f := by
    refine h.getReg (by omega) fun g hg => ?_
    have := hfs g hg
    omega
  obtain ⟨hnum, hden⟩ := omFreq_congr fun f hf => hread (.inl (reg_omCfg n f (List.mem_cons_of_mem _ hf)))
  rw [State.omFits, State.omFits, hnum, hden, State.on, State.on, hread (.inr (reg_omStatus n _ (by simp [omStatus])))]

/-! ## OM_LOCK_DECLARED (R177) -/

/-- OMn is declared locked, before its outputs begin to wait. -/
def State.declareLock (s : State) (n : Nat) : State :=
  (State.put { s with os.settling := assign false n false s.os.settling, os.lockAt := assign 0 n s.now s.os.lockAt } (F.OS_OM_STAT_LOCK n) 1).event
    F.OS_EVT_LOCK 0x0501 0 0

theorem exec_omLockDeclared (n : Fin 4) (s : State) : exec (.omLockDeclared n) s = running s fun s =>
    s.when (s.os.settling.getD n false) fun s => (s.declareLock n).forAll ((s.declareLock n).clksOf n) State.armClk := rfl

theorem declareLock_shows (s : State) (hn : n < 4) : OsFrame s (s.declareLock n) [F.OS_OM_STAT_LOCK n, F.OS_EVT_LOCK] ∧
    (s.declareLock n).get (F.OS_OM_STAT_LOCK n) = 1 ∧ (s.declareLock n).get F.OS_EVT_LOCK = 1 ∧ (∀ k, (s.declareLock n).clk k = s.clk k) ∧
    (s.declareLock n).os.settling.getD n false = false ∧ (s.declareLock n).os.lockAt.getD n 0 = s.now := by
  unfold State.declareLock
  generalize hu : ({ s with os.settling := assign false n false s.os.settling, os.lockAt := assign 0 n s.now s.os.lockAt } : State) = u
  have hframe : OsFrame s u [F.OS_OM_STAT_LOCK n, F.OS_EVT_LOCK] := hu ▸ Frame.refl _ _
  have hclk (k : Nat) : u.clk k = s.clk k := hu ▸ rfl
  refine ⟨hframe.trans (OsFrame.ofFrame ?_), ?_, State.event_flag _ _ _ _ _ (by decide) (by decide), fun k => ?_, ?_, ?_⟩
  · exact (Frame.put _ _ _ (.inl (by simp))).trans (Frame.event _ _ _ _ _ (by simp))
  · rw [omEvent_get _ hn (by decide) _ _ _ _ (by simp [omStatus])]
    exact State.get_put_same _ _ _
  · rw [clk_event, clk_put, hclk]
  · rw [State.event_os, ← hu]
    exact getD_assign_same _ _ _ _ _
  · rw [State.event_os, ← hu]
    exact getD_assign_same _ _ _ _ _

/-- The registers that a lock of OMn writes are no output's, and not OMn's configuration. -/
theorem lockRegs_apart (n : Nat) : ∀ g ∈ [F.OS_OM_STAT_LOCK n, F.OS_EVT_LOCK, F.OS_EVT_BADCFG], g.key / 64 = 0x070110 + n * 0x40 ∨ g.key / 64 = 0x070008 := by
  simp only [List.forall_mem_cons, List.not_mem_nil, false_implies, implies_true, and_true, or_true, Fld.key, F.OS_OM_STAT_LOCK, F.OS_EVT_LOCK,
    F.OS_EVT_BADCFG]
  omega

/-- A lock of OMn changes nothing that decides of its outputs. -/
theorem OsFrame.lockSame (h : OsFrame s t [F.OS_OM_STAT_LOCK n, F.OS_EVT_LOCK, F.OS_EVT_BADCFG]) (hn : n < 4) (hk : k < 8) :
    (t.on (F.OS_CLK_CFG_EN k) = s.on (F.OS_CLK_CFG_EN k) ∧ t.clkSrc k = s.clkSrc k ∧ t.clkDiv k = s.clkDiv k) ∧
      t.omNum n = s.omNum n ∧ t.omDen n = s.omDen n := by
  refine ⟨clkCfg_same (h.clkCfg hk fun g hg => ?_), omFreq_congr fun f hf => ?_⟩
  · have := lockRegs_apart n g hg
    omega
  · have hreg := reg_omCfg n f (List.mem_cons_of_mem _ hf)
    refine h.getReg (by omega) fun g hg => ?_
    have := lockRegs_apart n g hg
    omega

theorem does_omLockDeclared_idle {n : Fin 4} (hp : s.power = .run) (h : s.os.settling.getD n false = false) :
    Does (.omLockDeclared n) s fun t => Frame s t [] :=
  does_idle (exec_omLockDeclared n s) (by rw [h, State.when_false]) hp

theorem does_omLockDeclared {n : Fin 4} (hp : s.power = .run) (h : s.os.settling.getD n false = true) :
    Does (.omLockDeclared n) s fun t => t.get (F.OS_OM_STAT_LOCK n) = 1 ∧ t.get F.OS_EVT_LOCK = 1 ∧
      t.os.settling.getD n false = false ∧ t.os.lockAt.getD n 0 = s.now ∧
      Frame { s with os := t.os } t [F.OS_OM_STAT_LOCK n, F.OS_EVT_LOCK, F.OS_EVT_BADCFG] ∧
      (∀ k < 8, s.clkSrc k = n → s.on (F.OS_CLK_CFG_EN k) = true → (s.clk k).active = false →
        156250 * s.omNum n ≤ 800000 * s.omDen n * s.clkDiv k → t.clk k = { s.clk k with armed := true, armAt := s.now }) ∧
      (∀ k < 8, s.clkSrc k ≠ n ∨ s.on (F.OS_CLK_CFG_EN k) = false ∨ (s.clk k).active = true ∨
        800000 * s.omDen n * s.clkDiv k < 156250 * s.omNum n → t.clk k = s.clk k) := by
  refine does_running (exec_omLockDeclared n s) hp ?_
  obtain ⟨hframe, hlock, hflag, hclk, hset, hat⟩ := declareLock_shows s n.isLt
  rw [h, State.when_true]
  generalize s.declareLock n = u at *
  obtain ⟨hall, hown, hother⟩ := forAll_clks armClk_frame armClk_other (nodup_clksOf u n) u
  have hsettling := forAll_inv (fun t => t.os.settling) (u.clksOf n) State.armClk (fun t k => (armClk_keeps t k).1) u
  have hlockAt := forAll_inv (fun t => t.os.lockAt) (u.clksOf n) State.armClk (fun t k => (armClk_keeps t k).2) u
  have hwhole {t : State} (ht : OsFrame u t [F.OS_EVT_BADCFG]) : OsFrame s t [F.OS_OM_STAT_LOCK n, F.OS_EVT_LOCK, F.OS_EVT_BADCFG] :=
    (hframe.mono (by simp)).trans (ht.mono (by simp))
  have hreads {t : State} (ht : OsFrame u t [F.OS_EVT_BADCFG]) : t.get (F.OS_OM_STAT_LOCK n) = 1 := by
    have hreg := reg_omStatus n (F.OS_OM_STAT_LOCK n) (by simp [omStatus])
    refine (ht.getReg (by omega) fun g hg => ?_).trans hlock
    have hevt : F.OS_EVT_BADCFG.key / 64 = 0x070008 := by decide
    rw [List.mem_singleton.mp hg]
    omega
  have hsrcs {k : Nat} (hk : k < 8) : u.clkSrc k = s.clkSrc k := ((hwhole (OsFrame.refl u _)).lockSame n.isLt hk).1.2.1
  simp only [State.settle_get, State.settle_os, clk_settle, hsettling, hlockAt]
  refine ⟨hreads hall, (hall.get (by decide) (by decide)).trans hflag, hset, hat, Frame.settled (hwhole hall), fun k hk hsrc hen ha hle => ?_,
    fun k hk h => ?_⟩
  · obtain ⟨t, ht, hsame, hlast⟩ := hown k (mem_clksOf.mpr ⟨hk, (hsrcs hk).trans hsrc⟩)
    obtain ⟨⟨htEn, htSrc, htDiv⟩, htNum, htDen⟩ := (hwhole ht).lockSame n.isLt hk
    have hfit : t.omFits (t.clkSrc k) (t.clkDiv k) := by
      rw [htSrc, hsrc, htDiv]
      exact ⟨by rw [State.on, hreads ht]; rfl, by rwa [htNum, htDen]⟩
    rw [hlast, armClk_arms (htEn.trans hen) (by rw [hsame, hclk, ha]) hfit, hsame, hclk, ht.now, hframe.now]
    rfl
  · by_cases hsrc : s.clkSrc k = n
    · obtain ⟨t, ht, hsame, hlast⟩ := hown k (mem_clksOf.mpr ⟨hk, (hsrcs hk).trans hsrc⟩)
      obtain ⟨⟨htEn, htSrc, htDiv⟩, htNum, htDen⟩ := (hwhole ht).lockSame n.isLt hk
      rw [hlast, armClk_stays, hsame, hclk]
      rw [htEn, hsame, hclk, htSrc, hsrc, htDiv, State.omFits, htNum, htDen]
      exact (h.resolve_left fun hne => hne hsrc).imp_right (Or.imp_right fun hlt hfit => absurd hfit.2 (Nat.not_le.mpr hlt))
    · rw [hother k fun hm => hsrc ((hsrcs hk).symm.trans (mem_clksOf.mp hm).2), hclk]

end Sys2Proof.Machine
end

section
/-! PROOF. Writes of a clock output's registers (O42; R178, R179, R181, R182). -/
namespace Sys2Proof.Machine

variable {s t u : State} {fs : List Fld} {k n : Nat} {v : Word}

/-! ## CLK_CFG_WRITE (R182) -/

/-- t differs from s in what is remembered of CLK_OUTk, and in what a frequency above 800 MHz raises. -/
def ClkStep (k : Nat) (s t : State) : Prop := OsFrame s t [F.OS_EVT_BADCFG] ∧ ∀ j, j ≠ k → t.clk j = s.clk j

theorem ClkStep.refl (s : State) : ClkStep k s s := ⟨OsFrame.refl s _, fun _ _ => rfl⟩
theorem ClkStep.trans (h : ClkStep k s t) (g : ClkStep k t u) : ClkStep k s u := ⟨h.1.trans g.1, fun j hj => (g.2 j hj).trans (h.2 j hj)⟩
theorem ClkStep.setClk (s : State) (f : OsClk → OsClk) : ClkStep k s (s.setClk k f) := ⟨OsFrame.setClk s k f, fun _ hj => clk_setClk_other s f hj⟩
theorem ClkStep.restart (s : State) : ClkStep k s (s.restartClk k) := (ClkStep.setClk s _).trans (ClkStep.setClk _ _)
theorem ClkStep.arm (s : State) : ClkStep k s (s.armClk k) := ⟨armClk_frame s k, fun j hj => armClk_other s k j hj⟩

theorem ClkStep.when (b : Bool) {f : State → State} (h : ClkStep k s (f s)) : ClkStep k s (s.when b f) := by
  cases b
  · exact ClkStep.refl s
  · exact h

/-- CLK_OUTk with the fields of its configuration loaded. -/
def State.loadClk (s : State) (k : Nat) (v : Word) : State := s.putWord (fieldsAt (F.OS_CLK_CFG_EN k).off) v.toNat

/-- CLK_OUTk has been enabled now. -/
def OsClk.enabled (c : OsClk) (now : Nat) : OsClk := { c with enAt := now }

/-- A stop that is owed to EN alone is taken back (R182). -/
def OsClk.resumed (c : OsClk) : OsClk := { c with stopping := c.restart }

/-- CLK_OUTk, whose EN is now as loaded in t, with an enabling noted. -/
def State.noteEn (s t : State) (k : Nat) : State :=
  t.when (t.on (F.OS_CLK_CFG_EN k) && !s.on (F.OS_CLK_CFG_EN k)) (·.setClk k (·.enabled s.now))

/-- What SRC, DIV and EN, now en, of a new configuration do to the output. -/
def State.turnClk (s t : State) (k : Nat) (en : Bool) : State :=
  let w := t.when ((t.clkSrc k, t.clkDiv k) != (s.clkSrc k, s.clkDiv k)) (·.restartClk k)
  if !en then w.stopClk k
  else if (w.clkSrc k, w.clkDiv k) ≠ (s.clkSrc k, s.clkDiv k) then w.armClk k
  else if s.on (F.OS_CLK_CFG_EN k) then w
  else (w.setClk k OsClk.resumed).armClk k

theorem writeClkCfg_eq (s : State) (k : Nat) (v : Word) : s.writeClkCfg k v =
    (s.turnClk (s.noteEn (s.loadClk k v) k) k ((s.loadClk k v).on (F.OS_CLK_CFG_EN k))).muteClk k := rfl

/-- SRC and DIV of CLK_OUTk in t are those in s. -/
def State.clkKept (s t : State) (k : Nat) : Prop := t.clkSrc k = s.clkSrc k ∧ t.clkDiv k = s.clkDiv k

theorem turnClk_off (s t : State) (k : Nat) :
    s.turnClk t k false = (t.when ((t.clkSrc k, t.clkDiv k) != (s.clkSrc k, s.clkDiv k)) (·.restartClk k)).stopClk k := rfl

theorem turnClk_moved (h : ¬s.clkKept t k) : s.turnClk t k true = (t.restartClk k).armClk k := by
  have hne : (t.clkSrc k, t.clkDiv k) ≠ (s.clkSrc k, s.clkDiv k) := fun e => h (Prod.mk.inj e)
  unfold State.turnClk
  rw [bne_iff_ne.mpr hne, State.when_true]
  exact if_pos hne

theorem turnClk_kept (h : s.clkKept t k) : s.turnClk t k true = if s.on (F.OS_CLK_CFG_EN k) then t else (t.setClk k OsClk.resumed).armClk k := by
  have heq : (t.clkSrc k, t.clkDiv k) = (s.clkSrc k, s.clkDiv k) := Prod.ext h.1 h.2
  unfold State.turnClk
  rw [heq, bne_self_eq_false, State.when_false]
  exact if_neg (not_not_intro heq)

theorem clkStep_noteEn (s t : State) (k : Nat) : ClkStep k t (s.noteEn t k) := ClkStep.when _ (ClkStep.setClk t _)

theorem clkStep_turnClk (s t : State) (k : Nat) (en : Bool) : ClkStep k t (s.turnClk t k en) := by
  cases en
  · exact (ClkStep.when _ (ClkStep.restart t)).trans (ClkStep.setClk _ _)
  · by_cases h : s.clkKept t k
    · rw [turnClk_kept h]
      split
      · exact ClkStep.refl t
      · exact (ClkStep.setClk t _).trans (ClkStep.arm _)
    · rw [turnClk_moved h]
      exact (ClkStep.restart t).trans (ClkStep.arm _)

/-- EN = 0: an output that has not started waits no longer, and one that runs is to stop (R182). -/
theorem turnClk_off_clk (s t : State) (k : Nat) : ((s.turnClk t k false).clk k).armed = false ∧
    ((s.turnClk t k false).clk k).stopping = (t.clk k).active := by
  rw [turnClk_off, State.stopClk, clk_setClk_same]
  refine ⟨rfl, ?_⟩
  cases (t.clkSrc k, t.clkDiv k) != (s.clkSrc k, s.clkDiv k)
  · rfl
  · rw [State.when_true, restartClk_clk]
    rfl

section
variable (hen : t.on (F.OS_CLK_CFG_EN k) = true)

/-- A running output stops for a new SRC or DIV (R177, R182). -/
theorem turnClk_moved_active (h : ¬s.clkKept t k) (ha : (t.clk k).active = true) : (s.turnClk t k true).clk k = (t.clk k).restarted := by
  rw [turnClk_moved h, armClk_stays, restartClk_clk]
  exact .inr (.inl (by rw [restartClk_clk]; exact ha))

include hen

/-- One that does not run waits for its start point with them. -/
theorem turnClk_moved_waits (h : ¬s.clkKept t k) (ha : (t.clk k).active = false) (hfit : t.omFits (t.clkSrc k) (t.clkDiv k)) :
    (s.turnClk t k true).clk k = (t.clk k).restarted.waiting t.now := by
  rw [turnClk_moved h, armClk_arms (s := t.restartClk k) hen (by rw [restartClk_clk]; exact ha) hfit, restartClk_clk]
  rfl

/-- An output enabled again waits for its start point where it does not run. -/
theorem turnClk_enabled_waits (hwas : s.on (F.OS_CLK_CFG_EN k) = false) (h : s.clkKept t k) (ha : (t.clk k).active = false)
    (hfit : t.omFits (t.clkSrc k) (t.clkDiv k)) : (s.turnClk t k true).clk k = (t.clk k).resumed.waiting t.now := by
  rw [turnClk_kept h, hwas, if_neg Bool.false_ne_true, armClk_arms (s := t.setClk k OsClk.resumed) hen (by rw [clk_setClk_same]; exact ha) hfit,
    clk_setClk_same]
  rfl

end

theorem turnClk_enabled_active (hwas : s.on (F.OS_CLK_CFG_EN k) = false) (h : s.clkKept t k) (ha : (t.clk k).active = true) :
    (s.turnClk t k true).clk k = (t.clk k).resumed := by
  rw [turnClk_kept h, hwas, if_neg Bool.false_ne_true, armClk_stays, clk_setClk_same]
  exact .inr (.inl (by rw [clk_setClk_same]; exact ha))

theorem turnClk_stays (hwas : s.on (F.OS_CLK_CFG_EN k) = true) (h : s.clkKept t k) : s.turnClk t k true = t := by
  rw [turnClk_kept h, if_pos hwas]

/-- The pin follows the muting (R178). -/
theorem muteClk_shows (s : State) (k : Nat) : OsFrame s (s.muteClk k) [F.OS_CLK_STAT_RUN k] ∧ (s.muteClk k).os = s.os ∧
    (s.muteClk k).get (F.OS_CLK_STAT_RUN k) =
      if s.on (F.OS_CLK_CFG_PG_MUTE k) = true ∧ s.on (F.OS_CLK_STAT_PG k) = false then 0 else s.get (F.OS_CLK_STAT_RUN k) := by
  unfold State.muteClk
  cases s.on (F.OS_CLK_CFG_PG_MUTE k) <;> cases s.on (F.OS_CLK_STAT_PG k)
  case true.false => exact ⟨OsFrame.ofFrame (Frame.put s _ 0 (.inl (by simp))), rfl, State.get_put_same _ _ _⟩
  all_goals exact ⟨OsFrame.refl s _, rfl, by simp [State.when]⟩

theorem clkCfg_mem : ∀ k : Fin 8, ∀ f ∈ clkCfg k, f ∈ fieldsAt (F.OS_CLK_CFG_EN k).off := by decide +kernel

section
variable {path : Path} {k : Fin 8}

/-- A written configuration: what stands in the registers and for the other outputs, whatever the output itself does. -/
theorem writeClkCfg_writes (s : State) (k : Fin 8) (v : Word) :
    (∀ f ∈ fieldsAt (F.OS_CLK_CFG_EN k).off, (s.writeClkCfg k v).get f = f.ofWord v) ∧ (∀ j, j ≠ k.val → (s.writeClkCfg k v).clk j = s.clk j) ∧
      (s.writeClkCfg k v).get (F.OS_CLK_STAT_RUN k) = (if (F.OS_CLK_CFG_PG_MUTE k).ofWord v = 1 ∧ s.on (F.OS_CLK_STAT_PG k) = false then 0
        else s.get (F.OS_CLK_STAT_RUN k)) ∧
      OsFrame s (s.writeClkCfg k v) ([F.OS_CLK_STAT_RUN k, F.OS_EVT_BADCFG] ++ fieldsAt (F.OS_CLK_CFG_EN k).off) := by
  have hload : OsFrame s (s.loadClk k v) (fieldsAt (F.OS_CLK_CFG_EN k).off) := OsFrame.putWord _ _ _
  have hfields : ∀ f ∈ fieldsAt (F.OS_CLK_CFG_EN k).off, (s.loadClk k v).get f = f.ofWord v := fun f hf => putWord_get _ v hf
  have hos : (s.loadClk k v).os = s.os := putWord_os _ _ _
  obtain ⟨hstep, hother⟩ := (clkStep_noteEn s (s.loadClk k v) k).trans
    (clkStep_turnClk s (s.noteEn (s.loadClk k v) k) k ((s.loadClk k v).on (F.OS_CLK_CFG_EN k)))
  rw [writeClkCfg_eq]
  generalize s.loadClk k v = u at *
  generalize s.turnClk (s.noteEn u k) k _ = w at *
  obtain ⟨hmute, hmuteOs, hrun⟩ := muteClk_shows w k
  have hwhole : OsFrame u (w.muteClk k) [F.OS_CLK_STAT_RUN k, F.OS_EVT_BADCFG] := (hstep.mono (by simp)).trans (hmute.mono (by simp))
  have hevt : F.OS_EVT_BADCFG.key / 64 = 0x070008 := by decide
  have hrunReg := reg_clkStat k _ (List.mem_cons_self : F.OS_CLK_STAT_RUN k ∈ clkStat k)
  have hcfg : ∀ f ∈ fieldsAt (F.OS_CLK_CFG_EN k).off, w.get f = f.ofWord v ∧ (w.muteClk k).get f = f.ofWord v := fun f hf => by
    have hreg : f.key / 64 = 0x070400 + k * 0x20 := reg_of_mem_fieldsAt hf
    rw [← hfields f hf]
    refine ⟨hstep.getReg (by omega) ?_, hwhole.getReg (by omega) ?_⟩
    · rw [List.forall_mem_singleton]
      omega
    · rw [List.forall_mem_cons, List.forall_mem_singleton]
      omega
  have hstat : ∀ f ∈ clkStat k, w.get f = s.get f := fun f hf => by
    have hreg := reg_clkStat k f hf
    refine (hstep.getReg (by omega) ?_).trans (hload.getReg (by omega) fun g hg => ?_)
    · rw [List.forall_mem_singleton]
      omega
    · have hg : g.key / 64 = 0x070400 + k * 0x20 := reg_of_mem_fieldsAt hg
      omega
  have hmuted := on_ofWord (hcfg _ (clkCfg_mem k _ (by simp [clkCfg] : F.OS_CLK_CFG_PG_MUTE k ∈ clkCfg k))).1 rfl
  have hpg : w.on (F.OS_CLK_STAT_PG k) = s.on (F.OS_CLK_STAT_PG k) := by rw [State.on, State.on, hstat _ (by simp [clkStat])]
  refine ⟨fun f hf => (hcfg f hf).2, fun j hj => ?_, ?_, ?_⟩
  · rw [clk_ofOs hmuteOs, hother j hj, clk_ofOs hos]
  · rw [hrun, hstat _ (by simp [clkStat]), hpg, hmuted]
    simp only [decide_eq_true_eq]
  · refine (hload.mono (List.map_subset Fld.key (List.subset_append_right _ _))).trans (hwhole.mono ?_)
    exact List.map_subset Fld.key (List.subset_append_left _ _)

/-- The output's own part of a written configuration, in terms of the loaded fields. -/
theorem writeClkCfg_clk (hu : s.loadClk k v = u) : (s.writeClkCfg k v).clk k = ((s.turnClk (s.noteEn u k) k (u.on (F.OS_CLK_CFG_EN k))).clk k) := by
  obtain ⟨-, hos, -⟩ := muteClk_shows (s.turnClk (s.noteEn u k) k (u.on (F.OS_CLK_CFG_EN k))) k
  rw [writeClkCfg_eq, hu]
  exact clk_ofOs hos k

/-- Noting an enabling changes that note alone. -/
theorem noteEn_notes (s u : State) (k : Nat) : (s.noteEn u k).clkSrc k = u.clkSrc k ∧ (s.noteEn u k).clkDiv k = u.clkDiv k ∧
    (s.noteEn u k).on (F.OS_CLK_CFG_EN k) = u.on (F.OS_CLK_CFG_EN k) ∧ (∀ n d, (s.noteEn u k).omFits n d = u.omFits n d) ∧
    (s.noteEn u k).now = u.now ∧ (s.noteEn u k).clk k =
      if u.on (F.OS_CLK_CFG_EN k) && !s.on (F.OS_CLK_CFG_EN k) then (u.clk k).enabled s.now else u.clk k := by
  unfold State.noteEn
  cases u.on (F.OS_CLK_CFG_EN k) && !s.on (F.OS_CLK_CFG_EN k)
  · exact ⟨rfl, rfl, rfl, fun _ _ => rfl, rfl, rfl⟩
  · exact ⟨rfl, rfl, rfl, fun _ _ => rfl, rfl, clk_setClk_same u k _⟩

/-- A loaded configuration of CLK_OUTk changes nothing of the MDLLs. -/
theorem loadClk_omFits (hn : n < 4) (d : Nat) : (s.loadClk k v).omFits n d ↔ s.omFits n d := by
  have hload : OsFrame s (s.loadClk k v) (fieldsAt (F.OS_CLK_CFG_EN k).off) := OsFrame.putWord _ _ _
  refine hload.omFits hn (fun g hg => ?_) d
  have hg : g.key / 64 = 0x070400 + k * 0x20 := reg_of_mem_fieldsAt hg
  omega

theorem does_clkCfgWrite (hp : s.power = .run) (hj : s.judge path (F.OS_CLK_CFG_EN k).off true = .served) :
    Does (.clkCfgWrite path k v) s fun t =>
      let en := (F.OS_CLK_CFG_EN k).ofWord v
      let same := t.clkSrc k = s.clkSrc k ∧ t.clkDiv k = s.clkDiv k
      (∀ f ∈ fieldsAt (F.OS_CLK_CFG_EN k).off, t.get f = f.ofWord v) ∧ (∀ j < 8, j ≠ k.val → t.clk j = s.clk j) ∧
      (en = 0 → (t.clk k).armed = false ∧ (t.clk k).stopping = (s.clk k).active) ∧
      (en = 1 → s.on (F.OS_CLK_CFG_EN k) = true → same → t.clk k = s.clk k) ∧
      (en = 1 → s.on (F.OS_CLK_CFG_EN k) = false → same → (s.clk k).active = true →
        t.clk k = { s.clk k with enAt := s.now, stopping := (s.clk k).restart }) ∧
      (en = 1 → ¬same → (s.clk k).active = true → (t.clk k).stopping = true ∧ (t.clk k).restart = true) ∧
      (en = 1 → s.on (F.OS_CLK_CFG_EN k) = false ∨ ¬same → (s.clk k).active = false → s.on (F.OS_OM_STAT_LOCK (t.clkSrc k)) = true →
        156250 * s.omNum (t.clkSrc k) ≤ 800000 * s.omDen (t.clkSrc k) * t.clkDiv k → (t.clk k).armed = true ∧ (t.clk k).armAt = s.now) ∧
      t.get (F.OS_CLK_STAT_RUN k) = (if (F.OS_CLK_CFG_PG_MUTE k).ofWord v = 1 ∧ s.on (F.OS_CLK_STAT_PG k) = false then 0
        else s.get (F.OS_CLK_STAT_RUN k)) ∧
      Frame { s with os := t.os } t ([F.OS_CLK_STAT_RUN k, F.OS_EVT_BADCFG] ++ fieldsAt (F.OS_CLK_CFG_EN k).off) := by
  refine does_write (f := (·.writeClkCfg k v)) rfl hp hj ?_
  obtain ⟨hfields, hother, hrun, hframe⟩ := writeClkCfg_writes s k v
  have hloaded : ∀ f ∈ clkCfg k, (s.writeClkCfg k v).settle.get f = (s.loadClk k v).get f := fun f hf => by
    rw [State.settle_get, hfields f (clkCfg_mem k f hf)]
    exact (putWord_get _ v (clkCfg_mem k f hf)).symm
  obtain ⟨-, hsrc, hdiv⟩ := clkCfg_same hloaded
  have hlt : (s.loadClk k v).clkSrc k < 4 := by
    rw [State.clkSrc, State.loadClk, putWord_get _ v (clkCfg_mem k _ (by simp [clkCfg]))]
    exact Nat.mod_lt _ (by decide : 0 < 2 ^ 2)
  have hfits := loadClk_omFits (s := s) (k := k) (v := v) hlt ((s.loadClk k v).clkDiv k)
  have hen := on_ofWord (putWord_get (s := s) _ v (clkCfg_mem k (F.OS_CLK_CFG_EN k) (by simp [clkCfg]))) rfl
  have hclk : ∀ j, (s.loadClk k v).clk j = s.clk j := clk_ofOs (putWord_os _ _ _)
  have hnow : (s.loadClk k v).now = s.now := forAll_inv State.now _ (fun t f => t.put f (v.toNat / 2 ^ f.lo)) (fun _ _ => rfl) s
  rw [hsrc, hdiv]
  simp only [State.settle_get, State.settle_os, clk_settle, writeClkCfg_clk rfl]
  rw [← State.loadClk] at hen
  generalize s.loadClk k v = u at *
  obtain ⟨hnSrc, hnDiv, hnEn, hnFits, hnNow, hnClk⟩ := noteEn_notes s u k
  rw [hclk] at hnClk
  generalize s.noteEn u k = w at *
  have hactive : (w.clk k).active = (s.clk k).active := by
    rw [hnClk]
    split <;> rfl
  have hkept : s.clkKept w k ↔ u.clkSrc k = s.clkSrc k ∧ u.clkDiv k = s.clkDiv k := by rw [State.clkKept, hnSrc, hnDiv]
  refine ⟨hfields, fun j _ => hother j, fun h => ?_, fun h hwas hsame => ?_, fun h hwas hsame ha => ?_, fun h hmoved ha => ?_,
    fun h hwas ha hlock hle => ?_, hrun, Frame.settled hframe⟩
  · rw [hen, h]
    obtain ⟨harmed, hstop⟩ := turnClk_off_clk s w k
    exact ⟨harmed, hstop.trans hactive⟩
  all_goals
    have hon : u.on (F.OS_CLK_CFG_EN k) = true := hen.trans (decide_eq_true h)
    rw [hon]
  · rw [turnClk_stays hwas (hkept.mpr hsame), hnClk, hon, hwas]
    rfl
  · rw [turnClk_enabled_active hwas (hkept.mpr hsame) (hactive.trans ha), hnClk, hon, hwas]
    rfl
  · rw [turnClk_moved_active (mt hkept.mp hmoved) (hactive.trans ha)]
    exact ⟨hactive.trans ha, hactive.trans ha⟩
  · have hfit : w.omFits (w.clkSrc k) (w.clkDiv k) := by
      rw [hnFits, hnSrc, hnDiv, hfits]
      exact ⟨hlock, hle⟩
    have hnow : w.now = s.now := hnNow.trans hnow
    by_cases hsame : s.clkKept w k
    · have hwas := hwas.resolve_right (not_not_intro (hkept.mp hsame))
      rw [turnClk_enabled_waits (hnEn.trans hon) hwas hsame (hactive.trans ha) hfit]
      exact ⟨rfl, hnow⟩
    · rw [turnClk_moved_waits (hnEn.trans hon) hsame (hactive.trans ha) hfit]
      exact ⟨rfl, hnow⟩

end

end Sys2Proof.Machine
end

section
/-! PROOF. A clock output's delay, its start and its stop; O42 from its clauses (R179 to R182). -/
namespace Sys2Proof.Machine

section
variable {s t u : State} {path : Path} {k : Fin 8} {v : Word}

/-! ## CLK_DLY_WRITE (R181) -/

theorem fine_ne_coarse (k : Nat) : (F.OS_CLK_DLY_FINE k).key ≠ (F.OS_CLK_DLY_COARSE k).key := by
  simp [Fld.key, F.OS_CLK_DLY_FINE, F.OS_CLK_DLY_COARSE]

theorem reg_fine (k : Nat) : (F.OS_CLK_DLY_FINE k).key / 64 = 0x070408 + k * 0x20 := by
  simp only [Fld.key, F.OS_CLK_DLY_FINE]
  omega

/-- FINE ramps from where it stands to the value written (R181). -/
def State.rampFine (s : State) (k fine : Nat) : State :=
  let now := s.fineNow k
  (s.put (F.OS_CLK_DLY_FINE k) fine).setClk k fun c => { c with fineFrom := now, fineTo := fineOf fine, rampAt := s.now }

theorem does_clkDlyWrite_disabled (hp : s.power = .run) (hj : s.judge path (F.OS_CLK_DLY_FINE k).off true = .served)
    (hen : s.on (F.OS_CLK_CFG_EN k) = false) : Does (.clkDlyWrite path k v) s fun t => Frame s t [F.OS_CLK_DLY_FINE k, F.OS_CLK_DLY_COARSE k] ∧
      t.get (F.OS_CLK_DLY_FINE k) = (F.OS_CLK_DLY_FINE k).ofWord v ∧ t.get (F.OS_CLK_DLY_COARSE k) = (F.OS_CLK_DLY_COARSE k).ofWord v := by
  refine does_write (f := (·.writeClkDly k v)) rfl hp hj ?_
  have heq : s.writeClkDly k v = (s.put (F.OS_CLK_DLY_FINE k) ((F.OS_CLK_DLY_FINE k).ofWord v)).put (F.OS_CLK_DLY_COARSE k)
      ((F.OS_CLK_DLY_COARSE k).ofWord v) := by
    unfold State.writeClkDly
    rw [hen]
    rfl
  rw [heq, State.settle_get, State.settle_get, State.get_put_other _ _ _ _ (fine_ne_coarse k), State.get_put_same, State.get_put_same, ofWord_mod,
    ofWord_mod]
  exact ⟨((Frame.put s _ _ (.inl (by simp))).trans (Frame.put _ _ _ (.inl (by simp)))).settled, rfl, rfl⟩

theorem does_clkDlyWrite_enabled (hp : s.power = .run) (hj : s.judge path (F.OS_CLK_DLY_FINE k).off true = .served)
    (hen : s.on (F.OS_CLK_CFG_EN k) = true) : Does (.clkDlyWrite path k v) s fun t => t.get (F.OS_CLK_DLY_FINE k) = (F.OS_CLK_DLY_FINE k).ofWord v ∧
      t.clk k = { s.clk k with fineFrom := s.fineNow k, fineTo := min 1999 ((F.OS_CLK_DLY_FINE k).ofWord v), rampAt := s.now } ∧
      ((F.OS_CLK_DLY_COARSE k).ofWord v ≠ s.get (F.OS_CLK_DLY_COARSE k) → t.get F.OS_EVT_DLY_REJ = 1 ∧ Logs s t 0x0506 0x07 0 0) ∧
      ((F.OS_CLK_DLY_COARSE k).ofWord v = s.get (F.OS_CLK_DLY_COARSE k) → LogsNone s t) ∧
      Frame { s with os := t.os } t [F.OS_CLK_DLY_FINE k, F.OS_EVT_DLY_REJ] := by
  refine does_write (f := (·.writeClkDly k v)) rfl hp hj ?_
  have heq : s.writeClkDly k v = (s.rampFine k ((F.OS_CLK_DLY_FINE k).ofWord v)).when
      ((F.OS_CLK_DLY_COARSE k).ofWord v != s.get (F.OS_CLK_DLY_COARSE k)) (·.event F.OS_EVT_DLY_REJ 0x0506 0 0) := by
    unfold State.writeClkDly
    rw [hen]
    rfl
  have hframe : OsFrame s (s.rampFine k ((F.OS_CLK_DLY_FINE k).ofWord v)) [F.OS_CLK_DLY_FINE k, F.OS_EVT_DLY_REJ] :=
    (OsFrame.ofFrame (Frame.put s (F.OS_CLK_DLY_FINE k) _ (.inl (by simp)))).trans (OsFrame.setClk _ _ _)
  have hfine : (s.rampFine k ((F.OS_CLK_DLY_FINE k).ofWord v)).get (F.OS_CLK_DLY_FINE k) = (F.OS_CLK_DLY_FINE k).ofWord v :=
    (State.get_put_same s _ _).trans (ofWord_mod _ v)
  have hclk := clk_setClk_same (s.put (F.OS_CLK_DLY_FINE k) ((F.OS_CLK_DLY_FINE k).ofWord v)) k fun c =>
    { c with fineFrom := s.fineNow k, fineTo := fineOf ((F.OS_CLK_DLY_FINE k).ofWord v), rampAt := s.now }
  rw [← State.rampFine] at hclk
  have hjl : (s.rampFine k ((F.OS_CLK_DLY_FINE k).ofWord v)).jl = s.jl := rfl
  rw [heq, State.settle_get, State.settle_os, clk_settle]
  generalize s.rampFine k ((F.OS_CLK_DLY_FINE k).ofWord v) = u at *
  have hreg := reg_fine k
  by_cases hc : (F.OS_CLK_DLY_COARSE k).ofWord v = s.get (F.OS_CLK_DLY_COARSE k)
  · rw [hc, bne_self_eq_false, State.when_false]
    exact ⟨hfine, hclk, fun hne => absurd rfl hne, fun _ => (congrArg JlPart.queue (State.settle_jl u)).trans (congrArg JlPart.queue hjl),
      Frame.settled hframe⟩
  · rw [bne_iff_ne.mpr hc, State.when_true, osEvent_get u (by decide) (by omega) (by omega), clk_event, State.settle_get]
    exact ⟨hfine, hclk, fun _ => ⟨State.event_flag _ _ _ _ _ (by decide) (by decide),
      (logs_event hframe.quiet hjl F.OS_EVT_DLY_REJ _ _ _).ofJl (State.settle_jl _)⟩, fun h => absurd h hc,
      Frame.settled (hframe.trans (OsFrame.ofFrame (Frame.event u _ _ _ _ (by simp))))⟩

/-! ## CLK_OUT_START (R180, R181) -/

/-- CLK_OUTk is to start now. -/
def State.startsNow (s : State) (k : Nat) : Bool :=
  (s.clk k).armed && s.on (F.OS_CLK_CFG_EN k) && s.on (F.OS_OM_STAT_LOCK (s.clkSrc k)) && s.startDue k

/-- A started output as it is remembered: its start point is point, where it has one (R180, R181). -/
def State.startedClk (s : State) (k : Nat) (point : Option Nat) (c : OsClk) : OsClk :=
  { active := true, enAt := c.enAt, armAt := c.armAt, edge := point, coarse := s.get (F.OS_CLK_DLY_COARSE k),
    fineFrom := fineOf (s.get (F.OS_CLK_DLY_FINE k)), fineTo := fineOf (s.get (F.OS_CLK_DLY_FINE k)), rampAt := s.now, lastMs := s.now / tuMs }

/-- RUN and PG of a started output, and its trim. -/
def startRegs (k trim : Nat) : List (Fld × Nat) := [(F.OS_CLK_STAT_TRIM k, trim), (F.OS_CLK_STAT_RUN k, 1), (F.OS_CLK_STAT_PG k, 0)]

/-- CLK_OUTk starts with a trim. -/
def State.startClk (s : State) (k trim : Nat) (point : Option Nat) : State :=
  ((State.setClk { s with free := s.free + 1 } k (s.startedClk k point)).putAll (startRegs k trim)).muteClk k

theorem nodup_startRegs (k trim : Nat) : (((startRegs k trim).map Prod.fst).map Fld.key).Nodup := by
  simp [startRegs, Fld.key, F.OS_CLK_STAT_RUN, F.OS_CLK_STAT_PG, F.OS_CLK_STAT_TRIM]

theorem exec_clkOutStart (k : Fin 8) (s : State) : exec (.clkOutStart k) s = running s fun s => s.when (s.startsNow k) fun s =>
    if (s.clk k).active then (s.setClk k fun c => { c with armed := false }).put (F.OS_CLK_STAT_RUN k) 1
    else s.startClk k (if s.on (F.OS_CLK_CFG_ALIGN k) then (Config.freeValue s.free).toNat % (s.halfPeriod (s.clkSrc k) + 1) else 0)
      (if s.on (F.OS_CLK_CFG_ALIGN k) then some (s.startPoint k) else none) := rfl

theorem startClk_starts (s : State) (k : Fin 8) (trim : Nat) (point : Option Nat) :
    (s.startClk k trim point).clk k = s.startedClk k point (s.clk k) ∧
      (s.startClk k trim point).get (F.OS_CLK_STAT_PG k) = 0 ∧ (s.startClk k trim point).get (F.OS_CLK_STAT_TRIM k) = trim % 2 ^ 16 ∧
      (s.startClk k trim point).get (F.OS_CLK_STAT_RUN k) = (if s.on (F.OS_CLK_CFG_PG_MUTE k) then 0 else 1) ∧
      (∀ f ∈ clkCfg k, (s.startClk k trim point).get f = s.get f) ∧
      Frame { s with os := (s.startClk k trim point).os, free := (s.startClk k trim point).free } (s.startClk k trim point) (clkStat k) := by
  have hset (k trim : Nat) : ∀ e ∈ startRegs k trim, e.1.key ∈ (clkStat k).map Fld.key := by simp [startRegs, clkStat]
  have hframe : OsFrame { s with free := s.free + 1 } ((State.setClk { s with free := s.free + 1 } k (s.startedClk k point)).putAll (startRegs k trim))
      (clkStat k) := (OsFrame.setClk _ _ _).trans (OsFrame.ofFrame (Frame.putAll _ _ (hset k trim)))
  have hregs := get_putAll (State.setClk { s with free := s.free + 1 } k (s.startedClk k point)) (nodup_startRegs k trim)
  have hclk : ((State.setClk { s with free := s.free + 1 } k (s.startedClk k point)).putAll (startRegs k trim)).clk k = s.startedClk k point (s.clk k) :=
    clk_setClk_same _ _ _
  unfold State.startClk
  generalize (State.setClk { s with free := s.free + 1 } k (s.startedClk k point)).putAll (startRegs k trim) = w at *
  obtain ⟨hmute, hos, hrun⟩ := muteClk_shows w k
  simp only [startRegs, List.forall_mem_cons, List.not_mem_nil, false_implies, implies_true, and_true] at hregs
  obtain ⟨htrim, hrunning, hpg⟩ := hregs
  have hcfg {u : State} (hu : OsFrame { s with free := s.free + 1 } u (clkStat k)) : ∀ f ∈ clkCfg k, u.get f = s.get f :=
    hu.clkCfg k.isLt fun g hg => by
      have := reg_clkStat k g hg
      omega
  have hmuted : w.on (F.OS_CLK_CFG_PG_MUTE k) = s.on (F.OS_CLK_CFG_PG_MUTE k) := by rw [State.on, State.on, hcfg hframe _ (by simp [clkCfg])]
  have hoff : w.on (F.OS_CLK_STAT_PG k) = false := by rw [State.on, hpg, Nat.zero_mod]; rfl
  have hwhole := hframe.trans (hmute.mono (gs := clkStat k) (by simp [clkStat]))
  have hapart : ∀ f ∈ [F.OS_CLK_STAT_PG k, F.OS_CLK_STAT_TRIM k], f.key ∉ [F.OS_CLK_STAT_RUN k].map Fld.key := by
    simp [Fld.key, F.OS_CLK_STAT_RUN, F.OS_CLK_STAT_PG, F.OS_CLK_STAT_TRIM]
  have hstat : ∀ f ∈ [F.OS_CLK_STAT_PG k, F.OS_CLK_STAT_TRIM k], (w.muteClk k).get f = w.get f := fun f hf => by
    have hreg := reg_clkStat k f (List.mem_cons_of_mem _ hf)
    exact hmute.get (by omega) (hapart f hf)
  have hfree : (w.muteClk k).free = s.free + 1 := congrArg State.free hwhole.2
  refine ⟨(clk_ofOs hos k).trans hclk, ?_, ?_, ?_, hcfg hwhole, ?_⟩
  · rw [hstat _ (by simp), hpg, Nat.zero_mod]
  · rw [hstat _ (by simp), htrim]
    rfl
  · rw [hrun, hmuted, hoff, hrunning]
    simp only [and_true]
    rfl
  · rw [hfree]
    exact hwhole

theorem does_clkOutStart_idle (hp : s.power = .run) (h : s.startsNow k = false) : Does (.clkOutStart k) s fun t => Frame s t [] :=
  does_idle (exec_clkOutStart k s) (by rw [h, State.when_false]) hp

theorem does_clkOutStart_active (hp : s.power = .run) (h : s.startsNow k = true) (ha : (s.clk k).active = true) :
    Does (.clkOutStart k) s fun t => t.get (F.OS_CLK_STAT_RUN k) = 1 ∧ t.clk k = { s.clk k with armed := false } ∧
      Frame { s with os := t.os } t [F.OS_CLK_STAT_RUN k] := by
  refine does_running (exec_clkOutStart k s) hp ?_
  rw [h, State.when_true, if_pos ha]
  simp only [State.settle_get, State.settle_os, clk_settle, clk_put]
  refine ⟨State.get_put_same _ _ _, clk_setClk_same s k _, Frame.settled
    (OsFrame.trans (t := s.setClk k fun c => { c with armed := false }) (OsFrame.setClk s k _) ?_)⟩
  exact OsFrame.ofFrame (Frame.put _ _ _ (.inl (by simp)))

theorem does_clkOutStart_starts (hp : s.power = .run) (h : s.startsNow k = true) (ha : (s.clk k).active = false) :
    Does (.clkOutStart k) s fun t =>
      (t.clk k).active = true ∧ (t.clk k).armed = false ∧ (t.clk k).stopping = false ∧ (t.clk k).coarse = s.get (F.OS_CLK_DLY_COARSE k) ∧
      (t.clk k).fineTo = min 1999 (s.get (F.OS_CLK_DLY_FINE k)) ∧ t.get (F.OS_CLK_STAT_PG k) = 0 ∧
      (s.on (F.OS_CLK_CFG_PG_MUTE k) = true → t.get (F.OS_CLK_STAT_RUN k) = 0) ∧
      (s.on (F.OS_CLK_CFG_PG_MUTE k) = false → t.get (F.OS_CLK_STAT_RUN k) = 1 ∧
        t.clkPin k = .clock (if s.get (F.OS_CLK_CFG_STD k) = 3 then 0 else s.get (F.OS_CLK_CFG_STD k))) ∧
      (s.on (F.OS_CLK_CFG_ALIGN k) = false → t.get (F.OS_CLK_STAT_TRIM k) = 0 ∧ (t.clk k).edge = none) ∧
      (s.on (F.OS_CLK_CFG_ALIGN k) = true → t.get (F.OS_CLK_STAT_TRIM k) ≤ s.halfPeriod (s.clkSrc k) ∧ (t.clk k).edge = some (s.startPoint k)) ∧
      Frame { s with os := t.os, free := t.free } t [F.OS_CLK_STAT_RUN k, F.OS_CLK_STAT_PG k, F.OS_CLK_STAT_TRIM k] := by
  refine does_running (exec_clkOutStart k s) hp ?_
  rw [h, State.when_true, if_neg (Bool.not_eq_true _ ▸ ha)]
  obtain ⟨hclk, hpg, htrim, hrun, hcfg, hframe⟩ := startClk_starts s k
    (if s.on (F.OS_CLK_CFG_ALIGN k) then (Config.freeValue s.free).toNat % (s.halfPeriod (s.clkSrc k) + 1) else 0)
    (if s.on (F.OS_CLK_CFG_ALIGN k) then some (s.startPoint k) else none)
  generalize s.startClk k _ _ = u at *
  have hfree : u.settle.free = u.free := by simp
  simp only [State.settle_get, State.settle_os, clk_settle, hfree, hclk, hpg, htrim, hrun]
  refine ⟨rfl, rfl, rfl, rfl, rfl, trivial, fun hm => if_pos hm, fun hm => ⟨if_neg (Bool.not_eq_true _ ▸ hm), ?_⟩, fun hal => ?_, fun hal => ?_,
    Frame.settled hframe⟩
  · have hruns : u.settle.on (F.OS_CLK_STAT_RUN k) = true := by
      rw [State.on, State.settle_get, hrun, if_neg (Bool.not_eq_true _ ▸ hm)]
      rfl
    unfold State.clkPin
    rw [if_pos hruns, State.settle_get, hcfg _ (by simp [clkCfg])]
  · rw [hal]
    exact ⟨rfl, rfl⟩
  · rw [hal]
    exact ⟨(Nat.mod_le _ _).trans (Nat.lt_succ_iff.mp (Nat.mod_lt _ (Nat.succ_pos _))), rfl⟩

/-! ## CLK_OUT_STOP (R182) -/

/-- A stopped output as its registers show it. -/
def stopRegs (k : Nat) : List (Fld × Nat) := [(F.OS_CLK_STAT_RUN k, 0), (F.OS_CLK_STAT_PG k, 0), (F.OS_CLK_STAT_TRIM k, 0)]

/-- All that is remembered of a stopped output: when it was enabled. -/
def OsClk.stopped (c : OsClk) : OsClk := { enAt := c.enAt }

/-- CLK_OUTk has stopped, before it waits anew. -/
def State.endClk (s : State) (k : Nat) : State := (s.putAll (stopRegs k)).setClk k OsClk.stopped

theorem exec_clkOutStop (k : Fin 8) (s : State) :
    exec (.clkOutStop k) s = running s fun s => s.when (s.clk k).stopping fun s => (s.endClk k).armClk k := rfl

theorem endClk_shows (s : State) (k : Fin 8) : OsFrame s (s.endClk k) (clkStat k) ∧ (∀ f ∈ clkStat k, (s.endClk k).get f = 0) ∧
    (s.endClk k).clk k = (s.clk k).stopped ∧ (∀ f ∈ clkCfg k, (s.endClk k).get f = s.get f) := by
  have hput : OsFrame s (s.putAll (stopRegs k)) (clkStat k) := OsFrame.ofFrame (Frame.putAll_fst s (stopRegs k))
  have hframe : OsFrame s (s.endClk k) (clkStat k) := hput.trans (OsFrame.setClk _ _ _)
  have hnodup : (((stopRegs k).map Prod.fst).map Fld.key).Nodup := by
    simp [stopRegs, Fld.key, F.OS_CLK_STAT_RUN, F.OS_CLK_STAT_PG, F.OS_CLK_STAT_TRIM]
  have hregs := get_putAll s hnodup
  simp only [stopRegs, List.forall_mem_cons, List.not_mem_nil, false_implies, implies_true, and_true, Nat.zero_mod] at hregs
  refine ⟨hframe, ?_, clk_setClk_same _ _ _, hframe.clkCfg k.isLt fun g hg => ?_⟩
  · simp only [clkStat, List.forall_mem_cons, List.not_mem_nil, false_implies, implies_true, and_true]
    exact hregs
  · have := reg_clkStat k g hg
    omega

theorem does_clkOutStop_idle (hp : s.power = .run) (h : (s.clk k).stopping = false) : Does (.clkOutStop k) s fun t => Frame s t [] :=
  does_idle (exec_clkOutStop k s) (by rw [h, State.when_false]) hp

/-- The frequency that decides of CLK_OUTk is that of an MDLL, and its own stop writes none of what that reads. -/
theorem endClk_omFits (s : State) (k : Fin 8) {n : Nat} (hn : n < 4) (d : Nat) : (s.endClk k).omFits n d ↔ s.omFits n d := by
  obtain ⟨hframe, -⟩ := endClk_shows s k
  refine hframe.omFits hn (fun g hg => ?_) d
  have := reg_clkStat k g hg
  omega

/-- Arming an output that does not run leaves all that is remembered of it, but that it may wait. -/
theorem armClk_waits (ha : (s.clk k).active = false) (hw : (s.clk k).armed = false) :
    ((s.armClk k).clk k).active = false ∧ ((s.armClk k).clk k).stopping = (s.clk k).stopping ∧
      (((s.armClk k).clk k).armed = true ↔ s.on (F.OS_CLK_CFG_EN k) = true ∧ s.omFits (s.clkSrc k) (s.clkDiv k)) := by
  by_cases h : s.on (F.OS_CLK_CFG_EN k) = true ∧ s.omFits (s.clkSrc k) (s.clkDiv k)
  · rw [armClk_arms h.1 ha h.2]
    exact ⟨ha, rfl, iff_of_true rfl h⟩
  · rw [armClk_stays ((not_and_or.mp h).imp (Bool.not_eq_true _).mp .inr)]
    exact ⟨ha, rfl, iff_of_false (Bool.not_eq_true _ ▸ hw) h⟩

theorem does_clkOutStop (hp : s.power = .run) (h : (s.clk k).stopping = true) :
    Does (.clkOutStop k) s fun t => t.get (F.OS_CLK_STAT_RUN k) = 0 ∧ t.get (F.OS_CLK_STAT_PG k) = 0 ∧
      t.get (F.OS_CLK_STAT_TRIM k) = 0 ∧ (t.clk k).active = false ∧ (t.clk k).stopping = false ∧
      t.clkPin k = (if s.on (F.OS_CLK_CFG_OFF_STATE k) then .highZ else .low) ∧
      (s.clkSrc k < 4 → (t.clk k).armed = (s.on (F.OS_CLK_CFG_EN k) && s.on (F.OS_OM_STAT_LOCK (s.clkSrc k)) &&
        decide (156250 * s.omNum (s.clkSrc k) ≤ 800000 * s.omDen (s.clkSrc k) * s.clkDiv k))) ∧
      Frame { s with os := t.os } t [F.OS_CLK_STAT_RUN k, F.OS_CLK_STAT_PG k, F.OS_CLK_STAT_TRIM k, F.OS_EVT_BADCFG] := by
  refine does_running (exec_clkOutStop k s) hp ?_
  rw [h, State.when_true]
  obtain ⟨hend, hzero, hclk, hcfg⟩ := endClk_shows s k
  have hfits := fun hn => endClk_omFits s k (n := s.clkSrc k) hn (s.clkDiv k)
  generalize s.endClk k = u at *
  have harm := armClk_frame u k
  obtain ⟨hactive, hstopping, harmed⟩ := armClk_waits (s := u) (k := k) (by rw [hclk]; rfl) (by rw [hclk]; rfl)
  have hevt : F.OS_EVT_BADCFG.key / 64 = 0x070008 := by decide
  have hread : ∀ f : Fld, (f.key / 64 = 0x070400 + k * 0x20 ∨ f.key / 64 = 0x070410 + k * 0x20) → (u.armClk k).get f = u.get f := fun f hf => by
    refine harm.getReg (by omega) ?_
    rw [List.forall_mem_singleton]
    omega
  have hstat : ∀ f ∈ clkStat k, (u.armClk k).get f = 0 := fun f hf => (hread f (.inr (reg_clkStat k f hf))).trans (hzero f hf)
  obtain ⟨hen, hsrc, hdiv⟩ := clkCfg_same hcfg
  simp only [State.settle_get, State.settle_os, clk_settle]
  refine ⟨hstat _ (by simp [clkStat]), hstat _ (by simp [clkStat]), hstat _ (by simp [clkStat]), hactive, ?_, ?_, fun hn => ?_, ?_⟩
  · rw [hstopping, hclk]
    rfl
  · have hoff : (u.armClk k).settle.on (F.OS_CLK_CFG_OFF_STATE k) = s.on (F.OS_CLK_CFG_OFF_STATE k) := by
      have hmem : F.OS_CLK_CFG_OFF_STATE k ∈ clkCfg k := by simp [clkCfg]
      rw [State.on, State.settle_get, hread _ (.inl (reg_clkCfg k _ hmem)), hcfg _ hmem]
      rfl
    have hruns : (u.armClk k).settle.on (F.OS_CLK_STAT_RUN k) = false := by
      rw [State.on, State.settle_get, hstat _ (by simp [clkStat])]
      rfl
    unfold State.clkPin
    rw [hruns, hoff]
    rfl
  · rw [Bool.eq_iff_iff, harmed, hen, hsrc, hdiv, hfits hn, State.omFits]
    simp only [Bool.and_eq_true, decide_eq_true_eq, and_assoc]
  · exact Frame.settled ((hend.mono (by simp [clkStat])).trans (harm.mono (by simp)))

end

/-- Settles O42, clause by clause as the commands stand in it. -/
theorem outputClocksLockStartAndStop : Obligations.OutputClocksLockStartAndStop := by
  unfold Obligations.OutputClocksLockStartAndStop
  exact ⟨fun s hp => does_smLockDeclared hp, fun s path n v hp hj => does_omCfgWrite hp hj,
    fun s n hp => ⟨does_omLockDeclared_idle hp, does_omLockDeclared hp⟩,
    fun s path k v hp => ⟨does_clkCfgWrite hp, fun hj => ⟨does_clkDlyWrite_disabled hp hj, does_clkDlyWrite_enabled hp hj⟩⟩,
    fun s k hp => ⟨does_clkOutStart_idle hp, does_clkOutStart_active hp, does_clkOutStart_starts hp, does_clkOutStop hp, does_clkOutStop_idle hp⟩⟩

end Sys2Proof.Machine
end

section
/-! PROOF. Pulse outputs (O43; R183, R184, R185). -/
namespace Sys2Proof.Machine

variable {s t u : State} {fs : List Fld} {path : Path} {k : Fin 4} {v : Word}

/-! ## The grid -/

/-- A larger number is not rounded to a smaller quotient. -/
theorem roundDiv_mono {a b : Int} {r : Nat} (hr : 0 < r) (h : a ≤ b) : roundDiv a r ≤ roundDiv b r := by
  have hdiv {x y : Int} (hxy : x ≤ y) : (2 * x + r) / (2 * r) ≤ (2 * y + r) / (2 * r) := Int.ediv_le_ediv (by omega) (by omega)
  have hpos {x : Int} (hx : 0 ≤ x) : 0 ≤ (2 * x + r) / (2 * r) := Int.ediv_nonneg (by omega) (by omega)
  unfold roundDiv
  split <;> split
  · exact hdiv h
  · omega
  · have := hpos (x := -a) (by omega)
    have := hpos (x := b) (by omega)
    omega
  · exact Int.neg_le_neg (hdiv (by omega))

/-- A later grid point has no earlier edge. -/
theorem gridEdge_mono (s : State) (k : Nat) {m n : Int} (h : m ≤ n) : s.gridEdge k m ≤ s.gridEdge k n :=
  roundDiv_mono (Nat.lt_of_lt_of_le Nat.one_pos (Nat.le_max_left 1 _)) (Int.add_le_add_right (Int.mul_le_mul_of_nonneg_right h (by decide)) _)

/-- Once emitted, a grid point has passed (R185). -/
theorem OsPps.any_emitted {c : OsPps} {p : Int} {e : Nat} (hruns : ∀ r ∈ c.done, r.1 ≤ r.2) (hp : p ≤ e) :
    (c.emitted p e).any (fun r => decide (r.1 ≤ e) && decide (e ≤ r.2)) = true := by
  unfold OsPps.emitted
  split
  next a b l hdone =>
    have hab : a ≤ b := hruns (a, b) (by rw [hdone]; exact List.mem_cons_self)
    split
    · have hae : a ≤ e := by omega
      simp [hae]
    · simp
  next => simp

/-! ## PPS_PULSE (R183, R185) -/

/-- Leading edge of the grid point nearest to the present. -/
def State.pulseEdge (s : State) (k : Nat) : Nat := (s.gridEdge k (s.nearGrid k)).toNat

/-- What is remembered of an emitted pulse. -/
def OsPps.pulsed (c : OsPps) (p : Int) (e width : Nat) : OsPps := { c with last := some e, until_ := e + width, done := c.emitted p e }

/-- PPS_OUTk emits the pulse with leading edge e. -/
def State.emitPulse (s : State) (k e : Nat) : State :=
  ((s.put (F.OS_PPS_STAT_RUN k) 1).emit (.pulse k e (s.pulseWidth k) (s.on (F.OS_PPS_CFG_POL k)))).setPps k
    (·.pulsed (s.gridEdge k (s.nearGrid k - 1)) e (s.pulseWidth k))

theorem exec_ppsPulse (k : Fin 4) (s : State) : exec (.ppsPulse k) s = running s fun s =>
    s.when (s.on (F.OS_PPS_CFG_EN k) && !(s.pps k).passed (s.pulseEdge k)) (·.emitPulse k (s.pulseEdge k)) := rfl

theorem does_ppsPulse_idle (hp : s.power = .run) (h : s.on (F.OS_PPS_CFG_EN k) = false ∨ (s.pps k).passed (s.pulseEdge k) = true) :
    Does (.ppsPulse k) s fun t => Frame s t [] := by
  refine does_idle (exec_ppsPulse k s) ?_ hp
  have hno : (s.on (F.OS_PPS_CFG_EN k) && !(s.pps k).passed (s.pulseEdge k)) = false := by
    obtain h | h := h <;> simp [h]
  rw [hno, State.when_false]

theorem does_ppsPulse (hp : s.power = .run) (hen : s.on (F.OS_PPS_CFG_EN k) = true) (hnew : (s.pps k).passed (s.pulseEdge k) = false) :
    Does (.ppsPulse k) s fun t => t.get (F.OS_PPS_STAT_RUN k) = 1 ∧
      Sends s t (.pulse k (s.pulseEdge k) (s.pulseWidth k) (s.on (F.OS_PPS_CFG_POL k))) ∧ (t.pps k).last = some (s.pulseEdge k) ∧
      (t.pps k).until_ = s.pulseEdge k + s.pulseWidth k ∧
      ((∀ r ∈ (s.pps k).done, r.1 ≤ r.2) → (t.pps k).passed (s.pulseEdge k) = true) ∧ Frame { s with os := t.os } t [F.OS_PPS_STAT_RUN k] := by
  refine does_running (exec_ppsPulse k s) hp ?_
  rw [hen, hnew, Bool.not_false, Bool.and_self, State.when_true]
  have hpps : (s.emitPulse k (s.pulseEdge k)).pps k = (s.pps k).pulsed (s.gridEdge k (s.nearGrid k - 1)) (s.pulseEdge k) (s.pulseWidth k) := pps_setPps_same _ _ _
  simp only [State.settle_get, State.settle_os, pps_settle, hpps]
  refine ⟨State.get_put_same s (F.OS_PPS_STAT_RUN k) 1, sends_emit _ rfl (outs_settle (s.emitPulse k (s.pulseEdge k))), rfl, rfl, fun hruns => ?_, Frame.settled ?_⟩
  · have hprev := gridEdge_mono s k (Int.sub_le_self (s.nearGrid k) Int.one_nonneg)
    have hany := (s.pps k).any_emitted (p := s.gridEdge k (s.nearGrid k - 1)) (e := s.pulseEdge k) hruns (hprev.trans (Int.self_le_toNat _))
    exact Bool.or_eq_true_iff.mpr (.inr hany)
  · have hput : Frame s (s.put (F.OS_PPS_STAT_RUN k) 1) [F.OS_PPS_STAT_RUN k] := Frame.put s _ 1 (.inl (by simp))
    exact (OsFrame.ofFrame (hput.trans (Frame.emit _ _ _))).trans (OsFrame.setPps _ _ _)

/-! ## PPS_ALIGN_MISS (R184) -/

theorem exec_ppsAlignMiss (k : Fin 4) (s : State) : exec (.ppsAlignMiss k) s = running s fun s =>
    s.when (s.on (F.OS_PPS_CFG_EN k) && s.get (F.OS_PPS_CFG_ALIGN_MODE k) == 2) (·.event F.OS_EVT_ALIGN_MISS 0x0507 0 k) := rfl

theorem does_ppsAlignMiss (hp : s.power = .run) (hen : s.on (F.OS_PPS_CFG_EN k) = true) (hm : s.get (F.OS_PPS_CFG_ALIGN_MODE k) = 2) :
    Does (.ppsAlignMiss k) s fun t => Frame s t [F.OS_EVT_ALIGN_MISS] ∧ t.get F.OS_EVT_ALIGN_MISS = 1 ∧ Logs s t 0x0507 0x07 0 k := by
  refine does_running (exec_ppsAlignMiss k s) hp ?_
  rw [hen, hm, beq_self_eq_true, Bool.and_self, State.when_true, State.settle_get]
  exact ⟨Frame.settled (Frame.event s _ _ _ _ (by simp)), State.event_flag _ _ _ _ _ (by decide) (by decide),
    (logs_event rfl rfl F.OS_EVT_ALIGN_MISS _ _ _).ofJl (State.settle_jl _)⟩

theorem does_ppsAlignMiss_idle (hp : s.power = .run) (h : s.on (F.OS_PPS_CFG_EN k) = false ∨ s.get (F.OS_PPS_CFG_ALIGN_MODE k) ≠ 2) :
    Does (.ppsAlignMiss k) s fun t => Frame s t [] := by
  refine does_idle (exec_ppsAlignMiss k s) ?_ hp
  have hno : (s.on (F.OS_PPS_CFG_EN k) && s.get (F.OS_PPS_CFG_ALIGN_MODE k) == 2) = false := by
    obtain h | h := h <;> simp [h]
  rw [hno, State.when_false]

/-! ## PPS_CFG_WRITE (R183, R184) -/

/-- What a new configuration of PPS_OUTk reads, and what of its status follows one. -/
def ppsCfg (k : Nat) : List Fld :=
  [F.OS_PPS_CFG_EN k, F.OS_PPS_CFG_ALIGN_MODE k, F.OS_PPS_CFG_ALIGN_CH k, F.OS_PPS_CFG_RATE k]

def ppsStat (k : Nat) : List Fld := [F.OS_PPS_STAT_ALIGNED k, F.OS_PPS_STAT_PG k, F.OS_PPS_STAT_RUN k]

theorem ppsCfg_mem : ∀ k : Fin 4, ∀ f ∈ ppsCfg k, f ∈ fieldsAt (F.OS_PPS_CFG_EN k).off := by decide +kernel

theorem reg_ppsStat (k : Nat) : ∀ f ∈ ppsStat k, f.key / 64 = 0x070610 + k * 0x20 := by
  simp only [ppsStat, List.forall_mem_cons, List.not_mem_nil, false_implies, implies_true, and_true, Fld.key, F.OS_PPS_STAT_ALIGNED,
    F.OS_PPS_STAT_PG, F.OS_PPS_STAT_RUN]
  omega

theorem nodup_ppsStat (k : Nat) : ((ppsStat k).map Fld.key).Nodup := by
  simp [ppsStat, Fld.key, F.OS_PPS_STAT_ALIGNED, F.OS_PPS_STAT_PG, F.OS_PPS_STAT_RUN]

/-- What the grid phase of PPS_OUTk hangs on (R184). -/
def State.ppsAlign (s : State) (k : Nat) : Nat × Nat × Nat := (s.get (F.OS_PPS_CFG_ALIGN_MODE k), s.get (F.OS_PPS_CFG_ALIGN_CH k), s.ppsRate k)

/-- PPS_OUTk with the fields of its configuration loaded. -/
def State.loadPps (s : State) (k : Nat) (v : Word) : State := s.putWord (fieldsAt (F.OS_PPS_CFG_EN k).off) v.toNat

/-- The grid phase, the anchor and the first grid point are taken anew. -/
def State.dropPhase (s : State) (k : Nat) : State := (s.put (F.OS_PPS_STAT_ALIGNED k) 0).setPps k fun c => { c with phase := none }
def State.dropAnchor (s : State) (k : Nat) : State :=
  (s.put (F.OS_PPS_STAT_PG k) 0).setPps k fun c => { c with anchor := none, good := 0, lost := false }
def State.startGrid (s : State) (k from_ : Nat) : State := s.setPps k fun c => { c with from_ := from_ }

/-- A disabled output: it runs on where its last pulse is not complete. -/
def State.haltPps (s : State) (k : Nat) (done : Bool) : State := (s.when done (·.put (F.OS_PPS_STAT_RUN k) 0)).put (F.OS_PPS_STAT_PG k) 0

/-- What a configuration loaded in t does to PPS_OUTk, with EN now en, where s stood before: the present is now, and done says that the last pulse
is complete. -/
def State.turnPps (s t : State) (k : Nat) (en : Bool) (now : Nat) (done : Bool) : State :=
  let was := s.on (F.OS_PPS_CFG_EN k)
  let a := t.when ((en && !was) || decide (t.ppsAlign k ≠ s.ppsAlign k)) (·.dropPhase k)
  let b := a.when (en && (!was || a.ppsRate k != s.ppsRate k)) (·.dropAnchor k)
  let c := b.when (en && !was) (·.startGrid k now)
  c.when (!en) (·.haltPps k done)

theorem writePpsCfg_eq (s : State) (k : Nat) (v : Word) : s.writePpsCfg k v = s.turnPps (s.loadPps k v) k ((s.loadPps k v).on (F.OS_PPS_CFG_EN k))
    (psOf s.now).toNat (decide (((s.pps k).until_ : Int) ≤ psOf s.now)) := rfl

theorem dropPhase_frame (s : State) (k : Nat) : OsFrame s (s.dropPhase k) (ppsStat k) :=
  (OsFrame.ofFrame (Frame.put s (F.OS_PPS_STAT_ALIGNED k) 0 (.inl (by simp [ppsStat])))).trans (OsFrame.setPps _ _ _)
theorem dropAnchor_frame (s : State) (k : Nat) : OsFrame s (s.dropAnchor k) (ppsStat k) :=
  (OsFrame.ofFrame (Frame.put s (F.OS_PPS_STAT_PG k) 0 (.inl (by simp [ppsStat])))).trans (OsFrame.setPps _ _ _)
theorem haltPps_frame (s : State) (k : Nat) (done : Bool) : OsFrame s (s.haltPps k done) (ppsStat k) :=
  OsFrame.ofFrame ((Frame.when s _ _ fun _ => Frame.put s _ 0 (.inl (by simp [ppsStat]))).trans (Frame.put _ _ 0 (.inl (by simp [ppsStat]))))

theorem turnPps_frame (s t : State) (k : Nat) (en : Bool) (now : Nat) (done : Bool) : OsFrame t (s.turnPps t k en now done) (ppsStat k) :=
  let hphase (t : State) (b : Bool) : OsFrame t (t.when b (·.dropPhase k)) (ppsStat k) := OsFrame.when t b _ fun _ => dropPhase_frame t k
  let hanchor (t : State) (b : Bool) : OsFrame t (t.when b (·.dropAnchor k)) (ppsStat k) := OsFrame.when t b _ fun _ => dropAnchor_frame t k
  let hgrid (t : State) (b : Bool) : OsFrame t (t.when b (·.startGrid k now)) (ppsStat k) := OsFrame.when t b _ fun _ => OsFrame.setPps t k _
  let hhalt (t : State) (b : Bool) : OsFrame t (t.when b (·.haltPps k done)) (ppsStat k) := OsFrame.when t b _ fun _ => haltPps_frame t k done
  (((hphase t _).trans (hanchor _ _)).trans (hgrid _ _)).trans (hhalt _ _)

section
variable {k now : Nat} {done : Bool}

theorem turnPps_off (s t : State) (k now : Nat) (done : Bool) : s.turnPps t k false now done =
    (t.when (decide (t.ppsAlign k ≠ s.ppsAlign k)) (·.dropPhase k)).haltPps k done := by
  unfold State.turnPps
  simp only [Bool.false_and, Bool.false_or, Bool.not_false, State.when_true, State.when_false]

theorem turnPps_enabled (h : s.on (F.OS_PPS_CFG_EN k) = false) :
    s.turnPps t k true now done = ((t.dropPhase k).dropAnchor k).startGrid k now := by
  unfold State.turnPps
  simp only [h, Bool.not_false, Bool.and_self, Bool.true_or, Bool.not_true, State.when_true, State.when_false]

theorem turnPps_moved (h : s.on (F.OS_PPS_CFG_EN k) = true) (hm : t.ppsAlign k ≠ s.ppsAlign k) :
    s.turnPps t k true now done = (t.dropPhase k).when ((t.dropPhase k).ppsRate k != s.ppsRate k) (·.dropAnchor k) := by
  unfold State.turnPps
  simp only [h, decide_eq_true hm, Bool.not_true, Bool.and_false, Bool.or_true, Bool.true_and, Bool.false_or, State.when_true, State.when_false]

theorem turnPps_kept (h : s.on (F.OS_PPS_CFG_EN k) = true) (hm : t.ppsAlign k = s.ppsAlign k) : s.turnPps t k true now done = t := by
  have hrate : (t.ppsRate k != s.ppsRate k) = false := bne_eq_false_iff_eq.mpr (congrArg (fun a => a.2.2) hm)
  unfold State.turnPps
  simp only [h, decide_eq_false (not_not_intro hm), hrate, Bool.not_true, Bool.and_false, Bool.or_self, State.when_false]

/-- PPS_OUTk has no grid phase (R184). -/
def State.unphased (s : State) (k : Nat) : Prop := s.get (F.OS_PPS_STAT_ALIGNED k) = 0 ∧ (s.pps k).phase = none

theorem unphased_dropPhase (s : State) (k : Nat) : (s.dropPhase k).unphased k :=
  ⟨State.get_put_same s (F.OS_PPS_STAT_ALIGNED k) 0, congrArg OsPps.phase (pps_setPps_same _ _ _)⟩

theorem State.unphased.put (h : s.unphased k) {f : Fld} (hf : f ∈ (ppsStat k).tail) (n : Nat) : (s.put f n).unphased k := by
  refine ⟨(State.get_put_other s f _ n fun e => ?_).trans h.1, h.2⟩
  have hnodup := nodup_ppsStat k
  rw [ppsStat, List.map_cons, List.nodup_cons] at hnodup
  exact hnodup.1 (e ▸ List.mem_map_of_mem hf)

theorem State.unphased.setPps (h : s.unphased k) {f : OsPps → OsPps} (hf : ∀ c, (f c).phase = c.phase) : (s.setPps k f).unphased k :=
  ⟨h.1, by rw [pps_setPps_same, hf, h.2]⟩

theorem State.unphased.when (h : s.unphased k) (b : Bool) {f : State → State} (hf : (f s).unphased k) : (s.when b f).unphased k := by
  cases b
  · exact h
  · exact hf

theorem State.unphased.dropAnchor (h : s.unphased k) : (s.dropAnchor k).unphased k :=
  (h.put (by simp [ppsStat]) 0).setPps fun _ => rfl

theorem State.unphased.haltPps (h : s.unphased k) (done : Bool) : (s.haltPps k done).unphased k :=
  (h.when done (h.put (by simp [ppsStat]) 0)).put (by simp [ppsStat]) 0

/-- Another alignment or rate takes the grid phase anew, whatever EN does. -/
theorem turnPps_unphased (en : Bool) (hm : t.ppsAlign k ≠ s.ppsAlign k) : (s.turnPps t k en now done).unphased k := by
  have hdrop := unphased_dropPhase t k
  cases en
  · rw [turnPps_off, decide_eq_true hm, State.when_true]
    exact hdrop.haltPps _
  · cases h : s.on (F.OS_PPS_CFG_EN k)
    · rw [turnPps_enabled h]
      exact hdrop.dropAnchor.setPps fun _ => rfl
    · rw [turnPps_moved h hm]
      exact hdrop.when _ hdrop.dropAnchor

/-- EN from 0 to 1 takes a new grid phase and anchor from the present on (R183). -/
theorem turnPps_enabled_shows (h : s.on (F.OS_PPS_CFG_EN k) = false) : (s.turnPps t k true now done).unphased k ∧
    (s.turnPps t k true now done).get (F.OS_PPS_STAT_PG k) = 0 ∧ ((s.turnPps t k true now done).pps k).anchor = none ∧
      ((s.turnPps t k true now done).pps k).from_ = now := by
  rw [turnPps_enabled h]
  refine ⟨(unphased_dropPhase t k).dropAnchor.setPps fun _ => rfl, State.get_put_same (t.dropPhase k) (F.OS_PPS_STAT_PG k) 0, ?_, ?_⟩
  · rw [State.startGrid, pps_setPps_same, State.dropAnchor, pps_setPps_same]
  · rw [State.startGrid, pps_setPps_same]

/-- EN = 0 clears PG, and RUN once the last pulse is complete. -/
theorem turnPps_off_shows (s t : State) (k now : Nat) (done : Bool) : (s.turnPps t k false now done).get (F.OS_PPS_STAT_PG k) = 0 ∧
    (s.turnPps t k false now done).get (F.OS_PPS_STAT_RUN k) = if done then 0 else t.get (F.OS_PPS_STAT_RUN k) := by
  have hne : (F.OS_PPS_STAT_RUN k).key ≠ (F.OS_PPS_STAT_ALIGNED k).key ∧ (F.OS_PPS_STAT_RUN k).key ≠ (F.OS_PPS_STAT_PG k).key := by
    simp [Fld.key, F.OS_PPS_STAT_ALIGNED, F.OS_PPS_STAT_PG, F.OS_PPS_STAT_RUN]
  have hdrop (b : Bool) : (t.when b (·.dropPhase k)).get (F.OS_PPS_STAT_RUN k) = t.get (F.OS_PPS_STAT_RUN k) :=
    when_inv (fun t => t.get (F.OS_PPS_STAT_RUN k)) b (·.dropPhase k) (State.get_put_other t _ _ 0 hne.1)
  rw [turnPps_off, State.haltPps]
  refine ⟨State.get_put_same _ _ _, (State.get_put_other _ _ _ _ hne.2).trans ?_⟩
  cases done
  · exact hdrop _
  · exact State.get_put_same _ _ _

end

theorem does_ppsCfgWrite (hp : s.power = .run) (hj : s.judge path (F.OS_PPS_CFG_EN k).off true = .served) :
    Does (.ppsCfgWrite path k v) s fun t =>
      let en := (F.OS_PPS_CFG_EN k).ofWord v
      (∀ f ∈ fieldsAt (F.OS_PPS_CFG_EN k).off, t.get f = f.ofWord v) ∧
      (s.on (F.OS_PPS_CFG_EN k) = false → en = 1 → t.get (F.OS_PPS_STAT_ALIGNED k) = 0 ∧ t.get (F.OS_PPS_STAT_PG k) = 0 ∧
        (t.pps k).phase = none ∧ (t.pps k).anchor = none ∧ (t.pps k).from_ = (psOf s.now).toNat) ∧
      (t.ppsAlign k ≠ s.ppsAlign k → t.get (F.OS_PPS_STAT_ALIGNED k) = 0 ∧ (t.pps k).phase = none) ∧
      (en = 0 → t.get (F.OS_PPS_STAT_PG k) = 0 ∧
        t.get (F.OS_PPS_STAT_RUN k) = if ((s.pps k).until_ : Int) ≤ psOf s.now then 0 else s.get (F.OS_PPS_STAT_RUN k)) ∧
      (en = 1 → s.on (F.OS_PPS_CFG_EN k) = true → t.ppsAlign k = s.ppsAlign k → Frame s t (fieldsAt (F.OS_PPS_CFG_EN k).off)) ∧
      Frame { s with os := t.os } t ([F.OS_PPS_STAT_ALIGNED k, F.OS_PPS_STAT_PG k, F.OS_PPS_STAT_RUN k] ++ fieldsAt (F.OS_PPS_CFG_EN k).off) := by
  refine does_write (f := (·.writePpsCfg k v)) rfl hp hj ?_
  have hload : Frame s (s.loadPps k v) (fieldsAt (F.OS_PPS_CFG_EN k).off) := Frame.putWord s v.toNat fun _ h => List.mem_map_of_mem h
  have hfields : ∀ f ∈ fieldsAt (F.OS_PPS_CFG_EN k).off, (s.loadPps k v).get f = f.ofWord v := fun f hf => putWord_get _ v hf
  have hen := on_ofWord (hfields _ (ppsCfg_mem k (F.OS_PPS_CFG_EN k) (by simp [ppsCfg]))) rfl
  rw [writePpsCfg_eq]
  generalize s.loadPps k v = u at *
  generalize hdone : decide (((s.pps k).until_ : Int) ≤ psOf s.now) = done
  generalize (psOf s.now).toNat = now
  have hturn := turnPps_frame s u k (u.on (F.OS_PPS_CFG_EN k)) now done
  have hcfg : ∀ f ∈ fieldsAt (F.OS_PPS_CFG_EN k).off, (s.turnPps u k (u.on (F.OS_PPS_CFG_EN k)) now done).get f = u.get f := fun f hf => by
    have hreg : f.key / 64 = 0x070600 + k * 0x20 := reg_of_mem_fieldsAt hf
    refine hturn.getReg (by omega) fun g hg => ?_
    have := reg_ppsStat k g hg
    omega
  have halign : (s.turnPps u k (u.on (F.OS_PPS_CFG_EN k)) now done).settle.ppsAlign k = u.ppsAlign k := by
    have hread := fun f hf => hcfg f (ppsCfg_mem k f hf)
    simp only [State.ppsAlign, State.ppsRate, State.settle_get]
    rw [hread _ (by simp [ppsCfg]), hread _ (by simp [ppsCfg]), hread _ (by simp [ppsCfg])]
  have hrun : u.get (F.OS_PPS_STAT_RUN k) = s.get (F.OS_PPS_STAT_RUN k) := by
    have hreg := reg_ppsStat k (F.OS_PPS_STAT_RUN k) (by simp [ppsStat])
    refine (OsFrame.ofFrame hload).getReg (by omega) fun g hg => ?_
    have hg : g.key / 64 = 0x070600 + k * 0x20 := reg_of_mem_fieldsAt hg
    omega
  rw [halign]
  simp only [State.settle_get, State.settle_os, pps_settle]
  refine ⟨fun f hf => (hcfg f hf).trans (hfields f hf), fun hwas h => ?_, fun hm => turnPps_unphased _ hm, fun h => ?_, fun h hwas hm => ?_,
    Frame.settled (((OsFrame.ofFrame hload).mono ?_).trans (hturn.mono ?_))⟩
  · rw [hen, decide_eq_true h]
    obtain ⟨⟨haligned, hphase⟩, hpg, hanchor, hfrom⟩ := turnPps_enabled_shows (t := u) hwas
    exact ⟨haligned, hpg, hphase, hanchor, hfrom⟩
  · have hoff : u.on (F.OS_PPS_CFG_EN k) = false := by rw [hen, h]; rfl
    subst hdone
    rw [hoff, ← hrun]
    simpa only [decide_eq_true_eq] using turnPps_off_shows s u k now (decide (((s.pps k).until_ : Int) ≤ psOf s.now))
  · rw [hen, decide_eq_true h, turnPps_kept hwas hm]
    exact hload.settled
  · exact List.map_subset Fld.key (List.subset_append_right _ _)
  · exact List.map_subset Fld.key (List.subset_append_left _ _)

end Sys2Proof.Machine
end

section
/-! PROOF. Time of day sent and received, and O43 from its clauses (R183 to R187). -/
namespace Sys2Proof.Machine

section
variable {s t u : State} {fs : List Fld} {sec : Nat} {l : List Byte}

/-! ## The Kloentra message (R186) -/

theorem crc16Bit_lt {r : Nat} (h : r < 2 ^ 16) : crc16Bit r < 2 ^ 16 := by
  unfold crc16Bit
  split
  · exact Nat.mod_lt _ (by decide)
  · omega

theorem crc16Byte_lt {r : Nat} (h : r < 2 ^ 16) (b : Byte) : crc16Byte r b < 2 ^ 16 := by
  have hb : b.toNat < 256 := b.isLt
  have hstart : r ^^^ (b.toNat * 256) < 2 ^ 16 := Nat.xor_lt_two_pow h (by omega)
  unfold crc16Byte
  exact crc16Bit_lt (crc16Bit_lt (crc16Bit_lt (crc16Bit_lt (crc16Bit_lt (crc16Bit_lt (crc16Bit_lt (crc16Bit_lt hstart)))))))

theorem crc16_lt (l : List Byte) : crc16 l < 2 ^ 16 :=
  List.foldlRecOn (motive := (· < 2 ^ 16)) l crc16Byte (by decide) fun _ h b _ => crc16Byte_lt h b

/-- A Kloentra message: its mark, its type and length, its second, the ten bytes of its INFO, and its CRC. -/
def kloentraOf (sec : Nat) (info : List Byte) : List Byte :=
  let body : List Byte := [0x01, 0x10] ++ (bytesLE 6 sec ++ info)
  [0x4A, 0x54] ++ body ++ bytesLE 2 (crc16 body)

theorem append_parts (a b c d e f g h : List Byte) : a ++ b ++ c ++ d ++ e ++ f ++ g ++ h = a ++ (b ++ (c ++ d ++ e ++ f ++ g ++ h)) := by
  simp only [List.append_assoc]

theorem kloentra_eq (s : State) (sec : Nat) : ∃ info : List Byte, info.length = 10 ∧ s.kloentra sec = kloentraOf sec info := by
  unfold State.kloentra
  dsimp only
  rw [append_parts]
  exact ⟨_, by simp [length_bytesLE], rfl⟩

theorem kloentraOf_spells {info : List Byte} (h : info.length = 10) : (kloentraOf sec info).length = 22 ∧
    (kloentraOf sec info).take 4 = [0x4A, 0x54, 0x01, 0x10] ∧ ofBytesLE (((kloentraOf sec info).drop 4).take 6) = sec % 2 ^ 48 ∧
    ofBytesLE ((kloentraOf sec info).drop 0x14) = crc16 (((kloentraOf sec info).drop 2).take 18) := by
  have hsec : (bytesLE 6 sec).length = 6 := length_bytesLE 6 sec
  have hbody : ([0x01, 0x10] ++ (bytesLE 6 sec ++ info) : List Byte).length = 18 := by simp [hsec, h]
  have hmark (l m : List Byte) (n : Nat) : ([0x4A, 0x54] ++ l ++ m : List Byte).drop (n + 2) = (l ++ m).drop n := rfl
  unfold kloentraOf
  refine ⟨by simp [length_bytesLE, h], rfl, ?_, ?_⟩
  · have hhead (l m : List Byte) : ([0x01, 0x10] ++ (bytesLE 6 sec ++ l) ++ m : List Byte).drop 2 = bytesLE 6 sec ++ (l ++ m) :=
      List.append_assoc _ l m
    rw [hmark _ _ 2, hhead, List.take_left' hsec, ofBytesLE_bytesLE]
    norm_num
  · generalize ([0x01, 0x10] ++ (bytesLE 6 sec ++ info) : List Byte) = body at *
    rw [hmark _ _ 18, hmark _ _ 0, List.drop_left' hbody, List.drop_zero, List.take_left' hbody, ofBytesLE_bytesLE]
    exact Nat.mod_eq_of_lt (crc16_lt body)

/-! ## What is said of the time of day -/

def OutMsg.isTod : OutMsg → Bool
  | .tod _ => true
  | _ => false

/-- The time-of-day messages among those sent. -/
def State.todsSent (s : State) : List OutMsg := s.outs.filter OutMsg.isTod

theorem todsSent_signalLimited (s : State) (fn vec : Nat) : (s.signalLimited fn vec).todsSent = s.todsSent := by
  unfold State.signalLimited
  split <;> rfl

theorem todsSent_setFlag (s : State) (f : Fld) : (s.setFlag f).todsSent = s.todsSent := by
  unfold State.setFlag
  dsimp only
  split
  · split
    · exact todsSent_signalLimited (s.put f 1) _ _
    · rfl
  · rfl

theorem todsSent_counterPlain (s : State) (n k : Nat) : (s.counterPlain n k).todsSent = s.todsSent := by
  have hwrap (t : State) : (t.counterWrapped n).todsSent = t.todsSent := by
    unfold State.counterWrapped
    exact when_inv State.todsSent _ _ (todsSent_signalLimited (t.put _ _) _ _)
  unfold State.counterPlain
  exact when_inv State.todsSent _ _ (hwrap (s.put _ _))

theorem todsSent_counterAdd (s : State) (n k : Nat) : (s.counterAdd n k).todsSent = s.todsSent := by
  unfold State.counterAdd
  exact (when_inv State.todsSent _ (·.counterPlain (n + 1) _) (todsSent_counterPlain _ _ _)).trans (todsSent_counterPlain s n k)

theorem todsSent_countEvent (s : State) (code : Nat) : (s.countEvent code).todsSent = s.todsSent :=
  forAll_inv State.todsSent _ _ (fun t n => when_inv State.todsSent _ (·.counterAdd n 1) (todsSent_counterAdd t n 1)) s

theorem todsSent_raise (s : State) (code src inst arg : Nat) : (s.raise code src inst arg).todsSent = s.todsSent := by
  have hcount := todsSent_countEvent s code
  unfold State.raise
  split
  · rfl
  · generalize s.countEvent code = t at *
    dsimp only
    split <;> exact hcount

/-- An event says nothing of the time of day. -/
theorem todsSent_event (s : State) (f : Fld) (code inst arg : Nat) : (s.event f code inst arg).todsSent = s.todsSent :=
  (todsSent_raise _ _ _ _ _).trans (todsSent_setFlag s f)

theorem todsSent_settle (s : State) : s.settle.todsSent = s.todsSent := by
  have hpins (p : Pins) (b : Bool) : (({ s with pins := p } : State).when b (·.signal 0 2)).todsSent = s.todsSent := by
    cases b <;> rfl
  unfold State.settle
  split
  · rfl
  · rfl
  · rfl
  · exact hpins _ _

theorem tod_of_todsSent (h : t.todsSent = s.todsSent) (l : List Byte) (ht : OutMsg.tod l ∈ t.outs) : OutMsg.tod l ∈ s.outs := by
  have hmem : OutMsg.tod l ∈ s.todsSent := h ▸ List.mem_filter.mpr ⟨ht, rfl⟩
  exact (List.mem_filter.mp hmem).1

/-! ## TOD_OUT_SEND (R186) -/

/-- The second that a message sent now names. -/
def State.todSec (s : State) : Nat := (s.now + tuSec / 2 - s.get F.OS_TOD_CFG_LAG * tuMs) / tuSec

/-- A ZDA sentence is sent, or withheld with its event once. -/
def State.sendZda (s : State) : Option (List Byte) → State
  | some l => { s.emit (.tod l) with os.noUtc := false }
  | none => { s.when (!s.os.noUtc) (·.event F.OS_EVT_TOD_NOUTC 0x0508 0 0) with os.noUtc := true }

/-- TOD_OUT sends its message. -/
def State.sendTod (s : State) : State :=
  if !s.on F.OS_TOD_CFG_EN then s
  else if !s.on F.OS_TOD_CFG_FMT then s.emit (.tod (s.kloentra s.todSec))
  else s.sendZda (s.zda s.todSec)

theorem exec_todOutSend (s : State) : exec .todOutSend s = running s State.sendTod := rfl

theorem does_todOutSend_idle (hp : s.power = .run) (h : s.on F.OS_TOD_CFG_EN = false) : Does .todOutSend s fun t => Frame s t [] :=
  does_idle (exec_todOutSend s) (if_pos (by rw [h]; rfl)) hp

theorem sendTod_zda (hen : s.on F.OS_TOD_CFG_EN = true) (hf : s.on F.OS_TOD_CFG_FMT = true) : s.sendTod = s.sendZda (s.zda s.todSec) := by
  simp [State.sendTod, hen, hf]

section
variable (hp : s.power = .run) (hen : s.on F.OS_TOD_CFG_EN = true)
include hp hen

theorem does_todOutSend_kloentra (hf : s.on F.OS_TOD_CFG_FMT = false) : Does .todOutSend s fun t => Frame s t [] ∧
    Sends s t (.tod (s.kloentra s.todSec)) ∧ (s.kloentra s.todSec).length = 22 ∧ (s.kloentra s.todSec).take 4 = [0x4A, 0x54, 0x01, 0x10] ∧
    ofBytesLE (((s.kloentra s.todSec).drop 4).take 6) = s.todSec % 2 ^ 48 ∧
    ofBytesLE ((s.kloentra s.todSec).drop 0x14) = crc16 (((s.kloentra s.todSec).drop 2).take 18) := by
  refine does_running (exec_todOutSend s) hp ?_
  have hsend : s.sendTod = s.emit (.tod (s.kloentra s.todSec)) := by simp [State.sendTod, hen, hf]
  obtain ⟨info, hinfo, heq⟩ := kloentra_eq s s.todSec
  rw [hsend]
  refine ⟨(Frame.emit s _ []).settled, sends_emit _ rfl (outs_settle _), ?_⟩
  rw [heq]
  exact kloentraOf_spells hinfo

theorem does_todOutSend_zda (hf : s.on F.OS_TOD_CFG_FMT = true) (hl : s.zda s.todSec = some l) : Does .todOutSend s fun t =>
    Sends s t (.tod l) ∧ Frame { s with os.noUtc := false } t [] ∧ LogsNone s t := by
  refine does_running (exec_todOutSend s) hp ?_
  rw [sendTod_zda hen hf, hl]
  exact ⟨outs_settle (s.sendZda (some l)), (Frame.emit { s with os.noUtc := false } (.tod l) []).settled,
    congrArg JlPart.queue (State.settle_jl (s.sendZda (some l)))⟩

theorem does_todOutSend_withheld (hf : s.on F.OS_TOD_CFG_FMT = true) (hl : s.zda s.todSec = none) : Does .todOutSend s fun t =>
    (∀ l : List Byte, OutMsg.tod l ∈ t.outs → OutMsg.tod l ∈ s.outs) ∧ Frame { s with os.noUtc := true } t [F.OS_EVT_TOD_NOUTC] ∧
      (s.os.noUtc = false → t.get F.OS_EVT_TOD_NOUTC = 1 ∧ Logs s t 0x0508 0x07 0 0) ∧ (s.os.noUtc = true → Frame s t []) := by
  refine does_running (exec_todOutSend s) hp ?_
  rw [sendTod_zda hen hf, hl, State.sendZda]
  cases h : s.os.noUtc
  · have hos := State.event_os (s := s) F.OS_EVT_TOD_NOUTC 0x0508 0 0
    rw [Bool.not_false, State.when_true, hos, State.settle_get]
    refine ⟨tod_of_todsSent ((todsSent_settle _).trans (todsSent_event s _ _ _ _)), ?_, fun _ => ⟨?_, ?_⟩, nofun⟩
    · exact ((Frame.event s F.OS_EVT_TOD_NOUTC _ _ _ (by simp)).withOs _).settled
    · exact State.event_flag _ _ _ _ _ (by decide) (by decide)
    · exact (logs_event rfl rfl F.OS_EVT_TOD_NOUTC _ _ _).ofJl (State.settle_jl _)
  · have hsame : ({ s with os.noUtc := true } : State) = s := h ▸ rfl
    rw [Bool.not_true, State.when_false, hsame]
    exact ⟨tod_of_todsSent (todsSent_settle s), Frame.settle s _, nofun, fun _ => Frame.settle s _⟩

end

/-! ## TOD_IN_MESSAGE (R187) -/

/-- OS_TODIN_INFO as its fields stand. -/
def todInfoFields : List Fld :=
  [F.OS_TODIN_INFO_DELTA, F.OS_TODIN_INFO_LEAP, F.OS_TODIN_INFO_FLAGS, F.OS_TODIN_INFO_CLASS, F.OS_TODIN_INFO_BOUND]

/-- What a message taken writes. -/
def todRegs (delta leap flags cls bound fmt sec : Nat) : List (Fld × Nat) :=
  [(F.OS_TODIN_INFO_DELTA, delta), (F.OS_TODIN_INFO_LEAP, leap), (F.OS_TODIN_INFO_FLAGS, flags), (F.OS_TODIN_INFO_CLASS, cls),
    (F.OS_TODIN_INFO_BOUND, bound), (F.OS_TODIN_SEC_SEC, sec), (F.OS_TODIN_STAT_VALID, 1), (F.OS_TODIN_STAT_FMT, fmt)]

/-- What a message taken changes. -/
def todTaken : List Fld := [F.OS_TODIN_SEC_SEC, F.OS_TODIN_STAT_VALID, F.OS_TODIN_STAT_FMT, F.OS_TODIN_STAT_GOOD] ++ todInfoFields

/-- A ZDA sentence is taken, or fails. -/
def State.takeZda (s : State) (l : List Byte) : State :=
  match zdaFields l with
  | none => s.todBad
  | some (u, ins) => match s.taiOf u ins with
    | none => s.todBad
    | some sec => (s.todInfo 0 0 0 0 0).todGood 1 sec

/-- A Kloentra message is taken, or fails. -/
def State.takeKloentra (s : State) (l : List Byte) : State :=
  let body := (l.drop 2).take 18
  let n (o k : Nat) : Nat := ofBytesLE ((l.drop o).take k)
  if l.length ≠ 22 ∨ body.take 2 ≠ [0x01, 0x10] ∨ n 0x14 2 ≠ crc16 body then s.todBad
  else (s.todInfo (n 0x0A 2) (n 0x0C 1) (n 0x0D 1) (n 0x0E 1) (n 0x10 4)).todGood 0 (n 4 6)

theorem exec_todInMessage (l : List Byte) (s : State) : exec (.todInMessage l) s = running s fun s =>
    if !s.on F.OS_TOD_CFG_IN_EN then s else if l.take 2 = [0x4A, 0x54] then s.takeKloentra l else s.takeZda l := rfl

/-- The message counts as bad, and changes nothing else. -/
def TodBad (s t : State) : Prop := Frame s t [F.OS_TODIN_STAT_BAD] ∧ t.get F.OS_TODIN_STAT_BAD = min (s.get F.OS_TODIN_STAT_BAD + 1) 65535

/-- The message is taken with these values. -/
def TodGood (fmt sec : Nat) (given : List Nat) (s t : State) : Prop :=
  Frame s t todTaken ∧ t.get F.OS_TODIN_SEC_SEC = sec % 2 ^ 48 ∧ t.get F.OS_TODIN_STAT_VALID = 1 ∧ t.get F.OS_TODIN_STAT_FMT = fmt ∧
    t.get F.OS_TODIN_STAT_GOOD = min (s.get F.OS_TODIN_STAT_GOOD + 1) 65535 ∧ todInfoFields.map t.get = given

theorem todBad_shows (s : State) : TodBad s s.todBad.settle :=
  ⟨(Frame.count s _ 1 (by simp)).settled, (State.settle_get _ _).trans (get_count_same s _ 1)⟩

theorem todGood_shows (s : State) (delta leap flags cls bound sec : Nat) {fmt : Nat} (hf : fmt < 2) :
    TodGood fmt sec [delta % 2 ^ 16, leap % 2 ^ 2, flags % 2 ^ 5, cls % 2 ^ 8, bound % 2 ^ 32] s
      ((s.todInfo delta leap flags cls bound).todGood fmt sec).settle := by
  have heq : (s.todInfo delta leap flags cls bound).todGood fmt sec =
      (s.putAll (todRegs delta leap flags cls bound fmt sec)).count F.OS_TODIN_STAT_GOOD 1 := rfl
  have hnodup : ((todRegs delta leap flags cls bound fmt sec).map Prod.fst).map Fld.key |>.Nodup := by
    have h : (([F.OS_TODIN_INFO_DELTA, F.OS_TODIN_INFO_LEAP, F.OS_TODIN_INFO_FLAGS, F.OS_TODIN_INFO_CLASS, F.OS_TODIN_INFO_BOUND, F.OS_TODIN_SEC_SEC,
      F.OS_TODIN_STAT_VALID, F.OS_TODIN_STAT_FMT].map Fld.key)).Nodup := by decide
    exact h
  have hregs := get_putAll s hnodup
  have hframe : Frame s (s.putAll (todRegs delta leap flags cls bound fmt sec)) todTaken := Frame.putAll s _ (by simp [todRegs, todTaken, todInfoFields])
  have hgood : (s.putAll (todRegs delta leap flags cls bound fmt sec)).get F.OS_TODIN_STAT_GOOD = s.get F.OS_TODIN_STAT_GOOD := by
    refine get_putAll_other s ?_
    simp only [todRegs, List.forall_mem_cons, List.not_mem_nil, false_implies, implies_true, and_true]
    decide
  rw [heq]
  generalize s.putAll _ = u at *
  have hcount {f : Fld} (h : f.key ≠ F.OS_TODIN_STAT_GOOD.key) : (u.count F.OS_TODIN_STAT_GOOD 1).settle.get f = u.get f :=
    (State.settle_get _ f).trans (State.get_put_other u _ f _ h)
  simp only [todRegs, List.forall_mem_cons, List.not_mem_nil, false_implies, implies_true, and_true] at hregs
  obtain ⟨hdelta, hleap, hflags, hcls, hbound, hsec, hvalid, hfmt⟩ := hregs
  refine ⟨(hframe.trans (Frame.count u _ 1 (by simp [todTaken]))).settled, ?_, ?_, ?_, ?_, ?_⟩
  · rw [hcount (by decide), hsec]
    rfl
  · rw [hcount (by decide), hvalid]
    rfl
  · rw [hcount (by decide), hfmt]
    exact Nat.mod_eq_of_lt hf
  · rw [State.settle_get, get_count_same, hgood]
    rfl
  · simp only [todInfoFields, List.map_cons, List.map_nil]
    rw [hcount (by decide), hcount (by decide), hcount (by decide), hcount (by decide), hcount (by decide), hdelta, hleap, hflags, hcls, hbound]
    rfl

theorem does_todInMessage_idle (hp : s.power = .run) (h : s.on F.OS_TOD_CFG_IN_EN = false) : Does (.todInMessage l) s fun t => Frame s t [] :=
  does_idle (exec_todInMessage l s) (if_pos (by rw [h]; rfl)) hp

/-- An enabled receiver judges a message by its first bytes. -/
theorem does_todInMessage {P : State → Prop} (hp : s.power = .run) (hen : s.on F.OS_TOD_CFG_IN_EN = true)
    (h : P (if l.take 2 = [0x4A, 0x54] then s.takeKloentra l else s.takeZda l).settle) : Does (.todInMessage l) s P :=
  does_running (exec_todInMessage l s) hp (by rwa [hen])

/-- A Kloentra message of the right form. -/
def kloentraRight (l : List Byte) : Prop :=
  l.length = 22 ∧ (l.drop 2).take 2 = [0x01, 0x10] ∧ ofBytesLE ((l.drop 0x14).take 2) = crc16 ((l.drop 2).take 18)

theorem kloentraRight_iff : (l.length ≠ 22 ∨ ((l.drop 2).take 18).take 2 ≠ [0x01, 0x10] ∨
    ofBytesLE ((l.drop 0x14).take 2) ≠ crc16 ((l.drop 2).take 18)) ↔ ¬kloentraRight l := by
  rw [kloentraRight, List.take_take, not_and_or, not_and_or]
  rfl

/-- k bytes spell a number below 256 to the k-th. -/
theorem ofBytesLE_take_mod (l : List Byte) (k : Nat) : ofBytesLE (l.take k) % 256 ^ k = ofBytesLE (l.take k) :=
  Nat.mod_eq_of_lt ((ofBytesLE_lt _).trans_le (Nat.pow_le_pow_right (n := 256) (by decide) (List.length_take_le k l)))

theorem takeKloentra_bad (s : State) (h : ¬kloentraRight l) : TodBad s (s.takeKloentra l).settle := by
  unfold State.takeKloentra
  rw [if_pos (kloentraRight_iff.mpr h)]
  exact todBad_shows s

theorem takeKloentra_good (s : State) (h : kloentraRight l) : TodGood 0 (ofBytesLE ((l.drop 4).take 6))
    [ofBytesLE ((l.drop 0x0A).take 2), ofBytesLE ((l.drop 0x0C).take 1) % 4, ofBytesLE ((l.drop 0x0D).take 1) % 32, ofBytesLE ((l.drop 0x0E).take 1),
      ofBytesLE ((l.drop 0x10).take 4)] s (s.takeKloentra l).settle := by
  have hgood := todGood_shows s (ofBytesLE ((l.drop 0x0A).take 2)) (ofBytesLE ((l.drop 0x0C).take 1)) (ofBytesLE ((l.drop 0x0D).take 1))
    (ofBytesLE ((l.drop 0x0E).take 1)) (ofBytesLE ((l.drop 0x10).take 4)) (ofBytesLE ((l.drop 4).take 6)) (fmt := 0) (by decide)
  have hdelta : _ % 2 ^ 16 = _ := ofBytesLE_take_mod (l.drop 0x0A) 2
  have hclass : _ % 2 ^ 8 = _ := ofBytesLE_take_mod (l.drop 0x0E) 1
  have hbound : _ % 2 ^ 32 = _ := ofBytesLE_take_mod (l.drop 0x10) 4
  rw [hdelta, hclass, hbound] at hgood
  unfold State.takeKloentra
  rw [if_neg (not_not_intro h ∘ kloentraRight_iff.mp)]
  exact hgood

theorem takeZda_bad (s : State) (h : ∀ x, zdaFields l = some x → s.taiOf x.1 x.2 = none) : TodBad s (s.takeZda l).settle := by
  unfold State.takeZda
  split
  next => exact todBad_shows s
  next u ins hx =>
    rw [h (u, ins) hx]
    exact todBad_shows s

theorem takeZda_good (s : State) {x : Int × Bool} (hx : zdaFields l = some x) (ht : s.taiOf x.1 x.2 = some sec) :
    TodGood 1 sec [0, 0, 0, 0, 0] s (s.takeZda l).settle := by
  unfold State.takeZda
  rw [hx]
  dsimp only
  rw [ht]
  exact todGood_shows s 0 0 0 0 0 sec (by decide)

end

/-- Settles O43: the pulses, the messages sent and those received, each by the lemma of its command. -/
theorem pulsesAndTimeOfDayAreSentAndTaken : Obligations.PulsesAndTimeOfDayAreSentAndTaken := by
  unfold Obligations.PulsesAndTimeOfDayAreSentAndTaken
  refine ⟨fun s k hp => ⟨does_ppsPulse_idle hp, does_ppsPulse hp, does_ppsAlignMiss hp, does_ppsAlignMiss_idle hp,
      fun path v hj => does_ppsCfgWrite hp hj⟩,
    fun s hp => ⟨does_todOutSend_idle hp, does_todOutSend_kloentra hp, fun l hen hf hl => does_todOutSend_zda hp hen hf hl,
      fun hen hf hl => does_todOutSend_withheld hp hen hf hl⟩,
    fun s l hp => ⟨does_todInMessage_idle hp, fun hen hm => ⟨fun h => ?_, fun h => ?_⟩, fun hen hm => ⟨fun h => ?_, fun x sec hx ht => ?_⟩⟩⟩
  · exact does_todInMessage hp hen (by rw [if_pos hm]; exact takeKloentra_bad s h)
  · exact does_todInMessage hp hen (by rw [if_pos hm]; exact takeKloentra_good s h)
  · exact does_todInMessage hp hen (by rw [if_neg hm]; exact takeZda_bad s h)
  · exact does_todInMessage hp hen (by rw [if_neg hm]; exact takeZda_good s hx ht)

end Sys2Proof.Machine
end
